-- ==== Sys2Proof/Word.lean ====
section
/-! DEFINITION. The word types of the block: bytes, register words, 48-bit addresses. -/

namespace Sys2Proof

/-- A byte, least significant first in every multi-byte field (R15). -/
abbrev Byte := BitVec 8

/-- A register word of a register page (R31). -/
abbrev Word := BitVec 32

/-- A 48-bit address: bits 47:44 the package, bits 43:0 the offset in its window (R25). -/
abbrev Addr := BitVec 48

/-- The 48-bit values that devices of this block exchange as plain numbers. -/
abbrev Sec : Nat := 1000000

end Sys2Proof
end

