-- ==== Sys2Proof/Syntax.lean ====
section
/-! DEFINITION. The commands of the block: one constructor of `Instr` per row of spec/opcode_table.json,
and the operand records they carry. The table gives its rows no operand bits; the operands are those the
rows' rules name (assumption log 1). -/

namespace Sys2Proof

/-- The two stages that have an overrun policy (R56). -/
inductive StageName where
  | voice | press
deriving DecidableEq, Repr

/-- The atomic memory operations of the RISC-V A extension (R328). -/
inductive AmoOp where
  | swap | add | xor | and | or | min | max | minu | maxu
deriving DecidableEq, Repr

/-- What bit errors the memory words of a read hold as they are read (10 R324): none, one that ECC corrects, or two in one
word, which it only detects. -/
inductive Upset where
  | clean | one | two
deriving DecidableEq, Repr

/-- How the read-backs of a store go (R129): both pass, or that of step 4 (header, payload and CRC) or of step 6 (COMMIT)
fails. -/
inductive StoreEnd where
  | ok | badContent | badCommit
deriving DecidableEq, Repr

/-- A router direction (R223): N lowers Y, S raises it, E raises X, W lowers it; LOCAL is the core. -/
inductive Dir where
  | loc | n | e | s | w
deriving DecidableEq, Repr

/-- A router input: the two feeds of LOCAL (core and injector, R224) and the four neighbours. -/
inductive Inp where
  | core | inj | n | e | s | w
deriving DecidableEq, Repr

/-- A link direction with a sender's credit count (R239): a router's five outputs, the two feeds of its LOCAL input, and
the gateway's import link into the W input of router (0, 0). -/
inductive LinkDir where
  | out (d : Dir) | fromCore | fromInj | fromGateway
deriving DecidableEq, Repr

/-- What may run a press task of one tile (R262): engine 2n, engine 2n+1, or (tile 0) the Blend unit. -/
inductive Unit3 where
  | even | odd | blend
deriving DecidableEq, Repr

/-- A 64-bit event packet by its fields (R221). -/
structure Packet where
  /-- KEY, bits 63:32 -/
  key : BitVec 32
  /-- PAYLOAD, bits 31:24 -/
  payload : BitVec 8
  /-- BEATTAG, bits 23:20 -/
  tag : BitVec 4
  /-- DELAY, bits 19:16 -/
  delay : BitVec 4
  /-- TYPE, bits 15:12 (R222) -/
  type : BitVec 4
  /-- SRC package, bits 11:8 -/
  srcPkg : BitVec 4
  /-- SRC core, bits 7:0 (INGEST: the port) -/
  srcCore : BitVec 8
deriving DecidableEq, Repr

/-- A CSI-2 long packet as it reaches a port (R157, R158): its arrival time, what the receiver finds of
its header, and its payload as 32-bit words. -/
structure CsiPacket where
  arrival : Nat
  vc : Nat
  dt : Nat
  eccBad : Bool
  crcBad : Bool
  /-- payload bytes -/
  len : Nat
  words : List (BitVec 32)
deriving DecidableEq, Repr

/-- The identity an LSS service names: vendor, product, revision, serial (R101). -/
structure LssId where
  vendor : BitVec 32
  product : BitVec 32
  revision : BitVec 32
  serial : BitVec 32
deriving DecidableEq, Repr

/-- The header of an OAP datagram as it is received, by field (R106), with the host it came from; TYPE, FRAG_INDEX,
FRAG_COUNT and the data are the command's. -/
structure OapHdr where
  host : Nat
  magic : BitVec 16
  version : BitVec 8
  seq : BitVec 32
  token : BitVec 64
  /-- byte 18: TARGET in bits 3:0 -/
  targetByte : BitVec 8
  /-- byte 19: TARGET_VALID in bit 0, RETRY in bit 1 -/
  flags : BitVec 8
  status : BitVec 32
  /-- LENGTH -/
  length : BitVec 16
  /-- bytes 26 and 27 -/
  reserved : BitVec 16
  crc : BitVec 32
deriving DecidableEq, Repr

/-- How a link frame reached a port (R364): the port, the fields of its header, and the hops of its path (R363). -/
structure LinkVia where
  port : Fin 2
  /-- LINK_SEQ -/
  seq : BitVec 16
  /-- ACK_SEQ -/
  ack : BitVec 16
  /-- CREDIT_CLASS -/
  credClass : Fin 5
  /-- CREDIT_COUNT -/
  credCount : Nat
  /-- SRC_ID -/
  src : Fin 16
  /-- DST_ID, none with BROADCAST -/
  dst : Option (Fin 16)
  /-- UNASSIGNED -/
  unassigned : Bool
  /-- TAG -/
  tag : Fin 16
  /-- SEGMENT -/
  seg : Nat
  hops : Nat
deriving DecidableEq, Repr

/-- The payload of a HELLO frame (R365). -/
structure HelloMsg where
  serial : Nat
  units : BitVec 32
  stepping : Nat
  role : Nat
  ownId : Nat
  precSerial : Nat
  members : Nat
  generation : Nat
deriving DecidableEq, Repr

/-- The payload of a MEMBERSHIP message (R365): 16 serials (0 free) and 16 beat offsets. -/
structure MemberMsg where
  generation : Nat
  era : Nat
  serials : List Nat
  offsets : List Int
deriving DecidableEq, Repr

/-- A BEAT frame (R365) with its arrival in ns of device time (R372). -/
structure BeatMsg where
  beat : Nat
  period : Nat
  limit : Nat
  policy : Nat
  halted : Bool
  ledgerFail : Bool
  holdover : Bool
  failBeat : Nat
  arrivalNs : Nat
deriving DecidableEq, Repr

/-- The terms of the link ledger (R378). -/
structure LinkTerms where
  accepted : BitVec 32 := 0
  replicated : BitVec 32 := 0
  imported : BitVec 32 := 0
  linkShed : BitVec 32 := 0
  dropped : BitVec 32 := 0
deriving DecidableEq, Repr

/-- What a FORWARD message carries (R117, R530): an OAP request, an OAP response, or a reset request. -/
inductive ForwardMsg where
  | request (h : OapHdr) (type : Nat) (data : List Byte)
  | response (host : Nat) (type : Nat) (token : BitVec 64) (seq : BitVec 32) (status : BitVec 32) (data : List Byte)
  | notice (token : BitVec 64) (type : Nat) (data : List Byte)
  | reset (serial : Nat)
deriving DecidableEq, Repr

/-- The entries whose writes R438 ramps. -/
inductive AudioField where
  | mute | attenuation0 | attenuation1 | powerLimit
deriving DecidableEq, Repr

/-- A safety input channel seen during a test pulse (R452). -/
structure PulseSeen where
  n : Fin 4
  b : Bool
  shown : Bool
deriving DecidableEq, Repr

/-- The wakes of R484. -/
inductive WakeSrc where
  | can | resetN | insertion (p : Fin 6)
deriving DecidableEq, Repr

/-- What a command to the debug module does (R545). -/
inductive DebugOp where
  | halt (c : Fin 8) | resume (c : Fin 8)
  | busRead (addr : Addr) (len : Nat) | busWrite (addr : Addr) (data : List Byte)
  | hartAccess (c : Fin 8)
deriving DecidableEq, Repr

/-- The commands, one per row of the table. -/
inductive Instr where
  /-- BEAT_BOUNDARY (R44): A beat boundary starts the next beat: the beat number increments, marks reach the voice cores, and boundary-timed work is done. -/
  | beatBoundary
  /-- SYNC_OUT_PULSE_END (R72): SYNC_OUT falls once SYNC_OUT_WIDTH µs have passed, limited to half the period. -/
  | syncOutPulseEnd
  /-- DEVICE_TIME_LO_READ (R47): A read of DEVICE_TIME_LO returns bits 31:0 and captures bits 63:32 of the same instant for the requester. -/
  | deviceTimeLoRead (req : Nat)
  /-- BEAT_NUMBER_LO_READ (R47): A read of BEAT_NUMBER_LO captures the high beat number bits and the start of the same beat for the requester. -/
  | beatNumberLoRead (req : Nat)
  /-- INGEST_WINDOW_CLOSE (R53): The ingest window of beat N closes at start(N+1) plus the grace; events of beat N that arrive later are late. -/
  | ingestWindowClose
  /-- VOICE_STAGE_START (R195): The voice stage of beat N starts once its ingest window has closed and the previous voice stage has ended; it evaluates rank 0. -/
  | voiceStageStart
  /-- RANK_BARRIER_OPEN (R197): Barrier r+1 opens once every core has finished rank r and no DELAY 0 spike of rank r is in flight; rank r+1 is evaluated. -/
  | rankBarrierOpen
  /-- VOICE_STAGE_END (R197): The voice stage ends once every core has finished the last rank and no spike packet of the stage is in flight. -/
  | voiceStageEnd
  /-- VOICE_STAGE_DEADLINE (R58): At start(N+2) an unfinished voice stage continues under HOLD, or has its remaining work shed under SHED. -/
  | voiceStageDeadline
  /-- PRESS_STAGE_DEADLINE (R58): At start(N+3) an unfinished press stage continues under HOLD, or has its template tasks cancelled under SHED. -/
  | pressStageDeadline
  /-- POLICY_RETURN_TO_HOLD (R57): After 16 consecutive beats that met their deadline, the effective policy of a stage returns to HOLD. -/
  | policyReturnToHold (st : StageName)
  /-- SHED_CLASS_DISCARD (R241): At D − (3 − c) × step, every packet of shed class c of an unfinished stage is discarded and counted as shed. -/
  | shedClassDiscard (cls : Fin 4)
  /-- SYNC_IN_EDGE (R60): A SYNC_IN pulse has stayed high for 2 µs and acts on the tracker, classified against the reference edge. -/
  | syncInEdge (stamp : Nat)
  /-- SYNC_IN_GLITCH (R61): A SYNC_IN pulse falls before 2 µs; it is counted as a glitch and changes no state. -/
  | syncInGlitch
  /-- SYNC_IN_TIMEOUT (R63): No edge has acted by reference + 3P/2 while LOCKED, so the tracker enters HOLDOVER. -/
  | syncInTimeout
  /-- HOLDOVER_LIMIT_EXPIRY (R68): The holdover timer reaches HOLDOVER_LIMIT; the tracker enters FREE_RUN or HALTED by policy, with EMCY 0xFF11. -/
  | holdoverLimitExpiry
  /-- INGEST_START (R83): Fabric ingest starts at an era boundary at which no earlier beat is still in its stages; staves are cleared and cores reinitialised. -/
  | ingestStart
  /-- VERDICT_QUEUE_WRITE (R285): A published verdict is committed to VERDICT_QUEUE as a 4-item packet once credit is available. -/
  | verdictQueueWrite
  /-- TRELLIS_FLIT_CRC_ERROR (R23): A Trellis flit arrives with a CRC error and is replayed by its sender. -/
  | trellisFlitCrcError (t : Fin 4) (l : Fin 4) (flit : Nat)
  /-- TRELLIS_LINK_RETRAIN (R23): After 16 consecutive replays of one flit the Trellis link is retrained once. -/
  | trellisLinkRetrain (t : Fin 4) (l : Fin 4) (ok : Bool)
  /-- TRELLIS_LINK_DISABLE (R23): A Trellis link that fails retraining is disabled and its line addresses move to the next enabled link. -/
  | trellisLinkDisable (t : Fin 4) (l : Fin 4)
  /-- CANTOR_LOAD (R345): A cantor load reads memory, a device region or a remote package under RVWMO and the address map. -/
  | cantorLoad (c : Fin 8) (addr : Addr) (size : Fin 4) (upset : Upset)
  /-- CANTOR_STORE (R345): A cantor store writes memory, a device region or a remote package under RVWMO and the address map. -/
  | cantorStore (c : Fin 8) (addr : Addr) (size : Fin 4) (val : BitVec 64)
  /-- ACCESS_ERROR_CLEAR (R31): Writing 1 to VALID of ACCESS_ERROR_STATUS clears the captured error, its address and COUNT. -/
  | accessErrorClear
  /-- LR (R328): LR reserves a line in the cantor's L1 on a local cacheable writable region, or raises a store/AMO access fault. -/
  | lr (c : Fin 8) (addr : Addr) (dbl : Bool)
  /-- SC (R328): SC stores only if no other requester has written the reservation's line since the LR. -/
  | sc (c : Fin 8) (addr : Addr) (dbl : Bool) (val : BitVec 64)
  /-- AMO (R328): An AMO is performed in the cantor's L1 on a local cacheable writable region, or raises a store/AMO access fault. -/
  | amo (c : Fin 8) (addr : Addr) (dbl : Bool) (op : AmoOp) (val : BitVec 64)
  /-- FENCE_S_CORE (R349): FENCE.S with scope CORE orders the cantor's accesses and makes earlier stores visible to the Cantor cluster. -/
  | fenceSCore (c : Fin 8) (word : BitVec 32)
  /-- FENCE_S_CHIP (R349): FENCE.S with scope CHIP also writes the cantor's dirty lines back to memory and drains its device accesses. -/
  | fenceSChip (c : Fin 8) (word : BitVec 32)
  /-- FENCE_S_SYSTEM (R349): FENCE.S with scope SYSTEM also waits for remote store acknowledgements and reports PARTIAL if a member left. -/
  | fenceSSystem (c : Fin 8) (word : BitVec 32)
  /-- FENCE (R350): A standard RISC-V FENCE orders accesses at scope CORE and never cleans lines. -/
  | fence (c : Fin 8) (pred : BitVec 4) (succ : BitVec 4)
  /-- FENCE_I (R350): FENCE.I keeps its RISC-V meaning at scope CORE. -/
  | fenceI (c : Fin 8)
  /-- FENCE_TSO (R350): FENCE.TSO keeps its RISC-V meaning at scope CORE. -/
  | fenceTso (c : Fin 8)
  /-- GETS (R330): The directory receives a read request for a line and moves it by the directory table. -/
  | getS (c : Fin 8) (line : Nat) (cycle : Nat)
  /-- GETM (R330): The directory receives a write request for a line, invalidates or forwards, and grants M. -/
  | getM (c : Fin 8) (line : Nat) (cycle : Nat)
  /-- PUTS (R330): An L1 returns a shared line; the directory removes that sharer. -/
  | putS (c : Fin 8) (line : Nat)
  /-- PUTE (R330): An L1 returns an exclusive clean line, which goes to I. -/
  | putE (c : Fin 8) (line : Nat)
  /-- PUTM (R332): A PutM request puts the line in WB_PENDING, and later requests for it are queued. -/
  | putM (c : Fin 8) (line : Nat)
  /-- PUTM_DATA (R332): Writeback data arrives; it is written into the L2 and the queued requests are served by age. -/
  | putMData (line : Nat)
  /-- NC_READ (R333): A requester that is not a cantor reads backing memory without looking at cantor caches. -/
  | ncRead (req : Nat) (addr : Addr) (len : Nat) (upset : Upset)
  /-- NC_WRITE (R334): A requester that is not a cantor writes memory; modified data is recalled first and cached copies are invalidated. -/
  | ncWrite (req : Nat) (addr : Addr) (data : List Byte)
  /-- REGISTER_WRITE (R31): A write to a register that has no row of its own updates its fields, or is ignored or refused as its page defines. -/
  | registerWrite (c : Fin 8) (page : Nat) (off : Nat) (val : BitVec 32)
  /-- SDO_INITIATE_DOWNLOAD (R96): An SDO initiate download, expedited or segmented, starts a write of an entry, aborting any transfer in progress. -/
  | sdoInitiateDownload (idx : Nat) (sub : Nat) (expedited : Bool) (data : List Byte)
  /-- SDO_DOWNLOAD_SEGMENT (R96): An SDO download segment continues a segmented write, which completes with its last segment. -/
  | sdoDownloadSegment (toggle : Bool) (last : Bool) (data : List Byte)
  /-- SDO_INITIATE_UPLOAD (R96): An SDO initiate upload reads an entry, expedited or segmented. -/
  | sdoInitiateUpload (idx : Nat) (sub : Nat)
  /-- SDO_UPLOAD_SEGMENT (R96): An SDO upload segment request returns the next segment of a segmented read. -/
  | sdoUploadSegment (toggle : Bool)
  /-- SDO_BLOCK_REQUEST (R96): An SDO block transfer request is refused with 0x0504_0001. -/
  | sdoBlockRequest
  /-- SDO_ABORT_RECEIVED (R96): An SDO abort from the client ends the transfer in progress. -/
  | sdoAbortReceived
  /-- SDO_SEGMENT_TIMEOUT (R96): A segmented transfer with no next segment within 1000 ms is aborted with 0x0504_0000. -/
  | sdoSegmentTimeout
  /-- RPDO_RECEIVE (R98): An RPDO frame is received and applied on reception or at the next SYNC, or ignored with EMCY 0x8210 if too short. -/
  | rpdoReceive (n : Fin 16) (data : List Byte)
  /-- RPDO_DEADLINE_EXPIRY (R98): No RPDO arrives within its deadline, so EMCY 0x8250 is raised. -/
  | rpdoDeadlineExpiry (n : Fin 16)
  /-- SYNC (R99): A CANopen SYNC triggers synchronous TPDOs and applies synchronous RPDOs, and never affects the beat. -/
  | sync
  /-- TPDO_EVENT_TIMER_EXPIRY (R98): The event timer of a TPDO of type 255 expires and the TPDO is sent. -/
  | tpdoEventTimerExpiry (n : Fin 16)
  /-- TPDO_INHIBIT_EXPIRY (R98): The inhibit time of a TPDO ends and a held transmission may go out. -/
  | tpdoInhibitExpiry (n : Fin 16)
  /-- NMT_START (R85): The NMT start command moves the node to OPERATIONAL. -/
  | nmtStart
  /-- NMT_STOP (R85): The NMT stop command moves the node to STOPPED. -/
  | nmtStop
  /-- NMT_ENTER_PRE_OPERATIONAL (R85): The NMT enter pre-operational command moves the node to PRE-OPERATIONAL. -/
  | nmtEnterPreOperational
  /-- NMT_RESET_NODE (R85): The NMT reset node command starts a device reset with cause 3. -/
  | nmtResetNode
  /-- NMT_RESET_COMMUNICATION (R85): The NMT reset communication command reloads the communication entries, closes OAP sessions and returns to PRE-OPERATIONAL. -/
  | nmtResetCommunication
  /-- HEARTBEAT_PRODUCE (R100): The producer heartbeat timer expires and a heartbeat is sent. -/
  | heartbeatProduce
  /-- HEARTBEAT_CONSUME (R100): A monitored node's heartbeat arrives, which ends its timeout condition if one is active. -/
  | heartbeatConsume (node : Nat)
  /-- HEARTBEAT_CONSUMER_TIMEOUT (R100): A monitored heartbeat is missed, raising EMCY 0x8130 and setting ERROR_REGISTER bit 4. -/
  | heartbeatConsumerTimeout (i : Fin 4)
  /-- LSS_SWITCH_STATE_GLOBAL (R101): The LSS switch state global service sets the LSS state of every slave. -/
  | lssSwitchStateGlobal (config : Bool)
  /-- LSS_SWITCH_STATE_SELECTIVE (R101): The LSS switch state selective service selects this slave by its identity. -/
  | lssSwitchStateSelective (id : LssId)
  /-- LSS_CONFIGURE_NODE_ID (R101): The LSS configure node-ID service sets the pending node-ID. -/
  | lssConfigureNodeId (node : Nat)
  /-- LSS_CONFIGURE_BIT_TIMING (R101): The LSS configure bit timing service selects a nominal rate from table 0. -/
  | lssConfigureBitTiming (table : Nat) (index : Nat)
  /-- LSS_ACTIVATE_BIT_TIMING (R101): The LSS activate bit timing service switches to the configured rate. -/
  | lssActivateBitTiming
  /-- LSS_STORE_CONFIGURATION (R101): The LSS store configuration service saves the node-ID and nominal rate, as a store of 0x1010.02 would. -/
  | lssStoreConfiguration
  /-- LSS_INQUIRE_IDENTITY (R101): The LSS inquire identity service returns fields of 0x1018. -/
  | lssInquireIdentity (field : Fin 4)
  /-- LSS_INQUIRE_NODE_ID (R101): The LSS inquire node-ID service returns the active node-ID. -/
  | lssInquireNodeId
  /-- LSS_IDENTIFY_REMOTE_SLAVE (R101): The LSS identify remote slave service answers when the identity falls within the ranges given. -/
  | lssIdentifyRemoteSlave (vendor product revLo revHi serLo serHi : BitVec 32)
  /-- LSS_IDENTIFY_NON_CONFIGURED (R101): The LSS identify non-configured slave service answers while the node-ID is 0xFF. -/
  | lssIdentifyNonConfigured
  /-- LSS_FASTSCAN (R101): An LSS fastscan step compares identity bits and answers on a match. -/
  | lssFastscan (idNumber : BitVec 32) (bitCheck : Nat) (lssSub : Fin 4) (lssNext : Fin 4)
  /-- CAN_RECEIVE_OVERRUN (R105): The CAN controller reports a receive overrun, raising EMCY 0x8110. -/
  | canReceiveOverrun
  /-- CAN_ERROR_PASSIVE (R105): CAN0 enters or leaves error passive, beginning or ending the condition of EMCY 0x8120. -/
  | canErrorPassive (entering : Bool)
  /-- CAN_BUS_OFF_RECOVERY (R105): CAN0 recovers from bus-off, counting BUS_OFF_COUNT and raising EMCY 0x8140. -/
  | canBusOffRecovery
  /-- EMCY_INHIBIT_EXPIRY (R104): The EMCY inhibit time ends and the next queued EMCY is sent on CAN0. -/
  | emcyInhibitExpiry
  /-- STORE (R89): Writing save to 0x1010 stores the chosen subset into the vintage area not in use, by the procedure of R129. -/
  | store (sub : Fin 4) (sig : BitVec 32)
  /-- STORE_COMPLETE (R129): A store ends with its commit word read back, or fails with 0x0606_0000 and EMCY 0xFF90. -/
  | storeComplete (r : StoreEnd)
  /-- RESTORE_DEFAULTS (R130): Writing load to 0x1011 writes a vintage that omits the chosen subsets, so defaults apply at the next reset. -/
  | restoreDefaults (sub : Fin 4) (sig : BitVec 32)
  /-- OAP_ACCESS_WRITE (R94): A write to OAP_ACCESS or OAP_WRITE_CODE closes every OAP session once its response has been sent. -/
  | oapAccessWrite (code : Bool) (val : BitVec 32)
  /-- OAP_FRAGMENT (R112): A datagram that holds a fragment of a multi-fragment request arrives and is held until all fragments are in. -/
  | oapFragment (h : OapHdr) (type : Nat) (index count : Nat) (data : List Byte)
  /-- OAP_FRAGMENT_TIMEOUT (R112): An incomplete fragmented request is discarded 500 ms after its first fragment, and nothing is answered. -/
  | oapFragmentTimeout
  /-- OPEN (R109): An OAP OPEN creates a session with a new token, or is refused. -/
  | oapOpen (h : OapHdr) (rights : Nat) (code : BitVec 32)
  /-- CLOSE (R110): An OAP CLOSE ends the session together with its subscriptions and verdict stream. -/
  | oapClose (h : OapHdr)
  /-- KEEPALIVE (R110): An OAP KEEPALIVE refreshes the session and is answered with empty data. -/
  | oapKeepalive (h : OapHdr)
  /-- READ (R113): An OAP READ returns an entry's type, length and value, or a status code. -/
  | oapRead (h : OapHdr) (idx sub : Nat)
  /-- WRITE (R113): An OAP WRITE writes an entry, subject to session rights and the entry's rules. -/
  | oapWrite (h : OapHdr) (idx sub type : Nat) (data : List Byte)
  /-- MULTI_READ (R113): An OAP MULTI_READ returns up to 64 values, all taken within one beat, each with its own status. -/
  | oapMultiRead (h : OapHdr) (refs : List (Nat × Nat))
  /-- SUBSCRIBE (R113): An OAP SUBSCRIBE creates a periodic or on-change subscription, up to 8 per session. -/
  | oapSubscribe (h : OapHdr) (period : Nat) (refs : List (Nat × Nat))
  /-- UNSUBSCRIBE (R113): An OAP UNSUBSCRIBE ends a subscription. -/
  | oapUnsubscribe (h : OapHdr) (subId : Fin 8)
  /-- VERDICT_STREAM (R113): An OAP VERDICT_STREAM enables or disables the session's verdict stream, with decimation. -/
  | oapVerdictStream (h : OapHdr) (enable : Bool) (decimate : Nat)
  /-- DISCOVER (R116): An OAP DISCOVER is received and a unicast ANNOUNCE is scheduled after a random delay of 0–100 ms. -/
  | discover (h : OapHdr)
  /-- DISCOVER_REPLY (R116): The random delay after a DISCOVER ends and a unicast ANNOUNCE is sent. -/
  | discoverReply (host : Nat)
  /-- OAP_UNKNOWN_TYPE (R108): A request of an unknown TYPE is answered with 0x0504_0001. -/
  | oapUnknownType (h : OapHdr) (type : Nat) (data : List Byte)
  /-- OAP_SESSION_TIMEOUT (R110): A session that has had no request for 10 s ends. -/
  | oapSessionTimeout (i : Fin 4)
  /-- ETH_ADDRESS_ACQUIRED (R116): A port gains an address and multicasts ANNOUNCE at once. -/
  | ethAddressAcquired (p : Fin 2) (v6 : Bool) (addr : BitVec 32)
  /-- ANNOUNCE_TIMER (R116): An announce timer expires (1 s, 2 s, then every ANNOUNCE_PERIOD) and ANNOUNCE is multicast. -/
  | announceTimer (p : Fin 2)
  /-- INSTALL_BEGIN (R138): INSTALL_CONTROL 1 begins an install into the slot that is not active. -/
  | installBegin
  /-- INSTALL_DATA (R139): A write to INSTALL_DATA places bytes in the target slot at INSTALL_OFFSET; the header is checked once it is complete. -/
  | installData (data : List Byte)
  /-- INSTALL_COMMIT (R140): INSTALL_CONTROL 2 starts reading the image back and verifying it for commit. -/
  | installCommit
  /-- INSTALL_COMMIT_COMPLETE (R140): Commit verification ends: COMMIT is written and the slot becomes valid, or the slot is left empty with a status. -/
  | installCommitComplete (ok : Bool)
  /-- INSTALL_ABORT (R138): INSTALL_CONTROL 3 ends an install in progress and cancels a pending switch. -/
  | installAbort
  /-- INSTALL_ACTIVATE (R138): INSTALL_CONTROL 4 sets PENDING_SWITCH so that the valid slot is switched to at the next era boundary. -/
  | installActivate
  /-- IMAGE_SWITCH (R141): At the era boundary after an activate, ACTIVATION is written, the active slot changes and ingest stops. -/
  | imageSwitch (ok : Bool)
  /-- IMAGE_LOAD (R141): After the press stage of the last beat ingested under the old image ends, the new image is loaded within 120 ms. -/
  | imageLoad
  /-- BOOK_RECORD_WRITE (R149): The oldest staged record is written into the next ring slot: MARK cleared, content written, MARK written. -/
  | bookRecordWrite
  /-- BOOK_RECORD_READ (R152): A read of BOOK_RECORD returns the record at BOOK_READ_SEQUENCE and advances the sequence. -/
  | bookRecordRead
  /-- BOOK_APPEND_GO (R154): GO of BOOK_APPEND_CONTROL queues a firmware record, or sets REFUSED for a code outside 0xE800–0xEFFF. -/
  | bookAppendGo (c : Fin 8)
  /-- PORT_INSERTION (R160): SPn_PRES_N has been active for 50 ms, so an insertion is recognised and an enabled port enters POWERING. -/
  | portInsertion (p : Fin 6)
  /-- PORT_REMOVAL (R164): SPn_PRES_N has been inactive for 1 ms; the port goes ABSENT, drains its buffer and raises EMCY 0xFF31. -/
  | portRemoval (p : Fin 6)
  /-- PORT_LINK_LOSS (R159): No high-speed clock has been seen for 10 ms, so the port treats the head as removed. -/
  | portLinkLoss (p : Fin 6)
  /-- PORT_ENABLE_WRITE (R164): Writing PORT_ENABLE 0 makes the port ABSENT; writing 1 with presence active starts POWERING. -/
  | portEnableWrite (p : Fin 6) (on : Bool)
  /-- PORT_RESCAN (R164): PORT_COMMAND 1 turns the e-fuse off and restarts power-up, discarding buffered words. -/
  | portRescan (p : Fin 6)
  /-- PORT_CLEAR_HOT_TABLE (R179): PORT_COMMAND 2 clears the hot-pixel table, including masked pixels. -/
  | portClearHotTable (p : Fin 6)
  /-- EFUSE_ON (R164): The e-fuse of a POWERING port turns on once it has been off for 100 ms. -/
  | efuseOn (p : Fin 6)
  /-- IDENTIFY_START (R164): 100 ms after the e-fuse turns on, the port enters IDENTIFYING and reads the identity record. -/
  | identifyStart (p : Fin 6)
  /-- IDENTITY_READ_RETRY (R166): 20 ms after a failed identity read attempt, the record is read again. -/
  | identityReadRetry (p : Fin 6)
  /-- IDENTITY_READ_COMPLETE (R164): An identity read ends; the record, stream, budget, Cellar and frame capacity checks take the port to READY or FAULT. -/
  | identityReadComplete (p : Fin 6) (ack : Bool) (rec : List Byte)
  /-- PORT_READY_TIMEOUT (R164): A port has been 1000 ms in READY and enters FAULT with cause 11. -/
  | portReadyTimeout (p : Fin 6)
  /-- PORT_STALL_TIMEOUT (R164): A port has been 1000 ms in STALLED and enters FAULT with cause 9. -/
  | portStallTimeout (p : Fin 6)
  /-- EFUSE_TRIP (R491): An e-fuse trips on overload, limit, short, temperature or low VPORT; its port enters FAULT with cause 1. -/
  | efuseTrip (p : Fin 6) (reason : Fin 6)
  /-- CSI2_PACKET (R158): A CSI-2 long packet arrives; it is checked, and its Head Event Format words are decoded, or it is discarded. -/
  | csi2Packet (p : Fin 6) (k : CsiPacket)
  /-- HEAD_TIME_SILENT (R175): No TIME_HIGH for 5 ms of device time stalls a STREAMING port with cause SILENT. -/
  | headTimeSilent (p : Fin 6)
  /-- FRAME_START (R182): A Frame Start short packet stamps a frame and takes a frame pipe slot. -/
  | frameStart (p : Fin 6) (arrival : Nat)
  /-- FRAME_END (R182): A Frame End completes a frame, or a malformed frame is dropped and counted. -/
  | frameEnd (p : Fin 6)
  /-- INGEST_INJECT (R230): The injector forms an INGEST packet from an accepted event and delivers it to its entry router when credit allows. -/
  | ingestInject (p : Fin 6)
  /-- CORE_LOAD (R191): LOAD of CORE_CONTROL puts a DISABLED or LOADED core into LOADING and clears its window, or is refused. -/
  | coreLoad (c : Fin 256)
  /-- CORE_CLEAR_DONE (R191): The window clear after LOAD finishes and CLEARING returns to 0. -/
  | coreClearDone (c : Fin 256)
  /-- CORE_COMMIT (R205): COMMIT of CORE_CONTROL starts the commit check of programs, descriptors, partitions and fanout. -/
  | coreCommit (c : Fin 256)
  /-- CORE_COMMIT_DONE (R191): The commit check ends: the core becomes LOADED, or stays LOADING with the lowest LOAD_ERROR. -/
  | coreCommitDone (c : Fin 256)
  /-- CORE_DISABLE (R191): DISABLE of CORE_CONTROL puts a LOADING or LOADED core into DISABLED. -/
  | coreDisable (c : Fin 256)
  /-- VOICE_RANK_COUNT_WRITE (R213): A write of VOICE_RANK_COUNT updates every tile's copy, or is refused while any core runs. -/
  | voiceRankCountWrite (t : Fin 4) (val : BitVec 32)
  /-- CORE_EVENT_ACCEPT (R206): A core accepts an event packet, applies it to its matching partitions and adds the contributions to its staves. -/
  | coreEventAccept (c : Fin 256)
  /-- CORE_FANOUT_SEND (R211): A fired slot sends its SPIKE packet in LIST or TREE mode as router credit allows. -/
  | coreFanoutSend (c : Fin 256)
  /-- ROUTER_FLIT_ARRIVE (R227): A flit arrives at a router input; the table is looked up and the copies are formed, discarding unroutable ones. -/
  | routerFlitArrive (r : Fin 256) (i : Inp) (vn : Bool)
  /-- OUTPUT_GRANT (R237): An output grants one requesting flit by virtual network and round robin, and sends it using a credit. -/
  | outputGrant (r : Fin 256) (o : Dir)
  /-- VN0_ESCAPE (R234): A VN0 copy blocked for more than 64 cycles is replaced by VN1 copies toward its leaves. -/
  | vn0Escape (r : Fin 256) (o : Dir) (i : Inp)
  /-- VN0_AGE_BOOST (R237): A VN0 flit that has waited 256 cycles for its output is boosted to take the next grant. -/
  | vn0AgeBoost (r : Fin 256) (o : Dir) (i : Inp)
  /-- CREDIT_RETURN (R239): A credit returns to the sender of a link direction, or a return that would exceed 8 is ignored as a fault. -/
  | creditReturn (r : Fin 256) (o : LinkDir) (vn : Bool)
  /-- CREDIT_QUIET_CHECK (R240): After 32 quiet cycles a sender's credit count that is not 8 is reset to 8 and recorded as a fault. -/
  | creditQuietCheck (r : Fin 256) (o : LinkDir) (vn : Bool)
  /-- TABLE_ITEM_WRITE (R248): A write of the last TABLE_DATA word writes the selected router item, or is refused, and increments INDEX. -/
  | tableItemWrite (t : Fin 4) (val : BitVec 32)
  /-- TABLE_ITEM_READ (R247): A read of the last TABLE_DATA word completes a read of the selected item and increments INDEX. -/
  | tableItemRead (t : Fin 4)
  /-- TASK_SUBMIT (R268): GO of SUBMIT_CONTROL reads a task descriptor and places it WAITING or READY, or refuses it. -/
  | taskSubmit (t : Fin 4)
  /-- TASK_CANCEL (R263): GO of CANCEL cancels the named task slot and propagates to its dependents, or sets CANCEL_MISSED. -/
  | taskCancel (t : Fin 4) (slot : Fin 1024)
  /-- TASK_DISPATCH (R267): A free engine, or the Blend unit, takes the oldest READY task, waking if needed. -/
  | taskDispatch (t : Fin 4) (u : Unit3)
  /-- TASK_COMPLETE (R263): A running task reaches END or its last command, ends DONE and decrements its dependents. -/
  | taskComplete (t : Fin 4) (u : Unit3)
  /-- TASK_COMPLETION_POST (R268): An ended POST task writes its completion item to COMPLETION_QUEUE when credit allows, and its slot becomes FREE. -/
  | taskCompletionPost (t : Fin 4) (slot : Fin 1024)
  /-- TEMPLATE_INSTANTIATE (R269): At the start of the press stage, once all template slots are FREE and the capture is done, every dispatcher instantiates its template. -/
  | templateInstantiate
  /-- PRESS_END (R259): The press command END ends the task. -/
  | pressEnd (e : Fin 8)
  /-- MATMUL (R259): The press command MATMUL multiplies matrices A and B into DST. -/
  | matmul (e : Fin 8) (bad : Bool)
  /-- CONV (R259): The press command CONV convolves A with kernel B into DST. -/
  | conv (e : Fin 8) (bad : Bool)
  /-- PRESS_ADD (R259): The press command ADD adds A and B elementwise into DST. -/
  | pressAdd (e : Fin 8) (bad : Bool)
  /-- MAXPOOL (R259): The press command MAXPOOL max-pools A into DST. -/
  | maxpool (e : Fin 8) (bad : Bool)
  /-- LUT (R259): The press command LUT maps each INT8 element of A through the table B. -/
  | lut (e : Fin 8) (bad : Bool)
  /-- COPY (R259): The press command COPY copies M × N bytes from A to DST. -/
  | copy (e : Fin 8) (bad : Bool)
  /-- FRAME_LOAD (R260): The press command FRAME_LOAD copies the selected frame of a port, scaled, into DST and sets the task's input time. -/
  | frameLoad (e : Fin 8) (bad : Bool)
  /-- SLATE_COMMIT (R273): The press command SLATE_COMMIT commits A as the slate of a PRESS source, or the commit is discarded. -/
  | slateCommit (e : Fin 8) (bad : Bool)
  /-- GATHER (R277): GATHER selects, replaces or passes each source's slate and writes the fusion grid and the side vector. -/
  | gather
  /-- FINALISE (R281): FINALISE ranks the scores, scales the confidences, sets the flags and assembles the verdict. -/
  | finalise
  /-- WEIGHT_SAMPLE_WRITE (R275): An accepted write of WEIGHT_SAMPLE commits a weight slate to every WEIGHT source. -/
  | weightSampleWrite (val : BitVec 64)
  /-- PUSH_FIRST (R300): GO with FIRST 1 opens a firmware packet, reserves its credits and appends the first item, or is refused. -/
  | pushFirst (c : Fin 8) (q : Fin 32)
  /-- PUSH_APPEND (R300): GO with FIRST 0 appends an item to the cantor's open packet, committing it at LENGTH items. -/
  | pushAppend (c : Fin 8) (q : Fin 32)
  /-- POP (R305): A read of POP_DATA0 pops the next item of the read stream into the cantor's latch, or returns the empty behaviour. -/
  | pop (c : Fin 8) (q : Fin 32)
  /-- SPILL_POP_COMPLETE (R309): A pop that waited for a SPILL head refill completes within 2 µs. -/
  | spillPopComplete (c : Fin 8) (q : Fin 32)
  /-- SPILL_MOVE (R297): The Queue unit moves committed SPILL items from tail to head or middle, and from middle to head, as room allows. -/
  | spillMove (q : Fin 32) (l : Fin 2) (bad : BitVec 4)
  /-- QUEUE_CREDIT_RETURN (R303): The credit of a popped item lands back at its level. -/
  | queueCreditReturn (q : Fin 32) (l : Fin 8)
  /-- PACKET_ABANDON (R301): A firmware packet left open for 1000 µs is discarded and its credits return. -/
  | packetAbandon (q : Fin 32)
  /-- QUEUE_ENABLE (R314): Writing ENABLE 1 enables a DISABLED queue with full credits, or is refused for an invalid configuration. -/
  | queueEnable (q : Fin 32)
  /-- QUEUE_DISABLE (R314): Writing ENABLE 0 disables the queue at once at a packet boundary, or enters DISABLE_PENDING. -/
  | queueDisable (q : Fin 32)
  /-- QUEUE_FLUSH (R314): COMMAND 1 discards the committed items at once at a packet boundary, or enters FLUSH_PENDING. -/
  | queueFlush (q : Fin 32)
  /-- QUEUE_CLEAR_UNDERRUN (R319): COMMAND 2 clears UNDERRUN of the queue. -/
  | queueClearUnderrun (q : Fin 32)
  /-- QUEUE_PENDING_TIMEOUT (R314): A pending flush or disable whose read stream has not advanced for 1000 µs takes effect, discarding the rest of the packet. -/
  | queuePendingTimeout (q : Fin 32)
  /-- MOVER_TAIL_WRITE (R339): A write of TAIL submits descriptors to a mover, or is ignored with TAIL_ERROR. -/
  | moverTailWrite (m : Fin 16) (tail : BitVec 16)
  /-- MOVER_ENABLE (R341): Writing ENABLE 1 with a valid ring configuration makes a DISABLED mover IDLE, or sets CONFIG_ERROR. -/
  | moverEnable (m : Fin 16)
  /-- MOVER_DISABLE (R341): Writing ENABLE 0 disables an IDLE mover, or makes an ACTIVE one ABORTING. -/
  | moverDisable (m : Fin 16)
  /-- MOVER_ABORT (R341): Writing ABORT 1 makes an ACTIVE mover ABORTING. -/
  | moverAbort (m : Fin 16)
  /-- MOVER_ABORT_DONE (R341): Every started line has finished; pending descriptors end ABORTED and the mover becomes IDLE or DISABLED. -/
  | moverAbortDone (m : Fin 16)
  /-- DESCRIPTOR_START (R340): A mover starts its next pending descriptor when its in-flight limit and WAIT_PREV allow. -/
  | descriptorStart (m : Fin 16)
  /-- DESCRIPTOR_COMPLETE (R342): A descriptor completes in ring order: its writes become visible, STATUS and MOVED are written and HEAD advances. -/
  | descriptorComplete (m : Fin 16)
  /-- MOVER_COMPLETION_POST (R342): A completion item with POST is written to its queue when credit allows. -/
  | moverCompletionPost (m : Fin 16)
  /-- CHOIR_PORT_TRAINED (R362): A Choir Link port finishes training on all four lanes and comes up. -/
  | choirPortTrained (p : Fin 2)
  /-- CHOIR_PORT_RETRY (R362): A port that failed to train retries after 100 ms. -/
  | choirPortRetry (p : Fin 2)
  /-- LINK_FRAME_CRC_ERROR (R365): A link frame with a bad CRC is discarded and answered with NAK. -/
  | linkFrameCrcError (p : Fin 2) (bytes : List Byte)
  /-- LINK_NAK (R365): A NAK makes the sender replay from ACK_SEQ + 1, retraining after 16 replays. -/
  | linkNak (p : Fin 2) (ackSeq : BitVec 16)
  /-- HELLO (R368): A HELLO frame from a neighbour is received and may start a join or resolve two Choirs meeting. -/
  | hello (v : LinkVia) (h : HelloMsg)
  /-- HELLO_TIMER (R365): Every 100 ms a package sends HELLO to its neighbours. -/
  | helloTimer
  /-- MEMBERSHIP (R370): A MEMBERSHIP message announces the membership and the era boundary at which it takes effect. -/
  | membership (v : LinkVia) (m : MemberMsg)
  /-- HEARTBEAT (R381): A member's HEARTBEAT frame is received, carrying its generation. -/
  | memberHeartbeat (v : LinkVia) (generation : Nat) (beat : Nat)
  /-- BEAT (R372): A BEAT frame is received; the follower measures its phase error and updates CHOIR_BEAT_STATE. -/
  | beatFrame (v : LinkVia) (b : BeatMsg)
  /-- CHOIR_BEAT_TIMEOUT (R373): No BEAT has arrived by the follower's own boundary + P/2, so it enters HOLDOVER. -/
  | choirBeatTimeout
  /-- PING (R372): A PING reaches the precentor, which answers with PONG. -/
  | ping (v : LinkVia) (time : BitVec 64)
  /-- PONG (R372): A PONG returns and the member computes PATH_DELAY_NS. -/
  | pong (v : LinkVia) (time : BitVec 64) (turnNs : BitVec 32) (arrivalNs : Nat)
  /-- JOIN (R370): A JOIN from a joiner reports its alignment state to the precentor. -/
  | join (v : LinkVia) (serial : BitVec 32) (state : Nat) (err : Int)
  /-- EVENTS (R375): An EVENTS frame is received, and its packets are queued for import by the gateway. -/
  | events (v : LinkVia) (vn1 : Bool) (slots : List (Bool × Packet))
  /-- GATEWAY_IMPORT (R375): The gateway imports an event copy into the W input of router (0, 0) when mesh credit allows. -/
  | gatewayImport
  /-- MEM_REQ (R379): A MEM_REQ is performed at its home as an NC_READ or NC_WRITE, or fails as an access error. -/
  | memReq (v : LinkVia) (tag : Nat) (wr : Bool) (addr : Addr) (len : Nat) (data : List Byte)
  /-- MEM_RSP (R380): A MEM_RSP completes a remote load or acknowledges a remote store. -/
  | memRsp (v : LinkVia) (tag : Nat) (wr : Bool) (addr : Addr) (status : Nat) (data : List Byte)
  /-- REMOTE_REQUEST_TIMEOUT (R380): A remote request with no response within 10 ms ends as an access error of kind 0x6. -/
  | remoteRequestTimeout (tag : Nat)
  /-- BARRIER (R377): A BARRIER report or broadcast is received; the precentor opens the barrier once every member has reported and the counts balance. -/
  | barrier (v : LinkVia) (beat : Nat) (rank : Nat) (counts : List (Nat × Nat × Nat))
  /-- STAGE_END (R377): A STAGE_END report or broadcast is received; the precentor ends the stage and checks the link ledger. -/
  | stageEnd (v : LinkVia) (beat : Nat) (terms : LinkTerms) (counts : List (Nat × Nat × Nat))
  /-- REPORT_REPEAT (R367): A member repeats its BARRIER or STAGE_END every 1 ms until the precentor's broadcast arrives. -/
  | reportRepeat
  /-- CONTROL_MESSAGE_TIMEOUT (R367): A segmented CONTROL message that is not complete 10 ms after its first segment is discarded. -/
  | controlMessageTimeout (src : Fin 16) (tag : Fin 16)
  /-- FORWARD (R117): A FORWARD carries an OAP request or response between the precentor and a member, or a reset request. -/
  | forward (v : LinkVia) (m : ForwardMsg)
  /-- SWITCH_PREPARE (R387): A SWITCH prepare asks every member whether it would accept activate at boundary E. -/
  | switchPrepare (v : LinkVia) (era : Nat)
  /-- SWITCH_ACCEPT (R387): A member's SWITCH accept reaches the precentor. -/
  | switchAccept (v : LinkVia) (era : Nat)
  /-- SWITCH_REFUSE (R387): A member's SWITCH refuse reaches the precentor, which cancels the switch. -/
  | switchRefuse (v : LinkVia) (era : Nat) (status : BitVec 32)
  /-- SWITCH_COMMIT (R387): A SWITCH commit makes every member perform the image switch at E. -/
  | switchCommit (v : LinkVia) (era : Nat)
  /-- SWITCH_CANCEL (R387): A SWITCH cancel ends the coordinated switch. -/
  | switchCancel (v : LinkVia) (era : Nat)
  /-- SWITCH_ACCEPT_TIMEOUT (R387): Not every member has accepted within 10 ms, so the precentor cancels and refuses the activate. -/
  | switchAcceptTimeout
  /-- CREDIT (R365): A CREDIT frame returns link credits of a class. -/
  | credit (v : LinkVia)
  /-- MEMBER_UNREACHABLE (R381): No path to a member remains, so it has departed. -/
  | memberUnreachable (id : Fin 16)
  /-- HEARTBEAT_MISSED_DEPARTURE (R381): Three consecutive HEARTBEAT or BEAT frames of a member are missed, so it has departed. -/
  | heartbeatMissedDeparture (id : Fin 16)
  /-- CHOIR_RESET_REQUEST (R530): GO of CHOIR_RESET_REQUEST on the precentor sends a reset FORWARD to a member, or sets REFUSED. -/
  | choirResetRequest (id : Fin 16)
  /-- GATE_RAW_CHANGE (R395): A gate input's raw level changes; chatter is counted and debounce begins. -/
  | gateRawChange (g : Fin 8) (b : Bool) (high : Bool) (stamp : Nat)
  /-- GATE_CHANGE_ACCEPTED (R398): A raw change that has held for DEBOUNCE is accepted and steps the sequence machine. -/
  | gateChangeAccepted (g : Fin 8)
  /-- GATE_STUCK (R400): An active input's accumulated time exceeds STUCK_TIME; the gate enters FAULT with EMCY 0xFF41. -/
  | gateStuck (g : Fin 8) (b : Bool)
  /-- GATE_SOURCE_LOST (R396): A BEAM or REGION port stalled for more than 100 ms puts the gate into FAULT with cause SOURCE_LOST. -/
  | gateSourceLost (g : Fin 8)
  /-- GATE_FAULT_CLEAR (R401): GATE_COMMAND 1 clears a gate fault when its condition no longer holds, putting the gate in SYNC. -/
  | gateFaultClear (g : Fin 8)
  /-- GATE_ENABLE (R405): Writing GATE_ENABLE 1 puts the gate in SYNC, or is refused for mismatched inputs. -/
  | gateEnable (g : Fin 8)
  /-- GATE_DISABLE (R405): Writing GATE_ENABLE 0 abandons a sequence in progress and puts the gate in IDLE. -/
  | gateDisable (g : Fin 8)
  /-- SOURCE_WRITE (R410): A write of SOURCE_A or SOURCE_B sets the input source and disturbs the bounded zones. -/
  | sourceWrite (g : Fin 8) (b : Bool) (val : BitVec 32)
  /-- BOUNDARY_WRITE (R410): A write of BOUNDARY sets the zone's gates and disturbs it with cause CONFIG. -/
  | boundaryWrite (z : Fin 4) (val : BitVec 16)
  /-- ZONE_RESTORE (R412): ZONE_COMMAND 1 restores the zone at once, or starts a confirmed restoration. -/
  | zoneRestore (z : Fin 4) (target : BitVec 16)
  /-- ZONE_DISTURB (R413): ZONE_COMMAND 2 makes the zone DISTURBED with cause HOST. -/
  | zoneDisturb (z : Fin 4)
  /-- RESTORE_TIMEOUT (R412): RESTORE_TIMEOUT passes while the zone is RESTORING; the zone returns to DISTURBED with RESTORE_FAILED. -/
  | restoreTimeout (z : Fin 4)
  /-- BAGGING_WEIGHT_WRITE (R414): An accepted write of BAGGING_WEIGHT may confirm a WEIGHT restoration. -/
  | baggingWeightWrite (z : Fin 4) (val : BitVec 64)
  /-- HALL_EDGE (R426): A filtered Hall code change commutates the drive and gives a speed edge, or counts a skip. -/
  | hallEdge (code : Fin 8) (stampNs : Nat)
  /-- HALL_INVALID (R423): A Hall code of 0 or 7 held for 100 µs puts the drive into FAULT. -/
  | hallInvalid
  /-- QEP_EDGE (R424): An encoder edge updates ENCODER_POSITION and gives a directed speed edge. -/
  | qepEdge (fwd : Bool) (stampNs : Nat)
  /-- INDEX_LATCH (R425): A rising edge of QEP_Z latches ENCODER_POSITION into INDEX_POSITION. -/
  | indexLatch
  /-- SPEED_ESTIMATE (R424): Every 100 µs the belt speed is estimated, rest is judged and BELT_SPEED_MMS is updated. -/
  | speedEstimate
  /-- SENSOR_MISMATCH (R425): Hall and encoder speeds that disagree for 200 ms put the drive into FAULT. -/
  | sensorMismatch
  /-- SPEED_LOOP_STEP (R426): Every 1 ms the reference ramps toward its goal and the PI loop sets the duty. -/
  | speedLoopStep
  /-- CURRENT_LIMIT_CYCLE (R428): A PWM cycle reaches CURRENT_LIMIT_MA and its on-time ends. -/
  | currentLimitCycle (shuntUv : Nat)
  /-- SUSTAINED_LIMIT (R428): Cycles limited for 1000 ms without a break put the drive into FAULT. -/
  | sustainedLimit
  /-- FAST_TRIP (R428): A current of 1.5 × the limit or a phase-node mismatch turns the gates off within 2 µs and puts the drive into FAULT. -/
  | fastTrip (shuntUv : Nat) (node : Bool)
  /-- BELT_RUN (R431): BELT_COMMAND 1 starts observation from OFF, or resumes from STOPPING, or is refused. -/
  | beltRun
  /-- BELT_STOP (R432): BELT_COMMAND 2 requests an ordinary stop. -/
  | beltStop
  /-- BELT_FAULT_CLEAR (R431): BELT_COMMAND 3 clears a belt fault when the belt is at rest and the cause is gone. -/
  | beltFaultClear
  /-- OBSERVATION_END (R429): After 20 ms of observation the drive starts normally, flying, or brakes. -/
  | observationEnd
  /-- BRAKING_TIMEOUT (R429): Braking has not reached rest within 2 s; the drive enters FAULT with EMCY 0xFF50. -/
  | brakingTimeout
  /-- STOPPING_TIMEOUT (R429): The stopping timer expires before rest; the drive enters FAULT with EMCY 0xFF50. -/
  | stoppingTimeout
  /-- STO_DE_ENERGISED (R429): The island de-energises STO; the drive enters STO with its gates held low. -/
  | stoDeEnergised
  /-- STO_ENERGISED (R429): Both island channels energise STO again; the drive moves to OFF without starting. -/
  | stoEnergised
  /-- AUDIO_ENABLE (R436): Writing ENABLE of AUDIO_RING_CONFIG starts frame consumption, or sets CONFIG_ERROR. -/
  | audioEnable
  /-- AUDIO_WRITE (R436): A write of AUDIO_WRITE adds frames to the ring, or is ignored with WRITE_ERROR. -/
  | audioWrite (val : BitVec 32)
  /-- AUDIO_FRAME_TICK (R437): Every 1/48 000 s one frame is consumed, or silence is played and an underrun counted. -/
  | audioFrameTick
  /-- AUDIO_MUTE_WRITE (R438): A change of AUDIO_MUTE, ATTENUATION or POWER_LIMIT_W ramps the gain over 10 ms and mutes or unmutes the channels. -/
  | audioMuteWrite (f : AudioField) (val : Nat)
  /-- SOFT_START_END (R439): The 20 ms soft start ends and the channel becomes PLAYING. -/
  | softStartEnd (ch : Fin 2)
  /-- AUDIO_LIMITED_CYCLE (R440): A half-bridge hits 4 A in a PWM cycle; four in a row trip the channel. -/
  | audioLimitedCycle (ch : Fin 2) (sides : BitVec 4)
  /-- AUDIO_RETRY (R441): 250 ms after a trip the channel retries through SOFT_START, or latches after three retries in 10 s. -/
  | audioRetry (ch : Fin 2)
  /-- AUDIO_DC_FAULT (R442): A mean differential output above 1.0 V over 100 ms puts the channel into DC_FAULT. -/
  | audioDcFault (ch : Fin 2) (mv : BitVec 16)
  /-- STAGE_TEMPERATURE_CHANGE (R443): The stage temperature crosses 120, 130 or 150 °C, changing the gain or the THERMAL state. -/
  | stageTemperatureChange (tenths : Int)
  /-- AUDIO_CLEAR_CH0 (R444): AUDIO_COMMAND 1 clears LATCHED or DC_FAULT of channel 0. -/
  | audioClearCh0
  /-- AUDIO_CLEAR_CH1 (R444): AUDIO_COMMAND 2 clears LATCHED or DC_FAULT of channel 1. -/
  | audioClearCh1
  /-- SAFETY_CYCLE (R457): Every 1 ms the island evaluates demands, faults and speed, changes state, drives STO and writes its mirror. -/
  | safetyCycle (fbA fbB : Bool)
  /-- SAFETY_INPUT_ACCEPTED (R451): A safety input channel's new level has held for INPUT_FILTER and is accepted. -/
  | safetyInputAccepted (n : Fin 4) (b : Bool) (on : Bool) (since : Nat)
  /-- TEST_PULSE (R452): TP0 or TP1 drives its low test pulse; a missing or crossed pulse gives a channel fault. -/
  | testPulse (tp1 : Bool) (obs : List PulseSeen)
  /-- DISCREPANCY_TIMEOUT (R454): One channel has not followed the other within DISCREPANCY_MS, giving a DISCREPANCY fault. -/
  | discrepancyTimeout (n : Fin 4)
  /-- SPEED_DISCREPANCY (R456): The safe speed channels disagree for SPEED_DISCREPANCY_MS, giving a speed fault. -/
  | speedDiscrepancy
  /-- RESET_REQUEST (R455): A RESET input press of 100 ms to 3 s is released and asks the island for a reset. -/
  | resetRequest (n : Fin 4)
  /-- DEGRADED_EXPIRY (R457): The degraded window expires and the island locks with DEGRADED_EXPIRED. -/
  | degradedExpiry
  /-- SLS_RAMP_EXPIRY (R459): The speed is still above SLS_LIMIT_MMS at SLS_RAMP_MS after entry, so the island locks with SLS_RAMP. -/
  | slsRampExpiry
  /-- STO_FEEDBACK_TIMEOUT (R460): An STO feedback that differs from its output beyond STO_FB_TIME_MS locks the island with STO_FEEDBACK. -/
  | stoFeedbackTimeout
  /-- TEST_DUE_TIMER (R461): After 24 h energised without a break, TEST_DUE is set and record 0xE7C6 written. -/
  | testDueTimer
  /-- ORDINARY_STOP_LINE (R448): The hub asserts or releases the ordinary stop line, holding or freeing STO as the island's state allows. -/
  | ordinaryStopLine (asserted : Bool)
  /-- LOCKSTEP_MISMATCH (R463): The comparator finds a mismatch (or RAM/ROM error); outputs drop in hardware and the island restarts and locks. -/
  | lockstepMismatch
  /-- CLOCK_CHECK_FAIL (R463): The island clock deviates beyond ±4 % of XTAL_IN or XTAL_IN stops; the island locks with CLOCK. -/
  | clockCheckFail (ppm : Int)
  /-- ISLAND_WATCHDOG (R463): The island's window watchdog fires; it reacts as for a lockstep mismatch with cause WATCHDOG. -/
  | islandWatchdog
  /-- VDD_SAFE_FAULT (R463): VDD_SAFE leaves its range; STO drops in hardware and the island is held in reset. -/
  | vddSafeFault
  /-- ISLAND_POWER_UP (R457): VDD_SAFE powers up and the island enters SELFTEST, loading its configuration copies. -/
  | islandPowerUp
  /-- SELFTEST_COMPLETE (R457): The island self-test ends and the island enters ENERGISED, LOCKED or FAULT. -/
  | selftestComplete (passed : Bool)
  /-- SAFETY_PARAM_BLOCK (R468): A write of SAFETY_PARAM_BLOCK is checked and echoed with a CONFIRM_CODE, or refused. -/
  | safetyParamBlock (data : List Byte)
  /-- SAFETY_CONFIRM (R468): A correct SAFETY_CONFIRM makes the island write both configuration copies. -/
  | safetyConfirm (data : List Byte)
  /-- TRANSFER_WRITE_COMPLETE (R468): Both copies are written and read back; the island locks with CONFIG_CHANGED. -/
  | transferWriteComplete
  /-- TRANSFER_TIMEOUT (R468): 60 s pass without confirmation and the transfer ends with TRANSFER_STATE 4. -/
  | transferTimeout
  /-- POWER_ON (R476): VIN has stayed at or above 17.0 V for 100 ms from OFF; the rails rise and boot starts. -/
  | powerOn (contiguousSafe : Bool)
  /-- BROWNOUT_WARNING (R494): VIN below 16.0 V for more than 1 ms raises EMCY 0x3120 and orders the park. -/
  | brownoutWarning (vinMv : Nat)
  /-- BROWNOUT_END (R494): VIN at or above 17.0 V for 100 ms ends the warning and the park. -/
  | brownoutEnd (vinMv : Nat)
  /-- VIN_LOW_SHUTDOWN (R481): VIN below 14.0 V for 50 µs starts an orderly shutdown with cause 1. -/
  | vinLowShutdown (vinMv : Nat)
  /-- RAIL_FAULT (R475): An internal rail outside its window for 10 µs starts an orderly shutdown with RAIL_FAULT. -/
  | railFault
  /-- REGULATOR_FAULT (R480): A refused PVID frame, unsettled VCORE or PVID_ALERT starts an orderly shutdown with VCORE_FAULT. -/
  | regulatorFault (status : BitVec 12)
  /-- PVID_RESEND (R477): 10 µs after a refused or unacknowledged PVID frame, the frame is sent again. -/
  | pvidResend
  /-- VCORE_SETTLED (R479): VCORE_MV comes within 10 mV of the command after a SET_VID. -/
  | vcoreSettled (mv : Nat)
  /-- OPERATING_POINT_CHANGE (R490): A change of operating point switches clocks and VCORE in the safe order. -/
  | operatingPointChange
  /-- TEMPERATURE_SAMPLE (R493): Every 1 ms the junction temperatures are read, updating the thermal cap, EMCY 0x4210 or a thermal shutdown. -/
  | temperatureSample (hub : Int) (tiles : List Int)
  /-- TILE_GATE (R485): A tile that is not needed is power-gated once no transaction to its slice is in flight. -/
  | tileGate (t : Fin 4)
  /-- STANDBY_REQUEST (R482): POWER_REQUEST 1 enters STANDBY, or is refused. -/
  | standbyRequest
  /-- WAKE (R484): A CAN0 dominant level, RESET_N or an insertion wakes the device from STANDBY and boots it. -/
  | wake (src : WakeSrc)
  /-- STREAM_ENABLE (R503): Writing STREAM_ENABLE 1 makes a disabled stream WAITING. -/
  | streamEnable (st : Fin 2)
  /-- STREAM_DISABLE (R503): Writing STREAM_ENABLE 0 disables the stream after its slice in progress. -/
  | streamDisable (st : Fin 2)
  /-- FRAME_ENCODE_START (R506): The stream starts encoding a due frame once the previous one is done, choosing its references and writing FRAME_INFO. -/
  | frameEncodeStart (st : Fin 2)
  /-- SLICE_ENCODE (R522): A slice starts encoding once its lines and the 32 following lines have arrived and the output buffer has room. -/
  | sliceEncode (st : Fin 2) (lineError : Bool)
  /-- FRAME_ENCODE_DONE (R517): A frame finishes and the reference pool marks change. -/
  | frameEncodeDone (st : Fin 2)
  /-- VIDEO_PACKET_WRITE (R519): A FRAME_INFO or SLICE packet is committed to OUTPUT_QUEUE when credit allows. -/
  | videoPacketWrite (st : Fin 2)
  /-- STREAM_IDR (R518): STREAM_COMMAND 1 makes the next frame an IDR. -/
  | streamIdr (st : Fin 2)
  /-- STREAM_RECOVER_NEW (R518): STREAM_COMMAND 2 makes the next frame predict only from LONG_TERM_NEW. -/
  | streamRecoverNew (st : Fin 2)
  /-- STREAM_RECOVER_OLD (R518): STREAM_COMMAND 3 makes the next frame predict only from LONG_TERM_OLD. -/
  | streamRecoverOld (st : Fin 2)
  /-- RESET_N (R526): RESET_N held low for at least 10 µs starts a device reset with cause 1. -/
  | resetN
  /-- WATCHDOG_TIMEOUT (R529): The watchdog expires and starts a device reset with cause 2. -/
  | watchdogTimeout
  /-- WATCHDOG_KICK (R529): Writing 0x0000_5AC3 to WATCHDOG_KICK restarts the watchdog; other values set KICK_ERROR. -/
  | watchdogKick (val : BitVec 32)
  /-- SOFTWARE_RESET (R529): Writing 0x0000_A5C3 to SOFTWARE_RESET starts a device reset with cause 4. -/
  | softwareReset (val : BitVec 32)
  /-- RESET_END (R527): The reset ends 1 ms after its last source, once the staged records are written, and boot begins. -/
  | resetEnd
  /-- BOOT_COMPLETE (R541): Boot ends: the device enters PRE-OPERATIONAL, sends its boot-up message and re-raises conditions. -/
  | bootComplete
  /-- BOOT_CONFIRM (R539): Writing BOOT_CONFIRM returns BOOT_ATTEMPTS to 0. -/
  | bootConfirm (val : BitVec 32)
  /-- BOOT_SLOT_WRITE (R542): GO of BOOT_WRITE_CONTROL with TARGET 0 writes and verifies the staged image into the boot slot not running. -/
  | bootSlotWrite
  /-- KEY_LIST_WRITE (R542): GO of BOOT_WRITE_CONTROL with TARGET 1 writes and verifies the staged key list into the copy not in use. -/
  | keyListWrite
  /-- BOOT_UPDATE_COMPLETE (R542): A boot slot or key list update ends with its COMMIT written, or fails with FAILED. -/
  | bootUpdateComplete
  /-- FUSE_PROGRAM (R533): GO of FUSE_PROGRAM programs a fuse field, or sets FUSE_REFUSED. -/
  | fuseProgram (field : Nat) (index : Nat)
  /-- ROLLBACK_ADVANCE (R533): A write of ROLLBACK_ADVANCE raises the rollback floor, or is refused. -/
  | rollbackAdvance (val : BitVec 32)
  /-- DEBUG_RESPONSE (R544): A correct DEBUG_RESPONSE unlocks debug; the response is refused otherwise, and the challenge is renewed. -/
  | debugResponse (sig : List Byte)
  /-- DFU_DOWNLOAD (R540): In recovery, an image over USB DFU is verified and written into slot 0 followed by a reset, or rejected. -/
  | dfuDownload (image : List Byte)
  /-- IDCODE (R543): The JTAG instruction IDCODE returns the identification code. -/
  | idcode
  /-- BYPASS (R543): The JTAG instruction BYPASS selects the bypass register. -/
  | bypass
  /-- ETH_LINK_CHANGE (R91): The PHY of ETH0 or ETH1 gains or loses its link, and LINK_STATE changes between down, 100 Mb/s and 1000 Mb/s. -/
  | ethLinkChange (p : Fin 2) (state : Fin 3)
  /-- CHOIR_LINK_LOSS (R363): A trained Choir Link port loses its neighbour, goes down, and a ring falls back to a chain while membership stays unchanged. -/
  | choirLinkLoss (p : Fin 2)
  /-- CHOIR_TRAINING_TIMEOUT (R362): A Choir Link port whose four lanes have not all trained within 10 ms, at link-up or in a retraining after 16 replays, stays down, and a failed retraining writes record 0xE605. -/
  | choirTrainingTimeout (p : Fin 2)
  /-- STO_CURRENT_LIMIT_OFF (R555): An STO output that has been in current limit for 2 ms is turned off and stays off until the island commands it on again. -/
  | stoCurrentLimitOff (b : Bool)
  /-- DEBUG_MODULE_ACCESS (R545): While debug is unlocked, a JTAG command to the RISC-V debug module halts, resumes or accesses the cantors or the system bus, and halting cantor 0 pauses the watchdog. -/
  | debugModuleAccess (a : DebugOp)
deriving DecidableEq, Repr

end Sys2Proof
end

