-- ==== Sys2Proof/Config.lean ====
section
/-! DEFINITION. What an implementation fixes and the free values: constants without a body, of which no proof can see
the value (assumption log 3, 10). -/

/-- A floating-point value: finite in units of 2^-149, an infinity, or no number (08 R254). -/
inductive Sys2Proof.FVal where
  | fin (v : Int) | inf (neg : Bool) | nan
deriving DecidableEq, Repr

namespace Sys2Proof.Config

/-- The n-th value drawn where the spec leaves one open or names a random generator; the step counts n (log 3). -/
opaque free : Nat → Nat

/-- What the part's serial number is made from (03 R87: per part). -/
opaque serialSeed : Nat

/-- The serial number 0x1018.04: 32 bits, and not 0, which marks a free package ID (11 R389). -/
def serial : Nat := serialSeed % 0xFFFFFFFF + 1

/-- MAC address of ETH0 and ETH1, 48 bits (03 R91: per part). -/
opaque macSeed : Nat → Nat

/-- The MAC address of a port. -/
def mac (p : Nat) : Nat := macSeed p % 2 ^ 48

/-- Whether an Ed25519 signature verifies under a key over a message (04 R133, 17 R535, R544). The algorithm is
outside the spec. -/
opaque ed25519Ok : (key msg sig : List Byte) → Bool

/-- The SHA-512 digest as 64 bytes (04 R132). -/
opaque sha512 : List Byte → List Byte

/-- The SHA-256 digest as 32 bytes (17 R532, R535). -/
opaque sha256 : List Byte → List Byte

/-- The binary32 accumulator of terms whose sum depends on the order of summation, which the spec fixes without naming it
(08 R255), or is no number. -/
opaque floatAcc : List FVal → BitVec 32

/-- The code of an output type for a binary32 accumulator that is no number (08 R255 names none). -/
opaque floatOut : (type acc : Nat) → Nat

/-- The result of a MAXPOOL window that holds a value that is no number (08 R259 names none). -/
opaque floatMax : List FVal → BitVec 32

/-- An INT32 accumulator whose sum leaves the INT32 range on the way (08 R254 names no overflow rule). -/
opaque accWide : List Int → BitVec 32

/-- An area average that is no whole number: its numerator and denominator (08 R260 names no rounding). -/
opaque areaRound : (num den : Nat) → Byte

/-- The byte a spectral head's 12-bit sample is loaded as (08 R260 gives it for frame heads only). -/
opaque spectralByte : Nat → Byte

/-- The PWM duty that the speed loop sets from its gains, its error and its integral (13 R426, whose scale the spec leaves
open). -/
opaque loopDuty : (kp ki : Nat) → (err integral : Int) → Int

/-- The commutation step that a Hall code calls for in a direction of torque, of the six (13 R426 names no table). -/
opaque hallStep : (code : Nat) → (positive : Bool) → Nat

/-- The state of the video encoder after it has coded what a list of numbers describes (16 R508). -/
opaque videoNext : (state : Nat) → List Nat → Nat

/-- The payload of the unit that a slice is coded to (16 R509: the entropy coding of the two standards). -/
opaque slicePayload : (state : Nat) → List Nat → List Byte

/-- The payload of a parameter set (16 R509). -/
opaque parameterSet : List Nat → List Byte

/-- A luma sample of the picture that a decoder reconstructs, by the encoder's state after it (16 R510). -/
opaque recon : (picture x y : Nat) → Byte

/-- A luma sample interpolated at a quarter-pixel position (16 R513: the filters of the two standards). -/
opaque interpolated : (codec picture : Nat) → (x y : Int) → Byte

/-- λ(QP) (16 R513 names no formula). -/
opaque lambda : (qp : Nat) → Nat

/-- The estimated bits of a vector, given those of its neighbours (16 R513 names no formula). -/
opaque vectorBits : (near : List (Int × Int)) → (vx vy : Int) → Nat

/-- The Hadamard-transformed difference of a block (16 R513 names no block size and no scale). -/
opaque hadamard : List Int → Nat

/-- What intra coding of a block costs (16 R513 names no formula). -/
opaque intraCost : (luma : List Nat) → (qp : Nat) → Nat

/-- The encoder's choice of QP for a frame's first slice, and of another slice's distance from it (16 R511). -/
opaque videoQp : (state slice : Nat) → Nat

/-- The bits that a frame would take at QP_MAX (16 R512). -/
opaque frameBitsAtMax : (state : Nat) → Nat

/-- BOOT_KEY_HASH0, programmed by Keldalith (17 R532: per part). -/
opaque bootHash0 : List Byte

/-- DEBUG_KEY_HASH as manufactured (17 R532: per part). -/
opaque debugHash : List Byte

/-- What a TPDO carries for a mapped entry whose read is refused at that moment (03 R98 and 02 R73 name no value): index and
subindex. -/
opaque unreadable : (idx sub : Nat) → Nat

/-- Boot ROM contents (01 R26): a byte per offset. -/
opaque bootRom : Nat → Byte

end Sys2Proof.Config
end

