-- ==== Sys2Proof/Machine/State.lean ====
section
/-! DEFINITION. The state of the block as plain data, with its reset values, and the reasons a command can stop.
A field's docstring opens with its name in the spec, its width, the section file and rule, and its reset value. -/

namespace Sys2Proof.Machine

/-- Why a step could stop with a fault. No meaning of this model raises one: every command of the table has an
effect under the spec's rules, and the accesses the spec forbids are its access errors (R32, R33). -/
inductive Fault where
  /-- raised by nothing (safe: no statement can rest on it) -/
  | unreachable
deriving DecidableEq, Repr

/-- Why a command is refused by the model (not by the device). -/
inductive Refusal where
  /-- raised only by an arm of `exec` whose command has no meaning yet (safe) -/
  | notModelled (mnemonic : String)
deriving DecidableEq, Repr

/-- A sparse table: key and value pairs, keys strictly rising, holding no entry equal to its default. -/
abbrev Tab (α : Type) := List (Nat × α)

/-- The three variants (R9 to R11). -/
inductive Variant where
  | erv1640 | erv1620 | erv1610
deriving DecidableEq, Repr

/-! ### The beat (02_the_beat.md) -/

/-- STATE of the tracker, object 0x2100.06 (02 R63). -/
inductive Tracker where
  | free | acquiring | locked | holdover | freeRun | halted
deriving DecidableEq, Repr

/-- EFFECTIVE_SOURCE (02 R48, R49). -/
inductive BeatSource where
  | internal | syncIn | choir
deriving DecidableEq, Repr

/-- Where the work of a beat stands in one of its two stages (02 R54). -/
inductive StageSt where
  | waiting | running | done | shed
deriving DecidableEq, Repr

/-- A verdict record before it is packed into its 64 bytes (08 R283). -/
structure Verdict where
  beat : Nat := 0
  tov : Nat := 0
  classIds : List (BitVec 16) := []
  confidences : List (BitVec 8) := []
  flags : BitVec 16 := 0
  weightMg : Int := 0
  weightStatus : BitVec 8 := 0
  mask : BitVec 16 := 0
  replaced : BitVec 16 := 0
  oldestAge : BitVec 32 := 0
  zoneEmpty : BitVec 8 := 0
  seq : BitVec 32 := 0
  imageId : BitVec 32 := 0
deriving DecidableEq, Repr

/-- The work of one ingested beat that is still in the pipeline (02 R52 to R59). -/
structure BeatWork where
  /-- its beat number -/
  beat : Nat
  /-- start(N), its time of validity -/
  start : Nat
  /-- whether its ingest window has closed (R53) -/
  closed : Bool := false
  /-- its voice stage (R54) -/
  voice : StageSt := .waiting
  /-- the rank under evaluation (R197) -/
  rank : Nat := 0
  /-- its press stage (R54) -/
  press : StageSt := .waiting
  /-- whether a packet of its voice stage was discarded by shedding, or the stage was shed (07 R242) -/
  voiceShed : Bool := false
  /-- whether SHED_BEAT_COUNT has counted it (R59) -/
  shedCounted : Bool := false
  /-- whether a voice deadline or press deadline of it has passed (R56) -/
  voiceLate : Bool := false
  pressLate : Bool := false
  /-- whether its ledger check failed (R245) -/
  ledgerBad : Bool := false
  /-- whether its capture is done and its templates are instantiated (R269) -/
  captured : Bool := false
  /-- whether its templates are instantiated (R269) -/
  instantiated : Bool := false
  /-- the verdict FINALISE assembled (R281) -/
  verdict : Option Verdict := none
deriving DecidableEq, Repr

/-- The beat generator, the SYNC_IN tracker, the pipeline and page 0x01. -/
structure BeatUnit where
  /-- BEAT_NUMBER, 48 bits; 02 R44; reset 0 -/
  number : Nat := 0
  /-- start(N) of the beat in progress, 64 bits; 02 R44; reset 0 -/
  start : Nat := 0
  /-- length of the beat in progress, 12 bits; 02 R66; reset 1000 -/
  length : Nat := 1000
  /-- starts of the last 32 beats, newest first; 02 R44 (model's own record); reset beat 0 at 0 -/
  starts : List (Nat × Nat) := [(0, 0)]
  /-- BEAT_STATE, 3 bits; 02 R63; reset FREE -/
  tracker : Tracker := .free
  /-- EFFECTIVE_SOURCE, 2 bits; 02 R49; reset internal -/
  source : BeatSource := .internal
  /-- ACTIVE_PERIOD, 16 bits; 02 R50; reset 1000 -/
  activePeriod : Nat := 1000
  /-- ACTIVE_PERIOD at the start of the last 32 beats, newest first; 05 R181 (model's own record); reset beat 0 with 1000 -/
  periods : List (Nat × Nat) := [(0, 1000)]
  /-- the tracked period P, 16 bits; 02 R61; reset 1000 DESIGN CHOICE 1000 (the default period), log entry 8 -/
  tracked : Nat := 1000
  /-- the period a rate adoption gives beats from the next boundary, 16 bits; 02 R65; reset none -/
  adopt : Option Nat := none
  /-- the reference edge, 64 bits; 02 R61; reset none -/
  refEdge : Option Nat := none
  /-- length of the in-tolerance run, 3 bits; 02 R64; reset 0 -/
  inRun : Nat := 0
  /-- the last intervals of the off-rate run, at most 8; 02 R64; reset empty -/
  offRun : List Nat := []
  /-- the last in-tolerance intervals since LOCKED, at most 8; 02 R65; reset empty -/
  meanRun : List Nat := []
  /-- PHASE_ERROR, 16 bits signed; 02 R66; reset 0 DESIGN CHOICE 0, log entry 8 -/
  phaseError : Int := 0
  /-- PHASE_SLEWING, 1 bit; 02 R66; reset 0 -/
  slewing : Bool := false
  /-- the residual measured since the last boundary, 16 bits signed; 02 R66; reset none -/
  residual : Option Int := none
  /-- start of the holdover timer, 64 bits; 02 R68; reset none -/
  holdStart : Option Nat := none
  /-- whether EMCY 0xFF12 was raised since entering the state, 1 bit; 02 R63; reset 0 -/
  rejected : Bool := false
  /-- SYNC_OUT, 1 bit; 02 R72; reset low -/
  syncOut : Bool := false
  /-- when SYNC_OUT falls, 64 bits; 02 R72; reset 0 -/
  syncOutFall : Nat := 0
  /-- BEAT_IRQ.PENDING, 1 bit; 02 R46; reset 0 -/
  irqPending : Bool := false
  /-- BEAT_IRQ.ENABLE, 1 bit; 02 R46; reset 0 -/
  irqEnable : Bool := false
  /-- BEAT_IRQ.ERA_ONLY, 1 bit; 02 R46; reset 0 -/
  irqEraOnly : Bool := false
  /-- VOICE_SHEDDING: effective policy of the voice stage, 1 bit; 02 R57; reset 0 (the field map's reset value) -/
  voiceShedding : Bool := false
  /-- PRESS_SHEDDING: effective policy of the press stage, 1 bit; 02 R57; reset 0 -/
  pressShedding : Bool := false
  /-- VOICE_LAG, 4 bits; 02 R56; reset 0 -/
  voiceLag : Nat := 0
  /-- PRESS_LAG, 4 bits; 02 R56; reset 0 -/
  pressLag : Nat := 0
  /-- consecutive beats that met the voice deadline, 5 bits; 02 R57; reset 0 -/
  voiceMet : Nat := 0
  /-- consecutive beats that met the press deadline, 5 bits; 02 R57; reset 0 -/
  pressMet : Nat := 0
  /-- whether the effective policy was raised to SHED by lag, 2 bits; 02 R57; reset 0 -/
  voiceRaised : Bool := false
  pressRaised : Bool := false
  /-- whether a beat was shed since the last era boundary, 1 bit; 02 R59; reset 0 -/
  shedThisEra : Bool := false
  /-- whether ingest into the fabric runs, 1 bit; 02 R69, 03 R83; reset 0 -/
  ingesting : Bool := false
  /-- since when ingest is to start at an era boundary; 03 R83; reset none -/
  ingestWanted : Option Nat := none
  /-- since when ingest is to stop at the next beat boundary; 02 R69, 03 R83; reset none -/
  ingestStop : Option Nat := none
  /-- whether the next ingest start is a resumption after HALTED (record 0xE031), 1 bit; 02 R70; reset 0 -/
  resuming : Bool := false
  /-- whether the fabric is halted by a Trellis failure, 1 bit; 01 R24; reset 0 -/
  hardHalt : Bool := false
  /-- the oldest beat whose ingest window has not closed, 48 bits; 02 R53 (model's own record); reset 0 -/
  closing : Nat := 0
  /-- the beats in the pipeline, oldest first; 02 R54; reset empty -/
  work : List BeatWork := []
  /-- captured high word of DEVICE_TIME, 32 bits per requester; 02 R47; reset 0 DESIGN CHOICE 0, log entry 8 -/
  capTime : Tab Nat := []
  /-- captured beat number, 48 bits per requester; 02 R47; reset 0 DESIGN CHOICE 0, log entry 8 -/
  capBeat : Tab Nat := []
  /-- captured start of that beat, 64 bits per requester; 02 R47; reset 0 DESIGN CHOICE 0, log entry 8 -/
  capStart : Tab Nat := []
deriving DecidableEq, Repr

/-! ### The object dictionary and its networks (03_object_dictionary.md) -/

/-- NMT states (03 R82). -/
inductive Nmt where
  | initialisation | preOperational | operational | stopped
deriving DecidableEq, Repr

/-- An active EMCY condition (03 R105): its code, its source unit and which of several like it. -/
structure Cond where
  code : Nat
  source : Nat
  idx : Nat
deriving DecidableEq, Repr

/-- An EMCY message's eight bytes by field (03 R103). -/
structure Emcy where
  code : Nat
  reg : BitVec 8
  source : Nat
  beatLo : BitVec 32
deriving DecidableEq, Repr

/-- The segmented SDO transfer in progress (03 R96). -/
inductive SdoXfer where
  | idle
  | download (idx sub : Nat) (got : List Byte) (toggle : Bool) (last : Nat)
  | upload (idx sub : Nat) (rest : List Byte) (toggle : Bool) (last : Nat)
deriving DecidableEq, Repr

/-- One TPDO's running state (03 R98). -/
structure TpdoSt where
  /-- end of the inhibit time -/
  inhibitUntil : Nat := 0
  /-- a transmission held back by the inhibit time, with the values it sampled -/
  held : Option (List Byte) := none
  /-- SYNCs counted for types 1 to 240 -/
  syncs : Nat := 0
  /-- values at the last look, taken first when OPERATIONAL is entered -/
  lastData : List Byte := []
  /-- whether a value changed since the last transmission, for type 0 -/
  changed : Bool := false
  /-- last transmission, for the event timer -/
  lastSent : Nat := 0
deriving DecidableEq, Repr

/-- One RPDO's running state (03 R98). -/
structure RpdoSt where
  /-- data held for the next SYNC -/
  waiting : Option (List Byte) := none
  /-- last reception, for the deadline -/
  lastGot : Nat := 0
deriving DecidableEq, Repr

/-- LSS state (03 R101). -/
structure Lss where
  config : Bool := false
  pendingNode : Nat := 64
  pendingRate : Nat := 500
  fastscanSub : Nat := 0
deriving DecidableEq, Repr

/-- CAN0 and NMT (03 R82 to R105). -/
structure Comm where
  /-- NMT state, 2 bits; 03 R82; reset INITIALISATION -/
  nmt : Nmt := .initialisation
  /-- conditions whose cause holds while the device is in reset or boots, newest first; 03 R568; reset empty -/
  latent : List Cond := []
  /-- active conditions, newest first; 03 R103; reset empty -/
  conds : List Cond := []
  /-- 0x1003 error history, 8 words of 32 bits, newest first; 03 R103; reset empty -/
  errHist : List (BitVec 32) := []
  /-- EMCY inhibit queue, 16 messages; 03 R104; reset empty -/
  emcyQ : List Emcy := []
  /-- end of the EMCY inhibit time, 64 bits; 03 R104; reset 0 -/
  emcyUntil : Nat := 0
  /-- CAN_NODE_ID, 8 bits; 03 R91; reset 0x40 -/
  node : Nat := 0x40
  /-- CAN_NOMINAL_RATE in kbit/s, 16 bits; 03 R91; reset 500 -/
  rate : Nat := 500
  /-- LSS slave state; 03 R101; reset WAITING with the active node-ID and rate pending -/
  lss : Lss := {}
  /-- the SDO transfer in progress; 03 R96; reset none -/
  sdo : SdoXfer := .idle
  /-- TPDO running state, 16; 03 R98; reset idle -/
  tpdo : Tab TpdoSt := []
  /-- RPDO running state, 16; 03 R98; reset idle -/
  rpdo : Tab RpdoSt := []
  /-- monitored nodes since their first heartbeat, with the time of the last one; 03 R100; reset empty -/
  hbSeen : List (Nat × Nat) := []
  /-- last producer heartbeat, 64 bits; 03 R100; reset 0 -/
  hbLast : Nat := 0
deriving DecidableEq, Repr

/-- An OAP subscription (03 R113, R114). -/
structure OapSub where
  id : Nat
  period : Nat
  refs : List (Nat × Nat)
  /-- beat of the subscription -/
  beat0 : Nat
  /-- the values last sent, one per reference (R114) -/
  last : List (List Byte)
deriving DecidableEq, Repr

/-- A cached OAP response (03 R111). -/
structure OapCached where
  type : Nat
  /-- TARGET, of a response that a member gave (R117) -/
  target : Option Nat := none
  seq : BitVec 32
  status : BitVec 32
  data : List Byte
deriving DecidableEq, Repr

/-- A request that still executes (03 R111): a store, a commit or a safety confirm. -/
structure OapBusy where
  seq : BitVec 32
  idx : Nat
  sub : Nat
deriving DecidableEq, Repr

/-- An OAP session (03 R109 to R114). -/
structure OapSession where
  host : Nat
  /-- at a follower: the precentor that forwards the requests of the session, which is its own (R117) -/
  via : Option Nat := none
  token : BitVec 64
  write : Bool
  lastReq : Nat
  /-- the newest SEQUENCE seen -/
  newest : Option (BitVec 32) := none
  /-- answers kept for retries (R111) -/
  cache : List OapCached := []
  /-- requests whose answer waits for a write to complete (R111) -/
  busy : List OapBusy := []
  /-- its subscriptions (R114) -/
  subs : List OapSub := []
  /-- whether it takes the verdict stream (R114) -/
  streamOn : Bool := false
  /-- one verdict in so many is sent (R114) -/
  decimate : Nat := 1
  /-- verdicts since the last one sent -/
  streamCount : Nat := 0
  /-- SEQUENCE of the next device-to-host message -/
  sendSeq : BitVec 32 := 0
deriving DecidableEq, Repr

/-- Fragments held of one request (03 R112). -/
structure OapFrags where
  host : Nat
  token : BitVec 64
  seq : BitVec 32
  type : Nat
  count : Nat
  since : Nat
  parts : List (Nat × List Byte)
deriving DecidableEq, Repr

/-- The announcements of an Ethernet port (03 R116): how many since it gained an address (2 stands for more), when the
next is due, and whether it holds an IPv6 address. -/
structure Announcer where
  sent : Nat := 0
  due : Nat := 0
  v6 : Bool := false
deriving DecidableEq, Repr

/-- OAP (03 R106 to R117). -/
structure Oap where
  /-- open sessions, at most 4, oldest first; 03 R109; reset empty -/
  sessions : List OapSession := []
  /-- fragmented requests being assembled; 03 R112; reset empty -/
  frags : List OapFrags := []
  /-- hosts whose DISCOVER awaits its delayed reply, with its SEQUENCE; 03 R116; reset empty -/
  discovers : List (Nat × BitVec 32) := []
  /-- announcements per port; 03 R116; reset none sent -/
  announces : Tab Announcer := []
  /-- requests forwarded to members and not answered yet: host, type, token, sequence, target; 03 R117; reset empty -/
  forwarded : List (Nat × Nat × BitVec 64 × BitVec 32 × Nat) := []
deriving DecidableEq, Repr

/-! ### Vintages, model images and the Cellar Book (04_vintages_images_cellar_book.md) -/

/-- A Cellar Book record's fields but SEQUENCE, CRC and MARK (04 R144). -/
structure Rec where
  code : Nat
  source : Nat
  severity : Nat
  time : Nat
  beat : Nat
  payload : List Byte
deriving DecidableEq, Repr

/-- SLOTn_STATE (04 R138). -/
inductive SlotSt where
  | empty | installing | valid | active
deriving DecidableEq, Repr

/-- Who waits for the end of a store. -/
inductive StoreFor where
  | sdo | oap (host : Nat) (token : BitVec 64) (seq : BitVec 32) | lss | local
  | fwd (src host : Nat) (token : BitVec 64) (seq : BitVec 32)
deriving DecidableEq, Repr

/-- A store or restore that is running (04 R129). -/
structure StoreJob where
  /-- 0 vintage A, 1 vintage B -/
  target : Nat
  /-- GENERATION of the vintage written -/
  gen : Nat
  /-- its payload -/
  payload : List Byte
  /-- subindex of the entry that asked -/
  sub : Nat
  /-- whether it is a restore -/
  restore : Bool
  /-- who is answered when it ends -/
  asker : StoreFor
  /-- a GENERATION above 0xFFFF_FFFF was needed (R128) -/
  fails : Bool
deriving DecidableEq, Repr

/-- The NVM controller, page 0x03 and objects 0x2300, 0x2400. -/
structure Nvm where
  /-- STORE_STATE, 8 bits; 04 R129; reset 0 -/
  storeState : Nat := 0
  /-- the running store; 04 R129; reset none -/
  job : Option StoreJob := none
  /-- VINTAGE_IN_USE, 8 bits; 04 R125; reset 2 (no vintage on a new part) -/
  inUse : Nat := 2
  /-- VINTAGE_GENERATION, 32 bits; 04 R125; reset 0 DESIGN CHOICE 0, log entry 8 -/
  gen : Nat := 0
  /-- ACTIVE_IMAGE_SLOT, 8 bits; 04 R137; reset none (0xFF) -/
  activeSlot : Option Nat := none
  /-- SLOT0_STATE, 8 bits; 04 R138; reset empty -/
  slot0 : SlotSt := .empty
  /-- SLOT1_STATE, 8 bits; 04 R138; reset empty -/
  slot1 : SlotSt := .empty
  /-- PENDING_SWITCH with its target slot, 8 bits; 04 R141; reset 0 -/
  pendingSwitch : Option Nat := none
  /-- whether the pending switch waits for the precentor's commit, 1 bit; 11 R387; reset 0 -/
  switchHeld : Bool := false
  /-- the device time at which activate completed, 64 bits; 04 R141; reset 0 -/
  switchAt : Nat := 0
  /-- the target slot of the install in progress; 04 R138; reset none -/
  installing : Option Nat := none
  /-- whether a commit verification runs, 1 bit; 04 R140; reset 0 -/
  committing : Bool := false
  /-- INSTALL_BYTES_RECEIVED, 32 bits; 04 R139; reset 0 -/
  received : Nat := 0
  /-- INSTALL_STATUS, 32 bits; 04 R139; reset 0 -/
  installStatus : Nat := 0
  /-- who waits for the commit's response; 04 R140; reset local -/
  commitFor : StoreFor := .local
  /-- ACTIVE_IMAGE_ID, 32 bits; 04 R131; reset 0 DESIGN CHOICE 0 (no image), log entry 8 -/
  imageId : Nat := 0
  /-- ACTIVE_IMAGE_VERSION, 32 bits; 04 R131; reset 0 DESIGN CHOICE 0 (no image), log entry 8 -/
  imageVersion : Nat := 0
  /-- whether a new image waits to be loaded once the former one's last press stage ends, 1 bit; 04 R141; reset 0 -/
  loadPending : Bool := false
  /-- UNITS_NEEDED of the active image, 32 bits; 04 R131; reset 0 -/
  unitsNeeded : Nat := 0
  /-- Cellar claims of the active image in KiB: hub and four tiles; 04 R131; reset 0 -/
  claims : List Nat := [0, 0, 0, 0, 0]
  /-- staged records, oldest first, at most 64; 04 R150; reset empty -/
  staged : List Rec := []
  /-- records dropped since the last record 0xE00F, 32 bits; 04 R150; reset 0 -/
  dropped : Nat := 0
  /-- BOOK_NEXT_SEQUENCE, 32 bits; 04 R152; reset 0 (a new part) -/
  nextSeq : Nat := 0
  /-- BOOK_OLDEST_SEQUENCE, 32 bits; 04 R152; reset 0 (a new part) -/
  oldestSeq : Nat := 0
  /-- the ring slot the next record takes, 14 bits; 04 R149; reset 0 -/
  nextSlot : Nat := 0
  /-- BOOK_OVERWRITTEN_COUNT, 32 bits; 04 R152; reset 0 -/
  overwritten : Nat := 0
  /-- ECC_CORRECTED_COUNT, 16 bits; 04 R120; reset 0 -/
  eccCorrected : Nat := 0
  /-- BOOK_APPEND_PAYLOAD0-8, 32 bits, one copy per cantor (key cantor*16+word); 04 R154; reset 0 -/
  appendPayload : Tab Word := []
  /-- BOOK_APPEND_CONTROL CODE and SEVERITY, 18 bits per cantor; 04 R154; reset 0 -/
  appendControl : Tab Word := []
  /-- BOOK_APPEND_CONTROL.REFUSED, 1 bit per cantor; 04 R154; reset 0 -/
  appendRefused : Tab Bool := []
deriving DecidableEq, Repr

/-! ### Sensor ports (05_sensor_ports.md) -/

/-- PORT_STATE (05 R164). -/
inductive PortSt where
  | absent | powering | identifying | ready | streaming | stalled | fault
deriving DecidableEq, Repr

/-- An event that passed every stage of R178 and waits for the injector (05 R178, 07 R230). -/
structure InjEvent where
  beat : Nat
  x : Nat
  y : Nat
  pol : Bool
  graded : Bool
  value : BitVec 8
deriving DecidableEq, Repr

/-- A complete frame of a frame or spectral head in its video buffer (05 R182, 08 R260). -/
structure Frame where
  time : Nat
  beat : Nat
  width : Nat
  height : Nat
  dataType : Nat
  lines : List (List (BitVec 32))
  /-- belt speed in mm/s at its Frame Start (16 R515) -/
  speed : Int := 0
  /-- whether its Frame End has arrived -/
  complete : Bool := true
deriving DecidableEq, Repr

/-- A decoded event whose mapped time lies past the end of the beat in progress: it waits for its beat (02 R52). -/
structure EarlyEvent where
  time : Nat
  x : Nat
  y : Nat
  pol : Bool
  graded : Bool
  value : BitVec 8
deriving DecidableEq, Repr

/-- One sensor port. -/
structure Port where
  /-- PORT_STATE, 3 bits; 05 R164; reset ABSENT -/
  st : PortSt := .absent
  /-- FAULT_CAUSE, 4 bits; 05 R164; reset 0 -/
  cause : Nat := 0
  /-- presence recognised, 1 bit; 05 R160; reset 0 (DESIGN CHOICE: no head plugged in), log entry 8 -/
  present : Bool := false
  /-- e-fuse SPn_PWR, 1 bit; 05 R161; reset off -/
  efuse : Bool := false
  /-- device time of the e-fuse's last change, 64 bits; 05 R164; reset none (no change since power-on) -/
  efuseAt : Option Nat := none
  /-- device time of entry to the present state, 64 bits; 05 R164; reset 0 -/
  since : Nat := 0
  /-- identity read attempts made, 2 bits; 05 R166; reset 0 -/
  attempts : Nat := 0
  /-- whether an identity read runs, 1 bit; 05 R164; reset 0 -/
  reading : Bool := false
  /-- device time at which the last attempt began, 64 bits; 05 R166; reset 0 -/
  readAt : Nat := 0
  /-- whether an attempt was acknowledged, 1 bit; 05 R166; reset 0 -/
  acked : Bool := false
  /-- the head's record, 256 bytes; 05 R168; reset empty (zeros) -/
  record : List Byte := []
  /-- PORT_POWER_MW of the head in READY and later, 16 bits; 05 R162; reset 0 -/
  powerMw : Nat := 0
  /-- reserved Cellar region, offset and length; 05 R169; reset none -/
  region : Option (Nat × Nat) := none
  /-- the port buffer of 256 KiB: arrival times and the words still to be decoded, oldest first; 05 R174; reset empty -/
  buffer : List (Nat × List (BitVec 32)) := []
  /-- the µs up to which words were decoded, 64 bits; 05 R174 (model's own record); reset 0 -/
  bufAt : Nat := 0
  /-- words decoded in that µs; 05 R174 (model's own record); reset 0 -/
  bufUsed : Nat := 0
  /-- discarding up to the next TIME_HIGH after an overflow, 1 bit; 05 R174; reset 0 -/
  skipping : Bool := false
  /-- a VECTOR word that waits for its MASK word, 32 bits; 05 R171; reset none -/
  vector : Option (BitVec 32) := none
  /-- current row, 11 bits; 05 R172; reset none -/
  row : Option Nat := none
  /-- current head time, 40 bits; 05 R172; reset none -/
  headTime : Option Nat := none
  /-- head time of the last TIME_HIGH, 40 bits; 05 R175; reset none -/
  lastHigh : Option Nat := none
  /-- arrival of the last TIME_HIGH, 64 bits; 05 R175; reset 0 -/
  lastHighAt : Nat := 0
  /-- consecutive consistent TIME_HIGH words of time acquisition: head time and arrival, newest first, at most 4; 05 R175 -/
  acq : List (Nat × Nat) := []
  /-- anchor of the time mapping, 64 bits; 05 R175; reset 0 -/
  anchor : Nat := 0
  /-- T_anchor, 40 bits; 05 R175; reset 0 -/
  tAnchor : Nat := 0
  /-- scale, Q2.40; 05 R175; reset 0 (no head) -/
  scale : Nat := 0
  /-- TIME_HIGH words in the trim block, 7 bits; 05 R175; reset 0 -/
  blockCount : Nat := 0
  /-- head time of the first word of the block, 40 bits; 05 R175; reset 0 -/
  blockT : Nat := 0
  /-- arrival of the first word of the block, 64 bits; 05 R175; reset 0 -/
  blockAt : Nat := 0
  /-- mapped time of the last event, 64 bits; 05 R175; reset 0 -/
  lastMapped : Nat := 0
  /-- HEAD_RATE_ERROR_PPM, 16 bits signed; 05 R175; reset 0 -/
  ratePpm : Int := 0
  /-- events whose beat has not begun, oldest first; 02 R52 (model's own record); reset empty -/
  early : List EarlyEvent := []
  /-- hot-pixel counts of the beats in progress: key beat * 2^22 + y * 2^11 + x, saturating at 15; 05 R179 -/
  hotCounts : Tab Nat := []
  /-- hot-pixel table: pixel (y * 2^11 + x) to hot-beat count, 256 for MASKED, at most 4096; 05 R179; reset empty -/
  hotTable : Tab Nat := []
  /-- mapped time of the last passed event per pixel; 05 R180; reset none (0 with key absent) -/
  refractory : Tab Nat := []
  /-- events that reached the budget stage per beat; 05 R181; reset 0 -/
  budgetSeen : Tab Nat := []
  /-- events kept per beat; 05 R181; reset 0 -/
  budgetKept : Tab Nat := []
  /-- device times of the packets discarded within the last second; 05 R158; reset empty -/
  csiDiscards : List Nat := []
  /-- accepted events waiting for the injector; 07 R230; reset empty -/
  injq : List InjEvent := []
  /-- time of the frame being received, with its beat and the belt speed at its Frame Start; 05 R182; reset none -/
  frameAt : Option Frame := none
  /-- lines of the frame being received, newest first; 05 R182; reset empty -/
  frameLines : List (List (BitVec 32)) := []
  /-- whether a line of that frame had another length than the record's, 1 bit; 05 R182; reset 0 -/
  frameBad : Bool := false
  /-- the last complete frames, newest first, at most 4; 05 R182, 08 R260; reset empty -/
  frames : List Frame := []
deriving DecidableEq, Repr

/-! ### Voice cores (06_voice_cores.md) and event routing (07_event_routing.md) -/

/-- CORE_STATE (06 R191). -/
inductive CoreSt where
  | disabled | loading | loaded | running | fault
deriving DecidableEq, Repr

/-- Where a VN1 copy goes (07 R226). -/
inductive VnDest where
  | none | core (c : Nat) | gateway | edge (d : Dir)
deriving DecidableEq, Repr

/-- A flit: a packet and its sideband (07 R226), with the stage it was sent in (R241). -/
structure Flit where
  pkt : Packet
  /-- beat it targets (06 R193) -/
  target : Nat
  /-- stage beat it belongs to for shedding (07 R241) -/
  stage : Nat
  /-- rank it was sent in, for a DELAY 0 SPIKE (06 R196) -/
  rank : Nat
  /-- whether it travels on VN1 (07 R234) -/
  vn1 : Bool := false
  /-- hops taken (07 R228) -/
  hops : Nat := 0
  /-- CLASS, 2 bits; `none` before its entry router's lookup -/
  cls : Option (Fin 4) := none
  /-- DEST of its VN1 copy -/
  dest : VnDest := .none
deriving DecidableEq, Repr

/-- A copy that waits at a router for its output (07 R232). -/
structure RCopy where
  flit : Flit
  inp : Inp
  out : Dir
  /-- which input buffer slot still holds it; copies in a residue buffer hold none -/
  slot : Option Nat
  /-- the output whose residue buffer holds it, for a copy without a slot (07 R232) -/
  held : Dir := .loc
  /-- which escape made it, for the VN1 copies of one escape (07 R234) -/
  esc : Option Nat := none
  /-- the leaf entries of its table entry, for an escape (07 R234) -/
  leaves : List Nat := []
  /-- whether it was routed by the default route -/
  byDefault : Bool := false
  /-- whether its age boosts it (07 R235) -/
  boosted : Bool := false
deriving DecidableEq, Repr

/-- One voice core. Its window lies in memory, its register block in the register table, its counters in the
object dictionary. -/
structure VCore where
  /-- CORE_STATE, 3 bits; 06 R191; reset DISABLED -/
  st : CoreSt := .disabled
  /-- CLEARING, 1 bit; 06 R191; reset 0 -/
  clearing : Bool := false
  /-- CORE_CONTROL.COMMIT reads 1 until the check is done, 1 bit; 06 R214; reset 0 -/
  committing : Bool := false
  /-- LOAD_ERROR, 8 bits; 06 R205; reset 0 -/
  loadError : Nat := 0
  /-- LOAD_REFUSED, 1 bit; 06 R191; reset 0 -/
  loadRefused : Bool := false
  /-- UNCORRECTED, 1 bit; 06 R217; reset 0 -/
  uncorrected : Bool := false
  /-- ECC_CORRECTED, 8 bits, corrected reads since reset; 06 R214; reset 0 -/
  ecc : Nat := 0
  /-- the oldest beat whose stave entries are not consumed, 48 bits; 06 R193; reset 0 -/
  oldest : Nat := 0
  /-- touched stave entries, key slot * 16 + entry; 06 R194; reset none touched -/
  touched : Tab Bool := []
  /-- packets at the core's input not accepted yet, oldest first; 06 R206; reset empty -/
  inbox : List Flit := []
  /-- packets of fired slots waiting to be sent, oldest first; 06 R211, R212; reset empty -/
  outbox : List Flit := []
deriving DecidableEq, Repr

/-- One router (07 R223 to R240). -/
structure Router where
  /-- copies waiting for an output, oldest first; 07 R232; reset empty -/
  copies : List RCopy := []
  /-- number of the next input buffer slot identity; bookkeeping of R232; reset 0 -/
  nextSlot : Nat := 0
  /-- round-robin pointers per output and virtual network (key 2 * output + vn); 07 R237; reset LOCAL -/
  ptr : Tab Nat := []
  /-- outputs whose last grant was boosted; 07 R237; reset none -/
  afterBoost : Tab Bool := []
  /-- the input buffer slot that is LOCAL's present packet, taken from one of its two feeds; 07 R224; reset none -/
  localHead : Option Nat := none
  /-- whether that packet or the last one came from the injector; 07 R224; reset 0 -/
  lastInj : Bool := false
deriving DecidableEq, Repr

/-- A key/mask table entry (07 R229). -/
structure REntry where
  value : BitVec 32 := 0
  mask : BitVec 32 := 0
  route : BitVec 8 := 0
  priority : BitVec 8 := 0
  leafBase : Nat := 0
  leafCount : Nat := 0
deriving DecidableEq, Repr

/-- The ingest map of a port (07 R230, R249). -/
structure IngestMap where
  tag : Nat
  chFell : Nat
  chRose : Nat
  chGraded : Nat
  shift : Nat
  polPayload : Nat
  entryCore : Nat
deriving DecidableEq, Repr

/-- The voice fabric: cores, routers, tables, credits and ledger. -/
structure Fabric where
  /-- the voice cores, 256; 06 R191; reset DISABLED -/
  cores : Tab VCore := []
  /-- VOICE_RANK_COUNT, 4 bits; 06 R213; reset 0 (object 0x4000.01's default) -/
  rankCount : Nat := 0
  /-- LAST_STAGE_BEAT, 48 bits; 06 R220; reset 0 -/
  lastStage : Nat := 0
  /-- LAST_STAGE_UPDATES, 32 bits; 06 R220; reset 0 -/
  lastUpdates : Nat := 0
  /-- LAST_STAGE_FIRES, 32 bits; 06 R220; reset 0 -/
  lastFires : Nat := 0
  /-- synaptic updates made so far per target beat modulo 16; 06 R220; reset 0 -/
  updates : Tab Nat := []
  /-- fires of the voice stage in progress; 06 R220; reset 0 -/
  fires : Nat := 0
  /-- the routers, 256; 07 R223; reset idle -/
  routers : Tab Router := []
  /-- table entries, key router * 1024 + index; 07 R229; reset all zero -/
  entries : Tab REntry := []
  /-- leaf entries, key router * 2048 + index; 07 R229; reset 0 -/
  leaves : Tab Nat := []
  /-- ENTRY_COUNT per router, 11 bits; 07 R248; reset 0 -/
  entryCount : Tab Nat := []
  /-- DEFAULT_ROUTE per router, 3 bits; 07 R248; reset 0 -/
  defaultRoute : Tab Nat := []
  /-- ingest maps, one per port; 07 R249; reset none -/
  ingestMaps : Tab (Option IngestMap) := []
  /-- flits on the link into a router input (key (router * 8 + input) * 2 + vn), oldest first; 07 R239; reset none -/
  onLink : Tab (List Flit) := []
  /-- sender's credits per link direction and virtual network, 4 bits; 07 R239; reset 8 -/
  credits : Tab Nat := []
  /-- credits on their way back, same key; 07 R239; reset 0 -/
  creditsBack : Tab Nat := []
  /-- copies in the gateway's buffers, waiting for Choir Link, oldest first: destination ID, whether it is the last copy
  of its packet, and the packet; 07 R225, 11 R374, R376; reset empty -/
  exports : List (Nat × Bool × Flit) := []
  /-- the ledger, 16 sets of 4 wrapping 32-bit terms (key set * 4 + term: injected, delivered, shed, unrouted);
  07 R244; reset 0 -/
  ledger : Tab Word := []
  /-- TABLE_STATUS bits per tile (bit 0 WRITE_REFUSED, bit 1 BAD_VALUE); 07 R247; reset 0 -/
  tableStatus : Tab Nat := []
  /-- the beat whose stage is being shed and the highest class discarded so far (4: everything); 07 R241; reset none -/
  shedFrom : Option (Nat × Nat) := none
deriving DecidableEq, Repr

/-! ### Press engines, dispatcher and Blend (08_press_and_blend.md) -/

/-- TASK_STATE (08 R263). -/
inductive TaskSt where
  | free | waiting | ready | running | done | cancelled
deriving DecidableEq, Repr

/-- A task descriptor's fields (08 R262). -/
structure TaskDesc where
  addr : Nat := 0
  count : Nat := 0
  /-- 0 engine 2n, 1 engine 2n+1, 2 either, 3 Blend unit -/
  engine : Nat := 0
  /-- DETACH -/
  detach : Bool := false
  /-- POST -/
  post : Bool := false
  /-- DEP_COUNT -/
  depCount : Nat := 0
  /-- TASK_ID -/
  taskId : Nat := 0
  /-- dependents as slot keys tile * 1024 + slot -/
  dependents : List Nat := []
deriving DecidableEq, Repr

/-- One task slot, keyed tile * 1024 + slot (08 R262, R263). -/
structure Task where
  st : TaskSt := .free
  cause : Nat := 0
  desc : TaskDesc := {}
  dep : Nat := 0
  /-- when it became READY, in the order of the dispatcher's changes (R267) -/
  readyNo : Nat := 0
  /-- when its unit started it -/
  startedAt : Nat := 0
  /-- the beat a template task is bound to (R269) -/
  beat : Option Nat := none
  /-- next command -/
  pc : Nat := 0
  /-- the task's input time, none if it has none (R260) -/
  inputTime : Option Nat := none
  /-- whether its input is marked invalid (R260) -/
  inputInvalid : Bool := false
  /-- beat number at its end and its run time in µs, for the completion item (R268) -/
  endBeat : Nat := 0
  /-- its run time in µs (R268) -/
  runUs : Nat := 0
  /-- the dispatcher's cycle in which it ended (09 R302) -/
  endNo : Nat := 0
deriving DecidableEq, Repr

/-- A capture map entry (08 R274, R287). -/
structure CapEntry where
  core : Nat
  var : Nat
  shift : Nat
  first : Nat
  count : Nat
  slateByte : Nat
deriving DecidableEq, Repr

/-- One slate buffer's bits (08 R272). -/
structure SlateBuf where
  tov : Nat := 0
  valid : Bool := false
  committed : Bool := false
  /-- the sample, for a WEIGHT source -/
  weight : BitVec 64 := 0
deriving DecidableEq, Repr

/-- One source of the Blend unit (08 R272). -/
structure Source where
  kind : Nat := 0
  mask : Bool := false
  port : Nat := 0xFF
  chBase : Nat := 0
  chCount : Nat := 0
  absentFactor : Nat := 0
  maxAge : Nat := 0
  slateOff : Nat := 0
  capture : List CapEntry := []
  absent : List Byte := []
  buf0 : SlateBuf := {}
  buf1 : SlateBuf := {}
  /-- which buffer holds the latest slate -/
  latest : Option Bool := none
  /-- whether the source stands replaced, for records 0xE310 and 0xE311 -/
  replaced : Bool := false
deriving DecidableEq, Repr

/-- What GATHER found for a beat, kept for FINALISE (08 R277 to R282). -/
structure Gathered where
  beat : Nat := 0
  mask : BitVec 8 := 0
  oldestAge : Nat := 0xFFFFFFFF
  zones : BitVec 8 := 0
  weight : BitVec 32 := 0x80000000
  weightStatus : BitVec 8 := 0
  noWeight : Bool := true
deriving DecidableEq, Repr

/-- The press dispatchers, engines and the Blend unit. -/
structure Press where
  /-- task slots, key tile * 1024 + slot; 08 R262; reset FREE -/
  tasks : Tab Task := []
  /-- number the next READY change takes; 08 R267; reset 0 -/
  readyNo : Nat := 0
  /-- slot key run by engine 0-7 or the Blend unit (key 8); 08 R257; reset none -/
  running : Tab (Option Nat) := []
  /-- engines offline; 08 R290; reset none -/
  offline : Tab Bool := []
  /-- the slot of the template's FINALISE; 08 R271; reset none -/
  finaliseSlot : Option Nat := none
  /-- TEMPLATE_COUNT per tile, 10 bits; 08 R269; reset 0 -/
  templateCount : Tab Nat := []
  /-- template descriptors, key tile * 512 + slot; 08 R286; reset none -/
  templates : Tab TaskDesc := []
  /-- SUBMIT_CONTROL.REFUSED per tile, 1 bit; 08 R268; reset 0 -/
  refused : Tab Bool := []
  /-- REFUSE_CAUSE per tile, 8 bits; 08 R268; reset 0 -/
  refuseCause : Tab Nat := []
  /-- CANCEL_MISSED per tile, 1 bit; 08 R266; reset 0 -/
  cancelMissed : Tab Bool := []
  /-- LAST_PRESS_BEAT, 48 bits; 08 R291; reset 0 -/
  lastBeat : Nat := 0
  /-- LAST_PRESS_US, 32 bits; 08 R291; reset 0 -/
  lastUs : Nat := 0
  /-- device time at which the press stage in progress started; 08 R291; reset 0 -/
  stageAt : Nat := 0
  /-- the eight sources; 08 R272; reset unused -/
  sources : Tab Source := []
  /-- IMAGE_ID of the image the fabric holds, 32 bits; 08 R283; reset 0 DESIGN CHOICE 0 (no image), log entry 8 -/
  loadedId : Nat := 0
  /-- SOURCE_COUNT, 8 bits; 08 R291; reset 0 -/
  sourceCount : Nat := 0
  /-- CLASS_COUNT, 16 bits; 08 R291; reset 0 -/
  classCount : Nat := 0
  /-- class table: CLASS_ID + 65536 * ATTR per index; 08 R287; reset 0 -/
  classes : Tab Nat := []
  /-- SCORE_OFFSET, 32 bits; 08 R287; reset 0 -/
  scoreOff : Nat := 0
  /-- GRID_OFFSET, 32 bits; 08 R287; reset 0 -/
  gridOff : Nat := 0
  /-- STOP_MIN, 8 bits; 08 R287; reset 0 -/
  stopMin : Nat := 0
  /-- ZONE_EMPTY_MIN, 8 bits; 08 R287; reset 0 -/
  zoneEmptyMin : Nat := 0
  /-- what the last GATHER found; 08 R277; reset nothing -/
  gathered : Gathered := {}
  /-- LAST_VERDICT, 64 bytes; 08 R285; reset zeros -/
  lastVerdict : List Byte := []
  /-- NEXT_SEQUENCE, 32 bits; 08 R291; reset 0 -/
  nextSeq : BitVec 32 := 0
  /-- whether the next verdict is the first since ingest started, 1 bit; 08 R283; reset 0 -/
  firstPending : Bool := false
  /-- published records waiting for VERDICT_QUEUE, oldest first; 08 R285; reset empty -/
  verdictQ : List (List Byte) := []
  /-- zone states at the starts of the last 32 beats: beat number and states; 08 R280; reset empty -/
  zoneSnaps : List (Nat × BitVec 8) := []
deriving DecidableEq, Repr

/-! ### Queues (09_queues.md) -/

/-- Q_STATE (09 R314). -/
inductive QSt where
  | disabled | enabled | flushPending | disablePending
deriving DecidableEq, Repr

/-- A committed packet: its whole length, the index of its next item, and the items left. -/
structure QPkt where
  length : Nat
  index : Nat
  items : List (BitVec 128)
deriving DecidableEq, Repr

/-- One level: its packets, oldest first, credits, and for SPILL how many of its items, oldest first, lie in the
head and in the middle (the rest lies in the tail). The items of the middle lie in package DRAM; what `pkts` holds for them
is replaced by what is read back (09 R297). -/
structure QLevel where
  pkts : List QPkt := []
  credits : Nat := 0
  returning : Nat := 0
  headN : Nat := 0
  midN : Nat := 0
  /-- where the next item enters the middle ring -/
  midW : Nat := 0
  /-- items of the head read back from the middle with an uncorrectable error, as positions from the front -/
  badN : List Nat := []
  /-- write and read pointers of a RING level (09 R296) -/
  wr : Nat := 0
  rd : Nat := 0
deriving DecidableEq, Repr

/-- Which hardware producer waits with a packet (09 R302). -/
inductive Producer where
  | dispatcher (t : Nat) (slot : Nat) | blend | video (st : Nat) | mover (m : Nat)
deriving DecidableEq, Repr

/-- One queue. -/
structure Queue where
  /-- Q_STATE, 2 bits; 09 R314; reset DISABLED -/
  st : QSt := .disabled
  /-- levels; 09 R295; reset empty -/
  levels : Tab QLevel := []
  /-- number of levels taken at enable; 09 R295; reset 0 -/
  levelCount : Nat := 0
  /-- level capacity taken at enable; 09 R295; reset 0 -/
  levelCap : Nat := 0
  /-- storage taken at enable: SPILL; 09 R295; reset RING -/
  spill : Bool := false
  /-- the open firmware packet: cantor, level, length, since; 09 R300; reset none -/
  opened : Option (Nat × Nat × Nat × Nat) := none
  /-- the assembly buffer, items in order; 09 R299; reset empty -/
  assembly : List (BitVec 128) := []
  /-- the level of the packet in progress of the read stream; 09 R306; reset at a boundary -/
  stream : Option Nat := none
  /-- the level selected for the pop that waits for a refill; 09 R309; reset none -/
  chosen : Option Nat := none
  /-- when the read stream last advanced; 09 R314; reset 0 -/
  streamAt : Nat := 0
  /-- run count of R307; 09 R307; reset 0 -/
  run : Nat := 0
  /-- rotating pointer of R307, none before its first use; 09 R307; reset none -/
  rotor : Option Nat := none
  /-- last item popped since enable; 09 R308; reset zeros -/
  lastItem : BitVec 128 := 0
  /-- ABOVE, 1 bit; 09 R311; reset 0 -/
  above : Bool := false
  /-- Q_IRQ.PENDING, 4 bits; 09 R311; reset 0 -/
  irqPending : BitVec 4 := 0
  /-- Q_IRQ.ENABLE, 4 bits; 09 R318; reset 0 -/
  irqEnable : BitVec 4 := 0
  /-- CREDIT_FAULT, 1 bit; 09 R304; reset 0 -/
  creditFault : Bool := false
  /-- UNDERRUN, 1 bit; 09 R308; reset 0 -/
  underrun : Bool := false
  /-- EMPTY_MODE and ANTI_STARVE in force, taken at packet boundaries; 09 R317; reset 0 -/
  emptyMode : Nat := 0
  antiStarve : Bool := false
  /-- cantors whose pop waits for a SPILL refill; 09 R309; reset none -/
  waiting : List Nat := []
deriving DecidableEq, Repr

/-- The Queue unit, page 0x18. -/
structure QueueUnit where
  /-- the queues, 32; 09 R295; reset DISABLED -/
  queues : Tab Queue := []
  /-- PUSH_DATA0-3 as one item per cantor and queue (key queue * 8 + cantor), 128 bits; 09 R318; reset 0 -/
  pushData : Tab (BitVec 128) := []
  /-- PUSH_CONTROL fields FIRST, LENGTH and LEVEL, same key, 16 bits; 09 R318; reset 0 -/
  pushControl : Tab Nat := []
  /-- PUSH_CONTROL REFUSE_CAUSE with REFUSED (0 when not refused), same key, 4 bits; 09 R318; reset 0 -/
  pushRefused : Tab Nat := []
  /-- POP_DATA0-3 latch, same key, 128 bits; 09 R305; reset 0 -/
  popData : Tab (BitVec 128) := []
  /-- POP_STATUS latch, same key, 32 bits; 09 R318; reset 0 -/
  popStatus : Tab Word := []
  /-- FC0-FC3, 4 bits; 09 R312; reset low -/
  fc : BitVec 4 := 0
deriving DecidableEq, Repr

/-! ### Cellar, caches and the memory model (10_cellar_and_memory_model.md), access errors (01 R31 to R33) -/

/-- Directory state of a line (10 R329). -/
inductive DirSt where
  | i | s | e | m | wbPending
deriving DecidableEq, Repr

/-- A request queued behind a writeback: the cantor, whether it asks to write, and the L2 cycle in which it reached the
slice (10 R331). -/
structure DirReq where
  cantor : Nat
  write : Bool
  cycle : Nat
deriving DecidableEq, Repr

/-- A directory entry: its state, the cantors whose data L1 holds the line, and the requests queued behind a writeback,
in the order in which they are served. -/
structure DirLine where
  st : DirSt := .i
  holders : List Nat := []
  queue : List DirReq := []
deriving DecidableEq, Repr

/-- Bytes within one line, at an offset of the own package (10 R354). -/
structure Piece where
  addr : Nat
  bytes : List Byte
deriving DecidableEq, Repr

/-- A fence that waits for answers from other packages (10 R349): its cantor, whether it waits for the stores
(FENCE.S SYSTEM), and the register that takes its status (none for a FENCE). -/
structure FenceWait where
  cantor : Nat
  system : Bool
  rd : Option Nat
deriving DecidableEq, Repr

/-- A line that the Cantor cluster holds with stores not yet in backing memory (10 R347, R349): its 64 bytes and
the cantors whose stores it holds. -/
structure CLine where
  bytes : List Byte
  storers : List Nat
deriving DecidableEq, Repr

/-- MOVER_STATE (10 R341). -/
inductive MoverSt where
  | disabled | idle | active | aborting
deriving DecidableEq, Repr

/-- A started descriptor (10 R340). -/
structure DescRun where
  index : Nat
  addr : Nat
  scope : Nat
  post : Bool
  irq : Bool
  queue : Nat
  tag : Nat
  result : Nat
  kind : Nat
  moved : Nat
  /-- SRC (the pattern of a FILL), DST and LENGTH -/
  src : Nat := 0
  /-- DST -/
  dst : Nat := 0
  /-- LENGTH -/
  len : Nat := 0
  /-- FILL -/
  fill : Bool := false
  /-- source bytes read so far; every source byte is read before the first write (R337) -/
  got : List Byte := []
  /-- bytes of DST to write: LENGTH, or fewer once a line failed (R340) -/
  goal : Nat := 0
  /-- a remote request of it awaits its response (11 R379) -/
  waiting : Bool := false
deriving DecidableEq, Repr

/-- One cellar mover (10 R339 to R343). -/
structure Mover where
  /-- MOVER_STATE, 2 bits; 10 R341; reset DISABLED -/
  st : MoverSt := .disabled
  /-- RING_BASE, 48 bits; 10 R343; reset 0 -/
  base : Nat := 0
  /-- SIZE_CODE, 3 bits; 10 R343; reset 0 -/
  size : Nat := 0
  /-- RING_CONFIG.ENABLE, 1 bit; 10 R343; reset 0 -/
  enable : Bool := false
  /-- TAIL, 16 bits; 10 R339; reset 0 -/
  tail : Nat := 0
  /-- HEAD, 16 bits; 10 R339; reset 0 -/
  head : Nat := 0
  /-- descriptors started and not completed, in ring order; 10 R340; reset none -/
  flight : List DescRun := []
  /-- whether a descriptor since ENABLE ended other than DONE, 1 bit; 10 R340; reset 0 -/
  lastBad : Bool := false
  /-- CONFIG_ERROR, 1 bit; 10 R343; reset 0 -/
  configError : Bool := false
  /-- TAIL_ERROR, 1 bit; 10 R339; reset 0 -/
  tailError : Bool := false
  /-- IRQ_PENDING, 1 bit; 10 R342; reset 0 -/
  irqPending : Bool := false
  /-- COMPLETED_COUNT, 32 bits wrapping; 10 R343; reset 0 -/
  completed : Word := 0
  /-- the completion item waiting for credit: its queue and item; 10 R342; reset none -/
  item : Option (Nat × BitVec 128) := none
  /-- whether IRQ_PENDING is to be set once that item is written; 10 R342; reset 0 -/
  itemIrq : Bool := false
deriving DecidableEq, Repr

/-- Who waits for a remote response (11 R380). -/
inductive RemoteFor where
  | cantorLoad (c : Nat) | cantorStore (c : Nat) | moverRead (m : Nat) (idx : Nat) (dst : Nat)
  | moverWrite (m : Nat) (idx : Nat)
deriving DecidableEq, Repr

/-- A remote request without its response yet (11 R379, R380). -/
structure RemoteReq where
  tag : Nat
  who : RemoteFor
  addr : Nat
  len : Nat
  dest : Nat
  sentAt : Nat
deriving DecidableEq, Repr

/-- A transaction that waits for a place (10 R335): a remote request, or a line request behind a writeback. -/
inductive WaitTx where
  | remote (who : RemoteFor) (wr : Bool) (addr len : Nat) (data : List Byte)
  | line (r : DirReq) (l : Nat)
deriving DecidableEq, Repr

/-- Caches, directory, movers and the access-error capture. -/
structure MemUnit where
  /-- directory, per line number (offset / 64); 10 R329; reset I -/
  dir : Tab DirLine := []
  /-- lines whose newest data the Cantor cluster holds, per line number; 10 R347; reset none -/
  cluster : Tab (Option CLine) := []
  /-- lines the L2 holds, as line numbers; 10 R326; reset none -/
  l2 : List Nat := []
  /-- stores of a cantor in its store buffer of 16 entries, not yet performed, oldest first; 10 R345, R358; reset none -/
  sbuf : Tab (List Piece) := []
  /-- writes of a mover at SCOPE CORE not yet visible outside it, oldest first; 10 R344, R351; reset none -/
  late : Tab (List Piece) := []
  /-- transactions that wait for a place, oldest first; 10 R335; reset none -/
  waitq : List WaitTx := []
  /-- LR reservations: line number and whether still unwritten, per cantor; 10 R328; reset none -/
  reservation : Tab (Option Nat) := []
  /-- lines that hold an uncorrectable error (Cellar and voice-core windows), per line number; 10 R324; reset none -/
  poison : Tab Bool := []
  /-- CELLAR_ECC_CORRECTED, 32 bits; 10 R343; reset 0 -/
  eccCorrected : Nat := 0
  /-- CELLAR_ECC_UNCORRECTED, 32 bits; 10 R343; reset 0 -/
  eccUncorrected : Nat := 0
  /-- the movers, 16; 10 R339; reset DISABLED -/
  movers : Tab Mover := []
  /-- remote requests in flight, oldest first; 11 R380; reset none -/
  remote : List RemoteReq := []
  /-- next remote tag, 16 bits; 11 R379; reset 0 -/
  nextTag : Nat := 0
  /-- fences that wait for answers from other packages; 10 R349; reset none -/
  fences : List FenceWait := []
  /-- ACCESS_ERROR_STATUS.VALID, 1 bit; 01 R31; reset 0 -/
  errValid : Bool := false
  /-- ACCESS_ERROR_STATUS.SOURCE, 8 bits; 01 R31; reset 0 -/
  errSource : Nat := 0
  /-- ACCESS_ERROR_STATUS.KIND, 4 bits; 01 R31; reset 0 -/
  errKind : Nat := 0
  /-- ACCESS_ERROR_STATUS.COUNT, 12 bits; 01 R33; reset 0 -/
  errCount : Nat := 0
  /-- ACCESS_ERROR_ADDR, 48 bits; 01 R31; reset 0 -/
  errAddr : Nat := 0
deriving DecidableEq, Repr

/-- A Trellis link (01 R23). -/
structure TLink where
  /-- the flit being replayed, by the sender's number of it; 01 R23 (model's own record); reset 0 -/
  flit : Nat := 0
  /-- consecutive replays of that flit, up to 16; 01 R23; reset 0 -/
  replays : Nat := 0
  /-- whether the retraining after 16 replays failed; 01 R23; reset 0 -/
  failed : Bool := false
  /-- whether the link is disabled, 1 bit; 01 R23; reset 0 (enabled) -/
  disabled : Bool := false
deriving DecidableEq, Repr

/-- The Trellis (01 R22 to R24): links keyed tile * 4 + link. -/
structure Trellis where
  /-- the links; 01 R23; reset enabled -/
  links : Tab TLink := []
  /-- since when the halt of R24 is due, once the last link of a tile failed; 01 R24; reset none -/
  haltDue : Option Nat := none
deriving DecidableEq, Repr

/-! ### Choir Link (11_choir_link.md) -/

/-- CHOIR_ROLE (11 R368). -/
inductive Role where
  | standalone | precentor | follower | joining
deriving DecidableEq, Repr

/-- CHOIR_BEAT_STATE (11 R373). -/
inductive ChoirBeat where
  | notFollowing | aligning | following | holdover | freeRun | halted
deriving DecidableEq, Repr

/-- State of a Choir Link port (11 R362). -/
inductive ClPort where
  | down | training | up
deriving DecidableEq, Repr

/-- A link frame (11 R364): its header by field and its payload; FLITS and CRC follow from these. -/
structure LinkFrame where
  kind : Nat
  /-- CLASS -/
  cls : Nat
  src : Nat
  dst : Nat
  /-- bit 0 BROADCAST, bit 1 UNASSIGNED, bit 2 NAK -/
  flags : Nat
  seq : BitVec 16 := 0
  ack : BitVec 16 := 0
  creditClass : Nat := 0
  creditCount : Nat := 0
  /-- KIND_FIELD -/
  field : Nat := 0
  payload : List Byte := []
  /-- the port a forwarded frame came in by; not part of the frame -/
  via : Option Nat := none
deriving DecidableEq, Repr

/-- The message of a sender and TAG whose segments are being joined (11 R367). -/
structure Partial where
  src : Nat
  bcast : Bool
  tag : Nat
  /-- the SEGMENT expected next -/
  next : Nat
  /-- time of its first segment -/
  since : Nat
  /-- whether it is discarded, and its further segments with it -/
  dead : Bool := false
deriving DecidableEq, Repr

/-- The path to a member through a port (11 R363). -/
structure LinkPath where
  hops : Nat := 0
  /-- own beat in which a frame of the member last came by it -/
  heard : Nat := 0
deriving DecidableEq, Repr

/-- The broadcasts of one sender: the port that brings them first, and its last TAG. -/
structure BcastSeen where
  port : Nat := 0
  tag : Nat := 0
  any : Bool := false
deriving DecidableEq, Repr

/-- An EVENTS slot that waits for import (11 R375), with the port and the flit that brought it. -/
structure Import where
  f : Flit
  /-- none once the port is down -/
  port : Option Nat
  /-- class of the frame -/
  cls : Nat
  flit : Nat
deriving DecidableEq, Repr

/-- One Choir Link port. -/
structure ClPortSt where
  st : ClPort := .down
  /-- replays in a row of one frame, and that frame's LINK_SEQ -/
  replays : Nat := 0
  replayOf : BitVec 16 := 0
  /-- whether the training under way is the retraining after 16 replays -/
  retraining : Bool := false
  /-- last frame received good, LINK_SEQ -/
  lastGood : BitVec 16 := 0xFFFF
  /-- LINK_SEQ of the next frame sent -/
  seq : BitVec 16 := 0
  /-- replay buffer: frames sent and not acknowledged, oldest first -/
  sent : List LinkFrame := []
  /-- frames that wait for link credit, oldest first -/
  txq : List LinkFrame := []
  /-- flits of each class to give back to the neighbour (key class) -/
  owed : Tab Nat := []
  /-- last HELLO seen from the neighbour -/
  neighbour : Option HelloMsg := none
  /-- link credits of the five classes, flits (key class) -/
  credits : Tab Nat := []
deriving DecidableEq, Repr

/-- A pending membership change (11 R370, R383). -/
structure MemberChange where
  generation : Nat
  /-- era of effect -/
  era : Nat
  /-- serials by package ID from then on -/
  serials : List Nat
  /-- offsets by package ID from then on -/
  offsets : List Int
deriving DecidableEq, Repr

/-- A report of one member for a barrier or a stage end (11 R377). -/
structure Report where
  src : Nat
  beat : Nat
  /-- the rank, or none for a stage end -/
  rank : Option Nat
  /-- per member: packets sent to it and taken from it -/
  counts : List (Nat × Nat × Nat)
  /-- ledger terms of a stage end -/
  terms : LinkTerms
deriving DecidableEq, Repr

/-- The coordinated image switch the precentor runs (11 R387). -/
structure SwitchJob where
  era : Nat
  accepted : List Nat
  asker : StoreFor
deriving DecidableEq, Repr

/-- A CHOIR_KEY entry in force (11 R374) is read from the object dictionary's copy. -/
structure Choir where
  /-- CHOIR_ROLE, 2 bits; 11 R368; reset STANDALONE -/
  role : Role := .standalone
  /-- OWN_PACKAGE_ID, 4 bits; 01 R25; reset 0 -/
  ownId : Nat := 0
  /-- MEMBER_SERIAL of IDs 0-15 in force (key ID), 32 bits each; 11 R389; reset 0 -/
  serials : Tab Nat := []
  /-- beat offsets of IDs 0-15, 64 bits signed each; 11 R365; reset 0 -/
  offsets : Tab Int := []
  /-- PRECENTOR's package ID, 4 bits; 11 R369; reset 0 -/
  precentor : Nat := 0
  /-- MEMBERSHIP_GENERATION, 32 bits; 11 R386; reset 0 -/
  generation : Nat := 0
  /-- CHOIR_BEAT_STATE, 3 bits; 11 R373; reset not following -/
  beat : ChoirBeat := .notFollowing
  /-- CHOIR_BEAT_OFFSET, 64 bits signed; 11 R370; reset 0 -/
  offset : Int := 0
  /-- PATH_DELAY_NS, 32 bits; 11 R372; reset 0 -/
  pathDelay : Nat := 0
  /-- CHOIR_PHASE_ERROR, 32 bits signed; 11 R372; reset 0 -/
  phaseError : Int := 0
  /-- consecutive BEAT frames in tolerance, 3 bits; 11 R373; reset 0 -/
  good : Nat := 0
  /-- consecutive BEAT frames with error 0 while ALIGNING, 3 bits; 11 R370; reset 0 -/
  aligned : Nat := 0
  /-- the joiner's chosen beat offset; 11 R370; reset none -/
  joinOffset : Option Int := none
  /-- since when a join is to begin at the next era boundary; 11 R370; reset none -/
  joinDue : Option Nat := none
  /-- own beat number when the last BEAT frame arrived; 11 R373; reset 0 -/
  beatSeenAt : Nat := 0
  /-- distributed HOLDOVER_LIMIT in ms, 16 bits; 11 R373; reset 2000 (the entry's default) -/
  limit : Nat := 2000
  /-- distributed HOLDOVER_POLICY STOP, 1 bit; 11 R373; reset 0 -/
  policyStop : Bool := false
  /-- holdover timer of the follower, 64 bits; 11 R373; reset none -/
  holdStart : Option Nat := none
  /-- whether the precentor's fabric is halted (FABRIC_HALTED), 1 bit; 11 R373; reset 0 -/
  fabricHalted : Bool := false
  /-- LEDGER_FAIL beat to set in the next BEAT frame; 11 R378; reset none -/
  ledgerFailDue : Option Nat := none
  /-- departed IDs whose departure awaits its era boundary, with the time of detection; 11 R382; reset empty -/
  departed : List (Nat × Nat) := []
  /-- era of effect of each departure, for withheld IDs; 11 R369; reset none -/
  freedAt : Tab Nat := []
  /-- the membership change that takes effect at an era boundary; 11 R383; reset none -/
  change : Option MemberChange := none
  /-- members whose last HEARTBEAT showed another generation, with that generation; 11 R386; reset empty -/
  stale : List (Nat × Nat) := []
  /-- joiners known to the precentor: serial and state (1 aligning, 2 aligned); 11 R370; reset empty -/
  joiners : List (Nat × Nat) := []
  /-- ports CL0 and CL1; 11 R362; reset down -/
  ports : Tab ClPortSt := []
  /-- EVENTS slots received and not imported, oldest first; 11 R375; reset empty -/
  imports : List Import := []
  /-- number of the next flit of an EVENTS frame; 11 R375; reset 0 -/
  flitNo : Nat := 0
  /-- TAG of the next message to each member (keys 0-15), to all (16) and to each neighbour (17, 18), 4 bits each; 11 R367; reset 0 -/
  tags : Tab Nat := []
  /-- paths to members (key port * 16 + ID); 11 R363; reset none -/
  paths : Tab LinkPath := []
  /-- broadcasts taken of each member (key ID); 11 R363; reset none -/
  bcasts : Tab BcastSeen := []
  /-- messages being joined; 11 R367; reset empty -/
  partials : List Partial := []
  /-- beats that LINK_LEDGER_CHECK leaves out because a member departed before it reported; 11 R378; reset empty -/
  unchecked : List Nat := []
  /-- link ledger terms per target beat modulo 16; 11 R378; reset 0 -/
  ledger : Tab LinkTerms := []
  /-- packets exported to and imported from each member in the stage in progress (key ID); 11 R377; reset 0 -/
  exported : Tab Nat := []
  imported : Tab Nat := []
  /-- reports the precentor holds; 11 R377; reset empty -/
  reports : List Report := []
  /-- own report that awaits the precentor's broadcast; 11 R367; reset none -/
  ownReport : Option Report := none
  /-- ranks opened and stages ended by broadcast: beat and rank (none for the stage end); 11 R377; reset none -/
  granted : Option (Nat × Option Nat) := none
  /-- era of the coordinated switch committed last, at the precentor; 11 R387; reset none -/
  switchLast : Option Nat := none
  /-- era number of a committed coordinated switch; 11 R387; reset none -/
  switchEra : Option Nat := none
  /-- PRECENTOR_SERIAL while it is not the own one, 32 bits; 11 R389; reset 0 -/
  precSerial : Nat := 0
  /-- the precentor's ACTIVE_PERIOD as last distributed, 16 bits; 11 R370; reset 1000 DESIGN CHOICE 1000 (the default period), log entry 8 -/
  period : Nat := 1000
  /-- coordinated switch under way at the precentor; 11 R387; reset none -/
  switch : Option SwitchJob := none
  /-- CHOIR_RESET_REQUEST.REFUSED, 1 bit; 17 R530; reset 0 -/
  resetRefused : Bool := false
deriving DecidableEq, Repr

/-! ### Gates and zone counting (12_zone_counting.md) -/

/-- SEQ_STATE (12 R402). -/
inductive Seq where
  | idle | enterA | bothIn | leaveIn | enterB | bothOut | leaveOut | ambiguous | sync | faulted
deriving DecidableEq, Repr

/-- One input of a gate (12 R395 to R400). -/
structure GateInput where
  /-- raw level -/
  raw : Bool := false
  /-- stamp of the raw change being debounced -/
  since : Option Nat := none
  /-- DEBOUNCE as it applies to that raw change, in µs (12 R405) -/
  debounce : Nat := 0
  /-- accepted level -/
  accepted : Bool := false
  /-- stamps of raw changes in the chatter window, newest first -/
  changes : List Nat := []
  /-- accumulated active time in µs -/
  active : Nat := 0
  /-- device time up to which the active time is accumulated -/
  activeAt : Nat := 0
deriving DecidableEq, Repr

/-- One gate. -/
structure Gate where
  /-- SEQ_STATE, 4 bits; 12 R393; reset SYNC -/
  seq : Seq := .sync
  /-- GATE_FAULT, 2 bits; 12 R401; reset 0 -/
  fault : Nat := 0
  /-- the input that faulted (false A, true B), 1 bit; 12 R401; reset A -/
  faultInput : Bool := false
  /-- input A and input B; 12 R394; reset inactive -/
  a : GateInput := {}
  b : GateInput := {}
deriving DecidableEq, Repr

/-- One event region (12 R397). -/
structure Region where
  active : Bool := false
  /-- events counted per beat -/
  counts : Tab Nat := []
  /-- the last count taken -/
  last : Nat := 0
deriving DecidableEq, Repr

/-- ZONE_STATE (12 R412). -/
inductive ZoneSt where
  | clear | occupied | disturbed | restoring
deriving DecidableEq, Repr

/-- One zone. -/
structure Zone where
  /-- ZONE_STATE, 2 bits; 12 R412; reset CLEAR -/
  st : ZoneSt := .clear
  /-- ZONE_COUNT, 16 bits signed; 12 R407; reset 0 -/
  count : Int := 0
  /-- DISTURB_CAUSE, 8 bits; 12 R411; reset 0 -/
  cause : BitVec 8 := 0
  /-- device time of the restore request, 64 bits; 12 R412; reset 0 -/
  restoreAt : Nat := 0
  /-- RESTORE_METHOD of the restoration in progress; 12 R414; reset 0 -/
  method : Nat := 0
  /-- verdicts of the confirmation run, 5 bits; 12 R414; reset 0 -/
  run : Nat := 0
deriving DecidableEq, Repr

/-- The zone counter. -/
structure ZoneUnit where
  /-- the gates, 8; 12 R402; reset SYNC -/
  gates : Tab Gate := []
  /-- the event regions, 16; 12 R397; reset inactive -/
  regions : Tab Region := []
  /-- the zones, 4; 12 R412; reset CLEAR -/
  zones : Tab Zone := []
  /-- COUNT_EVENT_SEQUENCE, 32 bits; 12 R418; reset 0 -/
  countSeq : BitVec 32 := 0
  /-- LAST_COUNT_EVENT, 16 bytes; 12 R418; reset zeros -/
  lastEvent : List Byte := []
  /-- the pins GATE0A to GATE7B, high or low: GATEgA bit 2g, GATEgB bit 2g+1; 12 R394; reset low DESIGN CHOICE (the pins are driven
  from outside), log entry 74 -/
  pins : BitVec 16 := 0
  /-- since when each port is STALLED, plus 1 (key port); 12 R396; reset 0 (not STALLED) -/
  stalls : Tab Nat := []
deriving DecidableEq, Repr

/-! ### Belt drive and audio output (13_belt_and_audio.md) -/

/-- BELT_STATE (13 R429). -/
inductive BeltSt where
  | off | observing | braking | running | stopping | fault | sto
deriving DecidableEq, Repr

/-- An edge source of speed: last edge, the one before, and direction (13 R424); times in ns of device time, an edge before its
start being negative. -/
structure EdgeTrack where
  last : Option Int := none
  delta : Option Nat := none
  forward : Bool := true
deriving DecidableEq, Repr

/-- What the drive commands of the two gate outputs of a phase (13 R421): none, the high side (true) or the low side, and from
which ns of device time on, after the dead time. -/
structure Leg where
  side : Option Bool := none
  since : Nat := 0
deriving DecidableEq, Repr

/-- The belt drive. Speeds are held in µm/s (1000 per mm/s), so that the tests of R424 use the estimate before
truncation. -/
structure Belt where
  /-- BELT_STATE, 3 bits; 13 R429; reset OFF -/
  st : BeltSt := .off
  /-- BELT_FAULT, 3 bits; 13 R429; reset 0 -/
  fault : Nat := 0
  /-- STOP_CAUSE, 3 bits; 13 R432; reset 0 -/
  stopCause : Nat := 0
  /-- a stop request pending in BRAKING, 1 bit; 13 R429; reset 0 -/
  stopPending : Bool := false
  /-- speed estimate in µm/s, signed; 13 R424; reset 0 -/
  speed : Int := 0
  /-- Hall speed in µm/s, signed; 13 R425; reset 0 -/
  hallSpeed : Int := 0
  /-- ramp reference in µm/s, signed; 13 R426; reset 0 -/
  reference : Int := 0
  /-- integral part of the speed loop; 13 R426; reset 0 -/
  integral : Int := 0
  /-- PWM duty in 1/65536 of full; 13 R426; reset 0 -/
  duty : Int := 0
  /-- Hall code, 3 bits; 13 R423; reset 1 DESIGN CHOICE 1 (a valid code), log entry 8 -/
  hall : Nat := 1
  /-- Hall edges; 13 R424; reset none -/
  hallTrack : EdgeTrack := {}
  /-- encoder edges; 13 R424; reset none -/
  qepTrack : EdgeTrack := {}
  /-- ENCODER_POSITION, 32 bits; 13 R445; reset 0 -/
  position : BitVec 32 := 0
  /-- INDEX_POSITION, 32 bits; 13 R445; reset 0 -/
  indexPos : BitVec 32 := 0
  /-- MOTOR_CURRENT_MA, 16 bits; 13 R445; reset 0 -/
  current : Nat := 0
  /-- start of OBSERVING or of the braking timer, or end of the stopping timer, 64 bits; 13 R429; reset 0 -/
  timer : Nat := 0
  /-- commutation step commanded: Hall code and torque direction; 13 R426; reset none -/
  step : Option (Nat × Bool) := none
  /-- the gate commands of phases A, B, C (outputs MHA to MLC); 13 R421; reset none -/
  legA : Leg := {}
  legB : Leg := {}
  legC : Leg := {}
  /-- since when the Hall code is 0 or 7, µs; 13 R423; reset none -/
  hallBadAt : Option Nat := none
  /-- since when the encoder and Hall speeds differ, µs; 13 R425; reset none -/
  differAt : Option Nat := none
  /-- PWM_FREQUENCY_HZ, DEAD_TIME_NS, SPEED_KP, SPEED_KI in force since the drive left OFF; 13 R445; reset their defaults -/
  pwmHz : Nat := 20000
  deadNs : Nat := 500
  kp : Nat := 0x0100
  ki : Nat := 0x0010
  /-- since when cycles are limited without a break; 13 R428; reset none -/
  limitedSince : Option Nat := none
  /-- device time of the last limited PWM cycle; 13 R428 (model's own record); reset 0 -/
  limitedAt : Nat := 0
deriving DecidableEq, Repr

/-- CHANNEL_STATE (13 R439). -/
inductive ChanSt where
  | off | muted | playing | tripped | softStart | latched | dcFault | thermal
deriving DecidableEq, Repr

/-- One audio channel. -/
structure Channel where
  /-- CHANNEL_STATE, 3 bits; 13 R439; reset OFF -/
  st : ChanSt := .off
  /-- TRIP_INFO, 8 bits; 13 R440; reset 0 -/
  tripInfo : BitVec 8 := 0
  /-- consecutive limited PWM cycles and their sides; 13 R440; reset 0 -/
  limited : Nat := 0
  /-- device time of the last limited PWM cycle; 13 R440 (model's own record); reset 0 -/
  limitedAt : Nat := 0
  /-- sides limited in the run of limited cycles; 13 R440; reset 0 -/
  sides : BitVec 4 := 0
  /-- device times of the retries started; 13 R441; reset empty -/
  retries : List Nat := []
  /-- when the channel tripped, for the retry; 13 R441; reset 0 -/
  trippedAt : Nat := 0
  /-- start of the 10 ms move of gain and limit; 13 R438; reset 0 -/
  rampAt : Nat := 0
  /-- gain from which and to which it moves, in 2^-24; 13 R438; reset 0 -/
  gainFrom : Nat := 0
  gainTo : Nat := 0
  /-- peak limit from which and to which it moves, in µV; 13 R435, R438; reset 0 -/
  limitFrom : Nat := 0
  limitTo : Nat := 0
  /-- start of SOFT_START; 13 R439; reset 0 -/
  softAt : Nat := 0
  /-- sample last sent to the output, 16 bits; 13 R437; reset 0 -/
  sample : BitVec 16 := 0
  /-- differential output of that sample, in µV, signed; 13 R435; reset 0 -/
  out : Int := 0
deriving DecidableEq, Repr

/-- The audio output, page 0x1C. -/
structure Audio where
  /-- channels 0 and 1; 13 R439; reset OFF -/
  ch0 : Channel := {}
  ch1 : Channel := {}
  /-- AUDIO_RING_BASE, 48 bits; 13 R436; reset 0 -/
  base : Nat := 0
  /-- SIZE_CODE, 3 bits; 13 R436; reset 0 -/
  size : Nat := 0
  /-- ENABLE, 1 bit; 13 R437; reset 0 -/
  enable : Bool := false
  /-- AUDIO_WRITE, 32 bits; 13 R436; reset 0 -/
  wr : BitVec 32 := 0
  /-- AUDIO_READ, 32 bits; 13 R436; reset 0 -/
  rd : BitVec 32 := 0
  /-- CONFIG_ERROR, 1 bit; 13 R436; reset 0 -/
  configError : Bool := false
  /-- WRITE_ERROR, 1 bit; 13 R436; reset 0 -/
  writeError : Bool := false
  /-- UNDERRUN, 1 bit; 13 R437; reset 0 -/
  underrun : Bool := false
  /-- STAGE_TEMPERATURE, 0.1 degC, 16 bits signed; 13 R443; reset 250 DESIGN CHOICE 250 (25 degC), log entry 8 -/
  temperature : Int := 250
  /-- whether the gain is lowered by 6 dB, 1 bit; 13 R443; reset 0 -/
  lowered : Bool := false
  /-- whether the stage reached 150 degC and has not fallen below 120 degC, 1 bit; 13 R443; reset 0 -/
  hot : Bool := false
deriving DecidableEq, Repr

/-! ### The safety island (14_safety_island.md) -/

/-- ISLAND_STATE (14 R457). -/
inductive IslandSt where
  | selftest | locked | stopped | energised | sls | degraded | fault
deriving DecidableEq, Repr

/-- A safety input (14 R450 to R454): the accepted levels and the channel faults. -/
structure Sin where
  /-- accepted level of channel A, ON true; reset OFF -/
  a : Bool := false
  /-- accepted level of channel B, ON true; reset OFF -/
  b : Bool := false
  /-- fault conditions of channel A and of channel B: bit 0 DISCREPANCY, 1 TEST_PULSE, 2 CROSS_CIRCUIT -/
  faultA : BitVec 3 := 0
  faultB : BitVec 3 := 0
  /-- when the levels began to differ -/
  splitAt : Option Nat := none
  /-- whether channel B is the one that did not follow -/
  lateB : Bool := false
  /-- own pulses missed in a row, per channel -/
  missA : Nat := 0
  missB : Nat := 0
  /-- since when own pulses, and only those, are seen, per channel -/
  pulsesA : Option Nat := none
  pulsesB : Option Nat := none
  /-- whether both channels were accepted OFF together since a DISCREPANCY -/
  offTogether : Bool := false
  /-- since when a RESET press is held -/
  pressAt : Option Nat := none
deriving DecidableEq, Repr

/-- The safety parameter block's fields (14 R467). -/
structure SafetyCfg where
  accessCode : Nat := 0
  sin0 : BitVec 8 := 0
  sin1 : BitVec 8 := 0
  sin2 : BitVec 8 := 0
  sin3 : BitVec 8 := 0
  discrepancyMs : Nat := 0
  inputFilter : Nat := 0
  tpPulse : Nat := 0
  slsLimit : Nat := 0
  slsRamp : Nat := 0
  hallEdges : Nat := 0
  encEdges : Nat := 0
  speedDiscMs : Nat := 0
  degradedS : Nat := 0
  powerupReset : Nat := 0
  stoFbMs : Nat := 0
deriving DecidableEq, Repr

/-- The safety island, its mirror and the transfer objects. -/
structure Island where
  /-- ISLAND_STATE, 3 bits; 14 R457; reset SELFTEST (power-up of VDD_SAFE) -/
  st : IslandSt := .selftest
  /-- LOCK_CAUSE, 4 bits; 14 R458; reset 0 -/
  lockCause : Nat := 0
  /-- the cause that an internal fault leaves for the end of the self-test; 14 R463; reset none -/
  restartCause : Option Nat := none
  /-- what the island's own clock adds to device time, which restarts at a power-on the island survives; 15 R476 (the
  model's own); reset 0 -/
  epoch : Nat := 0
  /-- safety inputs SIN0-SIN3; 14 R450; reset OFF -/
  sins : Tab Sin := []
  /-- configuration in force, none in FAULT; 14 R470; reset none (unconfigured part) -/
  cfg : Option SafetyCfg := none
  /-- the block in force as 64 bytes; 14 R470; reset empty -/
  block : List Byte := []
  /-- CONFIG_GENERATION, 32 bits; 14 R470; reset 0 -/
  generation : Nat := 0
  /-- CONFIG_CRC, 32 bits; 14 R471; reset 0 -/
  crc : Nat := 0
  /-- ordinary stop line asserted by the hub, 1 bit; 14 R448; reset asserted -/
  stopLine : Bool := true
  /-- whether VDD_SAFE is out of range, which holds the island in reset, 1 bit; 14 R463; reset 0 -/
  held : Bool := false
  /-- STO_A as channel A and STO_B as channel B command it, 1 bit each; 14 R460; reset de-energised -/
  stoA : Bool := false
  stoB : Bool := false
  /-- since when a feedback differs from its commanded output; 14 R460; reset none -/
  fbSplit : Option Nat := none
  /-- start of the last pulse of TP0 and of TP1; 14 R452; reset none -/
  tp0At : Option Nat := none
  tp1At : Option Nat := none
  /-- STO_FB_A and STO_FB_B, 1 bit each; 14 R460; reset OFF -/
  fbA : Bool := false
  fbB : Bool := false
  /-- STO outputs turned off by their own current limit, 1 bit each; 18 R555; reset 0 -/
  limitedA : Bool := false
  limitedB : Bool := false
  /-- safe speeds in µm/s, signed; 14 R456; reset 0 -/
  speedHall : Int := 0
  speedEnc : Int := 0
  /-- SPEED_FAULT, 1 bit; 14 R456; reset 0 -/
  speedFault : Bool := false
  /-- since when the speeds differ; 14 R456; reset none -/
  speedSplit : Option Nat := none
  /-- since when the speeds agree with the belt moving; 14 R458; reset none -/
  speedAgree : Option Nat := none
  /-- since when both speed channels read at rest; 14 R458; reset none -/
  speedRest : Option Nat := none
  /-- device time of entry to SLS or DEGRADED; 14 R459; reset 0 -/
  slsAt : Nat := 0
  /-- whether the speed is bound by SLS_LIMIT_MMS from now on, 1 bit; 14 R459; reset 0 -/
  slsBound : Bool := false
  /-- device time of entry to DEGRADED; 14 R462; reset none -/
  degradedAt : Option Nat := none
  /-- device time STO was energised without a break, for TEST_DUE; 14 R461; reset none -/
  energisedAt : Option Nat := none
  /-- TEST_DUE, 1 bit; 14 R461; reset 0 -/
  testDue : Bool := false
  /-- DEMAND_COUNT, 32 bits; 14 R471; reset 0 -/
  demands : Nat := 0
  /-- LAST_REACTION_US, 16 bits; 14 R464; reset 0 -/
  lastReaction : Nat := 0
  /-- functions demanded in the last cycle (bit n for input n), 4 bits; 14 R453; reset 0 -/
  demanded : BitVec 4 := 0
  /-- CLOCK_DEVIATION_PPM, 32 bits signed; 14 R471; reset 0 -/
  clockPpm : Int := 0
  /-- since when the clock check passes; 14 R463; reset none -/
  clockOkAt : Option Nat := none
  /-- channel faults accepted in the last cycle, for "any further"; 14 R457; reset none -/
  knownFaults : List (Nat × Nat × Nat) := []
  /-- MIRROR_COUNTER, 32 bits; 14 R449; reset 0 -/
  mirror : BitVec 32 := 0
  /-- SLS_CAP_MMS as mirrored, 16 bits; 14 R449; reset 0 -/
  mirrorCap : Nat := 0
  /-- ISLAND_STATE as mirrored, 3 bits; 14 R449; reset SELFTEST -/
  mirrorSt : IslandSt := .selftest
  /-- the mirrored values of 0x6800.01 to .11, in order, as of the last safety cycle; 14 R449; reset empty (all 0) -/
  snap : List Nat := []
  /-- the mirrored block in force; 14 R449, R471; reset empty (all 0) -/
  snapBlock : List Byte := []
  /-- TRANSFER_STATE, 8 bits; 14 R468; reset 0 -/
  transfer : Nat := 0
  /-- TRANSFER_ECHO, 64 bytes; 14 R468; reset zeros -/
  echo : List Byte := []
  /-- CONFIRM_CODE, 16 bits; 14 R468; reset 0 -/
  confirm : Nat := 0
  /-- TRANSFER_STATUS, 32 bits; 14 R469; reset 0 -/
  transferStatus : Nat := 0
  /-- when the transfer began; 14 R468; reset 0 -/
  transferAt : Nat := 0
  /-- who waits for the response to SAFETY_CONFIRM; 14 R468; reset local -/
  transferFor : StoreFor := .local
deriving DecidableEq, Repr

/-! ### Power manager (15_power_manager.md) -/

/-- The power states (15 R481). -/
inductive PowerSt where
  | off | standby | idle | active
deriving DecidableEq, Repr

/-- The power manager, page 0x02. -/
structure Power where
  /-- POWER_STATE, 8 bits; 15 R481; reset IDLE -/
  st : PowerSt := .idle
  /-- VIN_MV, 16 bits; 15 R494; reset 24000 DESIGN CHOICE 24000 (nominal VIN), log entry 8 -/
  vin : Nat := 24000
  /-- VPORT_MV, 16 bits; 05 R166; reset 24000 DESIGN CHOICE 24000, log entry 8 -/
  vport : Nat := 24000
  /-- VCORE_MV, 16 bits; 15 R479; reset 650 (operating point 0) -/
  vcore : Nat := 650
  /-- INPUT_POWER_MW, 32 bits; 03 R91; reset 0 DESIGN CHOICE 0, log entry 8 -/
  inputMw : Nat := 0
  /-- HUB_TEMPERATURE, 0.1 degC, 16 bits signed; 15 R493; reset 250 DESIGN CHOICE 250 (25 degC), log entry 8 -/
  hubTemp : Int := 250
  /-- HOTTEST_TILE_TEMPERATURE, 0.1 degC, 16 bits signed; 15 R493; reset 250 DESIGN CHOICE 250 (25 degC), log entry 8 -/
  tileTemp : Int := 250
  /-- TILES_GATED, 4 bits; 15 R485; reset 0 -/
  gated : BitVec 4 := 0
  /-- OPERATING_POINT, 3 bits; 15 R487; reset 0 -/
  point : Nat := 0
  /-- the point decided and not yet in force; 15 R490; reset none -/
  target : Option Nat := none
  /-- commanded VCORE in mV, 16 bits; 15 R479; reset 650 -/
  commanded : Nat := 650
  /-- whether a change upward waits for VCORE to settle, 1 bit; 15 R490; reset 0 -/
  settling : Bool := false
  /-- the last PVID frame: command and data, and times refused; 15 R477; reset VOLTAGE 650 mV accepted (the second frame of power-on) -/
  pvidCmd : Nat := 1
  pvidData : Nat := 30
  pvidRefused : Nat := 0
  /-- when that frame was sent; 15 R477; reset 0 -/
  pvidAt : Nat := 0
  /-- ports whose PORT_ENABLE was 1 at the entry to STANDBY, 6 bits; 15 R484; reset 0 -/
  wakePorts : BitVec 6 := 0
  /-- thermal cap, 3 bits; 15 R493; reset 7 -/
  thermalCap : Nat := 7
  /-- brownout warning and park, 1 bit; 15 R494; reset 0 -/
  park : Bool := false
  /-- PM_LIMITS.OP_MIN, 3 bits; 15 R490; reset 0 -/
  opMin : Nat := 0
  /-- PM_LIMITS.OP_MAX, 3 bits; 15 R490; reset 7 -/
  opMax : Nat := 7
  /-- LAST_SHUTDOWN_CAUSE, 8 bits; 15 R496; reset 0 (first power-on of the part) -/
  lastCause : Nat := 0
  /-- cause of the last shutdown while OFF, for the start conditions of R481; 15 R481; reset 0 -/
  offCause : Nat := 0
  /-- press-stage durations of the last 64 beats, beat and µs; 15 R488; reset empty -/
  pressUs : List (Nat × Nat) := []
  /-- those of the last 64 beats that lagged or shed; 15 R488; reset empty -/
  lagged : List Nat := []
  /-- active sides of EMCY 0x4210: junctions, audio, 2 bits; 15 R493; reset 0 -/
  hot : Bool := false
  audioHot : Bool := false
deriving DecidableEq, Repr

/-! ### Audit video encoder (16_audit_video.md) -/

/-- STREAM_STATE (16 R503). -/
inductive StreamSt where
  | disabled | waiting | running
deriving DecidableEq, Repr

/-- The mode of a 16 × 16 block: intra, or a reference and a vector in quarter pixels (16 R513). -/
structure BlockMode where
  intra : Bool := false
  ref : Nat := 0
  vx : Int := 0
  vy : Int := 0
deriving DecidableEq, Repr

/-- One stream of the encoder. -/
structure Stream where
  /-- STREAM_STATE, 2 bits; 16 R503; reset DISABLED -/
  st : StreamSt := .disabled
  /-- WAIT_CAUSE, 3 bits; 16 R504; reset 0 -/
  waitCause : Nat := 0
  /-- frames of the port since RUNNING; 16 R506; reset 0 -/
  portFrames : Nat := 0
  /-- the due frame waiting to be encoded; 16 R506; reset none -/
  due : Option Frame := none
  /-- a later due frame that has not completed; 16 R506; reset none -/
  next : Option Frame := none
  /-- the frame in encode; 16 R506; reset none -/
  frame : Option Frame := none
  /-- FRAME_NUMBER of the next coded frame, 32 bits; 16 R520; reset 0 -/
  frameNo : Nat := 0
  /-- FRAME_NUMBER of the frame in encode, 32 bits; 16 R520; reset 0 -/
  codingNo : Nat := 0
  /-- next slice of the frame in encode; 16 R522; reset 0 -/
  slice : Nat := 0
  /-- slices of the frame in encode; 16 R508; reset 0 -/
  sliceCount : Nat := 0
  /-- coded frames since the last IDR, counting it as 0; 16 R517; reset 0 -/
  sinceIdr : Nat := 0
  /-- whether the frame in encode is an IDR, a recovery, a long-term refresh, a rate-control skip; 16 R520; reset 0 -/
  idr : Bool := false
  recovery : Nat := 0
  refresh : Bool := false
  rcSkip : Bool := false
  /-- whether the frame in encode uses a long-term reference, 1 bit; 16 R520; reset 0 -/
  usesLt : Bool := false
  /-- bytes coded of the frame in encode, 32 bits; 16 R524; reset 0 -/
  frameBytes : Nat := 0
  /-- command pending for the next frame: 0 none, 1 IDR, 2 recover new, 3 recover old; 16 R518; reset 0 -/
  command : Nat := 0
  /-- whether the next frame must be an IDR for another reason, 1 bit; 16 R505, R510; reset 0 -/
  idrDue : Bool := false
  /-- concealing the rest of the frame, 1 bit; 16 R510; reset 0 -/
  concealing : Bool := false
  /-- marks of its four reference buffers (key 0-3), 3 bits; 16 R516; reset UNUSED -/
  marks : Tab Nat := []
  /-- device times of the frames in those buffers; 16 R515; reset 0 -/
  markTimes : Tab Nat := []
  /-- LAST_GV X and Y in quarter pixels, 16 bits signed; 16 R515; reset 0 -/
  gvX : Int := 0
  gvY : Int := 0
  /-- frames skipped since the previous coded frame; 16 R520; reset 0 -/
  skipped : Nat := 0
  /-- packets waiting for OUTPUT_QUEUE, oldest first, as items; 16 R519; reset empty -/
  packets : List (List (BitVec 128)) := []
  /-- bytes of bitstream in the output buffer, 18 bits; 16 R522; reset 0 -/
  buffered : Nat := 0
  /-- configuration taken when a frame starts (RC_MODE, TARGET_KBPS, MAX_KBPS, VBV_MS); 16 R505; reset its defaults -/
  rcTaken : List Nat := []
  /-- first-slice QP of the frame in encode; 16 R511; reset 0 -/
  qp : Nat := 0
  /-- QP_MIN and QP_MAX taken when the frame in encode started; 16 R505; reset 0 -/
  qpMin : Nat := 0
  qpMax : Nat := 0
  /-- fullness of the HRD buffer in bits, and the time of the frame it holds for; 16 R509, R512; reset 0 -/
  hrd : Int := 0
  hrdAt : Nat := 0
  /-- the encoder's state, of which the bitstream is a function; 16 R508; reset 0 -/
  coder : Nat := 0
  /-- the encoder's state after the picture in each buffer (key 0-3); 16 R516; reset 0 -/
  pictures : Tab Nat := []
  /-- the block modes of the picture in each buffer (key 0-3); 16 R513; reset empty -/
  fields : Tab (List BlockMode) := []
  /-- references of the frame in encode: index and picture; 16 R516; reset none -/
  refs : List (Nat × Nat) := []
  /-- block modes of reference 0 of the frame in encode; 16 R513; reset empty -/
  coModes : List BlockMode := []
  /-- block modes of the frame in encode, in raster order; 16 R513; reset empty -/
  blocks : List BlockMode := []
deriving DecidableEq, Repr

/-! ### Reset, boot and trust (17_reset_boot_trust.md), Ethernet and JTAG (03, 17, 18) -/

/-- Where the device stands between a reset and PRE-OPERATIONAL (17 R527, R541). -/
inductive BootSt where
  | resetting | booting | recovery | running
deriving DecidableEq, Repr

/-- Fuses (17 R532). Hashes are 32 bytes, empty while zero. -/
structure Fuses where
  bootHash1 : List Byte := []
  bootHash2 : List Byte := []
  bootHash3 : List Byte := []
  /-- BOOT_KEY_REVOKED, 4 bits -/
  revoked : BitVec 4 := 0
  /-- the 64 ROLLBACK bits -/
  rollback : BitVec 64 := 0
  /-- DEBUG_KEY_HASH, empty while as manufactured -/
  debugHash : List Byte := []
  /-- DEBUG_DISABLE -/
  debugDisable : Bool := false
deriving DecidableEq, Repr

/-- A boot slot or key list update under way (17 R542). -/
structure BootUpdate where
  keyList : Bool
  target : Nat
  ok : Bool
  generation : Nat
deriving DecidableEq, Repr

/-- Reset, boot, watchdog, fuses and debug, page 0x04. -/
structure Boot where
  /-- where the device stands; 17 R541; reset booting (power-on, R476) -/
  st : BootSt := .booting
  /-- RESET_STATUS.LAST_CAUSE, 8 bits; 17 R546; reset 0 (power-on) -/
  cause : Nat := 0
  /-- device time at which the reset began, 64 bits; 17 R527; reset 0 -/
  resetAt : Nat := 0
  /-- BOOT_ATTEMPTS, 4 bits, in VDD_AON; 17 R539; reset 0 -/
  attempts : Nat := 0
  /-- ACTIVE_BOOT_SLOT, 1 bit; 17 R538; reset 0 DESIGN CHOICE 0, log entry 8 -/
  slot : Nat := 0
  /-- KEY_HASH_INDEX, 2 bits; 17 R538; reset 0 (the hash Keldalith programs) -/
  keyIndex : Nat := 0
  /-- SECURITY_VERSION of the running slot, 7 bits; 17 R533; reset 0 DESIGN CHOICE 0, log entry 8 -/
  security : Nat := 0
  /-- FIRMWARE_REVISION of the running slot, 16 bits; 17 R536; reset 0 DESIGN CHOICE 0, log entry 8 -/
  revision : Nat := 0
  /-- VERSION_STRING of the running slot; 17 R536; reset empty DESIGN CHOICE empty, log entry 8 -/
  version : List Byte := []
  /-- KEY_LIST_VALID: the copy in use (0 A, 1 B), none; 17 R535; reset none -/
  keyList : Option Nat := none
  /-- WATCHDOG_CONTROL.ENABLED, 1 bit; 17 R529; reset 0 -/
  wdEnabled : Bool := false
  /-- TIMEOUT_MS, 14 bits; 17 R546; reset 2000 -/
  wdTimeout : Nat := 2000
  /-- KICK_ERROR, 1 bit; 17 R529; reset 0 -/
  kickError : Bool := false
  /-- when the watchdog count last restarted, or the count so far while it is paused; 17 R529; reset 0 -/
  wdAt : Nat := 0
  /-- watchdog paused by the debugger, 1 bit; 17 R529; reset 0 -/
  wdPaused : Bool := false
  /-- BOOT_WRITE_SOURCE, 64 bits; 17 R546; reset 0 -/
  writeSource : Nat := 0
  /-- BOOT_WRITE_LENGTH, 32 bits; 17 R546; reset 0 -/
  writeLength : Nat := 0
  /-- BOOT_WRITE_CONTROL.FAILED, 1 bit; 17 R546; reset 0 -/
  writeFailed : Bool := false
  /-- the update under way; 17 R542; reset none -/
  update : Option BootUpdate := none
  /-- the fuses; 17 R532; reset: hash 0 programmed, the rest unprogrammed -/
  fuses : Fuses := {}
  /-- FUSE_REFUSED, 1 bit; 17 R533; reset 0 -/
  fuseRefused : Bool := false
  /-- DEBUG_STATE, 1 bit; 17 R545; reset locked -/
  debug : Bool := false
  /-- DEBUG_CHALLENGE, 16 bytes; 17 R544; reset empty, drawn at the reset's end -/
  challenge : List Byte := []
  /-- failed responses since the reset, 2 bits; 17 R544; reset 0 -/
  debugFails : Nat := 0
  /-- cantors halted by the debug module, 8 bits; 17 R545; reset 0 -/
  halted : BitVec 8 := 0
  /-- JTAG instruction selected: IDCODE (true) or BYPASS; 17 R543; reset IDCODE (PRESUMED: IEEE 1149.1's, log entry 9) -/
  jtagId : Bool := true
deriving DecidableEq, Repr

/-! ### What the block sends -/

/-- Whom an OAP datagram goes to: a host, or on an Ethernet port the group 239.255.75.79 or ff02::4b4f (03 R116). -/
inductive OapDest where
  | host (h : Nat) | group (port : Nat) (v6 : Bool)
deriving DecidableEq, Repr

/-- What the block sends or answers, newest first in `State.out`: the model's own record of its outputs. -/
inductive Out where
  /-- an EMCY message on CAN0 (03 R103) -/
  | canEmcy (m : Emcy)
  /-- an OAP datagram, from and to UDP port 47330 (03 R106) -/
  | oap (dest : OapDest) (bytes : List Byte)
  /-- an SDO response with its data, or an SDO abort (03 R96) -/
  | sdo (idx sub : Nat) (data : List Byte) | sdoAbort (idx sub : Nat) (code : Nat)
  /-- a boot-up message, a heartbeat with the NMT state, an LSS answer -/
  | bootUp (node : Nat) | heartbeat (st : Nat) | lss (service : Nat) (val : Nat)
  /-- a TPDO -/
  | tpdo (n : Nat) (data : List Byte)
  /-- the answer to a firmware read of a register, or to a cantor's load: requester and value -/
  | read (req : Nat) (val : Nat)
  /-- data an NC_READ, a debug read or a JTAG scan returns -/
  | data (req : Nat) (bytes : List Byte)
  /-- a cantor's exception: load (5), store/AMO (7) or instruction (1) access fault, illegal instruction (2) -/
  | trap (c : Nat) (cause : Nat) (addr : Nat)
  /-- SC's result, an AMO's old value, a fence's status with the register that takes it -/
  | sc (c : Nat) (failed : Bool) | amo (c : Nat) (old : Nat) | fence (c rd : Nat) (status : Nat)
  /-- the beat, queue or mover interrupt to a cantor -/
  | interrupt (page : Nat) (c : Nat)
  /-- a PVID frame -/
  | pvid (frame : BitVec 20)
  /-- a verdict published at a boundary -/
  | verdict (seq : BitVec 32) (bytes : List Byte)
  /-- a frame that a Choir Link port sends (11 R364) -/
  | frame (port : Nat) (f : LinkFrame)
  /-- an answer to a command that writes an entry: refused with the code, or 0 -/
  | status (code : Nat)
  /-- USB DFU status, true for accepted -/
  | dfu (ok : Bool)
  /-- the JTAG data register -/
  | jtag (val : Nat)
deriving DecidableEq, Repr

/-- A write of an entry that a boundary may still take after a later write (02 R46). -/
structure PastWrite where
  stamp : Nat
  value : Nat
  held : Bool
deriving DecidableEq, Repr

/-- When an entry was last written, and what a boundary still needs of earlier writes (02 R45, R46). -/
structure WriteLog where
  /-- device time of the last write, or of the end of boot for a value loaded from the vintage -/
  stamp : Nat := 0
  /-- whether the value was loaded from the vintage and waits for the first era boundary after boot (02 R45) -/
  held : Bool := false
  /-- overwritten values that the boundary now due may still take, newest first (02 R46) -/
  past : List PastWrite := []
deriving DecidableEq, Repr

/-- The whole block. -/
structure State where
  /-- the variant fitted, by fuses; 00 R9; reset ERV-1640 DESIGN CHOICE (any of the three), log entry 2 -/
  variant : Variant := .erv1640
  /-- DEVICE_TIME, 64 bits, µs; 02 R43; reset 0 -/
  now : Nat := 0
  /-- beat generator, tracker, pipeline; 02 -/
  beat : BeatUnit := {}
  /-- CAN0, NMT, EMCY; 03 -/
  comm : Comm := {}
  /-- OAP; 03 -/
  oap : Oap := {}
  /-- ACTIVE_ADDRESS and LINK_STATE of ETH0 and ETH1 lie in `od`; NVM controller; 04 -/
  nvm : Nvm := {}
  /-- sensor ports, 6; 05 -/
  ports : Tab Port := []
  /-- voice cores and routers; 06, 07 -/
  fabric : Fabric := {}
  /-- press engines, dispatchers, Blend unit; 08 -/
  press : Press := {}
  /-- the Queue unit; 09 -/
  queue : QueueUnit := {}
  /-- caches, directory, movers, access errors; 10 -/
  memu : MemUnit := {}
  /-- the Trellis; 01 -/
  trellis : Trellis := {}
  /-- Choir Link; 11 -/
  choir : Choir := {}
  /-- the zone counter; 12 -/
  zone : ZoneUnit := {}
  /-- the belt drive; 13 -/
  belt : Belt := {}
  /-- the audio output; 13 -/
  audio : Audio := {}
  /-- the safety island; 14 -/
  island : Island := {}
  /-- the power manager; 15 -/
  power : Power := {}
  /-- the encoder's two streams; 16 -/
  video : Tab Stream := []
  /-- reset, boot and trust; 17 -/
  boot : Boot := {}
  /-- values of the object entries that have a storage of their own (key index * 256 + subindex), each little-endian
  as a number; 03 R75; reset the cards' defaults -/
  od : Tab Nat := []
  /-- values in force of entries that take effect at a boundary, same keys; 03 R80; reset the cards' defaults -/
  inForce : Tab Nat := []
  /-- the writes of an entry that boundaries look at, same keys; 02 R45, R46; reset never written -/
  wtime : Tab WriteLog := []
  /-- rw registers of the register pages that no unit's field holds (key page * 65536 + offset); 01 R31; reset 0 -/
  regs : Tab Word := []
  /-- bytes of the own package window (MRAM, Cellar, voice-core windows, package DRAM) by 44-bit offset; 01 R26;
  reset none listed, an unlisted byte reading 0 (DESIGN CHOICE, log entry 4) -/
  mem : List Host.Cell := []
  /-- counter of free values drawn: the model's own field, not the spec's; reset 0 DESIGN CHOICE, log entry 3 -/
  fresh : Nat := 0
  /-- what was sent, newest first: the model's own record; reset empty -/
  out : List Out := []
  /-- commands waiting, first in first out -/
  pending : List Instr := []
deriving DecidableEq, Repr

/-- The state right after power-on, with boot under way (15 R476, 17 R528, R541): record 0xE001, LAST_SHUTDOWN_CAUSE 0,
waits to be written (04 R148, 15 R496). -/
def State.reset : State :=
  { nvm := { staged := [{ code := 0xE001, source := 4, severity := 0, time := 0, beat := 0, payload := List.replicate 34 0 }] } }

end Sys2Proof.Machine
end

