-- ==== Sys2Proof/Machine/Ops.lean ====
section
/-! DEFINITION. Named operations over tables, numbers, bytes, memory and the parts of the state. -/

namespace Sys2Proof.Machine

/-! ### Tables in canonical form -/

/-- The value of a key; an unlisted key holds the default. -/
def tabGet {α : Type} (d : α) : Tab α → Nat → α
  | [], _ => d
  | (k', v) :: t, k => if k = k' then v else tabGet d t k

/-- Puts a pair before the first greater key. -/
def tabInsert {α : Type} : Tab α → Nat → α → Tab α
  | [], k, v => [(k, v)]
  | e :: t, k, v => if k < e.1 then (k, v) :: e :: t else e :: tabInsert t k v

/-- Writes a key. A value equal to the default removes the entry, so that equal tables are equal data. -/
def tabPut {α : Type} [DecidableEq α] (d : α) (t : Tab α) (k : Nat) (v : α) : Tab α :=
  if v = d then t.filter (fun e => decide (e.1 ≠ k)) else tabInsert (t.filter (fun e => decide (e.1 ≠ k))) k v

/-- Changes a key by a function. -/
def tabMod {α : Type} [DecidableEq α] (d : α) (t : Tab α) (k : Nat) (f : α → α) : Tab α :=
  tabPut d t k (f (tabGet d t k))

/-- Drops every key for which the test holds. -/
def tabDrop {α : Type} (t : Tab α) (p : Nat → Bool) : Tab α := t.filter (fun e => !p e.1)

/-- The canonical form from a lowest key on: keys strictly rising, no entry equal to the default. -/
def tabWfFrom {α : Type} [DecidableEq α] (d : α) : Nat → Tab α → Bool
  | _, [] => true
  | lo, (k, v) :: t => decide (lo ≤ k) && !decide (v = d) && tabWfFrom d (k + 1) t

/-- The canonical form of a table. -/
def tabWf {α : Type} [DecidableEq α] (d : α) (t : Tab α) : Bool := tabWfFrom d 0 t

/-- The canonical form of memory: addresses strictly rising, no entry equal to 0, what an unlisted byte reads as. -/
def Memory.wf (m : List Host.Cell) : Bool := tabWf (0 : Byte) m

/-! ### Numbers -/

/-- n bits of v from bit lo on. -/
def bits (v lo n : Nat) : Nat := v / 2 ^ lo % 2 ^ n

/-- v with bits lo to lo + n - 1 replaced. -/
def putBits (v lo n x : Nat) : Nat := v - bits v lo n * 2 ^ lo + x % 2 ^ n * 2 ^ lo

/-- A Bool as a bit. -/
def b2n (b : Bool) : Nat := if b then 1 else 0

/-- The low n bits of v as a two's complement number. -/
def sext (n v : Nat) : Int := if v % 2 ^ n < 2 ^ (n - 1) then (v % 2 ^ n : Nat) else (v % 2 ^ n : Nat) - (2 ^ n : Nat)

/-- A whole number as n two's complement bits. -/
def toBits (n : Nat) (i : Int) : Nat := (i % (2 ^ n : Nat)).toNat

/-- Clamps into a range. -/
def clampI (lo hi i : Int) : Int := if i < lo then lo else if hi < i then hi else i

/-- Adds to a counter that saturates. -/
def satAdd (top a b : Nat) : Nat := min top (a + b)

/-- The largest value of a 32-bit counter. -/
def max32 : Nat := 0xFFFFFFFF

/-- Sum of a list. -/
def sumN : List Nat → Nat
  | [] => 0
  | x :: t => x + sumN t

/-- Division rounding half away from zero of a whole number by a positive one. -/
def roundDiv (a : Int) (b : Nat) : Int :=
  if 0 ≤ a then ((2 * a.toNat + b) / (2 * b) : Nat) else -(((2 * (-a).toNat + b) / (2 * b) : Nat) : Int)

/-- Position of the first element that meets a test. -/
def findAt {α : Type} (p : α → Bool) : List α → Option (Nat × α)
  | [] => none
  | x :: t => if p x then some (0, x) else (findAt p t).map (fun r => (r.1 + 1, r.2))

/-- Replaces the element at a position. -/
def setAt {α : Type} : List α → Nat → α → List α
  | [], _, _ => []
  | _ :: t, 0, y => y :: t
  | x :: t, n + 1, y => x :: setAt t n y

/-- Applies a function to the first element that meets a test. -/
def modFirst {α : Type} (p : α → Bool) (f : α → α) : List α → List α
  | [] => []
  | x :: t => if p x then f x :: t else x :: modFirst p f t

/-- Removes the first element that meets a test. -/
def dropFirst {α : Type} (p : α → Bool) : List α → List α
  | [] => []
  | x :: t => if p x then t else x :: dropFirst p t

/-! ### Bytes, least significant first (00 R15) -/

/-- The number a byte list spells. -/
def leNum : List Byte → Nat
  | [] => 0
  | b :: t => b.toNat + 256 * leNum t

/-- n bytes of a number. -/
def leBytes : Nat → Nat → List Byte
  | 0, _ => []
  | n + 1, v => BitVec.ofNat 8 v :: leBytes n (v / 256)

/-- The n bytes at a place of a list; places past its end read 0. -/
def slice (l : List Byte) (off n : Nat) : List Byte :=
  let t := (l.drop off).take n
  t ++ List.replicate (n - t.length) 0

/-- The number at a place of a byte list. -/
def numAt (l : List Byte) (off n : Nat) : Nat := leNum (slice l off n)

/-- Writes bytes into a list at a place. -/
def putSlice (l : List Byte) (off : Nat) (b : List Byte) : List Byte :=
  slice l 0 off ++ b ++ l.drop (off + b.length)

/-- The bytes of a text. -/
def textBytes (t : String) : List Byte := t.toList.map (fun c => BitVec.ofNat 8 c.toNat)

/-- One bit step of CRC-32 of IEEE 802.3 in reflected form (03 R106, 04 R144). -/
def crcBit (r : BitVec 32) : BitVec 32 := if r.getLsbD 0 then (r >>> 1) ^^^ 0xEDB88320#32 else r >>> 1

/-- One byte step. -/
def crcByte (r : BitVec 32) (b : Byte) : BitVec 32 :=
  crcBit (crcBit (crcBit (crcBit (crcBit (crcBit (crcBit (crcBit (r ^^^ b.zeroExtend 32))))))))

/-- CRC-32 of IEEE 802.3. -/
def crc32 (l : List Byte) : Nat := (~~~(l.foldl crcByte 0xFFFFFFFF#32)).toNat

/-! ### Memory of the own package window (01 R26) -/

/-- One byte. -/
def State.byteAt (s : State) (a : Nat) : Byte := tabGet 0 s.mem a

/-- n bytes from an offset on. -/
def State.bytesAt (s : State) (a : Nat) : Nat → List Byte
  | 0 => []
  | n + 1 => s.byteAt a :: s.bytesAt (a + 1) n

/-- Writes bytes in canonical form. -/
def memPut : List Host.Cell → Nat → List Byte → List Host.Cell
  | m, _, [] => m
  | m, a, b :: t => memPut (tabPut (0 : Byte) m a b) (a + 1) t

/-- Writes bytes from an offset on. -/
def State.putBytes (s : State) (a : Nat) (l : List Byte) : State := { s with mem := memPut s.mem a l }

/-- The number at an offset. -/
def State.memNum (s : State) (a n : Nat) : Nat := leNum (s.bytesAt a n)

/-- Makes a region read 0. -/
def memClear (m : List Host.Cell) (a n : Nat) : List Host.Cell := m.filter (fun c => decide (c.1 < a) || decide (a + n ≤ c.1))

/-- Where the window of voice core c starts (01 R26, R29). -/
def coreBase (c : Nat) : Nat := 0x80000000 + c * 0x40000

/-- Where MRAM starts (01 R26). -/
def mramBase : Nat := 0x20000000

/-! ### Outputs and free values -/

/-- Records an output. -/
def State.emit (o : Out) (s : State) : State := { s with out := o :: s.out }

/-- Records several outputs, the first first. -/
def State.emitAll (l : List Out) (s : State) : State := { s with out := l.reverse ++ s.out }

/-- The next free value. -/
def State.drawn (s : State) : Nat := Config.free s.fresh

/-- The state after one free value is drawn. -/
def State.draw (s : State) : State := { s with fresh := s.fresh + 1 }

/-- Moves device time to an instant that is not past (log 5). -/
def State.upTo (t : Nat) (s : State) : State := { s with now := max s.now t }

/-! ### Updates of one part of the state -/

/-- Changes the beat part. -/
def State.onBeat (f : BeatUnit → BeatUnit) (s : State) : State := { s with beat := f s.beat }
/-- Changes the CAN0 and NMT part. -/
def State.onComm (f : Comm → Comm) (s : State) : State := { s with comm := f s.comm }
/-- Changes the OAP part. -/
def State.onOap (f : Oap → Oap) (s : State) : State := { s with oap := f s.oap }
/-- Changes the NVM part. -/
def State.onNvm (f : Nvm → Nvm) (s : State) : State := { s with nvm := f s.nvm }
/-- A sensor port. -/
def State.port (s : State) (p : Nat) : Port := tabGet {} s.ports p
/-- Changes a sensor port. -/
def State.onPort (p : Nat) (f : Port → Port) (s : State) : State := { s with ports := tabMod {} s.ports p f }
/-- Changes the fabric part. -/
def State.onFabric (f : Fabric → Fabric) (s : State) : State := { s with fabric := f s.fabric }
/-- A voice core. -/
def State.core (s : State) (c : Nat) : VCore := tabGet {} s.fabric.cores c
/-- Changes a voice core. -/
def State.onCore (c : Nat) (f : VCore → VCore) : State → State :=
  State.onFabric (fun x => { x with cores := tabMod {} x.cores c f })
/-- A router. -/
def State.router (s : State) (r : Nat) : Router := tabGet {} s.fabric.routers r
/-- Changes a router. -/
def State.onRouter (r : Nat) (f : Router → Router) : State → State :=
  State.onFabric (fun x => { x with routers := tabMod {} x.routers r f })
/-- Changes the press part. -/
def State.onPress (f : Press → Press) (s : State) : State := { s with press := f s.press }
/-- A task slot, key tile * 1024 + slot. -/
def State.task (s : State) (k : Nat) : Task := tabGet {} s.press.tasks k
/-- Changes a task slot. -/
def State.onTask (k : Nat) (f : Task → Task) : State → State :=
  State.onPress (fun x => { x with tasks := tabMod {} x.tasks k f })
/-- A source of the Blend unit. -/
def State.source (s : State) (i : Nat) : Source := tabGet {} s.press.sources i
/-- Changes a source. -/
def State.onSource (i : Nat) (f : Source → Source) : State → State :=
  State.onPress (fun x => { x with sources := tabMod {} x.sources i f })
/-- Changes the Queue unit. -/
def State.onQueues (f : QueueUnit → QueueUnit) (s : State) : State := { s with queue := f s.queue }
/-- A queue. -/
def State.q (s : State) (q : Nat) : Queue := tabGet {} s.queue.queues q
/-- Changes a queue. -/
def State.onQ (q : Nat) (f : Queue → Queue) : State → State :=
  State.onQueues (fun x => { x with queues := tabMod {} x.queues q f })
/-- Changes the memory unit. -/
def State.onMem (f : MemUnit → MemUnit) (s : State) : State := { s with memu := f s.memu }
/-- A mover. -/
def State.mover (s : State) (m : Nat) : Mover := tabGet {} s.memu.movers m
/-- Changes a mover. -/
def State.onMover (m : Nat) (f : Mover → Mover) : State → State :=
  State.onMem (fun x => { x with movers := tabMod {} x.movers m f })
/-- Changes the Trellis. -/
def State.onTrellis (f : Trellis → Trellis) (s : State) : State := { s with trellis := f s.trellis }
/-- Changes Choir Link. -/
def State.onChoir (f : Choir → Choir) (s : State) : State := { s with choir := f s.choir }
/-- A Choir Link port. -/
def State.clPort (s : State) (p : Nat) : ClPortSt := tabGet {} s.choir.ports p
/-- Changes a Choir Link port. -/
def State.onClPort (p : Nat) (f : ClPortSt → ClPortSt) : State → State :=
  State.onChoir (fun x => { x with ports := tabMod {} x.ports p f })
/-- Changes the zone counter. -/
def State.onZones (f : ZoneUnit → ZoneUnit) (s : State) : State := { s with zone := f s.zone }
/-- A gate. -/
def State.gate (s : State) (g : Nat) : Gate := tabGet {} s.zone.gates g
/-- Changes a gate. -/
def State.onGate (g : Nat) (f : Gate → Gate) : State → State :=
  State.onZones (fun x => { x with gates := tabMod {} x.gates g f })
/-- A region. -/
def State.region (s : State) (r : Nat) : Region := tabGet {} s.zone.regions r
/-- Changes a region. -/
def State.onRegion (r : Nat) (f : Region → Region) : State → State :=
  State.onZones (fun x => { x with regions := tabMod {} x.regions r f })
/-- A zone. -/
def State.zoneOf (s : State) (z : Nat) : Zone := tabGet {} s.zone.zones z
/-- Changes a zone. -/
def State.onZone (z : Nat) (f : Zone → Zone) : State → State :=
  State.onZones (fun x => { x with zones := tabMod {} x.zones z f })
/-- Changes the belt drive. -/
def State.onBelt (f : Belt → Belt) (s : State) : State := { s with belt := f s.belt }
/-- Changes the audio output. -/
def State.onAudio (f : Audio → Audio) (s : State) : State := { s with audio := f s.audio }
/-- Changes the safety island. -/
def State.onIsland (f : Island → Island) (s : State) : State := { s with island := f s.island }
/-- A safety input. -/
def State.sin (s : State) (n : Nat) : Sin := tabGet {} s.island.sins n
/-- Changes a safety input. -/
def State.onSin (n : Nat) (f : Sin → Sin) : State → State :=
  State.onIsland (fun x => { x with sins := tabMod {} x.sins n f })
/-- Changes the power manager. -/
def State.onPower (f : Power → Power) (s : State) : State := { s with power := f s.power }
/-- A stream of the encoder. -/
def State.stream (s : State) (v : Nat) : Stream := tabGet {} s.video v
/-- Changes a stream. -/
def State.onStream (v : Nat) (f : Stream → Stream) (s : State) : State := { s with video := tabMod {} s.video v f }
/-- Changes the boot part. -/
def State.onBoot (f : Boot → Boot) (s : State) : State := { s with boot := f s.boot }
/-- Changes the sensor ports. -/
def State.onPorts (f : Tab Port → Tab Port) (s : State) : State := { s with ports := f s.ports }
/-- Changes the stored entry values. -/
def State.onEntries (f : Tab Nat → Tab Nat) (s : State) : State := { s with od := f s.od }
/-- Changes the entry values in force. -/
def State.onForces (f : Tab Nat → Tab Nat) (s : State) : State := { s with inForce := f s.inForce }
/-- Changes the write log of the entries. -/
def State.onWtimes (f : Tab WriteLog → Tab WriteLog) (s : State) : State := { s with wtime := f s.wtime }
/-- Changes the registers that no unit's field holds. -/
def State.onRegs (f : Tab Word → Tab Word) (s : State) : State := { s with regs := f s.regs }
/-- Sets device time. -/
def State.setNow (t : Nat) (s : State) : State := { s with now := t }

/-! ### Variants (00 R9 to R11, 01 R41) -/

/-- Choir tiles present, contiguous from CT0 (00 R9). -/
def State.tiles (s : State) : Nat :=
  match s.variant with
  | .erv1640 => 4
  | .erv1620 => 2
  | .erv1610 => 1

/-- UNITS_PRESENT (00 R11). -/
def State.unitsPresent (s : State) : Nat :=
  match s.variant with
  | .erv1640 => 0x7FF
  | .erv1620 => 0x7E3
  | .erv1610 => 0x701

/-- Whether bit n of UNITS_PRESENT is 1 (00 R10). -/
def State.hasUnit (s : State) (n : Nat) : Bool := s.unitsPresent.testBit n

/-- Sensor ports present. -/
def State.portCount (s : State) : Nat := if s.hasUnit 7 then 6 else 4

/-- The tile of a voice core (01 R20). -/
def tileOf (c : Nat) : Nat := c / 64

/-- Whether a voice core is present. -/
def State.hasCore (s : State) (c : Nat) : Bool := decide (tileOf c < s.tiles)

/-- The parts that on-chip SRAM is distributed over (01 R40). -/
inductive SramPart where
  | voice | slices | hub | l2 | lines | queues | island
deriving DecidableEq, Repr

/-- KiB of on-chip SRAM of a part (01 R40). -/
def onChip (v : Variant) (p : SramPart) : Nat :=
  match p, v with
  | .voice, .erv1640 => 49152 | .voice, .erv1620 => 24576 | .voice, .erv1610 => 12288
  | .slices, .erv1640 => 65536 | .slices, .erv1620 => 32768 | .slices, .erv1610 => 16384
  | .hub, _ => 8192
  | .l2, _ => 4096
  | .lines, .erv1610 => 0 | .lines, _ => 2560
  | .queues, _ => 1024
  | .island, _ => 512

/-- Invalidates the cached copies of the lines that n bytes from an offset lie on (10 R334). -/
def State.uncache (a n : Nat) : State → State :=
  let on := fun l => decide (a < (l + 1) * 64) && decide (l * 64 < a + n)
  State.onMem (fun m => { m with
    dir := tabDrop m.dir on, l2 := m.l2.filter (fun l => !on l), reservation := m.reservation.filter (fun e => !e.2.any on) })

/-- A write of the NVM controller to MRAM (01 R28, 10 R334); lines it writes hold no error any more. -/
def State.nvmPut (a : Nat) (l : List Byte) (s : State) : State :=
  ((s.uncache a l.length).onMem (fun m => { m with
    poison := tabDrop m.poison (fun k => decide (a < (k + 1) * 64) && decide (k * 64 < a + l.length)) })).putBytes a l

/-! ### Registers of pages that no unit's field holds (01 R31) -/

/-- A register as a number. -/
def State.reg (s : State) (page off : Nat) : Nat := (tabGet 0 s.regs (page * 65536 + off)).toNat

/-- Writes a register. -/
def State.setReg (page off v : Nat) (s : State) : State :=
  { s with regs := tabPut 0 s.regs (page * 65536 + off) (BitVec.ofNat 32 v) }

/-- Whether any of n bytes from an offset lies on a line with an uncorrectable error (06 R217, 10 R324). -/
def State.poisoned (s : State) (a n : Nat) : Bool :=
  s.memu.poison.any (fun e => e.2 && decide (a < (e.1 + 1) * 64) && decide (e.1 * 64 < a + n))

/-- Whether a tile is present and powered (06 R219). -/
def State.tileUp (s : State) (t : Nat) : Bool := decide (t < s.tiles) && !s.power.gated.getLsbD t


end Sys2Proof.Machine
end

