-- ==== Sys2Proof/Machine/Operands.lean ====
section
/-! DEFINITION. The operand forms of an object entry access: types, access codes, ranges and the entry cards of every
index (03 R75 to R78, R87, R91 and the cards of the unit chapters), and the storage of entry values. -/

namespace Sys2Proof.Machine

/-- Entry types: the basic types used and the Keldalith types (03 R76). -/
inductive Ty where
  | boolean | u8 | u16 | u32 | u64 | i16 | i32 | i64 | vstr | ostr (n : Nat) | domain | stamp64 | beat48 | verdict
deriving DecidableEq, Repr

/-- Size in bytes of a type, none where it varies. -/
def Ty.size : Ty → Option Nat
  | .boolean => some 1 | .u8 => some 1 | .u16 => some 2 | .u32 => some 4 | .u64 => some 8
  | .i16 => some 2 | .i32 => some 4 | .i64 => some 8
  | .vstr => none | .ostr n => some n | .domain => none
  | .stamp64 => some 8 | .beat48 => some 6 | .verdict => some 64

/-- The number of a type: the basic types as CiA 1301 numbers them (PRESUMED, log 11), the Keldalith types of R76. -/
def Ty.number : Ty → Nat
  | .boolean => 0x01 | .u8 => 0x05 | .u16 => 0x06 | .u32 => 0x07 | .u64 => 0x1B
  | .i16 => 0x03 | .i32 => 0x04 | .i64 => 0x15
  | .vstr => 0x09 | .ostr _ => 0x0A | .domain => 0x0F
  | .stamp64 => 0x40 | .beat48 => 0x41 | .verdict => 0x42

/-- Whether values of a type are two's complement numbers. -/
def Ty.signed : Ty → Bool
  | .i16 | .i32 | .i64 => true
  | _ => false

/-- Access codes (03 R77); const is served as ro. -/
inductive Acc where
  | ro | wo | rw | rwp | rws
deriving DecidableEq, Repr

/-- Persistence classes (03 R81). -/
inductive Pers where
  | none | p | v
deriving DecidableEq, Repr

/-- Mappability into PDOs (00, field maps and entry cards). -/
inductive Pdo where
  | none | t | r
deriving DecidableEq, Repr

/-- An entry card: type, access, default as an unsigned number, ranges (empty: any value of the type), persistence,
mappability, and whether the entry is a count, which accepts only 0 (03 R91). -/
structure Card where
  ty : Ty
  acc : Acc
  dflt : Nat
  rng : List (Int × Int)
  pers : Pers
  pdo : Pdo
  count : Bool
deriving DecidableEq, Repr

/-- A row of cards: the subindices from `lo` to `hi` share one card. -/
structure Row where
  lo : Nat
  hi : Nat
  card : Card
deriving DecidableEq, Repr

/-- The entry cards of index 0x2100. -/
def rows2100 : List Row := [
  ⟨0x0, 0x0, ⟨.u8, .ro, 0x19, [], .none, .none, false⟩⟩,  -- Highest subindex
  ⟨0x1, 0x1, ⟨.beat48, .ro, 0, [], .v, .t, false⟩⟩,  -- BEAT_NUMBER
  ⟨0x2, 0x2, ⟨.stamp64, .ro, 0, [], .v, .t, false⟩⟩,  -- DEVICE_TIME
  ⟨0x3, 0x3, ⟨.u16, .rwp, 1000, [(125, 4000)], .p, .none, false⟩⟩,  -- BEAT_PERIOD, µs, 125–4000
  ⟨0x4, 0x4, ⟨.u8, .rwp, 0, [(0, 1)], .p, .none, false⟩⟩,  -- BEAT_SOURCE, 0 internal, 1 SYNC_IN
  ⟨0x5, 0x5, ⟨.u8, .ro, 0, [], .v, .t, false⟩⟩,  -- EFFECTIVE_SOURCE, 0 internal, 1 SYNC_IN, 2 Choir
  ⟨0x6, 0x6, ⟨.u8, .ro, 0, [], .v, .t, false⟩⟩,  -- BEAT_STATE, 0–5 as the state table
  ⟨0x7, 0x7, ⟨.u16, .ro, 1000, [], .v, .t, false⟩⟩,  -- ACTIVE_PERIOD, µs
  ⟨0x8, 0x8, ⟨.u16, .ro, 0, [], .v, .t, false⟩⟩,  -- TRACKED_PERIOD, µs
  ⟨0x9, 0x9, ⟨.i16, .ro, 0, [], .v, .t, false⟩⟩,  -- PHASE_ERROR, µs, last residual error (R66)
  ⟨0xa, 0xa, ⟨.u16, .rw, 2000, [(100, 60000)], .p, .none, false⟩⟩,  -- HOLDOVER_LIMIT, ms, 100–60000
  ⟨0xb, 0xb, ⟨.u8, .rw, 0, [(0, 1)], .p, .none, false⟩⟩,  -- HOLDOVER_POLICY, 0 CONTINUE, 1 STOP
  ⟨0xc, 0xc, ⟨.u32, .rw, 0, [], .v, .t, true⟩⟩,  -- SYNC_GLITCH_COUNT
  ⟨0xd, 0xd, ⟨.u32, .rw, 0, [], .v, .t, true⟩⟩,  -- SYNC_REJECT_COUNT
  ⟨0xe, 0xe, ⟨.u32, .rw, 0, [], .v, .t, true⟩⟩,  -- HOLDOVER_COUNT
  ⟨0xf, 0xf, ⟨.u8, .rw, 1, [(0, 1)], .p, .none, false⟩⟩,  -- VOICE_OVERRUN_POLICY, 0 HOLD, 1 SHED
  ⟨0x10, 0x10, ⟨.u8, .rw, 0, [(0, 1)], .p, .none, false⟩⟩,  -- PRESS_OVERRUN_POLICY, 0 HOLD, 1 SHED
  ⟨0x11, 0x11, ⟨.u8, .rw, 1, [(0, 4)], .p, .none, false⟩⟩,  -- MAX_LAG, beats, 0–4
  ⟨0x12, 0x12, ⟨.u8, .ro, 0, [], .v, .t, false⟩⟩,  -- VOICE_LAG
  ⟨0x13, 0x13, ⟨.u8, .ro, 0, [], .v, .t, false⟩⟩,  -- PRESS_LAG
  ⟨0x14, 0x14, ⟨.u32, .rw, 0, [], .v, .t, true⟩⟩,  -- SHED_BEAT_COUNT
  ⟨0x15, 0x15, ⟨.u8, .rw, 0, [(0, 2)], .p, .none, false⟩⟩,  -- SYNC_OUT_MODE, 0 OFF, 1 BEAT, 2 ERA
  ⟨0x16, 0x16, ⟨.u8, .rw, 10, [(2, 100)], .p, .none, false⟩⟩,  -- SYNC_OUT_WIDTH, µs, 2–100
  ⟨0x17, 0x17, ⟨.u16, .rwp, 0, [(0, 3999)], .p, .none, false⟩⟩,  -- SYNC_PHASE_OFFSET, µs, 0–3999
  ⟨0x18, 0x18, ⟨.u32, .rw, 0, [], .v, .t, true⟩⟩,  -- LATE_EVENT_COUNT, all ports
  ⟨0x19, 0x19, ⟨.u16, .rw, 50, [(0, 500)], .p, .none, false⟩⟩]  -- INGEST_GRACE, µs, 0–500

/-- The entry cards of index 0x1000. -/
def rows1000 : List Row := [
  ⟨0x0, 0x0, ⟨.u32, .ro, 0x00000000, [], .none, .none, false⟩⟩]  -- DEVICE_TYPE, no device profile

/-- The entry cards of index 0x1001. -/
def rows1001 : List Row := [
  ⟨0x0, 0x0, ⟨.u8, .ro, 0x00, [], .v, .t, false⟩⟩]  -- ERROR_REGISTER

/-- The entry cards of index 0x1003. -/
def rows1003 : List Row := [
  ⟨0x0, 0x0, ⟨.u8, .rw, 0, [(0, 0)], .v, .none, false⟩⟩,  -- Number of errors; writing 0 clears the field
  ⟨0x1, 0x8, ⟨.u32, .ro, 0, [], .v, .none, false⟩⟩]  -- Error history, newest at .01

/-- The entry cards of index 0x1005. -/
def rows1005 : List Row := [
  ⟨0x0, 0x0, ⟨.u32, .rwp, 0x00000080, [], .p, .none, false⟩⟩]  -- SYNC COB-ID

/-- The entry cards of index 0x1008. -/
def rows1008 : List Row := [
  ⟨0x0, 0x0, ⟨.vstr, .ro, 0, [], .none, .none, false⟩⟩]  -- DEVICE_NAME, ERV-1640, ERV-1620 or ERV-1610

/-- The entry cards of index 0x1009. -/
def rows1009 : List Row := [
  ⟨0x0, 0x0, ⟨.vstr, .ro, 0, [], .none, .none, false⟩⟩]  -- HARDWARE_VERSION, B0

/-- The entry cards of index 0x100A. -/
def rows100A : List Row := [
  ⟨0x0, 0x0, ⟨.vstr, .ro, 0, [], .none, .none, false⟩⟩]  -- SOFTWARE_VERSION of the running boot slot

/-- The entry cards of index 0x1010. -/
def rows1010 : List Row := [
  ⟨0x0, 0x0, ⟨.u8, .ro, 0x04, [], .none, .none, false⟩⟩,  -- Highest subindex
  ⟨0x1, 0x4, ⟨.u32, .rw, 0x00000001, [], .none, .none, false⟩⟩]  -- STORE: all, communication, application, Keldalith

/-- The entry cards of index 0x1011. -/
def rows1011 : List Row := [
  ⟨0x0, 0x0, ⟨.u8, .ro, 0x04, [], .none, .none, false⟩⟩,  -- Highest subindex
  ⟨0x1, 0x4, ⟨.u32, .rw, 0x00000001, [], .none, .none, false⟩⟩]  -- RESTORE: same subsets

/-- The entry cards of index 0x1014. -/
def rows1014 : List Row := [
  ⟨0x0, 0x0, ⟨.u32, .rwp, 0, [], .p, .none, false⟩⟩]  -- EMCY COB-ID

/-- The entry cards of index 0x1015. -/
def rows1015 : List Row := [
  ⟨0x0, 0x0, ⟨.u16, .rw, 0, [], .p, .none, false⟩⟩]  -- EMCY inhibit time, 100 µs units

/-- The entry cards of index 0x1016. -/
def rows1016 : List Row := [
  ⟨0x0, 0x0, ⟨.u8, .ro, 0x04, [], .none, .none, false⟩⟩,  -- Highest subindex
  ⟨0x1, 0x4, ⟨.u32, .rw, 0, [], .p, .none, false⟩⟩]  -- Consumer heartbeat: bits 23:16 node-ID, 15:0 time in ms

/-- The entry cards of index 0x1017. -/
def rows1017 : List Row := [
  ⟨0x0, 0x0, ⟨.u16, .rw, 1000, [], .p, .none, false⟩⟩]  -- Producer heartbeat time, ms, 0 off

/-- The entry cards of index 0x1018. -/
def rows1018 : List Row := [
  ⟨0x0, 0x0, ⟨.u8, .ro, 0x04, [], .none, .none, false⟩⟩,  -- Highest subindex
  ⟨0x1, 0x1, ⟨.u32, .ro, 0x000004B5, [], .none, .none, false⟩⟩,  -- Vendor ID
  ⟨0x2, 0x2, ⟨.u32, .ro, 0, [], .none, .none, false⟩⟩,  -- Product code
  ⟨0x3, 0x3, ⟨.u32, .ro, 0, [], .none, .none, false⟩⟩,  -- Revision: bits 31:16 stepping 0x00B0, bits 15:0 firmware revision
  ⟨0x4, 0x4, ⟨.u32, .ro, 0, [], .none, .none, false⟩⟩]  -- Serial number

/-- The entry cards of index 0x1200. -/
def rows1200 : List Row := [
  ⟨0x0, 0x0, ⟨.u8, .ro, 0x02, [], .none, .none, false⟩⟩,  -- Highest subindex
  ⟨0x1, 0x1, ⟨.u32, .ro, 0, [], .none, .none, false⟩⟩,  -- SDO COB-ID client to server
  ⟨0x2, 0x2, ⟨.u32, .ro, 0, [], .none, .none, false⟩⟩]  -- SDO COB-ID server to client

/-- The entry cards of index 0x1400–0x140F. -/
def rowsRpdoComm : List Row := [
  ⟨0x0, 0x0, ⟨.u8, .ro, 5, [], .none, .none, false⟩⟩,  -- Highest subindex
  ⟨0x1, 0x1, ⟨.u32, .rwp, 0, [], .p, .none, false⟩⟩,  -- RPDO COB-ID
  ⟨0x2, 0x2, ⟨.u8, .rwp, 255, [], .p, .none, false⟩⟩,  -- RPDO transmission type
  ⟨0x5, 0x5, ⟨.u16, .rwp, 0, [], .p, .none, false⟩⟩]  -- RPDO deadline, ms, 0 off

/-- The entry cards of index 0x1600–0x160F. -/
def rowsRpdoMap : List Row := [
  ⟨0x0, 0x0, ⟨.u8, .rwp, 0, [(0, 16)], .p, .none, false⟩⟩,  -- RPDO mapped entries, 0–16
  ⟨0x1, 0x10, ⟨.u32, .rwp, 0, [], .p, .none, false⟩⟩]  -- RPDO mapping

/-- The entry cards of index 0x1800–0x180F. -/
def rowsTpdoComm : List Row := [
  ⟨0x0, 0x0, ⟨.u8, .ro, 5, [], .none, .none, false⟩⟩,  -- Highest subindex
  ⟨0x1, 0x1, ⟨.u32, .rwp, 0, [], .p, .none, false⟩⟩,  -- TPDO COB-ID
  ⟨0x2, 0x2, ⟨.u8, .rwp, 254, [], .p, .none, false⟩⟩,  -- TPDO transmission type
  ⟨0x3, 0x3, ⟨.u16, .rwp, 0, [], .p, .none, false⟩⟩,  -- TPDO inhibit time, 100 µs units
  ⟨0x5, 0x5, ⟨.u16, .rwp, 0, [], .p, .none, false⟩⟩]  -- TPDO event timer, ms, 0 off

/-- The entry cards of index 0x1A00–0x1A0F. -/
def rowsTpdoMap : List Row := [
  ⟨0x0, 0x0, ⟨.u8, .rwp, 0, [(0, 16)], .p, .none, false⟩⟩,  -- TPDO mapped entries, 0–16
  ⟨0x1, 0x10, ⟨.u32, .rwp, 0, [], .p, .none, false⟩⟩]  -- TPDO mapping

/-- The entry cards of index 0x2001. -/
def rows2001 : List Row := [
  ⟨0x0, 0x0, ⟨.u32, .ro, 0, [], .none, .t, false⟩⟩]  -- UNITS_PRESENT

/-- The entry cards of index 0x2010. -/
def rows2010 : List Row := [
  ⟨0x0, 0x0, ⟨.u8, .ro, 5, [], .none, .none, false⟩⟩,  -- Highest subindex
  ⟨0x1, 0x1, ⟨.u8, .ro, 0x40, [], .none, .none, false⟩⟩,  -- CAN_NODE_ID, active; 0xFF unconfigured
  ⟨0x2, 0x2, ⟨.u16, .ro, 500, [], .none, .none, false⟩⟩,  -- CAN_NOMINAL_RATE, kbit/s, active
  ⟨0x3, 0x3, ⟨.u16, .rwp, 2000, [(1000, 1000), (2000, 2000), (4000, 4000), (5000, 5000), (8000, 8000)], .p, .none, false⟩⟩,  -- CAN_DATA_RATE, kbit/s: 1000, 2000, 4000, 5000, 8000
  ⟨0x4, 0x4, ⟨.u8, .rw, 0, [(0, 1)], .p, .none, false⟩⟩,  -- NMT_STARTUP, 0 stay PRE-OPERATIONAL, 1 go OPERATIONAL
  ⟨0x5, 0x5, ⟨.u32, .rw, 0, [], .v, .t, true⟩⟩]  -- BUS_OFF_COUNT

/-- The entry cards of index 0x2020. -/
def rows2020 : List Row := [
  ⟨0x0, 0x0, ⟨.u8, .ro, 3, [], .none, .none, false⟩⟩,  -- Highest subindex
  ⟨0x1, 0x1, ⟨.u32, .rw, 0, [], .v, .t, true⟩⟩,  -- OAP_DISCARD_COUNT
  ⟨0x2, 0x2, ⟨.u8, .ro, 0, [], .v, .t, false⟩⟩,  -- OAP_SESSIONS_OPEN, 0–4
  ⟨0x3, 0x3, ⟨.u16, .rw, 30, [(5, 600)], .p, .none, false⟩⟩]  -- ANNOUNCE_PERIOD, s, 5–600

/-- The entry cards of index 0x2021–0x2022. -/
def rowsEth : List Row := [
  ⟨0x0, 0x0, ⟨.u8, .ro, 8, [], .none, .none, false⟩⟩,  -- Highest subindex
  ⟨0x1, 0x1, ⟨.u8, .rw, 0, [(0, 2)], .p, .none, false⟩⟩,  -- IP_MODE of ETH0 / ETH1: 0 DHCP, 1 static, 2 disabled
  ⟨0x2, 0x2, ⟨.u32, .rw, 0x00000000, [], .p, .none, false⟩⟩,  -- STATIC_ADDRESS, IPv4
  ⟨0x3, 0x3, ⟨.u8, .rw, 24, [(1, 30)], .p, .none, false⟩⟩,  -- PREFIX_LENGTH, 1–30
  ⟨0x4, 0x4, ⟨.u32, .rw, 0x00000000, [], .p, .none, false⟩⟩,  -- GATEWAY, IPv4
  ⟨0x5, 0x5, ⟨.u32, .ro, 0, [], .v, .none, false⟩⟩,  -- ACTIVE_ADDRESS, IPv4, 0 if none
  ⟨0x6, 0x6, ⟨.boolean, .rw, 1, [(0, 1)], .p, .none, false⟩⟩,  -- IPV6_ENABLE, link-local and SLAAC
  ⟨0x7, 0x7, ⟨.u8, .ro, 0, [], .v, .t, false⟩⟩,  -- LINK_STATE: 0 down, 1 100 Mb/s, 2 1000 Mb/s
  ⟨0x8, 0x8, ⟨(.ostr 6), .ro, 0, [], .none, .none, false⟩⟩]  -- MAC_ADDRESS

/-- The entry cards of index 0x2200. -/
def rows2200 : List Row := [
  ⟨0x0, 0x0, ⟨.u8, .ro, 0x0E, [], .none, .none, false⟩⟩,  -- Highest subindex
  ⟨0x1, 0x1, ⟨.u8, .ro, 2, [], .v, .t, false⟩⟩,  -- POWER_STATE: 1 STANDBY, 2 IDLE, 3 ACTIVE
  ⟨0x2, 0x2, ⟨.u8, .rw, 0, [(0, 1)], .v, .r, false⟩⟩,  -- POWER_REQUEST: 0 none, 1 enter STANDBY
  ⟨0x3, 0x3, ⟨.u16, .ro, 0, [], .v, .t, false⟩⟩,  -- VIN_MV
  ⟨0x4, 0x4, ⟨.u16, .ro, 0, [], .v, .t, false⟩⟩,  -- VPORT_MV
  ⟨0x5, 0x5, ⟨.u16, .ro, 0, [], .v, .t, false⟩⟩,  -- VCORE_MV
  ⟨0x6, 0x6, ⟨.u32, .ro, 0, [], .v, .t, false⟩⟩,  -- INPUT_POWER_MW
  ⟨0x7, 0x7, ⟨.i16, .ro, 0, [], .v, .t, false⟩⟩,  -- HUB_TEMPERATURE, 0.1 °C
  ⟨0x8, 0x8, ⟨.i16, .ro, 0, [], .v, .t, false⟩⟩,  -- HOTTEST_TILE_TEMPERATURE, 0.1 °C
  ⟨0x9, 0x9, ⟨.u8, .ro, 0, [], .v, .t, false⟩⟩,  -- TILES_GATED, bit n for CTn
  ⟨0xa, 0xa, ⟨.u8, .ro, 0, [], .v, .t, false⟩⟩,  -- OPERATING_POINT, 0–7
  ⟨0xb, 0xb, ⟨.u32, .rw, 0, [], .v, .t, true⟩⟩,  -- BROWNOUT_COUNT
  ⟨0xc, 0xc, ⟨.u8, .ro, 0, [], .none, .none, false⟩⟩,  -- LAST_SHUTDOWN_CAUSE
  ⟨0xd, 0xd, ⟨.u32, .rw, 36000, [(0, 72000)], .p, .none, false⟩⟩,  -- PORT_POWER_BUDGET_MW, 0–72000
  ⟨0xe, 0xe, ⟨.u32, .ro, 0, [], .v, .t, false⟩⟩]  -- PORT_POWER_COMMITTED_MW

/-- The entry cards of index 0x2300. -/
def rows2300 : List Row := [
  ⟨0x0, 0x0, ⟨.u8, .ro, 0x0E, [], .none, .none, false⟩⟩,  -- Highest subindex
  ⟨0x1, 0x1, ⟨.u8, .ro, 0, [], .v, .t, false⟩⟩,  -- STORE_STATE: 0 idle, 1 storing, 2 last store failed
  ⟨0x2, 0x2, ⟨.u8, .ro, 0, [], .v, .none, false⟩⟩,  -- VINTAGE_IN_USE: 0 A, 1 B, 2 defaults
  ⟨0x3, 0x3, ⟨.u32, .ro, 0, [], .v, .none, false⟩⟩,  -- VINTAGE_GENERATION
  ⟨0x4, 0x4, ⟨.u8, .ro, 0, [], .v, .t, false⟩⟩,  -- ACTIVE_IMAGE_SLOT: 0, 1, 0xFF none
  ⟨0x5, 0x5, ⟨.u8, .ro, 0, [], .v, .t, false⟩⟩,  -- SLOT0_STATE / SLOT1_STATE: 0 empty, 1 installing, 2 valid, 3 active
  ⟨0x6, 0x6, ⟨.u8, .ro, 0, [], .v, .t, false⟩⟩,  -- SLOT0_STATE / SLOT1_STATE: 0 empty, 1 installing, 2 valid, 3 active
  ⟨0x7, 0x7, ⟨.u8, .ro, 0, [], .v, .t, false⟩⟩,  -- PENDING_SWITCH: 0 none, 1 switch at next era boundary
  ⟨0x8, 0x8, ⟨.u8, .wo, 0, [(1, 4)], .v, .none, false⟩⟩,  -- INSTALL_CONTROL: 1 begin, 2 commit, 3 abort, 4 activate
  ⟨0x9, 0x9, ⟨.u32, .rw, 0, [], .v, .none, false⟩⟩,  -- INSTALL_OFFSET, bytes
  ⟨0xa, 0xa, ⟨.domain, .wo, 0, [], .v, .none, false⟩⟩,  -- INSTALL_DATA, 1–4096 bytes per write
  ⟨0xb, 0xb, ⟨.u32, .ro, 0, [], .v, .t, false⟩⟩,  -- INSTALL_BYTES_RECEIVED
  ⟨0xc, 0xc, ⟨.u32, .ro, 0, [], .v, .t, false⟩⟩,  -- INSTALL_STATUS, 0 or a status code
  ⟨0xd, 0xd, ⟨.u32, .ro, 0, [], .v, .none, false⟩⟩,  -- ACTIVE_IMAGE_ID
  ⟨0xe, 0xe, ⟨.u32, .ro, 0, [], .v, .none, false⟩⟩]  -- ACTIVE_IMAGE_VERSION

/-- The entry cards of index 0x2400. -/
def rows2400 : List Row := [
  ⟨0x0, 0x0, ⟨.u8, .ro, 5, [], .none, .none, false⟩⟩,  -- Highest subindex
  ⟨0x1, 0x1, ⟨.u32, .ro, 0, [], .v, .t, false⟩⟩,  -- BOOK_NEXT_SEQUENCE
  ⟨0x2, 0x2, ⟨.u32, .ro, 0, [], .v, .t, false⟩⟩,  -- BOOK_OLDEST_SEQUENCE
  ⟨0x3, 0x3, ⟨.u32, .rw, 0, [], .v, .none, false⟩⟩,  -- BOOK_READ_SEQUENCE
  ⟨0x4, 0x4, ⟨(.ostr 64), .ro, 0, [], .v, .none, false⟩⟩,  -- BOOK_RECORD at BOOK_READ_SEQUENCE
  ⟨0x5, 0x5, ⟨.u32, .rw, 0, [], .v, .t, true⟩⟩]  -- BOOK_OVERWRITTEN_COUNT

/-- The entry cards of index 0x2500. -/
def rows2500 : List Row := [
  ⟨0x0, 0x0, ⟨.u8, .ro, 8, [], .none, .none, false⟩⟩,  -- Highest subindex
  ⟨0x1, 0x1, ⟨.u8, .ro, 1, [], .none, .none, false⟩⟩,  -- SECURE_BOOT_STATE: 1 enforced
  ⟨0x2, 0x2, ⟨.u8, .ro, 0, [], .none, .none, false⟩⟩,  -- ACTIVE_BOOT_SLOT: 0 or 1
  ⟨0x3, 0x3, ⟨.u8, .ro, 0, [], .none, .none, false⟩⟩,  -- KEY_HASH_INDEX in use
  ⟨0x4, 0x4, ⟨.u8, .ro, 0, [], .v, .none, false⟩⟩,  -- DEBUG_STATE: 0 locked, 1 unlocked
  ⟨0x5, 0x5, ⟨(.ostr 16), .ro, 0, [], .v, .none, false⟩⟩,  -- DEBUG_CHALLENGE
  ⟨0x6, 0x6, ⟨(.ostr 64), .wo, 0, [], .v, .none, false⟩⟩,  -- DEBUG_RESPONSE, Ed25519 signature
  ⟨0x7, 0x7, ⟨.u8, .rw, 2, [(0, 2)], .p, .none, false⟩⟩,  -- OAP_ACCESS: 0 off, 1 read only, 2 read and write
  ⟨0x8, 0x8, ⟨.u32, .wo, 0, [], .p, .none, false⟩⟩]  -- OAP_WRITE_CODE, 0 none required

/-- The entry cards of index 0x3n00. -/
def rowsPort : List Row := [
  ⟨0x0, 0x0, ⟨.u8, .ro, 0x1D, [], .none, .none, false⟩⟩,  -- Highest subindex
  ⟨0x1, 0x1, ⟨.u8, .ro, 0, [], .v, .t, false⟩⟩,  -- PORT_STATE, 0–6
  ⟨0x2, 0x2, ⟨.boolean, .rw, 1, [(0, 1)], .p, .none, false⟩⟩,  -- PORT_ENABLE
  ⟨0x3, 0x3, ⟨.u8, .wo, 0, [], .v, .r, false⟩⟩,  -- PORT_COMMAND
  ⟨0x4, 0x4, ⟨.u8, .ro, 0, [], .v, .t, false⟩⟩,  -- FAULT_CAUSE, 0–11
  ⟨0x5, 0x5, ⟨.u8, .ro, 0, [], .v, .t, false⟩⟩,  -- HEAD_TYPE, 0 none, 1–4
  ⟨0x6, 0x6, ⟨.vstr, .ro, 0, [], .v, .none, false⟩⟩,  -- HEAD_SERIAL, 0–16 characters (R168)
  ⟨0x7, 0x7, ⟨(.ostr 256), .ro, 0, [], .v, .none, false⟩⟩,  -- IDENTITY_RECORD
  ⟨0x8, 0x8, ⟨.u16, .rw, 20, [(0, 1000)], .p, .none, false⟩⟩,  -- TRANSPORT_DELAY, µs, 0–1000
  ⟨0x9, 0x9, ⟨.u16, .rw, 0, [(0, 10000)], .p, .none, false⟩⟩,  -- REFRACTORY_US, 0–10000
  ⟨0xa, 0xa, ⟨.u8, .rw, 0, [(0, 14)], .p, .none, false⟩⟩,  -- HOT_THRESHOLD, 0 off, 1–14
  ⟨0xb, 0xb, ⟨.u8, .rw, 16, [(1, 255)], .p, .none, false⟩⟩,  -- HOT_BEATS, 1–255
  ⟨0xc, 0xc, ⟨.u16, .ro, 0, [], .v, .t, false⟩⟩,  -- HOT_MASKED, 0–4096
  ⟨0xd, 0xd, ⟨.u32, .rw, 0, [(0, 1200000)], .p, .none, false⟩⟩,  -- EVENT_BUDGET, events per beat, 0 rated, 1–1 200 000
  ⟨0xe, 0xe, ⟨.i16, .ro, 0, [], .v, .t, false⟩⟩,  -- HEAD_RATE_ERROR_PPM
  ⟨0xf, 0xf, ⟨.u16, .ro, 0, [], .v, .t, false⟩⟩,  -- PORT_POWER_MW
  ⟨0x10, 0x10, ⟨.u32, .rw, 0, [], .v, .t, true⟩⟩,  -- EVENTS_INJECTED_COUNT
  ⟨0x11, 0x11, ⟨.u32, .rw, 0, [], .v, .t, true⟩⟩,  -- HOT_DISCARD_COUNT
  ⟨0x12, 0x12, ⟨.u32, .rw, 0, [], .v, .t, true⟩⟩,  -- REFRACTORY_DISCARD_COUNT
  ⟨0x13, 0x13, ⟨.u32, .rw, 0, [], .v, .t, true⟩⟩,  -- DECIMATED_COUNT
  ⟨0x14, 0x14, ⟨.u32, .rw, 0, [], .v, .t, true⟩⟩,  -- NOT_INJECTED_COUNT
  ⟨0x15, 0x15, ⟨.u32, .rw, 0, [], .v, .t, true⟩⟩,  -- BUFFER_OVERFLOW_COUNT, packets
  ⟨0x16, 0x16, ⟨.u32, .rw, 0, [], .v, .t, true⟩⟩,  -- FORMAT_ERROR_COUNT
  ⟨0x17, 0x17, ⟨.u32, .rw, 0, [], .v, .t, true⟩⟩,  -- CSI_ERROR_COUNT, packets
  ⟨0x18, 0x18, ⟨.u32, .rw, 0, [], .v, .t, true⟩⟩,  -- STALL_COUNT
  ⟨0x19, 0x19, ⟨.u32, .rw, 0, [], .v, .t, true⟩⟩,  -- HEAD_DROPPED_COUNT
  ⟨0x1a, 0x1a, ⟨.u32, .rw, 0, [], .v, .t, true⟩⟩,  -- FRAME_DROP_COUNT
  ⟨0x1b, 0x1b, ⟨.u32, .rw, 0, [], .v, .t, true⟩⟩,  -- INSERTION_COUNT
  ⟨0x1c, 0x1c, ⟨.u32, .rw, 0, [], .v, .t, true⟩⟩,  -- HOT_TABLE_FULL_COUNT
  ⟨0x1d, 0x1d, ⟨.u8, .ro, 0, [], .v, .t, false⟩⟩]  -- LAST_STALL_CAUSE, 0 none, 1–3

/-- The entry cards of index 0x4000. -/
def rows4000 : List Row := [
  ⟨0x0, 0x0, ⟨.u8, .ro, 0x08, [], .none, .none, false⟩⟩,  -- Highest subindex
  ⟨0x1, 0x1, ⟨.u8, .ro, 0, [], .v, .t, false⟩⟩,  -- RANK_COUNT
  ⟨0x2, 0x2, ⟨.u16, .ro, 0, [], .v, .t, false⟩⟩,  -- CORES_LOADED, LOADED or RUNNING
  ⟨0x3, 0x3, ⟨.u16, .ro, 0, [], .v, .t, false⟩⟩,  -- CORES_FAULT
  ⟨0x4, 0x4, ⟨.u32, .rw, 0, [], .v, .t, true⟩⟩,  -- RANK_VIOLATION_COUNT
  ⟨0x5, 0x5, ⟨.u32, .rw, 0, [], .v, .t, true⟩⟩,  -- NO_PARTITION_COUNT
  ⟨0x6, 0x6, ⟨.beat48, .ro, 0, [], .v, .t, false⟩⟩,  -- LAST_STAGE_BEAT, last voice stage ended
  ⟨0x7, 0x7, ⟨.u32, .ro, 0, [], .v, .t, false⟩⟩,  -- LAST_STAGE_UPDATES: synaptic updates, over all cores, made by packets whose target beat is LAST_STAGE_BEAT
  ⟨0x8, 0x8, ⟨.u32, .ro, 0, [], .v, .t, false⟩⟩]  -- LAST_STAGE_FIRES: fires in the evaluations of the voice stage of LAST_STAGE_BEAT

/-- The entry cards of index 0x4100+c. -/
def rowsCore : List Row := [
  ⟨0x0, 0x0, ⟨.u8, .ro, 0x06, [], .none, .none, false⟩⟩,  -- Highest subindex
  ⟨0x1, 0x1, ⟨.u8, .ro, 0, [], .v, .t, false⟩⟩,  -- CORE_STATE, 0–4
  ⟨0x2, 0x2, ⟨.u32, .rw, 0, [], .v, .t, true⟩⟩,  -- EVENTS_RECEIVED_COUNT
  ⟨0x3, 0x3, ⟨.u32, .rw, 0, [], .v, .t, true⟩⟩,  -- SYNAPTIC_UPDATE_COUNT
  ⟨0x4, 0x4, ⟨.u32, .rw, 0, [], .v, .t, true⟩⟩,  -- FIRE_COUNT
  ⟨0x5, 0x5, ⟨.u32, .rw, 0, [], .v, .t, true⟩⟩,  -- ECC_CORRECTED_COUNT
  ⟨0x6, 0x6, ⟨.u32, .rw, 0, [], .v, .t, true⟩⟩]  -- NO_PARTITION_COUNT, register NO_PARTITION of the core

/-- The entry cards of index 0x4200. -/
def rows4200 : List Row := [
  ⟨0x0, 0x0, ⟨.u8, .ro, 0x0C, [], .none, .none, false⟩⟩,  -- Highest subindex
  ⟨0x1, 0x1, ⟨.u64, .rw, 0, [], .v, .t, true⟩⟩,  -- INJECTED_TOTAL
  ⟨0x2, 0x2, ⟨.u64, .rw, 0, [], .v, .t, true⟩⟩,  -- DELIVERED_TOTAL
  ⟨0x3, 0x3, ⟨.u64, .rw, 0, [], .v, .t, true⟩⟩,  -- SHED_TOTAL
  ⟨0x4, 0x4, ⟨.u64, .rw, 0, [], .v, .t, true⟩⟩,  -- UNROUTED_TOTAL
  ⟨0x5, 0x5, ⟨.u32, .rw, 0, [], .v, .t, true⟩⟩,  -- LEDGER_MISMATCH_COUNT
  ⟨0x6, 0x6, ⟨.beat48, .ro, 0, [], .v, .t, false⟩⟩,  -- LAST_LEDGER_BEAT
  ⟨0x7, 0x7, ⟨.u32, .rw, 0, [], .v, .t, true⟩⟩,  -- ESCAPE_COUNT
  ⟨0x8, 0x8, ⟨.u32, .rw, 0, [], .v, .t, true⟩⟩,  -- EDGE_DROP_COUNT
  ⟨0x9, 0x9, ⟨.u32, .rw, 0, [], .v, .t, true⟩⟩,  -- HOP_LIMIT_COUNT
  ⟨0xa, 0xa, ⟨.u32, .rw, 0, [], .v, .t, true⟩⟩,  -- ROUTE_DROP_COUNT
  ⟨0xb, 0xb, ⟨.u32, .rw, 0, [], .v, .t, true⟩⟩,  -- CREDIT_FAULT_COUNT
  ⟨0xc, 0xc, ⟨.u16, .rw, 0, [(0, 250)], .p, .none, false⟩⟩]  -- SHED_STEP, µs, 0–250

/-- The entry cards of index 0x5000. -/
def rows5000 : List Row := [
  ⟨0x0, 0x0, ⟨.u8, .ro, 0x08, [], .none, .none, false⟩⟩,  -- Highest subindex
  ⟨0x1, 0x1, ⟨.u32, .rw, 0, [], .v, .t, true⟩⟩,  -- TASKS_DONE_COUNT
  ⟨0x2, 0x2, ⟨.u32, .rw, 0, [], .v, .t, true⟩⟩,  -- TASKS_CANCELLED_COUNT
  ⟨0x3, 0x3, ⟨.u32, .rw, 0, [], .v, .t, true⟩⟩,  -- TASK_ERROR_COUNT, causes 4–6
  ⟨0x4, 0x4, ⟨.u32, .rw, 0, [], .v, .t, true⟩⟩,  -- DEP_IGNORED_COUNT
  ⟨0x5, 0x5, ⟨.u8, .ro, 0, [], .v, .t, false⟩⟩,  -- ENGINES_ONLINE, bit per engine
  ⟨0x6, 0x6, ⟨.beat48, .ro, 0, [], .v, .t, false⟩⟩,  -- LAST_PRESS_BEAT
  ⟨0x7, 0x7, ⟨.u32, .ro, 0, [], .v, .t, false⟩⟩,  -- LAST_PRESS_US, duration
  ⟨0x8, 0x8, ⟨.u8, .rw, 0xFF, [(0, 31), (0xFF, 0xFF)], .p, .none, false⟩⟩]  -- COMPLETION_QUEUE, 0–31, 0xFF none

/-- The entry cards of index 0x5100. -/
def rows5100 : List Row := [
  ⟨0x0, 0x0, ⟨.u8, .ro, 0x03, [], .none, .none, false⟩⟩,  -- Highest subindex
  ⟨0x1, 0x1, ⟨.u8, .ro, 0, [], .v, .none, false⟩⟩,  -- SOURCE_COUNT
  ⟨0x2, 0x2, ⟨.u16, .ro, 0, [], .v, .none, false⟩⟩,  -- CLASS_COUNT
  ⟨0x3, 0x3, ⟨.u32, .rw, 0, [], .v, .t, true⟩⟩]  -- MASKED_VERDICT_COUNT

/-- The entry cards of index 0x5180+s. -/
def rowsSource : List Row := [
  ⟨0x0, 0x0, ⟨.u8, .ro, 0x0A, [], .none, .none, false⟩⟩,  -- Highest subindex
  ⟨0x1, 0x1, ⟨.u8, .ro, 0, [], .v, .none, false⟩⟩,  -- KIND
  ⟨0x2, 0x2, ⟨.u8, .ro, 0, [], .v, .none, false⟩⟩,  -- MODE
  ⟨0x3, 0x3, ⟨.u8, .ro, 0xFF, [], .v, .none, false⟩⟩,  -- PORT
  ⟨0x4, 0x4, ⟨.u32, .ro, 0, [], .v, .none, false⟩⟩,  -- MAX_AGE_US
  ⟨0x5, 0x5, ⟨.u8, .ro, 0, [], .v, .none, false⟩⟩,  -- ABSENT_FACTOR
  ⟨0x6, 0x6, ⟨.stamp64, .ro, 0, [], .v, .t, false⟩⟩,  -- LATEST_TOV
  ⟨0x7, 0x7, ⟨.boolean, .ro, 0, [], .v, .t, false⟩⟩,  -- LATEST_VALID
  ⟨0x8, 0x8, ⟨.u32, .rw, 0, [], .v, .t, true⟩⟩,  -- COMMIT_COUNT
  ⟨0x9, 0x9, ⟨.u32, .rw, 0, [], .v, .t, true⟩⟩,  -- DISCARDED_COMMIT_COUNT
  ⟨0xa, 0xa, ⟨.u32, .rw, 0, [], .v, .t, true⟩⟩]  -- REPLACED_COUNT

/-- The entry cards of index 0x5200. -/
def rows5200 : List Row := [
  ⟨0x0, 0x0, ⟨.u8, .ro, 0x05, [], .none, .none, false⟩⟩,  -- Highest subindex
  ⟨0x1, 0x1, ⟨.verdict, .ro, 0, [], .v, .t, false⟩⟩,  -- LAST_VERDICT
  ⟨0x2, 0x2, ⟨.u32, .ro, 0, [], .v, .t, false⟩⟩,  -- NEXT_SEQUENCE
  ⟨0x3, 0x3, ⟨.u8, .rw, 0xFF, [(0, 31), (0xFF, 0xFF)], .p, .none, false⟩⟩,  -- VERDICT_QUEUE, 0–31, 0xFF none
  ⟨0x4, 0x4, ⟨.u32, .rw, 0, [], .v, .t, true⟩⟩,  -- SHED_VERDICT_COUNT
  ⟨0x5, 0x5, ⟨.u32, .rw, 0, [], .v, .t, true⟩⟩]  -- LATE_VERDICT_COUNT

/-- The entry cards of index 0x5300. -/
def rows5300 : List Row := [
  ⟨0x0, 0x0, ⟨.u8, .ro, 0x02, [], .none, .none, false⟩⟩,  -- Highest subindex
  ⟨0x1, 0x1, ⟨.u64, .rw, 0, [], .v, .r, false⟩⟩,  -- WEIGHT_SAMPLE
  ⟨0x2, 0x2, ⟨.u32, .rw, 0, [], .v, .t, true⟩⟩]  -- WEIGHT_SAMPLE_COUNT

/-- The entry cards of index queue. -/
def rowsQueue : List Row := [
  ⟨0x0, 0x0, ⟨.u8, .ro, 0x17, [], .none, .none, false⟩⟩,  -- Highest subindex
  ⟨0x1, 0x1, ⟨.u8, .ro, 0, [], .v, .t, false⟩⟩,  -- Q_STATE, 0–3
  ⟨0x2, 0x2, ⟨.boolean, .rw, 0, [(0, 1)], .p, .none, false⟩⟩,  -- ENABLE
  ⟨0x3, 0x3, ⟨.u8, .rw, 0, [(0, 1)], .p, .none, false⟩⟩,  -- STORAGE, 0 RING, 1 SPILL
  ⟨0x4, 0x4, ⟨.u8, .rw, 1, [], .p, .none, false⟩⟩,  -- LEVELS
  ⟨0x5, 0x5, ⟨.u32, .rw, 64, [], .p, .none, false⟩⟩,  -- CAPACITY, items
  ⟨0x6, 0x6, ⟨.u32, .rw, 0, [], .p, .none, false⟩⟩,  -- BASE, KiB
  ⟨0x7, 0x7, ⟨.u8, .rw, 0, [], .p, .none, false⟩⟩,  -- DEFAULT_LEVEL
  ⟨0x8, 0x8, ⟨.u32, .rw, 48, [], .p, .none, false⟩⟩,  -- HIGH_WATERMARK
  ⟨0x9, 0x9, ⟨.u32, .rw, 16, [], .p, .none, false⟩⟩,  -- LOW_WATERMARK
  ⟨0xa, 0xa, ⟨.u8, .rw, 0, [(0, 1)], .p, .none, false⟩⟩,  -- EMPTY_MODE, 0 IDLE, 1 FLAG
  ⟨0xb, 0xb, ⟨(.ostr 16), .rw, 0, [], .p, .none, false⟩⟩,  -- IDLE_ITEM
  ⟨0xc, 0xc, ⟨.boolean, .rw, 0, [(0, 1)], .p, .none, false⟩⟩,  -- ANTI_STARVE
  ⟨0xd, 0xd, ⟨.u8, .rw, 0, [], .p, .none, false⟩⟩,  -- FC_SELECT, bits 3:0
  ⟨0xe, 0xe, ⟨.u32, .ro, 0, [], .v, .t, false⟩⟩,  -- FILL
  ⟨0xf, 0xf, ⟨.u32, .ro, 0x00000008, [], .v, .t, false⟩⟩,  -- STATUS, as Q_STATUS
  ⟨0x10, 0x10, ⟨.u8, .wo, 0, [], .v, .r, false⟩⟩,  -- COMMAND
  ⟨0x11, 0x11, ⟨.u32, .rw, 0, [], .v, .t, true⟩⟩,  -- PUSHED_ITEM_COUNT
  ⟨0x12, 0x12, ⟨.u32, .rw, 0, [], .v, .t, true⟩⟩,  -- POPPED_ITEM_COUNT
  ⟨0x13, 0x13, ⟨.u32, .rw, 0, [], .v, .t, true⟩⟩,  -- FLUSHED_ITEM_COUNT
  ⟨0x14, 0x14, ⟨.u32, .rw, 0, [], .v, .t, true⟩⟩,  -- UNDERRUN_COUNT
  ⟨0x15, 0x15, ⟨.u32, .rw, 0, [], .v, .t, true⟩⟩,  -- DISCARDED_COUNT
  ⟨0x16, 0x16, ⟨.u32, .rw, 0, [], .v, .t, true⟩⟩,  -- CREDIT_FAULT_COUNT
  ⟨0x17, 0x17, ⟨.u32, .rw, 0, [], .v, .t, true⟩⟩]  -- MEM_ERROR_COUNT

/-- The entry cards of index 0x8000. -/
def rows8000 : List Row := [
  ⟨0x0, 0x0, ⟨.u8, .ro, 0x14, [], .none, .none, false⟩⟩,  -- Highest subindex
  ⟨0x1, 0x1, ⟨.boolean, .rwp, 1, [(0, 1)], .p, .none, false⟩⟩,  -- CHOIR_ENABLE
  ⟨0x2, 0x2, ⟨.u8, .ro, 0, [], .v, .t, false⟩⟩,  -- CHOIR_ROLE, 0–3
  ⟨0x3, 0x3, ⟨.u8, .ro, 1, [], .v, .t, false⟩⟩,  -- MEMBER_COUNT, 1–16
  ⟨0x4, 0x4, ⟨.u16, .ro, 0x0001, [], .v, .t, false⟩⟩,  -- MEMBER_MAP, bit per ID
  ⟨0x5, 0x5, ⟨.u32, .ro, 0, [], .v, .none, false⟩⟩,  -- PRECENTOR_SERIAL
  ⟨0x6, 0x6, ⟨.u32, .ro, 0, [], .v, .t, false⟩⟩,  -- MEMBERSHIP_GENERATION
  ⟨0x7, 0x7, ⟨.u8, .ro, 0, [], .v, .t, false⟩⟩,  -- CHOIR_BEAT_STATE: 0 not following, 1 ALIGNING, 2 FOLLOWING, 3 HOLDOVER, 4 FREE_RUN, 5 HALTED
  ⟨0x8, 0x8, ⟨.i64, .ro, 0, [], .v, .none, false⟩⟩,  -- CHOIR_BEAT_OFFSET, multiple of 256
  ⟨0x9, 0x9, ⟨.u32, .ro, 0, [], .v, .t, false⟩⟩,  -- PATH_DELAY_NS
  ⟨0xa, 0xa, ⟨.i32, .ro, 0, [], .v, .t, false⟩⟩,  -- CHOIR_PHASE_ERROR, µs
  ⟨0xb, 0xb, ⟨.u8, .ro, 0, [], .v, .t, false⟩⟩,  -- PORT0_STATE / PORT1_STATE: 0 down, 1 training, 2 up
  ⟨0xc, 0xc, ⟨.u8, .ro, 0, [], .v, .t, false⟩⟩,  -- PORT0_STATE / PORT1_STATE: 0 down, 1 training, 2 up
  ⟨0xd, 0xd, ⟨.u8, .ro, 0, [], .v, .t, false⟩⟩,  -- TOPOLOGY: 0 none, 1 chain, 2 ring
  ⟨0xe, 0xe, ⟨.u32, .rw, 0, [], .v, .t, true⟩⟩,  -- MEMBER_LOST_COUNT
  ⟨0xf, 0xf, ⟨.u32, .rw, 0, [], .v, .t, true⟩⟩,  -- LINK_REPLAY_COUNT
  ⟨0x10, 0x10, ⟨.u32, .rw, 0, [], .v, .t, true⟩⟩,  -- LINK_ERROR_COUNT
  ⟨0x11, 0x11, ⟨.u32, .rw, 0, [], .v, .t, true⟩⟩,  -- DEPARTED_DROP_COUNT
  ⟨0x12, 0x12, ⟨.u32, .rw, 0, [], .v, .t, true⟩⟩,  -- GATEWAY_SHED_COUNT
  ⟨0x13, 0x13, ⟨.u32, .rw, 0, [], .v, .t, true⟩⟩,  -- LINK_LEDGER_MISMATCH_COUNT
  ⟨0x14, 0x14, ⟨.boolean, .rw, 1, [(0, 1)], .p, .none, false⟩⟩]  -- CHOIR_SWITCH_ALL

/-- The entry cards of index 0x8010. -/
def rows8010 : List Row := [
  ⟨0x0, 0x0, ⟨.u8, .ro, 0x10, [], .none, .none, false⟩⟩,  -- Highest subindex
  ⟨0x1, 0x10, ⟨.u32, .ro, 0, [], .v, .none, false⟩⟩]  -- MEMBER_SERIAL of ID 0–15, 0 if free

/-- The entry cards of index 0x8100. -/
def rows8100 : List Row := [
  ⟨0x0, 0x0, ⟨.u8, .ro, 0x40, [], .none, .none, false⟩⟩,  -- Highest subindex
  ⟨0x1, 0x40, ⟨(.ostr 12), .rwp, 0, [], .p, .none, false⟩⟩]  -- CHOIR_KEY 0–63

/-- The entry cards of index 0x6000. -/
def rows6000 : List Row := [
  ⟨0x0, 0x0, ⟨.u8, .ro, 0x04, [], .none, .none, false⟩⟩,  -- Highest subindex
  ⟨0x1, 0x1, ⟨.u16, .ro, 0, [], .v, .t, false⟩⟩,  -- GATE_LEVELS, accepted: bit 2g input A, bit 2g+1 input B of gate g
  ⟨0x2, 0x2, ⟨.u8, .ro, 0, [], .v, .t, false⟩⟩,  -- ZONE_STATES, zone z in bits 2z+1:2z
  ⟨0x3, 0x3, ⟨.u32, .ro, 0, [], .v, .t, false⟩⟩,  -- COUNT_EVENT_SEQUENCE
  ⟨0x4, 0x4, ⟨(.ostr 16), .ro, 0, [], .v, .t, false⟩⟩]  -- LAST_COUNT_EVENT

/-- The entry cards of index 0x6010+g. -/
def rowsGate : List Row := [
  ⟨0x0, 0x0, ⟨.u8, .ro, 0x0F, [], .none, .none, false⟩⟩,  -- Highest subindex
  ⟨0x1, 0x1, ⟨.boolean, .rw, 0, [(0, 1)], .p, .none, false⟩⟩,  -- GATE_ENABLE
  ⟨0x2, 0x2, ⟨.u32, .rwp, 0, [], .p, .none, false⟩⟩,  -- SOURCE_A
  ⟨0x3, 0x3, ⟨.u32, .rwp, 0, [], .p, .none, false⟩⟩,  -- SOURCE_B
  ⟨0x4, 0x4, ⟨.u16, .rw, 2000, [(200, 50000)], .p, .none, false⟩⟩,  -- DEBOUNCE, µs, 200–50 000
  ⟨0x5, 0x5, ⟨.u8, .rw, 20, [(2, 255)], .p, .none, false⟩⟩,  -- CHATTER_MAX, 2–255
  ⟨0x6, 0x6, ⟨.u16, .rw, 1000, [(10, 10000)], .p, .none, false⟩⟩,  -- CHATTER_WINDOW, ms, 10–10 000
  ⟨0x7, 0x7, ⟨.u32, .rw, 10000, [(1000, 600000)], .p, .none, false⟩⟩,  -- STUCK_TIME, ms, 1000–600 000
  ⟨0x8, 0x8, ⟨.u8, .rw, 0, [(0, 1)], .p, .none, false⟩⟩,  -- STUCK_GATING, 0 belt motion, 1 always
  ⟨0x9, 0x9, ⟨.u8, .ro, 8, [], .v, .t, false⟩⟩,  -- SEQ_STATE, 0–9
  ⟨0xa, 0xa, ⟨.u8, .ro, 0, [], .v, .t, false⟩⟩,  -- GATE_FAULT, 0–3
  ⟨0xb, 0xb, ⟨.u8, .wo, 0, [], .v, .r, false⟩⟩,  -- GATE_COMMAND
  ⟨0xc, 0xc, ⟨.u32, .rw, 0, [], .v, .t, true⟩⟩,  -- IN_COUNT
  ⟨0xd, 0xd, ⟨.u32, .rw, 0, [], .v, .t, true⟩⟩,  -- OUT_COUNT
  ⟨0xe, 0xe, ⟨.u32, .rw, 0, [], .v, .t, true⟩⟩,  -- RETREAT_COUNT
  ⟨0xf, 0xf, ⟨.u32, .rw, 0, [], .v, .t, true⟩⟩]  -- SKIP_COUNT

/-- The entry cards of index 0x6080+r. -/
def rowsRegion : List Row := [
  ⟨0x0, 0x0, ⟨.u8, .ro, 0x08, [], .none, .none, false⟩⟩,  -- Highest subindex
  ⟨0x1, 0x1, ⟨.u8, .rwp, 0, [(0, 5)], .p, .none, false⟩⟩,  -- REGION_PORT, 0–5
  ⟨0x2, 0x5, ⟨.u16, .rwp, 0, [(0, 2047)], .p, .none, false⟩⟩,  -- REGION_X0, Y0, X1, Y1, 0–2047
  ⟨0x6, 0x6, ⟨.u16, .rw, 50, [(1, 65535)], .p, .none, false⟩⟩,  -- ON_EVENTS, 1–65 535
  ⟨0x7, 0x7, ⟨.u16, .rw, 10, [(0, 65534)], .p, .none, false⟩⟩,  -- OFF_EVENTS, 0–65 534
  ⟨0x8, 0x8, ⟨.u32, .ro, 0, [], .v, .t, false⟩⟩]  -- REGION_LAST_COUNT

/-- The entry cards of index 0x6100+z. -/
def rowsZone : List Row := [
  ⟨0x0, 0x0, ⟨.u8, .ro, 0x0C, [], .none, .none, false⟩⟩,  -- Highest subindex
  ⟨0x1, 0x1, ⟨.u8, .ro, 0, [], .v, .t, false⟩⟩,  -- ZONE_STATE, 0–3
  ⟨0x2, 0x2, ⟨.i16, .ro, 0, [], .v, .t, false⟩⟩,  -- ZONE_COUNT
  ⟨0x3, 0x3, ⟨.u16, .rwp, 0, [], .p, .none, false⟩⟩,  -- BOUNDARY
  ⟨0x4, 0x4, ⟨.u16, .rw, 100, [(1, 1000)], .p, .none, false⟩⟩,  -- ZONE_MAX, 1–1000
  ⟨0x5, 0x5, ⟨.u8, .ro, 0, [], .v, .t, false⟩⟩,  -- DISTURB_CAUSE
  ⟨0x6, 0x6, ⟨.u8, .rw, 0, [(0, 2)], .p, .none, false⟩⟩,  -- RESTORE_METHOD, 0–2
  ⟨0x7, 0x7, ⟨.u32, .wo, 0, [], .v, .r, false⟩⟩,  -- ZONE_COMMAND
  ⟨0x8, 0x8, ⟨.u8, .rw, 3, [(1, 16)], .p, .none, false⟩⟩,  -- RESTORE_VERDICTS, 1–16
  ⟨0x9, 0x9, ⟨.i32, .rw, 5000, [(0, 1000000)], .p, .none, false⟩⟩,  -- EMPTY_WEIGHT_MG, 0–1 000 000
  ⟨0xa, 0xa, ⟨.u64, .rw, 0, [], .v, .r, false⟩⟩,  -- BAGGING_WEIGHT
  ⟨0xb, 0xb, ⟨.u32, .rw, 30000, [(1000, 600000)], .p, .none, false⟩⟩,  -- RESTORE_TIMEOUT, ms, 1000–600 000
  ⟨0xc, 0xc, ⟨.u32, .rw, 0, [], .v, .t, true⟩⟩]  -- DISTURB_COUNT

/-- The entry cards of index 0x6200. -/
def rows6200 : List Row := [
  ⟨0x0, 0x0, ⟨.u8, .ro, 0x1A, [], .none, .none, false⟩⟩,  -- Highest subindex
  ⟨0x1, 0x1, ⟨.u8, .ro, 0, [], .v, .t, false⟩⟩,  -- BELT_STATE, 0–6
  ⟨0x2, 0x2, ⟨.u8, .wo, 0, [], .v, .r, false⟩⟩,  -- BELT_COMMAND
  ⟨0x3, 0x3, ⟨.i16, .rw, 150, [(-1000, 1000)], .p, .r, false⟩⟩,  -- TARGET_SPEED_MMS, −1000–1000
  ⟨0x4, 0x4, ⟨.u16, .rw, 500, [(10, 5000)], .p, .none, false⟩⟩,  -- ACCEL_MMS2, 10–5000
  ⟨0x5, 0x5, ⟨.u16, .rw, 500, [(10, 5000)], .p, .none, false⟩⟩,  -- DECEL_MMS2, 10–5000
  ⟨0x6, 0x6, ⟨.i16, .ro, 0, [], .v, .t, false⟩⟩,  -- BELT_SPEED_MMS
  ⟨0x7, 0x7, ⟨.u32, .rwp, 600, [(1, 1000000)], .p, .none, false⟩⟩,  -- HALL_EDGES_PER_M, 1–1 000 000
  ⟨0x8, 0x8, ⟨.u32, .rwp, 0, [(0, 10000000)], .p, .none, false⟩⟩,  -- ENCODER_EDGES_PER_M, 0 none, 1–10 000 000
  ⟨0x9, 0x9, ⟨.u16, .rwp, 1200, [(100, 2000)], .p, .none, false⟩⟩,  -- FULL_SPEED_MMS, speed at full duty, 100–2000
  ⟨0xa, 0xa, ⟨.u16, .rw, 10000, [(500, 40000)], .p, .none, false⟩⟩,  -- CURRENT_LIMIT_MA, 500–40 000
  ⟨0xb, 0xb, ⟨.u16, .rwp, 2000, [(100, 50000)], .p, .none, false⟩⟩,  -- SHUNT_MICROOHM, 100–50 000
  ⟨0xc, 0xc, ⟨.u16, .rwp, 20000, [(16000, 40000)], .p, .none, false⟩⟩,  -- PWM_FREQUENCY_HZ, 16 000–40 000
  ⟨0xd, 0xd, ⟨.u16, .rwp, 500, [(100, 2000)], .p, .none, false⟩⟩,  -- DEAD_TIME_NS, 100–2000
  ⟨0xe, 0xe, ⟨.u16, .rw, 0x0100, [], .p, .none, false⟩⟩,  -- SPEED_KP, Q8.8
  ⟨0xf, 0xf, ⟨.u16, .rw, 0x0010, [], .p, .none, false⟩⟩,  -- SPEED_KI, Q8.8 per ms
  ⟨0x10, 0x10, ⟨.boolean, .rw, 0, [(0, 1)], .p, .none, false⟩⟩,  -- STOP_ON_VERDICT
  ⟨0x11, 0x11, ⟨.u8, .ro, 0, [], .v, .t, false⟩⟩,  -- BELT_FAULT, 0–5
  ⟨0x12, 0x12, ⟨.u8, .ro, 0, [], .v, .t, false⟩⟩,  -- STOP_CAUSE, 0–6, last stop
  ⟨0x13, 0x13, ⟨.u16, .ro, 0, [], .v, .t, false⟩⟩,  -- MOTOR_CURRENT_MA
  ⟨0x14, 0x14, ⟨.i32, .ro, 0, [], .v, .t, false⟩⟩,  -- ENCODER_POSITION, edges, wrapping
  ⟨0x15, 0x15, ⟨.i32, .ro, 0, [], .v, .t, false⟩⟩,  -- INDEX_POSITION
  ⟨0x16, 0x16, ⟨.boolean, .ro, 0, [], .v, .t, false⟩⟩,  -- SLS_CAP_ACTIVE
  ⟨0x17, 0x17, ⟨.u32, .rw, 0, [], .v, .t, true⟩⟩,  -- START_COUNT
  ⟨0x18, 0x18, ⟨.u32, .rw, 0, [], .v, .t, true⟩⟩,  -- FLYING_START_COUNT
  ⟨0x19, 0x19, ⟨.u32, .rw, 0, [], .v, .t, true⟩⟩,  -- BRAKE_START_COUNT
  ⟨0x1a, 0x1a, ⟨.u32, .rw, 0, [], .v, .t, true⟩⟩]  -- HALL_SKIP_COUNT

/-- The entry cards of index 0x6400. -/
def rows6400 : List Row := [
  ⟨0x0, 0x0, ⟨.u8, .ro, 0x0D, [], .none, .none, false⟩⟩,  -- Highest subindex
  ⟨0x1, 0x1, ⟨.u8, .ro, 0, [], .v, .t, false⟩⟩,  -- CH0_STATE / CH1_STATE, 0–7
  ⟨0x2, 0x2, ⟨.u8, .ro, 0, [], .v, .t, false⟩⟩,  -- CH0_STATE / CH1_STATE, 0–7
  ⟨0x3, 0x3, ⟨.u8, .rw, 20, [(0, 160), (255, 255)], .p, .r, false⟩⟩,  -- ATTENUATION_CH0 / _CH1, 0–160, 255
  ⟨0x4, 0x4, ⟨.u8, .rw, 20, [(0, 160), (255, 255)], .p, .r, false⟩⟩,  -- ATTENUATION_CH0 / _CH1, 0–160, 255
  ⟨0x5, 0x5, ⟨.boolean, .rw, 0, [(0, 1)], .v, .r, false⟩⟩,  -- AUDIO_MUTE
  ⟨0x6, 0x6, ⟨.u8, .rw, 10, [(1, 10)], .p, .none, false⟩⟩,  -- POWER_LIMIT_W, 1–10
  ⟨0x7, 0x7, ⟨.u8, .wo, 0, [], .v, .r, false⟩⟩,  -- AUDIO_COMMAND
  ⟨0x8, 0x8, ⟨.u8, .ro, 0, [], .v, .t, false⟩⟩,  -- TRIP_INFO_CH0 / _CH1, last trip
  ⟨0x9, 0x9, ⟨.u8, .ro, 0, [], .v, .t, false⟩⟩,  -- TRIP_INFO_CH0 / _CH1, last trip
  ⟨0xa, 0xa, ⟨.u32, .rw, 0, [], .v, .t, true⟩⟩,  -- TRIP_COUNT_CH0 / _CH1
  ⟨0xb, 0xb, ⟨.u32, .rw, 0, [], .v, .t, true⟩⟩,  -- TRIP_COUNT_CH0 / _CH1
  ⟨0xc, 0xc, ⟨.u32, .rw, 0, [], .v, .t, true⟩⟩,  -- AUDIO_UNDERRUN_COUNT
  ⟨0xd, 0xd, ⟨.i16, .ro, 0, [], .v, .t, false⟩⟩]  -- STAGE_TEMPERATURE, 0.1 °C

/-- The entry cards of index 0x6800. -/
def rows6800 : List Row := [
  ⟨0x0, 0x0, ⟨.u8, .ro, 0x11, [], .none, .none, false⟩⟩,  -- Highest subindex
  ⟨0x1, 0x1, ⟨.u8, .ro, 0, [], .none, .t, false⟩⟩,  -- ISLAND_STATE, 0–6
  ⟨0x2, 0x2, ⟨.u8, .ro, 0, [], .none, .t, false⟩⟩,  -- LOCK_CAUSE, 0–12
  ⟨0x3, 0x3, ⟨.u8, .ro, 0, [], .none, .t, false⟩⟩,  -- SIN_LEVELS: bit 2n channel A, 2n+1 channel B
  ⟨0x4, 0x4, ⟨.u16, .ro, 0, [], .none, .t, false⟩⟩,  -- SIN_FAULT: bits 4n+3:4n input n: 0 none, 1 DISCREPANCY, 2 TEST_PULSE, 3 CROSS_CIRCUIT
  ⟨0x5, 0x5, ⟨.u8, .ro, 0, [], .none, .t, false⟩⟩,  -- STO_STATUS: bit 0 A commanded, 1 B commanded, 2 FB_A, 3 FB_B, 4 ordinary stop line
  ⟨0x6, 0x6, ⟨.i16, .ro, 0, [], .none, .t, false⟩⟩,  -- SAFE_SPEED_HALL_MMS / SAFE_SPEED_ENC_MMS
  ⟨0x7, 0x7, ⟨.i16, .ro, 0, [], .none, .t, false⟩⟩,  -- SAFE_SPEED_HALL_MMS / SAFE_SPEED_ENC_MMS
  ⟨0x8, 0x8, ⟨.u16, .ro, 0, [], .none, .t, false⟩⟩,  -- SLS_CAP_MMS, 0 none
  ⟨0x9, 0x9, ⟨.u32, .ro, 0, [], .none, .t, false⟩⟩,  -- DEGRADED_REMAINING_MS
  ⟨0xa, 0xa, ⟨.boolean, .ro, 0, [], .none, .t, false⟩⟩,  -- SPEED_FAULT
  ⟨0xb, 0xb, ⟨.u32, .ro, 0, [], .none, .t, false⟩⟩,  -- DEMAND_COUNT
  ⟨0xc, 0xc, ⟨.u16, .ro, 0, [], .none, .t, false⟩⟩,  -- LAST_REACTION_US
  ⟨0xd, 0xd, ⟨.u32, .ro, 0, [], .none, .none, false⟩⟩,  -- CONFIG_CRC
  ⟨0xe, 0xe, ⟨.u32, .ro, 0, [], .none, .none, false⟩⟩,  -- CONFIG_GENERATION
  ⟨0xf, 0xf, ⟨.boolean, .ro, 0, [], .none, .t, false⟩⟩,  -- TEST_DUE
  ⟨0x10, 0x10, ⟨.i32, .ro, 0, [], .none, .t, false⟩⟩,  -- CLOCK_DEVIATION_PPM
  ⟨0x11, 0x11, ⟨.u32, .ro, 0, [], .none, .t, false⟩⟩]  -- MIRROR_COUNTER

/-- The entry cards of index 0x6810. -/
def rows6810 : List Row := [
  ⟨0x0, 0x0, ⟨.u8, .ro, 0x0F, [], .none, .none, false⟩⟩,  -- Highest subindex
  ⟨0x1, 0x4, ⟨.u8, .rws, 0, [], .none, .none, false⟩⟩,  -- SIN_CONFIG0–3
  ⟨0x5, 0x5, ⟨.u16, .rws, 0, [], .none, .none, false⟩⟩,  -- DISCREPANCY_MS
  ⟨0x6, 0x6, ⟨.u8, .rws, 0, [], .none, .none, false⟩⟩,  -- INPUT_FILTER
  ⟨0x7, 0x7, ⟨.u8, .rws, 0, [], .none, .none, false⟩⟩,  -- TP_PULSE
  ⟨0x8, 0x8, ⟨.u16, .rws, 0, [], .none, .none, false⟩⟩,  -- SLS_LIMIT_MMS
  ⟨0x9, 0x9, ⟨.u16, .rws, 0, [], .none, .none, false⟩⟩,  -- SLS_RAMP_MS
  ⟨0xa, 0xa, ⟨.u32, .rws, 0, [], .none, .none, false⟩⟩,  -- HALL_EDGES_PER_M
  ⟨0xb, 0xb, ⟨.u32, .rws, 0, [], .none, .none, false⟩⟩,  -- ENC_EDGES_PER_M
  ⟨0xc, 0xc, ⟨.u16, .rws, 0, [], .none, .none, false⟩⟩,  -- SPEED_DISCREPANCY_MS
  ⟨0xd, 0xd, ⟨.u16, .rws, 0, [], .none, .none, false⟩⟩,  -- DEGRADED_S
  ⟨0xe, 0xe, ⟨.u8, .rws, 0, [], .none, .none, false⟩⟩,  -- POWERUP_RESET
  ⟨0xf, 0xf, ⟨.u8, .rws, 0, [], .none, .none, false⟩⟩]  -- STO_FB_TIME_MS

/-- The entry cards of index 0x6F00. -/
def rows6F00 : List Row := [
  ⟨0x0, 0x0, ⟨.u8, .ro, 0x06, [], .none, .none, false⟩⟩,  -- Highest subindex
  ⟨0x1, 0x1, ⟨(.ostr 64), .wo, 0, [], .none, .none, false⟩⟩,  -- SAFETY_PARAM_BLOCK
  ⟨0x2, 0x2, ⟨.u8, .ro, 0, [], .v, .none, false⟩⟩,  -- TRANSFER_STATE: 0 idle, 1 awaiting confirmation, 2 writing, 3 done, 4 ended
  ⟨0x3, 0x3, ⟨(.ostr 64), .ro, 0, [], .v, .none, false⟩⟩,  -- TRANSFER_ECHO
  ⟨0x4, 0x4, ⟨.u16, .ro, 0, [], .v, .none, false⟩⟩,  -- CONFIRM_CODE
  ⟨0x5, 0x5, ⟨(.ostr 8), .wo, 0, [], .none, .none, false⟩⟩,  -- SAFETY_CONFIRM
  ⟨0x6, 0x6, ⟨.u32, .ro, 0, [], .v, .none, false⟩⟩]  -- TRANSFER_STATUS, 0 or a status code

/-- The entry cards of index 0x7000. -/
def rows7000 : List Row := [
  ⟨0x0, 0x0, ⟨.u8, .ro, 0x02, [], .none, .none, false⟩⟩,  -- Highest subindex
  ⟨0x1, 0x1, ⟨.u32, .ro, 0, [], .v, .t, false⟩⟩,  -- POOL_MARKS, buffer b in bits 4b+3:4b
  ⟨0x2, 0x2, ⟨.u32, .rw, 0, [], .v, .t, true⟩⟩]  -- LINE_BUFFER_ERROR_COUNT

/-- The entry cards of index 0x7100+s. -/
def rowsStream : List Row := [
  ⟨0x0, 0x0, ⟨.u8, .ro, 0x21, [], .none, .none, false⟩⟩,  -- Highest subindex
  ⟨0x1, 0x1, ⟨.u8, .ro, 0, [], .v, .t, false⟩⟩,  -- STREAM_STATE, 0–2
  ⟨0x2, 0x2, ⟨.boolean, .rw, 0, [(0, 1)], .p, .none, false⟩⟩,  -- STREAM_ENABLE
  ⟨0x3, 0x3, ⟨.u8, .ro, 0, [], .v, .t, false⟩⟩,  -- WAIT_CAUSE, 0–5
  ⟨0x4, 0x4, ⟨.u8, .rw, 0, [(0, 5)], .p, .none, false⟩⟩,  -- PORT, 0–5
  ⟨0x5, 0x5, ⟨.u8, .rw, 0xFF, [(0, 31), (0xFF, 0xFF)], .p, .none, false⟩⟩,  -- OUTPUT_QUEUE, 0–31, 0xFF none
  ⟨0x6, 0x6, ⟨.u8, .rw, 0, [(0, 1)], .p, .none, false⟩⟩,  -- CODEC, 0 HEVC, 1 AVC
  ⟨0x7, 0x7, ⟨.u8, .rw, 0, [(0, 1)], .p, .none, false⟩⟩,  -- SCALE, 0 full, 1 half
  ⟨0x8, 0x8, ⟨.u8, .rw, 1, [(0, 4)], .p, .none, false⟩⟩,  -- BAYER_ORDER, 0–4
  ⟨0x9, 0x9, ⟨.u8, .rw, 1, [(1, 8)], .p, .none, false⟩⟩,  -- FRAME_DECIMATE, 1–8
  ⟨0xa, 0xa, ⟨.u16, .rw, 256, [(32, 2176)], .p, .none, false⟩⟩,  -- SLICE_LINES, 32–2176, multiple of 32
  ⟨0xb, 0xb, ⟨.u8, .rw, 2, [(1, 2)], .p, .none, false⟩⟩,  -- REFS, 1–2
  ⟨0xc, 0xc, ⟨.u8, .rw, 1, [(0, 2)], .p, .none, false⟩⟩,  -- SEARCH_RANGE, 0–2
  ⟨0xd, 0xd, ⟨.u8, .rw, 2, [(0, 2)], .p, .none, false⟩⟩,  -- RC_MODE, 0–2
  ⟨0xe, 0xe, ⟨.u16, .rw, 4000, [(500, 40000)], .p, .none, false⟩⟩,  -- TARGET_KBPS, 500–40 000
  ⟨0xf, 0xf, ⟨.u16, .rw, 8000, [(500, 40000)], .p, .none, false⟩⟩,  -- MAX_KBPS, 500–40 000
  ⟨0x10, 0x10, ⟨.u16, .rw, 1000, [(100, 4000)], .p, .none, false⟩⟩,  -- VBV_MS, 100–4000
  ⟨0x11, 0x11, ⟨.u8, .rw, 30, [(0, 51)], .p, .none, false⟩⟩,  -- QP_I / QP_P, 0–51
  ⟨0x12, 0x12, ⟨.u8, .rw, 32, [(0, 51)], .p, .none, false⟩⟩,  -- QP_I / QP_P, 0–51
  ⟨0x13, 0x13, ⟨.u8, .rw, 18, [(0, 51)], .p, .none, false⟩⟩,  -- QP_MIN / QP_MAX, 0–51
  ⟨0x14, 0x14, ⟨.u8, .rw, 46, [(0, 51)], .p, .none, false⟩⟩,  -- QP_MIN / QP_MAX, 0–51
  ⟨0x15, 0x15, ⟨.u16, .rw, 0, [(0, 3600)], .p, .none, false⟩⟩,  -- IDR_PERIOD, frames, 0 or 1–3600
  ⟨0x16, 0x16, ⟨.u16, .rw, 60, [(0, 0), (8, 3600)], .p, .none, false⟩⟩,  -- LT_REFRESH, frames, 0 or 8–3600
  ⟨0x17, 0x17, ⟨.boolean, .rw, 1, [(0, 1)], .p, .none, false⟩⟩,  -- GV_ENABLE
  ⟨0x18, 0x18, ⟨.i32, .rw, 0, [], .p, .none, false⟩⟩,  -- BELT_PX_PER_M_X / _Y, 1/16 pixel per m
  ⟨0x19, 0x19, ⟨.i32, .rw, 0, [], .p, .none, false⟩⟩,  -- BELT_PX_PER_M_X / _Y, 1/16 pixel per m
  ⟨0x1a, 0x1a, ⟨.u8, .wo, 0, [(1, 3)], .v, .r, false⟩⟩,  -- STREAM_COMMAND, 1–3
  ⟨0x1b, 0x1b, ⟨.u32, .ro, 0, [], .v, .t, false⟩⟩,  -- FRAME_NUMBER, last started
  ⟨0x1c, 0x1c, ⟨.i32, .ro, 0, [], .v, .t, false⟩⟩,  -- LAST_GV: bits 15:0 X, 31:16 Y, quarter pixels
  ⟨0x1d, 0x1d, ⟨.u32, .ro, 0, [], .v, .t, false⟩⟩,  -- LAST_FRAME_BYTES
  ⟨0x1e, 0x1e, ⟨.u32, .rw, 0, [], .v, .t, true⟩⟩,  -- FRAMES_CODED_COUNT
  ⟨0x1f, 0x1f, ⟨.u32, .rw, 0, [], .v, .t, true⟩⟩,  -- SKIPPED_FRAME_COUNT
  ⟨0x20, 0x20, ⟨.u32, .rw, 0, [], .v, .t, true⟩⟩,  -- RC_SKIP_COUNT
  ⟨0x21, 0x21, ⟨.u32, .rw, 0, [], .v, .t, true⟩⟩]  -- CONCEALED_FRAME_COUNT

/-- The cards of an index, none where the index does not exist in any variant (03 R78, R86). -/
def indexRows (idx : Nat) : Option (List Row) :=
  if idx = 0x2100 then some rows2100
  else if idx = 0x1000 then some rows1000
  else if idx = 0x1001 then some rows1001
  else if idx = 0x1003 then some rows1003
  else if idx = 0x1005 then some rows1005
  else if idx = 0x1008 then some rows1008
  else if idx = 0x1009 then some rows1009
  else if idx = 0x100A then some rows100A
  else if idx = 0x1010 then some rows1010
  else if idx = 0x1011 then some rows1011
  else if idx = 0x1014 then some rows1014
  else if idx = 0x1015 then some rows1015
  else if idx = 0x1016 then some rows1016
  else if idx = 0x1017 then some rows1017
  else if idx = 0x1018 then some rows1018
  else if idx = 0x1200 then some rows1200
  else if 0x1400 ≤ idx ∧ idx ≤ 0x140F then some rowsRpdoComm
  else if 0x1600 ≤ idx ∧ idx ≤ 0x160F then some rowsRpdoMap
  else if 0x1800 ≤ idx ∧ idx ≤ 0x180F then some rowsTpdoComm
  else if 0x1A00 ≤ idx ∧ idx ≤ 0x1A0F then some rowsTpdoMap
  else if idx = 0x2001 then some rows2001
  else if idx = 0x2010 then some rows2010
  else if idx = 0x2020 then some rows2020
  else if 0x2021 ≤ idx ∧ idx ≤ 0x2022 then some rowsEth
  else if idx = 0x2200 then some rows2200
  else if idx = 0x2300 then some rows2300
  else if idx = 0x2400 then some rows2400
  else if idx = 0x2500 then some rows2500
  else if 0x3000 ≤ idx ∧ idx ≤ 0x3500 ∧ idx % 0x100 = 0 then some rowsPort
  else if idx = 0x4000 then some rows4000
  else if 0x4100 ≤ idx ∧ idx ≤ 0x41FF then some rowsCore
  else if idx = 0x4200 then some rows4200
  else if idx = 0x5000 then some rows5000
  else if idx = 0x5100 then some rows5100
  else if 0x5180 ≤ idx ∧ idx ≤ 0x5187 then some rowsSource
  else if idx = 0x5200 then some rows5200
  else if idx = 0x5300 then some rows5300
  else if 0x9000 ≤ idx ∧ idx < 0x9800 ∧ idx % 0x40 = 0 then some rowsQueue
  else if idx = 0x8000 then some rows8000
  else if idx = 0x8010 then some rows8010
  else if idx = 0x8100 then some rows8100
  else if idx = 0x6000 then some rows6000
  else if 0x6010 ≤ idx ∧ idx ≤ 0x6017 then some rowsGate
  else if 0x6080 ≤ idx ∧ idx ≤ 0x608F then some rowsRegion
  else if 0x6100 ≤ idx ∧ idx ≤ 0x6103 then some rowsZone
  else if idx = 0x6200 then some rows6200
  else if idx = 0x6400 then some rows6400
  else if idx = 0x6800 then some rows6800
  else if idx = 0x6810 then some rows6810
  else if idx = 0x6F00 then some rows6F00
  else if idx = 0x7000 then some rows7000
  else if 0x7100 ≤ idx ∧ idx ≤ 0x7101 then some rowsStream
  else none

/-- Whether the unit of an index is absent (01 R41). -/
def State.unitAbsent (s : State) (idx : Nat) : Bool :=
  (decide (0x3000 ≤ idx) && decide (idx ≤ 0x35FF) && decide (s.portCount ≤ (idx - 0x3000) / 0x100))
  || (decide (0x4100 ≤ idx) && decide (idx ≤ 0x41FF) && !s.hasCore (idx - 0x4100))
  || (decide (0x6400 ≤ idx) && decide (idx ≤ 0x67FF) && !s.hasUnit 6)
  || (decide (0x7000 ≤ idx) && decide (idx ≤ 0x7FFF) && !s.hasUnit 5)
  || (decide (0x8000 ≤ idx) && decide (idx ≤ 0x8FFF) && !s.hasUnit 4)

/-- The card of a subindex among rows. -/
def rowCard : List Row → Nat → Option Card
  | [], _ => none
  | r :: t, sub => if r.lo ≤ sub ∧ sub ≤ r.hi then some r.card else rowCard t sub

/-- What naming an entry finds (03 R78, 01 R41). -/
inductive Found where
  | noIndex | noSub | card (c : Card)
deriving DecidableEq, Repr

/-- The entry of an index and subindex. -/
def State.find (s : State) (idx sub : Nat) : Found :=
  if s.unitAbsent idx then .noIndex
  else match indexRows idx with
    | none => .noIndex
    | some rows =>
      match rowCard rows sub with
      | none => .noSub
      | some c => .card c

/-- The storage key of an entry. -/
def ekey (idx sub : Nat) : Nat := idx * 256 + sub

/-- The default of an entry, those of R87 that name the active node-ID computed from it. -/
def State.dfltOf (s : State) (idx sub : Nat) : Nat :=
  if idx = 0x1014 then 0x80 + s.comm.node
  else if 0x1400 ≤ idx ∧ idx ≤ 0x140F ∧ sub = 1 then
    (if idx < 0x1404 then 0x200 + 0x100 * (idx - 0x1400) + s.comm.node else 0x80000000)
  else if 0x1800 ≤ idx ∧ idx ≤ 0x180F ∧ sub = 1 then
    (if idx < 0x1804 then 0x180 + 0x100 * (idx - 0x1800) + s.comm.node else 0x80000000)
  else if idx = 0x7101 ∧ sub = 4 then 1
  else match indexRows idx with
    | none => 0
    | some rows =>
      match rowCard rows sub with
      | none => 0
      | some c => c.dflt

/-- The value an entry's own storage holds, its default where nothing is stored (03 R75). -/
def State.ent (s : State) (idx sub : Nat) : Nat :=
  match tabGet 0 s.od (ekey idx sub) with
  | 0 => s.dfltOf idx sub
  | v + 1 => v

/-- A signed entry's value. -/
def State.entI (s : State) (idx sub n : Nat) : Int := sext n (s.ent idx sub)

/-- Stores a value in an entry. -/
def State.setEnt (idx sub v : Nat) (s : State) : State := { s with od := tabPut 0 s.od (ekey idx sub) (v + 1) }

/-- The value in force of an entry whose writes act at a boundary (03 R80). -/
def State.force (s : State) (idx sub : Nat) : Nat :=
  match tabGet 0 s.inForce (ekey idx sub) with
  | 0 => s.dfltOf idx sub
  | v + 1 => v

/-- Puts a value in force. -/
def State.setForce (idx sub v : Nat) (s : State) : State :=
  { s with inForce := tabPut 0 s.inForce (ekey idx sub) (v + 1) }

/-- Adds to a 32-bit count, which saturates (03 R91). -/
def State.count (idx sub n : Nat) (s : State) : State := s.setEnt idx sub (satAdd max32 (s.ent idx sub) n)

/-- Index of the entries of a port, core, source, gate, region, zone, stream and queue. -/
def portIdx (p : Nat) : Nat := 0x3000 + 0x100 * p
/-- 06 R220. -/
def coreIdx (c : Nat) : Nat := 0x4100 + c
/-- 08 R291. -/
def sourceIdx (i : Nat) : Nat := 0x5180 + i
/-- 12 R418. -/
def gateIdx (g : Nat) : Nat := 0x6010 + g
/-- 12 R418. -/
def regionIdx (r : Nat) : Nat := 0x6080 + r
/-- 12 R418. -/
def zoneIdx (z : Nat) : Nat := 0x6100 + z
/-- 16 R524. -/
def streamIdx (v : Nat) : Nat := 0x7100 + v
/-- 09 R319. -/
def queueIdx (q : Nat) : Nat := 0x9000 + 0x40 * q

/-- Whether a number lies in one of the ranges; no range admits every value of the type. -/
def inRanges (rng : List (Int × Int)) (v : Int) : Bool :=
  rng.isEmpty || rng.any (fun r => decide (r.1 ≤ v) && decide (v ≤ r.2))

/-- A number as its type reads it. -/
def Ty.value (t : Ty) (v : Nat) : Int :=
  match t with
  | .i16 => sext 16 v
  | .i32 => sext 32 v
  | .i64 => sext 64 v
  | _ => (v : Int)

end Sys2Proof.Machine
end

