-- ==== Sys2Proof/Machine/Flags.lean ====
section
/-! DEFINITION. Status and error flags: ERROR_REGISTER, EMCY conditions and events (03 R88, R103 to R105), the staging
of Cellar Book records (04 R147 to R150), and the entry of access errors (01 R32, R33). -/

namespace Sys2Proof.Machine

/-- The ERROR_REGISTER bit of a condition's code (03 R105). -/
def emcyBit (code : Nat) : Nat :=
  if code = 0x3120 then 2
  else if code = 0x4210 then 3
  else if code = 0x5000 then 0
  else if 0x8000 ≤ code ∧ code ≤ 0x8FFF then 4
  else if code = 0xFF50 ∨ code = 0xFF51 ∨ code = 0xFF60 then 1
  else 7

/-- The bits the active conditions set, without bit 0. -/
def condBits : List Cond → Nat
  | [] => 0
  | c :: t => condBits t ||| (if emcyBit c.code = 0 then 0 else 2 ^ emcyBit c.code)

/-- ERROR_REGISTER (03 R88): bit 0 while any other bit is set or a generic fault is active. -/
def State.errorRegister (s : State) : Nat :=
  condBits s.comm.conds + b2n (decide (condBits s.comm.conds ≠ 0) || s.comm.conds.any (fun c => c.code == 0x5000))

/-- The eight bytes of an EMCY message (03 R103). -/
def Emcy.bytes (m : Emcy) : List Byte :=
  leBytes 2 m.code ++ [m.reg] ++ leBytes 1 m.source ++ leBytes 4 m.beatLo.toNat

/-- The EMCY message raised now. -/
def State.emcyNow (s : State) (code src : Nat) : Emcy :=
  { code := code, reg := BitVec.ofNat 8 s.errorRegister, source := src, beatLo := BitVec.ofNat 32 s.beat.number }

/-- The word of the pre-defined error field (03 R103). -/
def Emcy.histWord (m : Emcy) : BitVec 32 := BitVec.ofNat 32 (m.code + m.source * 65536)

/-- Stages a Cellar Book record stamped now; one that finds the queue of 64 full is dropped and counted (04 R150). -/
def State.book (code src sev : Nat) (payload : List Byte) (s : State) : State :=
  s.onNvm (fun n =>
    if n.staged.length < 64 then
      { n with staged := n.staged ++ [{ code := code, source := src, severity := sev, time := s.now,
                                        beat := s.beat.number, payload := slice payload 0 34 }] }
    else { n with dropped := satAdd max32 n.dropped 1 })

/-- The end of the inhibit time that a message sent now starts (03 R104, 0x1015 in 100 µs). -/
def State.emcyNext (s : State) : Nat := s.now + 100 * s.ent 0x1015 0

/-- Sends an EMCY on CAN0, or queues it within the inhibit time; the 17th waiting is not sent (03 R82, R95, R104). A
COB-ID with bit 31 set sends nothing (PRESUMED, log 11). -/
def State.canEmcy (m : Emcy) (s : State) : State :=
  if (s.comm.nmt = .preOperational ∨ s.comm.nmt = .operational) ∧ s.comm.node ≠ 0xFF
      ∧ (s.ent 0x1014 0).testBit 31 = false then
    if s.now < s.comm.emcyUntil ∨ s.comm.emcyQ ≠ [] then
      (if s.comm.emcyQ.length < 16 then s.onComm (fun c => { c with emcyQ := c.emcyQ ++ [m] }) else s)
    else (s.emit (.canEmcy m)).onComm (fun c => { c with emcyUntil := s.emcyNext })
  else s

/-- The header of an OAP datagram that the device sends or that a request must have (03 R106). -/
def oapHead (type : Nat) (seq : BitVec 32) (token : BitVec 64) (index count targetByte flags : Nat) (status : BitVec 32) (len reserved : Nat) :
    List Byte :=
  leBytes 2 0x4B4F ++ leBytes 1 1 ++ leBytes 1 type ++ leBytes 4 seq.toNat ++ leBytes 8 token.toNat ++ leBytes 1 index ++ leBytes 1 count
  ++ leBytes 1 targetByte ++ leBytes 1 flags ++ leBytes 4 status.toNat ++ leBytes 2 len ++ leBytes 2 reserved

/-- A datagram with its CRC. -/
def withCrc (l : List Byte) : List Byte := l ++ leBytes 4 (crc32 l)

/-- How many fragments a message has (03 R112). -/
def fragCount (n : Nat) : Nat := max 1 ((n + 1367) / 1368)

/-- The datagrams of a message, in FRAG_INDEX order (03 R106, R112); TARGET is that of a member's response (R117). -/
def oapDatagrams (type : Nat) (seq : BitVec 32) (token : BitVec 64) (target : Option Nat) (status : BitVec 32) (data : List Byte) :
    List (List Byte) :=
  (List.range (fragCount data.length)).map (fun i =>
    let part := (data.drop (1368 * i)).take 1368
    withCrc (oapHead type seq token i (fragCount data.length) (target.getD 0) (b2n target.isSome) status part.length 0 ++ part))

/-- Sends an OAP message. -/
def State.oapSend (dest : OapDest) (type : Nat) (seq : BitVec 32) (token : BitVec 64) (target : Option Nat) (status : BitVec 32)
    (data : List Byte) (s : State) : State :=
  s.emitAll ((oapDatagrams type seq token target status data).map (Out.oap dest))

/-- Sends an EMCY to every open OAP session of the package (03 R114). -/
def State.oapEmcy (m : Emcy) (s : State) : State :=
  ((s.oap.sessions.filter (fun x => x.via.isNone)).foldl (fun u x => u.oapSend (.host x.host) 0x23 x.sendSeq x.token none 0 m.bytes) s).onOap
    (fun o => { o with sessions := o.sessions.map (fun x => { x with sendSeq := x.sendSeq + 1 }) })

/-- Everything an EMCY message does: error field, Cellar Book record, OAP and CAN0 (03 R103, 04 R147). -/
def State.sendEmcy (m : Emcy) (sev : Nat) (extra : List Byte) (s : State) : State :=
  (((s.onComm (fun c => { c with errHist := (m.histWord :: c.errHist).take 8 })).book m.code m.source sev
    (m.bytes ++ extra)).oapEmcy m).canEmcy m

/-- Severity of the record of a condition that begins (04 R148). -/
def condSeverity (code : Nat) : Nat := if code = 0xFF70 ∨ code = 0xFF71 then 3 else 2

/-- A cause arises while the device is in reset or boots: its condition begins at the end of boot if the cause still
holds (03 R568). -/
def State.condHolds (code src idx : Nat) (s : State) : State :=
  if (⟨code, src, idx⟩ : Cond) ∈ s.comm.latent then s else s.onComm (fun c => { c with latent := ⟨code, src, idx⟩ :: c.latent })

/-- A condition begins; it raises its EMCY once (03 R103). -/
def State.raiseCond (code src idx : Nat) (extra : List Byte) (s : State) : State :=
  if s.boot.st ≠ .running then s.condHolds code src idx
  else if (⟨code, src, idx⟩ : Cond) ∈ s.comm.conds then s
  else
    let t := s.onComm (fun c => { c with conds := ⟨code, src, idx⟩ :: c.conds })
    t.sendEmcy (t.emcyNow code src) (condSeverity code) extra

/-- An entry to a state that raises its EMCY each time: the condition begins, or goes on with another EMCY (12 R412). -/
def State.raiseEach (code src idx : Nat) (extra : List Byte) (s : State) : State :=
  if s.boot.st = .running ∧ (⟨code, src, idx⟩ : Cond) ∈ s.comm.conds then s.sendEmcy (s.emcyNow code src) (condSeverity code) extra
  else s.raiseCond code src idx extra

/-- A condition ends; the last one to end sends the EMCY of code 0 (03 R103). -/
def State.endCond (code src idx : Nat) (s : State) : State :=
  let s := s.onComm (fun c => { c with latent := c.latent.filter (fun x => x ≠ ⟨code, src, idx⟩) })
  if (⟨code, src, idx⟩ : Cond) ∈ s.comm.conds then
    let t := s.onComm (fun c => { c with conds := c.conds.filter (fun x => x ≠ ⟨code, src, idx⟩) })
    if t.comm.conds = [] then t.sendEmcy (t.emcyNow 0 src) 0 [] else t
  else s

/-- An event, which sets no ERROR_REGISTER bit (03 R105, 04 R148). -/
def State.emcyEvent (code src : Nat) (extra : List Byte) (s : State) : State :=
  s.sendEmcy (s.emcyNow code src) (if code = 0xFF20 then 2 else 1) extra

/-- Whether a condition is active. -/
def State.condOn (s : State) (code src idx : Nat) : Bool := decide ((⟨code, src, idx⟩ : Cond) ∈ s.comm.conds)

/-- An access error: counted always, captured while none is (01 R33). -/
def State.accessError (src kind addr : Nat) (s : State) : State :=
  s.onMem (fun m =>
    let m := { m with errCount := satAdd 4095 m.errCount 1 }
    if m.errValid then m else { m with errValid := true, errSource := src, errKind := kind, errAddr := addr })

/-- Answers a write of an entry with its status code, 0 for success (03 R102). -/
def State.answer (code : Nat) (s : State) : State := s.emit (.status code)

/-- A session keeps the response to a request that is done, among those of its last 16 sequence numbers (03 R111). -/
def OapSession.keep (x : OapSession) (c : OapCached) : OapSession :=
  { x with
    busy := x.busy.filter (fun b => decide (b.seq ≠ c.seq)),
    cache := (c :: x.cache.filter (fun d => decide (d.seq ≠ c.seq))).filter
      (fun d => decide ((x.newest.getD c.seq - d.seq).toNat < 16)) }

/-- Changes the sessions of a token. -/
def State.onSession (token : BitVec 64) (f : OapSession → OapSession) : State → State :=
  State.onOap (fun o => { o with sessions := o.sessions.map (fun x => if x.token = token then f x else x) })

/-- Answers an OAP request; its session keeps the response, with TARGET where a member gave it (03 R106, R111, R117). -/
def State.oapAnswer (host type : Nat) (token : BitVec 64) (seq : BitVec 32) (target : Option Nat) (code : Nat) (data : List Byte)
    (s : State) : State :=
  (s.oapSend (.host host) (type + 0x80) seq token target (BitVec.ofNat 32 code) data).onSession token
    (fun x => x.keep { type := type, target := target, seq := seq, status := BitVec.ofNat 32 code, data := data })

/-- Answers an OAP request from the own dictionary. -/
def State.oapRespond (host type : Nat) (token : BitVec 64) (seq : BitVec 32) (code : Nat) (data : List Byte) : State → State :=
  State.oapAnswer host type token seq none code data

/-- Changes the work of a beat. -/
def State.onWork (n : Nat) (f : BeatWork → BeatWork) : State → State :=
  State.onBeat (fun b => { b with work := modFirst (fun w => decide (w.beat = n)) f b.work })

/-- The work of a beat. -/
def State.workOf (s : State) (n : Nat) : Option BeatWork := s.beat.work.find? (fun w => decide (w.beat = n))

/-- A beat whose work is shed counts once, at the first discard; the first of an episode raises EMCY 0xFF21 (02 R59). -/
def State.shedBeat (n : Nat) (s : State) : State :=
  match s.workOf n with
  | none => s
  | some w =>
    if w.shedCounted then s
    else ((((s.onWork n (fun w => { w with shedCounted := true })).onBeat (fun b => { b with shedThisEra := true })).onPower
      (fun p => { p with lagged := n :: p.lagged.filter (fun k => decide (k ≠ n)) })).count 0x2100 0x14 1).raiseCond 0xFF21 1 0 []

/-- Work of the voice stage of a beat is shed (07 R242). -/
def State.shedVoice (n : Nat) (s : State) : State := (s.onWork n (fun w => { w with voiceShed := true })).shedBeat n

/-! ### The checks of an entry access (03 R77, R78, R81, R91) -/

/-- Whether a store or restore is running, which refuses writes of class P entries (03 R81). -/
def State.storing (s : State) : Bool := s.nvm.job.isSome

/-- The checks of a card on a written value: access code, NMT state, range, count, store in progress; 0 when it
passes. The order of the tests is this model's (log 13). -/
def State.cardCheck (s : State) (c : Card) (v : Nat) : Nat :=
  match c.acc with
  | .ro => 0x06010002
  | .rws => 0x0F000030
  | a =>
    if a = .rwp ∧ s.comm.nmt ≠ .preOperational then 0x08000022
    else if inRanges c.rng (c.ty.value v) = false then 0x06090030
    else if c.count = true ∧ v ≠ 0 then 0x06090030
    else if c.pers = .p ∧ s.storing = true then 0x0F000020
    else 0

/-- The checks of a write of a number to an entry: existence first (03 R78), then those of its card. -/
def State.writeCheck (s : State) (idx sub v : Nat) : Nat :=
  match s.find idx sub with
  | .noIndex => 0x06020000
  | .noSub => 0x06090011
  | .card c => s.cardCheck c v

/-- Whether the hub is powered (15 R481). -/
def State.powered (s : State) : Bool := decide (s.power.st = .idle) || decide (s.power.st = .active)

/-- Writes an entry through its checks and its own effect, and answers the status code. No entry is served between a
reset and the end of boot, nor unpowered (17 R527); STOPPED refuses every write (03 R82). -/
def State.guarded (idx sub v : Nat) (f : State → Nat × State) (s : State) : State :=
  if s.boot.st ≠ .running then s
  else if s.comm.nmt = .stopped then s.answer 0x08000022
  else if s.writeCheck idx sub v = 0 then (f s).2.answer (f s).1 else s.answer (s.writeCheck idx sub v)

/-- What is served only while the device is up: nothing between a reset and the end of boot, nor unpowered. -/
def State.served (f : State → State) (s : State) : State := if s.boot.st = .running then f s else s

/-- A write of an entry that answers for itself: refused in STOPPED (03 R82). -/
def State.written (f : State → State) (s : State) : State :=
  if s.boot.st ≠ .running then s
  else if s.comm.nmt = .stopped then s.answer 0x08000022
  else f s

/-- What a write now of an entry that held `old` leaves to boundaries: a value written before the boundary now due and
overwritten since is still taken at it (02 R46). -/
def WriteLog.next (w : WriteLog) (now due old : Nat) : WriteLog :=
  { stamp := now, held := false,
    past := if now < due then [] else if w.stamp < now then ⟨w.stamp, old, w.held⟩ :: w.past else w.past }

/-- Stores a written value with its moment (03 R80, 02 R46). -/
def State.writeEnt (idx sub v : Nat) (s : State) : State :=
  { s.setEnt idx sub v with
    wtime := tabMod {} s.wtime (ekey idx sub) (fun w => w.next s.now (s.beat.start + s.beat.length) (s.ent idx sub)) }

end Sys2Proof.Machine
end

