-- ==== Sys2Proof/Machine/Audio.lean ====
section
/-! DEFINITION. The audio output (13_belt_and_audio.md, R434 to R444). -/

namespace Sys2Proof.Machine

/-- CHANNEL_STATE's number. -/
def ChanSt.code : ChanSt → Nat
  | .off => 0 | .muted => 1 | .playing => 2 | .tripped => 3 | .softStart => 4 | .latched => 5 | .dcFault => 6 | .thermal => 7

/-- Whether a channel's bridge switches. -/
def ChanSt.switching : ChanSt → Bool
  | .muted | .playing | .softStart => true
  | _ => false

/-- Whether a channel's samples reach its output (13 R437). -/
def ChanSt.plays : ChanSt → Bool
  | .playing | .softStart => true
  | _ => false

/-- A channel. -/
def State.chan (s : State) (ch : Nat) : Channel := if ch = 0 then s.audio.ch0 else s.audio.ch1

/-- Changes a channel. -/
def State.onChan (ch : Nat) (f : Channel → Channel) : State → State :=
  State.onAudio (fun a => if ch = 0 then { a with ch0 := f a.ch0 } else { a with ch1 := f a.ch1 })

/-- Whether a channel is muted (13 R438). -/
def State.chanMuted (s : State) (ch : Nat) : Bool :=
  decide (s.ent 0x6400 5 = 1) || decide (s.comm.nmt ≠ .operational) || s.power.park || decide (s.ent 0x6400 (3 + ch) = 255)

/-! ### Gain and output level (13 R435, R438, R443) -/

/-- The largest n below 2^k with n^e * d ≤ m. -/
def rootDown (e d m : Nat) : Nat → Nat → Nat
  | 0, n => n
  | k + 1, n => rootDown e d m k (if (n + 2 ^ k) ^ e * d ≤ m then n + 2 ^ k else n)

/-- The gain of an attenuation in steps of 0.5 dB, in 2^-24: 10^(-a/40), rounded down. -/
def gainOf (a : Nat) : Nat := if a = 0 then 2 ^ 24 else rootDown 40 (10 ^ a) (2 ^ 960) 24 0

/-- The gain ATTENUATION of a channel calls for; 255 mutes (13 R438). -/
def State.gainSet (s : State) (ch : Nat) : Nat :=
  let a := s.ent 0x6400 (3 + ch)
  if a = 255 then 0 else gainOf a

/-- The peak of POWER_LIMIT_W into 4 Ω in µV, rounded down: V^2 / 8 = W (13 R435). -/
def State.peakSet (s : State) : Nat := rootDown 2 1 (8 * s.ent 0x6400 6 * 10 ^ 12) 24 0

/-- A value that moves from one to another over a time, from its start on. -/
def moved (a b start len now : Nat) : Nat :=
  let k := min len (now - start)
  if a ≤ b then a + (b - a) * k / len else a - (a - b) * k / len

/-- The gain of a channel now: it moves over 10 ms, rises over 20 ms in SOFT_START, and is lowered by 6 dB while the stage is
warm. -/
def State.gainNow (s : State) (ch : Nat) : Nat :=
  let c := s.chan ch
  let g := moved c.gainFrom c.gainTo c.rampAt 10000 s.now
  let g := if c.st = .softStart then moved 0 g c.softAt 20000 s.now else g
  if s.audio.lowered then g * gainOf 12 / 2 ^ 24 else g

/-- The peak limit of a channel now. -/
def State.peakNow (s : State) (ch : Nat) : Nat :=
  let c := s.chan ch
  moved c.limitFrom c.limitTo c.rampAt 10000 s.now

/-- The differential output of a sample in µV: 8.94 V at full scale and gain 1, clipped to the peak limit (13 R435). -/
def State.outLevel (s : State) (ch : Nat) (sample : Int) : Int :=
  clampI (-(s.peakNow ch : Int)) (s.peakNow ch) ((sample * 8940000 * s.gainNow ch).tdiv (32768 * 2 ^ 24))

/-- Gain and limit of a channel move to what the entries now call for, over 10 ms from now (13 R438). -/
def State.gainMove (ch : Nat) (s : State) : State :=
  s.onChan ch (fun c => { c with
    gainFrom := moved c.gainFrom c.gainTo c.rampAt 10000 s.now, gainTo := s.gainSet ch,
    limitFrom := s.peakNow ch, limitTo := s.peakSet, rampAt := s.now })

/-- Gain and limit of a channel are what the entries call for. -/
def State.gainFix (ch : Nat) (s : State) : State :=
  s.onChan ch (fun c => { c with
    gainFrom := s.gainSet ch, gainTo := s.gainSet ch, limitFrom := s.peakSet, limitTo := s.peakSet, rampAt := s.now })

/-! ### Channel states (13 R439 to R443) -/

/-- MUTED, or SOFT_START from now, as the channel is muted or not; THERMAL while the stage is hot. -/
def State.chanResume (ch : Nat) (s : State) : State :=
  s.onChan ch (fun c =>
    if s.audio.hot then { c with st := .thermal }
    else if s.chanMuted ch then { c with st := .muted } else { c with st := .softStart, softAt := s.now })

/-- A channel follows its mute (13 R439). -/
def State.chanFollow (ch : Nat) (s : State) : State :=
  match (s.chan ch).st with
  | .muted => if s.chanMuted ch then s else s.chanResume ch
  | .playing => if s.chanMuted ch then s.onChan ch (fun c => { c with st := .muted }) else s
  | .softStart => if s.chanMuted ch then s.onChan ch (fun c => { c with st := .muted }) else s
  | _ => s

/-- Both channels follow their mutes. -/
def State.audioFollow (s : State) : State := (s.chanFollow 0).chanFollow 1

/-- After boot both channels become MUTED, and follow (13 R439); THERMAL while the stage is hot (13 R443). -/
def State.audioBegin (s : State) : State :=
  if s.hasUnit 6 then
    let u := (s.gainFix 0).gainFix 1
    if s.audio.hot then (u.chanResume 0).chanResume 1
    else ((u.onChan 0 (fun c => { c with st := .muted })).onChan 1 (fun c => { c with st := .muted })).audioFollow
  else s

/-- A device reset and STANDBY (13 R439); the stage keeps its temperature and what follows from it (13 R443). -/
def State.audioReset (s : State) : State :=
  s.onAudio (fun a => { temperature := a.temperature, lowered := a.lowered, hot := a.hot })

/-- The higher of hub and hottest tile temperature, over powered tiles only (15 R493). -/
def State.junction (s : State) : Int :=
  if [0, 1, 2, 3].any (fun t => s.tileUp t) then max s.power.hubTemp s.power.tileTemp else s.power.hubTemp

/-- Whether a channel is THERMAL. -/
def State.audioThermal (s : State) : Bool :=
  decide ((s.chan 0).st = .thermal) || decide ((s.chan 1).st = .thermal)

/-- The condition of EMCY 0x4210 (15 R493): begins at 110 °C or with a THERMAL channel, ends below 100 °C with none. -/
def State.heatCheck (s : State) : State :=
  if s.audioThermal = true ∨ 1100 ≤ s.junction then s.raiseCond 0x4210 0x02 0 []
  else if s.junction < 1000 then s.endCond 0x4210 0x02 0 else s

/-- Whether an offset range lies in the Cellar slices of present tiles or the hub slice (01 R26). -/
def State.ringInCellar (s : State) (a len : Nat) : Bool :=
  (decide (0x40000000 ≤ a) && decide (a + len ≤ 0x40800000))
  || (decide (0x41000000 ≤ a) && decide (a + len ≤ 0x41000000 + s.tiles * 0x1000000))

/-- Ring size in frames (13 R436). -/
def State.ringFrames (s : State) : Nat := 1024 * 2 ^ s.audio.size

/-- Whether the ring configuration is valid (13 R436). -/
def State.audioRingOk (s : State) : Bool :=
  let len := 4 * s.ringFrames
  decide (s.audio.size ≤ 6) && decide (s.audio.base / 2 ^ 44 = s.choir.ownId) && decide (s.audio.base % len = 0)
    && s.ringInCellar (s.audio.base % 2 ^ 44) len

/-- Writing ENABLE 1 of AUDIO_RING_CONFIG (13 R436, R437). -/
def State.audioEnable (s : State) : State :=
  if s.hasUnit 6 = false then s
  else if s.audioRingOk then s.onAudio (fun a => { a with enable := true, rd := a.wr })
  else s.onAudio (fun a => { a with configError := true })

/-- A write of AUDIO_WRITE (13 R436). -/
def State.audioWrite (v : BitVec 32) (s : State) : State :=
  if s.hasUnit 6 = false then s
  else
    let n := (v - s.audio.rd).toNat
    if s.ringFrames < n ∨ n < (s.audio.wr - s.audio.rd).toNat then s.onAudio (fun a => { a with writeError := true })
    else s.onAudio (fun a => { a with wr := v })

/-- Retries started within the last 10 s (13 R441). -/
def State.recentRetries (s : State) (ch : Nat) : List Nat :=
  (s.chan ch).retries.filter (fun t => decide (s.now < t + 10000000))

/-- A trip of a channel: TRIPPED, or LATCHED after three retries within the 10 s before it (13 R440, R441, R446). -/
def State.chanTrip (ch : Nat) (info : BitVec 4) (s : State) : State :=
  let n := (s.recentRetries ch).length
  let i8 : BitVec 8 := info.zeroExtend 8
  let s := s.onChan ch (fun c => { c with st := .tripped, tripInfo := i8, limited := 0, sides := 0, trippedAt := s.now })
  let s := (s.count 0x6400 (0x0A + ch) 1).book 0xE7B0 0x1C 1 (leBytes 1 ch ++ [i8] ++ leBytes 1 n)
  if 3 ≤ n then
    (s.onChan ch (fun c => { c with st := .latched })).raiseCond 0xFF60 0x1C ch (leBytes 1 ch ++ [i8])
  else s

/-- AUDIO_COMMAND for a channel (13 R444). -/
def State.audioClear (ch : Nat) (s : State) : Nat × State :=
  if (s.chan ch).st = .latched ∨ (s.chan ch).st = .dcFault then
    (0, ((s.onChan ch (fun c => { c with retries := [] })).chanResume ch).endCond 0xFF60 0x1C ch)
  else (0x08000020, s)

/-- AUDIO_COMMAND (13 R444). -/
def State.audioCommand (v : Nat) (s : State) : Nat × State :=
  if v = 1 then s.audioClear 0 else if v = 2 then s.audioClear 1 else (0x06090030, s)

/-- The subindex of a field whose write ramps the gain (13 R438). -/
def audioSub : AudioField → Nat
  | .mute => 5 | .attenuation0 => 3 | .attenuation1 => 4 | .powerLimit => 6

/-- A write of AUDIO_MUTE, ATTENUATION or POWER_LIMIT_W: the gain of the channel or channels it concerns moves over 10 ms from
now, and the channels follow their mutes (13 R438). -/
def State.audioGainWrite (sub v : Nat) (s : State) : Nat × State :=
  let s := s.writeEnt 0x6400 sub v
  let u := if sub = 3 then s.gainMove 0 else if sub = 4 then s.gainMove 1 else (s.gainMove 0).gainMove 1
  (0, u.audioFollow)

/-! ### Meanings -/

/-- AUDIO_ENABLE (13 R436). -/
def execAudioEnable (s : State) : Host.Outcome State Fault Refusal := .next s.audioEnable

/-- AUDIO_WRITE (13 R436). -/
def execAudioWrite (val : BitVec 32) (s : State) : Host.Outcome State Fault Refusal := .next (s.audioWrite val)

/-- A sample and its level reach the output of a channel. -/
def Channel.play (sample : BitVec 16) (level : Int) (c : Channel) : Channel := { c with sample := sample, out := level }

/-- A sample of a channel (13 R435, R437): one that is not PLAYING or in SOFT_START discards it. -/
def State.playSample (ch : Nat) (v : BitVec 16) (s : State) : State :=
  s.onChan ch (if (s.chan ch).st.plays then Channel.play v (s.outLevel ch v.toInt) else Channel.play 0 0)

/-- AUDIO_FRAME_TICK (13 R437): a requester that is not a cantor reads the ring. -/
def execAudioFrameTick (s : State) : Host.Outcome State Fault Refusal :=
  .next (if s.audio.enable then
    if s.audio.wr = s.audio.rd then
      (((s.onChan 0 (Channel.play 0 0)).onChan 1 (Channel.play 0 0)).onAudio
        (fun a => { a with underrun := true })).count 0x6400 0x0C 1
    else
      let a := s.audio.base % 2 ^ 44 + 4 * (s.audio.rd.toNat % s.ringFrames)
      ((s.playSample 0 (BitVec.ofNat 16 (s.memNum a 2))).playSample 1 (BitVec.ofNat 16 (s.memNum (a + 2) 2))).onAudio
        (fun x => { x with rd := x.rd + 1 })
    else s)

/-- AUDIO_MUTE_WRITE (13 R438). -/
def execAudioMuteWrite (f : AudioField) (val : Nat) (s : State) : Host.Outcome State Fault Refusal :=
  .next (s.guarded 0x6400 (audioSub f) val (State.audioGainWrite (audioSub f) val))

/-- SOFT_START_END (13 R439): 20 ms after its start. -/
def execSoftStartEnd (ch : Fin 2) (s : State) : Host.Outcome State Fault Refusal :=
  .next (if (s.chan ch).st = .softStart then
    (s.upTo ((s.chan ch).softAt + 20000)).onChan ch (fun c => { c with st := .playing }) else s)

/-- Limited cycles in a row so far and their sides: more than 3 µs without one, at cycles of 1/384 kHz,
break the row (13 R435, R440). -/
def State.limitedRow (s : State) (ch : Nat) : Nat × BitVec 4 :=
  if s.now ≤ (s.chan ch).limitedAt + 3 then ((s.chan ch).limited, (s.chan ch).sides) else (0, 0)

/-- AUDIO_LIMITED_CYCLE (13 R440): four in a row trip the channel. -/
def execAudioLimitedCycle (ch : Fin 2) (sides : BitVec 4) (s : State) : Host.Outcome State Fault Refusal :=
  .next (if (s.chan ch).st.switching then
    let row := s.limitedRow ch
    let info := row.2 ||| sides
    if 3 ≤ row.1 then s.chanTrip ch info
    else s.onChan ch (fun c => { c with limited := row.1 + 1, sides := info, limitedAt := s.now })
    else s)

/-- AUDIO_RETRY (13 R441): 250 ms after a trip. -/
def execAudioRetry (ch : Fin 2) (s : State) : Host.Outcome State Fault Refusal :=
  .next (if (s.chan ch).st = .tripped then
    let s := s.upTo ((s.chan ch).trippedAt + 250000)
    let l := s.recentRetries ch
    (s.onChan ch (fun c => { c with retries := s.now :: l })).chanResume ch
    else s)

/-- AUDIO_DC_FAULT (13 R442): the mean differential output over 100 ms, in mV. -/
def execAudioDcFault (ch : Fin 2) (mv : BitVec 16) (s : State) : Host.Outcome State Fault Refusal :=
  .next (if (s.chan ch).st.switching = true ∧ 1000 < mv.toInt.natAbs then
    (s.onChan ch (fun c => { c with st := .dcFault })).book 0xE7B1 0x1C 2 (leBytes 1 ch ++ leBytes 2 mv.toNat)
    else s)

/-- STAGE_TEMPERATURE_CHANGE (13 R443, 15 R493). -/
def execStageTemperatureChange (tenths : Int) (s : State) : Host.Outcome State Fault Refusal :=
  .next (let s := s.onAudio (fun a => { a with
      temperature := tenths,
      lowered := if 1300 ≤ tenths then true else if tenths < 1200 then false else a.lowered,
      hot := if 1500 ≤ tenths then true else if tenths < 1200 then false else a.hot })
    let enter := fun (c : Channel) =>
      if c.st.switching = true ∨ c.st = .tripped then { c with st := .thermal, limited := 0, sides := 0 } else c
    let leave := fun ch (t : State) => if (t.chan ch).st = .thermal then t.chanResume ch else t
    let s := if 1500 ≤ tenths then (s.onChan 0 enter).onChan 1 enter
      else if tenths < 1200 then leave 1 (leave 0 s) else s
    s.heatCheck)

/-- AUDIO_CLEAR_CH0: AUDIO_COMMAND 1 (13 R444). -/
def execAudioClearCh0 (s : State) : Host.Outcome State Fault Refusal := .next (s.guarded 0x6400 7 1 (State.audioCommand 1))

/-- AUDIO_CLEAR_CH1: AUDIO_COMMAND 2 (13 R444). -/
def execAudioClearCh1 (s : State) : Host.Outcome State Fault Refusal := .next (s.guarded 0x6400 7 2 (State.audioCommand 2))

end Sys2Proof.Machine
end

