-- ==== Sys2Proof/Machine/Trellis.lean ====
section
/-! DEFINITION. The Trellis links of the Choir tiles (01 R18, R22 to R24). -/

namespace Sys2Proof.Machine

/-- The storage key of link l of tile t. -/
def linkKey (t l : Nat) : Nat := t * 4 + l

/-- A link. -/
def State.tlink (s : State) (t l : Nat) : TLink := tabGet {} s.trellis.links (linkKey t l)

/-- Changes a link. -/
def State.onLink (t l : Nat) (f : TLink → TLink) : State → State :=
  State.onTrellis (fun x => { x with links := tabMod {} x.links (linkKey t l) f })

/-- Whether a link works: its tile is present (01 R18) and it is not disabled. -/
def State.linkUp (s : State) (t l : Nat) : Bool := decide (t < s.tiles) && !(s.tlink t l).disabled

/-- Whether every link of a tile is disabled (01 R24). -/
def State.tileCut (s : State) (t : Nat) : Bool :=
  !s.linkUp t 0 && !s.linkUp t 1 && !s.linkUp t 2 && !s.linkUp t 3

/-- The link that carries the line of an address: bits 7:6, or the next enabled link in rising order, wrapping
(01 R22, R23). -/
def State.linkFor (s : State) (t a : Nat) : Option Nat :=
  ([0, 1, 2, 3].map (fun i => (a / 64 + i) % 4)).find? (fun l => s.linkUp t l)

/-- One more replay of a flit: replays of the flit replayed last are consecutive, those of another one begin anew. -/
def TLink.replay (flit : Nat) (x : TLink) : TLink :=
  { x with flit := flit, replays := if x.flit = flit then min 16 (x.replays + 1) else 1 }

/-- TRELLIS_FLIT_CRC_ERROR (01 R23): the flit, by its sender's number of it, is replayed. -/
def execTrellisFlitCrcError (t l : Fin 4) (flit : Nat) (s : State) : Host.Outcome State Fault Refusal :=
  .next (if s.linkUp t l then s.onLink t l (TLink.replay flit) else s)

/-- TRELLIS_LINK_RETRAIN (01 R23): a link whose flit needed 16 consecutive replays is retrained once; a success begins
the count anew, a failure lets the link be disabled. -/
def execTrellisLinkRetrain (t l : Fin 4) (ok : Bool) (s : State) : Host.Outcome State Fault Refusal :=
  .next (if s.linkUp t l ∧ (s.tlink t l).replays = 16 ∧ (s.tlink t l).failed = false
    then s.onLink t l (fun x => if ok then { x with replays := 0 } else { x with failed := true }) else s)

/-- TRELLIS_LINK_DISABLE (01 R23, R24): a link that fails retraining is disabled and recorded; the loss of a tile's
last link halts the fabric at the next beat boundary. -/
def execTrellisLinkDisable (t l : Fin 4) (s : State) : Host.Outcome State Fault Refusal :=
  .next (if s.linkUp t l ∧ (s.tlink t l).failed = true then
    let u := (s.onLink t l (fun x => { x with disabled := true })).book 0xE030 0x30 2 (leBytes 1 t ++ leBytes 1 l)
    if u.tileCut t then u.onTrellis (fun x => { x with haltDue := some u.now }) else u
    else s)

end Sys2Proof.Machine
end

