-- ==== Sys2Proof/Machine/Frames.lean ====
section
/-! DEFINITION. Link frames of Choir Link: their bytes, segments, credit, order of precedence, replay buffer and paths
(11_choir_link.md R361 to R367). -/

namespace Sys2Proof.Machine

/-! ### Ports and paths (11 R361, R363) -/

/-- Whether Choir Link is fitted and enabled (R361). -/
def State.choirOn (s : State) : Bool := s.hasUnit 4 && decide (s.ent 0x8000 1 = 1)

/-- Whether a port is up. -/
def State.clUp (s : State) (p : Nat) : Bool := s.choirOn && decide ((s.clPort p).st = .up)

/-- Whether the package is a Choir member with Choir Link present (R225). -/
def State.choirMember (s : State) : Bool :=
  s.hasUnit 4 && decide (s.choir.role = .precentor ∨ s.choir.role = .follower)

/-- Hops to a member through a port, none where no frame of it came by that port in the last 3 beats (log 73). -/
def State.hopsBy (s : State) (p d : Nat) : Option Nat :=
  let x := tabGet {} s.choir.paths (p * 16 + d)
  if s.clUp p = true ∧ x.hops ≠ 0 ∧ s.beat.number ≤ x.heard + 3 then some x.hops else none

/-- The port a frame for a member leaves through (R363): that of the path with fewer hops, CL0 on a tie; where no path is
known, that of the neighbour itself, or a port that is up. -/
def State.clPortFor (s : State) (d : Nat) : Nat :=
  match s.hopsBy 0 d, s.hopsBy 1 d with
  | some a, some b => if b < a then 1 else 0
  | some _, none => 0
  | none, some _ => 1
  | none, none =>
    if s.clUp 0 = false ∧ s.clUp 1 = true then 1
    else if s.clUp 1 = true ∧ ((s.clPort 1).neighbour.map (fun h => h.ownId)) = some d
        ∧ ((s.clPort 0).neighbour.map (fun h => h.ownId)) ≠ some d then 1
    else 0

/-! ### The bytes of a frame (11 R364, R367) -/

/-- FLITS. -/
def LinkFrame.flits (f : LinkFrame) : Nat := 1 + (f.payload.length + 15) / 16

/-- The header with a given CRC. -/
def LinkFrame.header (f : LinkFrame) (crc : Nat) : List Byte :=
  leBytes 1 f.kind ++ leBytes 1 (f.flits + 16 * f.cls) ++ leBytes 1 (f.src + 16 * f.dst) ++ leBytes 1 f.flags
  ++ leBytes 2 f.seq.toNat ++ leBytes 2 f.ack.toNat ++ leBytes 1 f.creditClass ++ leBytes 1 f.creditCount
  ++ leBytes 2 f.field ++ leBytes 4 crc

/-- The payload in whole flits. -/
def LinkFrame.body (f : LinkFrame) : List Byte := slice f.payload 0 (16 * (f.flits - 1))

/-- The bytes of a frame; its CRC covers all flits with the CRC field as 0. -/
def LinkFrame.bytes (f : LinkFrame) : List Byte := f.header (crc32 (f.header 0 ++ f.body)) ++ f.body

/-- The kinds of R365. -/
def kindOk (k : Nat) : Bool := decide (1 ≤ k) && decide (k ≤ 0x0F)

/-- Whether the bytes received are a frame with a good CRC. -/
def frameCrcOk (l : List Byte) : Bool :=
  decide (numAt l 12 4 = crc32 (slice l 0 12 ++ List.replicate 4 0 ++ l.drop 16))

/-- Whether they are a frame of a known KIND, without a reserved bit and with a possible FLITS value (R365). -/
def frameFormOk (l : List Byte) : Bool :=
  kindOk (numAt l 0 1) && decide (numAt l 3 1 < 8) && decide (1 ≤ numAt l 1 1 % 16) && decide (numAt l 1 1 % 16 ≤ 8)
  && decide (numAt l 1 1 / 16 ≤ 4) && decide (16 * (numAt l 1 1 % 16) = l.length)

/-- KIND_FIELD of a CONTROL frame: TAG, LAST, SEGMENT (R367). -/
def ctrlField (tag seg : Nat) (last : Bool) : Nat := 4096 * tag + 2048 * b2n last + seg

/-- Segments of a message of n bytes. -/
def segCount (n : Nat) : Nat := max 1 ((n + 111) / 112)

/-- One segment. -/
def segment (msg : List Byte) (k : Nat) : List Byte := (msg.drop (112 * k)).take 112

/-- Precedence of a frame (R365): the lower goes first; BEAT before all, a forwarded one before the own of its class. -/
def LinkFrame.rank (f : LinkFrame) : Nat :=
  if f.kind = 4 then 0
  else 2 * (match f.cls with
    | 0 => 1 | 4 => 2 | 2 => 3 | 3 => 4 | _ => 5) + b2n f.via.isNone

/-! ### Credit and sending (11 R365) -/

/-- Link credit of a class at a port, in flits. -/
def State.linkCredit (s : State) (p cls : Nat) : Nat := tabGet 64 (s.clPort p).credits cls

/-- Flits of a class to give back. -/
def State.owe (p cls n : Nat) : State → State :=
  State.onClPort p (fun x => { x with owed := tabMod 0 x.owed cls (· + n) })

/-- The first class with flits to give back, and how many of them one frame names. -/
def ClPortSt.creditDue (x : ClPortSt) : Nat × Nat :=
  match [0, 1, 2, 3, 4].find? (fun c => decide (0 < tabGet 0 x.owed c)) with
  | some c => (c, min 64 (tabGet 0 x.owed c))
  | none => (0, 0)

/-- Sends a frame: it is numbered, acknowledges, gives back credit, and stays in the replay buffer. -/
def State.sendFrame (p : Nat) (f : LinkFrame) (s : State) : State :=
  let x := s.clPort p
  let g := { f with seq := x.seq, ack := x.lastGood, creditClass := x.creditDue.1, creditCount := x.creditDue.2 }
  let u := (s.onClPort p (fun x => { x with
    seq := x.seq + 1, sent := x.sent ++ [g], owed := tabMod 0 x.owed g.creditClass (· - g.creditCount) })).emit (.frame p g)
  match f.via with
  | some q => u.owe q f.cls f.flits
  | none => u

/-- Uses the credit of a frame's flits. -/
def State.useLinkCredit (p cls n : Nat) : State → State :=
  State.onClPort p (fun x => { x with credits := tabMod 64 x.credits cls (· - n) })

/-- Of several frames the first of the highest precedence. -/
def firstRank : List LinkFrame → Option LinkFrame
  | [] => none
  | f :: t => match firstRank t with
    | some g => if g.rank < f.rank then some g else some f
    | none => some f

/-- Of each class, and of BEAT, the frame that goes next, where its credit suffices: forwarded before own. -/
def State.sendable (s : State) (p : Nat) : List LinkFrame :=
  let q := (s.clPort p).txq
  ([0, 1, 2, 3, 4].filterMap (fun c => firstRank (q.filter (fun f => decide (f.cls = c))))).filter
    (fun f => decide (f.flits ≤ s.linkCredit p f.cls))

/-- Sends the frame that goes next, if any. -/
def State.pumpOne (p : Nat) (s : State) : Option State :=
  if s.clUp p = false then none
  else (firstRank (s.sendable p)).map (fun f =>
    ((s.onClPort p (fun x => { x with txq := dropFirst (fun g => decide (g = f)) x.txq })).useLinkCredit p f.cls f.flits).sendFrame p f)

/-- Repeats that. -/
def State.pumpN (p : Nat) : Nat → State → State
  | 0, s => s
  | k + 1, s => match s.pumpOne p with
    | none => s
    | some u => u.pumpN p k

/-- Sends every frame of a port that has credit. -/
def State.pump (p : Nat) (s : State) : State := s.pumpN p (s.clPort p).txq.length

/-- The sender's fields: a package without an ID marks its frames (R364). -/
def State.frameFlags (s : State) (bcast : Bool) : Nat := b2n bcast + 2 * b2n (!s.choirMember)

/-- The frame that carries nothing but credit and acknowledgement. -/
def State.creditFrame (s : State) : LinkFrame :=
  { kind := 0x0F, cls := 0, src := s.choir.ownId, dst := 0, flags := s.frameFlags false, field := ctrlField 0 0 true }

/-- Gives back the credit of the classes that no frame has given back; such a frame uses no credit (log 73). -/
def State.giveCredit (p : Nat) (s : State) : State :=
  if s.clUp p = false then s
  else [0, 1, 2, 3, 4].foldl (fun a c => if 0 < tabGet 0 (a.clPort p).owed c then a.sendFrame p a.creditFrame else a) s

/-- Both ports send what they can. -/
def State.linkRun (s : State) : State := (((s.pump 0).pump 1).giveCredit 0).giveCredit 1

/-! ### Messages (11 R363, R367) -/

/-- Whom a message goes to: the neighbour of a port, a member, or all members. -/
inductive LinkDest where
  | port (p : Nat) | member (d : Nat) | all
deriving DecidableEq, Repr

/-- The number series of TAG. -/
def LinkDest.tagKey : LinkDest → Nat
  | .member d => d
  | .all => 16
  | .port p => 17 + p

/-- The ports a message leaves by. -/
def State.portsFor (s : State) : LinkDest → List Nat
  | .port p => [p]
  | .member d => [s.clPortFor d]
  | .all => [0, 1]

/-- The segments of a CONTROL message, as frames without their numbers; a package without an ID marks them, and the precentor
its PONG to one (log 73). -/
def State.controlFrames (s : State) (kind : Nat) (d : LinkDest) (msg : List Byte) : List LinkFrame :=
  let n := segCount msg.length
  (List.range n).map (fun k =>
    { kind := kind, cls := 0, src := s.choir.ownId, dst := (match d with | .member i => i | _ => 0),
      flags := b2n (decide (d = .all)) + 2 * b2n (!s.choirMember || (decide (kind = 6) && decide (17 ≤ d.tagKey))),
      field := ctrlField (tabGet 0 s.choir.tags d.tagKey) k (decide (k + 1 = n)), payload := segment msg k })

/-- Puts frames into the queue of a port that is up. -/
def State.enqueue (p : Nat) (l : List LinkFrame) (s : State) : State :=
  if s.clUp p then s.onClPort p (fun x => { x with txq := x.txq ++ l }) else s

/-- Sends frames by ports. -/
def State.sendBy (ps : List Nat) (l : List LinkFrame) (s : State) : State := (ps.foldl (fun a p => a.enqueue p l) s).linkRun

/-- Sends a CONTROL message. -/
def State.linkTo (kind : Nat) (d : LinkDest) (msg : List Byte) (s : State) : State :=
  (s.onChoir (fun c => { c with tags := tabMod 0 c.tags d.tagKey (fun t => (t + 1) % 16) })).sendBy (s.portsFor d)
    (s.controlFrames kind d msg)

/-- The neighbour through which a joiner reaches the precentor (R370). -/
def State.joinPort (s : State) : Nat :=
  if s.clUp 0 = true ∧ ((s.clPort 0).neighbour.map (fun h => h.precSerial)) = some s.choir.precSerial then 0 else 1

/-- Sends a CONTROL message to the precentor. -/
def State.linkToPrec (kind : Nat) (msg : List Byte) (s : State) : State :=
  s.linkTo kind (if s.choir.role = .joining then .port s.joinPort else .member s.choir.precentor) msg

/-- Sends a frame of another class to a member. -/
def State.linkData (kind cls d field : Nat) (payload : List Byte) (s : State) : State :=
  s.sendBy (s.portsFor (.member d)) [{ kind := kind, cls := cls, src := s.choir.ownId, dst := d, flags := s.frameFlags false, field := field,
                                       payload := payload }]

/-! ### Payloads (11 R365); layouts that R365 does not give are this model's (log 73) -/

/-- HELLO. -/
def helloBytes (h : HelloMsg) : List Byte :=
  leBytes 4 h.serial ++ leBytes 4 h.units.toNat ++ leBytes 2 h.stepping ++ leBytes 1 h.role ++ leBytes 1 h.ownId
  ++ leBytes 4 h.precSerial ++ leBytes 1 h.members ++ leBytes 4 h.generation

/-- MEMBERSHIP. -/
def memberBytes (m : MemberMsg) : List Byte :=
  leBytes 4 m.generation ++ leBytes 6 m.era ++ (List.range 16).flatMap (fun i => leBytes 4 (m.serials.getD i 0))
  ++ (List.range 16).flatMap (fun i => leBytes 8 (toBits 64 (m.offsets.getD i 0)))

/-- HEARTBEAT. -/
def heartbeatBytes (generation beat : Nat) : List Byte := leBytes 4 generation ++ leBytes 6 beat

/-- BEAT. -/
def beatBytes (b : BeatMsg) : List Byte :=
  leBytes 6 b.beat ++ leBytes 2 b.period ++ leBytes 2 b.limit ++ leBytes 1 b.policy
  ++ leBytes 1 (b2n b.halted + 2 * b2n b.ledgerFail + 4 * b2n b.holdover) ++ leBytes 6 b.failBeat

/-- PONG; PING is its first 8 bytes. -/
def pongBytes (time turn : Nat) : List Byte := leBytes 8 time ++ leBytes 4 turn

/-- JOIN. -/
def joinBytes (serial state : Nat) (err : Int) : List Byte := leBytes 4 serial ++ leBytes 1 state ++ leBytes 4 (toBits 32 err)

/-- A packet's 8 bytes (07 R221). -/
def packetBits (p : Packet) : Nat :=
  p.srcCore.toNat + 2 ^ 8 * p.srcPkg.toNat + 2 ^ 12 * p.type.toNat + 2 ^ 16 * p.delay.toNat + 2 ^ 20 * p.tag.toNat
  + 2 ^ 24 * p.payload.toNat + 2 ^ 32 * p.key.toNat

/-- EVENTS: two slots a flit; a slot over is empty, of TYPE 0x4 (R366). -/
def eventsBytes (slots : List (Bool × Packet)) : List Byte :=
  slots.flatMap (fun e => leBytes 8 (packetBits e.2)) ++ (if slots.length % 2 = 1 then leBytes 8 0x4000 else [])

/-- KIND_FIELD of EVENTS: the VN1 slots. -/
def eventsField (slots : List (Bool × Packet)) : Nat := sumN (slots.zipIdx.map (fun e => b2n e.1.1 * 2 ^ e.2))

/-- MEM_REQ and MEM_RSP: tag, kind (0 read, 1 write, 2 failed), size, address, data or status. -/
def memBytes (tag kind size addr : Nat) (data : List Byte) : List Byte :=
  leBytes 2 tag ++ leBytes 1 kind ++ leBytes 1 size ++ leBytes 6 addr ++ data

/-- The counts of a report: per member its ID, packets exported to it and imported from it. -/
def countBytes (l : List (Nat × Nat × Nat)) : List Byte := l.flatMap (fun c => leBytes 1 c.1 ++ leBytes 4 c.2.1 ++ leBytes 4 c.2.2)

/-- BARRIER. -/
def barrierBytes (beat rank : Nat) (counts : List (Nat × Nat × Nat)) : List Byte := leBytes 6 beat ++ leBytes 1 rank ++ countBytes counts

/-- STAGE_END. -/
def stageEndBytes (beat : Nat) (t : LinkTerms) (counts : List (Nat × Nat × Nat)) : List Byte :=
  leBytes 6 beat ++ leBytes 4 t.accepted.toNat ++ leBytes 4 t.replicated.toNat ++ leBytes 4 t.imported.toNat
  ++ leBytes 4 t.linkShed.toNat ++ leBytes 4 t.dropped.toNat ++ countBytes counts

/-- SWITCH. -/
def switchBytes (phase era status : Nat) : List Byte := leBytes 1 phase ++ leBytes 6 era ++ leBytes 4 status

/-- An OAP message as FORWARD carries it: its datagrams one after the other (R367). -/
def oapBytes (type : Nat) (seq : BitVec 32) (token : BitVec 64) (target : Option Nat) (code : Nat) (data : List Byte) : List Byte :=
  (oapDatagrams type seq token target (BitVec.ofNat 32 code) data).flatten

/-- FORWARD of a reset request (17 R530). -/
def resetBytes (serial : Nat) : List Byte := leBytes 4 0x5352 ++ leBytes 4 serial

/-- Sends a member's answer to a request that the precentor forwarded (03 R117). -/
def State.forwardReply (src type : Nat) (token : BitVec 64) (seq : BitVec 32) (code : Nat) (data : List Byte) : State → State :=
  State.linkTo 0x0D (.member src) (oapBytes (type + 0x80) seq token none code data)

/-- FORWARD by what it carries. -/
def forwardBytes : ForwardMsg → List Byte
  | .request h type data => oapBytes type h.seq h.token (some (bits h.targetByte.toNat 0 4)) 0 data
  | .response _ type token seq status data => oapBytes type seq token none status.toNat data
  | .notice token type data => oapBytes type 0 token none 0 data
  | .reset serial => resetBytes serial

end Sys2Proof.Machine
end

