-- ==== Sys2Proof/Machine/Zones.lean ====
section
/-! DEFINITION. Gates, event regions and zone counting (12_zone_counting.md). -/

namespace Sys2Proof.Machine

/-! ### Configuration -/

/-- SOURCE_A (b false) or SOURCE_B of a gate (12 R394). -/
def State.srcOf (s : State) (g : Nat) (b : Bool) : Nat := s.ent (gateIdx g) (if b then 3 else 2)

/-- KIND, PORT and INDEX of a source word. -/
def srcKind (v : Nat) : Nat := bits v 0 2
/-- PORT. -/
def srcPort (v : Nat) : Nat := bits v 8 4
/-- INDEX. -/
def srcIndex (v : Nat) : Nat := bits v 16 8

/-- Whether a source word is one R394 admits. -/
def State.srcOk (s : State) (v : Nat) : Bool :=
  decide (bits v 24 8 = 0) && decide (bits v 12 4 = 0) && decide (bits v 2 5 = 0) && decide (srcKind v ≠ 3)
  && (match srcKind v with
    | 0 => decide (srcIndex v = 0) && decide (srcPort v = 0)
    | 1 => decide (srcIndex v < 16) && decide (srcPort v < s.portCount) && decide (bits v 7 1 = 0)
    | _ => decide (srcIndex v < 16) && decide (srcPort v = 0) && decide (bits v 7 1 = 0))

/-- REGION_PORT of region r. -/
def State.regionPort (s : State) (r : Nat) : Nat := s.ent (regionIdx r) 1

/-- The port an input hangs on, none for PHYSICAL. -/
def State.inputPort (s : State) (g : Nat) (b : Bool) : Option Nat :=
  match srcKind (s.srcOf g b) with
  | 0 => none
  | 1 => some (srcPort (s.srcOf g b))
  | _ => some (s.regionPort (srcIndex (s.srcOf g b)))

/-- Whether the two inputs of a gate match, as GATE_ENABLE 1 needs (12 R395). -/
def State.inputsMatch (s : State) (g : Nat) : Bool :=
  decide (srcKind (s.srcOf g false) = srcKind (s.srcOf g true)) && decide (s.inputPort g false = s.inputPort g true)

/-- Whether a gate is enabled. -/
def State.gateOn (s : State) (g : Nat) : Bool := decide (s.ent (gateIdx g) 1 = 1)

/-- BOUNDARY's two bits of zone z for gate g (12 R407). -/
def State.bound (s : State) (z g : Nat) : Nat := bits (s.ent (zoneIdx z) 3) (2 * g) 2

/-- Whether a zone is unused. -/
def State.unusedZone (s : State) (z : Nat) : Bool := decide (s.ent (zoneIdx z) 3 = 0)

/-- Whether a sequence is in progress at a gate: SEQ_STATE 1 to 8 (12 R404). -/
def Seq.inProgress : Seq → Bool
  | .idle => false
  | .faulted => false
  | _ => true

/-- SEQ_STATE's number. -/
def Seq.code : Seq → Nat
  | .idle => 0 | .enterA => 1 | .bothIn => 2 | .leaveIn => 3 | .enterB => 4
  | .bothOut => 5 | .leaveOut => 6 | .ambiguous => 7 | .sync => 8 | .faulted => 9

/-- Whether a boundary gate of a zone has a sequence in progress (12 R408). -/
def State.zoneBusy (s : State) (z : Nat) : Bool :=
  (List.range 8).any (fun g => decide (s.bound z g ≠ 0) && (s.gate g).seq.inProgress)

/-! ### Zone states (12 R411 to R414) -/

/-- ZONE_STATE's number. -/
def ZoneSt.code : ZoneSt → Nat
  | .clear => 0 | .occupied => 1 | .disturbed => 2 | .restoring => 3

/-- ZONE_STATES, two bits per zone (12 R417, 08 R280). -/
def State.zoneStates (s : State) : Nat :=
  sumN ([0, 1, 2, 3].map (fun z => (s.zoneOf z).st.code * 4 ^ z))

/-- Record 0xE701 (12 R419): 1 timeout, 2 boundary count, 3 new cause. -/
def State.restoreFailed (z reason : Nat) (s : State) : State :=
  s.book 0xE701 0x1A 1 (leBytes 1 z ++ leBytes 1 reason)

/-- A cause of R411 arises at a zone (12 R412, rows 1 to 3). -/
def State.disturb (z bit : Nat) (s : State) : State :=
  if s.unusedZone z then s
  else
    let t := s.onZone z (fun x => { x with st := .disturbed, cause := x.cause ||| BitVec.ofNat 8 (2 ^ bit) })
    match (s.zoneOf z).st with
    | .disturbed => t
    | .restoring => t.restoreFailed z 3
    | _ => (t.count (zoneIdx z) 12 1).raiseEach 0xFF40 0x1A z
             (leBytes 1 z ++ leBytes 1 (t.zoneOf z).cause.toNat)

/-- A cause at every zone a gate bounds. -/
def State.disturbBounded (g bit : Nat) (s : State) : State :=
  [0, 1, 2, 3].foldl (fun t z => if t.bound z g = 0 then t else t.disturb z bit) s

/-- The zone becomes CLEAR or OCCUPIED with a count set and no causes; the EMCY condition ends at CLEAR (12 R412). -/
def State.zoneSet (z : Nat) (n : Int) (s : State) : State :=
  if s.zoneBusy z then s.onZone z (fun x => { x with st := .occupied, count := n, cause := 0 })
  else (s.onZone z (fun x => { x with st := .clear, count := n, cause := 0 })).endCond 0xFF40 0x1A z

/-- Record 0xE700, with the method that confirmed it, and the restored zone (12 R412, R419). -/
def State.zoneRestored (z method : Nat) (n : Int) (s : State) : State :=
  (s.book 0xE700 0x1A 0 (leBytes 1 z ++ leBytes 1 method ++ leBytes 2 (toBits 16 n)
    ++ leBytes 1 (s.zoneOf z).cause.toNat)).zoneSet z n

/-- CLEAR and OCCUPIED follow the boundary gates (12 R412, last two rows). -/
def State.zoneSettle (z : Nat) (s : State) : State :=
  match (s.zoneOf z).st with
  | .clear => if s.zoneBusy z then s.onZone z (fun x => { x with st := .occupied }) else s
  | .occupied =>
    if s.zoneBusy z then s else (s.onZone z (fun x => { x with st := .clear })).endCond 0xFF40 0x1A z
  | _ => s

/-- Settles the four zones. -/
def State.zonesSettle (s : State) : State := [0, 1, 2, 3].foldl (fun t z => t.zoneSettle z) s

/-- One count of a boundary gate at a zone (12 R407, R409, R412). -/
def State.zoneCount (z : Nat) (entering : Bool) (s : State) : State :=
  let n := clampI (-32768) 32767 ((s.zoneOf z).count + (if entering then 1 else -1))
  let s := s.onZone z (fun x => { x with count := n })
  let s := if (s.zoneOf z).st = .restoring then
      (s.onZone z (fun x => { x with st := .disturbed, cause := x.cause ||| 0x20#8 })).restoreFailed z 2
    else s
  if n < 0 then s.disturb z 2
  else if (s.ent (zoneIdx z) 4 : Int) < n then s.disturb z 3 else s

/-- A count IN (dir 1) or OUT (dir 2) of a gate with its stamp (12 R403, R407, R418). -/
def State.gateCount (g dir stamp : Nat) (s : State) : State :=
  let s := s.count (gateIdx g) (if dir = 1 then 12 else 13) 1
  let s := s.onZones (fun x =>
    let n := x.countSeq + 1
    { x with countSeq := n,
             lastEvent := leBytes 4 n.toNat ++ leBytes 1 g ++ leBytes 1 dir ++ leBytes 2 0 ++ leBytes 8 stamp })
  [0, 1, 2, 3].foldl (fun t z => if t.bound z g = 0 then t else t.zoneCount z (decide (t.bound z g = dir))) s

/-! ### The sequence machine (12 R402, R403) -/

/-- What a step of the machine does beside its next state. -/
inductive SeqEffect where
  | nothing | retreat | countIn | countOut | skip | ambiguousEnd
deriving DecidableEq, Repr

/-- A skip: IDLE where the pair is 00, else AMBIGUOUS. -/
def seqSkip (a b : Bool) : Seq × SeqEffect := (if a || b then .ambiguous else .idle, .skip)

/-- The machine of R402 on an accepted pair AB that differs from the former one. -/
def seqStep (q : Seq) (a b : Bool) : Seq × SeqEffect :=
  match q, a, b with
  | .idle, false, false => (.idle, .nothing)
  | .idle, true, false => (.enterA, .nothing)
  | .idle, true, true => (.ambiguous, .nothing)
  | .idle, false, true => (.enterB, .nothing)
  | .enterA, false, false => (.idle, .retreat)
  | .enterA, true, false => (.enterA, .nothing)
  | .enterA, true, true => (.bothIn, .nothing)
  | .bothIn, true, false => (.enterA, .nothing)
  | .bothIn, true, true => (.bothIn, .nothing)
  | .bothIn, false, true => (.leaveIn, .nothing)
  | .leaveIn, false, false => (.idle, .countIn)
  | .leaveIn, true, true => (.bothIn, .nothing)
  | .leaveIn, false, true => (.leaveIn, .nothing)
  | .enterB, false, false => (.idle, .retreat)
  | .enterB, true, true => (.bothOut, .nothing)
  | .enterB, false, true => (.enterB, .nothing)
  | .bothOut, true, false => (.leaveOut, .nothing)
  | .bothOut, true, true => (.bothOut, .nothing)
  | .bothOut, false, true => (.enterB, .nothing)
  | .leaveOut, false, false => (.idle, .countOut)
  | .leaveOut, true, false => (.leaveOut, .nothing)
  | .leaveOut, true, true => (.bothOut, .nothing)
  | .ambiguous, false, false => (.idle, .ambiguousEnd)
  | .ambiguous, _, _ => (.ambiguous, .nothing)
  | .sync, false, false => (.idle, .nothing)
  | .sync, _, _ => (.sync, .nothing)
  | .faulted, _, _ => (.faulted, .nothing)
  | _, a, b => seqSkip a b

/-- The effect of a step of gate g (12 R403). -/
def State.seqEffect (g stamp : Nat) (e : SeqEffect) (s : State) : State :=
  match e with
  | .nothing => s
  | .retreat => s.count (gateIdx g) 14 1
  | .countIn => s.gateCount g 1 stamp
  | .countOut => s.gateCount g 2 stamp
  | .skip => (s.count (gateIdx g) 15 1).disturbBounded g 1
  | .ambiguousEnd => (s.count (gateIdx g) 15 1).disturbBounded g 1

/-! ### Inputs: raw changes, debounce, chatter, stuck (12 R395 to R401) -/

/-- An input of a gate. -/
def Gate.input (x : Gate) (b : Bool) : GateInput := if b then x.b else x.a

/-- Changes an input. -/
def Gate.onInput (x : Gate) (b : Bool) (f : GateInput → GateInput) : Gate :=
  if b then { x with b := f x.b } else { x with a := f x.a }

/-- Whether the belt moves (12 R400): at least 5 mm/s. -/
def State.beltMoves (s : State) : Bool := decide (5000 ≤ s.belt.speed.natAbs)

/-- Whether an input of gate g accumulates active time now. -/
def State.accrues (s : State) (g : Nat) (b : Bool) : Bool :=
  ((s.gate g).input b).accepted && (decide (s.ent (gateIdx g) 8 = 1) || s.beltMoves)

/-- Brings the active time of an input up to now (12 R400). -/
def State.accrueInput (g : Nat) (b : Bool) (s : State) : State :=
  s.onGate g (fun x => x.onInput b (fun i =>
    { i with active := if s.accrues g b then i.active + (s.now - i.activeAt) else i.active, activeAt := s.now }))

/-- Brings every active time up to now, before the belt speed or STUCK_GATING changes. -/
def State.accrue (s : State) : State :=
  (List.range 8).foldl (fun t g => (t.accrueInput g false).accrueInput g true) s

/-- A gate enters FAULT with a cause, keeping a first cause; STUCK and CHATTER raise their EMCY (12 R401, R419). -/
def State.gateFault (g cause : Nat) (b : Bool) (s : State) : State :=
  if s.gateOn g = false ∨ (s.gate g).seq = .faulted then s
  else
    let s := s.onGate g (fun x => { x with seq := .faulted, fault := cause, faultInput := b })
    let pl := leBytes 1 g ++ leBytes 1 (b2n b)
    let s := if cause = 1 then s.raiseCond 0xFF41 0x1A g pl else if cause = 2 then s.raiseCond 0xFF42 0x1A g pl else s
    (s.disturbBounded g 0).zonesSettle

/-- Raw changes of an input within its window before a time (12 R399). -/
def State.chatterCount (s : State) (g : Nat) (b : Bool) (t : Nat) : Nat :=
  (((s.gate g).input b).changes.filter (fun c => decide (t < c + 1000 * s.ent (gateIdx g) 6))).length

/-- The raw level of an input becomes `level` at `stamp` (12 R395, R398, R399). -/
def State.rawChange (g : Nat) (b : Bool) (level : Bool) (stamp : Nat) (s : State) : State :=
  if ((s.gate g).input b).raw = level then s
  else
    let win := 1000 * s.ent (gateIdx g) 6
    let s := s.onGate g (fun x => x.onInput b (fun i =>
      { i with raw := level, since := if i.accepted = level then none else some stamp, debounce := s.ent (gateIdx g) 4,
               changes := stamp :: i.changes.filter (fun c => decide (stamp < c + win)) }))
    if s.ent (gateIdx g) 5 < s.chatterCount g b stamp then s.gateFault g 2 b else s

/-- The level of the pin GATEgA or GATEgB. -/
def State.pin (s : State) (g : Nat) (b : Bool) : Bool := s.zone.pins.getLsbD (2 * g + b2n b)

/-- The raw level of an input whose KIND is PHYSICAL follows its pin, after INVERT (12 R394, R395). -/
def State.pinFollow (g : Nat) (b : Bool) (stamp : Nat) (s : State) : State :=
  if srcKind (s.srcOf g b) = 0 then s.rawChange g b (s.pin g b ^^ (s.srcOf g b).testBit 7) stamp else s

/-- Accepts the raw level of an input (12 R398, R400). -/
def GateInput.take (i : GateInput) (now : Nat) : GateInput :=
  { i with accepted := i.raw, since := none, active := 0, activeAt := now }

/-- When an input that waits for its debounce is accepted: its stamp and that moment. -/
def GateInput.due (i : GateInput) : Option (Nat × Nat) := i.since.map (fun t => (t, t + i.debounce))

/-- The accepted pair of a gate. -/
def Gate.pair (x : Gate) : Bool × Bool := (x.a.accepted, x.b.accepted)

/-- Runs the sequence machine of an enabled gate on its accepted pair (12 R402). -/
def State.gateStep (g stamp : Nat) (s : State) : State :=
  if s.gateOn g = false then s
  else
    let x := s.gate g
    let r := seqStep x.seq x.a.accepted x.b.accepted
    ((s.onGate g (fun y => { y with seq := r.1 })).seqEffect g stamp r.2).zonesSettle

/-- The oldest raw change of a gate that waits for its debounce: its stamp and the moment of its acceptance. -/
def Gate.oldest (x : Gate) : Option (Nat × Nat) :=
  match x.a.due, x.b.due with
  | none, t => t
  | t, none => t
  | some t, some u => if u.1 < t.1 then some u else some t

/-- Accepts what has the given stamp at either input, both together where the stamps agree (12 R398). -/
def Gate.takeAt (x : Gate) (st now : Nat) : Gate :=
  { x with a := if x.a.since = some st then x.a.take now else x.a,
           b := if x.b.since = some st then x.b.take now else x.b }

/-- A gate-array event: beam x of a port turns active for POL 1 (12 R395 BEAM, 05 R184). -/
def State.beamEvent (port beam : Nat) (pol : Bool) (stamp : Nat) (s : State) : State :=
  (List.range 8).foldl (fun t g =>
    let hit := fun (u : State) b => decide (srcKind (u.srcOf g b) = 1) && decide (srcPort (u.srcOf g b) = port)
      && decide (srcIndex (u.srcOf g b) = beam)
    let t := if hit t false then t.rawChange g false pol stamp else t
    if hit t true then t.rawChange g true pol stamp else t) s

/-- Whether a pixel lies in a region's rectangle (12 R397). -/
def State.inRegion (s : State) (r x y : Nat) : Bool :=
  decide (s.ent (regionIdx r) 2 ≤ x) && decide (x ≤ s.ent (regionIdx r) 4)
  && decide (s.ent (regionIdx r) 3 ≤ y) && decide (y ≤ s.ent (regionIdx r) 5)

/-- Counts an event of a beat that passed stage 4 at every region that holds its pixel (12 R397). -/
def State.regionEvent (port beat x y : Nat) (s : State) : State :=
  (List.range 16).foldl (fun t r =>
    if t.regionPort r = port ∧ t.inRegion r x y = true
    then t.onRegion r (fun g => { g with counts := tabMod 0 g.counts beat (fun n => n + 1) }) else t) s

/-- HEAD_TYPE of the head a port holds, 0 for none (05 R167). -/
def State.headType (s : State) (p : Nat) : Nat :=
  match (s.port p).st with
  | .ready => numAt (s.port p).record 5 1
  | .streaming => numAt (s.port p).record 5 1
  | .stalled => numAt (s.port p).record 5 1
  | _ => 0

/-- A region's raw level after beat n, whose window has closed; its gate inputs follow, stamped start(n). It is held while the
port is STALLED (12 R396, R397). -/
def State.regionDecide (r n start : Nat) (s : State) : State :=
  let c := tabGet 0 (s.region r).counts n
  let level :=
    if (s.port (s.regionPort r)).st = .stalled then (s.region r).active
    else if (s.region r).active then !decide (c ≤ s.ent (regionIdx r) 7)
    else decide (s.ent (regionIdx r) 6 ≤ c) && decide (s.headType (s.regionPort r) = 1)
  let s := s.onRegion r (fun g => { g with active := level, last := c, counts := tabDrop g.counts (fun k => decide (k ≤ n)) })
  (List.range 8).foldl (fun t g =>
    let hit := fun (u : State) b => decide (srcKind (u.srcOf g b) = 2) && decide (srcIndex (u.srcOf g b) = r)
    let t := if hit t false then t.rawChange g false level start else t
    if hit t true then t.rawChange g true level start else t) s

/-- Since when the port of an input is STALLED. -/
def State.inputStall (s : State) (g : Nat) (b : Bool) : Option Nat :=
  match s.inputPort g b with
  | none => none
  | some p => match tabGet 0 s.zone.stalls p with
    | 0 => none
    | t + 1 => some t

/-- The gates that hang on a port lose their source (12 R396). -/
def State.sourceLost (p : Nat) (s : State) : State :=
  (List.range 8).foldl (fun t g =>
    if t.inputPort g false = some p then t.gateFault g 3 false
    else if t.inputPort g true = some p then t.gateFault g 3 true else t) s

/-- A port changes its state (12 R396): a stall starts the 100 ms; leaving STREAMING, or leaving STALLED other than to
STREAMING, is a loss for the gates that hang on it. -/
def State.zonePort (p : Nat) (old new : PortSt) (s : State) : State :=
  if old = new then s
  else
    let t := s.onZones (fun z => { z with stalls := tabPut 0 z.stalls p (if new = .stalled then s.now + 1 else 0) })
    if (old = .streaming ∧ new ≠ .stalled) ∨ (old = .stalled ∧ new ≠ .streaming) then t.sourceLost p else t

/-! ### Verdicts and weights (12 R414) -/

/-- A published verdict at a zone that restores by VERDICT. -/
def State.zoneVerdict (z tov : Nat) (empty : BitVec 8) (s : State) : State :=
  let x := s.zoneOf z
  if x.st = .restoring ∧ x.method = 1 ∧ x.restoreAt ≤ tov then
    if empty.getLsbD z then
      if s.ent (zoneIdx z) 8 ≤ x.run + 1 then
        (if s.zoneBusy z then s.onZone z (fun y => { y with run := 0 }) else s.zoneRestored z 1 0)
      else s.onZone z (fun y => { y with run := y.run + 1 })
    else s.onZone z (fun y => { y with run := 0 })
  else s

/-- A published verdict at the four zones. -/
def State.zonesVerdict (tov : Nat) (empty : BitVec 8) (s : State) : State :=
  [0, 1, 2, 3].foldl (fun t z => t.zoneVerdict z tov empty) s

/-- Whether a WEIGHT_SAMPLE word is refused: a reserved bit, or the weight 0x8000_0000 (08 R275). -/
def weightBad (v : Nat) : Bool := decide (bits v 34 30 ≠ 0) || decide (bits v 0 32 = 0x80000000)

/-- The zone counter's state is lost (12 R393); its pins stay as they are driven. -/
def State.zonesReset (s : State) : State := s.onZones (fun z => { pins := z.pins })

/-- After boot or STANDBY every zone with a nonzero BOUNDARY starts DISTURBED with cause RESET (12 R393), and the physical
inputs are sampled. -/
def State.zonesBegin (s : State) : State :=
  (List.range 8).foldl (fun t g => (t.pinFollow g false t.now).pinFollow g true t.now)
    ([0, 1, 2, 3].foldl (fun t z => t.disturb z 7) s.zonesReset)

/-! ### Effects of writes -/

/-- GATE_ENABLE 1 (12 R395, R405); a fault stays (R401). -/
def State.gateEnable (g : Nat) (s : State) : Nat × State :=
  if s.inputsMatch g = false then (0x06090030, s)
  else
    let s := s.setEnt (gateIdx g) 1 1
    (0, (if (s.gate g).seq = .faulted then s else s.onGate g (fun x => { x with seq := .sync })).zonesSettle)

/-- GATE_ENABLE 0 (12 R405). -/
def State.gateDisable (g : Nat) (s : State) : Nat × State :=
  let busy := (s.gate g).seq.inProgress
  let s := s.setEnt (gateIdx g) 1 0
  let s := if (s.gate g).seq = .faulted then s else s.onGate g (fun x => { x with seq := .idle })
  (0, (if busy then s.disturbBounded g 1 else s).zonesSettle)

/-- Whether the clearing condition of the gate's fault holds (12 R401). -/
def State.gateClearOk (s : State) (g : Nat) : Bool :=
  let x := s.gate g
  decide (x.seq = .faulted) &&
  (match x.fault with
    | 1 => !(x.input x.faultInput).accepted
    | 2 => decide (s.chatterCount g false s.now ≤ s.ent (gateIdx g) 5)
             && decide (s.chatterCount g true s.now ≤ s.ent (gateIdx g) 5)
    | _ => match s.inputPort g x.faultInput with
      | some p => decide ((s.port p).st = .streaming)
      | none => true)

/-- GATE_COMMAND 1 (12 R401). -/
def State.gateClear (g : Nat) (s : State) : Nat × State :=
  if s.gateClearOk g then
    let s := s.onGate g (fun x => { x with seq := .sync, fault := 0 })
    (0, ((s.endCond 0xFF41 0x1A g).endCond 0xFF42 0x1A g).zonesSettle)
  else (0x08000020, s)

/-- A write of SOURCE_A or SOURCE_B (12 R394, R410): a PHYSICAL input then follows its pin. -/
def State.sourceWrite (g : Nat) (b : Bool) (v : Nat) (s : State) : Nat × State :=
  if s.srcOk v then (0, ((s.setEnt (gateIdx g) (if b then 3 else 2) v).disturbBounded g 6).pinFollow g b s.now) else (0x06090030, s)

/-- A write of BOUNDARY (12 R407, R410): it disturbs a zone used before or after; one left unused has count 0 (log 14). -/
def State.boundaryWrite (z v : Nat) (s : State) : Nat × State :=
  if (List.range 8).any (fun g => decide (bits v (2 * g) 2 = 3)) then (0x06090030, s)
  else if v = 0 then (0, ((s.disturb z 6).setEnt (zoneIdx z) 3 0).onZone z (fun x => { x with count := 0 }))
  else (0, ((s.setEnt (zoneIdx z) 3 v).disturb z 6).zonesSettle)

/-- A write of STUCK_TIME or STUCK_GATING: the time accumulated so far stays as the former value had it (12 R405). -/
def State.stuckWrite (g sub v : Nat) (s : State) : Nat × State := (0, ((s.accrueInput g false).accrueInput g true).writeEnt (gateIdx g) sub v)

/-- ZONE_COMMAND (12 R413); bits 7:0 the command, 31:16 the target count. -/
def State.zoneCommand (z v : Nat) (s : State) : Nat × State :=
  let st := (s.zoneOf z).st
  if bits v 0 8 = 1 then
    let target := sext 16 (bits v 16 16)
    let method := s.ent (zoneIdx z) 6
    if bits v 8 8 ≠ 0 ∨ target < 0 ∨ (s.ent (zoneIdx z) 4 : Int) < target ∨ (method ≠ 0 ∧ target ≠ 0)
    then (0x06090030, s)
    else if s.unusedZone z = true ∨ st = .clear ∨ st = .occupied
        ∨ (List.range 8).any (fun g => decide (s.bound z g ≠ 0) && decide ((s.gate g).seq = .faulted)) = true
    then (0x08000020, s)
    else if method = 0 then (0, s.zoneRestored z 0 target)
    else (0, s.onZone z (fun x => { x with st := .restoring, restoreAt := s.now, method := method, run := 0 }))
  else if bits v 0 8 = 2 then
    if bits v 8 24 ≠ 0 then (0x06090030, s)
    else if s.unusedZone z then (0x08000020, s)
    else (0, s.disturb z 4)
  else (0x06090030, s)

/-- A write of BAGGING_WEIGHT (12 R414, R415). -/
def State.baggingWeight (z v : Nat) (s : State) : Nat × State :=
  if weightBad v then (0x06090030, s)
  else
    let s := s.setEnt (zoneIdx z) 10 v
    let x := s.zoneOf z
    if x.st = .restoring ∧ x.method = 2 ∧ v.testBit 32 = true ∧ v.testBit 33 = false
        ∧ sext 32 v ≤ s.entI (zoneIdx z) 9 32 ∧ s.zoneBusy z = false
    then (0, s.zoneRestored z 2 0) else (0, s)

/-! ### Meanings -/

/-- The sample of a pin. -/
def State.setPin (g : Nat) (b high : Bool) : State → State :=
  State.onZones (fun z => { z with
    pins := if high then z.pins ||| (1#16 <<< (2 * g + b2n b)) else z.pins &&& ~~~(1#16 <<< (2 * g + b2n b)) })

/-- GATE_RAW_CHANGE (12 R394, R395, R399, R561): the sample at `stamp` shows the ball GATEgA or GATEgB high or low; a PHYSICAL
input follows it. -/
def execGateRawChange (g : Fin 8) (b high : Bool) (stamp : Nat) (s : State) : Host.Outcome State Fault Refusal :=
  .next (((s.upTo stamp).setPin g b high).pinFollow g b stamp)

/-- GATE_CHANGE_ACCEPTED (12 R398, R402): the oldest raw change of the gate has held for DEBOUNCE. -/
def execGateChangeAccepted (g : Fin 8) (s : State) : Host.Outcome State Fault Refusal :=
  .next (match (s.gate g).oldest with
    | none => s
    | some (st, due) =>
      let s := s.upTo due
      (s.onGate g (fun x => x.takeAt st s.now)).gateStep g st)

/-- GATE_STUCK (12 R400): the accumulated time of an active input exceeds STUCK_TIME. -/
def execGateStuck (g : Fin 8) (b : Bool) (s : State) : Host.Outcome State Fault Refusal :=
  .next (let s := s.accrueInput g b
    let need := 1000 * s.ent (gateIdx g) 7 + 1
    let have_ := ((s.gate g).input b).active
    if s.gateOn g = true ∧ ((s.gate g).input b).accepted = true ∧ (need ≤ have_ ∨ s.accrues g b = true) then
      ((s.upTo (s.now + (need - have_))).accrueInput g b).gateFault g 1 b
    else s)

/-- GATE_SOURCE_LOST (12 R396): the port has been STALLED for more than 100 ms. -/
def execGateSourceLost (g : Fin 8) (s : State) : Host.Outcome State Fault Refusal :=
  .next (match s.inputStall g false, s.inputStall g true with
    | some t, _ => (s.upTo (t + 100001)).gateFault g 3 false
    | none, some t => (s.upTo (t + 100001)).gateFault g 3 true
    | none, none => s)

/-- GATE_FAULT_CLEAR: GATE_COMMAND 1 (12 R401). -/
def execGateFaultClear (g : Fin 8) (s : State) : Host.Outcome State Fault Refusal :=
  .next (s.guarded (gateIdx g) 11 1 (State.gateClear g))

/-- GATE_ENABLE: GATE_ENABLE 1 (12 R405). -/
def execGateEnable (g : Fin 8) (s : State) : Host.Outcome State Fault Refusal :=
  .next (s.guarded (gateIdx g) 1 1 (State.gateEnable g))

/-- GATE_DISABLE: GATE_ENABLE 0 (12 R405). -/
def execGateDisable (g : Fin 8) (s : State) : Host.Outcome State Fault Refusal :=
  .next (s.guarded (gateIdx g) 1 0 (State.gateDisable g))

/-- SOURCE_WRITE (12 R394, R410). -/
def execSourceWrite (g : Fin 8) (b : Bool) (val : BitVec 32) (s : State) : Host.Outcome State Fault Refusal :=
  .next (s.guarded (gateIdx g) (if b then 3 else 2) val.toNat (State.sourceWrite g b val.toNat))

/-- BOUNDARY_WRITE (12 R407, R410). -/
def execBoundaryWrite (z : Fin 4) (val : BitVec 16) (s : State) : Host.Outcome State Fault Refusal :=
  .next (s.guarded (zoneIdx z) 3 val.toNat (State.boundaryWrite z val.toNat))

/-- ZONE_RESTORE: ZONE_COMMAND 1 with its target count (12 R412, R413). -/
def execZoneRestore (z : Fin 4) (target : BitVec 16) (s : State) : Host.Outcome State Fault Refusal :=
  .next (s.guarded (zoneIdx z) 7 (1 + target.toNat * 65536) (State.zoneCommand z (1 + target.toNat * 65536)))

/-- ZONE_DISTURB: ZONE_COMMAND 2 (12 R413). -/
def execZoneDisturb (z : Fin 4) (s : State) : Host.Outcome State Fault Refusal :=
  .next (s.guarded (zoneIdx z) 7 2 (State.zoneCommand z 2))

/-- RESTORE_TIMEOUT (12 R412): RESTORE_TIMEOUT ms after the restore request. -/
def execRestoreTimeout (z : Fin 4) (s : State) : Host.Outcome State Fault Refusal :=
  .next (if (s.zoneOf z).st = .restoring then
    ((s.upTo ((s.zoneOf z).restoreAt + 1000 * s.ent (zoneIdx z) 11)).onZone z (fun x =>
      { x with st := .disturbed, cause := x.cause ||| 0x20#8 })).restoreFailed z 1
    else s)

/-- BAGGING_WEIGHT_WRITE (12 R414, R415). -/
def execBaggingWeightWrite (z : Fin 4) (val : BitVec 64) (s : State) : Host.Outcome State Fault Refusal :=
  .next (s.guarded (zoneIdx z) 10 val.toNat (State.baggingWeight z val.toNat))

end Sys2Proof.Machine
end

