-- ==== Sys2Proof/Machine/Belt.lean ====
section
/-! DEFINITION. The belt drive (13_belt_and_audio.md, R421 to R433). Speeds are whole µm/s, 1000 per mm/s (log 15). -/

namespace Sys2Proof.Machine

/-! ### Speed (13 R423 to R425) -/

/-- The Hall sequence of forward travel (13 R423); codes 0 and 7 have no successor. -/
def hallNext (c : Nat) : Nat :=
  match c with
  | 1 => 3 | 3 => 2 | 2 => 6 | 6 => 4 | 4 => 5 | 5 => 1
  | _ => 8

/-- Whether a code is invalid when held (13 R423). -/
def hallBad (c : Nat) : Bool := decide (c = 0) || decide (c = 7)

/-- A counted edge with its direction at a time in ns (13 R424). -/
def EdgeTrack.edge (t : EdgeTrack) (fwd : Bool) (at_ : Nat) : EdgeTrack :=
  { last := some at_, delta := t.last.map (fun l => ((at_ : Int) - l).toNat), forward := fwd }

/-- The same edges on a time line that starts anew after `ns`. -/
def EdgeTrack.shift (t : EdgeTrack) (ns : Nat) : EdgeTrack := { t with last := t.last.map (fun l => l - ns) }

/-- The speed estimate at a time in ns: s / max(Δt, τ) with the last direction, truncated to whole µm/s; 0 before two
edges (13 R424, log 15). -/
def EdgeTrack.speed (t : EdgeTrack) (edgesPerM now : Nat) : Int :=
  match t.last, t.delta with
  | some l, some d =>
    let v : Int := ((10 ^ 15 / (edgesPerM * max d ((now : Int) - l).toNat) : Nat) : Int)
    if t.forward then v else -v
  | _, _ => 0

/-- HALL_EDGES_PER_M and ENCODER_EDGES_PER_M. -/
def State.hallPerM (s : State) : Nat := s.ent 0x6200 7
/-- ENCODER_EDGES_PER_M, 0 for none. -/
def State.encPerM (s : State) : Nat := s.ent 0x6200 8

/-- A speed in µm/s as reported in whole mm/s, truncated toward zero (13 R424). -/
def mmPerS (v : Int) : Int := v.tdiv 1000

/-- At rest: below 5 mm/s (13 R424). -/
def State.atRest (s : State) : Bool := !s.beltMoves

/-- Two speeds disagree: magnitudes by more than 10 % of the larger plus 20 mm/s, or signs while both are at least
5 mm/s (13 R425, 14 R456). -/
def speedsDiffer (a b : Int) : Bool :=
  let x := a.natAbs
  let y := b.natAbs
  decide (max x y + 200000 < 10 * (max x y - min x y))
  || (decide (5000 ≤ x) && decide (5000 ≤ y) && decide ((0 < a) ≠ (0 < b)))

/-- The condition of SENSOR_MISMATCH (13 R425). -/
def State.mismatch (s : State) : Bool :=
  decide (s.encPerM ≠ 0) && speedsDiffer s.belt.speed s.belt.hallSpeed

/-! ### Faults and stops (13 R428 to R432) -/

/-- BELT_STATE's number. -/
def BeltSt.code : BeltSt → Nat
  | .off => 0 | .observing => 1 | .braking => 2 | .running => 3 | .stopping => 4 | .fault => 5 | .sto => 6

/-- Whether faults of R423, R425 and R428 act in a state (13 R429). -/
def BeltSt.active : BeltSt → Bool
  | .observing | .braking | .running | .stopping => true
  | _ => false

/-- Whether the gate outputs are driven in a state (13 R429). -/
def BeltSt.driven : BeltSt → Bool
  | .braking | .running | .stopping => true
  | _ => false

/-- Gate outputs low: no duty, no step (13 R422). -/
def Belt.idle (b : Belt) : Belt :=
  { b with duty := 0, step := none, legA := {}, legB := {}, legC := {}, limitedSince := none, stopPending := false }

/-! ### The STO path (01 R38, 13 R421, R429) -/

/-- Whether both island channels energise STO. -/
def State.stoOn (s : State) : Bool :=
  s.island.stoA && s.island.stoB && !s.island.limitedA && !s.island.limitedB && !s.island.held

/-- The first two rows of R429, which come before all others: STO de-energised takes the drive to STO, and both channels
energised again to OFF, with no automatic start. -/
def State.beltSync (s : State) : State :=
  if s.belt.st ≠ .sto ∧ s.stoOn = false then s.onBelt (fun b => { b.idle with st := .sto, stopCause := 4 })
  else if s.belt.st = .sto ∧ s.stoOn = true then s.onBelt (fun b => { b with st := .off })
  else s

/-! ### Gate outputs (13 R421, R426) -/

/-- The phases of a commutation step, of the three in turn: the one driven high and the one driven low. -/
def stepPhases (n : Nat) : Nat × Nat := [(0, 1), (0, 2), (1, 2), (1, 0), (2, 0), (2, 1)].getD (n % 6) (0, 1)

/-- The side of a phase in a step. -/
def stepSide (n k : Nat) : Option Bool :=
  if k = (stepPhases n).1 then some true else if k = (stepPhases n).2 then some false else none

/-- A phase takes a side at a time in ns: from the other side to this one after the dead time. -/
def Leg.take (l : Leg) (side : Option Bool) (nowNs deadNs : Nat) : Leg :=
  if l.side = side then l else { side := side, since := if l.side.isSome ∧ side.isSome then nowNs + deadNs else nowNs }

/-- Commutates to the step the Hall code calls for, in the direction of the applied torque (13 R426). -/
def Belt.commutate (b : Belt) (nowNs : Nat) : Belt :=
  if b.st.driven = false ∨ hallBad b.hall = true then b
  else
    let n := Config.hallStep b.hall (decide (0 ≤ b.duty))
    { b with
      step := some (b.hall, decide (0 ≤ b.duty)),
      legA := b.legA.take (stepSide n 0) nowNs b.deadNs, legB := b.legB.take (stepSide n 1) nowNs b.deadNs,
      legC := b.legC.take (stepSide n 2) nowNs b.deadNs }

/-- A phase. -/
def Belt.leg (b : Belt) (k : Nat) : Leg := if k = 0 then b.legA else if k = 1 then b.legB else b.legC

/-- Whether the on-time of the PWM cycle in progress has been ended by the current limit (13 R428). -/
def State.cycleCut (s : State) : Bool :=
  s.belt.limitedSince.isSome && decide (s.now * s.belt.pwmHz < s.belt.limitedAt * s.belt.pwmHz + 1000000)

/-- Whether a gate output may be high: the high or low side of phase k. It is low while the supply switch is open, whatever the
drive commands, and within the dead time (13 R421, R422). -/
def State.gateOut (s : State) (k : Nat) (high : Bool) : Bool :=
  s.stoOn && s.belt.st.driven && decide ((s.belt.leg k).side = some high) && decide ((s.belt.leg k).since ≤ 1000 * s.now)
  && !(high && s.cycleCut)

/-! ### Transitions (13 R429) -/

/-- The drive enters FAULT from an active state (13 R429, R430, R446); STO comes before. -/
def State.beltFault (cause : Nat) (s : State) : State :=
  let s := s.beltSync
  if s.belt.st.active = false then s
  else
    let s := s.onBelt (fun b => { b.idle with st := .fault, fault := cause, stopCause := 6 })
    let sp := leBytes 2 (toBits 16 (mmPerS s.belt.speed))
    if cause = 1 then s.raiseCond 0xFF50 0x1B 0 (leBytes 1 cause ++ sp)
    else if cause = 2 ∨ cause = 3 then s.raiseCond 0xFF51 0x1B 0 (leBytes 1 cause ++ leBytes 2 s.belt.current)
    else
      let hs := if s.encPerM = 0 then s.belt.speed else s.belt.hallSpeed
      let es := if s.encPerM = 0 then 0 else s.belt.speed
      s.book 0xE7A0 0x1B 2 (leBytes 1 cause ++ leBytes 1 s.belt.hall ++ leBytes 2 (toBits 16 (mmPerS hs))
        ++ leBytes 2 (toBits 16 (mmPerS es)))

/-- An ordinary stop request with its STOP_CAUSE (13 R429, R432). -/
def State.beltStop (cause : Nat) (s : State) : State :=
  let s := s.beltSync
  s.onBelt (fun b =>
    match b.st with
    | .observing => { b.idle with st := .off, stopCause := cause }
    | .braking => { b with stopPending := true, stopCause := cause }
    | .running => { b with st := .stopping, stopCause := cause,
                           timer := s.now + b.reference.natAbs * 1000 / s.ent 0x6200 5 + 2000000 }
    | _ => b)

/-- Normal start: reference and integrator 0 (13 R429). -/
def Belt.startNormal (b : Belt) : Belt :=
  { b with st := .running, reference := 0, integral := 0, stopPending := false }

/-- Coming to rest in BRAKING or STOPPING (13 R429). -/
def State.beltRest (s : State) : State :=
  let s := s.beltSync
  if s.atRest then
    s.onBelt (fun b =>
      match b.st with
      | .braking => if b.stopPending then { b.idle with st := .off } else b.startNormal
      | .stopping => if b.reference = 0 then { b.idle with st := .off } else b
      | _ => b)
  else s

/-- Whether BELT_COMMAND 1 is refused: a status code, or 0 (13 R431). -/
def State.runRefused (s : State) : Nat :=
  if s.comm.nmt ≠ .operational then 0x08000022
  else if s.belt.st = .fault ∨ s.belt.st = .sto ∨ s.power.park = true then 0x08000020
  else 0

/-- BELT_COMMAND 1 (13 R429, R431); leaving OFF takes PWM_FREQUENCY_HZ, DEAD_TIME_NS and the gains (R445). -/
def State.beltRun (s : State) : Nat × State :=
  let s := s.beltSync
  if s.runRefused ≠ 0 then (s.runRefused, s)
  else
    (0, match s.belt.st with
      | .off =>
        (s.onBelt (fun b => { b with
          st := .observing, timer := s.now, stopPending := false,
          pwmHz := s.ent 0x6200 12, deadNs := s.ent 0x6200 13, kp := s.ent 0x6200 14, ki := s.ent 0x6200 15 })).count
          0x6200 0x17 1
      | .stopping => s.onBelt (fun b => { b with st := .running })
      | _ => s)

/-- BELT_COMMAND 3 (13 R431). -/
def State.beltClear (s : State) : Nat × State :=
  let s := s.beltSync
  if s.belt.st ≠ .fault ∨ s.atRest = false ∨ (s.belt.fault = 4 ∧ hallBad s.belt.hall = true)
      ∨ (s.belt.fault = 5 ∧ s.mismatch = true)
  then (0x08000020, s)
  else (0, ((s.onBelt (fun b => { b with st := .off, fault := 0 })).endCond 0xFF50 0x1B 0).endCond 0xFF51 0x1B 0)

/-- BELT_COMMAND (13 R431). -/
def State.beltCommand (v : Nat) (s : State) : Nat × State :=
  if v = 1 then s.beltRun
  else if v = 2 then (0, s.beltStop 1)
  else if v = 3 then s.beltClear
  else (0x06090030, s)

/-! ### The speed loop (13 R426, R427) -/

/-- Moves the reference one millisecond toward its goal, in µm/s: up at ACCEL_MMS2, down at DECEL_MMS2, and through zero
where the signs differ. -/
def stepReference (ref goal : Int) (acc dec : Nat) : Int :=
  if (0 < ref ∧ goal < 0) ∨ (ref < 0 ∧ 0 < goal) then
    (if 0 < ref then max 0 (ref - dec) else min 0 (ref + dec))
  else if ref.natAbs < goal.natAbs then
    (if 0 < goal then min goal (ref + acc) else max goal (ref - acc))
  else
    (if goal < ref then max goal (ref - dec) else min goal (ref + dec))

/-- SLS_CAP_ACTIVE: whether the mirror shows SF-SLS active or degraded mode. -/
def State.mirrorSls (s : State) : Bool := decide (s.island.mirrorSt = .sls) || decide (s.island.mirrorSt = .degraded)

/-- The goal of the reference in µm/s: TARGET_SPEED_MMS in RUNNING, else 0, capped while the island's mirror shows SLS or
degraded mode. -/
def State.beltGoal (s : State) : Int :=
  let g := if s.belt.st = .running then s.entI 0x6200 3 16 * 1000 else 0
  if s.mirrorSls then clampI (-(s.island.mirrorCap * 1000 : Nat)) (s.island.mirrorCap * 1000 : Nat) g else g

/-! ### Meanings -/

/-- HALL_EDGE (13 R423, R424, R426). -/
def execHallEdge (code : Fin 8) (stampNs : Nat) (s : State) : Host.Outcome State Fault Refusal :=
  .next (let s := s.upTo (stampNs / 1000)
    let old := s.belt.hall
    if code.val = old then s
    else
      let fwd := decide (hallNext old = code.val)
      let bwd := decide (hallNext code.val = old)
      let s := (s.beltSync).onBelt (fun b =>
        { b with hall := code.val, hallBadAt := if hallBad code.val then some (stampNs / 1000) else none }.commutate stampNs)
      if fwd || bwd then s.onBelt (fun b => { b with hallTrack := b.hallTrack.edge fwd stampNs })
      else s.count 0x6200 0x1A 1)

/-- HALL_INVALID (13 R423): code 0 or 7 has been held for 100 µs. -/
def execHallInvalid (s : State) : Host.Outcome State Fault Refusal :=
  .next (match s.belt.hallBadAt with
    | some t => if hallBad s.belt.hall then (s.upTo (t + 100)).beltFault 4 else s
    | none => s)

/-- QEP_EDGE (13 R424). -/
def execQepEdge (fwd : Bool) (stampNs : Nat) (s : State) : Host.Outcome State Fault Refusal :=
  .next ((s.upTo (stampNs / 1000)).onBelt (fun b => { b with
    position := if fwd then b.position + 1 else b.position - 1, qepTrack := b.qepTrack.edge fwd stampNs }))

/-- INDEX_LATCH (13 R425). -/
def execIndexLatch (s : State) : Host.Outcome State Fault Refusal :=
  .next (s.onBelt (fun b => { b with indexPos := b.position }))

/-- SPEED_ESTIMATE (13 R424, R429). -/
def execSpeedEstimate (s : State) : Host.Outcome State Fault Refusal :=
  .next (let s := s.accrue
    let h := s.belt.hallTrack.speed s.hallPerM (s.now * 1000)
    let v := if s.encPerM = 0 then h else s.belt.qepTrack.speed s.encPerM (s.now * 1000)
    let s := s.onBelt (fun b => { b with speed := v, hallSpeed := h })
    (s.onBelt (fun b => { b with differAt := if s.mismatch then some (b.differAt.getD s.now) else none })).beltRest)

/-- SENSOR_MISMATCH (13 R425): the speeds have differed for 200 ms without a break. -/
def execSensorMismatch (s : State) : Host.Outcome State Fault Refusal :=
  .next (match s.belt.differAt with
    | some t => if s.mismatch then (s.upTo (t + 200000)).beltFault 5 else s
    | none => s)

/-- SPEED_LOOP_STEP (13 R426, R427): the reference moves, and the loop sets the duty from the error with the gains in force;
how these scale to a duty the spec leaves open (log 16). -/
def execSpeedLoopStep (s : State) : Host.Outcome State Fault Refusal :=
  .next (let s := s.beltSync
    if s.belt.st.driven then
      let r := if s.belt.st = .braking then 0
        else stepReference s.belt.reference s.beltGoal (s.ent 0x6200 4) (s.ent 0x6200 5)
      let e := r.tdiv 1000 - mmPerS s.belt.speed
      (s.onBelt (fun b => { b with
        reference := r, integral := b.integral + e,
        duty := clampI (-65536) 65536 (Config.loopDuty b.kp b.ki e (b.integral + e)) }.commutate (1000 * s.now))).beltRest
    else s)

/-- The motor current of a shunt voltage in µV, in mA (13 R428). -/
def State.shuntMa (s : State) (uv : Nat) : Nat := uv * 1000 / s.ent 0x6200 11

/-- Whether no PWM cycle without the limit lies between two times: the cycles of PWM_FREQUENCY_HZ, and the µs device time
resolves. -/
def Belt.nextCycle (b : Belt) (t u : Nat) : Bool := decide (u * b.pwmHz ≤ t * b.pwmHz + 1000000 + b.pwmHz)

/-- Since when cycles are limited without a break (13 R428). -/
def Belt.limitedFrom (b : Belt) (now : Nat) : Nat :=
  match b.limitedSince with
  | none => now
  | some t => if b.nextCycle b.limitedAt now then t else now

/-- CURRENT_LIMIT_CYCLE (13 R428): the shunt voltage of a PWM cycle, compared with CURRENT_LIMIT_MA; a cycle that reaches the
limit ends its on-time, another breaks the row. -/
def execCurrentLimitCycle (shuntUv : Nat) (s : State) : Host.Outcome State Fault Refusal :=
  .next (let ma := s.shuntMa shuntUv
    s.beltSync.onBelt (fun b =>
      if b.st.active = true ∧ s.ent 0x6200 10 ≤ ma then
        { b with current := min 0xFFFF ma, limitedSince := some (b.limitedFrom s.now), limitedAt := s.now }
      else { b with current := min 0xFFFF ma, limitedSince := none }))

/-- SUSTAINED_LIMIT (13 R428): cycles limited for 1000 ms without a break, the last one just now. -/
def execSustainedLimit (s : State) : Host.Outcome State Fault Refusal :=
  .next (match s.belt.limitedSince with
    | none => s
    | some t => if s.belt.nextCycle s.belt.limitedAt (max s.now (t + 1000000)) then (s.upTo (t + 1000000)).beltFault 3 else s)

/-- FAST_TRIP (13 R428): 1.5 times CURRENT_LIMIT_MA, or a phase node that differs from its commanded state. -/
def execFastTrip (shuntUv : Nat) (node : Bool) (s : State) : Host.Outcome State Fault Refusal :=
  .next (let ma := s.shuntMa shuntUv
    if node = true ∨ 3 * s.ent 0x6200 10 ≤ 2 * ma then (s.onBelt (fun b => { b with current := min 0xFFFF ma })).beltFault 2 else s)

/-- BELT_RUN: BELT_COMMAND 1 (13 R431). -/
def execBeltRun (s : State) : Host.Outcome State Fault Refusal := .next (s.guarded 0x6200 2 1 (State.beltCommand 1))

/-- BELT_STOP: BELT_COMMAND 2 (13 R432). -/
def execBeltStop (s : State) : Host.Outcome State Fault Refusal := .next (s.guarded 0x6200 2 2 (State.beltCommand 2))

/-- BELT_FAULT_CLEAR: BELT_COMMAND 3 (13 R431). -/
def execBeltFaultClear (s : State) : Host.Outcome State Fault Refusal :=
  .next (s.guarded 0x6200 2 3 (State.beltCommand 3))

/-- OBSERVATION_END (13 R429): 20 ms after the run was accepted. -/
def execObservationEnd (s : State) : Host.Outcome State Fault Refusal :=
  .next (let s := s.beltSync
    if s.belt.st = .observing then
    let s := s.upTo (s.belt.timer + 20000)
    let v := s.belt.speed
    let target := s.entI 0x6200 3 16
    if s.atRest then s.onBelt Belt.startNormal
    else if (0 < v ∧ 0 < target) ∨ (v < 0 ∧ target < 0) then
      (s.onBelt (fun b => { b with
        st := .running, reference := v, integral := 0,
        duty := (v * 65536).tdiv (s.ent 0x6200 9 * 1000 : Nat) })).count 0x6200 0x18 1
    else
      (s.onBelt (fun b => { b with st := .braking, timer := s.now, reference := 0, integral := 0 })).count 0x6200 0x19 1
    else s)

/-- BRAKING_TIMEOUT (13 R429): 2 s without rest. -/
def execBrakingTimeout (s : State) : Host.Outcome State Fault Refusal :=
  .next (let s := s.beltRest
    if s.belt.st = .braking then (s.upTo (s.belt.timer + 2000000)).beltFault 1 else s)

/-- STOPPING_TIMEOUT (13 R429): rest with reference 0 comes before. -/
def execStoppingTimeout (s : State) : Host.Outcome State Fault Refusal :=
  .next (let s := s.beltRest
    if s.belt.st = .stopping then (s.upTo s.belt.timer).beltFault 1 else s)

/-- STO_DE_ENERGISED (13 R429): from any state but STO, while the island does not energise both. -/
def execStoDeEnergised (s : State) : Host.Outcome State Fault Refusal := .next (if s.stoOn then s else s.beltSync)

/-- STO_ENERGISED (13 R429): to OFF, with no automatic start. -/
def execStoEnergised (s : State) : Host.Outcome State Fault Refusal := .next (if s.stoOn then s.beltSync else s)

/-- A device reset: the drive is OFF with low outputs; the sensors keep what they saw (13 R422). -/
def State.beltReset (s : State) : State :=
  s.onBelt (fun b => { hall := b.hall, hallBadAt := b.hallBadAt, hallTrack := b.hallTrack, qepTrack := b.qepTrack, speed := b.speed,
                       hallSpeed := b.hallSpeed, differAt := b.differAt })

/-- Device time starts anew at 0 after `ns`: the edges seen lie before it (13 R424). -/
def State.beltClock (us : Nat) : State → State :=
  State.onBelt (fun b => { b with
    hallTrack := b.hallTrack.shift (1000 * us), qepTrack := b.qepTrack.shift (1000 * us),
    hallBadAt := b.hallBadAt.map (fun _ => 0), differAt := none })

end Sys2Proof.Machine
end

