-- ==== Sys2Proof/Machine/Island.lean ====
section
/-! DEFINITION. The safety island (14_safety_island.md, R447 to R472; 18 R555). Speeds are whole µm/s. -/

namespace Sys2Proof.Machine

/-- The island's own clock in µs (14 R447): it runs on through a power-on of the hub (15 R476). -/
def State.inow (s : State) : Nat := s.now + s.island.epoch

/-- Moves time to an instant of the island's clock that is not past. -/
def State.upToIsland (t : Nat) (s : State) : State := s.upTo (t - s.island.epoch)

/-- What the island does only while VDD_SAFE is in range: out of range it is held in reset (14 R463). -/
def State.islandUp (f : State → State) (s : State) : State := if s.island.held then s else f s

/-- Whether STO_A, or STO_B, conducts (01 R38): only while both channels command, its own current limit has not turned it off
and VDD_SAFE is in range. -/
def State.stoPin (s : State) (b : Bool) : Bool :=
  s.island.stoA && s.island.stoB && !(if b then s.island.limitedB else s.island.limitedA) && !s.island.held

/-! ### The parameter block (14 R467) -/

/-- ISLAND_STATE's number. -/
def IslandSt.code : IslandSt → Nat
  | .selftest => 0 | .locked => 1 | .stopped => 2 | .energised => 3 | .sls => 4 | .degraded => 5 | .fault => 6

/-- The fields of a block. -/
def blockCfg (b : List Byte) : SafetyCfg :=
  { accessCode := numAt b 12 4, sin0 := (slice b 16 1).headD 0, sin1 := (slice b 17 1).headD 0,
    sin2 := (slice b 18 1).headD 0, sin3 := (slice b 19 1).headD 0, discrepancyMs := numAt b 20 2,
    inputFilter := numAt b 22 1, tpPulse := numAt b 23 1, slsLimit := numAt b 24 2, slsRamp := numAt b 26 2,
    hallEdges := numAt b 28 4, encEdges := numAt b 32 4, speedDiscMs := numAt b 36 2, degradedS := numAt b 38 2,
    powerupReset := numAt b 40 1, stoFbMs := numAt b 41 1 }

/-- SIN_CONFIG of an input. -/
def SafetyCfg.sinByte (c : SafetyCfg) (n : Nat) : Nat :=
  (if n = 0 then c.sin0 else if n = 1 then c.sin1 else if n = 2 then c.sin2 else c.sin3).toNat

/-- SIN_FUNCTION of an input. -/
def SafetyCfg.fn (c : SafetyCfg) (n : Nat) : Nat := bits (c.sinByte n) 0 3
/-- TEST_PULSE of an input. -/
def SafetyCfg.pulsed (c : SafetyCfg) (n : Nat) : Bool := (c.sinByte n).testBit 3
/-- GUARD_AUTO_RESTART of an input. -/
def SafetyCfg.auto (c : SafetyCfg) (n : Nat) : Bool := (c.sinByte n).testBit 4

/-- Whether every field lies in its range. -/
def SafetyCfg.ranges (c : SafetyCfg) : Bool :=
  ([0, 1, 2, 3].all (fun n => decide (c.fn n ≤ 4) && decide (c.sinByte n < 32)))
  && decide (10 ≤ c.discrepancyMs ∧ c.discrepancyMs ≤ 500) && decide (1 ≤ c.inputFilter ∧ c.inputFilter ≤ 6)
  && decide (2 ≤ c.tpPulse ∧ c.tpPulse ≤ 10) && decide (10 ≤ c.slsLimit ∧ c.slsLimit ≤ 250)
  && decide (100 ≤ c.slsRamp ∧ c.slsRamp ≤ 2000) && decide (1 ≤ c.hallEdges ∧ c.hallEdges ≤ 1000000)
  && decide (c.encEdges ≤ 10000000) && decide (50 ≤ c.speedDiscMs ∧ c.speedDiscMs ≤ 1000)
  && decide (c.degradedS = 0 ∨ (10 ≤ c.degradedS ∧ c.degradedS ≤ 300)) && decide (c.powerupReset ≤ 1)
  && decide (2 ≤ c.stoFbMs ∧ c.stoFbMs ≤ 50)

/-- Whether the block is consistent. A RESET input may have neither GUARD_AUTO_RESTART nor TEST_PULSE (DEDUCED, log 17). -/
def SafetyCfg.consistent (c : SafetyCfg) : Bool :=
  ([0, 1, 2, 3].all (fun n => !(decide (c.fn n = 4) && (c.auto n || c.pulsed n))))
  && decide (([0, 1, 2, 3].filter (fun n => decide (c.fn n = 4))).length ≤ 1)
  && (([0, 1, 2, 3].all (fun n => decide (c.fn n ≠ 1))) || ([0, 1, 2, 3].any (fun n => decide (c.fn n = 4))))
  && (decide (c.encEdges ≠ 0) || (([0, 1, 2, 3].all (fun n => decide (c.fn n ≠ 3))) && decide (c.degradedS = 0)))

/-- The checks of a block but its access code: MAGIC, VERSION, zeros, CRC, ranges, consistency. -/
def blockOk (b : List Byte) : Bool :=
  decide (b.length = 64) && decide (numAt b 0 4 = 0x4250534B) && decide (numAt b 4 1 = 1) && decide (numAt b 5 3 = 0)
  && decide (numAt b 42 18 = 0) && decide (numAt b 60 4 = crc32 (b.take 60))
  && (blockCfg b).ranges && (blockCfg b).consistent

/-! ### Configuration copies (14 R470, 04 R118) -/

/-- Where a copy lies. -/
def copyBase (k : Nat) : Nat := mramBase + 0x240000 + k * 0x10000

/-- The commit word of a generation. -/
def copyCommit (gen : Nat) : Nat := 0x5346435900000000 + gen % 0x10000

/-- The block and generation of a copy, none where the copy is not valid. -/
def State.copyOf (s : State) (k : Nat) : Option (List Byte × Nat) :=
  let b := s.bytesAt (copyBase k) 64
  let g := s.memNum (copyBase k + 64) 4
  if s.memNum (copyBase k + 0xFFF8) 8 = copyCommit g ∧ blockOk b = true ∧ s.poisoned (copyBase k) 68 = false
      ∧ s.poisoned (copyBase k + 0xFFF8) 8 = false then some (b, g) else none

/-- Writes a copy, its commit word last. -/
def State.writeCopy (k : Nat) (b : List Byte) (g : Nat) (s : State) : State :=
  ((s.nvmPut (copyBase k) b).nvmPut (copyBase k + 64) (leBytes 4 g)).nvmPut (copyBase k + 0xFFF8)
    (leBytes 8 (copyCommit g))

/-- Puts a configuration in force. -/
def State.useCfg (b : List Byte) (g : Nat) : State → State :=
  State.onIsland (fun i => { i with cfg := some (blockCfg b), block := b, generation := g, crc := numAt b 60 4 })

/-- SAFETY_CONFIG_LOAD (14 R470). -/
def State.loadSafetyCfg (s : State) : State :=
  let none_ := s.onIsland (fun i => { i with cfg := none, block := [], generation := 0, crc := 0 })
  match s.copyOf 0, s.copyOf 1 with
  | some (b, g), some (b', g') => if b = b' ∧ g = g' then s.useCfg b g else none_
  | some (b, g), none => ((s.writeCopy 1 b g).useCfg b g).book 0xE7C5 0x1F 1 (leBytes 1 2)
  | none, some (b, g) => ((s.writeCopy 0 b g).useCfg b g).book 0xE7C5 0x1F 1 (leBytes 1 1)
  | none, none => none_

/-! ### Demands and faults (14 R450 to R456) -/

/-- The configuration in force; without one every input is UNUSED. -/
def State.scfg (s : State) : SafetyCfg := s.island.cfg.getD {}

/-- Whether an input's function demands. In DEGRADED a faulted channel does not count (14 R453, R462). -/
def State.demandsOf (s : State) (n : Nat) : Bool :=
  let i := s.sin n
  let f := s.scfg.fn n
  let skip : Bool := decide (s.island.st = .degraded)
  (decide (f = 1) || decide (f = 2) || decide (f = 3))
  && ((!i.a && !(skip && decide (i.faultA ≠ 0))) || (!i.b && !(skip && decide (i.faultB ≠ 0))))

/-- Whether some input with a function demands. -/
def State.fnDemanded (s : State) (f : Nat) : Bool :=
  [0, 1, 2, 3].any (fun n => decide (s.scfg.fn n = f) && s.demandsOf n)

/-- Whether some GUARD input without automatic restart demands. -/
def State.guardLatched (s : State) : Bool :=
  [0, 1, 2, 3].any (fun n => decide (s.scfg.fn n = 2) && s.demandsOf n && !s.scfg.auto n)

/-- The faults of a channel: 1 DISCREPANCY, 2 TEST_PULSE, 3 CROSS_CIRCUIT (14 R471). -/
def faultKinds (f : BitVec 3) : List Nat := [1, 2, 3].filter (fun k => f.getLsbD (k - 1))

/-- The channel fault conditions present, as (input, channel, fault); the speed fault as input 0xFF. -/
def State.faultsNow (s : State) : List (Nat × Nat × Nat) :=
  ([0, 1, 2, 3].flatMap (fun n =>
    (faultKinds (s.sin n).faultA).map (fun k => (n, 0, k)) ++ (faultKinds (s.sin n).faultB).map (fun k => (n, 1, k))))
  ++ (if s.island.speedFault then [(0xFF, 0, 0)] else [])

/-- Whether degraded mode is permitted (14 R462): one fault alone, of the kinds named there. -/
def State.degradedAllowed (s : State) : Bool :=
  decide (s.scfg.degradedS ≠ 0)
  && (match s.faultsNow with
    | [(0xFF, _, _)] => true
    | [(n, 0, k)] => decide (k ≠ 3) && (s.sin n).b
    | [(n, _, k)] => decide (k ≠ 3) && (s.sin n).a
    | _ => false)

/-- Gives a channel a fault and writes its record (14 R452, R454, R472). -/
def State.channelFault (n : Nat) (b : Bool) (f : Nat) (s : State) : State :=
  let bit := BitVec.ofNat 3 (2 ^ (f - 1))
  if (if b then (s.sin n).faultB else (s.sin n).faultA) &&& bit ≠ 0 then s
  else (s.onSin n (fun i => if b then { i with faultB := i.faultB ||| bit } else { i with faultA := i.faultA ||| bit })).book 0xE7C1 0x1F 3
    (leBytes 1 n ++ leBytes 1 (b2n b) ++ leBytes 1 f)

/-- The larger magnitude of the safe speeds (14 R456, R459). -/
def State.safeSpeed (s : State) : Nat :=
  if s.scfg.encEdges = 0 then s.island.speedHall.natAbs else max s.island.speedHall.natAbs s.island.speedEnc.natAbs

/-- SLS_LIMIT_MMS in µm/s. -/
def State.slsLimit (s : State) : Nat := s.scfg.slsLimit * 1000

/-! ### Locking, states and outputs (14 R457 to R460) -/

/-- Whether a lock cause still holds (14 R458). -/
def State.causeHolds (s : State) (c : Nat) : Bool :=
  if c = 2 then s.fnDemanded 1
  else if c = 3 then s.fnDemanded 2
  else if c = 4 ∨ c = 5 then decide (s.slsLimit < s.safeSpeed)
  else if c = 6 then decide (s.faultsNow ≠ [])
  else if c = 8 then decide (s.island.fbA ≠ s.island.stoA ∨ s.island.fbB ≠ s.island.stoB)
  else if c = 10 then
    (match s.island.clockOkAt with
      | none => false
      | some t => decide (s.inow < t + 1000000))
  else false

/-- De-energises both outputs. -/
def Island.off (i : Island) : Island := { i with stoA := false, stoB := false, energisedAt := none }

/-- The payload from byte 30 of EMCY 0xFF70 and 0xFF71 (14 R472). -/
def State.islandExtra (s : State) : List Byte := leBytes 1 s.island.st.code ++ leBytes 1 s.island.lockCause

/-- Enters LOCKED with a cause; a cause that arises while LOCKED replaces the recorded one only if that no longer
holds (14 R457, R458). -/
def State.islandLock (cause : Nat) (s : State) : State :=
  let keep := decide (s.island.st = .locked) && s.causeHolds s.island.lockCause
  let s := s.onIsland (fun i => { i.off with st := .locked, lockCause := if keep then i.lockCause else cause,
                                             degradedAt := none })
  let s := s.endCond 0xFF70 0x1F 0
  s.raiseCond 0xFF71 0x1F 0 s.islandExtra

/-- Enters a state in which the speed is monitored: cap, ramp timer (14 R459). -/
def State.slsEntry (st : IslandSt) (s : State) : State :=
  s.onIsland (fun i => { i with st := st, slsAt := s.inow, slsBound := decide (s.safeSpeed < s.slsLimit) })

/-- ENERGISED, or SLS where SLS_MODE is demanded. -/
def State.energisedOrSls (s : State) : State :=
  if s.fnDemanded 3 then s.slsEntry .sls else s.onIsland (fun i => { i with st := .energised })

/-- Whether a state energises STO. -/
def IslandSt.on : IslandSt → Bool
  | .energised | .sls | .degraded => true
  | _ => false

/-- Drives STO as the state and the ordinary stop line say. It energises only while both feedbacks read OFF, which
re-arms outputs that their current limit turned off (14 R448, R460; 18 R555). -/
def State.driveSto (s : State) : State :=
  if s.island.st.on && !s.island.stopLine && !s.island.held then
    if s.island.stoA && s.island.stoB then s
    else if !s.island.fbA && !s.island.fbB then
      s.onIsland (fun i => { i with stoA := true, stoB := true, limitedA := false, limitedB := false,
                                    energisedAt := some s.inow })
    else s
  else s.onIsland Island.off

/-- The ordinary stop line (14 R448). -/
def State.setStopLine (a : Bool) (s : State) : State := (s.onIsland (fun i => { i with stopLine := a })).driveSto

/-- A lock cause that arises in this cycle while the island is LOCKED (14 R458): a new demand of a STOP input or of a GUARD
input without automatic restart, or a new channel fault. -/
def State.newCause (s : State) : Option Nat :=
  let fresh := fun (n : Nat) => s.demandsOf n && !s.island.demanded.getLsbD n
  if [0, 1, 2, 3].any (fun n => decide (s.scfg.fn n = 1) && fresh n) then some 2
  else if [0, 1, 2, 3].any (fun n => decide (s.scfg.fn n = 2) && !s.scfg.auto n && fresh n) then some 3
  else if s.faultsNow.any (fun f => decide (f ∉ s.island.knownFaults)) then some 6
  else none

/-- The island's rows of R457 that a safety cycle tests, in order. -/
def State.islandRows (s : State) : State :=
  let run := s.island.st.on
  let es := decide (s.island.st = .energised) || decide (s.island.st = .sls)
  let deg := decide (s.island.st = .degraded)
  let window := (match s.island.degradedAt with
    | none => false
    | some t => decide (t + s.scfg.degradedS * 1000000 ≤ s.inow))
  let above := (decide (s.island.st = .sls) || deg) && decide (s.slsLimit < s.safeSpeed)
  let ramp := decide (s.island.slsAt + s.scfg.slsRamp * 1000 ≤ s.inow)
  if run && s.fnDemanded 1 then s.islandLock 2
  else if run && s.fnDemanded 2 && (deg || s.guardLatched) then s.islandLock 3
  else if es && s.fnDemanded 2 then s.onIsland (fun i => { i with st := .stopped })
  else if es && decide (s.faultsNow ≠ []) then
    if s.degradedAllowed then
      let s := (s.slsEntry .degraded).onIsland (fun i => { i with degradedAt := some s.inow })
      s.raiseCond 0xFF70 0x1F 0 s.islandExtra
    else s.islandLock 6
  else if deg && s.faultsNow.any (fun f => decide (f ∉ s.island.knownFaults)) then s.islandLock 6
  else if deg && window then s.islandLock 7
  else if above && s.island.slsBound then s.islandLock 4
  else if above && ramp then s.islandLock 5
  else if decide (s.island.st = .energised) && s.fnDemanded 3 then s.slsEntry .sls
  else if decide (s.island.st = .sls) && !s.fnDemanded 3 then s.onIsland (fun i => { i with st := .energised })
  else if decide (s.island.st = .stopped) && !s.fnDemanded 2 && !s.fnDemanded 1 then s.energisedOrSls
  else if (decide (s.island.st = .sls) || deg) && ramp then s.onIsland (fun i => { i with slsBound := true })
  else if s.island.st = .locked then
    match s.newCause with
    | some c => s.islandLock c
    | none => s
  else s

/-! ### The safety cycle -/

/-- Clears the channel faults whose condition has ended (14 R458): own pulses alone seen for 1 s. -/
def Sin.clearPulse (now : Nat) (i : Sin) : Sin :=
  let good (o : Option Nat) : Bool := match o with | none => false | some t => decide (t + 1000000 ≤ now)
  { i with
    faultA := if good i.pulsesA then i.faultA &&& 1 else i.faultA,
    faultB := if good i.pulsesB then i.faultB &&& 1 else i.faultB }

/-- Since when a condition has held, given whether it holds now. -/
def sinceWhen (now : Nat) (held : Option Nat) (b : Bool) : Option Nat :=
  if b then some (held.getD now) else none

/-- The safe speeds of a cycle and the runs that R456 and R458 time. -/
def State.islandSpeeds (s : State) : State :=
  let h := s.belt.hallTrack.speed s.scfg.hallEdges (s.now * 1000)
  let e := if s.scfg.encEdges = 0 then 0 else s.belt.qepTrack.speed s.scfg.encEdges (s.now * 1000)
  let differ := decide (s.scfg.encEdges ≠ 0) && speedsDiffer h e
  let agree := !differ && decide (20000 ≤ h.natAbs ∨ 20000 ≤ e.natAbs)
  let rest := decide (h.natAbs < 5000 ∧ e.natAbs < 5000)
  s.onIsland (fun i =>
    let a := sinceWhen s.inow i.speedAgree agree
    let r := sinceWhen s.inow i.speedRest rest
    let done (o : Option Nat) : Bool := match o with | none => false | some t => decide (t + 1000000 ≤ s.inow)
    { i with speedHall := h, speedEnc := e, speedSplit := sinceWhen s.inow i.speedSplit differ, speedAgree := a,
             speedRest := r, speedFault := i.speedFault && !(done a || done r) })

/-- Counts and records the inputs whose demand is new in this cycle; the measured reaction time is a free value of at
most 8000 µs (14 R453, R464, R472). -/
def State.newDemands (l : List Nat) (s : State) : State :=
  l.foldl (fun s n =>
    if s.demandsOf n && !s.island.demanded.getLsbD n then
      let r := s.drawn % 8001
      ((s.draw).onIsland (fun i => { i with demands := satAdd max32 i.demands 1, lastReaction := r })).book 0xE7C0 0x1F 0
        (leBytes 1 (s.scfg.fn n) ++ leBytes 1 n ++ leBytes 2 r)
    else s) s

/-- Remembers the demands and faults of this cycle; TEST_DUE clears at a de-energisation that the feedback confirms
(14 R461). -/
def State.cycleMemory (s : State) : State :=
  s.onIsland (fun i => { i with
    demanded := BitVec.ofNat 4 (sumN ([0, 1, 2, 3].map (fun n => if s.demandsOf n then 2 ^ n else 0))),
    knownFaults := s.faultsNow,
    testDue := i.testDue && (i.stoA || i.stoB || i.fbA || i.fbB) })

/-- The levels of STO_FB_A and STO_FB_B that a cycle reads, and since when one differs from its commanded output (14 R460). -/
def State.feedbacks (fbA fbB : Bool) (s : State) : State :=
  s.onIsland (fun i => { i with
    fbA := fbA, fbB := fbB, fbSplit := sinceWhen s.inow i.fbSplit (decide (fbA ≠ i.stoA) || decide (fbB ≠ i.stoB)) })

/-- SLS_CAP_MMS: floor(0.9 × SLS_LIMIT_MMS) in SLS and DEGRADED, else 0 (14 R459). -/
def State.slsCapNow (s : State) : Nat :=
  if s.island.st = .sls ∨ s.island.st = .degraded then 9 * s.scfg.slsLimit / 10 else 0

/-- The fault code of an input in SIN_FAULT (14 R471): of several conditions the highest (DESIGN CHOICE, log 76). -/
def Sin.faultCode (i : Sin) : Nat := (faultKinds (i.faultA ||| i.faultB)).getLast?.getD 0

/-- DEGRADED_REMAINING_MS (14 R462). -/
def State.degradedLeft (s : State) : Nat :=
  match s.island.degradedAt with
  | none => 0
  | some t => (t + s.scfg.degradedS * 1000000 - s.inow) / 1000

/-- The values of 0x6800.01 to .11 now (14 R471). -/
def State.mirrorValues (s : State) : List Nat :=
  let i := s.island
  [i.st.code, i.lockCause,
   sumN ([0, 1, 2, 3].map (fun n => b2n (s.sin n).a * 2 ^ (2 * n) + b2n (s.sin n).b * 2 ^ (2 * n + 1))),
   sumN ([0, 1, 2, 3].map (fun n => (s.sin n).faultCode * 16 ^ n)),
   b2n i.stoA + 2 * b2n i.stoB + 4 * b2n i.fbA + 8 * b2n i.fbB + 16 * b2n i.stopLine,
   toBits 16 (mmPerS i.speedHall), toBits 16 (mmPerS i.speedEnc), s.slsCapNow, s.degradedLeft, b2n i.speedFault,
   i.demands, i.lastReaction, i.crc, i.generation, b2n i.testDue, toBits 32 i.clockPpm, i.mirror.toNat]

/-- Writes the mirror (14 R449). -/
def State.writeMirror (s : State) : State :=
  let s := s.onIsland (fun i => { i with mirror := i.mirror + 1, mirrorCap := s.slsCapNow, mirrorSt := i.st })
  s.onIsland (fun i => { i with snap := s.mirrorValues, snapBlock := i.block })

/-- What a safety cycle does with the feedback levels it reads (14 R449, R453 to R464): the mirror is written last. -/
def State.safetyCycle (fbA fbB : Bool) (s : State) : State :=
  let s := (s.feedbacks fbA fbB).islandSpeeds
  let s := [0, 1, 2, 3].foldl (fun s n => s.onSin n (Sin.clearPulse s.inow)) s
  let s := (s.newDemands [0, 1, 2, 3]).islandRows
  (s.cycleMemory.driveSto).writeMirror

/-- SAFETY_CYCLE. -/
def execSafetyCycle (fbA fbB : Bool) (s : State) : Host.Outcome State Fault Refusal :=
  .next (s.islandUp (State.safetyCycle fbA fbB))

/-! ### Inputs -/

/-- Whether a pair that is equal now became so within DISCREPANCY_MS. -/
def Sin.inTime (i : Sin) (now discUs : Nat) : Bool :=
  match i.splitAt with
  | none => true
  | some t => decide (now ≤ t + discUs)

/-- An accepted level of a channel of a two-channel function (14 R453, R454). -/
def Sin.accept (i : Sin) (b on : Bool) (now discUs : Nat) : Sin :=
  let j := if b then { i with b := on } else { i with a := on }
  if j.a ≠ j.b then { j with splitAt := some now, lateB := !b, offTogether := i.offTogether && i.a == i.b }
  else
    let ok := i.inTime now discUs
    let j := { j with splitAt := none, offTogether := if j.a then false else ok }
    if j.a && i.offTogether && ok then
      { j with faultA := j.faultA &&& 6, faultB := j.faultB &&& 6 }
    else j

/-- A level of channel A of a RESET input: a press of 100 ms to 3 s stays noted after its release (14 R455). -/
def Sin.press (i : Sin) (on : Bool) (now : Nat) : Sin :=
  if on then { i with a := true, pressAt := some now }
  else
    { i with a := false, pressAt := match i.pressAt with
      | none => none
      | some t => if t + 100000 ≤ now ∧ now ≤ t + 3000000 then some t else none }

/-- How long a new level of a channel that began at a time of the island's clock must hold: INPUT_FILTER, and an OFF level that
began within the pulse that supplies the channel longer than TP_PULSE + 100 µs (14 R451, R452). -/
def State.holdTime (s : State) (n : Nat) (b on : Bool) (since : Nat) : Nat :=
  let filter := 500 * s.scfg.inputFilter
  match (if b then s.island.tp1At else s.island.tp0At) with
  | none => filter
  | some t =>
    if on = false ∧ s.scfg.pulsed n = true ∧ t ≤ since ∧ since ≤ t + 100 * s.scfg.tpPulse
    then max filter (100 * s.scfg.tpPulse + 101) else filter

/-- A channel's accepted level (14 R453 to R455): unused channels are ignored. -/
def State.inputAccepted (n : Nat) (b on : Bool) (s : State) : State :=
  let f := s.scfg.fn n
  if (if b then (s.sin n).b else (s.sin n).a) = on then s
  else if f = 0 then s.onSin n (fun i => if b then { i with b := on } else { i with a := on })
  else if f = 4 then s.onSin n (fun i => if b then { i with b := on } else i.press on s.inow)
  else s.onSin n (fun i => i.accept b on s.inow (s.scfg.discrepancyMs * 1000))

/-- SAFETY_INPUT_ACCEPTED (14 R451): a level that began at `since` of the island's clock has held long enough without a
break. -/
def execSafetyInputAccepted (n : Fin 4) (b : Bool) (on : Bool) (since : Nat) (s : State) : Host.Outcome State Fault Refusal :=
  .next (s.islandUp (fun s => (s.upToIsland (since + s.holdTime n b on since)).inputAccepted n b on))

/-- What one channel showed during a test pulse (14 R452). -/
def State.pulseSeen (tp1 : Bool) (o : PulseSeen) (s : State) : State :=
  if s.scfg.pulsed o.n.val = false ∨ s.scfg.fn o.n.val = 0 then s
  else if o.b = tp1 then
    let level := if o.b then (s.sin o.n.val).b else (s.sin o.n.val).a
    let miss := if o.b then (s.sin o.n.val).missB else (s.sin o.n.val).missA
    if o.shown then
      s.onSin o.n.val (fun i => if o.b then { i with missB := 0, pulsesB := some (i.pulsesB.getD s.inow) }
                                else { i with missA := 0, pulsesA := some (i.pulsesA.getD s.inow) })
    else
      let k := if level then miss + 1 else 0
      let t := s.onSin o.n.val (fun i => if o.b then { i with missB := k, pulsesB := none } else { i with missA := k, pulsesA := none })
      if 2 ≤ k then t.channelFault o.n.val o.b 2 else t
  else if o.shown then
    let t := s.onSin o.n.val (fun i => { i with pulsesA := none, pulsesB := none })
    (t.channelFault o.n.val false 3).channelFault o.n.val true 3
  else s

/-- When a pulse is due: 40 ms after the last of its output, TP1's first 20 ms after one of TP0 (14 R452). -/
def Island.pulseDue (i : Island) (tp1 : Bool) : Nat :=
  match i.tp0At, i.tp1At with
  | _, some t => if tp1 then t + 40000 else (i.tp0At.map (fun u => u + 40000)).getD 0
  | some t, none => if tp1 then t + 20000 else t + 40000
  | none, none => 0

/-- TEST_PULSE (14 R452): a pulse of TP0 or TP1, and what each observed channel showed during it. -/
def execTestPulse (tp1 : Bool) (obs : List PulseSeen) (s : State) : Host.Outcome State Fault Refusal :=
  .next (s.islandUp (fun s =>
    let s := s.upToIsland (s.island.pulseDue tp1)
    obs.foldl (fun s o => s.pulseSeen tp1 o)
      (s.onIsland (fun i => if tp1 then { i with tp1At := some s.inow } else { i with tp0At := some s.inow }))))

/-- DISCREPANCY_TIMEOUT (14 R454). -/
def execDiscrepancyTimeout (n : Fin 4) (s : State) : Host.Outcome State Fault Refusal :=
  .next (s.islandUp (fun s => let f := s.scfg.fn n.val
    match (s.sin n.val).splitAt with
    | none => s
    | some t =>
      if f = 1 ∨ f = 2 ∨ f = 3 then
        let s := s.upToIsland (t + s.scfg.discrepancyMs * 1000)
        (s.onSin n.val (fun i => { i with offTogether := false })).channelFault n.val (s.sin n.val).lateB 1
      else s))

/-- SPEED_DISCREPANCY (14 R456): both speed channels have the fault; its code in the record is a free value. -/
def execSpeedDiscrepancy (s : State) : Host.Outcome State Fault Refusal :=
  .next (s.islandUp (fun s => match s.island.speedSplit with
    | none => s
    | some t =>
      if s.island.speedFault then s
      else
        let s := s.upToIsland (t + s.scfg.speedDiscMs * 1000)
        let f := leBytes 1 s.drawn
        (((s.draw).onIsland (fun i => { i with speedFault := true, speedAgree := none, speedRest := none })).book 0xE7C1
          0x1F 3 (leBytes 1 0xFF ++ leBytes 1 0 ++ f)).book 0xE7C1 0x1F 3 (leBytes 1 0xFF ++ leBytes 1 1 ++ f)))

/-- Whether a reset request is accepted (14 R458). -/
def State.resetOk (s : State) : Bool :=
  decide (s.island.st = .locked) && !s.fnDemanded 1 && !s.fnDemanded 2 && decide (s.faultsNow = [])
  && s.island.cfg.isSome && !s.island.fbA && !s.island.fbB && !s.causeHolds s.island.lockCause

/-- RESET_REQUEST (14 R455, R457, R458): the release of a press of 100 ms to 3 s. -/
def execResetRequest (n : Fin 4) (s : State) : Host.Outcome State Fault Refusal :=
  .next (s.islandUp (fun s => if s.scfg.fn n.val = 4 ∧ (s.sin n.val).a = false ∧ (s.sin n.val).pressAt.isSome = true then
    let ok := s.resetOk
    let s := (s.onSin n.val (fun i => { i with pressAt := none })).book 0xE7C3 0x1F 0
      (leBytes 1 (b2n ok) ++ leBytes 1 s.island.lockCause)
    if ok then
      ((s.energisedOrSls.onIsland (fun i => { i with lockCause := 0 })).endCond 0xFF71 0x1F 0).driveSto
    else s
    else s))

/-! ### Timers -/

/-- DEGRADED_EXPIRY (14 R457, R462). -/
def execDegradedExpiry (s : State) : Host.Outcome State Fault Refusal :=
  .next (s.islandUp (fun s => match s.island.degradedAt with
    | none => s
    | some t => (s.upToIsland (t + s.scfg.degradedS * 1000000)).islandLock 7))

/-- SLS_RAMP_EXPIRY (14 R459). -/
def execSlsRampExpiry (s : State) : Host.Outcome State Fault Refusal :=
  .next (s.islandUp (fun s => if (s.island.st = .sls ∨ s.island.st = .degraded) ∧ s.island.slsBound = false then
    let s := s.upToIsland (s.island.slsAt + s.scfg.slsRamp * 1000)
    if s.slsLimit < s.safeSpeed then s.islandLock 5 else s.onIsland (fun i => { i with slsBound := true })
    else s))

/-- The record of an internal fault (14 R472). -/
def State.internalRecord (cause : Nat) : State → State := State.book 0xE7C2 0x1F 3 (leBytes 1 cause)

/-- STO_FEEDBACK_TIMEOUT (14 R460): a feedback has differed from its commanded output for longer than STO_FB_TIME_MS. -/
def execStoFeedbackTimeout (s : State) : Host.Outcome State Fault Refusal :=
  .next (s.islandUp (fun s =>
    match s.island.fbSplit with
    | none => s
    | some t =>
      if s.island.st = .selftest ∨ s.island.st = .fault then s
      else (((s.upToIsland (t + 1000 * s.scfg.stoFbMs + 1)).onIsland (fun i => { i with fbSplit := none })).internalRecord 8).islandLock 8))

/-- TEST_DUE_TIMER (14 R461): 24 h energised without a break. -/
def execTestDueTimer (s : State) : Host.Outcome State Fault Refusal :=
  .next (s.islandUp (fun s => match s.island.energisedAt with
    | none => s
    | some t =>
      if s.island.testDue then s
      else ((s.upToIsland (t + 86400000000)).onIsland (fun i => { i with testDue := true })).book 0xE7C6 0x1F 1 (leBytes 4 24)))

/-- ORDINARY_STOP_LINE (14 R448): the hub releases the line only in PRE-OPERATIONAL, OPERATIONAL or STOPPED, with its
rails on. -/
def execOrdinaryStopLine (asserted : Bool) (s : State) : Host.Outcome State Fault Refusal :=
  .next (if asserted = true ∨ (s.boot.st = .running ∧ (s.power.st = .idle ∨ s.power.st = .active))
    then s.setStopLine asserted else s)

/-- STO_CURRENT_LIMIT_OFF (18 R555): 2 ms in current limit turn an energised output off. -/
def execStoCurrentLimitOff (b : Bool) (s : State) : Host.Outcome State Fault Refusal :=
  .next (s.islandUp (fun s => if b then (if s.island.stoB then s.onIsland (fun i => { i with limitedB := true }) else s)
    else (if s.island.stoA then s.onIsland (fun i => { i with limitedA := true }) else s)))

/-! ### Internal faults and start (14 R457, R463, R470) -/

/-- Answers who waited for the write of SAFETY_CONFIRM. -/
def State.answerTo (who : StoreFor) (idx sub code : Nat) (s : State) : State :=
  match who with
  | .sdo => s.emit (if code = 0 then .sdo idx sub [] else .sdoAbort idx sub code)
  | .oap host token seq => s.oapRespond host 0x11 token seq code []
  | .fwd src _ token seq => s.forwardReply src 0x11 token seq code []
  | .lss => s.emit (.lss 0x17 (if code = 0 then 0 else 2))
  | .local => s.answer code

/-- The island starts: outputs off, SELFTEST, configuration loaded. A start that breaks into the writing of both copies
leaves the former configuration or differing copies (14 R468): which is a free value. A transfer in progress ends; its
status is this model's choice (log 19). -/
def State.islandStart (s : State) : State :=
  let who := if s.island.transfer = 2 then some s.island.transferFor else none
  let torn := decide (s.island.transfer = 2) && (s.drawn).testBit 0
  let t := if s.island.transfer = 2 then s.draw else s
  let t := if torn then t.writeCopy 0 t.island.echo ((t.island.generation + 1) % 2 ^ 32) else t
  let t := (t.onIsland (fun i => { i.off with
    st := .selftest, degradedAt := none, speedSplit := none, speedAgree := none, speedRest := none, speedFault := false,
    slsBound := false, knownFaults := [], demanded := 0, fbA := false, fbB := false, fbSplit := none,
    tp0At := none, tp1At := none, limitedA := false,
    limitedB := false, sins := [], testDue := false,
    transfer := if i.transfer = 1 ∨ i.transfer = 2 then 4 else i.transfer,
    transferStatus := if i.transfer = 1 ∨ i.transfer = 2 then 0x06060000 else i.transferStatus,
    confirm := if i.transfer = 1 ∨ i.transfer = 2 then 0 else i.confirm })).loadSafetyCfg
  match who with
  | some w => t.answerTo w 0x6F00 5 0x06060000
  | none => t

/-- A fault after which the island restarts through SELFTEST and locks (14 R463). -/
def State.islandRestart (cause : Nat) (s : State) : State :=
  let s := (s.internalRecord cause).islandStart
  let s := (s.onIsland (fun i => { i with lockCause := cause, restartCause := some cause })).endCond 0xFF70 0x1F 0
  s.raiseCond 0xFF71 0x1F 0 s.islandExtra

/-- LOCKSTEP_MISMATCH (14 R463). -/
def execLockstepMismatch (s : State) : Host.Outcome State Fault Refusal := .next (s.islandUp (fun s => s.islandRestart 9))

/-- ISLAND_WATCHDOG (14 R463). -/
def execIslandWatchdog (s : State) : Host.Outcome State Fault Refusal := .next (s.islandUp (fun s => s.islandRestart 11))

/-- CLOCK_CHECK_FAIL (14 R463): the check of the last 10 ms failed; it passes again from the last failure on. -/
def execClockCheckFail (ppm : Int) (s : State) : Host.Outcome State Fault Refusal :=
  .next (s.islandUp (fun s => let s := s.onIsland (fun i => { i with clockPpm := clampI (-2147483648) 2147483647 ppm, clockOkAt := some s.inow })
    let s := s.internalRecord 10
    if s.island.st = .selftest then s.onIsland (fun i => { i with restartCause := some (i.restartCause.getD 10) })
    else s.islandLock 10))

/-- VDD_SAFE_FAULT (14 R463, 01 R38): STO is de-energised in hardware and the island is held in reset until VDD_SAFE returns. -/
def execVddSafeFault (s : State) : Host.Outcome State Fault Refusal :=
  .next (s.islandUp (fun s => (s.islandRestart 1).onIsland (fun i => { i with held := true })))

/-- VDD_SAFE powers up: what locked the island before is gone with it (14 R457). -/
def State.islandFresh (s : State) : State :=
  ((s.islandStart.onIsland (fun i => { i with lockCause := 0, restartCause := none, held := false })).endCond 0xFF70 0x1F 0).endCond
    0xFF71 0x1F 0

/-- ISLAND_POWER_UP (14 R457, R463, R470): VDD_SAFE powers up, or returns after a fault, whose lock then has cause POWER_UP. -/
def execIslandPowerUp (s : State) : Host.Outcome State Fault Refusal :=
  .next (if s.island.held then s.islandStart.onIsland (fun i => { i with held := false }) else s.islandFresh)

/-- SELFTEST_COMPLETE (14 R457): a failed self-test is a RAM or ROM error (R463). -/
def execSelftestComplete (passed : Bool) (s : State) : Host.Outcome State Fault Refusal :=
  .next (s.islandUp (fun s => if s.island.st ≠ .selftest then s
    else if passed = false then s.islandRestart 9
    else
      let cause := s.island.restartCause
      let s := s.onIsland (fun i => { i with restartCause := none })
      if s.island.cfg.isNone then s.onIsland (fun i => { i with st := .fault })
      else match cause with
        | some c => s.onIsland (fun i => { i with st := .locked, lockCause := c })
        | none =>
          if s.scfg.powerupReset = 1 ∧ s.faultsNow = [] ∧ ([0, 1, 2, 3].any s.demandsOf) = false then
            (s.onIsland (fun i => { i with st := .energised })).driveSto
          else s.onIsland (fun i => { i with st := .locked, lockCause := 1 })))

/-! ### The transfer (14 R467 to R469) -/

/-- A write of SAFETY_PARAM_BLOCK (14 R468); a length other than 64 does not match the type (03 R77). -/
def State.paramWrite (data : List Byte) (s : State) : Nat × State :=
  if s.comm.nmt ≠ .preOperational then (0x08000022, s)
  else if data.length ≠ 64 then (0x06070010, s)
  else if numAt data 8 4 ≠ s.scfg.accessCode ∨ ¬ (s.island.st = .locked ∨ s.island.st = .fault)
      ∨ s.island.transfer = 2 then (0x0F000030, s)
  else if blockOk data = false then (0x06090030, s)
  else (0, (s.draw).onIsland (fun i => { i with
    echo := data, confirm := s.drawn % 65535 + 1, transfer := 1, transferAt := s.inow, transferStatus := 0 }))

/-- Ends a transfer that awaits confirmation (14 R468, R469). -/
def State.transferEnd (code : Nat) (s : State) : State :=
  if s.island.transfer = 1 then
    s.onIsland (fun i => { i with transfer := 4, confirm := 0, echo := [], transferStatus := code })
  else s

/-- What a device reset or STANDBY does to the transfer objects: defaults, unless the copies are being written (14 R469). -/
def State.transferReset (s : State) : State :=
  if s.island.transfer = 2 then s
  else s.onIsland (fun i => { i with transfer := 0, confirm := 0, echo := [], transferStatus := 0 })

/-- A write of SAFETY_CONFIRM (14 R468, R469): code 0 means that the copies are being written and the response waits
for TRANSFER_WRITE_COMPLETE. -/
def State.confirmWrite (who : StoreFor) (data : List Byte) (s : State) : Nat × State :=
  if s.comm.nmt ≠ .preOperational then (0x08000022, s)
  else if data.length ≠ 8 then (0x06070010, s)
  else if s.island.transfer ≠ 1 then (0x0F000030, s)
  else if s.island.transferAt + 60000000 < s.inow then (0x0F000030, s.transferEnd 0)
  else if numAt data 0 2 ≠ s.island.confirm ∨ numAt data 2 2 ≠ 0 ∨ numAt data 4 4 ≠ numAt s.island.echo 60 4 then
    (0x0F000030, s.transferEnd 0x0F000030)
  else (0, s.onIsland (fun i => { i with transfer := 2, transferFor := who }))

/-- SAFETY_PARAM_BLOCK (14 R468). -/
def execSafetyParamBlock (data : List Byte) (s : State) : Host.Outcome State Fault Refusal :=
  .next (s.written (fun s => let r := s.paramWrite data; r.2.answer r.1))

/-- SAFETY_CONFIRM (14 R468). -/
def execSafetyConfirm (data : List Byte) (s : State) : Host.Outcome State Fault Refusal :=
  .next (s.written (fun s => let r := s.confirmWrite .local data; if r.1 = 0 then r.2 else r.2.answer r.1))

/-- TRANSFER_WRITE_COMPLETE (14 R468, R469, R470, R472). -/
def execTransferWriteComplete (s : State) : Host.Outcome State Fault Refusal :=
  .next (s.islandUp (fun s => if s.island.transfer = 2 then
    let b := s.island.echo
    let g := (s.island.generation + 1) % 2 ^ 32
    let s := ((s.writeCopy 0 b g).writeCopy 1 b g).useCfg b g
    let s := s.onIsland (fun i => { i.off with st := .locked, lockCause := 12, transfer := 3 })
    (s.book 0xE7C4 0x1F 0 (leBytes 4 g ++ leBytes 4 (numAt b 60 4))).answerTo s.island.transferFor 0x6F00 5 0
    else s))

/-- TRANSFER_TIMEOUT (14 R468): 60 s without confirmation. -/
def execTransferTimeout (s : State) : Host.Outcome State Fault Refusal :=
  .next (s.islandUp (fun s => if s.island.transfer = 1 then (s.upToIsland (s.island.transferAt + 60000000)).transferEnd 0 else s))

end Sys2Proof.Machine
end

