-- ==== Sys2Proof/Machine/Nvm.lean ====
section
/-! DEFINITION. Vintages with their store, restore and selection at boot, and the Cellar Book
(04_vintages_images_cellar_book.md, R118 to R130, R144 to R154). -/

namespace Sys2Proof.Machine

/-! ### Where content lies (04 R118, R122) -/

/-- Where a vintage area starts: 0 A, 1 B. -/
def vintageBase (k : Nat) : Nat := mramBase + 0x200000 + k * 0x20000

/-- The COMMIT word of a generation (04 R122). -/
def vintageCommit (gen : Nat) : Nat := 0x434F4D4D49540000 + gen % 0x10000

/-- Every index of the dictionary, rising. -/
def entryIdxs : List Nat :=
  [0x1000, 0x1001, 0x1003, 0x1005, 0x1008, 0x1009, 0x100A, 0x1010, 0x1011, 0x1014, 0x1015, 0x1016, 0x1017, 0x1018, 0x1200]
  ++ (List.range 16).map (0x1400 + ·) ++ (List.range 16).map (0x1600 + ·)
  ++ (List.range 16).map (0x1800 + ·) ++ (List.range 16).map (0x1A00 + ·)
  ++ [0x2001, 0x2010, 0x2020, 0x2021, 0x2022, 0x2100, 0x2200, 0x2300, 0x2400, 0x2500]
  ++ (List.range 6).map portIdx ++ [0x4000] ++ (List.range 256).map coreIdx ++ [0x4200, 0x5000, 0x5100]
  ++ (List.range 8).map sourceIdx ++ [0x5200, 0x5300, 0x6000] ++ (List.range 8).map gateIdx
  ++ (List.range 16).map regionIdx ++ (List.range 4).map zoneIdx
  ++ [0x6200, 0x6400, 0x6800, 0x6810, 0x6F00, 0x7000, 0x7100, 0x7101, 0x8000, 0x8010, 0x8100]
  ++ (List.range 32).map queueIdx

/-- The subindices of a row of class P, with their type. -/
def Row.pSubs (r : Row) : List (Nat × Card) :=
  if r.card.pers = .p then (List.range (r.hi + 1 - r.lo)).map (fun k => (r.lo + k, r.card)) else []

/-- The class P entries of an index whose unit is present. -/
def State.pEntries (s : State) (idx : Nat) : List (Nat × Card) :=
  if s.unitAbsent idx then []
  else match indexRows idx with
    | none => []
    | some rows => rows.flatMap Row.pSubs

/-- Which indices a subindex of 0x1010 and 0x1011 names (03 R89). -/
def inSubset (sub idx : Nat) : Bool :=
  if sub = 1 then true
  else if sub = 2 then decide (0x1000 ≤ idx ∧ idx ≤ 0x1FFF) || decide (0x2010 ≤ idx ∧ idx ≤ 0x2022)
  else if sub = 3 then decide (0x3000 ≤ idx ∧ idx ≤ 0x9FFF) && !decide (0x6800 ≤ idx ∧ idx ≤ 0x6FFF)
  else decide (0x2000 ≤ idx ∧ idx ≤ 0x2FFF) && !decide (0x2010 ≤ idx ∧ idx ≤ 0x2022)

/-! ### Parameter records (04 R123, R126) -/

/-- A parameter record. -/
structure PRec where
  idx : Nat
  sub : Nat
  ty : Nat
  val : List Byte
deriving DecidableEq, Repr

/-- A number of bytes rounded up to a multiple of 4. -/
def pad4 (n : Nat) : Nat := (n + 3) / 4 * 4

/-- The bytes of a parameter record (04 R123). -/
def PRec.bytes (r : PRec) : List Byte :=
  leBytes 2 r.idx ++ leBytes 1 r.sub ++ [0] ++ leBytes 2 r.ty ++ leBytes 2 r.val.length ++ slice r.val 0 (pad4 r.val.length)

/-- The records of a payload, and whether one's extent would pass its end, which ends the reading (04 R126). -/
def readRecs : Nat → List Byte → List PRec × Bool
  | 0, _ => ([], false)
  | _ + 1, [] => ([], false)
  | fuel + 1, l =>
    let n := numAt l 6 2
    if l.length < 8 + pad4 n then ([], true)
    else
      let r := readRecs fuel (l.drop (8 + pad4 n))
      ({ idx := numAt l 0 2, sub := numAt l 2 1, ty := numAt l 4 2, val := slice l 8 n } :: r.1, r.2)

/-- The records of a payload. -/
def payloadRecs (l : List Byte) : List PRec × Bool := readRecs (l.length / 8 + 1) l

/-- Whether a record names the node-ID or the nominal rate that LSS saved (03 R101; log 20). -/
def PRec.lss (r : PRec) : Bool := decide (r.idx = 0x2010) && (decide (r.sub = 1) || decide (r.sub = 2))

/-- Whether a value of an entry is one that its chapter refuses as out of range beyond its card: of a PDO type (03 R98), a
gate source (12 R394), a zone's BOUNDARY (12 R407) or BAGGING_WEIGHT (12 R414), SLICE_LINES (16 R505), a CHOIR_KEY entry
(11 R374). -/
def State.valueBad (s : State) (idx sub v : Nat) : Bool :=
  if ((0x1400 ≤ idx ∧ idx < 0x1410) ∨ (0x1800 ≤ idx ∧ idx < 0x1810)) ∧ sub = 2 then decide (241 ≤ v ∧ v ≤ 253)
  else if 0x6010 ≤ idx ∧ idx < 0x6018 ∧ (sub = 2 ∨ sub = 3) then !s.srcOk v
  else if 0x6100 ≤ idx ∧ idx < 0x6104 ∧ sub = 3 then (List.range 8).any (fun g => decide (bits v (2 * g) 2 = 3))
  else if 0x6100 ≤ idx ∧ idx < 0x6104 ∧ sub = 10 then weightBad v
  else if (idx = 0x7100 ∨ idx = 0x7101) ∧ sub = 0xA then decide (v % 32 ≠ 0)
  else if idx = 0x8100 then decide (2 ^ 80 ≤ v)
  else false

/-- Whether a record of LSS names a node-ID or a nominal rate that LSS configures (03 R101). -/
def PRec.lssOk (r : PRec) : Bool :=
  let v := leNum r.val
  if r.sub = 1 then decide (r.ty = 5) && decide (r.val.length = 1) && (decide (1 ≤ v ∧ v ≤ 127) || decide (v = 0xFF))
  else decide (r.ty = 6) && decide (r.val.length = 2) && [125, 250, 500, 1000].contains v

/-- Whether a loaded record is taken (04 R126). -/
def State.recOk (s : State) (r : PRec) : Bool :=
  if r.lss then r.lssOk
  else if 0x6800 ≤ r.idx ∧ r.idx ≤ 0x6FFF then false
  else match s.find r.idx r.sub with
    | .card c => decide (c.pers = .p) && decide (r.ty = c.ty.number) && decide (c.ty.size = some r.val.length)
        && inRanges c.rng (c.ty.value (leNum r.val)) && !s.valueBad r.idx r.sub (leNum r.val)
    | _ => false

/-! ### Vintages (04 R122, R124, R125) -/

/-- GENERATION and payload of an area, where it is valid; a read that ECC cannot correct fails it (R120). -/
def State.vintage (s : State) (k : Nat) : Option (Nat × List Byte) :=
  let b := vintageBase k
  let len := s.memNum (b + 8) 4
  let gen := s.memNum (b + 4) 4
  if s.memNum b 4 = 0x54564C4B ∧ len % 4 = 0 ∧ len ≤ 131044 ∧ 1 ≤ gen
      ∧ s.memNum (b + 16 + len) 4 = crc32 (s.bytesAt (b + 16) len) ∧ s.memNum (b + 0x1FFF8) 8 = vintageCommit gen
      ∧ s.poisoned b (20 + len) = false ∧ s.poisoned (b + 0x1FFF8) 8 = false
  then some (gen, s.bytesAt (b + 16) len) else none

/-- The records of the vintage in use, none while defaults are in use. -/
def State.usedRecs (s : State) : List PRec :=
  if s.nvm.inUse = 2 then []
  else match s.vintage s.nvm.inUse with
    | none => []
    | some (_, p) => (payloadRecs p).1

/-- The record of an entry in a vintage. -/
def recOf (l : List PRec) (idx sub : Nat) : Option PRec := l.find? (fun r => decide (r.idx = idx ∧ r.sub = sub))

/-- A record of an entry's current value. -/
def State.curRec (s : State) (idx sub : Nat) (c : Card) : PRec :=
  { idx := idx, sub := sub, ty := c.ty.number, val := leBytes (c.ty.size.getD 0) (s.ent idx sub) }

/-- The record of one entry in a new vintage (04 R127, R130). -/
def State.newRec (s : State) (used : List PRec) (sub : Nat) (restore : Bool) (idx : Nat) (e : Nat × Card) : List PRec :=
  if inSubset sub idx then (if restore then [] else [s.curRec idx e.1 e.2])
  else match recOf used idx e.1 with
    | none => []
    | some r => [r]

/-- The node-ID and nominal rate in a new vintage: what LSS saves, else what the vintage in use holds (log 20). -/
def State.lssRecs (s : State) (used : List PRec) (sub : Nat) (restore lss : Bool) : List PRec :=
  if lss then [⟨0x2010, 1, 5, leBytes 1 s.comm.lss.pendingNode⟩, ⟨0x2010, 2, 6, leBytes 2 s.comm.lss.pendingRate⟩]
  else if restore && inSubset sub 0x2010 then []
  else (recOf used 0x2010 1).toList ++ (recOf used 0x2010 2).toList

/-- The payload of a new vintage (04 R127, R130). -/
def State.newPayload (s : State) (sub : Nat) (restore lss : Bool) : List Byte :=
  let used := s.usedRecs
  (entryIdxs.flatMap (fun idx =>
    (if idx = 0x2010 then s.lssRecs used sub restore lss else [])
    ++ (s.pEntries idx).flatMap (s.newRec used sub restore idx))).flatMap PRec.bytes

/-- Steps 1 and 2 of a store or restore (04 R128, R129): values captured, COMMIT of the target written 0. -/
def State.startStore (sub : Nat) (restore : Bool) (who : StoreFor) (s : State) : State :=
  let target := if s.nvm.inUse = 0 then 1 else 0
  let gen := if s.nvm.inUse = 2 then 1 else s.nvm.gen + 1
  let fails := decide (0xFFFFFFFF < gen)
  let job : StoreJob := { target := target, gen := gen, payload := s.newPayload sub restore (decide (who = .lss)), sub := sub,
                          restore := restore, asker := who, fails := fails }
  let t := if fails then s else s.nvmPut (vintageBase target + 0x1FFF8) (leBytes 8 0)
  t.onNvm (fun n => { n with storeState := 1, job := some job })

/-- A write to 0x1010 or 0x1011 (03 R89, R90): its refusal, or 0 with the store begun; the response then waits for
STORE_COMPLETE. -/
def State.storeWrite (sub : Nat) (restore : Bool) (who : StoreFor) (sig : Nat) (s : State) : Nat × State :=
  if sig ≠ (if restore then 0x64616F6C else 0x65766173) then (0x08000020, s)
  else if s.nvm.job.isSome then (0x0F000020, s)
  else (0, s.startStore sub restore who)

/-- The bytes of a vintage area from its start to its CRC (04 R122). -/
def StoreJob.image (j : StoreJob) : List Byte :=
  leBytes 4 0x54564C4B ++ leBytes 4 j.gen ++ leBytes 4 j.payload.length ++ leBytes 4 0 ++ j.payload
  ++ leBytes 4 (crc32 j.payload)

/-- A store fails: its COMMIT stays invalid (04 R129, 03 R89). -/
def State.storeFails (j : StoreJob) (s : State) : State :=
  (((s.onNvm (fun n => { n with storeState := 2, job := none })).emcyEvent 0xFF90 3 [])).answerTo
    j.asker (if j.restore then 0x1011 else 0x1010) j.sub 0x06060000

/-- A word of MRAM that does not read back: an uncorrectable error on its line. -/
def State.badWord (a : Nat) : State → State :=
  State.onMem (fun m => { m with poison := tabPut false m.poison (a / 64) true })

/-- Step 3 of a store: header, payload and CRC. -/
def State.storeContent (j : StoreJob) (s : State) : State := s.nvmPut (vintageBase j.target) j.image

/-- Step 5: COMMIT. -/
def State.storeCommit (j : StoreJob) (s : State) : State :=
  s.nvmPut (vintageBase j.target + 0x1FFF8) (leBytes 8 (vintageCommit j.gen))

/-- Steps 3 to 6 of a store (04 R129), with the failure of a read-back at step 4 or 6. -/
def State.endStore (r : StoreEnd) (j : StoreJob) (s : State) : State :=
  if j.fails then s.storeFails j
  else match r with
    | .badContent => ((s.storeContent j).badWord (vintageBase j.target + 16 + j.payload.length)).storeFails j
    | .badCommit => (((s.storeContent j).storeCommit j).badWord (vintageBase j.target + 0x1FFF8)).storeFails j
    | .ok =>
      let s := ((s.storeContent j).storeCommit j).onNvm (fun n => { n with storeState := 0, job := none, inUse := j.target, gen := j.gen })
      (s.book 0xE010 3 0 (leBytes 1 j.target ++ leBytes 4 j.gen ++ leBytes 1 j.sub ++ leBytes 1 (b2n j.restore))).answerTo
        j.asker (if j.restore then 0x1011 else 0x1010) j.sub 0

/-- STORE (03 R89, 04 R127 to R129). -/
def execStore (sub : Fin 4) (sig : BitVec 32) (s : State) : Host.Outcome State Fault Refusal :=
  .next (s.written (fun s => let r := s.storeWrite (sub.val + 1) false .local sig.toNat; if r.1 = 0 then r.2 else r.2.answer r.1))

/-- RESTORE_DEFAULTS (03 R90, 04 R130). -/
def execRestoreDefaults (sub : Fin 4) (sig : BitVec 32) (s : State) : Host.Outcome State Fault Refusal :=
  .next (s.written (fun s => let r := s.storeWrite (sub.val + 1) true .local sig.toNat; if r.1 = 0 then r.2 else r.2.answer r.1))

/-- STORE_COMPLETE (04 R129): r says how the read-backs of steps 4 and 6 go. -/
def execStoreComplete (r : StoreEnd) (s : State) : Host.Outcome State Fault Refusal :=
  .next (match s.nvm.job with
    | none => s
    | some j => s.endStore r j)

/-! ### Loading a vintage (04 R125, R126) -/

/-- Takes a record. -/
def State.takeRec (s : State) (r : PRec) : State :=
  if r.lss then
    s.onComm (fun c => if r.sub = 1 then { c with lss := { c.lss with pendingNode := leNum r.val } }
                       else { c with lss := { c.lss with pendingRate := leNum r.val } })
  else s.setEnt r.idx r.sub (leNum r.val)

/-- The class P entries that a test names take their defaults. -/
def State.dropP (p : Nat → Bool) (s : State) : State :=
  { s with od := tabDrop s.od (fun k => p (k / 256) && (match indexRows (k / 256) with
      | none => false
      | some rows => match rowCard rows (k % 256) with
        | none => false
        | some c => decide (c.pers = .p))) }

/-- Loads class P entries of the indices that a test names from the vintage in use. -/
def State.loadP (p : Nat → Bool) (s : State) : State :=
  (s.usedRecs.filter (fun r => p r.idx && s.recOk r)).foldl State.takeRec (s.dropP p)

/-- How many records of a payload are skipped (04 R126). -/
def State.skipped (s : State) (l : List Byte) : Nat :=
  let r := payloadRecs l
  (r.1.filter (fun x => !s.recOk x)).length + b2n r.2

/-- Whether an area holds a vintage of a GENERATION above one, valid or not. -/
def State.newerThan (s : State) (k gen : Nat) : Bool :=
  decide (s.memNum (vintageBase k) 4 = 0x54564C4B) && decide (gen < s.memNum (vintageBase k + 4) 4)

/-- Selection and loading of a vintage at boot, with its records (04 R125, R126). -/
def State.loadVintage (s : State) : State :=
  let pick := match s.vintage 0, s.vintage 1 with
    | some (g, p), some (g', p') => if g' ≤ g then some (0, g, p) else some (1, g', p')
    | some (g, p), none => some (0, g, p)
    | none, some (g, p) => some (1, g, p)
    | none, none => none
  match pick with
  | none =>
    ((s.onNvm (fun n => { n with inUse := 2, gen := 0 })).dropP (fun _ => true)).book 0xE012 3 1 []
  | some (k, g, p) =>
    let s := s.onNvm (fun n => { n with inUse := k, gen := g })
    let o := 1 - k
    let s := if (s.vintage o).isNone && s.newerThan o g then
      s.book 0xE011 3 1 (leBytes 1 o ++ leBytes 4 (s.memNum (vintageBase o + 4) 4)) else s
    let s := s.loadP (fun _ => true)
    if s.skipped p = 0 then s else s.book 0xE013 3 1 (leBytes 4 (s.skipped p))

/-! ### The Cellar Book (04 R144 to R154) -/

/-- The next sequence number (04 R145). -/
def seqNext (q : Nat) : Nat := if 0xFFFFFFFE ≤ q then 0 else q + 1

/-- The bytes of a record with its sequence number (04 R144). -/
def Rec.bytes (r : Rec) (seq : Nat) : List Byte :=
  let b := leBytes 4 seq ++ leBytes 2 r.code ++ leBytes 1 r.source ++ leBytes 1 r.severity ++ leBytes 8 r.time
    ++ leBytes 6 r.beat ++ slice r.payload 0 34
  b ++ leBytes 4 (crc32 b) ++ leBytes 4 (0xFFFFFFFF - seq)

/-- Where a ring slot lies. -/
def bookBase (k : Nat) : Nat := mramBase + 0x270000 + k * 64

/-- Whether 64 bytes are a valid record (04 R145). -/
def recValid (b : List Byte) : Bool :=
  decide (numAt b 60 4 ≠ 0) && decide (numAt b 60 4 + numAt b 0 4 = 0xFFFFFFFF) && decide (numAt b 56 4 = crc32 (b.take 56))

/-- The record of a ring slot, where it is valid. -/
def State.ringAt (s : State) (k : Nat) : Option (List Byte) :=
  let b := s.bytesAt (bookBase k) 64
  if recValid b = true ∧ s.poisoned (bookBase k) 64 = false then some b else none

/-- The sequence number of the first valid record from a slot on (04 R152). -/
def State.recordFrom : Nat → State → Nat → Option Nat
  | 0, _, _ => none
  | n + 1, s, k => match s.ringAt k with
    | some b => some (numAt b 0 4)
    | none => State.recordFrom n s ((k + 1) % 16384)

/-- Writes the oldest staged record into the ring; once the queue has room, the record of the drops is staged
(04 R149, R150). -/
def State.writeRecord (s : State) : State :=
  match s.nvm.staged with
  | [] => s
  | r :: rest =>
    let k := s.nvm.nextSlot
    let full := (s.ringAt k).isSome
    let s := s.nvmPut (bookBase k) (r.bytes s.nvm.nextSeq)
    let oldest := if full then (s.recordFrom 16384 ((k + 1) % 16384)).getD s.nvm.oldestSeq else s.nvm.oldestSeq
    let s := s.onNvm (fun n => { n with
      staged := rest, nextSeq := seqNext n.nextSeq, nextSlot := (k + 1) % 16384, oldestSeq := oldest,
      overwritten := if full then satAdd max32 n.overwritten 1 else n.overwritten })
    if s.nvm.dropped = 0 then s
    else (s.onNvm (fun n => { n with dropped := 0 })).book 0xE00F 3 1 (leBytes 4 s.nvm.dropped)

/-- Writes every staged record in order (04 R150, 15 R495). -/
def State.flushRecords : Nat → State → State
  | 0, s => s
  | n + 1, s => flushRecords n s.writeRecord

/-- Writes out the staging queue, the record of drops included. -/
def State.flushBook (s : State) : State := s.flushRecords 66

/-- BOOK_RECORD_WRITE (04 R149, R150). -/
def execBookRecordWrite (s : State) : Host.Outcome State Fault Refusal := .next s.writeRecord

/-- The valid record of a sequence number in the ring (04 R152). -/
def State.ringRecord (s : State) (seq : Nat) : Option (List Byte) :=
  let m := 0xFFFFFFFF
  let d := (s.nvm.nextSeq + m - seq) % m
  if d = 0 ∨ 16384 < d ∨ m ≤ seq then none
  else
    match s.ringAt ((s.nvm.nextSlot + 16384 - d) % 16384) with
    | some b => if numAt b 0 4 = seq then some b else none
    | none => none

/-- A read of the record of a sequence number: BOOK_READ_SEQUENCE becomes the next one. -/
def State.bookReadAt (q : Nat) (s : State) : Option (List Byte) × State :=
  (s.ringRecord q, if (s.ringRecord q).isSome = true then s.setEnt 0x2400 3 (seqNext q) else s)

/-- A read of BOOK_RECORD: the record, with BOOK_READ_SEQUENCE advanced (04 R152, 03 R93). -/
def State.bookRead (s : State) : Option (List Byte) × State := s.bookReadAt (s.ent 0x2400 3)

/-- BOOK_RECORD_READ (04 R152). -/
def execBookRecordRead (s : State) : Host.Outcome State Fault Refusal :=
  .next (s.served (fun s => match s.bookRead with
    | (some b, t) => t.emit (.data 0 b)
    | (none, t) => t.answer 0x08000020))

/-- The scan of the ring at boot (04 R151): the newest and oldest valid records by sequence. Slots are scanned from slot 0
on; sequence numbers compare modulo 2^32 - 1. -/
def State.scanRing : Nat → State → Option (Nat × Nat) → Option (Nat × Nat) → Option (Nat × Nat) × Option (Nat × Nat)
  | 0, _, newest, oldest => (newest, oldest)
  | n + 1, s, newest, oldest =>
    match s.ringAt n with
    | some b =>
      let q := numAt b 0 4
      let newer (a b : Nat) : Bool := decide ((a + 0xFFFFFFFF - b) % 0xFFFFFFFF < 0x7FFFFFFF)
      scanRing n s
        (match newest with
          | none => some (q, n)
          | some (q', k) => if newer q q' then some (q, n) else some (q', k))
        (match oldest with
          | none => some (q, n)
          | some (q', k) => if newer q' q then some (q, n) else some (q', k))
    | none => scanRing n s newest oldest

/-- Continues numbering from the newest record found at boot (04 R151); BOOK_OVERWRITTEN_COUNT starts at 0 (R152). -/
def State.bootBook (s : State) : State :=
  match s.scanRing 16384 none none with
  | (some (q, k), some (o, _)) =>
    s.onNvm (fun n => { n with nextSeq := seqNext q, nextSlot := (k + 1) % 16384, oldestSeq := o, overwritten := 0 })
  | _ => s.onNvm (fun n => { n with nextSeq := 0, nextSlot := 0, oldestSeq := 0, overwritten := 0 })

/-- GO of BOOK_APPEND_CONTROL of a cantor (04 R154). -/
def State.bookAppend (c : Nat) (s : State) : State :=
  let w := (tabGet 0 s.nvm.appendControl c).toNat
  let code := bits w 0 16
  if 0xE800 ≤ code ∧ code ≤ 0xEFFF then
    s.book code (0x40 + c) (bits w 16 2)
      (((List.range 9).flatMap (fun k => leBytes 4 (tabGet 0 s.nvm.appendPayload (c * 16 + k)).toNat)).take 34)
  else s.onNvm (fun n => { n with appendRefused := tabPut false n.appendRefused c true })

/-- BOOK_APPEND_GO (04 R154). -/
def execBookAppendGo (c : Fin 8) (s : State) : Host.Outcome State Fault Refusal := .next (s.bookAppend c.val)

/-! ### A device reset (04 R129, R143, 03 R81) -/

/-- Abandons a store and an install without their commit words (04 R129, R143, 15 R495). -/
def State.abandonNvm (s : State) : State :=
  s.onNvm (fun n => { n with
    job := none, storeState := 0, installing := none, committing := false, received := 0, installStatus := 0,
    pendingSwitch := none, switchHeld := false, loadPending := false })

end Sys2Proof.Machine
end

