-- ==== Sys2Proof/Machine/Queues.lean ====
section
/-! DEFINITION. The Queue unit: storage, packets, credits, reading, watermarks, states (09_queues.md). -/

namespace Sys2Proof.Machine

/-! ### Configuration -/

/-- Whether a number is a power of two within a range. -/
def isPow2 (lo hi n : Nat) : Bool := decide (lo ≤ n) && decide (n ≤ hi) && decide (2 ^ n.log2 = n)

/-- Configuration entries of a queue (09 R319). -/
def State.qEnt (s : State) (q sub : Nat) : Nat := s.ent (queueIdx q) sub

/-- Level capacity in items (09 R295). -/
def levelCapOf (spill : Bool) (cap levels : Nat) : Nat :=
  if spill then 32 + cap / levels else cap / levels

/-- Whether STORAGE, LEVELS, CAPACITY, BASE and DEFAULT_LEVEL form a valid configuration (09 R295 to R297, R319). -/
def State.qConfigOk (s : State) (q : Nat) : Bool :=
  let levels := s.qEnt q 4
  let cap := s.qEnt q 5
  let base := s.qEnt q 6
  decide (s.qEnt q 7 < levels) &&
  (if s.qEnt q 3 = 0 then
    decide (levels = 1 ∨ levels = 2 ∨ levels = 4 ∨ levels = 8) && isPow2 64 32768 cap
      && decide (64 ≤ cap / levels) && decide (base + cap / 64 ≤ 991)
  else
    decide (levels = 1 ∨ levels = 2) && isPow2 256 16777216 cap
      && decide (base % 4 = 0) && decide (base + cap / 64 ≤ 16777216))

/-- The regions of two queues of one storage kind overlap (09 R298); both lengths are CAPACITY / 64 KiB. -/
def State.qOverlap (s : State) (q r : Nat) : Bool :=
  decide (s.qEnt q 6 < s.qEnt r 6 + s.qEnt r 5 / 64) && decide (s.qEnt r 6 < s.qEnt q 6 + s.qEnt q 5 / 64)

/-- Whether an enable meets another queue that is not DISABLED (09 R298). -/
def State.qBlocked (s : State) (q : Nat) : Bool :=
  (List.range 32).any (fun r => decide (r ≠ q) && decide ((s.q r).st ≠ .disabled)
    && decide ((s.q r).spill = decide (s.qEnt q 3 = 1)) && s.qOverlap q r)

/-! ### Levels -/

/-- A level of a queue. -/
def Queue.level (x : Queue) (l : Nat) : QLevel := tabGet {} x.levels l

/-- Changes a level. -/
def Queue.onLevel (x : Queue) (l : Nat) (f : QLevel → QLevel) : Queue := { x with levels := tabMod {} x.levels l f }

/-- Committed items stored at a level. -/
def QLevel.stored (v : QLevel) : Nat := sumN (v.pkts.map (fun p => p.items.length))

/-- Credits an open firmware packet reserves at a level. -/
def Queue.reserved (x : Queue) (l : Nat) : Nat :=
  match x.opened with
  | some (_, lv, len, _) => if lv = l then len else 0
  | none => 0

/-- FILL: committed items of all levels (09 R311). -/
def Queue.fill (x : Queue) : Nat := sumN ((List.range 8).map (fun l => (x.level l).stored))

/-- Whether a level holds a committed item. -/
def Queue.holds (x : Queue) (l : Nat) : Bool := decide ((x.level l).pkts ≠ [])

/-- The highest level below n that holds a committed item. -/
def Queue.highest (x : Queue) : Nat → Option Nat
  | 0 => none
  | n + 1 => if x.holds n then some n else x.highest n

/-! ### Watermarks, flow control, interrupts (09 R311 to R313) -/

/-- FC0 to FC3 from the queues (09 R312). -/
def State.fcNow (s : State) : BitVec 4 :=
  (List.range 32).foldl (fun a q => if (s.q q).st ≠ .disabled ∧ (s.q q).above = true
    then a ||| BitVec.ofNat 4 (s.qEnt q 13) else a) 0

/-- Drives FC0 to FC3. -/
def State.refreshFc (s : State) : State := s.onQueues (fun x => { x with fc := s.fcNow })

/-- Makes an interrupt of a queue pending (0 NOT_EMPTY, 1 HIGH, 2 LOW, 3 UNDERRUN) and raises the queue interrupt of the
cantor in QUEUE_IRQ_TARGET where it is enabled (09 R313). -/
def State.qIrq (q b : Nat) (s : State) : State :=
  let t := s.onQ q (fun x => { x with irqPending := x.irqPending ||| BitVec.ofNat 4 (2 ^ b) })
  if (s.q q).irqEnable.getLsbD b && !(s.q q).irqPending.getLsbD b
  then t.emit (.interrupt 0x18 ((tabGet 0#32 s.regs (0x18 * 65536 + 0x14)).toNat % 8)) else t

/-- ABOVE and the interrupts after FILL went from `old` to its present value (09 R311). -/
def State.watermarks (q old : Nat) (s : State) : State :=
  let x := s.q q
  let f := x.fill
  let s := if old = 0 ∧ 0 < f then s.qIrq q 0 else s
  let s :=
    if x.above = false ∧ s.qEnt q 8 ≤ f then (s.onQ q (fun y => { y with above := true })).qIrq q 1
    else if x.above = true ∧ f ≤ s.qEnt q 9 then (s.onQ q (fun y => { y with above := false })).qIrq q 2
    else s
  s.refreshFc

/-! ### SPILL storage (09 R297, R310) -/

/-- Items of a level's tail. -/
def QLevel.tailN (v : QLevel) : Nat := v.stored - v.headN - v.midN

/-- Replaces the item at a position of a level, counted from its front. -/
def putItem : List QPkt → Nat → BitVec 128 → List QPkt
  | [], _, _ => []
  | p :: t, n, it =>
    if n < p.items.length then { p with items := setAt p.items n it } :: t else p :: putItem t (n - p.items.length) it

/-- The items of a level, from its front. -/
def QLevel.items (v : QLevel) : List (BitVec 128) := v.pkts.flatMap (fun p => p.items)

/-- The capacity of a level's middle ring. -/
def Queue.midCap (x : Queue) : Nat := x.levelCap - 32

/-- Where place i of the middle ring of level l lies in package DRAM: the rings of a queue's levels follow one another from
BASE on (DESIGN CHOICE, log 72). -/
def State.midAddr (s : State) (q l i : Nat) : Nat :=
  2 ^ 34 + 1024 * s.qEnt q 6 + 16 * (l * (s.q q).midCap + i % (s.q q).midCap)

/-- SPILL: with an empty middle the tail moves to the head directly, up to 16 items (09 R297). -/
def QLevel.settle (v : QLevel) : QLevel := if v.midN = 0 then { v with headN := min 16 v.stored } else v

/-- A burst of 4 items from the tail to the middle. -/
def State.spillOut (q l : Nat) (s : State) : State :=
  let v := (s.q q).level l
  let burst := (v.items.drop (v.headN + v.midN)).take 4
  ((List.range 4).foldl (fun u i => u.putBytes (s.midAddr q l (v.midW + i)) (leBytes 16 (burst.getD i 0).toNat)) s).onQ q (fun x =>
    x.onLevel l (fun w => { w with midN := w.midN + 4, midW := (w.midW + 4) % x.midCap }))

/-- Item i of a burst comes back from the middle: as package DRAM holds it, or, with an uncorrectable error, a free value as
read, marked for its MEM_ERROR, counted and recorded (09 R310). -/
def State.spillItem (q l : Nat) (bad : BitVec 4) (i : Nat) (s : State) : State :=
  let x := s.q q
  let v := x.level l
  let a := s.midAddr q l (v.midW + x.midCap - v.midN + i)
  let put := fun (it : BitVec 128) (t : State) => t.onQ q (fun y => y.onLevel l (fun w => { w with pkts := putItem w.pkts (v.headN + i) it }))
  if bad.getLsbD i || s.poisoned a 16 then
    ((((put (BitVec.ofNat 128 s.drawn) s).draw).onQ q (fun y => y.onLevel l (fun w => { w with badN := w.badN ++ [v.headN + i] }))).count
      (queueIdx q) 0x17 1).book 0xE403 0x18 1 (leBytes 1 q ++ leBytes 1 l)
  else put (BitVec.ofNat 128 (s.memNum a 16)) s

/-- A burst of 4 items from the middle to the head; `bad` marks those of an uncorrectable error. -/
def State.spillIn (q l : Nat) (bad : BitVec 4) (s : State) : State :=
  ((List.range 4).foldl (fun u i => u.spillItem q l bad i) s).onQ q (fun x =>
    x.onLevel l (fun w => { w with headN := w.headN + 4, midN := w.midN - 4 }))

/-- Whether a burst of the middle goes to the head now. -/
def QLevel.inDue (v : QLevel) : Bool := decide (4 ≤ v.midN) && decide (v.headN + 4 ≤ 16)
/-- Whether a burst of the tail goes to the middle now. -/
def Queue.outDue (x : Queue) (l : Nat) : Bool := decide (4 ≤ (x.level l).tailN) && decide ((x.level l).midN + 4 ≤ x.midCap)

/-- One SPILL move of a level: directly while the middle is empty and the head has room; else bursts of 4 from the
middle to a head with 4 free places and from the tail to the middle. -/
def State.spillMove (q l : Nat) (bad : BitVec 4) (s : State) : State :=
  let v := (s.q q).level l
  if v.midN = 0 ∧ v.headN < 16 then s.onQ q (fun x => x.onLevel l QLevel.settle)
  else
    let u := if v.inDue then s.spillIn q l bad else s
    if (u.q q).outDue l then u.spillOut q l else u

/-- Moves that make room while the tail holds more than its 16 items; a commit needs at most one a burst. -/
def State.spillRoom (q l : Nat) : Nat → State → State
  | 0, s => s
  | n + 1, s => if ((s.q q).level l).tailN ≤ 16 then s else (s.spillMove q l 0).spillRoom q l n

/-! ### Commit -/

/-- Appends a committed packet at a level (09 R299); PUSHED_ITEM_COUNT counts its items. -/
def State.qCommit (q l : Nat) (items : List (BitVec 128)) (s : State) : State :=
  let old := (s.q q).fill
  let u := s.onQ q (fun x =>
    let y := x.onLevel l (fun v => { v with pkts := v.pkts ++ [⟨items.length, 0, items⟩] })
    if x.spill then y
    else y.onLevel l (fun v => { v with wr := (v.wr + items.length) % (2 * x.levelCap) }))
  let u := if (u.q q).spill then u.spillRoom q l 64 else u
  (u.count (queueIdx q) 0x11 items.length).watermarks q old

/-- A hardware producer's packet (09 R302, R316): committed with credit, discarded on a DISABLED queue; none where the
producer waits. -/
def State.hwPush (q : Nat) (items : List (BitVec 128)) (s : State) : Option State :=
  match (s.q q).st with
  | .disabled => some (s.count (queueIdx q) 0x15 items.length)
  | .disablePending => none
  | _ =>
    let l := s.qEnt q 7
    if items.length ≤ ((s.q q).level l).credits then
      some ((s.onQ q (fun x => x.onLevel l (fun v => { v with credits := v.credits - items.length }))).qCommit q l items)
    else none

/-! ### Flush and disable (09 R314, R315) -/

/-- Empties a level: its credits return; a RING level's read pointer meets its write pointer. -/
def QLevel.flushed (v : QLevel) : QLevel :=
  { v with pkts := [], credits := v.credits + v.stored, headN := 0, midN := 0, badN := [], rd := v.wr }

/-- Empties every level. -/
def Queue.flushed (x : Queue) : Queue :=
  { (List.range 8).foldl (fun y l => y.onLevel l QLevel.flushed) x with run := 0, stream := none, chosen := none }

/-- The flush effect (09 R315). -/
def State.qFlushEffect (q : Nat) (s : State) : State :=
  let old := (s.q q).fill
  ((s.onQ q Queue.flushed).count (queueIdx q) 0x13 old).watermarks q old

/-- The slice bytes a video packet carries: its header's count, for a SLICE packet (16 R521). -/
def packetBytes (p : List (BitVec 128)) : Nat :=
  let h := leBytes 16 (p.headD 0).toNat
  if numAt h 0 1 = 2 then numAt h 12 2 else 0

/-- Items waiting at the hardware producers for a queue that becomes DISABLED, by producer (09 R314). -/
def State.discardWaiting (q : Nat) (s : State) : State :=
  let verdicts := if s.ent 0x5200 3 = q then 4 * s.press.verdictQ.length else 0
  let waits : Nat × Task → Bool := fun e =>
    e.2.desc.post && (decide (e.2.st = .done) || decide (e.2.st = .cancelled))
  let tasks := if s.ent 0x5000 8 = q then (s.press.tasks.filter waits).length else 0
  let pk := fun v => if s.ent (streamIdx v) 5 = q then sumN ((s.stream v).packets.map List.length) else 0
  let mv := ((List.range 16).filter (fun m => match (s.mover m).item with | some (r, _) => decide (r = q) | none => false))
  let s := s.count (queueIdx q) 0x15 (verdicts + tasks + pk 0 + pk 1 + mv.length)
  let s := if s.ent 0x5200 3 = q then s.onPress (fun p => { p with verdictQ := [] }) else s
  let s := if s.ent 0x5000 8 = q then s.onPress (fun p => { p with tasks := p.tasks.filter (fun e => !waits e) }) else s
  let s := [0, 1].foldl (fun t v => if t.ent (streamIdx v) 5 = q then t.onStream v (fun x => { x with
    packets := [], buffered := x.buffered - sumN (x.packets.map packetBytes) }) else t) s
  mv.foldl (fun t m =>
    let u := t.onMover m (fun x => { x with item := none, irqPending := x.irqPending || x.itemIrq, itemIrq := false })
    if (t.mover m).itemIrq then u.emit (.interrupt 0x14 ((tabGet 0#32 t.regs (0x14 * 65536 + 0x14)).toNat % 8)) else u) s

/-- The queue becomes DISABLED: flush effect, then the open firmware packet and waiting hardware packets are discarded
(09 R314). -/
def State.qDisableEffect (q : Nat) (s : State) : State :=
  let s := s.qFlushEffect q
  let n := match (s.q q).opened with | some _ => (s.q q).assembly.length | none => 0
  let s := s.count (queueIdx q) 0x15 n
  let s := s.discardWaiting q
  (s.onQ q (fun x => { x with st := .disabled, opened := none, assembly := [], above := false,
                              levels := [] })).refreshFc

/-- What a packet boundary of the read stream brings to a pending state (09 R314). -/
def State.qBoundary (q : Nat) (s : State) : State :=
  match (s.q q).st with
  | .flushPending => (s.qFlushEffect q).onQ q (fun x => { x with st := .enabled })
  | .disablePending => s.qDisableEffect q
  | _ => s

/-- Enables a DISABLED queue with a valid configuration (09 R314, first row but one). -/
def State.qEnable (q : Nat) (s : State) : State :=
  let spill := decide (s.qEnt q 3 = 1)
  let n := s.qEnt q 4
  let cap := levelCapOf spill (s.qEnt q 5) n
  s.onQ q (fun x => { x with
    st := .enabled, spill := spill, levelCount := n, levelCap := cap,
    levels := (List.range n).foldl (fun t l => tabPut {} t l { credits := cap }) [],
    opened := none, assembly := [], stream := none, chosen := none, run := 0, rotor := none, lastItem := 0,
    underrun := false, emptyMode := s.qEnt q 10, antiStarve := decide (s.qEnt q 12 = 1), above := false })

/-! ### Reading (09 R305 to R310) -/

/-- Levels below h in the order of the rotating pointer (09 R307). -/
def rotorOrder (h : Nat) (rotor : Option Nat) : List Nat :=
  let start := match rotor with
    | some r => if r < h then r else h - 1
    | none => h - 1
  (List.range h).map (fun i => (start + h - i) % h)

/-- The level served at a packet boundary and the queue with its run count and rotor updated (09 R307); no run is counted
with ANTI_STARVE 0. -/
def Queue.select (x : Queue) : Option Nat × Queue :=
  if x.antiStarve = false then (x.highest 8, { x with run := 0 })
  else match x.highest 8 with
  | none => (none, { x with run := 0 })
  | some h =>
    match x.highest h with
    | none => (some h, { x with run := 0 })
    | some _ =>
      if 64 ≤ x.run then
        match (rotorOrder h x.rotor).find? (fun l => x.holds l) with
        | some l => (some l, { x with run := 0, rotor := some (if l = 0 then h - 1 else l - 1) })
        | none => (some h, x)
      else (some h, x)

/-- POP_STATUS (09 R318). -/
def popStatusWord (valid idle hit bad : Bool) (len idx lev : Nat) : Word :=
  BitVec.ofNat 32 (b2n valid * 2 ^ 31 + b2n idle * 2 ^ 30 + b2n hit * 2 ^ 29 + b2n bad * 2 ^ 28
    + len * 2 ^ 16 + idx * 2 ^ 8 + lev)

/-- The latch key of cantor c at queue q. -/
def latchKey (c q : Nat) : Nat := q * 8 + c

/-- Fills the cantor's latch and returns word 0 in the read (09 R305). -/
def State.latch (c q : Nat) (item : BitVec 128) (st : Word) (s : State) : State :=
  (s.onQueues (fun x => { x with popData := tabPut 0 x.popData (latchKey c q) item,
                                 popStatus := tabPut 0 x.popStatus (latchKey c q) st })).emit
    (.read c (item.toNat % 2 ^ 32))

/-- An empty pop (09 R308). -/
def State.popEmpty (c q : Nat) (s : State) : State :=
  if (if (s.q q).st = .disabled then s.qEnt q 10 else (s.q q).emptyMode) = 0 then
    s.latch c q (BitVec.ofNat 128 (s.qEnt q 11)) (popStatusWord false true false false 0 0 0)
  else
    (((s.onQ q (fun x => { x with underrun := true })).count (queueIdx q) 0x14 1).qIrq q 3).latch c q (s.q q).lastItem
      (popStatusWord false false true false 0 0 0)

/-- Takes the next item of level l: the first of its oldest packet (09 R306). -/
def State.popItem (c q l : Nat) (s : State) : State :=
  match ((s.q q).level l).pkts with
  | [] => s
  | p :: rest =>
    match p.items with
    | [] => s
    | it :: more =>
      let old := (s.q q).fill
      let v := (s.q q).level l
      let bad := (s.q q).spill && v.badN.contains 0
      let last := more.isEmpty
      let s := s.onQ q (fun x =>
        let lower := (x.highest l).isSome
        let y := x.onLevel l (fun v => { v with
          pkts := if last then rest else { p with index := p.index + 1, items := more } :: rest,
          returning := v.returning + 1, headN := v.headN - 1,
          badN := (v.badN.filter (fun i => decide (i ≠ 0))).map (fun i => i - 1),
          rd := if x.spill then v.rd else (v.rd + 1) % (2 * x.levelCap) })
        { y with stream := if last then none else some l, chosen := none, streamAt := s.now, lastItem := it,
                 run := if lower && x.antiStarve then x.run + 1 else x.run })
      let s := (s.count (queueIdx q) 0x12 1).latch c q it (popStatusWord true false false bad p.length p.index l)
      let s := s.watermarks q old
      if last then s.qBoundary q else s

/-- The level a pop reads: the packet in progress, the level already selected for a pop that waits for a refill (09 R309), or
the one R307 selects at a boundary, where EMPTY_MODE and ANTI_STARVE are taken (09 R306, R307, R317). -/
def State.popLevel (q : Nat) (s : State) : Option Nat × State :=
  match (s.q q).stream, (s.q q).chosen with
  | some l, _ => (some l, s)
  | none, some l => (some l, s)
  | none, none =>
    let x := { s.q q with emptyMode := s.qEnt q 10, antiStarve := decide (s.qEnt q 12 = 1) }
    let r := x.select
    (r.1, s.onQ q (fun _ => r.2))

/-- Serves a pop of cantor c: an item, the empty behaviour, or a wait for a SPILL refill (09 R305 to R309). -/
def State.popNow (c q : Nat) (s : State) : State :=
  if (s.q q).st = .disabled then s.popEmpty c q
  else
    let r := s.popLevel q
    match r.1 with
    | none => r.2.popEmpty c q
    | some l =>
      let t := if (r.2.q q).spill then r.2.onQ q (fun x => x.onLevel l QLevel.settle) else r.2
      if (t.q q).spill ∧ ((t.q q).level l).headN = 0 then
        t.onQ q (fun x => { x with waiting := x.waiting ++ [c], chosen := some l })
      else t.popItem c q l

/-! ### The beat-boundary credit check (09 R304) -/

/-- Checks one level after every return has landed. -/
def State.creditCheckLevel (q l : Nat) (s : State) : State :=
  let s := s.onQ q (fun x => x.onLevel l (fun v => { v with credits := v.credits + v.returning, returning := 0 }))
  let x := s.q q
  let v := x.level l
  if v.credits + x.reserved l + v.stored = x.levelCap then s
  else
    let good := x.levelCap - x.reserved l - v.stored
    (((s.onQ q (fun y => { y.onLevel l (fun w => { w with credits := good }) with creditFault := true })).count
      (queueIdx q) 0x16 1).book 0xE400 0x18 2 (leBytes 1 q ++ leBytes 1 l ++ leBytes 4 v.credits ++ leBytes 4 good))

/-- Checks every level of every queue that is not DISABLED. -/
def State.creditCheck (s : State) : State :=
  (List.range 32).foldl (fun t q =>
    if (t.q q).st = .disabled then t
    else (List.range (t.q q).levelCount).foldl (fun u l => u.creditCheckLevel q l) t) s

/-! ### Registers of page 0x18 (09 R318) -/

/-- Whether the queue is empty for the read stream. -/
def Queue.isEmpty (x : Queue) : Bool := (x.highest 8).isNone

/-- Q_STATUS. -/
def Queue.status (x : Queue) : Nat :=
  b2n x.creditFault * 2 ^ 10 + b2n x.stream.isSome * 2 ^ 9
    + (match x.opened with | some (c, _) => c * 2 ^ 6 + 2 ^ 5 | none => 0)
    + b2n x.underrun * 2 ^ 4 + b2n x.isEmpty * 2 ^ 3 + b2n x.above * 2 ^ 2

/-- Q_STATE's number. -/
def QSt.code : QSt → Nat
  | .disabled => 0
  | .enabled => 1
  | .flushPending => 2
  | .disablePending => 3

/-- A device reset and STANDBY clear every queue, latch and assembly buffer (09 R321). -/
def State.queuesReset (s : State) : State := s.onQueues (fun _ => {})

/-! ### Meanings -/

/-- The cause for which a GO with FIRST 1 is refused, 0 for none (09 R300; the order of the tests, log 12). -/
def State.firstCause (s : State) (c q len lev : Nat) : Nat :=
  let x := s.q q
  if x.st ≠ .enabled ∧ x.st ≠ .flushPending then 3
  else if len = 0 ∨ 64 < len ∨ x.levelCount ≤ lev then 4
  else match x.opened with
    | some (c', _) => if c' = c then 4 else 2
    | none => if (x.level lev).credits < len then 1 else 0

/-- Sets the outcome of a GO in the cantor's PUSH_CONTROL: REFUSED with its cause, or not. -/
def State.pushOutcome (c q cause : Nat) (s : State) : State :=
  s.onQueues (fun x => { x with pushRefused := tabPut 0 x.pushRefused (latchKey c q) cause })

/-- Appends the cantor's staged item to its open packet, which commits at its last item (09 R299, R300). -/
def State.pushItem (c q : Nat) (s : State) : State :=
  match (s.q q).opened with
  | none => s
  | some (_, lev, len, _) =>
    let items := (s.q q).assembly ++ [tabGet 0 s.queue.pushData (latchKey c q)]
    if items.length = len then
      (s.onQ q (fun x => { x with opened := none, assembly := [] })).qCommit q lev items
    else s.onQ q (fun x => { x with assembly := items })

/-- LENGTH and LEVEL staged in the cantor's PUSH_CONTROL. -/
def State.pushLen (s : State) (c q : Nat) : Nat := bits (tabGet 0 s.queue.pushControl (latchKey c q)) 8 7
/-- LEVEL. -/
def State.pushLev (s : State) (c q : Nat) : Nat := bits (tabGet 0 s.queue.pushControl (latchKey c q)) 0 3

/-- GO with FIRST 1 (09 R300). -/
def State.pushFirst (c q : Nat) (s : State) : State :=
  let len := s.pushLen c q
  let lev := s.pushLev c q
  let cause := s.firstCause c q len lev
  if cause ≠ 0 then s.pushOutcome c q cause
  else
    ((s.onQ q (fun x => { x.onLevel lev (fun v => { v with credits := v.credits - len }) with
        opened := some (c, lev, len, s.now), assembly := [] })).pushItem c q).pushOutcome c q 0

/-- GO with FIRST 0 (09 R300). -/
def State.pushNext (c q : Nat) (s : State) : State :=
  let x := s.q q
  if x.st ≠ .enabled ∧ x.st ≠ .flushPending then s.pushOutcome c q 3
  else match x.opened with
    | some (c', _) => if c' = c then (s.pushItem c q).pushOutcome c q 0 else s.pushOutcome c q 2
    | none => s.pushOutcome c q 2

/-- PUSH_FIRST (09 R300). -/
def execPushFirst (c : Fin 8) (q : Fin 32) (s : State) : Host.Outcome State Fault Refusal := .next (s.pushFirst c q)

/-- PUSH_APPEND (09 R300). -/
def execPushAppend (c : Fin 8) (q : Fin 32) (s : State) : Host.Outcome State Fault Refusal := .next (s.pushNext c q)

/-- A read of POP_DATA0 (09 R305); a pop behind one that waits for a refill waits too. -/
def State.pop (c q : Nat) (s : State) : State :=
  if (s.q q).waiting = [] then s.popNow c q else s.onQ q (fun x => { x with waiting := x.waiting ++ [c] })

/-- POP (09 R305). -/
def execPop (c : Fin 8) (q : Fin 32) (s : State) : Host.Outcome State Fault Refusal := .next (s.pop c q)

/-- SPILL_POP_COMPLETE (09 R309): the pop that waits longest completes once the head holds an item. -/
def execSpillPopComplete (c : Fin 8) (q : Fin 32) (s : State) : Host.Outcome State Fault Refusal :=
  .next (match (s.q q).waiting with
    | [] => s
    | w :: rest =>
      if w = c.val then
        let t := s.onQ q (fun x => { x with waiting := rest })
        let r := t.popLevel q
        match r.1 with
        | none => r.2.popEmpty c q
        | some l =>
          let v := r.2.onQ q (fun x => x.onLevel l QLevel.settle)
          if ((v.q q).level l).headN = 0 then s else v.popItem c q l
      else s)

/-- SPILL_MOVE (09 R297, R310): `bad` marks the items of a burst read back with an uncorrectable error. -/
def execSpillMove (q : Fin 32) (l : Fin 2) (bad : BitVec 4) (s : State) : Host.Outcome State Fault Refusal :=
  .next (if (s.q q).st ≠ .disabled ∧ (s.q q).spill = true then s.spillMove q l bad else s)

/-- QUEUE_CREDIT_RETURN (09 R303). -/
def execQueueCreditReturn (q : Fin 32) (l : Fin 8) (s : State) : Host.Outcome State Fault Refusal :=
  .next (if 0 < ((s.q q).level l).returning then
    s.onQ q (fun x => x.onLevel l (fun v => { v with credits := v.credits + 1, returning := v.returning - 1 })) else s)

/-- PACKET_ABANDON (09 R301): 1000 µs after its opening. -/
def execPacketAbandon (q : Fin 32) (s : State) : Host.Outcome State Fault Refusal :=
  .next (match (s.q q).opened with
    | none => s
    | some (c, lev, len, since) =>
      let n := (s.q q).assembly.length
      let s := s.upTo (since + 1000)
      ((s.onQ q (fun x => { x.onLevel lev (fun v => { v with credits := v.credits + len }) with
          opened := none, assembly := [] })).count (queueIdx q) 0x15 n).book 0xE402 0x18 1
        (leBytes 1 q ++ leBytes 1 c ++ leBytes 1 n))

/-- The outcome of writing ENABLE 1: a status code and the state (09 R314, R317). -/
def State.writeEnable1 (q : Nat) (s : State) : Nat × State :=
  if (s.q q).st ≠ .disabled then (0, s.setEnt (queueIdx q) 2 1)
  else if s.qConfigOk q = false then (0x06090030, s)
  else if s.qBlocked q then (0x08000020, s)
  else (0, (s.qEnable q).setEnt (queueIdx q) 2 1)

/-- Writing ENABLE 0 (09 R314). -/
def State.writeEnable0 (q : Nat) (s : State) : State :=
  let s := s.setEnt (queueIdx q) 2 0
  match (s.q q).st with
  | .disabled => s
  | .disablePending => s
  | _ => if (s.q q).stream = none then s.qDisableEffect q
         else s.onQ q (fun x => { x with st := .disablePending })

/-- A flush command (09 R314): at once at a packet boundary. -/
def State.qFlush (q : Nat) (s : State) : State :=
  match (s.q q).st with
  | .enabled => if (s.q q).stream = none then s.qFlushEffect q
                else s.onQ q (fun x => { x with st := .flushPending })
  | _ => s

/-- COMMAND of a queue: 1 flushes, 2 clears UNDERRUN (09 R319). -/
def State.queueCommand (q v : Nat) (s : State) : Nat × State :=
  if v = 1 then (0, s.qFlush q)
  else if v = 2 then (0, s.onQ q (fun x => { x with underrun := false }))
  else (0x06090030, s)

/-- QUEUE_ENABLE (09 R314, R317). -/
def execQueueEnable (q : Fin 32) (s : State) : Host.Outcome State Fault Refusal :=
  .next (s.guarded (queueIdx q) 2 1 (State.writeEnable1 q))

/-- QUEUE_DISABLE (09 R314). -/
def execQueueDisable (q : Fin 32) (s : State) : Host.Outcome State Fault Refusal :=
  .next (s.guarded (queueIdx q) 2 0 (fun u => (0, u.writeEnable0 q)))

/-- QUEUE_FLUSH (09 R314, R319). -/
def execQueueFlush (q : Fin 32) (s : State) : Host.Outcome State Fault Refusal :=
  .next (s.guarded (queueIdx q) 0x10 1 (State.queueCommand q 1))

/-- QUEUE_CLEAR_UNDERRUN (09 R319). -/
def execQueueClearUnderrun (q : Fin 32) (s : State) : Host.Outcome State Fault Refusal :=
  .next (s.guarded (queueIdx q) 0x10 2 (State.queueCommand q 2))

/-- Discards the rest of the packet in progress, counted in FLUSHED_ITEM_COUNT (09 R314, last row). -/
def State.dropRest (q : Nat) (s : State) : State :=
  match (s.q q).stream with
  | none => s
  | some l =>
    match ((s.q q).level l).pkts with
    | [] => s.onQ q (fun x => { x with stream := none })
    | p :: rest =>
      let n := p.items.length
      let old := (s.q q).fill
      let cap := (s.q q).levelCap
      let f := fun (v : QLevel) => { v with
        pkts := rest, credits := v.credits + n, headN := v.headN - n, midN := v.midN - (n - v.headN),
        badN := (v.badN.filter (fun i => decide (n ≤ i))).map (fun i => i - n), rd := (v.rd + n) % (2 * cap) }
      ((s.onQ q (fun x => { x.onLevel l f with stream := none })).count (queueIdx q) 0x13 n).watermarks q old

/-- QUEUE_PENDING_TIMEOUT (09 R314): the read stream has not advanced for 1000 µs in a pending state. -/
def execQueuePendingTimeout (q : Fin 32) (s : State) : Host.Outcome State Fault Refusal :=
  .next (match (s.q q).st with
    | .flushPending => ((s.upTo ((s.q q).streamAt + 1000)).dropRest q).qBoundary q
    | .disablePending => ((s.upTo ((s.q q).streamAt + 1000)).dropRest q).qBoundary q
    | _ => s)

end Sys2Proof.Machine
end

