-- ==== Sys2Proof/Machine/VideoMath.lean ====
section
/-! DEFINITION. The audit video encoder's arithmetic: frame conversion (16 R507), the motion search of a block (R513, R514) and the
layout of the byte stream (R509). What the rules leave to the encoder is a constant of Config (log 21). -/

namespace Sys2Proof.Machine

/-! ### Lines of a frame -/

/-- The bytes of a line. -/
def lineBytes (l : List (BitVec 32)) : List Byte := l.flatMap (fun w => leBytes 4 w.toNat)

/-- Sample x of a line, 8 bits, for plane p: RAW8, RAW10 and RAW12 by their upper 8 bits, YUV422 with planes Y, U, V
(packing as MIPI CSI-2 lays it out, PRESUMED, log 25). -/
def lineSample (dt p : Nat) (l : List Byte) (x : Nat) : Nat :=
  if dt = 0x2B then numAt l (5 * (x / 4) + x % 4) 1
  else if dt = 0x2C then numAt l (3 * (x / 2) + x % 2) 1
  else if dt = 0x1E then
    (if p = 0 then numAt l (2 * x + 1) 1 else numAt l (4 * x + (if p = 1 then 0 else 2)) 1)
  else numAt l x 1

/-! ### Conversion to 8-bit YUV 4:2:0 (16 R507) -/

/-- A frame as the encoder reads it: its data type, size, SCALE, BAYER_ORDER, the padded size and its lines. -/
structure Picture where
  dt : Nat
  w : Nat
  h : Nat
  scale : Nat
  bayer : Nat
  lines : List (List Byte)
deriving DecidableEq, Repr

/-- The mean of samples, rounding half upward. -/
def meanHalfUp (l : List Nat) : Nat := (2 * sumN l + l.length) / (2 * l.length)

/-- The colour of a pixel of a Bayer pattern: 0 red, 1 green, 2 blue. -/
def bayerColour (order x y : Nat) : Nat :=
  ([[0, 1, 1, 2], [1, 0, 2, 1], [1, 2, 0, 1], [2, 1, 1, 0]].getD (order - 1) []).getD (x % 2 + 2 * (y % 2)) 0

/-- The sample of a plane as the head sent it. -/
def Picture.sample (f : Picture) (p x y : Nat) : Nat := lineSample f.dt p (f.lines.getD y []) x

/-- A colour of a pixel by bilinear demosaic: its own sample, or the mean of the nearest ones of that colour. -/
def Picture.demosaic (f : Picture) (c x y : Nat) : Nat :=
  if bayerColour f.bayer x y = c then f.sample 0 x y
  else
    meanHalfUp ((List.range 9).filterMap (fun k =>
      let u := x + k % 3
      let v := y + k / 3
      if 1 ≤ u ∧ u ≤ f.w ∧ 1 ≤ v ∧ v ≤ f.h ∧ bayerColour f.bayer (u - 1) (v - 1) = c then some (f.sample 0 (u - 1) (v - 1)) else none))

/-- 10000 times the BT.709 luma of a pixel. -/
def Picture.luma709 (f : Picture) (x y : Nat) : Nat :=
  2126 * f.demosaic 0 x y + 7152 * f.demosaic 1 x y + 722 * f.demosaic 2 x y

/-- BT.709 in limited range, to the nearest code: component 0 Y, 1 Cb, 2 Cr. -/
def Picture.code709 (f : Picture) (p x y : Nat) : Nat :=
  let l := f.luma709 x y
  (if p = 0 then 16 + roundDiv (219 * l) 2550000
   else if p = 1 then 128 + roundDiv (224 * (10000 * (f.demosaic 2 x y : Int) - l)) (18556 * 255)
   else 128 + roundDiv (224 * (10000 * (f.demosaic 0 x y : Int) - l)) (15748 * 255)).toNat

/-- A plane before scaling: 0 luma, 1 and 2 chroma at half the size both ways. -/
def Picture.full (f : Picture) (p x y : Nat) : Nat :=
  if f.dt = 0x1E then
    (if p = 0 then f.sample 0 x y else meanHalfUp [f.sample p x (2 * y), f.sample p x (min (2 * y + 1) (f.h - 1))])
  else if f.bayer = 0 then (if p = 0 then f.sample 0 x y else 128)
  else if p = 0 then f.code709 0 x y
  else meanHalfUp ([0, 1, 2, 3].map (fun k => f.code709 p (min (2 * x + k % 2) (f.w - 1)) (min (2 * y + k / 2) (f.h - 1))))

/-- A plane of the coded picture: with SCALE 1 halved by 2 × 2 averaging. -/
def Picture.scaled (f : Picture) (p x y : Nat) : Nat :=
  if f.scale = 1 then meanHalfUp ([0, 1, 2, 3].map (fun k => f.full p (2 * x + k % 2) (2 * y + k / 2))) else f.full p x y

/-- A size halved and rounded down to an even number with SCALE 1 (16 R504). -/
def codedSize (scale n : Nat) : Nat := if scale = 1 then n / 2 / 2 * 2 else n

/-- A size padded to a multiple of 8 (HEVC) or 16 (AVC) (16 R507). -/
def paddedH (codec h : Nat) : Nat := if codec = 0 then (h + 7) / 8 * 8 else (h + 15) / 16 * 16

/-- A whole number brought into 0 to n - 1. -/
def clampTo (n : Nat) (i : Int) : Nat := min i.toNat (n - 1)

/-- The luma of the coded picture, its last column and row repeated. -/
def Picture.lumaAt (f : Picture) (x y : Int) : Nat :=
  f.scaled 0 (clampTo (codedSize f.scale f.w) x) (clampTo (codedSize f.scale f.h) y)

/-- The samples of rows y to y + n - 1 of the padded picture, luma then both chroma planes. -/
def Picture.rows (f : Picture) (codec y n : Nat) : List Nat :=
  let w := codedSize f.scale f.w
  let h := codedSize f.scale f.h
  let pw := paddedH codec w
  ([(0, 1), (1, 2), (2, 2)] : List (Nat × Nat)).flatMap (fun (p : Nat × Nat) =>
    (List.range (n / p.2)).flatMap (fun j => (List.range (pw / p.2)).map (fun i =>
      f.scaled p.1 (min i (w / p.2 - 1)) (min (y / p.2 + j) (h / p.2 - 1)))))

/-! ### The search of a block (16 R513, R514) -/

/-- Search range in pixels, horizontally; half of it vertically (16 R514). -/
def searchRange (code : Nat) : Nat := 16 * 2 ^ code

/-- A vector under trial against a reference, in quarter pixels, with its score. -/
structure Trial where
  vx : Int
  vy : Int
  ref : Nat
  cost : Nat
deriving DecidableEq, Repr

/-- Whether a trial is taken before an earlier one: a lower score, then the zero vector, then the lower reference. -/
def Trial.before (a b : Trial) : Bool :=
  let z := fun (t : Trial) => b2n (decide (t.vx ≠ 0 ∨ t.vy ≠ 0))
  decide (a.cost < b.cost) || (decide (a.cost = b.cost) && (decide (z a < z b) || (decide (z a = z b) && decide (a.ref < b.ref))))

/-- The best of some trials, the earlier where they tie. -/
def bestTrial : Trial → List Trial → Trial
  | b, [] => b
  | b, t :: l => bestTrial (if t.before b then t else b) l

/-- What a search of one block looks at: its position, the source, QP, the encoder's state, the range in pixels. -/
structure SearchAt where
  bx : Nat
  by' : Nat
  pic : Picture
  codec : Nat
  qp : Nat
  range : Nat
deriving DecidableEq, Repr

/-- The 256 positions of a block. -/
def SearchAt.cells (q : SearchAt) : List (Int × Int) :=
  (List.range 256).map (fun k => (((16 * q.bx + k % 16 : Nat) : Int), ((16 * q.by' + k / 16 : Nat) : Int)))

/-- The luma of a reconstructed picture at a whole position, its edges repeated. -/
def SearchAt.refLuma (q : SearchAt) (ref : Nat) (x y : Int) : Nat :=
  (Config.recon ref (clampTo (paddedH q.codec (codedSize q.pic.scale q.pic.w)) x)
    (clampTo (paddedH q.codec (codedSize q.pic.scale q.pic.h)) y)).toNat

/-- The prediction of a sample by a vector: a reconstructed sample at a whole position, else an interpolated one. -/
def SearchAt.pred (q : SearchAt) (ref : Nat) (c : Int × Int) (vx vy : Int) : Nat :=
  if vx % 4 = 0 ∧ vy % 4 = 0 then q.refLuma ref (c.1 + vx / 4) (c.2 + vy / 4)
  else (Config.interpolated q.codec ref (4 * c.1 + vx) (4 * c.2 + vy)).toNat

/-- The differences of a block from its prediction. -/
def SearchAt.diffs (q : SearchAt) (ref : Nat) (vx vy : Int) : List Int :=
  q.cells.map (fun c => (q.pic.lumaAt c.1 c.2 : Int) - q.pred ref c vx vy)

/-- λ(QP) times the estimated bits of a vector, given the vectors about the block. -/
def SearchAt.rate (q : SearchAt) (near : List (Int × Int)) (vx vy : Int) : Nat := Config.lambda q.qp * Config.vectorBits near vx vy

/-- A whole-pixel trial, scored by the sum of absolute differences. -/
def SearchAt.whole (q : SearchAt) (near : List (Int × Int)) (ref idx : Nat) (vx vy : Int) : Trial :=
  { vx := vx, vy := vy, ref := idx, cost := sumN ((q.diffs ref vx vy).map Int.natAbs) + q.rate near vx vy }

/-- A fractional trial, scored by the Hadamard-transformed difference. -/
def SearchAt.fine (q : SearchAt) (near : List (Int × Int)) (ref idx : Nat) (vx vy : Int) : Trial :=
  { vx := vx, vy := vy, ref := idx, cost := Config.hadamard (q.diffs ref vx vy) + q.rate near vx vy }

/-- A component rounded to whole pixels and clamped to a range, in quarter pixels (rounding half away from zero, log 21). -/
def wholePel (range : Nat) (v : Int) : Int := 4 * clampI (-(range : Int)) range (roundDiv v 4)

/-- A candidate vector brought to whole pixels and into the search range. -/
def SearchAt.toWhole (q : SearchAt) (v : Int × Int) : Int × Int := (wholePel q.range v.1, wholePel (q.range / 2) v.2)

/-- Whether a whole vector lies in the search range. -/
def SearchAt.inRange (q : SearchAt) (v : Int × Int) : Bool :=
  decide (v.1.natAbs ≤ 4 * q.range) && decide (v.2.natAbs ≤ 4 * (q.range / 2))

/-- The small diamond search: steps of one pixel while one is better. -/
def SearchAt.diamond (q : SearchAt) (near : List (Int × Int)) (ref : Nat) : Nat → Trial → Trial
  | 0, t => t
  | k + 1, t =>
    let next := (([(t.vx, t.vy - 4), (t.vx - 4, t.vy), (t.vx + 4, t.vy), (t.vx, t.vy + 4)] : List (Int × Int)).filter q.inRange).map
      (fun v => q.whole near ref t.ref v.1 v.2)
    let b := bestTrial t next
    if b = t then t else q.diamond near ref k b

/-- One fractional stage: the eight vectors at a step around the best one. -/
def SearchAt.around (q : SearchAt) (near : List (Int × Int)) (ref : Nat) (step : Int) (t : Trial) : Trial :=
  bestTrial t (([(-1, -1), (0, -1), (1, -1), (-1, 0), (1, 0), (-1, 1), (0, 1), (1, 1)] : List (Int × Int)).map
    (fun d => q.fine near ref t.ref (t.vx + step * d.1) (t.vy + step * d.2)))

/-- The search of a block in one reference, from its candidates in order, of which equal ones count once (16 R513). -/
def SearchAt.search (q : SearchAt) (near : List (Int × Int)) (ref idx : Nat) (cands : List (Int × Int)) : Trial :=
  let l := (cands.map q.toWhole).eraseDups
  let trials := l.map (fun v => q.whole near ref idx v.1 v.2)
  let zero := q.whole near ref idx 0 0
  let first := bestTrial zero trials
  let rest := trials.filter (fun t => t ≠ first)
  let a := q.diamond near ref 8 first
  let best := match rest with
    | [] => a
    | t :: r => bestTrial a [q.diamond near ref 8 (bestTrial t r)]
  q.around near ref 1 (q.around near ref 2 (q.fine near ref idx best.vx best.vy))

/-- The mode of a neighbouring block as a candidate, none where it is intra. -/
def BlockMode.vector (m : BlockMode) : Option (Int × Int) := if m.intra then none else some (m.vx, m.vy)

/-- The blocks left of, above and to the upper right of block k in a picture of w blocks a row. -/
def neighbours (w k : Nat) (done : List BlockMode) : List (Int × Int) :=
  let at' := fun (ok : Bool) (i : Nat) => if ok then (done[i]?).bind BlockMode.vector else none
  [at' (decide (0 < k % w)) (k - 1), at' (decide (w ≤ k)) (k - w), at' (decide (w ≤ k ∧ k % w + 1 < w)) (k - w + 1)].filterMap id

/-- The mode a block takes: the best of its references, or intra where that is cheaper (16 R513). `refs` gives the index and the
picture of each reference; the global vector is a candidate in reference 0 only. -/
def SearchAt.mode (q : SearchAt) (refs : List (Nat × Nat)) (global : Int × Int) (near : List (Int × Int)) (co : Option (Int × Int)) :
    BlockMode :=
  let trials := refs.map (fun r =>
    q.search near r.2 r.1 ([(0, 0)] ++ (if r.1 = 0 then [global] else []) ++ near ++ co.toList))
  match trials with
  | [] => { intra := true }
  | t :: l =>
    let b := bestTrial t l
    if Config.intraCost (q.cells.map (fun c => q.pic.lumaAt c.1 c.2)) q.qp < b.cost then { intra := true }
    else { ref := b.ref, vx := b.vx, vy := b.vy }

/-- The modes of blocks k to k + n - 1, in raster order, after those coded before them. -/
def searchBlocks (q : SearchAt) (w : Nat) (refs : List (Nat × Nat)) (global : Int × Int) (co : List BlockMode) :
    Nat → List BlockMode → List BlockMode
  | 0, done => done
  | n + 1, done =>
    let k := done.length
    let m := ({ q with bx := k % w, by' := k / w } : SearchAt).mode refs global (neighbours w k done) ((co[k]?).bind BlockMode.vector)
    searchBlocks q w refs global co n (done ++ [m])

/-! ### The byte stream (16 R509; unit types of the two standards PRESUMED, log 21) -/

/-- A unit of an Annex B byte stream: a start code, a header and what follows it. -/
def annexB (header body : List Byte) : List Byte := [0, 0, 0, 1] ++ header ++ body

/-- Header of a slice: IDR or not. -/
def sliceHeader (codec : Nat) (idr : Bool) : List Byte :=
  if codec = 0 then (if idr then [0x26, 0x01] else [0x02, 0x01]) else (if idr then [0x65] else [0x61])

/-- The parameter sets before an IDR: VPS, SPS and PPS, or SPS and PPS. -/
def parameterSets (codec : Nat) (cfg : List Nat) : List Byte :=
  (if codec = 0 then [[0x40, 0x01], [0x42, 0x01], [0x44, 0x01]] else [[0x67], [0x68]]).flatMap
    (fun h => annexB h ((Config.parameterSet (cfg ++ h.map BitVec.toNat)).take 256))

/-- Filler data of at least n bytes, none for 0. -/
def fillerData (codec n : Nat) : List Byte :=
  if n = 0 then [] else annexB (if codec = 0 then [0x4C, 0x01] else [0x0C]) (List.replicate (n - 7) 0xFF ++ [0x80])

end Sys2Proof.Machine
end

