-- ==== Sys2Proof/Machine/Video.lean ====
section
/-! DEFINITION. The audit video encoder (16_audit_video.md, R499 to R525). The bitstream is a function of what the encoder is
given (R508), whose entropy coding, costs and choice of QP are constants of Config (log 21). -/

namespace Sys2Proof.Machine

/-- An entry of stream v. -/
def State.vEnt (s : State) (v sub : Nat) : Nat := s.ent (streamIdx v) sub

/-- STREAM_STATE's number. -/
def StreamSt.code : StreamSt → Nat
  | .disabled => 0 | .waiting => 1 | .running => 2

/-- Bytes as 16-byte items, the last padded with zeros (16 R521). -/
def packItems : Nat → List Byte → List (BitVec 128)
  | 0, _ => []
  | n + 1, l => BitVec.ofNat 128 (numAt l 0 16) :: packItems n (l.drop 16)

/-- Coded width and height of the head on a stream's port (16 R504). -/
def State.codedW (s : State) (v : Nat) : Nat := codedSize (s.vEnt v 7) (numAt (s.port (s.vEnt v 4)).record 12 2)
/-- Coded height. -/
def State.codedH (s : State) (v : Nat) : Nat := codedSize (s.vEnt v 7) (numAt (s.port (s.vEnt v 4)).record 14 2)

/-- WAIT_CAUSE: the first cause that fails (16 R504). -/
def State.waitCauseOf (s : State) (v : Nat) : Nat :=
  let p := s.vEnt v 4
  if (s.port p).st ≠ .streaming then 1
  else if s.headType p ≠ 2 then 2
  else if 3840 < s.codedW v ∨ 2160 < s.codedH v then 3
  else if 30000 * s.vEnt v 9 < numAt (s.port p).record 16 4 then 4
  else if (s.stream (1 - v)).st = .running
      ∧ (1920 * 1088 < s.codedW v * s.codedH v ∨ 1920 * 1088 < s.codedW (1 - v) * s.codedH (1 - v)) then 5
  else 0

/-- Record 0xE7E1 (16 R525). -/
def State.streamRecord (v : Nat) (s : State) : State :=
  s.book 0xE7E1 0x1D 0 (leBytes 1 v ++ leBytes 1 (s.stream v).st.code ++ leBytes 1 (s.stream v).waitCause)

/-- Puts a stream into WAITING with its cause. -/
def State.streamWait (v : Nat) (s : State) : State :=
  (s.onStream v (fun x => { x with st := .waiting, waitCause := s.waitCauseOf v })).streamRecord v

/-- STREAM_ENABLE written 1 (16 R503). -/
def State.streamEnable (v : Nat) (s : State) : Nat × State :=
  (0, let s := s.writeEnt (streamIdx v) 2 1
      if (s.stream v).st = .disabled then s.streamWait v else s)

/-- STREAM_ENABLE written 0: nothing further is written, no buffer is held (16 R503). -/
def State.streamDisable (v : Nat) (s : State) : Nat × State :=
  (0, (s.writeEnt (streamIdx v) 2 0).onStream v (fun _ => {}))

/-- A device reset or STANDBY (16 R503). -/
def State.videoReset (s : State) : State := { s with video := [] }

/-- Streams enabled in the vintage start (16 R503). -/
def State.videoBoot (s : State) : State :=
  [0, 1].foldl (fun s v =>
    if s.hasUnit 5 && decide (s.vEnt v 2 = 1) && decide ((s.stream v).st = .disabled) then s.streamWait v else s) s

/-! ### Frames of the bound port (16 R503, R504, R506, R510) -/

/-- A Frame Start: a RUNNING stream numbers the frame, and a due one waits to be encoded. -/
def State.videoFrameStart (p : Nat) (f : Frame) (s : State) : State :=
  [0, 1].foldl (fun s v =>
    if s.vEnt v 4 = p ∧ (s.stream v).st = .running then
      let due := decide ((s.stream v).portFrames % s.vEnt v 9 = 0)
      s.onStream v (fun x => { x with
        portFrames := x.portFrames + 1,
        due := if due && x.due.isNone then some f else x.due,
        next := if due && x.due.isSome then some f else x.next })
    else s) s

/-- Whether a held frame is the one that started at a time. -/
def isFrame (o : Option Frame) (t : Nat) : Bool := match o with | none => false | some f => decide (f.time = t)

/-- Admission of a WAITING stream at a complete frame (16 R503, R504). -/
def State.streamAdmit (v : Nat) (f : Frame) (s : State) : State :=
  if s.waitCauseOf v = 0 then
    (s.onStream v (fun x => { x with
      st := .running, waitCause := 0, portFrames := 1, due := some f, next := none, idrDue := true, frameNo := 0, skipped := 0,
      coder := 0 })).streamRecord v
  else s.onStream v (fun x => { x with waitCause := s.waitCauseOf v })

/-- A frame becomes complete: admission, or the skip of a due frame that still waits (16 R504, R506). -/
def State.videoFrameEnd (p : Nat) (f : Frame) (s : State) : State :=
  [0, 1].foldl (fun s v =>
    if s.vEnt v 4 ≠ p then s
    else match (s.stream v).st with
      | .disabled => s
      | .waiting => s.streamAdmit v f
      | .running =>
        let s := s.onStream v (fun x => { x with
          due := if isFrame x.due f.time then some f else x.due,
          frame := if isFrame x.frame f.time then some f else x.frame })
        if isFrame (s.stream v).next f.time then
          (s.onStream v (fun x => { x with due := some f, next := none, skipped := x.skipped + 1 })).count (streamIdx v) 0x1F 1
        else s) s

/-- The rest of the frame in encode is concealed (16 R510). -/
def State.conceal (v : Nat) (s : State) : State :=
  if (s.stream v).frame.isSome ∧ (s.stream v).concealing = false then
    (s.onStream v (fun x => { x with concealing := true })).count (streamIdx v) 0x21 1
  else s

/-- The port drops the frame that started at a time (05 R182, 16 R510). -/
def State.videoFrameDrop (p t : Nat) (s : State) : State :=
  [0, 1].foldl (fun s v =>
    if s.vEnt v 4 ≠ p then s
    else
      let s := s.onStream v (fun x =>
        if isFrame x.due t then { x with due := x.next, next := none }
        else if isFrame x.next t then { x with next := none } else x)
      if isFrame (s.stream v).frame t then s.conceal v else s) s

/-- The port leaves STREAMING: its streams wait again, the frame in encode is concealed, the pool is UNUSED
(16 R503, R510). -/
def State.videoPortGone (p : Nat) (s : State) : State :=
  [0, 1].foldl (fun s v =>
    if s.vEnt v 4 = p ∧ (s.stream v).st = .running then
      let open_ := match (s.stream v).frame with | none => false | some f => decide (f.complete = false)
      let s := if open_ then s.conceal v else s
      (s.onStream v (fun x => { x with due := none, next := none, marks := [], markTimes := [] })).streamWait v
    else s) s

/-- Whether the encoder holds a frame of a port (16 R502). -/
def State.videoHolds (s : State) (p : Nat) (f : Frame) : Bool :=
  [0, 1].any (fun v => decide (s.vEnt v 4 = p) && (isFrame (s.stream v).due f.time || isFrame (s.stream v).frame f.time
    || isFrame (s.stream v).next f.time))

/-! ### Starting a frame (16 R505, R506, R511 to R518, R520) -/

/-- The buffer with one of two marks. -/
def Stream.withMark (x : Stream) (m m' : Nat) : Option Nat :=
  [0, 1, 2, 3].find? (fun b => decide (tabGet 0 x.marks b = m) || decide (tabGet 0 x.marks b = m'))

/-- The lowest UNUSED buffer. -/
def Stream.freeBuf (x : Stream) : Nat := ([0, 1, 2, 3].find? (fun b => decide (tabGet 0 x.marks b = 0))).getD 0

/-- The configuration whose change makes the next frame an IDR (16 R505). -/
def State.rcNow (s : State) (v : Nat) : List Nat := [s.vEnt v 0xD, s.vEnt v 0xE, s.vEnt v 0xF, s.vEnt v 0x10]

/-- Which recovery the next frame is: 2 or 3, or 0 (16 R518). -/
def Stream.recoveryOf (x : Stream) : Nat :=
  if x.command = 2 ∧ (x.withMark 3 5).isSome = true then 2
  else if x.command = 3 ∧ (x.withMark 4 4).isSome = true then 3 else 0

/-- Whether the next frame is an IDR (16 R503, R505, R510, R517, R518). -/
def State.nextIdr (s : State) (v : Nat) : Bool :=
  let x := s.stream v
  x.idrDue || decide (x.command = 1) || (decide (x.command ≠ 0) && decide (x.recoveryOf = 0))
  || decide (x.rcTaken ≠ s.rcNow v) || (x.withMark 2 5).isNone
  || (decide (s.vEnt v 0x15 ≠ 0) && decide (x.frameNo % s.vEnt v 0x15 = 0))

/-- Half of a whole number, rounding half away from zero. -/
def halfAway (i : Int) : Int := roundDiv i 2

/-- One component of the global vector (16 R515). -/
def globalVector (scale : Nat) (speed px dt : Int) (range : Nat) : Int :=
  let g := roundDiv (speed * dt * px) 4000000000
  clampI (-(4 * range : Nat)) (4 * range : Nat) (if scale = 1 then halfAway g else g)

/-- The FRAME_INFO packet (16 R520). -/
def frameInfo (v flags qp no time beat slices skipped : Nat) (gx gy : Int) : List (BitVec 128) :=
  packItems 2 (leBytes 1 1 ++ leBytes 1 v ++ leBytes 1 flags ++ leBytes 1 qp ++ leBytes 4 no ++ leBytes 8 time
    ++ leBytes 6 beat ++ leBytes 2 slices ++ leBytes 4 skipped ++ leBytes 2 (toBits 16 gx) ++ leBytes 2 (toBits 16 gy))

/-- Appends a packet to the stream's output, unless OUTPUT_QUEUE is none (16 R519). -/
def State.videoPacket (v : Nat) (items : List (BitVec 128)) (bytes : Nat) (s : State) : State :=
  if s.vEnt v 5 = 0xFF then s
  else s.onStream v (fun x => { x with packets := x.packets ++ [items], buffered := x.buffered + bytes })

/-- The HRD buffer in bits and the rate in kbit/s at which it fills (16 R509, R511): VBV_MS at TARGET_KBPS; TARGET_KBPS in CBR,
MAX_KBPS in VBR. -/
def State.hrdSize (s : State) (v : Nat) : Nat := s.vEnt v 0x10 * s.vEnt v 0xE
/-- The rate. -/
def State.hrdRate (s : State) (v : Nat) : Nat := if s.vEnt v 0xD = 1 then s.vEnt v 0xE else s.vEnt v 0xF

/-- The HRD buffer's fullness when a frame of a time starts; full at first and after a change of rate control (log 21). -/
def State.hrdNow (s : State) (v time : Nat) : Int :=
  let x := s.stream v
  if x.rcTaken ≠ s.rcNow v then s.hrdSize v
  else min (s.hrdSize v : Int) (x.hrd + (s.hrdRate v * (time - x.hrdAt) / 1000 : Nat))

/-- What a starting frame is: IDR, recovery, refresh, references, and its long-term count (16 R516 to R518). -/
structure FramePlan where
  idr : Bool
  rec_ : Nat
  since : Nat
  refresh : Bool
  ref0 : Option Nat
  second : Option Nat
deriving DecidableEq, Repr

/-- The plan of the next frame. -/
def State.framePlan (s : State) (v : Nat) : FramePlan :=
  let x := s.stream v
  let idr := s.nextIdr v
  let r := if idr then 0 else x.recoveryOf
  let since := if idr then 0 else x.sinceIdr + 1
  let lt := s.vEnt v 0x16
  { idr := idr, rec_ := r, since := since, refresh := idr || (decide (lt ≠ 0) && decide (since % lt = 0)),
    ref0 := if idr || decide (r ≠ 0) then none else x.withMark 2 5,
    second := if r = 2 then x.withMark 3 5 else if r = 3 then x.withMark 4 4
      else if idr = false ∧ s.vEnt v 0xB = 2 then x.withMark 3 3 else none }

/-- The global vector of the next frame (16 R515). -/
def State.frameVector (s : State) (v : Nat) (f : Frame) (p : FramePlan) : Int × Int :=
  match p.ref0 with
  | none => (0, 0)
  | some b =>
    if s.vEnt v 0x17 ≠ 1 then (0, 0)
    else
      let dt := (f.time : Int) - tabGet 0 (s.stream v).markTimes b
      let r := searchRange (s.vEnt v 0xC)
      (globalVector (s.vEnt v 7) f.speed (s.entI (streamIdx v) 0x18 32) dt r,
       globalVector (s.vEnt v 7) f.speed (s.entI (streamIdx v) 0x19 32) dt (r / 2))

/-- The references of the next frame: index 0 for reference 0, 1 for a long-term one, each with its picture; an all-skip frame has
reference 0 alone. -/
def State.frameRefs (s : State) (v : Nat) (p : FramePlan) (skip : Bool) : List (Nat × Nat) :=
  let pic := fun (i b : Nat) => (i, tabGet 0 (s.stream v).pictures b)
  (p.ref0.map (pic 0)).toList ++ (if skip then [] else (p.second.map (pic 1)).toList)

/-- FLAGS of FRAME_INFO. -/
def FramePlan.flags (p : FramePlan) (skip : Bool) : Nat :=
  b2n p.idr + 2 * b2n p.refresh + 4 * b2n (p.second.isSome && !skip) + 8 * b2n skip + 16 * b2n (decide (p.rec_ ≠ 0))

/-- A frame starts encoding: the values of its entries are taken, a buffer becomes CURRENT, FRAME_INFO is written. -/
def State.startFrame (v : Nat) (f : Frame) (s : State) : State :=
  let x := s.stream v
  let p := s.framePlan v
  let mode := s.vEnt v 0xD
  let hrd := s.hrdNow v f.time
  let skip := decide (mode ≠ 0) && !p.idr && decide (p.rec_ = 0) && decide (hrd < Config.frameBitsAtMax x.coder)
  let qmin := s.vEnt v 0x13
  let qp := if mode = 0 then (if p.idr then s.vEnt v 0x11 else s.vEnt v 0x12)
    else qmin + Config.videoQp x.coder 0 % (s.vEnt v 0x14 + 1 - qmin)
  let g := s.frameVector v f p
  let slices := (paddedH (s.vEnt v 6) (codedSize (s.vEnt v 7) f.height) + s.vEnt v 0xA - 1) / s.vEnt v 0xA
  let flags := p.flags skip
  let no := x.frameNo
  let refs := s.frameRefs v p skip
  let t := s.onStream v (fun y =>
    let marks := if p.idr then [] else y.marks
    let b := ({ y with marks := marks } : Stream).freeBuf
    { y with
      due := y.next, next := none, frame := some f, frameNo := (no + 1) % 2 ^ 32, codingNo := no, slice := 0, sliceCount := slices,
      sinceIdr := p.since, idr := p.idr, recovery := p.rec_, refresh := p.refresh, rcSkip := skip, command := 0,
      idrDue := false, concealing := false, usesLt := p.second.isSome && !skip, frameBytes := 0, gvX := g.1, gvY := g.2, skipped := 0,
      rcTaken := s.rcNow v, qp := qp, qpMin := qmin, qpMax := s.vEnt v 0x14, hrd := hrd, hrdAt := f.time,
      coder := Config.videoNext y.coder ([0, flags, qp, no, f.time, toBits 16 g.1, toBits 16 g.2] ++ refs.map Prod.snd),
      refs := refs, coModes := (p.ref0.map (tabGet [] y.fields)).getD [], blocks := [],
      marks := tabPut 0 marks b 1, markTimes := tabPut 0 y.markTimes b f.time })
  let t := (t.setEnt (streamIdx v) 0x1B no).setEnt (streamIdx v) 0x1C (toBits 16 g.1 + toBits 16 g.2 * 65536)
  let t := if skip then t.count (streamIdx v) 0x20 1 else t
  t.videoPacket v (frameInfo v flags qp no f.time f.beat slices x.skipped g.1 g.2) 0

/-- FRAME_ENCODE_START (16 R506, R509, R512, R515 to R518, R520). -/
def execFrameEncodeStart (st : Fin 2) (s : State) : Host.Outcome State Fault Refusal :=
  .next (match (s.stream st.val).st, (s.stream st.val).frame, (s.stream st.val).due with
    | .running, none, some f => s.startFrame st.val f
    | _, _, _ => s)

/-! ### Slices (16 R510, R519, R521, R522) -/

/-- The SLICE packets of a slice's bytes (16 R521). -/
def slicePackets (v no slice : Nat) (last concealed : Bool) : Nat → Nat → List Byte → List (List (BitVec 128) × Nat)
  | 0, _, _ => []
  | fuel + 1, chunk, l =>
    let b := l.take 1008
    let rest := l.drop 1008
    let end_ := decide (rest = [])
    let flags := b2n (decide (chunk = 0)) + 2 * b2n end_ + 4 * b2n last + 8 * b2n concealed
    let head := leBytes 1 2 ++ leBytes 1 v ++ leBytes 1 flags ++ leBytes 1 0 ++ leBytes 4 no ++ leBytes 2 slice
      ++ leBytes 2 chunk ++ leBytes 2 b.length ++ leBytes 2 0
    (packItems 1 head ++ packItems ((b.length + 15) / 16) b, b.length)
      :: (if end_ then [] else slicePackets v no slice last concealed fuel (chunk + 1) rest)

/-- Whether the lines a slice needs have arrived (16 R522). -/
def State.linesReady (s : State) (v : Nat) : Bool :=
  let x := s.stream v
  match x.frame with
  | none => false
  | some f =>
    f.complete || x.concealing
    || (decide ((if s.vEnt v 7 = 1 then 2 else 1) * ((x.slice + 1) * s.vEnt v 0xA + 32)
          ≤ (s.port (s.vEnt v 4)).frameLines.length))

/-- The frame in encode as the encoder reads it. -/
def State.picture (s : State) (v : Nat) (f : Frame) : Picture :=
  { dt := f.dataType, w := f.width, h := f.height, scale := s.vEnt v 7, bayer := s.vEnt v 8,
    lines := (if f.complete then f.lines else (s.port (s.vEnt v 4)).frameLines.reverse).map lineBytes }

/-- QP of the next slice: that of the first, or within 4 of it and within the limits (16 R511). -/
def Stream.sliceQp (x : Stream) : Nat :=
  if x.slice = 0 ∨ x.rcTaken.headD 0 = 0 then x.qp
  else min x.qpMax (max x.qpMin (x.qp + Config.videoQp x.coder x.slice % 9 - 4))

/-- The blocks that the next slice adds: searched in a P picture, skipped with the zero vector in reference 0 where the frame is
an all-skip frame or concealed, intra in an IDR (16 R510, R512, R513). -/
def State.sliceBlocks (s : State) (v : Nat) (f : Frame) (n : Nat) : List BlockMode :=
  let x := s.stream v
  let pic := s.picture v f
  if x.idr then x.blocks ++ List.replicate n { intra := true }
  else if x.rcSkip ∨ x.concealing then x.blocks ++ List.replicate n ({} : BlockMode)
  else searchBlocks { bx := 0, by' := 0, pic := pic, codec := s.vEnt v 6, qp := x.sliceQp, range := searchRange (s.vEnt v 0xC) }
    ((codedSize pic.scale pic.w + 15) / 16) x.refs (x.gvX, x.gvY) x.coModes n x.blocks

/-- What a slice is coded from: its place, QP, the ways it is coded, its blocks and its samples. -/
def State.sliceInput (s : State) (v : Nat) (f : Frame) (y n : Nat) (blocks : List BlockMode) : List Nat :=
  let x := s.stream v
  [1, x.slice, x.sliceQp, b2n x.idr, b2n x.rcSkip, b2n x.concealing]
    ++ blocks.flatMap (fun b => [b2n b.intra, b.ref, toBits 16 b.vx, toBits 16 b.vy])
    ++ (if x.rcSkip || x.concealing then [] else (s.picture v f).rows (s.vEnt v 6) y n)

/-- The filler that keeps a CBR stream's HRD buffer from overflowing before the next frame, after so many bytes of this one
(16 R511). -/
def State.fillerNeed (s : State) (v bytes : Nat) : Nat :=
  let x := s.stream v
  if x.rcTaken.headD 0 = 1 then
    let gain := s.hrdRate v * (s.vEnt v 9 * 1000000 / max 1 (numAt (s.port (s.vEnt v 4)).record 16 4))
    let excess := x.hrd - 8 * bytes + gain - s.hrdSize v
    (excess.toNat + 7) / 8
  else 0

/-- Codes the next slice where the output buffer has room for it (16 R508 to R513, R521, R522). -/
def State.codeSlice (v : Nat) (f : Frame) (s : State) : State :=
  let x := s.stream v
  let codec := s.vEnt v 6
  let lines := s.vEnt v 0xA
  let pic := s.picture v f
  let w := codedSize pic.scale pic.w
  let h := paddedH codec (codedSize pic.scale pic.h)
  let y := x.slice * lines
  let n := min lines (h - y)
  let blocks := s.sliceBlocks v f ((n + 15) / 16 * ((w + 15) / 16))
  let input := s.sliceInput v f y n (blocks.drop x.blocks.length)
  let last := decide (x.slice + 1 = x.sliceCount)
  let own := (if x.idr && decide (x.slice = 0) then parameterSets codec ([w, codedSize pic.scale pic.h] ++ s.rcNow v) else [])
    ++ annexB (sliceHeader codec x.idr) ((Config.slicePayload x.coder input).take 200000)
  let bytes := (own ++ (if last then fillerData codec (s.fillerNeed v (x.frameBytes + own.length)) else [])).take 262144
  if 262144 < x.buffered + bytes.length then s
  else
    let t := s.onStream v (fun z => { z with
      slice := z.slice + 1, frameBytes := z.frameBytes + bytes.length, blocks := blocks, coder := Config.videoNext z.coder input })
    (slicePackets v x.codingNo x.slice last x.concealing (bytes.length / 1008 + 1) 0 bytes).foldl
      (fun u p => u.videoPacket v p.1 p.2) t

/-- SLICE_ENCODE (16 R510, R521, R522); an uncorrectable line-buffer error conceals the rest of the frame (R510, R525). -/
def execSliceEncode (st : Fin 2) (lineError : Bool) (s : State) : Host.Outcome State Fault Refusal :=
  .next (let v := st.val
    let x := s.stream v
    if x.frame.isSome = true ∧ x.slice < x.sliceCount ∧ s.linesReady v = true then
      let s := if lineError then
          (((s.conceal v).onStream v (fun y => { y with idrDue := true })).count 0x7000 2 1).book 0xE7E0 0x1D 2
            (leBytes 1 v ++ leBytes 4 x.codingNo ++ leBytes 2 x.slice)
        else s
      match x.frame with
      | some f => s.codeSlice v f
      | none => s
    else s)

/-- The marks after a frame that is no IDR (16 R517). -/
def Stream.finishMarks (x : Stream) : Tab Nat :=
  [0, 1, 2, 3].foldl (fun t b =>
    let m := tabGet 0 x.marks b
    tabPut 0 t b
      (if m = 1 then (if x.refresh then 5 else 2)
       else if x.refresh then (if m = 4 then 0 else if m = 3 then 4 else if m = 2 then 0 else if m = 5 then 4 else m)
       else (if m = 2 then 0 else if m = 5 then 3 else m))) x.marks

/-- FRAME_ENCODE_DONE (16 R502, R517, R524). -/
def execFrameEncodeDone (st : Fin 2) (s : State) : Host.Outcome State Fault Refusal :=
  .next (let v := st.val
    let x := s.stream v
    if x.frame.isSome = true ∧ x.slice = x.sliceCount then
      let s := (s.setEnt (streamIdx v) 0x1D x.frameBytes).count (streamIdx v) 0x1E 1
      s.onStream v (fun y =>
        let z := { y with frame := none, concealing := false, hrd := y.hrd - 8 * y.frameBytes }
        match y.withMark 1 1 with
        | some b => { z with
            marks := y.finishMarks, pictures := tabPut 0 y.pictures b y.coder, fields := tabPut [] y.fields b y.blocks }
        | none => z)
    else s)

/-- VIDEO_PACKET_WRITE (16 R519, R522): the oldest packet goes to OUTPUT_QUEUE when it has credit. -/
def execVideoPacketWrite (st : Fin 2) (s : State) : Host.Outcome State Fault Refusal :=
  .next (let v := st.val
    match (s.stream v).packets with
    | [] => s
    | p :: rest =>
      let n := packetBytes p
      match s.hwPush (s.vEnt v 5) p with
      | none => s
      | some t => t.onStream v (fun x => { x with packets := rest, buffered := x.buffered - n }))

/-! ### Commands and writes (16 R503, R505, R511, R518, R524) -/

/-- STREAM_COMMAND: commands before a frame merge, an IDR wins, then 3 (16 R518). -/
def State.streamCommand (v c : Nat) (s : State) : Nat × State :=
  (0, s.onStream v (fun x => { x with
    command := if c = 1 ∨ x.command = 1 then 1 else if c = 3 ∨ x.command = 3 then 3 else 2 }))

/-- A write of an entry of a stream (16 R505, R511, R524). -/
def State.videoWrite (v sub val : Nat) (s : State) : Nat × State :=
  if sub = 2 then (if val = 1 then s.streamEnable v else s.streamDisable v)
  else if sub = 0x1A then s.streamCommand v val
  else if (sub = 4 ∨ sub = 5 ∨ sub = 6 ∨ sub = 7 ∨ sub = 8 ∨ sub = 0xA ∨ sub = 0xB ∨ sub = 0xC)
      ∧ (s.stream v).st ≠ .disabled then (0x08000022, s)
  else if (sub = 0xA ∧ val % 32 ≠ 0) ∨ (sub = 0xE ∧ s.vEnt v 0xF < val) ∨ (sub = 0xF ∧ val < s.vEnt v 0xE)
      ∨ (sub = 0x13 ∧ s.vEnt v 0x14 < val) ∨ (sub = 0x14 ∧ val < s.vEnt v 0x13) then (0x06090030, s)
  else (0, s.writeEnt (streamIdx v) sub val)

/-- STREAM_ENABLE (16 R503). -/
def execStreamEnable (st : Fin 2) (s : State) : Host.Outcome State Fault Refusal :=
  .next (s.guarded (streamIdx st.val) 2 1 (State.videoWrite st.val 2 1))

/-- STREAM_DISABLE (16 R503). -/
def execStreamDisable (st : Fin 2) (s : State) : Host.Outcome State Fault Refusal :=
  .next (s.guarded (streamIdx st.val) 2 0 (State.videoWrite st.val 2 0))

/-- STREAM_IDR: STREAM_COMMAND 1 (16 R518). -/
def execStreamIdr (st : Fin 2) (s : State) : Host.Outcome State Fault Refusal :=
  .next (s.guarded (streamIdx st.val) 0x1A 1 (State.videoWrite st.val 0x1A 1))

/-- STREAM_RECOVER_NEW: STREAM_COMMAND 2 (16 R518). -/
def execStreamRecoverNew (st : Fin 2) (s : State) : Host.Outcome State Fault Refusal :=
  .next (s.guarded (streamIdx st.val) 0x1A 2 (State.videoWrite st.val 0x1A 2))

/-- STREAM_RECOVER_OLD: STREAM_COMMAND 3 (16 R518). -/
def execStreamRecoverOld (st : Fin 2) (s : State) : Host.Outcome State Fault Refusal :=
  .next (s.guarded (streamIdx st.val) 0x1A 3 (State.videoWrite st.val 0x1A 3))

end Sys2Proof.Machine
end

