-- ==== Sys2Proof/Machine/Ports.lean ====
section
/-! DEFINITION. Sensor ports and head discovery (05_sensor_ports.md, R155 to R187; 15 R491, R492). -/

namespace Sys2Proof.Machine

/-! ### The Head Identity Record (05 R166 to R168) -/

/-- An entry of port p. -/
def State.pEnt (s : State) (p sub : Nat) : Nat := s.ent (portIdx p) sub

/-- A field of the head's record. -/
def State.headField (s : State) (p off n : Nat) : Nat := numAt (s.port p).record off n

/-- WIDTH and HEIGHT of a record. -/
def recW (r : List Byte) : Nat := numAt r 12 2
/-- HEIGHT. -/
def recH (r : List Byte) : Nat := numAt r 14 2
/-- HEAD_TYPE. -/
def recType (r : List Byte) : Nat := numAt r 5 1

/-- Whether a record's CRC is right. -/
def recCrcOk (r : List Byte) : Bool := decide (numAt r 252 4 = crc32 (slice r 0 252))

/-- Whether a field holds ASCII padded with zeros: characters, then zero bytes only. -/
def asciiPadded (l : List Byte) : Bool :=
  l.all (fun b => decide (b.toNat < 128)) && (l.dropWhile (fun b => decide (b ≠ 0))).all (fun b => decide (b = 0))

/-- Whether every field other than DATA_TYPE, WIDTH, HEIGHT and VPORT_MIN_MV is right (05 R166). -/
def recFieldsOk (r : List Byte) (vport : Nat) : Bool :=
  let t := recType r
  let timed := decide (t = 1 ∨ t = 4)
  let lanes := numAt r 6 1
  let rate := numAt r 16 4
  let clock := numAt r 24 4
  decide (numAt r 0 4 = 0x5249484B) && decide (numAt r 4 1 = 1) && decide (1 ≤ t ∧ t ≤ 4)
  && decide (lanes = 1 ∨ lanes = 2 ∨ lanes = 4) && decide (numAt r 7 1 ≤ 3)
  && decide (80 ≤ numAt r 8 2 ∧ numAt r 8 2 ≤ 2500) && decide (numAt r 11 1 = 0)
  && (timed || decide (1 ≤ rate ∧ rate ≤ 60000))
  && decide (numAt r 20 2 ≤ 12000 ∧ 2 * numAt r 20 2 ≤ vport)
  && decide (5000 ≤ numAt r 22 2 ∧ numAt r 22 2 ≤ 24000)
  && (if timed then decide (1000000 ≤ clock ∧ clock ≤ 100000000) else decide (clock = 0))
  && asciiPadded (slice r 28 32) && asciiPadded (slice r 60 16) && decide (numAt r 80 172 = 0)

/-- Whether the stream is supported (05 R167). -/
def streamOk (r : List Byte) : Bool :=
  let t := recType r
  let dt := numAt r 10 1
  let w := recW r
  let h := recH r
  if t = 1 then decide (dt = 0x30 ∧ 1 ≤ w ∧ w ≤ 2048 ∧ 1 ≤ h ∧ h ≤ 2048 ∧ w * h ≤ 1048576)
  else if t = 2 then
    decide ((dt = 0x2A ∨ dt = 0x2B ∨ dt = 0x2C ∨ dt = 0x1E) ∧ 64 ≤ w ∧ w ≤ 3840 ∧ w % 2 = 0 ∧ 64 ≤ h ∧ h ≤ 2160)
  else if t = 3 then decide (dt = 0x2C ∧ 4 ≤ w ∧ w ≤ 512 ∧ 1 ≤ h ∧ h ≤ 64)
  else decide (dt = 0x30 ∧ 1 ≤ w ∧ w ≤ 16 ∧ h = 1)

/-! ### Power, Cellar and frame capacity (05 R162, R169, R183) -/

/-- PORT_POWER_MW (05 R162). -/
def State.portPower (s : State) (p : Nat) : Nat :=
  match (s.port p).st with
  | .powering => 2000
  | .identifying => 2000
  | .ready => (s.port p).powerMw
  | .streaming => (s.port p).powerMw
  | .stalled => (s.port p).powerMw
  | _ => 0

/-- PORT_POWER_COMMITTED_MW. -/
def State.committedMw (s : State) : Nat := sumN ((List.range 6).map s.portPower)

/-- Where a Cellar slice starts and its size: 0 the hub, 1 to 4 the tiles (01 R26). -/
def sliceBase (k : Nat) : Nat := if k = 0 then 0x40000000 else 0x41000000 + (k - 1) * 0x1000000
/-- Its size. -/
def sliceSize (k : Nat) : Nat := if k = 0 then 0x800000 else 0x1000000

/-- The reserved regions of the ports but one. -/
def State.regions (s : State) (but : Nat) : List (Nat × Nat) :=
  (List.range 6).flatMap (fun p => if p = but then [] else ((s.port p).region).toList)

/-- Whether two ranges overlap. -/
def overlaps (a n b m : Nat) : Bool := decide (a < b + m ∧ b < a + n)

/-- The end of the highest free range of a slice that a region fits (05 R169). -/
def regionTop (len base claim size : Nat) (used : List (Nat × Nat)) : Option Nat :=
  let ends := ((base + size) :: used.map (fun r => r.1)).filter (fun e =>
    decide (base + claim + len ≤ e) && decide (e ≤ base + size)
    && used.all (fun r => !overlaps (e - len) len r.1 r.2))
  ends.foldl (fun best e => match best with | none => some e | some b => some (max b e)) none

/-- The region a port gets under given claims: hub first, then each present tile (05 R169). -/
def State.findRegion (s : State) (p len : Nat) (claims : List Nat) : Option (Nat × Nat) :=
  let used := s.regions p
  (List.range (s.tiles + 1)).foldl (fun got k => match got with
    | some r => some r
    | none => (regionTop len (sliceBase k) (1024 * claims.getD k 0) (sliceSize k) used).map (fun e => (e - len, len))) none

/-- The Cellar a head needs, none for frame and spectral heads (05 R169). -/
def regionNeed (r : List Byte) : Nat :=
  let t := recType r
  if t = 1 then 0x40000 + (2 * recW r * recH r + 0xFFFF) / 0x10000 * 0x10000
  else if t = 4 then 0x40000 else 0

/-- The tile whose slice holds an offset. -/
def sliceTile (a : Nat) : Option Nat := if 0x41000000 ≤ a ∧ a < 0x45000000 then some ((a - 0x41000000) / 0x1000000) else none

/-- Ungates the tile of a region (15 R486). -/
def State.ungateFor (a : Nat) (s : State) : State :=
  match sliceTile a with
  | none => s
  | some t => s.onPower (fun x => { x with gated := x.gated &&& ~~~(BitVec.ofNat 4 (2 ^ t)) })

/-- WIDTH × HEIGHT × MAX_RATE of a frame or spectral head, 0 for others (05 R183). -/
def pixelRate (r : List Byte) : Nat := if recType r = 2 ∨ recType r = 3 then recW r * recH r * numAt r 16 4 else 0

/-- The pixel rates in use by ports other than one. -/
def State.rateInUse (s : State) (but : Nat) : Nat :=
  sumN ((List.range 6).map (fun p => if p = but ∨ s.headType p = 0 then 0 else pixelRate (s.port p).record))

/-! ### Moves between states (05 R164, R165, R185) -/

/-- PORT_STATE's number. -/
def PortSt.code : PortSt → Nat
  | .absent => 0 | .powering => 1 | .identifying => 2 | .ready => 3 | .streaming => 4 | .stalled => 5 | .fault => 6

/-- Enters a state, with what follows elsewhere: EMCY 0xFF30 ends, gates and streams learn of it. -/
def State.portTo (p : Nat) (new : PortSt) (s : State) : State :=
  let old := (s.port p).st
  let s := s.onPort p (fun x => { x with st := new, since := s.now })
  let s := if old = .fault ∧ new ≠ .fault then s.endCond 0xFF30 (8 + p) 0 else s
  let s := s.zonePort p old new
  if old = .streaming ∧ new ≠ .streaming then s.videoPortGone p else s

/-- The e-fuse turns off. -/
def Port.fuseOff (now : Nat) (x : Port) : Port := if x.efuse then { x with efuse := false, efuseAt := some now } else x

/-- What a port forgets when its head's record no longer stands: record, power, reservation, decoding, frames. -/
def Port.forget (x : Port) : Port :=
  { x with cause := 0, record := [], powerMw := 0, region := none, row := none, headTime := none, lastHigh := none,
           vector := none, acq := [], skipping := false, buffer := [], frameBad := false, frameAt := none, frameLines := [], frames := [],
           attempts := 0, acked := false, reading := false, csiDiscards := [], ratePpm := 0 }

/-! ### Head time (05 R175) -/

/-- Head times count modulo 2^40. -/
def headDiff (a b : Nat) : Nat := (a + 2 ^ 40 - b) % 2 ^ 40

/-- The nominal scale: 10^6 / HEAD_CLOCK_HZ to the nearest 2^-40, halves upward. -/
def nominalScale (hz : Nat) : Nat := if hz = 0 then 0 else (2 * 10 ^ 6 * 2 ^ 40 + hz) / (2 * hz)

/-- The nominal scale of a port's head. -/
def State.nominal (s : State) (p : Nat) : Nat := nominalScale (s.headField p 24 4)

/-- mapped(T). -/
def Port.mapped (x : Port) (t : Nat) : Nat := x.anchor + headDiff t x.tAnchor * x.scale / 2 ^ 40

/-- Whether an interval of head time matches its arrival interval within 5 % or 50 µs. -/
def consistent (nom dt da : Nat) : Bool :=
  let a := dt * nom
  let b := da * 2 ^ 40
  let diff := max a b - min a b
  decide (20 * diff ≤ max b (1000 * 2 ^ 40))

/-- Stalls a STREAMING port (05 R164, R175, R187). -/
def State.portStall (p cause : Nat) (s : State) : State :=
  let last := ((s.port p).lastHigh).getD 0
  let s := ((s.portTo p .stalled).count (portIdx p) 0x18 1).setEnt (portIdx p) 0x1D cause
  (s.onPort p (fun x => { x with acq := [] })).book 0xE101 (8 + p) 1 (leBytes 1 cause ++ leBytes 5 last)

/-- Time is acquired at a word: the mapping starts at it (05 R164, R175, R187). -/
def State.timeAcquired (p t arrival : Nat) (s : State) : State :=
  let a := arrival - s.pEnt p 8
  let stalled := decide ((s.port p).st = .stalled)
  let s := s.onPort p (fun x => { x with
    acq := [], anchor := a, tAnchor := t, scale := s.nominal p, blockCount := 1, blockT := t, blockAt := arrival,
    ratePpm := 0 })
  let s := s.portTo p .streaming
  if stalled then s.book 0xE102 (8 + p) 0 (leBytes 8 a) else s

/-- A TIME_HIGH of time acquisition. -/
def State.acquire (p t arrival : Nat) (s : State) : State :=
  let l := (s.port p).acq
  let ok := match l with
    | [] => false
    | (t', a') :: _ => consistent (s.nominal p) (headDiff t t') (arrival - a')
  let l' := if ok then (t, arrival) :: l else [(t, arrival)]
  if 4 ≤ l'.length then s.timeAcquired p t arrival else s.onPort p (fun x => { x with acq := l' })

/-- The scale at the end of a block, rounded, then limited to the nominal scale ±500 ppm. -/
def trimScale (nom dt da : Nat) : Nat :=
  let v := if dt = 0 then nom else (2 * da * 2 ^ 40 + dt) / (2 * dt)
  max (nom - nom * 500 / 1000000) (min (nom + nom * 500 / 1000000) v)

/-- A TIME_HIGH while STREAMING that neither runs backwards nor drifts: trim and anchor. -/
def Port.track (x : Port) (nom t arrival : Nat) (err : Int) : Port :=
  let n := x.blockCount + 1
  let first := decide (n = 65)
  let x := if first then { x with blockCount := 1, blockT := t, blockAt := arrival } else { x with blockCount := n }
  let x := if n = 64 then
      let sc := trimScale nom (headDiff t x.blockT) (arrival - x.blockAt)
      { x with scale := sc, ratePpm := roundDiv (((sc : Int) - nom) * 1000000) nom }
    else x
  { x with anchor := if 0 < err then x.anchor + 1 else if err < 0 then x.anchor - 1 else x.anchor }

/-- A TIME_HIGH word with head time t (05 R175). -/
def State.timeHigh (p t arrival : Nat) (s : State) : State :=
  let old := (s.port p).lastHigh
  let st := (s.port p).st
  let s := s.onPort p (fun x => { x with headTime := some t })
  let set := fun (u : State) => u.onPort p (fun x => { x with lastHigh := some t, lastHighAt := arrival })
  if st = .streaming then
    let back := match old with | none => false | some o => decide (2 ^ 39 ≤ headDiff t o)
    let err : Int := ((arrival - s.pEnt p 8 : Nat) : Int) - ((s.port p).mapped t : Nat)
    if back then set (s.portStall p 2)
    else if 500 < err.natAbs then set (s.portStall p 3)
    else set (s.onPort p (fun x => x.track (s.nominal p) t arrival err))
  else if st = .ready ∨ st = .stalled then set (s.acquire p t arrival)
  else s

/-- HEAD_TIME_SILENT (05 R175): 5 ms of device time without TIME_HIGH. -/
def execHeadTimeSilent (p : Fin 6) (s : State) : Host.Outcome State Fault Refusal :=
  .next (if (s.port p.val).st = .streaming ∧ (s.headType p.val = 1 ∨ s.headType p.val = 4) then
    (s.upTo ((s.port p.val).lastHighAt + 5000)).portStall p.val 1 else s)

/-! ### The event path (05 R178 to R184) -/

/-- The beat of a device time (02 R52), from the starts of the last beats. -/
def beatAt (l : List (Nat × Nat)) (t : Nat) : Nat :=
  match l with
  | [] => 0
  | (n, b) :: rest => if b ≤ t then n else beatAt rest t

/-- The beat a time belongs to, up to the end of the beat in progress; what lies past it waits for its beat. -/
def State.beatOf (s : State) (t : Nat) : Nat := beatAt s.beat.starts t

/-- Whether a time lies past the end of the beat in progress. -/
def State.pastBeat (s : State) (t : Nat) : Bool := decide (s.beat.start + s.beat.length ≤ t)

/-- Whether beat n is ingested and its window is open (02 R53); the last ingested beat keeps its grace after the boundary
at which ingest stops (log 62). -/
def State.windowOpen (s : State) (n : Nat) : Bool := s.beat.work.any (fun w => decide (w.beat = n) && !w.closed)

/-- Whether an event of beat n that is not injected is late: its window has closed (02 R53), or the fabric is halted at the
holdover limit, by this package's tracker, as a follower or with the precentor (02 R69, 11 R373). -/
def State.eventLate (s : State) (n : Nat) : Bool :=
  decide (n < s.beat.closing) || decide (s.beat.tracker = .halted) || decide (s.choir.beat = .halted) || s.choir.fabricHalted

/-- ACTIVE_PERIOD with which beat n began (log 62). -/
def State.periodOf (s : State) (n : Nat) : Nat :=
  ((s.beat.periods.find? (fun e => decide (e.1 = n))).map (fun e => e.2)).getD s.beat.activePeriod

/-- Counts one in an entry of port p. -/
def State.pCount (p sub : Nat) (s : State) : State := s.count (portIdx p) sub 1

/-- The key of a pixel. -/
def pixKey (x y : Nat) : Nat := y * 2048 + x

/-- Stage 6: injection (05 R178, 02 R53, R69; 07 R230). -/
def State.injectEvent (p n x y : Nat) (pol graded : Bool) (value : BitVec 8) (s : State) : State :=
  if s.windowOpen n = true then
    if (tabGet none s.fabric.ingestMaps p).isSome = true then
      (s.pCount p 0x10).onPort p (fun q => { q with injq := q.injq ++ [⟨n, x, y, pol, graded, value⟩] })
    else s.pCount p 0x14
  else if s.eventLate n then s.count 0x2100 0x18 1
  else s.pCount p 0x14

/-- Stage 5: the budget of the event's beat (05 R181). -/
def State.budgetStage (p n x y : Nat) (pol graded : Bool) (value : BitVec 8) (s : State) : State :=
  let e := s.force (portIdx p) 0xD
  let b := if e = 0 then 300 * s.periodOf n else e
  let c := if n = 0 then 0 else tabGet 0 (s.port p).budgetSeen (n - 1)
  let i := tabGet 0 (s.port p).budgetSeen n
  let kept := tabGet 0 (s.port p).budgetKept n
  let s := s.onPort p (fun q => { q with budgetSeen := tabPut 0 q.budgetSeen n (i + 1) })
  if (c ≤ b ∨ i * b / c < (i + 1) * b / c) ∧ kept < b then
    (s.onPort p (fun q => { q with budgetKept := tabPut 0 q.budgetKept n (kept + 1) })).injectEvent p n x y pol graded value
  else s.pCount p 0x13

/-- Stage 4: the refractory filter; what passes also counts in the event regions (05 R180, 12 R397). -/
def State.refractoryStage (p m n x y : Nat) (pol graded : Bool) (value : BitVec 8) (s : State) : State :=
  let r := s.force (portIdx p) 9
  let last := tabGet 0 (s.port p).refractory (pixKey x y)
  if r ≠ 0 ∧ last ≠ 0 ∧ m - (last - 1) < r ∧ m / 4 * 4 - (last - 1) / 4 * 4 < r then s.pCount p 0x12
  else
    let s := s.onPort p (fun q => { q with refractory := tabPut 0 q.refractory (pixKey x y) (m + 1) })
    (s.regionEvent p n x y).budgetStage p n x y pol graded value

/-- Stages 2 and 3 of an event of an event head, once its beat has begun (05 R178, R179). -/
def State.hotStage (p : Nat) (e : EarlyEvent) (s : State) : State :=
  let n := s.beatOf e.time
  if tabGet 0 (s.port p).hotTable (pixKey e.x e.y) = 256 then s.pCount p 0x11
  else
    let k := n * 2 ^ 22 + pixKey e.x e.y
    let s := if s.force (portIdx p) 0xA = 0 then s
      else s.onPort p (fun q => { q with hotCounts := tabPut 0 q.hotCounts k (min 15 (tabGet 0 q.hotCounts k + 1)) })
    s.refractoryStage p e.time n e.x e.y e.pol e.graded e.value

/-- Stage 1 of an event of an event head: its device time (05 R175, R178). One of a beat to come waits for it (02 R52). -/
def State.eventPath (p x y : Nat) (pol graded : Bool) (value : BitVec 8) (s : State) : State :=
  if (s.port p).st ≠ .streaming then s.pCount p 0x14
  else
    let m := max (s.port p).lastMapped ((s.port p).mapped ((s.port p).headTime.getD 0))
    let s := s.onPort p (fun q => { q with lastMapped := m })
    if s.pastBeat m then s.onPort p (fun q => { q with early := q.early ++ [⟨m, x, y, pol, graded, value⟩] })
    else s.hotStage p ⟨m, x, y, pol, graded, value⟩

/-- The events that waited for the beat that has just begun go on, in decode order; frames stamped past the last boundary
take their beat (02 R52). -/
def State.beatBegins (p : Nat) (s : State) : State :=
  let l := (s.port p).early
  let fix := fun (f : Frame) => if s.beat.start ≤ f.time then { f with beat := s.beatOf f.time } else f
  let s := s.onPort p (fun q => { q with
    early := q.early.filter (fun e => s.pastBeat e.time), frameAt := q.frameAt.map fix, frames := q.frames.map fix })
  l.foldl (fun u e => if u.pastBeat e.time then u else u.hotStage p e) s

/-- An event of a gate-array head: delivered to the zone counter (05 R184, 12 R395). -/
def State.beamPath (p x : Nat) (pol graded : Bool) (s : State) : State :=
  if (s.port p).st ≠ .streaming then s.pCount p 0x14
  else
    let m := max (s.port p).lastMapped ((s.port p).mapped ((s.port p).headTime.getD 0))
    let s := (s.onPort p (fun q => { q with lastMapped := m })).pCount p 0x10
    if graded then s else s.beamEvent p x pol m

/-- A decoded event: bounds first (05 R172). -/
def State.decoded (p x : Nat) (pol graded : Bool) (value : BitVec 8) (s : State) : State :=
  let y := (s.port p).row.getD 0
  if s.headField p 12 2 ≤ x ∨ s.headField p 14 2 ≤ y then s.pCount p 0x16
  else if s.headType p = 4 then s.beamPath p x pol graded
  else s.eventPath p x y pol graded value

/-! ### Decoding the Head Event Format (05 R171, R172) -/

/-- Whether events may be decoded: a TIME_HIGH and a ROW have come since READY. -/
def State.canDecode (s : State) (p : Nat) : Bool := (s.port p).headTime.isSome && (s.port p).row.isSome

/-- The events of a VECTOR and its MASK. -/
def State.vectorEvents (p : Nat) (v mask : Nat) (s : State) : State :=
  if bits v 11 16 ≠ 0 ∨ s.canDecode p = false then s.count (portIdx p) 0x16 2
  else
    (List.range 32).foldl (fun u i =>
      if mask.testBit i then u.decoded p (bits v 0 11 + i) (v.testBit 27) false 0 else u) s

/-- One word (05 R171, R172). -/
def State.hefWord (p arrival : Nat) (word : BitVec 32) (s : State) : State :=
  match (s.port p).vector with
  | some v => (s.onPort p (fun q => { q with vector := none })).vectorEvents p v.toNat word.toNat
  | none =>
    let w := word.toNat
    let bad := s.pCount p 0x16
    match bits w 28 4 with
    | 0x0 => if bits w 0 28 = 0 then s else bad
    | 0x1 => if bits w 11 17 = 0 then s.onPort p (fun q => { q with row := some (bits w 0 11) }) else bad
    | 0x2 =>
      if bits w 11 16 = 0 ∧ s.canDecode p = true then s.decoded p (bits w 0 11) (w.testBit 27) false 0 else bad
    | 0x3 => s.onPort p (fun q => { q with vector := some word })
    | 0x4 =>
      if bits w 11 9 = 0 ∧ s.canDecode p = true then s.decoded p (bits w 0 11) false true (BitVec.ofNat 8 (bits w 20 8))
      else bad
    | 0x8 => s.timeHigh p (bits w 0 28 * 4096) arrival
    | 0x9 =>
      if bits w 12 16 = 0 then
        s.onPort p (fun q => { q with headTime := q.headTime.map (fun t => t / 4096 * 4096 + bits w 0 12) })
      else bad
    | 0xA => if bits w 1 15 = 0 then s.count (portIdx p) 0x19 (bits w 16 12) else bad
    | _ => bad

/-- The words from the first TIME_HIGH on, none where there is none; a VECTOR takes its MASK with it (05 R174). -/
def fromTimeHigh : List (BitVec 32) → List (BitVec 32)
  | [] => []
  | [w] => if bits w.toNat 28 4 = 8 then [w] else []
  | w :: m :: t =>
    if bits w.toNat 28 4 = 8 then w :: m :: t
    else if bits w.toNat 28 4 = 3 then fromTimeHigh t
    else fromTimeHigh (m :: t)

/-- Words of a buffer, the oldest first, with their arrival times, and what stays. -/
def takeWords : Nat → List (Nat × List (BitVec 32)) → List (Nat × BitVec 32) × List (Nat × List (BitVec 32))
  | _, [] => ([], [])
  | n, (a, ws) :: t =>
    if ws.length ≤ n then (ws.map (fun w => (a, w)) ++ (takeWords (n - ws.length) t).1, (takeWords (n - ws.length) t).2)
    else ((ws.take n).map (fun w => (a, w)), (a, ws.drop n) :: t)

/-- Words in the port buffer. -/
def Port.fill (x : Port) : Nat := sumN (x.buffer.map (fun e => e.2.length))

/-- Words the port may decode up to an instant: 300 in each µs (05 R174; log 22). A port that was idle begins with that
µs. -/
def Port.budget (x : Port) (t : Nat) : Nat :=
  if x.buffer = [] ∧ x.bufAt < t then 300 else 300 - x.bufUsed + 300 * (t - x.bufAt)

/-- The words the port has had time to decode are decoded (05 R171, R174). -/
def State.portDrain (p : Nat) (s : State) : State :=
  let n := (s.port p).budget s.now
  let r := takeWords n (s.port p).buffer
  let s := s.onPort p (fun q => { q with buffer := r.2, bufAt := max q.bufAt s.now, bufUsed := 300 - (n - r.1.length) })
  r.1.foldl (fun u w => u.hefWord p w.1 w.2) s

/-- Every buffered word is decoded (05 R185). -/
def State.portEmpty (p : Nat) (s : State) : State :=
  let r := takeWords (s.port p).fill (s.port p).buffer
  r.1.foldl (fun u w => u.hefWord p w.1 w.2) (s.onPort p (fun q => { q with buffer := [] }))

/-- Words of a packet that the buffer takes (05 R174); the port goes on decoding. -/
def State.bufferWords (p arrival : Nat) (words : List (BitVec 32)) (s : State) : State :=
  let s := s.portDrain p
  if 65536 < (s.port p).fill + words.length then
    (s.onPort p (fun q => { q with skipping := true })).pCount p 0x15
  else
    let skip := (s.port p).skipping
    let ws := if skip then fromTimeHigh words else words
    let s := if skip then
        let t := s.onPort p (fun q => { q with skipping := decide (ws = []), vector := none })
        if ws.length < words.length then t.pCount p 0x15 else t
      else s
    (s.onPort p (fun q => { q with buffer := q.buffer ++ [(arrival, ws)] })).portDrain p

/-! ### FAULT, ABSENT and the commands of a port (05 R164, R185) -/

/-- Enters FAULT with a cause; words not decoded by now are discarded (05 R164, R185, R187). -/
def State.portFault (p cause : Nat) (s : State) : State :=
  let s := (s.portDrain p).portTo p .fault
  (s.onPort p (fun x => { x.forget.fuseOff s.now with cause := cause })).raiseCond 0xFF30 (8 + p) 0 (leBytes 1 cause)

/-- Becomes ABSENT once the buffered words are decoded; a removal or link loss sends EMCY 0xFF31 and clears the hot table
(05 R164, R179, R185, R187). -/
def State.portAbsent (p : Nat) (removed : Bool) (s : State) : State :=
  let old := (s.port p).st
  let s := (s.portEmpty p).portTo p .absent
  let s := s.onPort p (fun x => x.forget.fuseOff s.now)
  if removed then (s.onPort p (fun x => { x with hotTable := [], hotCounts := [] })).emcyEvent 0xFF31 (8 + p) (leBytes 1 old.code)
  else s

/-- Enters POWERING from ABSENT (05 R164). -/
def State.portStart (p : Nat) (s : State) : State :=
  (s.portTo p .powering).count (portIdx p) 0x1B 1

/-- PORT_INSERTION (05 R160, R164). -/
def execPortInsertion (p : Fin 6) (s : State) : Host.Outcome State Fault Refusal :=
  .next (if s.portCount ≤ p.val ∨ (s.port p.val).present = true then s
    else
      let s := s.onPort p.val (fun x => { x with present := true })
      if s.boot.st = .running ∧ (s.port p.val).st = .absent ∧ s.pEnt p.val 2 = 1 then s.portStart p.val else s)

/-- PORT_REMOVAL (05 R160, R164, R185). -/
def execPortRemoval (p : Fin 6) (s : State) : Host.Outcome State Fault Refusal :=
  .next (if s.portCount ≤ p.val ∨ (s.port p.val).present = false then s
    else
      let s := s.onPort p.val (fun x => { x with present := false, hotTable := [], hotCounts := [] })
      if (s.port p.val).st = .absent then s else s.portAbsent p.val true)

/-- PORT_LINK_LOSS (05 R159, R164): no high-speed clock for 10 ms in STREAMING or STALLED. -/
def execPortLinkLoss (p : Fin 6) (s : State) : Host.Outcome State Fault Refusal :=
  .next (if (s.port p.val).st = .streaming ∨ (s.port p.val).st = .stalled then s.portAbsent p.val true else s)

/-- A write of PORT_ENABLE (05 R164). -/
def State.portEnable (p v : Nat) (s : State) : Nat × State :=
  let was := s.pEnt p 2
  let s := s.writeEnt (portIdx p) 2 v
  (0, if v = 0 then (if (s.port p).st = .absent then s else s.portAbsent p false)
      else if was = 0 ∧ (s.port p).st = .absent ∧ (s.port p).present = true then s.portStart p else s)

/-- PORT_COMMAND 1, a rescan; words not decoded by now are discarded (05 R164, R185). -/
def State.portRescan (p : Nat) (s : State) : Nat × State :=
  if s.pEnt p 2 = 0 ∨ ((s.port p).st = .absent ∧ (s.port p).present = false) then (0x08000020, s)
  else if (s.port p).st = .absent then (0, s.portStart p)
  else
    let s := (s.portDrain p).portTo p .powering
    (0, s.onPort p (fun x => { x.forget.fuseOff s.now with hotTable := [], hotCounts := [] }))

/-- PORT_COMMAND (05 R186). -/
def State.portCommand (p v : Nat) (s : State) : Nat × State :=
  if v = 1 then s.portRescan p
  else if v = 2 then (0, s.onPort p (fun x => { x with hotTable := [], hotCounts := [] }))
  else (0x06090030, s)

/-- PORT_ENABLE_WRITE (05 R164). -/
def execPortEnableWrite (p : Fin 6) (on : Bool) (s : State) : Host.Outcome State Fault Refusal :=
  .next (s.guarded (portIdx p.val) 2 (b2n on) (State.portEnable p.val (b2n on)))

/-- PORT_RESCAN (05 R164). -/
def execPortRescan (p : Fin 6) (s : State) : Host.Outcome State Fault Refusal :=
  .next (s.guarded (portIdx p.val) 3 1 (State.portCommand p.val 1))

/-- PORT_CLEAR_HOT_TABLE (05 R179, R186). -/
def execPortClearHotTable (p : Fin 6) (s : State) : Host.Outcome State Fault Refusal :=
  .next (s.guarded (portIdx p.val) 3 2 (State.portCommand p.val 2))

/-- EFUSE_ON (05 R164, R165): the e-fuse of a POWERING port turns on once it has been off for 100 ms; one that has not been
on since power-on has (log 67). -/
def execEfuseOn (p : Fin 6) (s : State) : Host.Outcome State Fault Refusal :=
  .next (if (s.port p.val).st = .powering ∧ (s.port p.val).efuse = false then
    let s := s.upTo (match (s.port p.val).efuseAt with | none => s.now | some t => t + 100000)
    s.onPort p.val (fun x => { x with efuse := true, efuseAt := some s.now })
    else s)

/-- IDENTIFY_START (05 R164): 100 ms after the e-fuse turned on. -/
def execIdentifyStart (p : Fin 6) (s : State) : Host.Outcome State Fault Refusal :=
  .next (if (s.port p.val).st = .powering ∧ (s.port p.val).efuse = true then
    let s := s.upTo (((s.port p.val).efuseAt.getD 0) + 100000)
    (s.onPort p.val (fun x => { x with attempts := 1, acked := false, reading := true, readAt := s.now })).portTo p.val .identifying
    else s)

/-- IDENTITY_READ_RETRY (05 R166): the next attempt, 20 ms after the last one began (log 67). -/
def execIdentityReadRetry (p : Fin 6) (s : State) : Host.Outcome State Fault Refusal :=
  .next (if (s.port p.val).st = .identifying ∧ (s.port p.val).reading = false then
    let s := s.upTo ((s.port p.val).readAt + 20000)
    s.onPort p.val (fun x => { x with attempts := x.attempts + 1, reading := true, readAt := s.now })
    else s)

/-- Enters READY with a record (05 R164, R168, R172, R187). -/
def State.portReady (p : Nat) (r : List Byte) (region : Option (Nat × Nat)) (s : State) : State :=
  let s := match region with | none => s | some g => s.ungateFor g.1
  let s := s.onPort p (fun x => { x.forget with
    record := r, powerMw := numAt r 20 2, region := region, lastMapped := 0, refractory := [], budgetSeen := [],
    budgetKept := [],
    scale := if numAt r 24 4 = 0 then 0 else (2 * 10 ^ 6 * 2 ^ 40 + numAt r 24 4) / (2 * numAt r 24 4) })
  (s.portTo p .ready).book 0xE100 (8 + p) 0
    (leBytes 1 (recType r) ++ leBytes 2 (recW r) ++ leBytes 2 (recH r) ++ leBytes 2 (numAt r 20 2) ++ slice r 60 16)

/-- The checks at the end of identification, in the order of the table's row (05 R164). -/
def State.portChecks (p : Nat) (r : List Byte) (s : State) : State :=
  let budget := decide (s.committedMw - s.portPower p + numAt r 20 2 ≤ s.ent 0x2200 0xD)
  let need := regionNeed r
  let region := if need = 0 then none else s.findRegion p need s.nvm.claims
  if recFieldsOk r s.power.vport = false then s.portFault p 4
  else if s.power.vport < numAt r 22 2 then s.portFault p 2
  else if streamOk r = false then s.portFault p 5
  else if budget = false then s.portFault p 6
  else if need ≠ 0 ∧ region = none then s.portFault p 7
  else if 248832000 * 1000 < s.rateInUse p + pixelRate r then s.portFault p 8
  else s.portReady p r region

/-- IDENTITY_READ_COMPLETE (05 R162, R164, R166, R167, R169, R183): a failed attempt waits for the next one, and the
third decides between causes 3 and 4. -/
def execIdentityReadComplete (p : Fin 6) (ack : Bool) (rec : List Byte) (s : State) : Host.Outcome State Fault Refusal :=
  .next (if (s.port p.val).st = .identifying ∧ (s.port p.val).reading = true then
    let r := slice rec 0 256
    let s := s.onPort p.val (fun x => { x with acked := x.acked || ack, reading := false })
    if ack = true ∧ recCrcOk r = true then s.portChecks p.val r
    else if 3 ≤ (s.port p.val).attempts then s.portFault p.val (if (s.port p.val).acked then 4 else 3)
    else s
    else s)

/-- PORT_READY_TIMEOUT (05 R164): 1000 ms in READY. -/
def execPortReadyTimeout (p : Fin 6) (s : State) : Host.Outcome State Fault Refusal :=
  .next (if (s.port p.val).st = .ready then (s.upTo ((s.port p.val).since + 1000000)).portFault p.val 11 else s)

/-- PORT_STALL_TIMEOUT (05 R164): 1000 ms in STALLED. -/
def execPortStallTimeout (p : Fin 6) (s : State) : Host.Outcome State Fault Refusal :=
  .next (if (s.port p.val).st = .stalled then (s.upTo ((s.port p.val).since + 1000000)).portFault p.val 9 else s)

/-- EFUSE_TRIP (15 R491, 05 R161, R164): reasons 1 to 5 of record 0xE7D2. -/
def execEfuseTrip (p : Fin 6) (reason : Fin 6) (s : State) : Host.Outcome State Fault Refusal :=
  .next (if (s.port p.val).efuse = true ∧ reason.val ≠ 0 then
    (s.portFault p.val 1).book 0xE7D2 2 1 (leBytes 1 p.val ++ leBytes 1 reason.val)
    else s)

/-- A discarded packet; more than 1000 within 1 s fault the port (05 R158). -/
def State.csiDiscard (p : Nat) (s : State) : State :=
  let s := (s.onPort p (fun q => { q with
    csiDiscards := s.now :: q.csiDiscards.filter (fun t => decide (s.now < t + 1000000)) })).pCount p 0x17
  if 1000 < (s.port p).csiDiscards.length then s.portFault p 10 else s

/-- Payload bytes of a line of w samples: 8, 10, 12 or 16 bits each as CSI-2 packs them (log 67). -/
def lineLen (dt w : Nat) : Nat :=
  if dt = 0x2B then (10 * w + 7) / 8 else if dt = 0x2C then (12 * w + 7) / 8 else if dt = 0x1E then 2 * w else w

/-- CSI2_PACKET (05 R157, R158, R171 to R184): a long packet at a port whose receiver is on. -/
def execCsi2Packet (p : Fin 6) (k : CsiPacket) (s : State) : Host.Outcome State Fault Refusal :=
  .next (if s.headType p.val = 0 then s
    else
      let s := s.upTo k.arrival
      if k.eccBad = true ∨ k.crcBad = true ∨ k.vc ≠ s.headField p.val 7 1 ∨ k.dt ≠ s.headField p.val 10 1 then s.csiDiscard p.val
      else if s.headType p.val = 1 ∨ s.headType p.val = 4 then s.bufferWords p.val k.arrival k.words
      else if (s.port p.val).frameAt.isSome = true then
        s.onPort p.val (fun q => { q with
          frameLines := k.words :: q.frameLines,
          frameBad := q.frameBad || decide (k.len ≠ lineLen k.dt (s.headField p.val 12 2)) })
      else s)

/-! ### Frames (05 R182, 16 R502) -/

/-- Drops the frame being received (05 R182). -/
def State.frameDrop (p : Nat) (s : State) : State :=
  match (s.port p).frameAt with
  | none => s
  | some f => ((s.onPort p (fun q => { q with frameAt := none, frameLines := [], frameBad := false })).pCount p 0x1A).videoFrameDrop p f.time

/-- Frees the slot a new frame takes: a free one, else the oldest that no reader holds (16 R502). -/
def State.frameSlot (p : Nat) (s : State) : Bool × State :=
  let l := (s.port p).frames
  if l.length < 4 then (true, s)
  else match findAt (fun f => !s.videoHolds p f) l.reverse with
    | none => (false, s)
    | some (i, _) => (true, s.onPort p (fun q => { q with frames := (q.frames.reverse.eraseIdx i).reverse }))

/-- FRAME_START (05 R164, R182; 16 R502, R506): a frame that finds no slot is dropped and counted. -/
def execFrameStart (p : Fin 6) (arrival : Nat) (s : State) : Host.Outcome State Fault Refusal :=
  .next (if s.headType p.val = 2 ∨ s.headType p.val = 3 then
    let s := (s.upTo arrival).frameDrop p.val
    let s := if (s.port p.val).st = .ready then s.portTo p.val .streaming else s
    match s.frameSlot p.val with
    | (false, t) => t.pCount p.val 0x1A
    | (true, t) =>
      let time := arrival - t.pEnt p.val 8
      let f : Frame := { time := time, beat := t.beatOf time, width := t.headField p.val 12 2,
                         height := t.headField p.val 14 2, dataType := t.headField p.val 10 1, lines := [],
                         speed := mmPerS t.belt.speed, complete := false }
      (t.onPort p.val (fun q => { q with frameAt := some f, frameLines := [], frameBad := false })).videoFrameStart p.val f
    else s)

/-- FRAME_END (05 R182; 16 R502, R504, R506): a frame with the record's lines, each of the record's length, is complete. -/
def execFrameEnd (p : Fin 6) (s : State) : Host.Outcome State Fault Refusal :=
  .next (match (s.port p.val).frameAt with
    | none => s
    | some f =>
      if (s.port p.val).frameBad = false ∧ (s.port p.val).frameLines.length = f.height then
        let g : Frame := { f with lines := (s.port p.val).frameLines.reverse, complete := true }
        (s.onPort p.val (fun q => { q with frameAt := none, frameLines := [], frameBad := false, frames := g :: q.frames })).videoFrameEnd
          p.val g
      else s.frameDrop p.val)

/-! ### Hot pixels (05 R179) -/

/-- One pixel over the threshold: a candidate counts on, a new one enters if there is room. -/
def State.hotPixel (p pix beats : Nat) (s : State) : State :=
  let v := tabGet 0 (s.port p).hotTable pix
  if v = 256 then s
  else if v = 0 ∧ 4096 ≤ (s.port p).hotTable.length then s.pCount p 0x1C
  else
    let n := v + 1
    let s := s.onPort p (fun q => { q with hotTable := tabPut 0 q.hotTable pix (if beats ≤ n then 256 else n) })
    if beats ≤ n then s.book 0xE103 (8 + p) 0 (leBytes 2 (pix % 2048) ++ leBytes 2 (pix / 2048)) else s

/-- The hot-pixel update of a port when the window of beat n closes. -/
def State.hotUpdate (p n : Nat) (s : State) : State :=
  let h := s.force (portIdx p) 0xA
  let busy := if h = 0 then []
    else ((s.port p).hotCounts.filter (fun e => decide (e.1 / 2 ^ 22 = n) && decide (h < e.2))).map (fun e => e.1 % 2 ^ 22)
  let s := busy.foldl (fun u k => u.hotPixel p k (u.force (portIdx p) 0xB)) s
  s.onPort p (fun q => { q with
    hotTable := q.hotTable.filter (fun e => decide (e.2 = 256) || busy.contains e.1),
    hotCounts := tabDrop q.hotCounts (fun k => decide (k / 2 ^ 22 ≤ n)),
    budgetSeen := tabDrop q.budgetSeen (fun k => decide (k + 2 ≤ n)),
    budgetKept := tabDrop q.budgetKept (fun k => decide (k + 2 ≤ n)) })

/-- HOT_MASKED. -/
def State.hotMasked (s : State) (p : Nat) : Nat := ((s.port p).hotTable.filter (fun e => decide (e.2 = 256))).length

/-! ### Reset, boot and image switch (05 R165, R170, R181) -/

/-- A device reset: e-fuses off, ports ABSENT; presence and the e-fuse's off time go on (05 R165). -/
def State.portsReset (s : State) : State :=
  (List.range 6).foldl (fun t p => (t.portTo p .absent).onPort p (fun x =>
    { present := x.present, efuseAt := (x.fuseOff t.now).efuseAt })) s

/-- After boot each enabled port with an active presence input starts (05 R165). -/
def State.portsBegin (s : State) : State :=
  (List.range s.portCount).foldl (fun t p =>
    if (t.port p).present && decide (t.pEnt p 2 = 1) && decide ((t.port p).st = .absent) then t.portStart p else t) s

/-- Moves the reservations that overlap new claims (05 R170). -/
def State.moveRegions (claims : List Nat) (s : State) : State :=
  (List.range 6).foldl (fun t p => match (t.port p).region with
    | none => t
    | some (a, n) =>
      let hit := (List.range 5).any (fun k => overlaps a n (sliceBase k) (1024 * claims.getD k 0))
      if hit = false then t
      else match t.findRegion p n claims with
        | none => t.portFault p 7
        | some r => (t.ungateFor r.1).onPort p (fun x => { x with region := some r })) s

/-- The writes of port configuration that act at the next beat boundary (05 R181). -/
def portBoundarySubs : List Nat := [9, 0xA, 0xB, 0xD]

end Sys2Proof.Machine
end

