-- ==== Sys2Proof/Machine/Voice.lean ====
section
/-! DEFINITION. The voice cores: local memory, dynamics programs, synapse partitions, loading (06_voice_cores.md). -/

namespace Sys2Proof.Machine

/-! ### Local memory (06 R189, R190, 01 R29) -/

/-- s0 to s3 of slot k. -/
def slotState (c k : Nat) : Nat := coreBase c + 8 * k
/-- Stave entry e of slot k. -/
def slotStave (c k e : Nat) : Nat := coreBase c + 0x2000 + 64 * k + 4 * e
/-- Instruction i of dynamics program p. -/
def progWord (c p i : Nat) : Nat := coreBase c + 0x12000 + 256 * p + 8 * i
/-- The descriptor of slot k. -/
def slotDesc (c k : Nat) : Nat := coreBase c + 0x12800 + 24 * k
/-- Arena byte a. -/
def arenaByte (c a : Nat) : Nat := coreBase c + 0x18800 + a
/-- Bytes of the arena. -/
def arenaSize : Nat := 96256
/-- Bytes of local memory. -/
def windowSize : Nat := 0x30000

/-- A field of a slot descriptor. -/
def State.slotF (s : State) (c k off n : Nat) : Nat := s.memNum (slotDesc c k + off) n
/-- ENABLED. -/
def State.slotOn (s : State) (c k : Nat) : Bool := (s.slotF c k 6 1).testBit 7
/-- ALWAYS. -/
def State.slotAlways (s : State) (c k : Nat) : Bool := (s.slotF c k 6 1).testBit 6
/-- RANK. -/
def State.slotRank (s : State) (c k : Nat) : Nat := bits (s.slotF c k 6 1) 3 3
/-- PROGRAM. -/
def State.slotProg (s : State) (c k : Nat) : Nat := bits (s.slotF c k 6 1) 0 3
/-- FANOUT_COUNT. -/
def State.slotFanCount (s : State) (c k : Nat) : Nat := bits (s.slotF c k 7 1) 1 7
/-- FANOUT_MODE is TREE. -/
def State.slotTree (s : State) (c k : Nat) : Bool := (s.slotF c k 7 1).testBit 0

/-- A register of the block of core c (06 R213). -/
def State.coreReg (s : State) (c off : Nat) : Nat := s.reg (0x20 + c / 64) (0x8000 + 0x100 * (c % 64) + off)
/-- FANOUT_ENTRIES. -/
def State.fanEntries (s : State) (c : Nat) : Nat := bits (s.coreReg c 0x0C) 16 16
/-- Where the fanout table starts in the arena (R212). -/
def State.fanBase (s : State) (c : Nat) : Nat := 8 * bits (s.coreReg c 0x0C) 0 16
/-- Register o of partition p. -/
def State.partReg (s : State) (c p o : Nat) : Nat := s.coreReg c (0x10 + 0x20 * p + o)

/-- Whether a core exists and its tile is powered (06 R219). -/
def State.coreUp (s : State) (c : Nat) : Bool := s.tileUp (tileOf c)

/-! ### The fabric ledger (07 R243) -/

/-- Adds to a term of the ledger of a target beat: 0 injected, 1 delivered, 2 shed, 3 unrouted. -/
def State.ledger (target term n : Nat) : State → State :=
  State.onFabric (fun f => { f with
    ledger := tabMod 0 f.ledger (target % 16 * 4 + term) (fun w => w + BitVec.ofNat 32 n) })

/-- A core's own access meets an uncorrectable error: it enters FAULT (06 R191, R217). -/
def State.coreFault (c : Nat) (s : State) : State :=
  (s.onCore c (fun x => { x with st := .fault, committing := false })).raiseCond 0x5000 (0x20 + tileOf c) c (leBytes 1 c)

/-! ### Dynamics programs (06 R201 to R205) -/

/-- What a run of a program holds: the operand registers 0x0 to 0xA in order, the full DT, F and the fired mark with
its payload. -/
structure Dyn where
  regs : List Int
  dt : Nat
  f : Bool := false
  fired : Option Nat := none
deriving DecidableEq, Repr

/-- Saturation to INT16. -/
def sat16 (i : Int) : Int := clampI (-32768) 32767 i

/-- An operand. -/
def Dyn.get (d : Dyn) (o : Nat) : Int := d.regs.getD o 0

/-- Writes a result, saturated. -/
def Dyn.put (o : Nat) (v : Int) (d : Dyn) : Dyn := { d with regs := setAt d.regs o (sat16 v) }

/-- The factor f^DT of LEAKX (R204) by squaring; fuel covers the 16 bits of DT. -/
def leakFactor : Nat → Nat → Nat → Nat → Nat
  | 0, p, _, _ => p
  | k + 1, p, base, n =>
    if n = 0 then p
    else leakFactor k (if n % 2 = 1 then (p * base + 32768) / 65536 else p) ((base * base + 32768) / 65536) (n / 2)

/-- LEAKX (R204). -/
def leakX (a : Int) (f dt : Nat) : Int := sat16 ((a * (leakFactor 17 65536 f dt : Nat) + 32768) / 65536)

/-- LEAKL (R203). -/
def leakL (a b : Int) (dt : Nat) : Int :=
  let step : Int := min a.natAbs ((dt : Int) * max b 0)
  if a < 0 then a + step else a - step

/-- CMP's condition (R203). -/
def cmpCond (k : Nat) (a b : Int) : Bool :=
  match k with
  | 0 => decide (a = b)
  | 1 => decide (a ≠ b)
  | 2 => decide (a < b)
  | 3 => decide (a ≤ b)
  | 4 => decide (a > b)
  | _ => decide (a ≥ b)

/-- Fields of an instruction word (R202). -/
def opOf (w : Nat) : Nat := bits w 58 6
/-- IMM. -/
def immOf (w : Nat) : Bool := w.testBit 57
/-- DST. -/
def dstOf (w : Nat) : Nat := bits w 52 4
/-- SRCA. -/
def srcAOf (w : Nat) : Nat := bits w 48 4
/-- SRCB. -/
def srcBOf (w : Nat) : Nat := bits w 44 4
/-- AUX. -/
def auxOf (w : Nat) : Nat := bits w 40 4
/-- IMM16, unsigned. -/
def imm16Of (w : Nat) : Nat := bits w 16 16

/-- One instruction other than END (R203). -/
def Dyn.exec (w : Nat) (d : Dyn) : Dyn :=
  let a := d.get (srcAOf w)
  let b := if immOf w then sext 16 (imm16Of w) else d.get (srcBOf w)
  match opOf w with
  | 0x01 => d.put (dstOf w) b
  | 0x02 => d.put (dstOf w) (a + b)
  | 0x03 => d.put (dstOf w) (a - b)
  | 0x04 => d.put (dstOf w) ((a * b + (if auxOf w = 0 then 0 else (2 ^ (auxOf w - 1) : Nat))) / (2 ^ auxOf w : Nat))
  | 0x05 => { d with f := cmpCond (auxOf w) a b }
  | 0x06 => d.put (dstOf w) (if d.f then a else b)
  | 0x07 => d.put (dstOf w) (min (max a (d.get (srcBOf w))) (sext 16 (imm16Of w)))
  | 0x08 => d.put (dstOf w) (leakX a (imm16Of w) d.dt)
  | 0x09 => d.put (dstOf w) (leakL a b d.dt)
  | 0x0A => if auxOf w % 2 = 1 ∨ d.f = true then { d with fired := some (clampI 0 255 b).toNat } else d
  | 0x0B => if d.f then d.put (dstOf w) b else d
  | _ => d

/-- A program: up to END or past instruction 31 (R201). -/
def runDyn : List Nat → Dyn → Dyn
  | [], d => d
  | w :: t, d => if opOf w = 0 then d else runDyn t (d.exec w)

/-- The 32 words of a program. -/
def State.program (s : State) (c p : Nat) : List Nat := (List.range 32).map (fun i => s.memNum (progWord c p i) 8)

/-- The run of slot k of core c in beat n (R195 steps 2 to 4, R201). -/
def State.runSlot (s : State) (c k n : Nat) : Dyn :=
  let dt := min 65535 (n - s.slotF c k 0 6)
  let sv := (List.range 4).map (fun i => sext 16 (s.memNum (slotState c k + 2 * i) 2))
  runDyn (s.program c (s.slotProg c k))
    { regs := sv ++ [sat16 (sext 32 (s.memNum (slotStave c k (n % 16)) 4)), (min dt 32767 : Nat), 0, 0, 0, 0, 0], dt := dt }

/-! ### Fanout (06 R211, R212) -/

/-- A SPIKE packet of core c sent in rank r of beat n. -/
def State.spike (s : State) (c n r key delay payload : Nat) : Flit :=
  { pkt := { key := BitVec.ofNat 32 key, payload := BitVec.ofNat 8 payload, tag := BitVec.ofNat 4 n,
             delay := BitVec.ofNat 4 delay, type := 1, srcPkg := BitVec.ofNat 4 s.choir.ownId, srcCore := BitVec.ofNat 8 c },
    target := n + delay, stage := n, rank := r }

/-- The packets of a firing slot. -/
def State.fanout (s : State) (c k n r payload : Nat) : List Flit :=
  if s.slotTree c k then
    [s.spike c n r (bits (s.coreReg c 0x08) 0 22 * 1024 + k) (bits (s.slotF c k 10 1) 0 4) payload]
  else (List.range (s.slotFanCount c k)).map (fun i =>
    let a := arenaByte c (s.fanBase c + 8 * (s.slotF c k 8 2 + i))
    s.spike c n r (s.memNum a 4) (bits (s.memNum (a + 4) 1) 0 4) payload)

/-! ### Evaluation (06 R195) -/

/-- Whether a slot's stave entry is touched. -/
def State.touchedAt (s : State) (c k e : Nat) : Bool := tabGet false (s.core c).touched (k * 16 + e)

/-- Whether a run of a program reads a word that ECC cannot correct: it reads its words in order, up to END. -/
def State.progBad (s : State) (c p : Nat) : List Nat → Bool
  | [] => false
  | i :: t => s.poisoned (progWord c p i) 8 || (decide (opOf (s.memNum (progWord c p i) 8) ≠ 0) && s.progBad c p t)

/-- Whether the evaluation of a slot meets an uncorrectable error (R217): in its descriptor, its state, the entry it
consumes, the instructions it runs, and, once it fires, the fanout entries it sends from. -/
def State.slotBad (s : State) (c k n : Nat) : Bool :=
  s.poisoned (slotDesc c k) 24 || s.poisoned (slotState c k) 8 || s.poisoned (slotStave c k (n % 16)) 4
  || s.progBad c (s.slotProg c k) (List.range 32)
  || ((s.runSlot c k n).fired.isSome && !s.slotTree c k && s.slotFanCount c k != 0
      && s.poisoned (arenaByte c (s.fanBase c + 8 * s.slotF c k 8 2)) (8 * s.slotFanCount c k))

/-- The evaluation of one slot, steps 1 to 6 of R195. -/
def State.evalSlot (c k n r : Nat) (s : State) : State :=
  let d := s.runSlot c k n
  let u := ((s.putBytes (slotStave c k (n % 16)) (leBytes 4 0)).putBytes (slotState c k)
    ((List.range 4).flatMap (fun i => leBytes 2 (toBits 16 (d.get i))))).putBytes (slotDesc c k) (leBytes 6 n)
  let v := u.onCore c (fun x => { x with touched := tabPut false x.touched (k * 16 + n % 16) false })
  match d.fired with
  | none => v
  | some p =>
    ((v.onCore c (fun x => { x with outbox := x.outbox ++ s.fanout c k n r p })).count (coreIdx c) 4 1).onFabric
      (fun f => { f with fires := satAdd max32 f.fires 1 })

/-- What a core does with one slot in rank r: nothing, an evaluation, or entry to FAULT. It reads the descriptor of every
slot to find those of the rank (DEDUCED from R195, log 70). -/
def State.rankSlot (c n r k : Nat) (s : State) : State :=
  if (s.core c).st ≠ .running then s
  else if s.poisoned (slotDesc c k) 24 then s.coreFault c
  else if s.slotOn c k ∧ s.slotRank c k = r ∧ (s.touchedAt c k (n % 16) = true ∨ s.slotAlways c k = true) then
    (if s.slotBad c k n then s.coreFault c else s.evalSlot c k n r)
  else s

/-- Rank r of beat n in one core. -/
def State.rankCore (n r c : Nat) (s : State) : State := (List.range 1024).foldl (fun u k => u.rankSlot c n r k) s

/-- Rank r of beat n in every core (R195). -/
def State.evalRank (n r : Nat) (s : State) : State := (List.range 256).foldl (fun u c => u.rankCore n r c) s

/-- Clears what entry n mod 16 of a core still holds: at the end of a stage only slots with ENABLED 0 (R190), in a
shed stage every slot not yet evaluated (R198). -/
def State.clearStaves (n c : Nat) (s : State) : State :=
  let keys := ((s.core c).touched.filter (fun e => e.2 && decide (e.1 % 16 = n % 16))).map (fun e => e.1)
  (keys.foldl (fun u k => u.putBytes (slotStave c (k / 16) (n % 16)) (leBytes 4 0)) s).onCore c
    (fun x => { x with touched := tabDrop x.touched (fun k => decide (k % 16 = n % 16)), oldest := n + 1 })

/-- Clears the entries of beat n in every running core. -/
def State.clearAllStaves (n : Nat) (s : State) : State :=
  (List.range 256).foldl (fun u c => if (u.core c).st = .running then u.clearStaves n c else u) s

/-- Every core returns from RUNNING to LOADED (R191). -/
def State.coresStop (s : State) : State :=
  (List.range 256).foldl (fun u c =>
    if (u.core c).st = .running then u.onCore c (fun x => { x with st := .loaded }) else u) s

/-- Reinitialisation of one slot at era boundary e (R199). -/
def State.reinitSlot (c e k : Nat) (s : State) : State :=
  (s.putBytes (slotState c k) (s.bytesAt (slotDesc c k + 16) 8)).putBytes (slotDesc c k) (leBytes 6 e)

/-- Reinitialisation of a LOADED core (R199); an uncorrectable error in its slot table takes it to FAULT (R217). -/
def State.reinitCore (e c : Nat) (s : State) : State :=
  if (s.core c).st ≠ .loaded then s
  else if s.poisoned (slotDesc c 0) 24576 then s.coreFault c
  else
    let u := (List.range 1024).foldl (fun u k => u.reinitSlot c e k)
      { s with mem := memClear s.mem (slotStave c 0 0) 0x10000 }
    u.onCore c (fun x => { x with st := .running, touched := [], oldest := e })

/-- Reinitialisation of every core, with the ledger sets cleared (R199, 07 R244). -/
def State.reinitAll (e : Nat) (s : State) : State :=
  ((List.range 256).foldl (fun u c => u.reinitCore e c) s).onFabric (fun f => { f with ledger := [], updates := [] })

/-! ### Synapse partitions (06 R206 to R209) -/

/-- Whether a partition is enabled and matches a key (R206). -/
def State.partMatch (s : State) (c p key : Nat) : Bool :=
  (s.partReg c p 8).testBit 31 && decide (key &&& s.partReg c p 4 = s.partReg c p 0)

/-- Target slot and weight byte of an output of a KERNEL partition, none where R208 takes no output. -/
def kernelTap (base g0 g1 g2 off ci x y oc kx ky : Nat) : Option (Nat × Nat) :=
  let k := bits g0 0 4
  let st := bits g0 4 4
  let cIn := bits g0 8 8
  let cOut := bits g0 16 8
  let nx := x + (k - 1) / 2
  let ny := y + (k - 1) / 2
  let ox := (nx - kx) / st
  let oy := (ny - ky) / st
  let w := bits g2 0 11
  if kx ≤ nx ∧ ky ≤ ny ∧ (nx - kx) % st = 0 ∧ (ny - ky) % st = 0
      ∧ bits g1 0 11 ≤ ox ∧ ox < bits g1 0 11 + w ∧ bits g1 16 11 ≤ oy ∧ oy < bits g1 16 11 + bits g2 16 11 then
    some (base + ((oy - bits g1 16 11) * w + (ox - bits g1 0 11)) * cOut + oc, off + ((oc * cIn + ci) * k + ky) * k + kx)
  else none

/-- The contributions of an event to a partition as target slot, weight byte and shift; none when it is out of the
input range (R208, R209). -/
def State.contribs (s : State) (c p key : Nat) : Option (List (Nat × Nat × Nat)) :=
  let base := bits (s.partReg c p 0xC) 0 10
  let off := bits (s.partReg c p 8) 0 17
  let shift := bits (s.partReg c p 8) 25 4
  let g0 := s.partReg c p 0x10
  if bits (s.partReg c p 8) 29 2 = 0 then
    let ci := bits key 22 5
    if bits g0 8 8 ≤ ci then none
    else some ((List.range (bits g0 16 8)).flatMap (fun oc => (List.range (bits g0 0 4)).flatMap (fun ky =>
      (List.range (bits g0 0 4)).filterMap (fun kx =>
        (kernelTap base g0 (s.partReg c p 0x14) (s.partReg c p 0x18) off ci (bits key 0 11) (bits key 11 11) oc kx ky).map
          (fun r => (r.1, r.2, shift))))))
  else
    let row := key &&& (0xFFFFFFFF - s.partReg c p 4)
    let cols := bits g0 16 16
    if bits g0 0 16 ≤ row then none
    else some ((List.range cols).map (fun j => (base + j, off + row * cols + j, shift)))

/-- What an event does in a core: the contributions of every partition it matches within the input range, none when
there is no such partition. -/
def State.eventTaps (s : State) (c key : Nat) : Option (List (Nat × Nat × Nat)) :=
  let l := ((List.range 4).filter (fun p => s.partMatch c p key)).filterMap (fun p => s.contribs c p key)
  if l.isEmpty then none else some l.flatten

/-- One contribution: w × PAYLOAD × 2^WEIGHT_SHIFT, added wrapping; the entry is marked touched (R194, R207). -/
def State.contribute (c e payload : Nat) (tap : Nat × Nat × Nat) (s : State) : State :=
  let a := slotStave c tap.1 e
  let w := sext 8 (s.memNum (arenaByte c tap.2.1) 1)
  let v := (s.memNum a 4 : Int) + w * (payload : Int) * (2 ^ tap.2.2 : Nat)
  (s.putBytes a (leBytes 4 (toBits 32 v))).onCore c (fun x => { x with touched := tabPut false x.touched (tap.1 * 16 + e) true })

/-- Whether applying an event meets an uncorrectable error (R217). -/
def State.tapsBad (s : State) (c e : Nat) (taps : List (Nat × Nat × Nat)) : Bool :=
  taps.any (fun t => s.poisoned (slotStave c t.1 e) 4 || s.poisoned (arenaByte c t.2.1) 1)

/-- Whether a packet of rank r with DELAY 0 targets an ENABLED slot of rank r or lower (R196). -/
def State.rankBreach (s : State) (c : Nat) (f : Flit) (taps : List (Nat × Nat × Nat)) : Bool :=
  decide (f.pkt.type = 1) && decide (f.pkt.delay = 0)
  && taps.any (fun t => s.slotOn c t.1 && decide (s.slotRank c t.1 ≤ f.rank))

/-- What a core does with an event packet it accepts (R193 to R196, R206, R217, 07 R243). Only a RUNNING core accumulates
into its staves and can fault on it (R217); in DISABLED, LOADING and LOADED a packet is matched and counted, and adds
nothing (DEDUCED, log 70). -/
def State.acceptEvent (c : Nat) (f : Flit) (s : State) : State :=
  if (s.core c).st = .fault then s.ledger f.target 2 1
  else
    match s.eventTaps c f.pkt.key.toNat with
    | none =>
      (((s.count (coreIdx c) 2 1).count (coreIdx c) 6 1).count 0x4000 5 1).ledger f.target 3 1
    | some taps =>
      if (s.core c).st ≠ .running then (s.count (coreIdx c) 2 1).ledger f.target 1 1
      else if s.tapsBad c (f.target % 16) taps then (s.coreFault c).ledger f.target 2 1
      else if s.rankBreach c f taps then ((s.count (coreIdx c) 2 1).count 0x4000 4 1).ledger f.target 2 1
      else
        let u := ((s.count (coreIdx c) 2 1).count (coreIdx c) 3 taps.length).ledger f.target 1 1
        let v := u.onFabric (fun x => { x with updates := tabMod 0 x.updates (f.target % 16) (fun n => satAdd max32 n taps.length) })
        taps.foldl (fun a t => a.contribute c (f.target % 16) f.pkt.payload.toNat t) v

/-! ### The commit check (06 R205, R210, R212, R214) -/

/-- Which fields an opcode uses: DST, SRCA, operand B (SRCB or IMM16 by IMM). -/
def usesDst (op : Nat) : Bool := decide (op ∈ [1, 2, 3, 4, 6, 7, 8, 9, 11])
/-- SRCA. -/
def usesA (op : Nat) : Bool := decide (op ∈ [2, 3, 4, 5, 6, 7, 8, 9])
/-- SRCB. -/
def usesB (w : Nat) : Bool := decide (opOf w = 7) || (decide (opOf w ∈ [1, 2, 3, 4, 5, 6, 9, 10, 11]) && !immOf w)
/-- IMM16. -/
def usesImm (w : Nat) : Bool := decide (opOf w = 7 ∨ opOf w = 8) || (decide (opOf w ∈ [1, 2, 3, 4, 5, 6, 9, 10, 11]) && immOf w)

/-- Whether an operand field is in order: a known code where it is used, 0 where it is not. -/
def fieldOk (used : Bool) (v : Nat) : Bool := if used then decide (v ≤ 10) else decide (v = 0)

/-- Whether the AUX field is in order (R205). -/
def auxOk (w : Nat) : Bool :=
  match opOf w with
  | 4 => true
  | 5 => decide (auxOf w ≤ 5)
  | 10 => decide (auxOf w ≤ 1)
  | _ => decide (auxOf w = 0)

/-- LOAD_ERROR 0x01 of an instruction. -/
def insn1 (w : Nat) : Bool :=
  decide (11 < opOf w) || w.testBit 56 || decide (bits w 32 8 ≠ 0) || decide (bits w 0 16 ≠ 0)
  || !fieldOk (usesDst (opOf w)) (dstOf w) || !fieldOk (usesA (opOf w)) (srcAOf w) || !fieldOk (usesB w) (srcBOf w)
  || (!usesImm w && decide (imm16Of w ≠ 0)) || !auxOk w || (decide (opOf w = 0) && immOf w)

/-- LOAD_ERROR 0x02: a write to IN, DT or ZERO, or a RESET whose DST is not s0 to s3. -/
def insn2 (w : Nat) : Bool :=
  (usesDst (opOf w) && decide (dstOf w = 4 ∨ dstOf w = 5 ∨ dstOf w = 10)) || (decide (opOf w = 11) && decide (3 < dstOf w))

/-- LOAD_ERROR 0x03: the IMM rules of CLAMP and LEAKX. -/
def insn3 (w : Nat) : Bool := (decide (opOf w = 7) && immOf w) || (decide (opOf w = 8) && !immOf w)

/-- The words of all programs. -/
def State.programs (s : State) (c : Nat) : List Nat := (List.range 8).flatMap (fun p => s.program c p)

/-- ENABLE and KIND of a partition. -/
def State.partOn (s : State) (c p : Nat) : Bool := (s.partReg c p 8).testBit 31
/-- KIND. -/
def State.partKind (s : State) (c p : Nat) : Nat := bits (s.partReg c p 8) 29 2

/-- The bytes a partition occupies (R208, R209). -/
def State.partSize (s : State) (c p : Nat) : Nat :=
  let g0 := s.partReg c p 0x10
  match s.partKind c p with
  | 0 => bits g0 16 8 * bits g0 8 8 * bits g0 0 4 * bits g0 0 4
  | 1 => bits g0 0 16 * bits g0 16 16
  | _ => 0

/-- The occupied ranges of the arena: enabled partitions and the fanout table. -/
def State.arenaRanges (s : State) (c : Nat) : List (Nat × Nat) :=
  (((List.range 4).filter (fun p => s.partOn c p)).map (fun p => (bits (s.partReg c p 8) 0 17, s.partSize c p))
    ++ [(s.fanBase c, 8 * s.fanEntries c)]).filter (fun r => decide (r.2 ≠ 0))

/-- Whether two ranges of a list overlap. -/
def anyOverlap : List (Nat × Nat) → Bool
  | [] => false
  | r :: t => t.any (fun q => overlaps r.1 r.2 q.1 q.2) || anyOverlap t

/-- LOAD_ERROR 0x04 (R210). -/
def State.load4 (s : State) (c : Nat) : Bool :=
  (List.range 4).any (fun p => s.partOn c p && decide (bits (s.partReg c p 8) 0 17 % 4 ≠ 0))
  || (s.arenaRanges c).any (fun r => decide (arenaSize < r.1 + r.2)) || anyOverlap (s.arenaRanges c)

/-- LOAD_ERROR 0x05 of a partition (R210, R214). -/
def State.part5 (s : State) (c p : Nat) : Bool :=
  let g0 := s.partReg c p 0x10
  let g2 := s.partReg c p 0x18
  s.partOn c p && decide (s.partKind c p = 0)
  && !(decide (bits g0 0 4 ∈ [1, 3, 5, 7]) && decide (bits g0 4 4 ∈ [1, 2, 4]) && decide (1 ≤ bits g0 8 8 ∧ bits g0 8 8 ≤ 32)
    && decide (1 ≤ bits g0 16 8 ∧ bits g0 16 8 ≤ 32) && decide (1 ≤ bits g2 0 11 ∧ bits g2 0 11 ≤ 1024)
    && decide (1 ≤ bits g2 16 11 ∧ bits g2 16 11 ≤ 1024)
    && decide (bits (s.partReg c p 0xC) 0 10 + bits g2 0 11 * bits g2 16 11 * bits g0 16 8 ≤ 1024))

/-- LOAD_ERROR 0x06 of a partition (R210, R214). -/
def State.part6 (s : State) (c p : Nat) : Bool :=
  let g0 := s.partReg c p 0x10
  s.partOn c p && decide (s.partKind c p = 1)
  && !(decide (1 ≤ bits g0 0 16) && decide (1 ≤ bits g0 16 16 ∧ bits g0 16 16 ≤ 1024)
    && decide (bits g0 0 16 * bits g0 16 16 ≤ arenaSize)
    && decide (bits (s.partReg c p 0xC) 0 10 + bits g0 16 16 ≤ 1024))

/-- LOAD_ERROR 0x07 of a slot (R212). -/
def State.slot7 (s : State) (c k : Nat) : Bool :=
  s.slotOn c k && (decide (s.fabric.rankCount ≤ s.slotRank c k)
    || (!s.slotTree c k && (decide (64 < s.slotFanCount c k)
        || (decide (s.slotFanCount c k ≠ 0) && decide (s.fanEntries c < s.slotF c k 8 2 + s.slotFanCount c k)))))

/-- LOAD_ERROR 0x08 of a partition's registers (R214). -/
def State.part8 (s : State) (c p : Nat) : Bool :=
  let kern := decide (s.partKind c p = 0)
  let rsv2 := fun v => decide (bits v 11 5 ≠ 0 ∨ bits v 27 5 ≠ 0)
  decide (2 ≤ s.partKind c p) || decide (bits (s.partReg c p 8) 17 8 ≠ 0) || decide (bits (s.partReg c p 0xC) 10 22 ≠ 0)
  || (kern && decide (bits (s.partReg c p 0x10) 24 8 ≠ 0))
  || (if kern then rsv2 (s.partReg c p 0x14) || rsv2 (s.partReg c p 0x18)
      else decide (s.partReg c p 0x14 ≠ 0 ∨ s.partReg c p 0x18 ≠ 0))
  || decide (s.partReg c p 0x1C ≠ 0)

/-- LOAD_ERROR 0x08 of a slot descriptor (R190). -/
def State.slot8 (s : State) (c k : Nat) : Bool := decide (bits (s.slotF c k 10 1) 4 4 ≠ 0 ∨ s.slotF c k 11 5 ≠ 0)

/-- LOAD_ERROR 0x08 of a fanout entry (R212). -/
def State.fan8 (s : State) (c i : Nat) : Bool :=
  let a := arenaByte c (s.fanBase c + 8 * i)
  decide (bits (s.memNum (a + 4) 1) 4 4 ≠ 0 ∨ s.memNum (a + 5) 3 ≠ 0)

/-- The lowest failure code of the commit check, 0 when it passes (R205). -/
def State.commitCode (s : State) (c : Nat) : Nat :=
  let ps := s.programs c
  if ps.any insn1 then 1
  else if ps.any insn2 then 2
  else if ps.any insn3 then 3
  else if s.load4 c then 4
  else if (List.range 4).any (fun p => s.part5 c p) then 5
  else if (List.range 4).any (fun p => s.part6 c p) then 6
  else if (List.range 1024).any (fun k => s.slot7 c k) then 7
  else if decide (bits (s.coreReg c 0x08) 22 10 ≠ 0) || (List.range 4).any (fun p => s.part8 c p)
      || (List.range 1024).any (fun k => s.slot8 c k) || (List.range (s.fanEntries c)).any (fun i => s.fan8 c i) then 8
  else 0

/-- Whether the commit check meets an uncorrectable error (R217). -/
def State.commitBad (s : State) (c : Nat) : Bool :=
  s.poisoned (progWord c 0 0) 2048 || s.poisoned (slotDesc c 0) 24576
  || s.poisoned (arenaByte c (s.fanBase c)) (8 * s.fanEntries c)

/-! ### Loading (06 R191, R213) -/

/-- LOAD of CORE_CONTROL. -/
def State.coreLoadOp (c : Nat) (s : State) : State :=
  if s.coreUp c = false then s
  else match (s.core c).st with
    | .disabled | .loaded =>
      let u : State := { s with mem := memClear s.mem (coreBase c) windowSize }
      (u.onCore c (fun x => { x with st := .loading, clearing := true, touched := [] })).onMem
        (fun m => { m with poison := tabDrop m.poison (fun l => decide (coreBase c / 64 ≤ l) && decide (l < (coreBase c + windowSize) / 64)) })
    | .running | .fault => s.onCore c (fun x => { x with loadRefused := true })
    | .loading => s

/-- COMMIT of CORE_CONTROL: only LOADING runs the check (R191). -/
def State.coreCommitOp (c : Nat) (s : State) : State :=
  if s.coreUp c ∧ (s.core c).st = .loading then s.onCore c (fun x => { x with committing := true }) else s

/-- The commit check ends (R191, R205). -/
def State.coreCommitEnd (c : Nat) (s : State) : State :=
  if s.coreUp c ∧ (s.core c).st = .loading ∧ (s.core c).committing = true then
    (if s.commitBad c then s.coreFault c
     else if s.commitCode c = 0 then s.onCore c (fun x => { x with committing := false, st := .loaded, loadError := 0 })
     else s.onCore c (fun x => { x with committing := false, loadError := s.commitCode c }))
  else s

/-- DISABLE of CORE_CONTROL. -/
def State.coreDisableOp (c : Nat) (s : State) : State :=
  if s.coreUp c ∧ ((s.core c).st = .loading ∨ (s.core c).st = .loaded) then
    s.onCore c (fun x => { x with st := .disabled, committing := false })
  else s

/-- CORE_LOAD (06 R191). -/
def execCoreLoad (c : Fin 256) (s : State) : Host.Outcome State Fault Refusal := .next (s.coreLoadOp c)

/-- CORE_CLEAR_DONE (06 R191): CLEARING returns to 0. -/
def execCoreClearDone (c : Fin 256) (s : State) : Host.Outcome State Fault Refusal :=
  .next (s.onCore c (fun x => { x with clearing := false }))

/-- CORE_COMMIT (06 R205). -/
def execCoreCommit (c : Fin 256) (s : State) : Host.Outcome State Fault Refusal := .next (s.coreCommitOp c)

/-- CORE_COMMIT_DONE (06 R191). -/
def execCoreCommitDone (c : Fin 256) (s : State) : Host.Outcome State Fault Refusal := .next (s.coreCommitEnd c)

/-- CORE_DISABLE (06 R191). -/
def execCoreDisable (c : Fin 256) (s : State) : Host.Outcome State Fault Refusal := .next (s.coreDisableOp c)

/-- Whether any core runs. -/
def State.anyRunning (s : State) : Bool := s.fabric.cores.any (fun e => decide (e.2.st = .running))

/-- A write of VOICE_RANK_COUNT (06 R213): refused while any core runs; only 1 to 8 is a rank count. -/
def State.rankWrite (t v : Nat) (s : State) : State :=
  if s.tileUp t ∧ s.anyRunning = false ∧ 1 ≤ bits v 0 4 ∧ bits v 0 4 ≤ 8 then s.onFabric (fun f => { f with rankCount := bits v 0 4 }) else s

/-- VOICE_RANK_COUNT_WRITE. -/
def execVoiceRankCountWrite (t : Fin 4) (val : BitVec 32) (s : State) : Host.Outcome State Fault Refusal := .next (s.rankWrite t val.toNat)

/-- CORE_EVENT_ACCEPT (06 R206): the core takes the oldest packet at its input and returns its credit (07 R236, R239); a
halted fabric takes none (01 R24). -/
def execCoreEventAccept (c : Fin 256) (s : State) : Host.Outcome State Fault Refusal :=
  .next (if s.beat.hardHalt then s else match (s.core c).inbox with
    | [] => s
    | f :: t =>
      let k := ((c : Nat) * 8 + 0) * 2 + b2n f.vn1
      ((s.onCore c (fun x => { x with inbox := t })).onFabric
        (fun x => { x with creditsBack := tabMod 0 x.creditsBack k (· + 1) })).acceptEvent c f)

end Sys2Proof.Machine
end

