-- ==== Sys2Proof/Machine/Routing.lean ====
section
/-! DEFINITION. Event routing: the mesh, its tables, multicast, escape, arbitration, credits, the ingest injector and
table loading (07_event_routing.md). -/

namespace Sys2Proof.Machine

/-! ### The mesh (07 R223 to R225) -/

/-- Global column of a router. -/
def rX (r : Nat) : Nat := r % 8 + 8 * (r / 64 % 2)
/-- Global row. -/
def rY (r : Nat) : Nat := r % 64 / 8 + 8 * (r / 128)
/-- The router at global coordinates. -/
def rAt (x y : Nat) : Nat := (x / 8 + 2 * (y / 8)) * 64 + 8 * (y % 8) + x % 8

/-- Number of an output: LOCAL, N, E, S, W. -/
def dirNo : Dir → Nat
  | .loc => 0 | .n => 1 | .e => 2 | .s => 3 | .w => 4
/-- The output of a number. -/
def dirOf : Nat → Dir
  | 1 => .n | 2 => .e | 3 => .s | 4 => .w | _ => .loc
/-- Number of an input in onLink keys. -/
def inpNo : Inp → Nat
  | .core => 0 | .inj => 1 | .n => 2 | .e => 3 | .s => 4 | .w => 5
/-- The input that the arbitration sees: both feeds are LOCAL (R224). -/
def inpPort : Inp → Nat
  | .core => 0 | .inj => 0 | .n => 1 | .e => 2 | .s => 3 | .w => 4
/-- The input at the far end of an output's link. -/
def farInp : Dir → Inp
  | .n => .s | .e => .w | .s => .n | .w => .e | .loc => .core
/-- Number of a link direction in credit keys. -/
def linkNo : LinkDir → Nat
  | .out d => dirNo d | .fromCore => 5 | .fromInj => 6 | .fromGateway => 7
/-- The key of a link direction and virtual network. -/
def credKey (r no vn : Nat) : Nat := (r * 8 + no) * 2 + vn

/-- The router next to one through an output, powered or not. -/
def meshNext (r : Nat) (d : Dir) : Option Nat :=
  let x := rX r
  let y := rY r
  match d with
  | .loc => none
  | .n => if y = 0 then none else some (rAt x (y - 1))
  | .s => if 15 ≤ y then none else some (rAt x (y + 1))
  | .e => if 15 ≤ x then none else some (rAt (x + 1) y)
  | .w => if x = 0 then none else some (rAt (x - 1) y)

/-- The neighbour through an output; none at a mesh edge. -/
def State.neighbour (s : State) (r : Nat) (d : Dir) : Option Nat :=
  match meshNext r d with
  | none => none
  | some q => if s.coreUp q then some q else none

/-- Whether an output is the Choir gateway (R225). -/
def State.isGateway (s : State) (r : Nat) (d : Dir) : Bool := decide (r = 0) && decide (d = .w) && s.choirMember

/-- Whether an output is a mesh edge. -/
def State.isEdge (s : State) (r : Nat) (d : Dir) : Bool :=
  decide (d ≠ .loc) && (s.neighbour r d).isNone && !s.isGateway r d

/-! ### Credits (07 R239, R240) -/

/-- The sender's credits. -/
def State.credit (s : State) (k : Nat) : Nat := tabGet 8 s.fabric.credits k
/-- Uses a credit. -/
def State.useCredit (k : Nat) : State → State :=
  State.onFabric (fun f => { f with credits := tabMod 8 f.credits k (· - 1) })
/-- A flit leaves the receiver's buffer: its credit starts back. -/
def State.giveBack (k : Nat) : State → State :=
  State.onFabric (fun f => { f with creditsBack := tabMod 0 f.creditsBack k (· + 1) })

/-- Whether a flit leaves by an output now: an edge always accepts (R236), any other needs a credit. -/
def State.accepts (s : State) (r : Nat) (o : Dir) (vn : Nat) : Bool :=
  s.isEdge r o || decide (s.credit (credKey r (dirNo o) vn) ≠ 0)

/-- The link direction that feeds input i of router r on a virtual network; its credits stay with it when the tile of its
sender is gated, so that R239's sum holds when the tile comes back. -/
def upstream (r : Nat) (i : Inp) (vn : Nat) : Option Nat :=
  match i with
  | .core => some (credKey r 5 vn)
  | .inj => some (credKey r 6 vn)
  | .n => (meshNext r .n).map (fun q => credKey q 3 vn)
  | .e => (meshNext r .e).map (fun q => credKey q 4 vn)
  | .s => (meshNext r .s).map (fun q => credKey q 1 vn)
  | .w => match meshNext r .w with
    | some q => some (credKey q 2 vn)
    | none => if r = 0 then some (credKey 0 7 vn) else none

/-- Returns the credit of an input buffer place. -/
def State.freePlace (r : Nat) (i : Inp) (vn : Nat) (s : State) : State :=
  match upstream r i vn with
  | none => s
  | some k => s.giveBack k

/-- Whether a link direction exists: its router is powered, and it ends at a powered neighbour, at a core, at the injector
or at the gateway of a package with Choir Link. -/
def State.linkThere (s : State) (r : Nat) (o : LinkDir) : Bool :=
  s.coreUp r && match o with
  | .fromCore => true
  | .fromInj => true
  | .fromGateway => decide (r = 0) && s.hasUnit 4
  | .out .loc => true
  | .out d => (s.neighbour r d).isSome || (decide (r = 0) && decide (d = .w) && s.hasUnit 4)

/-- The port of a link direction in record 0xE200. -/
def linkPort (no : Nat) : Nat := if no ≤ 4 then no else if no = 7 then 4 else 0

/-- A credit fault: the count is set right and recorded (R240, R253). -/
def State.creditFault (r no vn found : Nat) (s : State) : State :=
  ((s.onFabric (fun f => { f with credits := tabPut 8 f.credits (credKey r no vn) 8 })).count 0x4200 0x0B 1).book
    0xE200 (0x20 + tileOf r) 2 (leBytes 1 r ++ leBytes 1 (linkPort no) ++ leBytes 1 vn ++ leBytes 1 found)

/-! ### Tables (07 R227, R229) -/

/-- A table entry. -/
def State.rEntry (s : State) (r i : Nat) : REntry := tabGet {} s.fabric.entries (r * 1024 + i)
/-- A leaf. -/
def State.rLeaf (s : State) (r i : Nat) : Nat := tabGet 0 s.fabric.leaves (r * 2048 + i)

/-- The first entry that matches a key (R227). -/
def State.lookup (s : State) (r : Nat) (key : BitVec 32) : Option REntry :=
  ((List.range (tabGet 0 s.fabric.entryCount r)).find? (fun i =>
    decide (key &&& (s.rEntry r i).mask = (s.rEntry r i).value))).map (fun i => s.rEntry r i)

/-- The leaves of an entry. -/
def State.entryLeaves (s : State) (r : Nat) (e : REntry) : List Nat :=
  (List.range e.leafCount).map (fun i => s.rLeaf r (e.leafBase + i))

/-- The route set of a key at a router: outputs in order, leaves, class, and whether it is the default route (R227). -/
def State.route (s : State) (r : Nat) (key : BitVec 32) : List Dir × List Nat × Fin 4 × Bool :=
  match s.lookup r key with
  | some x =>
    ([Dir.loc, .n, .e, .s, .w].filter (fun d => x.route.getLsbD (dirNo d)), s.entryLeaves r x,
      ⟨x.priority.toNat % 4, Nat.mod_lt _ (by decide)⟩, false)
  | none =>
    let d := tabGet 0 s.fabric.defaultRoute r
    (if d = 0 then [] else [dirOf d], [], 0, true)

/-! ### VN1 (07 R234, R235) -/

/-- The output of a VN1 copy: first along X, then along Y, then where its destination says. -/
def vn1Out (r : Nat) (d : VnDest) : Dir :=
  let toward := fun q => if rX r < rX q then Dir.e else if rX q < rX r then .w
    else if rY r < rY q then .s else if rY q < rY r then .n else .loc
  match d with
  | .none => .loc
  | .core c => toward c
  | .gateway => if toward 0 = .loc then .w else toward 0
  | .edge o => o

/-- Whether a VN1 copy ends at an edge of router r. -/
def State.vn1Ends (s : State) (r : Nat) (d : VnDest) : Bool := s.isEdge r (vn1Out r d)

/-- A VN1 copy is discarded at an edge: unrouted, and an edge drop unless the edge is the one it was bound for. -/
def State.vn1Drop (f : Flit) (s : State) : State :=
  let u := s.ledger f.target 3 1
  match f.dest with
  | .edge _ => u
  | _ => u.count 0x4200 8 1

/-- The destination a leaf names. -/
def leafDest (l : Nat) : VnDest := if bits l 0 9 = 0x100 then .gateway else .core (bits l 0 9)

/-! ### Buffers (07 R224, R232) -/

/-- Whether a copy belongs to the present head of its input buffer: the oldest slot of its input and virtual network,
for LOCAL the packet taken from one of the two feeds. -/
def Router.atHead (x : Router) (c : RCopy) : Bool :=
  match c.slot with
  | none => true
  | some n =>
    if inpPort c.inp = 0 ∧ n % 2 = 0 then decide (x.localHead = some n)
    else x.copies.all (fun d => match d.slot with
      | some m => !(decide (d.inp = c.inp) && decide (m % 2 = n % 2) && decide (m < n))
      | none => true)

/-- The oldest slot a feed of LOCAL holds. -/
def Router.feedHead (x : Router) (i : Inp) : Option Nat :=
  (x.copies.find? (fun c => decide (c.inp = i) && c.slot.isSome)).bind (fun c => c.slot)

/-- Takes LOCAL's next packet, alternating between the feeds when both hold one (R224). -/
def Router.takeLocal (x : Router) : Router :=
  if x.copies.any (fun c => decide (c.slot = x.localHead) && c.slot.isSome) then x
  else match x.feedHead .core, x.feedHead .inj with
    | none, none => { x with localHead := none }
    | some a, none => { x with localHead := some a, lastInj := false }
    | none, some b => { x with localHead := some b, lastInj := true }
    | some a, some b => if x.lastInj then { x with localHead := some a, lastInj := false }
        else { x with localHead := some b, lastInj := true }

/-- Copies held in the residue buffer of an output; the VN1 copies of one escape hold one place (R232, R234). -/
def Router.residue (x : Router) (d : Dir) : Nat :=
  let h := x.copies.filter (fun c => c.slot.isNone && decide (c.held = d))
  (h.filter (fun c => c.esc.isNone)).length + ((h.filterMap (fun c => c.esc)).eraseDups).length

/-- Frees the input buffer places that no copy holds any more. -/
def State.freeSlot (r : Nat) (i : Inp) (slot : Option Nat) (s : State) : State :=
  match slot with
  | none => s
  | some n =>
    if (s.router r).copies.any (fun c => decide (c.slot = some n)) then s
    else (s.freePlace r i (n % 2)).onRouter r Router.takeLocal

/-- Moves the first VN0 copy at a head whose output has no credit into that output's residue buffer while there is
room (R232); none left answers none. -/
def State.settleOne (r : Nat) (s : State) : Option State :=
  let x := s.router r
  match findAt (fun c => !c.flit.vn1 && c.slot.isSome && x.atHead c && !s.accepts r c.out 0
      && decide (x.residue c.out < 4)) x.copies with
  | none => none
  | some (n, c) => some ((s.onRouter r (fun x => { x with copies := setAt x.copies n { c with slot := none, held := c.out } })).freeSlot
      r c.inp c.slot)

/-- Repeats that move; at most 20 copies fit the residue buffers. -/
def State.settleN : Nat → Nat → State → State
  | 0, _, s => s
  | k + 1, r, s => match s.settleOne r with
    | none => s
    | some u => u.settleN k r

/-- All such moves of a router. -/
def State.settle (r : Nat) (s : State) : State := s.settleN 20 r

/-! ### Shedding (07 R241) -/

/-- Whether a flit is discarded because the stage it belongs to is being shed and its class is among those. -/
def State.shedding (s : State) (stage : Nat) (cls : Option (Fin 4)) : Bool :=
  match s.fabric.shedFrom with
  | none => false
  | some (n, c) => decide (n = stage) && (decide (c = 4) || match cls with | some k => decide (k.val ≤ c) | none => false)

/-- Whether a flit is to be discarded now. -/
def State.flitShed (s : State) (f : Flit) : Bool := s.shedding f.stage f.cls

/-- Discards a packet of a stage that is being shed: shed in the ledger of its target beat (R241, R242). -/
def State.discard (f : Flit) (s : State) : State := (s.ledger f.target 2 1).shedVoice f.stage

/-! ### Arrival (07 R222, R227, R228, R233) -/

/-- A copy for one output of a route set: kept, or discarded as R228 says. -/
def State.sortCopy (s : State) (r : Nat) (i : Inp) (hops : Nat) (d : Dir) : Option Nat :=
  if s.isEdge r d then some 8
  else if d ≠ .loc ∧ inpPort i = dirNo d then some 0x0A
  else if d ≠ .loc ∧ 63 ≤ hops then some 9
  else none

/-- Discards a copy: unrouted and counted in an entry of 0x4200. -/
def State.dropCopy (target sub : Nat) (s : State) : State := (s.ledger target 3 1).count 0x4200 sub 1

/-- Routes a VN0 flit into copies. -/
def State.routeVn0 (r : Nat) (i : Inp) (f : Flit) (s : State) : State :=
  let (dirs, leaves, cls, dflt) := s.route r f.pkt.key
  let f := { f with cls := some (f.cls.getD cls) }
  if s.flitShed f then (s.discard f).freePlace r i 0
  else if dirs.isEmpty then (s.dropCopy f.target 0x0A).freePlace r i 0
  else
    let u := s.ledger f.target 0 (dirs.length - 1)
    let u := dirs.foldl (fun a d => match s.sortCopy r i f.hops d with | some sub => a.dropCopy f.target sub | none => a) u
    let kept := dirs.filter (fun d => (s.sortCopy r i f.hops d).isNone)
    if kept.isEmpty then u.freePlace r i 0
    else
      (u.onRouter r (fun x => Router.takeLocal { x with
        nextSlot := x.nextSlot + 1,
        copies := x.copies ++ kept.map (fun d =>
          ({ flit := f, inp := i, out := d, slot := some (2 * x.nextSlot), leaves := leaves, byDefault := dflt } : RCopy)) })).settle r

/-- Takes a VN1 flit into its input buffer, or discards it at an edge. -/
def State.routeVn1 (r : Nat) (i : Inp) (f : Flit) (s : State) : State :=
  if s.flitShed f then (s.discard f).freePlace r i 1
  else if s.vn1Ends r f.dest then (s.vn1Drop f).freePlace r i 1
  else s.onRouter r (fun x => { x with nextSlot := x.nextSlot + 1, copies := x.copies ++
    [{ flit := f, inp := i, out := vn1Out r f.dest, slot := some (2 * x.nextSlot + 1) }] })

/-- A flit arrives at a router. -/
def State.arrive (r : Nat) (i : Inp) (f : Flit) (s : State) : State :=
  if f.pkt.type ≠ 0 ∧ f.pkt.type ≠ 1 then (s.ledger f.target 3 1).freePlace r i (b2n f.vn1)
  else if f.vn1 then s.routeVn1 r i f
  else s.routeVn0 r i f

/-- The key of the link into a router input. -/
def linkInKey (r : Nat) (i : Inp) (vn : Bool) : Nat := (r * 8 + inpNo i) * 2 + b2n vn

/-- ROUTER_FLIT_ARRIVE (07 R227, R228). -/
def execRouterFlitArrive (r : Fin 256) (i : Inp) (vn : Bool) (s : State) : Host.Outcome State Fault Refusal :=
  .next (if s.beat.hardHalt then s else match tabGet [] s.fabric.onLink (linkInKey r i vn) with
    | [] => s
    | f :: t => (s.onFabric (fun x => { x with onLink := tabPut [] x.onLink (linkInKey r i vn) t })).arrive r i f)

/-- Puts a flit on the link into a router input. -/
def State.sendTo (r : Nat) (i : Inp) (f : Flit) : State → State :=
  State.onFabric (fun x => { x with onLink := tabMod [] x.onLink (linkInKey r i f.vn1) (· ++ [f]) })

/-- CORE_FANOUT_SEND (06 R211, R212): a core sends its oldest packet when it has credit; a packet of a stage already
shed whole is discarded at injection (07 R241). -/
def execCoreFanoutSend (c : Fin 256) (s : State) : Host.Outcome State Fault Refusal :=
  .next (if s.beat.hardHalt then s else match (s.core c).outbox with
    | [] => s
    | f :: t =>
      let u := (s.onCore c (fun x => { x with outbox := t })).ledger f.target 0 1
      if s.flitShed f then u.discard f
      else if s.credit (credKey c 5 0) = 0 then s
      else (u.useCredit (credKey c 5 0)).sendTo c .core f)

/-- The INGEST packet of an event (07 R230). -/
def ingestFlit (own p : Nat) (m : IngestMap) (e : InjEvent) : Flit :=
  let ch := if e.graded then m.chGraded else if e.pol then m.chRose else m.chFell
  { pkt := { key := BitVec.ofNat 32 (m.tag * 2 ^ 27 + ch * 2 ^ 22 + e.y / 2 ^ m.shift % 2 ^ 11 * 2 ^ 11 + e.x / 2 ^ m.shift % 2 ^ 11),
             payload := if e.graded then e.value else BitVec.ofNat 8 m.polPayload,
             tag := BitVec.ofNat 4 e.beat, delay := 0, type := 0, srcPkg := BitVec.ofNat 4 own, srcCore := BitVec.ofNat 8 p },
    target := e.beat, stage := e.beat, rank := 0 }

/-- INGEST_INJECT (07 R230): the injector forms the packet of a port's oldest accepted event and sends it when credit
allows. -/
def execIngestInject (p : Fin 6) (s : State) : Host.Outcome State Fault Refusal :=
  .next (if s.beat.hardHalt then s else
    let s := s.portDrain p
    match (s.port p).injq, tabGet none s.fabric.ingestMaps p with
    | e :: t, some m =>
      let f := ingestFlit s.choir.ownId p m e
      let u := (s.onPort p (fun x => { x with injq := t })).ledger f.target 0 1
      if s.flitShed f then u.discard f
      else if s.credit (credKey m.entryCore 6 0) = 0 then s
      else (u.useCredit (credKey m.entryCore 6 0)).sendTo m.entryCore .inj f
    | e :: t, none => ((s.onPort p (fun x => { x with injq := t })).ledger e.beat 0 1).ledger e.beat 3 1
    | [], _ => s)

/-! ### Arbitration (07 R237) -/

/-- The copies that request an output on a virtual network, those without a slot and those of an escape first, when
the output takes one. -/
def State.requests (s : State) (r : Nat) (o : Dir) (vn : Bool) : List RCopy :=
  let x := s.router r
  let l := x.copies.filter (fun c => decide (c.out = o) && decide (c.flit.vn1 = vn)
    && ((vn && c.esc.isSome) || x.atHead c))
  if s.accepts r o (b2n vn) = false then []
  else l.filter (fun c => c.slot.isNone || c.esc.isSome) ++ l.filter (fun c => !(c.slot.isNone || c.esc.isSome))

/-- The first requesting input at or after the pointer, with its first copy. -/
def roundRobin (ptr : Nat) (l : List RCopy) : Option RCopy :=
  (List.range 5).foldl (fun got i => match got with
    | some c => some c
    | none => l.find? (fun c => decide (inpPort c.inp = (ptr + i) % 5))) none

/-- What an output grants: the copy, and whether it is a boosted grant (R237). -/
def State.arbitrate (s : State) (r : Nat) (o : Dir) : Option (RCopy × Bool) :=
  let v0 := s.requests r o false
  let v1 := s.requests r o true
  let boosted := v0.filter (fun c => c.boosted)
  let after := tabGet false (s.router r).afterBoost (dirNo o)
  let p := fun vn => tabGet 0 (s.router r).ptr (2 * dirNo o + vn)
  if boosted ≠ [] ∧ (after = false ∨ v1 = []) then (roundRobin (p 0) boosted).map (fun c => (c, true))
  else if v1 ≠ [] then (roundRobin (p 1) v1).map (fun c => (c, false))
  else (roundRobin (p 0) v0).map (fun c => (c, false))

/-- Sends a granted flit over its output: into the core, to Choir Link or to the neighbour; one that waited while its
output became a mesh edge is discarded there (R228, R235). -/
def State.sendOut (r : Nat) (o : Dir) (f : Flit) (s : State) : State :=
  if o = .loc then s.onCore r (fun x => { x with inbox := x.inbox ++ [f] })
  else if s.isGateway r o then s.onFabric (fun x => { x with exports := x.exports ++ [(0, true, f)] })
  else match s.neighbour r o with
    | none => if f.vn1 then s.vn1Drop f else s.dropCopy f.target 8
    | some q => s.sendTo q (farInp o) { f with hops := if f.vn1 then f.hops else f.hops + 1 }

/-- One grant of an output. -/
def State.grant (r : Nat) (o : Dir) (s : State) : State :=
  match s.arbitrate r o with
  | none => s
  | some (c, boosted) =>
    let vn := b2n c.flit.vn1
    let u := s.onRouter r (fun x => { x with
      copies := dropFirst (fun d => decide (d = c)) x.copies,
      ptr := tabPut 0 x.ptr (2 * dirNo o + vn) ((inpPort c.inp + 1) % 5),
      afterBoost := tabPut false x.afterBoost (dirNo o) boosted })
    let u := u.freeSlot r c.inp c.slot
    ((if s.isEdge r o then u else u.useCredit (credKey r (dirNo o) vn)).sendOut r o c.flit).settle r

/-- The VN1 copies of an escape: one for each leaf of the output, or one bound for the edge of a default route (R234). -/
def escapeDests (c : RCopy) : List VnDest :=
  if c.byDefault then [.edge c.out]
  else (c.leaves.filter (fun l => decide (bits l 13 3 = dirNo c.out))).map leafDest

/-- Whether a copy requests output o on VN0 from input i. -/
def Router.asks (x : Router) (o : Dir) (i : Inp) (c : RCopy) : Bool :=
  decide (c.out = o) && decide (c.inp = i) && !c.flit.vn1 && x.atHead c

/-- VN0_ESCAPE (07 R234): the oldest copy of input i that has requested the output N, E, S or W without a grant escapes. -/
def State.escape (r : Nat) (o : Dir) (i : Inp) (s : State) : State :=
  let x := s.router r
  match findAt (x.asks o i) x.copies with
  | none => s
  | some (n, c) =>
    if o = .loc then s
    else
      let ds := escapeDests c
      let u := s.count 0x4200 7 1
      let u := if ds.isEmpty then u.ledger c.flit.target 3 1 else u.ledger c.flit.target 0 (ds.length - 1)
      let made := ds.map (fun d => { c.flit with vn1 := true, dest := d })
      let u := (made.filter (fun f => s.vn1Ends r f.dest)).foldl (fun a f => a.vn1Drop f) u
      let new := (made.filter (fun f => !s.vn1Ends r f.dest)).map (fun f =>
        ({ c with flit := f, out := vn1Out r f.dest, esc := some x.nextSlot, boosted := false } : RCopy))
      ((u.onRouter r (fun x => { x with
        nextSlot := x.nextSlot + 1,
        copies := x.copies.take n ++ new ++ x.copies.drop (n + 1) })).freeSlot r c.inp c.slot).settle r

/-- VN0_ESCAPE: the command names the input whose copy has requested the output for more than 64 router cycles. -/
def execVn0Escape (r : Fin 256) (o : Dir) (i : Inp) (s : State) : Host.Outcome State Fault Refusal :=
  .next (if s.beat.hardHalt then s else s.escape r o i)

/-- VN0_AGE_BOOST (07 R237): the oldest copy of an input that has waited 256 cycles for the output is boosted; the command
names the input. -/
def execVn0AgeBoost (r : Fin 256) (o : Dir) (i : Inp) (s : State) : Host.Outcome State Fault Refusal :=
  .next (if s.beat.hardHalt then s else s.onRouter r (fun x => { x with
    copies := modFirst (fun c => x.asks o i c && !c.boosted) (fun c => { c with boosted := true }) x.copies }))

/-! ### Credits on their way back (07 R239, R240) -/

/-- CREDIT_RETURN: a credit reaches the sender; one that would raise the count above 8 is a credit fault. -/
def execCreditReturn (r : Fin 256) (o : LinkDir) (vn : Bool) (s : State) : Host.Outcome State Fault Refusal :=
  .next (
    let k := credKey r (linkNo o) (b2n vn)
    let back := tabGet 0 s.fabric.creditsBack k
    let u := s.onFabric (fun f => { f with creditsBack := tabPut 0 f.creditsBack k (back - 1) })
    if s.linkThere r o = false then s
    else if s.credit k = 8 then u.creditFault r (linkNo o) (b2n vn) 9
    else if back = 0 then s
    else (u.onFabric (fun f => { f with credits := tabMod 8 f.credits k (· + 1) })).settle r)

/-- Whether the receiver's buffer of a link direction, and the link into it, hold no flit. The gateway's buffer holds a place
of W for a VN0 packet until its last copy has left, and none for VN1 (11 R376). -/
def State.receiverEmpty (s : State) (r : Nat) (o : LinkDir) (vn : Bool) : Bool :=
  let free := fun (q : Nat) (i : Inp) => (tabGet [] s.fabric.onLink (linkInKey q i vn)).isEmpty
    && (s.router q).copies.all (fun c => match c.slot with
      | some n => !(decide (c.inp = i) && decide (n % 2 = b2n vn))
      | none => true)
  match o with
  | .fromCore => free r .core
  | .fromInj => free r .inj
  | .fromGateway => free r .w
  | .out .loc => (s.core r).inbox.all (fun f => decide (f.vn1 ≠ vn))
  | .out d => match s.neighbour r d with
    | some q => free q (farInp d)
    | none => vn || s.fabric.exports.all (fun e => e.2.2.vn1)

/-- Whether no flit is queued at the sender of a link direction. -/
def State.senderEmpty (s : State) (r : Nat) (o : LinkDir) (vn : Bool) : Bool :=
  match o with
  | .fromCore => (s.core r).outbox.isEmpty
  | .fromInj => (List.range 6).all (fun p => match tabGet none s.fabric.ingestMaps p with
    | some m => decide (m.entryCore ≠ r) || (s.port p).injq.isEmpty
    | none => true)
  | .fromGateway => vn || s.choir.imports.isEmpty
  | .out d => (s.router r).copies.all (fun c => decide (c.out ≠ d) || decide (c.flit.vn1 ≠ vn))

/-- Whether a link direction is quiet on a virtual network (R240). -/
def State.linkQuiet (s : State) (r : Nat) (o : LinkDir) (vn : Bool) : Bool :=
  s.senderEmpty r o vn && s.receiverEmpty r o vn && decide (tabGet 0 s.fabric.creditsBack (credKey r (linkNo o) (b2n vn)) = 0)

/-- CREDIT_QUIET_CHECK: a quiet direction whose count does not read 8 is set right. -/
def execCreditQuietCheck (r : Fin 256) (o : LinkDir) (vn : Bool) (s : State) : Host.Outcome State Fault Refusal :=
  .next (
    let found := s.credit (credKey r (linkNo o) (b2n vn))
    if s.linkThere r o ∧ s.linkQuiet r o vn ∧ found ≠ 8 then s.creditFault r (linkNo o) (b2n vn) found else s)

/-! ### What is in flight, and its discarding (07 R231, R241; 06 R197, R198) -/

/-- Whether any flit in the mesh, in a core's input or output meets a test. -/
def State.inFlight (s : State) (p : Flit → Bool) : Bool :=
  s.fabric.routers.any (fun e => e.2.copies.any (fun c => p c.flit))
  || s.fabric.onLink.any (fun e => e.2.any p)
  || s.fabric.cores.any (fun e => e.2.inbox.any p || e.2.outbox.any p)

/-- Discards the copies of a router that meet a test. -/
def State.purgeRouter (p : Flit → Bool) (r : Nat) (s : State) : State :=
  let bad := (s.router r).copies.filter (fun c => p c.flit)
  let u := s.onRouter r (fun x => { x with copies := x.copies.filter (fun c => !p c.flit) })
  let places := (bad.filterMap (fun c => c.slot.map (fun n => (c.inp, n)))).eraseDups
  (places.foldl (fun a q => a.freeSlot r q.1 (some q.2)) (bad.foldl (fun a c => a.discard c.flit) u)).settle r

/-- Discards the flits on one link that meet a test; their buffer places become free. -/
def State.purgeLink (p : Flit → Bool) (k : Nat) (s : State) : State :=
  let l := tabGet [] s.fabric.onLink k
  let bad := l.filter p
  let i := [Inp.core, .inj, .n, .e, .s, .w].getD (k / 2 % 8) .core
  bad.foldl (fun a f => (a.discard f).freePlace (k / 16) i (k % 2))
    (s.onFabric (fun x => { x with onLink := tabPut [] x.onLink k (l.filter (fun f => !p f)) }))

/-- Discards the packets at a core's input and output that meet a test; those not sent yet count as injected too. -/
def State.purgeCore (p : Flit → Bool) (c : Nat) (s : State) : State :=
  let badIn := (s.core c).inbox.filter p
  let badOut := (s.core c).outbox.filter p
  let u := s.onCore c (fun x => { x with inbox := x.inbox.filter (fun f => !p f), outbox := x.outbox.filter (fun f => !p f) })
  let u := badIn.foldl (fun a f => (a.discard f).giveBack (credKey c 0 (b2n f.vn1))) u
  badOut.foldl (fun a f => (a.ledger f.target 0 1).discard f) u

/-- Discards the events of a beat that the injector still holds. -/
def State.purgePort (n p : Nat) (s : State) : State :=
  let k := ((s.port p).injq.filter (fun e => decide (e.beat = n))).length
  let u := ((s.onPort p (fun x => { x with injq := x.injq.filter (fun e => decide (e.beat ≠ n)) })).ledger n 0 k).ledger n 2 k
  if k = 0 then u else u.shedVoice n

/-- Whether anything of the stage of beat n, of class c or lower (4: all), is there to discard. -/
def State.stageHolds (s : State) (n c : Nat) : Bool :=
  s.inFlight (fun f => decide (f.stage = n) && (decide (c = 4) || match f.cls with | some k => decide (k.val ≤ c) | none => false))
  || (decide (c = 4) && (List.range 6).any (fun p => (s.port p).injq.any (fun e => decide (e.beat = n))))

/-- Discards every packet of the stage of beat n of class c or lower, all of them for 4 (R241). -/
def State.purgeStage (n c : Nat) (s : State) : State :=
  let s := s.onFabric (fun f => { f with shedFrom := some (n, match f.shedFrom with
    | some (m, k) => if m = n then max k c else c
    | none => c) })
  let p := fun (f : Flit) => s.flitShed f
  let u := (List.range 256).foldl (fun a r => a.purgeRouter p r) s
  let u := (s.fabric.onLink.map (fun e => e.1)).foldl (fun a k => a.purgeLink p k) u
  let u := (List.range 256).foldl (fun a k => a.purgeCore p k) u
  if c = 4 then (List.range 6).foldl (fun a k => a.purgePort n k) u else u

/-! ### Loading the tables (07 R247, R248) -/

/-- ROUTER, as a global router number, KIND and INDEX of TABLE_SELECT of a tile. -/
def State.tabSelect (s : State) (t : Nat) : Nat × Nat × Nat :=
  let v := s.reg (0x20 + t) 0x10
  (t * 64 + bits v 16 6, bits v 14 2, bits v 0 11)

/-- The words an item reads as. -/
def State.tabItem (s : State) (t w : Nat) : Nat :=
  let (r, kind, i) := s.tabSelect t
  if kind = 0 then
    let e := s.rEntry r i
    match w with
    | 0 => e.value.toNat
    | 1 => e.mask.toNat
    | 2 => e.route.toNat + 256 * e.priority.toNat + 65536 * e.leafBase
    | _ => e.leafCount
  else if w ≠ 0 then 0
  else if kind = 1 then s.rLeaf r i
  else if kind = 2 then tabGet 0 s.fabric.entryCount r * 65536 + tabGet 0 s.fabric.defaultRoute r
  else 0

/-- The core numbers of present tiles. -/
def State.destOk (s : State) (d : Nat) : Bool := decide (d = 0x100) || (decide (d < 256) && s.hasCore d)

/-- Whether a leaf breaks R229 or R248. -/
def State.leafBad (s : State) (v : Nat) : Bool :=
  !(decide (1 ≤ bits v 13 3 ∧ bits v 13 3 ≤ 4) && decide (bits v 9 4 = 0) && s.destOk (bits v 0 9)) || decide (65536 ≤ v)

/-- Whether an entry's words break R229. -/
def entryBad (w2 w3 : Nat) : Bool :=
  decide (bits w2 5 3 ≠ 0 ∨ bits w2 10 6 ≠ 0 ∨ 2047 < bits w2 16 16 ∨ 2048 < bits w3 0 16
    ∨ 2048 < bits w2 16 16 + bits w3 0 16 ∨ bits w3 16 16 ≠ 0)

/-- Whether a configuration breaks R229. -/
def configBad (v : Nat) : Bool :=
  decide (1024 < bits v 16 11 ∨ 4 < bits v 0 3 ∨ bits v 3 13 ≠ 0 ∨ bits v 27 5 ≠ 0)

/-- Moves INDEX on. -/
def State.tabNext (t : Nat) (s : State) : State :=
  let v := s.reg (0x20 + t) 0x10
  s.setReg (0x20 + t) 0x10 (putBits v 0 11 (bits v 0 11 + 1))

/-- Sets bits of TABLE_STATUS. -/
def State.tabStatus (t v : Nat) : State → State :=
  State.onFabric (fun f => { f with tableStatus := tabMod 0 f.tableStatus t (fun w => w ||| v) })

/-- Whether a core of a tile runs. -/
def State.tileRunning (s : State) (t : Nat) : Bool :=
  s.fabric.cores.any (fun e => decide (tileOf e.1 = t) && decide (e.2.st = .running))

/-- Stores an entry by its words (R229). -/
def Fabric.putEntry (f : Fabric) (r i w0 w1 w2 w3 : Nat) : Fabric :=
  let e : REntry := { value := BitVec.ofNat 32 w0, mask := BitVec.ofNat 32 w1, route := BitVec.ofNat 8 w2,
                      priority := BitVec.ofNat 8 (w2 / 256), leafBase := bits w2 16 16, leafCount := bits w3 0 16 }
  { f with entries := tabPut {} f.entries (r * 1024 + i) e }

/-- Stores a router configuration. -/
def Fabric.putConfig (f : Fabric) (r count dflt : Nat) : Fabric :=
  { f with
    entryCount := tabPut 0 f.entryCount r count,
    defaultRoute := tabPut 0 f.defaultRoute r dflt }

/-- The write of the last word of the selected item: TABLE_DATA3 of an entry, else TABLE_DATA0 (R247, R248). -/
def State.tabWrite (t v : Nat) (s : State) : State :=
  if s.tileUp t = false then s
  else
    let (r, kind, i) := s.tabSelect t
    let d := fun w => s.reg (0x20 + t) (0x14 + 4 * w)
    let bad := if kind = 0 then entryBad (d 2) v || decide (1023 < i)
      else if kind = 1 then s.leafBad v
      else if kind = 2 then configBad v || decide (i ≠ 0)
      else true
    if s.tileRunning t then s.tabStatus t 1
    else if bad then s.tabStatus t 2
    else (s.onFabric (fun f =>
      if kind = 0 then f.putEntry r i (d 0) (d 1) (d 2) v
      else if kind = 1 then { f with leaves := tabPut 0 f.leaves (r * 2048 + i) v }
      else f.putConfig r (bits v 16 11) (bits v 0 3))).tabNext t

/-- TABLE_ITEM_WRITE (07 R247). -/
def execTableItemWrite (t : Fin 4) (val : BitVec 32) (s : State) : Host.Outcome State Fault Refusal :=
  .next (s.tabWrite t val.toNat)

/-- TABLE_ITEM_READ (07 R247): the read of the last word answers it and moves INDEX on. -/
def execTableItemRead (t : Fin 4) (s : State) : Host.Outcome State Fault Refusal :=
  .next (if s.tileUp t then
      (s.emit (.read (0x20 + t) (s.tabItem t (if (s.tabSelect t).2.1 = 0 then 3 else 0)))).tabNext t
    else s.emit (.read (0x20 + t) 0))

end Sys2Proof.Machine
end

