-- ==== Sys2Proof/Machine/Coherence.lean ====
section
/-! DEFINITION. The address map and its checks, the directory of the Cantor caches, requesters that are not cantors,
atomics and fences (01_inside_the_package.md R25 to R34, 10_cellar_and_memory_model.md). -/

namespace Sys2Proof.Machine

/-! ### The address map (01 R26 to R30, R34) -/

/-- The regions of the offset space. -/
inductive Area where
  | rom | pages | mram | hub | slice (t : Nat) | window (c : Nat) | dram | reserved
deriving DecidableEq, Repr

/-- The region of an offset. -/
def areaOf (a : Nat) : Area :=
  if a < 0x10000 then .rom
  else if 0x10000000 ≤ a ∧ a < 0x20000000 then .pages
  else if 0x20000000 ≤ a ∧ a < 0x22000000 then .mram
  else if 0x40000000 ≤ a ∧ a < 0x40800000 then .hub
  else if 0x41000000 ≤ a ∧ a < 0x45000000 then .slice ((a - 0x41000000) / 0x1000000)
  else if 0x80000000 ≤ a ∧ a < 0x84000000 then
    (if (a - 0x80000000) % 0x40000 < 0x30000 then .window ((a - 0x80000000) / 0x40000) else .reserved)
  else if 0x400000000 ≤ a ∧ a < 0x800000000 then .dram
  else .reserved

/-- Who makes an access. -/
inductive Req where
  | cantor | mover | press | remote | inner
deriving DecidableEq, Repr

/-- The requester of a SOURCE code (01 R31). -/
def reqOf (src : Nat) : Req :=
  if src < 8 then .cantor else if 0x10 ≤ src ∧ src < 0x20 then .mover else if 0x20 ≤ src ∧ src < 0x28 then .press
  else if src = 0x30 then .remote else .inner

/-- The kind of a tile's absence (R34). -/
def State.tileKind (s : State) (t : Nat) : Option Nat :=
  if s.tiles ≤ t then some 2 else if s.power.gated.getLsbD t then some 3 else none

/-- Whether an offset lies in a Cellar region that a port holds (05 R169). -/
def State.portHolds (s : State) (a : Nat) : Bool :=
  (List.range 6).any (fun p => match (s.port p).region with
    | some (b, n) => decide (b ≤ a) && decide (a < b + n)
    | none => false)

/-- The kind of access error an access to an offset of the own package meets; none where it is served (01 R26, R28, R30,
R34; 05 R169; 08 R256; 10 R337; 11 R379). -/
def State.accessKind (s : State) (who : Req) (wr : Bool) (a : Nat) : Option Nat :=
  match areaOf a with
  | .reserved => some 1
  | .rom => match who with
    | .cantor => if wr then some 4 else none
    | .remote => some 5
    | _ => some 1
  | .pages => match who with
    | .cantor => none
    | .remote => some 5
    | _ => some 1
  | .mram => match who with
    | .remote => some 5
    | .press => some 1
    | _ => if wr then some 4 else none
  | .hub => if s.portHolds a then some 1 else none
  | .dram => none
  | .slice t => match s.tileKind t with
    | some k => some k
    | none => if s.portHolds a then some 1 else none
  | .window c =>
    if who = .remote then some 5
    else match s.tileKind (tileOf c) with
      | some k => some k
      | none => if wr = true ∧ (s.core c).st ≠ .loading then some 7 else none

/-- The pieces of a range, split at 64-byte boundaries (10 R354). -/
def linePieces : Nat → Nat → Nat → List (Nat × Nat)
  | 0, _, _ => []
  | k + 1, a, n => if n = 0 then [] else
    let m := min n (64 - a % 64)
    (a, m) :: linePieces k (a + m) (n - m)

/-- The pieces of a range. -/
def pieces (a n : Nat) : List (Nat × Nat) := linePieces (n / 64 + 2) a n

/-- The first access error of a range with its offset; a line lies in one region. -/
def State.rangeKind (s : State) (who : Req) (wr : Bool) (a n : Nat) : Option (Nat × Nat) :=
  (pieces a n).findSome? (fun p => (s.accessKind who wr p.1).map (fun k => (k, p.1)))

/-- Whether a region is cacheable memory (01 R26). -/
def cacheable (a : Nat) : Bool :=
  match areaOf a with
  | .rom => true | .mram => true | .hub => true | .dram => true | .slice _ => true
  | _ => false

/-- Whether a region is local, cacheable and writable (10 R328). -/
def lockable (a : Nat) : Bool :=
  match areaOf a with
  | .hub => true | .dram => true | .slice _ => true
  | _ => false

/-- Splits an address: the offset, and whether the package field names the own package (01 R25). -/
def offsetOf (addr : Nat) : Nat := addr % 2 ^ 44
/-- The package field. -/
def packageOf (addr : Nat) : Nat := addr / 2 ^ 44 % 16
/-- Whether an address is local. -/
def State.isLocal (s : State) (addr : Nat) : Bool := decide (packageOf addr = s.choir.ownId)

/-- The DRAM controller, DMC0 or DMC1, that serves an offset in package DRAM: bit 8 (01 R27). -/
def dramChannel (a : Nat) : Nat := a / 256 % 2

/-! ### Errors of memory words (10 R324, 06 R217, 04 R120) -/

/-- Counts a corrected read where the region has a count: the Cellar, MRAM, or a voice core's memory. -/
def State.eccCorrect (a : Nat) (s : State) : State :=
  match areaOf a with
  | .window c => (s.onCore c (fun x => { x with ecc := min 255 (x.ecc + 1) })).count (coreIdx c) 5 1
  | .mram => s.onNvm (fun n => { n with eccCorrected := min 65535 (n.eccCorrected + 1) })
  | .hub => s.onMem (fun m => { m with eccCorrected := satAdd max32 m.eccCorrected 1 })
  | .slice _ => s.onMem (fun m => { m with eccCorrected := satAdd max32 m.eccCorrected 1 })
  | _ => s

/-- Whether memory words of a region carry ECC. -/
def hasEcc (a : Nat) : Bool :=
  match areaOf a with
  | .hub => true | .slice _ => true | .mram => true | .window _ => true
  | _ => false

/-- The bit errors that a read of memory at an offset meets: one is corrected and counted, two leave the line with an
uncorrectable error. -/
def State.upset (u : Upset) (a : Nat) (s : State) : State :=
  match u with
  | .clean => s
  | .one => s.eccCorrect a
  | .two => if hasEcc a then s.onMem (fun m => { m with poison := tabPut false m.poison (a / 64) true }) else s

/-- Reports an uncorrectable error met on a read: a record for the Cellar, UNCORRECTED for a voice-core window. -/
def State.eccRead (src a : Nat) (s : State) : State :=
  match areaOf a with
  | .window c => s.onCore c (fun x => { x with uncorrected := true })
  | _ => (s.onMem (fun m => { m with eccUncorrected := satAdd max32 m.eccUncorrected 1 })).book 0xE500 0x14 2
      (leBytes 1 ((a - 0x40000000) / 0x100000) ++ leBytes 2 (a % 0x100000 / 64) ++ leBytes 1 src)

/-- Whether a region is the Cellar. -/
def inCellar (a : Nat) : Bool :=
  match areaOf a with
  | .hub => true | .slice _ => true
  | _ => false

/-- The first line of a range of the Cellar with an uncorrectable error. -/
def State.badLine (s : State) (a n : Nat) : Option Nat :=
  ((pieces a n).find? (fun p => inCellar p.1 && s.poisoned p.1 p.2)).map (fun p => p.1)

/-! ### Transactions in flight (10 R335) and remote requests (11 R379, R380) -/

/-- Whether a package ID names a reachable member other than this package. -/
def State.reachable (s : State) (id : Nat) : Bool :=
  s.choirMember && decide (id ≠ s.choir.ownId) && decide (tabGet 0 s.choir.serials id ≠ 0) && !s.choir.departed.any (fun d => decide (d.1 = id))

/-- Whether a remote request is a cellar mover's. -/
def RemoteFor.ofMover : RemoteFor → Bool
  | .moverRead _ _ _ => true
  | .moverWrite _ _ => true
  | _ => false

/-- Who made a remote request, by SOURCE code. -/
def RemoteFor.src : RemoteFor → Nat
  | .cantorLoad c => c
  | .cantorStore c => c
  | .moverRead m _ _ => 0x10 + m
  | .moverWrite m _ => 0x10 + m

/-- Transactions of the Cantor cluster in flight: remote ones, and line requests behind a writeback. -/
def State.cantorTx (s : State) : Nat :=
  (s.memu.remote.filter (fun r => !r.who.ofMover)).length + sumN (s.memu.dir.map (fun d => d.2.queue.length))

/-- Transactions of the movers in flight. -/
def State.moverTx (s : State) : Nat := (s.memu.remote.filter (fun r => r.who.ofMover)).length

/-- TRANSACTIONS_IN_FLIGHT. -/
def State.inFlightCount (s : State) : Nat := s.cantorTx + s.moverTx

/-- Places that no requester has reserved: what is left of 2048. -/
def State.sharedPlaces (s : State) : Nat :=
  2048 - (256 + 512 + 64 * (2 * s.tiles) + (if s.variant = .erv1640 then 128 else 0) + 256)

/-- Places of the shared pool in use. -/
def State.sharedUsed (s : State) : Nat := (s.cantorTx - 256) + (s.moverTx - 512)

/-- Transactions in flight to a tile's slice. -/
def State.tileTx (s : State) (t : Nat) : Nat :=
  sumN (s.memu.dir.map (fun d => if sliceTile (d.1 * 64) = some t then d.2.queue.length else 0))

/-- Whether a requester finds a place: of its reservation or of the shared pool. -/
def State.hasPlace (s : State) (mover : Bool) : Bool :=
  (if mover then decide (s.moverTx < 512) else decide (s.cantorTx < 256)) || decide (s.sharedUsed < s.sharedPlaces)

/-- Whether a line request finds a place, and its line's tile is below 512. -/
def State.hasLinePlace (s : State) (l : Nat) : Bool :=
  s.hasPlace false && (match sliceTile (l * 64) with
    | some t => decide (s.tileTx t < 512)
    | none => true)

/-- Sends a MEM_REQ and remembers it until its response. -/
def State.issueMemReq (who : RemoteFor) (wr : Bool) (addr len : Nat) (data : List Byte) (s : State) : State :=
  let tag := s.memu.nextTag
  let u := s.onMem (fun m => { m with
    nextTag := (tag + 1) % 65536,
    remote := m.remote ++ [{ tag := tag, who := who, addr := addr, len := len, dest := packageOf addr, sentAt := s.now }] })
  u.linkData 0x09 3 (packageOf addr) 0 (memBytes tag (b2n wr) len addr data)

/-- Whether a transaction that waits is a remote one of a SOURCE. -/
def WaitTx.remoteOf (src : Nat) : WaitTx → Bool
  | .remote who _ _ _ _ => decide (who.src = src)
  | .line _ _ => false

/-- A remote access: sent where a place is free and no older one of its requester waits, else it waits. -/
def State.sendMemReq (who : RemoteFor) (wr : Bool) (addr len : Nat) (data : List Byte) (s : State) : State :=
  if s.hasPlace who.ofMover = true ∧ s.memu.waitq.any (fun w => w.remoteOf who.src) = false then
    s.issueMemReq who wr addr len data
  else s.onMem (fun m => { m with waitq := m.waitq ++ [.remote who wr addr len data] })

/-! ### The directory (10 R326, R329 to R332) and data (10 R333, R334, R347) -/

/-- The directory entry of a line. -/
def State.dirLine (s : State) (l : Nat) : DirLine := tabGet {} s.memu.dir l

/-- Changes a directory entry. -/
def State.onDir (l : Nat) (f : DirLine → DirLine) : State → State :=
  State.onMem (fun m => { m with dir := tabMod {} m.dir l f })

/-- A granted GetS or GetM (R330). -/
def DirLine.grant (c : Nat) (wr : Bool) (d : DirLine) : DirLine :=
  if wr then
    { d with st := .m, holders := [c] }
  else match d.st with
    | .i => { d with st := .e, holders := [c] }
    | _ => if d.holders.contains c then d else { d with st := .s, holders := d.holders ++ [c] }

/-- PutS and PutE (R330): a clean copy is given up. -/
def DirLine.put (c : Nat) (d : DirLine) : DirLine :=
  if d.holders.contains c then
    let h := d.holders.filter (fun x => decide (x ≠ c))
    if h = [] then { d with st := .i, holders := [] } else { d with holders := h }
  else d

/-- Puts a request into a line's queue: by age, then by SOURCE (R331). -/
def queueReq (r : DirReq) : List DirReq → List DirReq
  | [] => [r]
  | q :: l => if r.cycle < q.cycle ∨ (r.cycle = q.cycle ∧ r.cantor < q.cantor) then r :: q :: l else q :: queueReq r l

/-- The line as backing memory holds it. -/
def State.memLine (s : State) (l : Nat) : List Byte := s.bytesAt (l * 64) 64

/-- The line as the Cantor cluster sees it. -/
def State.clusterLine (s : State) (l : Nat) : List Byte :=
  match tabGet none s.memu.cluster l with
  | some c => c.bytes
  | none => s.memLine l

/-- A line that reaches backing memory: its stores are visible to every observer. -/
def State.cleanLine (l : Nat) (s : State) : State :=
  match tabGet none s.memu.cluster l with
  | none => s
  | some c => (s.putBytes (l * 64) c.bytes).onMem (fun m => { m with
    cluster := tabPut none m.cluster l none, poison := tabPut false m.poison l false })

/-- Ends the reservations that other requesters hold on a line (10 R328). -/
def State.breakReservations (l : Nat) (but : Option Nat) : State → State :=
  State.onMem (fun m => { m with reservation := (m.reservation.filter (fun e => decide (e.2 ≠ some l) || decide (some e.1 = but))) })

/-- Lines of one L2 slice (01 R40, R326): 1 MiB of 64 bytes. -/
def l2SliceLines (v : Variant) : Nat := onChip v .l2 * 1024 / 64 / 4
/-- Lines of a cantor's data L1: 32 KiB of 64 bytes. -/
def l1Lines : Nat := 512

/-- A line leaves the L2: its data reaches backing memory, and no L1 keeps it, for the L2 includes them all (R326, R347). -/
def State.evictLine (l : Nat) (s : State) : State :=
  (s.cleanLine l).onMem (fun m => { m with
    dir := tabPut {} m.dir l {}, l2 := m.l2.filter (fun x => decide (x ≠ l)) })

/-- A line comes into its L2 slice, bits 7:6 of its address; in a full slice another leaves, which the spec does not
name: a free value picks it among those not being written back. -/
def State.install (l : Nat) (s : State) : State :=
  if s.memu.l2.contains l then s
  else
    let mates := s.memu.l2.filter (fun x => decide (x % 4 = l % 4))
    let cand := mates.filter (fun x => decide ((s.dirLine x).st ≠ .wbPending))
    let u := if mates.length < l2SliceLines s.variant then s
      else match cand[s.drawn % cand.length]? with
        | some v => s.draw.evictLine v
        | none => s
    u.onMem (fun m => { m with l2 := m.l2 ++ [l] })

/-- The lines of a cantor's data L1. -/
def State.l1Of (s : State) (c : Nat) : List Nat :=
  (s.memu.dir.filter (fun d => d.2.holders.contains c)).map (fun d => d.1)

/-- A full L1 gives up a line, picked by a free value: clean with PutS or PutE, modified with its data to the L2. -/
def State.fit (c l : Nat) (s : State) : State :=
  let held := s.l1Of c
  if held.contains l ∨ held.length < l1Lines then s
  else match held[s.drawn % held.length]? with
    | some v => s.draw.onDir v (fun d => d.put c)
    | none => s

/-- The stores in a cantor's store buffer. -/
def State.sbufOf (s : State) (c : Nat) : List Piece := tabGet [] s.memu.sbuf c

/-- A store of a cantor that holds its line in M: the data lies in the cluster (10 R345, R347). -/
def State.storePiece (c a : Nat) (b : List Byte) (s : State) : State :=
  let l := a / 64
  let old := s.clusterLine l
  let storers := match tabGet none s.memu.cluster l with
    | some x => if x.storers.contains c then x.storers else x.storers ++ [c]
    | none => [c]
  (s.onMem (fun m => { m with
    cluster := tabPut none m.cluster l (some { bytes := putSlice old (a % 64) b, storers := storers }) })).breakReservations l (some c)

/-- A cantor's buffered stores to a line are performed. -/
def State.drainLine (c l : Nat) (s : State) : State :=
  let mine := fun (p : Piece) => decide (p.addr / 64 = l)
  ((s.sbufOf c).filter mine).foldl (fun u p => u.storePiece c p.addr p.bytes)
    (s.onMem (fun m => { m with sbuf := tabPut [] m.sbuf c ((s.sbufOf c).filter (fun p => !mine p)) }))

/-- The directory grants a line: it comes into the caches, and a cantor that has it to write performs its stores to it
before another gets it (R331). -/
def State.grantLine (c : Nat) (wr : Bool) (l : Nat) (s : State) : State :=
  let u := ((s.fit c l).install l).onDir l (fun d => d.grant c wr)
  if wr then u.drainLine c l else u

/-- A line request: granted, or queued while a writeback is pending, where it waits for a place if none is free
(R331, R332, R335). -/
def State.askLine (r : DirReq) (l : Nat) (s : State) : State :=
  if (s.dirLine l).st ≠ .wbPending then s.grantLine r.cantor r.write l
  else if s.hasLinePlace l then s.onDir l (fun d => { d with queue := queueReq r d.queue })
  else s.onMem (fun m => { m with waitq := m.waitq ++ [.line r l] })

/-- A transaction that waited is tried again. -/
def State.retryTx (w : WaitTx) (s : State) : State :=
  match w with
  | .remote who wr addr len data => s.sendMemReq who wr addr len data
  | .line r l => s.askLine r l

/-- Places have become free: transactions that wait take them, the oldest first (R335). -/
def State.placeWaiting (s : State) : State :=
  s.memu.waitq.foldl (fun u w => u.retryTx w) (s.onMem (fun m => { m with waitq := [] }))

/-- Writeback data arrives: it lies in the L2, dirty, and the queued requests are served from it in their order (R332). -/
def State.serveLine (l : Nat) (s : State) : State :=
  if (s.dirLine l).st = .wbPending then
    ((s.dirLine l).queue.foldl (fun u r => u.grantLine r.cantor r.write l) (s.onDir l (fun _ => {}))).placeWaiting
  else s

/-- A cantor comes to hold a line, to read or to write; a line being written back arrives first. -/
def State.own (c : Nat) (wr : Bool) (l : Nat) (s : State) : State :=
  let u := s.serveLine l
  if wr = false ∧ (u.dirLine l).holders.contains c = true then u else u.grantLine c wr l

/-- GETS (10 R330). -/
def execGetS (c : Fin 8) (line cycle : Nat) (s : State) : Host.Outcome State Fault Refusal :=
  .next (if cacheable (line * 64) then s.askLine { cantor := c, write := false, cycle := cycle } line else s)

/-- GETM (10 R330): only a writable line is granted to write. -/
def execGetM (c : Fin 8) (line cycle : Nat) (s : State) : Host.Outcome State Fault Refusal :=
  .next (if lockable (line * 64) then s.askLine { cantor := c, write := true, cycle := cycle } line else s)

/-- PUTS (10 R330). -/
def execPutS (c : Fin 8) (line : Nat) (s : State) : Host.Outcome State Fault Refusal :=
  .next (if (s.dirLine line).st = .s then s.onDir line (fun d => d.put c) else s)

/-- PUTE (10 R330). -/
def execPutE (c : Fin 8) (line : Nat) (s : State) : Host.Outcome State Fault Refusal :=
  .next (if (s.dirLine line).st = .e then s.onDir line (fun d => d.put c) else s)

/-- PUTM (10 R330, R332): the holder of a modified line starts its writeback and holds it no more. -/
def execPutM (c : Fin 8) (line : Nat) (s : State) : Host.Outcome State Fault Refusal :=
  .next (if (s.dirLine line).st = .m ∧ (s.dirLine line).holders.contains (c : Nat) = true then
    s.onDir line (fun d => { d with st := .wbPending, holders := [] }) else s)

/-- PUTM_DATA (10 R330, R332). -/
def execPutMData (line : Nat) (s : State) : Host.Outcome State Fault Refusal := .next (s.serveLine line)

/-- Bytes with what a piece writes over them. -/
def Piece.onto (p : Piece) (a : Nat) (l : List Byte) : List Byte :=
  l.zipIdx.map (fun e => if p.addr ≤ a + e.2 ∧ a + e.2 < p.addr + p.bytes.length then p.bytes.getD (a + e.2 - p.addr) e.1 else e.1)

/-- Bytes from an offset with what pieces write over them, in order. -/
def overlay (ps : List Piece) (a : Nat) (l : List Byte) : List Byte := ps.foldl (fun x p => p.onto a x) l

/-- What the Cantor cluster holds of cacheable memory. -/
def State.clusterBytes (s : State) (a n : Nat) : List Byte :=
  match areaOf a with
  | .rom => (List.range n).map (fun i => Config.bootRom (a + i))
  | _ => (pieces a n).flatMap (fun p => slice (s.clusterLine (p.1 / 64)) (p.1 % 64) p.2)

/-- What a cantor reads from cacheable memory: its own buffered stores before the cluster's data (10 R345). -/
def State.cantorBytes (s : State) (c a n : Nat) : List Byte := overlay (s.sbufOf c) a (s.clusterBytes a n)

/-- An NC_WRITE of bytes within one line: requests older than it are served, modified data is recalled, every copy is
invalidated, and the line ends in I (10 R331, R334). A whole line clears an uncorrectable error (R324). -/
def State.ncPiece (a : Nat) (b : List Byte) (s : State) : State :=
  let l := a / 64
  let u := ((((s.serveLine l).cleanLine l).putBytes a b).breakReservations l none)
  u.onMem (fun m => { m with
    dir := tabPut {} m.dir l {}, l2 := m.l2.filter (fun x => decide (x ≠ l)),
    poison := if b.length = 64 then tabPut false m.poison l false else m.poison })

/-- An NC_WRITE, line by line. -/
def State.ncWrite (a : Nat) (b : List Byte) (s : State) : State :=
  (pieces a b.length).foldl (fun u p => u.ncPiece p.1 (slice b (p.1 - a) p.2)) s

/-- A store of a cantor enters its store buffer; from a full one the oldest is performed first. -/
def State.bufferPiece (c a : Nat) (b : List Byte) (s : State) : State :=
  let u := match s.sbufOf c with
    | p :: l => if 15 ≤ l.length then s.own c true (p.addr / 64) else s
    | [] => s
  u.onMem (fun m => { m with sbuf := tabPut [] m.sbuf c (u.sbufOf c ++ [{ addr := a, bytes := b }]) })

/-- A store of a cantor to cacheable memory, line by line: seen by itself at once, by the Cantor cluster when it is
performed. -/
def State.cantorStore (c a : Nat) (b : List Byte) (s : State) : State :=
  (pieces a b.length).foldl (fun u p => u.bufferPiece c p.1 (slice b (p.1 - a) p.2)) s

/-- Every buffered store of a cantor is performed. -/
def State.drainStores (c : Nat) (s : State) : State :=
  (s.sbufOf c).foldl (fun u p => u.own c true (p.addr / 64)) s

/-- A load's lines are taken for reading (10 R330). -/
def State.takeLines (c a n : Nat) (s : State) : State :=
  (pieces a n).foldl (fun u p => u.own c false (p.1 / 64)) s

/-- A mover's writes at SCOPE CORE that are not yet visible outside it become so (10 R351). -/
def State.lateOut (m : Nat) (s : State) : State :=
  (tabGet [] s.memu.late m).foldl (fun u p => u.ncWrite p.addr p.bytes)
    (s.onMem (fun x => { x with late := tabPut [] x.late m [] }))

/-- A mover's write: at SCOPE CORE only the mover itself is sure to see it (10 R344, R351). -/
def State.moverPut (m scope a : Nat) (b : List Byte) (s : State) : State :=
  if scope = 0 then s.onMem (fun x => { x with late := tabPut [] x.late m (tabGet [] x.late m ++ [{ addr := a, bytes := b }]) })
  else (s.lateOut m).ncWrite a b

/-- What a mover reads: its own writes before backing memory. -/
def State.moverBytes (s : State) (m a n : Nat) : List Byte := overlay (tabGet [] s.memu.late m) a (s.bytesAt a n)

/-- Every mover's writes at SCOPE CORE become visible. -/
def State.lateAll (s : State) : State := (List.range 16).foldl (fun u m => u.lateOut m) s

/-- Every store buffer and every mover's writes at SCOPE CORE drain: they do in finite time (log 69). -/
def State.drainAll (s : State) : State :=
  ((List.range 8).foldl (fun u c => u.drainStores c) s).lateAll

/-! ### Accesses of requesters that are not cantors -/

/-- Why such an access fails: an access error with its kind, or an uncorrectable Cellar error. -/
inductive NcFail where
  | kind (k : Nat) (a : Nat) | ecc (a : Nat)
deriving DecidableEq, Repr

/-- Tests a read of a local range. -/
def State.ncReadFail (s : State) (who : Req) (a n : Nat) : Option NcFail :=
  match s.rangeKind who false a n with
  | some (k, b) => some (.kind k b)
  | none => (s.badLine a n).map NcFail.ecc

/-- The effect of a failed access: captured and counted, or recorded (01 R33, 10 R324). -/
def State.ncFailed (src pkg : Nat) (f : NcFail) (s : State) : State :=
  match f with
  | .kind k a => s.accessError src k (pkg * 2 ^ 44 + a)
  | .ecc a => s.eccRead src a

/-- The bytes a read returns; a voice-core window with an uncorrectable error returns them and sets UNCORRECTED. -/
def State.windowEcc (a n : Nat) (s : State) : State :=
  match areaOf a with
  | .window _ => if s.poisoned a n then s.eccRead 0 a else s
  | _ => s

/-- What a requester that is not a cantor reads. -/
def State.ncBytes (s : State) (req a n : Nat) : List Byte :=
  if reqOf req = .mover then s.moverBytes (req - 0x10) a n else s.bytesAt a n

/-- NC_READ (10 R333): backing memory, whatever the caches hold. -/
def execNcRead (req : Nat) (addr : Addr) (len : Nat) (upset : Upset) (s : State) : Host.Outcome State Fault Refusal :=
  let a := offsetOf addr.toNat
  .next (if s.isLocal addr.toNat = false ∧ ¬ (req < 0x28 ∧ 0x20 ≤ req ∧ packageOf addr.toNat = 0) then
      s.accessError req 6 addr.toNat
    else match s.rangeKind (reqOf req) false a len with
      | some (k, b) => s.accessError req k (packageOf addr.toNat * 2 ^ 44 + b)
      | none =>
        let u := s.upset upset a
        match u.badLine a len with
        | some b => u.eccRead req b
        | none => (u.windowEcc a len).emit (.data req (u.ncBytes req a len)))

/-- NC_WRITE (10 R334). -/
def execNcWrite (req : Nat) (addr : Addr) (data : List Byte) (s : State) : Host.Outcome State Fault Refusal :=
  let a := offsetOf addr.toNat
  .next (if s.isLocal addr.toNat = false ∧ ¬ (req < 0x28 ∧ 0x20 ≤ req ∧ packageOf addr.toNat = 0) then
      s.accessError req 6 addr.toNat
    else match s.rangeKind (reqOf req) true a data.length with
      | some (k, b) => s.accessError req k (packageOf addr.toNat * 2 ^ 44 + b)
      | none => s.ncWrite a data)

/-! ### Atomics (10 R328) -/

/-- Whether an atomic of a size is taken to a region that supports it. -/
def State.atomicOk (s : State) (addr n : Nat) : Bool :=
  s.isLocal addr && lockable (offsetOf addr) && decide (addr % n = 0)

/-- What an atomic finds before it acts: a trap, or nothing in its way. -/
def State.atomicGuard (s : State) (c : Nat) (addr n : Nat) : Option State :=
  let a := offsetOf addr
  if s.atomicOk addr n = false then some (s.emit (.trap c 7 addr))
  else match s.accessKind .cantor true a with
    | some k => some ((s.accessError c k addr).emit (.trap c 7 addr))
    | none =>
      if inCellar a ∧ s.poisoned a n ∧ s.memu.l2.contains (a / 64) = false then
        some ((s.eccRead c a).emit (.trap c 5 addr))
      else none

/-- Sets or clears a cantor's reservation. -/
def State.reserve (c : Nat) (l : Option Nat) : State → State :=
  State.onMem (fun m => { m with reservation := tabPut none m.reservation c l })

/-- Bytes of an atomic. -/
def atomSize (dbl : Bool) : Nat := if dbl then 8 else 4

/-- Fences of a cantor that wait. -/
def State.fencePending (s : State) (c : Nat) : Bool := s.memu.fences.any (fun f => decide (f.cantor = c))

/-- Whether a cantor performs accesses: it runs, the debugger does not hold it, and no fence of it waits. -/
def State.cantorUp (s : State) (c : Nat) : Bool :=
  s.powered && decide (s.boot.st ≠ .resetting) && !s.boot.halted.getLsbD c && !s.fencePending c

/-- LR. -/
def execLr (c : Fin 8) (addr : Addr) (dbl : Bool) (s : State) : Host.Outcome State Fault Refusal :=
  .next (if s.cantorUp c = false then s
    else match s.atomicGuard c addr.toNat (atomSize dbl) with
      | some t => t
      | none =>
        let a := offsetOf addr.toNat
        let u := s.own c true (a / 64)
        (u.reserve c (some (a / 64))).emit (.read c (leNum (u.clusterBytes a (atomSize dbl)))))

/-- SC: it fails when its reservation is gone or names another line. -/
def execSc (c : Fin 8) (addr : Addr) (dbl : Bool) (val : BitVec 64) (s : State) : Host.Outcome State Fault Refusal :=
  .next (if s.cantorUp c = false then s
    else match s.atomicGuard c addr.toNat (atomSize dbl) with
      | some t => t
      | none =>
        let a := offsetOf addr.toNat
        let u := s.own c true (a / 64)
        if tabGet none u.memu.reservation c = some (a / 64) then
          ((u.storePiece c a (leBytes (atomSize dbl) val.toNat)).reserve c none).emit (.sc c false)
        else (u.reserve c none).emit (.sc c true))

/-- What an AMO writes (RISC-V A extension), on n-bit values. -/
def amoValue (op : AmoOp) (n old val : Nat) : Nat :=
  let lt := decide (sext n old < sext n val)
  match op with
  | .swap => val % 2 ^ n
  | .add => (old + val) % 2 ^ n
  | .xor => (old ^^^ val) % 2 ^ n
  | .and => (old &&& val) % 2 ^ n
  | .or => (old ||| val) % 2 ^ n
  | .min => if lt then old else val % 2 ^ n
  | .max => if lt then val % 2 ^ n else old
  | .minu => min old (val % 2 ^ n)
  | .maxu => max old (val % 2 ^ n)

/-- AMO. -/
def execAmo (c : Fin 8) (addr : Addr) (dbl : Bool) (op : AmoOp) (val : BitVec 64) (s : State) :
    Host.Outcome State Fault Refusal :=
  .next (if s.cantorUp c = false then s
    else match s.atomicGuard c addr.toNat (atomSize dbl) with
      | some t => t
      | none =>
        let a := offsetOf addr.toNat
        let n := atomSize dbl
        let u := s.own c true (a / 64)
        let old := leNum (u.clusterBytes a n)
        (u.storePiece c a (leBytes n (amoValue op (8 * n) old val.toNat))).emit (.amo c old))

/-! ### Fences (10 R348 to R350) -/

/-- FENCE.S CHIP's effect: every line that holds stores of the cantor reaches backing memory. -/
def State.cleanCantor (c : Nat) (s : State) : State :=
  (s.memu.cluster.filterMap (fun e => match e.2 with
    | some x => if x.storers.contains c then some e.1 else none
    | none => none)).foldl (fun u l => u.cleanLine l) s

/-- Whether a remote access of a kind is without its answer, sent or waiting for a place (11 R380). -/
def State.remoteOut (s : State) (who : RemoteFor) : Bool :=
  s.memu.remote.any (fun r => decide (r.who = who)) || s.memu.waitq.any (fun w => match w with
    | .remote x _ _ _ _ => decide (x = who)
    | .line _ _ => false)

/-- Whether a fence has what it waits for: the cantor's remote loads, and with SYSTEM the acknowledgements of its remote
stores. -/
def State.fenceMet (s : State) (f : FenceWait) : Bool :=
  !s.remoteOut (.cantorLoad f.cantor) && !(f.system && s.remoteOut (.cantorStore f.cantor))

/-- A fence completes with its status in rd. -/
def State.fenceEnd (f : FenceWait) (status : Nat) (s : State) : State :=
  match f.rd with
  | some rd => s.emit (.fence f.cantor rd status)
  | none => s

/-- A fence completes, or waits. -/
def State.fenceWait (f : FenceWait) (s : State) : State :=
  if s.fenceMet f then s.fenceEnd f 0 else s.onMem (fun m => { m with fences := m.fences ++ [f] })

/-- Fences that have what they waited for complete (10 R349). -/
def State.fencesDone (s : State) : State :=
  (s.memu.fences.filter (fun f => s.fenceMet f)).foldl (fun u f => u.fenceEnd f 0)
    (s.onMem (fun m => { m with fences := m.fences.filter (fun f => !s.fenceMet f) }))

/-- The scope that a FENCE.S names; none for a word of its opcode that is illegal (R348). -/
def fenceScope (w : Nat) : Option Nat :=
  if bits w 0 7 = 0x0B ∧ bits w 15 17 = 0 ∧ bits w 12 3 ≤ 2 then some (bits w 12 3) else none

/-- FENCE.S as its word says (R348, R349): an illegal-instruction exception, or the effect of its scope. -/
def State.fenceS (c : Nat) (w : Nat) (s : State) : State :=
  if s.cantorUp c = false then s
  else match fenceScope w with
    | none => s.emit (.trap c 2 w)
    | some 0 => (s.drainStores c).fenceWait { cantor := c, system := false, rd := some (bits w 7 5) }
    | some x => ((s.drainStores c).cleanCantor c).fenceWait { cantor := c, system := decide (x = 2), rd := some (bits w 7 5) }

/-- FENCE_S_CORE. -/
def execFenceSCore (c : Fin 8) (word : BitVec 32) (s : State) : Host.Outcome State Fault Refusal :=
  .next (s.fenceS c word.toNat)

/-- FENCE_S_CHIP. -/
def execFenceSChip (c : Fin 8) (word : BitVec 32) (s : State) : Host.Outcome State Fault Refusal :=
  .next (s.fenceS c word.toNat)

/-- FENCE_S_SYSTEM: as CHIP; it completes once every remote store of the cantor is acknowledged. -/
def execFenceSSystem (c : Fin 8) (word : BitVec 32) (s : State) : Host.Outcome State Fault Refusal :=
  .next (s.fenceS c word.toNat)

/-- A FENCE orders what its predecessor set names: stores leave the store buffer, and it waits for remote loads; it cleans
no line (R350). -/
def State.fenceStd (c : Nat) (loads stores : Bool) (s : State) : State :=
  let u := if stores then s.drainStores c else s
  if loads then u.fenceWait { cantor := c, system := false, rd := none } else u

/-- FENCE (10 R350): bits 1 and 0 of the predecessor set are R and W; device accesses reach their units in program order. -/
def execFence (c : Fin 8) (pred _succ : BitVec 4) (s : State) : Host.Outcome State Fault Refusal :=
  .next (if s.cantorUp c = false then s else s.fenceStd c (pred.getLsbD 1) (pred.getLsbD 0))

/-- FENCE_I (10 R350): stores of the cantor are seen by its later instruction fetches. -/
def execFenceI (c : Fin 8) (s : State) : Host.Outcome State Fault Refusal :=
  .next (if s.cantorUp c = false then s else s.fenceStd c false true)

/-- FENCE_TSO (10 R350). -/
def execFenceTso (c : Fin 8) (s : State) : Host.Outcome State Fault Refusal :=
  .next (if s.cantorUp c = false then s else s.fenceStd c true true)

/-- ACCESS_ERROR_CLEAR (01 R31). -/
def execAccessErrorClear (s : State) : Host.Outcome State Fault Refusal :=
  .next (s.onMem (fun m => { m with errValid := false, errSource := 0, errKind := 0, errCount := 0, errAddr := 0 }))

end Sys2Proof.Machine
end

