-- ==== Sys2Proof/Machine/PressMath.lean ====
section
/-! DEFINITION. Number formats, accumulation and output conversion of the press engines (08 R254, R255). -/

namespace Sys2Proof.Machine

/-! ### Floating-point formats as whole numbers -/

/-- A signed magnitude in units of 2^-24, as a value. -/
def fsmall (neg : Bool) (m : Nat) : FVal := .fin ((if neg then -(m : Int) else (m : Int)) * 2 ^ 125)

/-- The value of an FP8 E4M3 or FP16 code (R254; E4M3 as the OCP format defines it, PRESUMED, log 24). -/
def fpVal (t code : Nat) : FVal :=
  if t = 2 then
    let e := bits code 3 4
    let m := bits code 0 3
    if e = 15 ∧ m = 7 then .nan else fsmall (code.testBit 7) ((if e = 0 then m else (8 + m) * 2 ^ (e - 1)) * 2 ^ 15)
  else
    let e := bits code 10 5
    let m := bits code 0 10
    if e = 31 then (if m = 0 then .inf (code.testBit 15) else .nan)
    else fsmall (code.testBit 15) (if e = 0 then m else (1024 + m) * 2 ^ (e - 1))

/-- A quotient rounded to nearest, ties to even. -/
def divEven (a b : Nat) : Nat :=
  let q := a / b
  let r := a % b
  if 2 * r < b then q else if b < 2 * r then q + 1 else if q % 2 = 0 then q else q + 1

/-- The code without sign of a magnitude in units of 2^-u, for a format with p significant bits whose smallest step is
2^-q (q at most u): rounded to nearest, ties to even, not saturated. -/
def fpCode (p q u a : Nat) : Nat :=
  if a = 0 then 0
  else
    let lsb := max (a.log2 + 1 - p) (u - q)
    (lsb - (u - q)) * 2 ^ (p - 1) + divEven a (2 ^ lsb)

/-- The binary32 code of a finite value, rounded to nearest, ties to even; one past the range gives an infinity. -/
def enc32 (v : Int) : Nat := b2n (decide (v < 0)) * 2 ^ 31 + min 0x7F800000 (fpCode 24 149 149 v.natAbs)

/-- The value of a binary32 code. -/
def dec32 (c : Nat) : FVal :=
  let e := bits c 23 8
  let m := bits c 0 23
  if e = 255 then (if m = 0 then .inf (c.testBit 31) else .nan)
  else
    let a : Nat := if e = 0 then m else (8388608 + m) * 2 ^ (e - 1)
    .fin (if c.testBit 31 then -(a : Int) else (a : Int))

/-- The finite part of a value. -/
def fnum : FVal → Int
  | .fin v => v
  | _ => 0

/-- Whether it is no number. -/
def fnan : FVal → Bool
  | .nan => true
  | _ => false

/-- Whether every partial sum of some terms, in whatever order, is a binary32 value: all are multiples of one power of two
and stay below 2^24 times it. -/
def anyOrder (l : List Int) : Bool :=
  let unit := Nat.gcd (l.foldl (fun g v => Nat.gcd g v.natAbs) 0) (2 ^ 300)
  let total := l.foldl (fun n v => n + v.natAbs) 0
  decide (total ≤ 2 ^ 24 * unit) && decide (total ≤ (2 ^ 24 - 1) * 2 ^ 253)

/-- The sum of finite terms as a binary32 code, where R255 leaves no choice: at most two terms round once, and terms of
which no partial sum is rounded add up in any order; the engine's own order decides otherwise. -/
def fsum (terms : List FVal) : Nat :=
  let l := (terms.map fnum).filter (fun v => decide (v ≠ 0))
  if l.length ≤ 2 ∨ anyOrder l = true then enc32 (l.foldl (· + ·) 0) else (Config.floatAcc terms).toNat

/-- The binary32 accumulator of floating-point terms (R254, R255): infinities of one sign decide it as binary32 addition
does; a term that is no number, or infinities of both signs, leave it open. -/
def facc (terms : List FVal) : Nat :=
  if terms.any fnan || (terms.contains (.inf false) && terms.contains (.inf true)) then (Config.floatAcc terms).toNat
  else if terms.contains (.inf false) then 0x7F800000
  else if terms.contains (.inf true) then 0xFF800000
  else fsum terms

/-- Output of a floating-point accumulator: FP16 and FP8 rounded to nearest even and saturated to the largest finite value,
FP32 unchanged (R255). -/
def fout (t acc : Nat) : Nat :=
  if t = 5 then acc
  else match dec32 acc with
    | .nan => Config.floatOut t acc
    | .inf neg => b2n neg * (if t = 3 then 2 ^ 15 else 2 ^ 7) + (if t = 3 then 0x7BFF else 0x7E)
    | .fin v =>
      if t = 3 then b2n (decide (v < 0)) * 2 ^ 15 + min 0x7BFF (fpCode 11 24 149 v.natAbs)
      else b2n (decide (v < 0)) * 2 ^ 7 + min 0x7E (fpCode 4 9 149 v.natAbs)

/-! ### Integers -/

/-- Whether every partial sum of terms from a start stays within INT32. -/
def sumFits : Int → List Int → Bool
  | a, [] => decide (-2147483648 ≤ a ∧ a ≤ 2147483647)
  | a, t :: l => decide (-2147483648 ≤ a ∧ a ≤ 2147483647) && sumFits (a + t) l

/-- Sum of whole numbers. -/
def sumI : List Int → Int
  | [] => 0
  | x :: t => x + sumI t

/-- The INT32 accumulator; one that leaves the range is the engine's own value. -/
def iacc (terms : List Int) : Int :=
  if sumFits 0 terms then sumI terms else (Config.accWide terms).toInt

/-- Output of an integer accumulator: shifted right, rounded half upward and saturated; INT32 unchanged (R255). -/
def iout (t shift : Nat) (acc : Int) : Nat :=
  if t = 4 then toBits 32 acc
  else
    let v := (acc + (if shift = 0 then 0 else (2 ^ (shift - 1) : Nat))) / (2 ^ shift : Nat)
    if t = 0 then toBits 8 (clampI (-128) 127 v) else toBits 4 (clampI (-8) 7 v)

/-! ### Tensors -/

/-- Bits of an element: INT8, INT4, FP8, FP16, INT32, FP32. -/
def elemBits : Nat → Nat
  | 0 => 8 | 1 => 4 | 2 => 8 | 3 => 16 | _ => 32

/-- Bytes of a tensor. -/
def tensorBytes (t count : Nat) : Nat := (count * elemBits t + 7) / 8

/-- Element i of a tensor's bytes, INT4 low nibble first (R254). -/
def elem (t : Nat) (l : List Byte) (i : Nat) : Nat :=
  if t = 1 then bits (numAt l (i / 2) 1) (4 * (i % 2)) 4
  else numAt l (i * (elemBits t / 8)) (elemBits t / 8)

/-- Packs elements; the unused nibble of an odd INT4 tensor keeps what stood there. -/
def packElems (t : Nat) (old : List Byte) : List Nat → List Byte
  | [] => []
  | v :: rest =>
    if t = 1 then
      match rest with
      | [] => leBytes 1 (v % 16 + 16 * (numAt old 0 1 / 16))
      | w :: more => leBytes 1 (v % 16 + 16 * (w % 16)) ++ packElems t (old.drop 1) more
    else leBytes (elemBits t / 8) v ++ packElems t (old.drop (elemBits t / 8)) rest

/-- Whether a type is integer. -/
def intType (t : Nat) : Bool := decide (t = 0 ∨ t = 1 ∨ t = 4)

/-- A signed integer element. -/
def ielem (t : Nat) (l : List Byte) (i : Nat) : Int := sext (elemBits t) (elem t l i)

/-- A floating-point element as a term of the accumulator; DST's present value (ACC_KEEP) may be binary32. -/
def fterm (t : Nat) (l : List Byte) (i : Nat) : FVal := if t = 5 then dec32 (elem 5 l i) else fpVal t (elem t l i)

/-- The product of two values; of an infinity and zero it is no number. -/
def ftimes : FVal → FVal → FVal
  | .fin x, .fin y => .fin (x * y / 2 ^ 149)
  | .inf a, .fin y => if y = 0 then .nan else .inf (a != decide (y < 0))
  | .fin x, .inf b => if x = 0 then .nan else .inf (b != decide (x < 0))
  | .inf a, .inf b => .inf (a != b)
  | _, _ => .nan

/-- Finishes an integer element: ACC_KEEP, RELU, output. -/
def ifinish (outT shift : Nat) (keep relu : Bool) (old : List Byte) (i : Nat) (terms : List Int) : Nat :=
  let a := iacc (if keep then ielem outT old i :: terms else terms)
  iout outT shift (if relu then max a 0 else a)

/-- Finishes a floating-point element. -/
def ffinish (outT : Nat) (keep relu : Bool) (old : List Byte) (i : Nat) (terms : List FVal) : Nat :=
  let a := facc (if keep then fterm outT old i :: terms else terms)
  fout outT (if relu = true ∧ a.testBit 31 = true ∧ fnan (dec32 a) = false then 0 else a)

/-- The larger of two values that are numbers. -/
def flarger : FVal → FVal → FVal
  | .inf true, b => b
  | a, .inf true => a
  | .inf false, _ => .inf false
  | _, .inf false => .inf false
  | .fin x, .fin y => .fin (max x y)
  | a, _ => a

/-- The largest of floating-point values; of a window that holds one that is no number, the engine's own. -/
def fmax (l : List FVal) : FVal :=
  if l.any fnan then dec32 (Config.floatMax l).toNat
  else match l with
    | [] => .fin 0
    | v :: t => t.foldl flarger v

/-! ### Windows (R259) -/

/-- KS, stride, pad and output height and width of a CONV or MAXPOOL over H × M; none when PARAM or the shape breaks the
opcode's rules. -/
def convShape (h m param : Nat) : Option (Nat × Nat × Nat × Nat × Nat) :=
  let ks := bits param 0 4
  let pad := if param.testBit 6 then (ks - 1) / 2 else 0
  let st := 2 ^ bits param 4 2
  if ks ∈ [1, 3, 5, 7] ∧ bits param 4 2 ≠ 3 ∧ bits param 7 9 = 0 ∧ ks ≤ h + 2 * pad ∧ ks ≤ m + 2 * pad then
    some (ks, st, pad, (h + 2 * pad - ks) / st + 1, (m + 2 * pad - ks) / st + 1)
  else none

/-- The kernel positions of an output that fall inside the input: kernel row and column, input row and column. -/
def window (ks st pad h m oy ox : Nat) : List (Nat × Nat × Nat × Nat) :=
  (List.range ks).flatMap (fun ky => (List.range ks).filterMap (fun kx =>
    let y := oy * st + ky
    let x := ox * st + kx
    if pad ≤ y ∧ y < h + pad ∧ pad ≤ x ∧ x < m + pad then some (ky, kx, y - pad, x - pad) else none))

/-! ### Frames (R260) -/

/-- The 12-bit sample x of a RAW12 line. -/
def lineSample12 (l : List Byte) (x : Nat) : Nat :=
  numAt l (3 * (x / 2) + x % 2) 1 * 16 + bits (numAt l (3 * (x / 2) + 2) 1) (4 * (x % 2)) 4

/-- Overlap of [a, a+m) and [b, b+n). -/
def overlapLen (a m b n : Nat) : Nat := min (a + m) (b + n) - max a b

/-- One output of area averaging from w × h to m × n (R260). -/
def areaSample (w h m n : Nat) (at' : Nat → Nat → Nat) (x y : Nat) : Byte :=
  let num := sumN ((List.range h).map (fun j =>
    let oy := overlapLen (j * n) n (y * h) h
    if oy = 0 then 0 else oy * sumN ((List.range w).map (fun i =>
      let ox := overlapLen (i * m) m (x * w) w
      if ox = 0 then 0 else ox * at' i j))))
  if num % (w * h) = 0 then BitVec.ofNat 8 (num / (w * h)) else Config.areaRound num (w * h)

/-- The planes of a frame scaled to m × n each. -/
def framePlanes (f : Frame) (m n planes : Nat) : List Byte :=
  let ls := f.lines.map lineBytes
  (List.range planes).flatMap (fun p =>
    let w := if f.dataType = 0x1E ∧ p ≠ 0 then f.width / 2 else f.width
    (List.range n).flatMap (fun y => (List.range m).map (fun x =>
      areaSample w f.height m n (fun i j => lineSample f.dataType p (ls.getD j []) i) x y)))

/-- A spectral frame's samples. -/
def spectralPlane (f : Frame) : List Byte :=
  f.lines.flatMap (fun l => (List.range f.width).map (fun x => Config.spectralByte (lineSample12 (lineBytes l) x)))

end Sys2Proof.Machine
end

