-- ==== Sys2Proof/Machine/Press.lean ====
section
/-! DEFINITION. Press engines and dispatchers: task states, dependencies, submission, command streams
(08_press_and_blend.md R254 to R271, R289, R290). -/

namespace Sys2Proof.Machine

/-! ### Units and slots -/

/-- The unit of a tile: engine 2t, engine 2t + 1, or the Blend unit (8). -/
def unitOf (t : Nat) : Unit3 → Nat
  | .even => 2 * t | .odd => 2 * t + 1 | .blend => 8

/-- The slot key a unit runs. -/
def State.runs (s : State) (u : Nat) : Option Nat := tabGet none s.press.running u

/-- Sets what a unit runs. -/
def State.setRuns (u : Nat) (k : Option Nat) : State → State :=
  State.onPress (fun p => { p with running := tabPut none p.running u k })

/-- The tile of a unit. -/
def unitTile (u : Nat) : Nat := if u = 8 then 0 else u / 2

/-- start(n), for the beat to come as far as its length is fixed (02 R44). -/
def State.startOf (s : State) (n : Nat) : Nat :=
  if n = s.beat.number + 1 then s.beat.start + s.beat.length
  else ((s.beat.starts.find? (fun e => decide (e.1 = n))).map (fun e => e.2)).getD s.beat.start

/-- Whether a task is live. -/
def TaskSt.live : TaskSt → Bool
  | .waiting => true | .ready => true | .running => true | _ => false

/-! ### Task descriptors (08 R262) -/

/-- The dependents of a descriptor as slot keys. -/
def descDependents (b : List Byte) : List Nat :=
  (List.range 8).filterMap (fun i =>
    let v := numAt b (16 + 2 * i) 2
    if v.testBit 15 then some (bits v 10 2 * 1024 + bits v 0 10) else none)

/-- A descriptor's fields. -/
def parseDesc (b : List Byte) : TaskDesc :=
  { addr := numAt b 0 6, count := numAt b 8 2, engine := bits (numAt b 10 1) 0 2, detach := (numAt b 10 1).testBit 2,
    post := (numAt b 10 1).testBit 3, depCount := numAt b 11 1, taskId := bits (numAt b 12 2) 0 10,
    dependents := descDependents b }

/-- Whether a descriptor's fields are in range for dispatcher t (R262, R268 cause 3). -/
def descOk (t : Nat) (b : List Byte) : Bool :=
  decide (numAt b 6 2 = 0) && decide (numAt b 0 6 % 64 = 0) && decide (1 ≤ numAt b 8 2 ∧ numAt b 8 2 ≤ 4096)
  && decide (bits (numAt b 10 1) 4 4 = 0) && decide (numAt b 11 1 ≤ 15) && decide (bits (numAt b 12 2) 10 6 = 0)
  && decide (numAt b 14 2 = 0) && (List.range 8).all (fun i => decide (bits (numAt b (16 + 2 * i) 2) 12 3 = 0))
  && (decide (bits (numAt b 10 1) 0 2 ≠ 3) || decide (t = 0))

/-! ### Ends and their dependents (08 R263 to R266) -/

/-- A change of the dispatchers' cycle: tasks that become READY in one cycle share its number (R267). -/
def State.cycle (s : State) : State := s.onPress (fun p => { p with readyNo := p.readyNo + 1 })

/-- Sets a task slot's state in the table. -/
def State.taskTo (k : Nat) (st : TaskSt) (cause : Nat) : State → State :=
  State.onTask k (fun t => { t with st := st, cause := cause })

/-- Frees the unit that runs a slot. -/
def State.release (k : Nat) : State → State :=
  State.onPress (fun p => { p with running := p.running.filter (fun e => decide (e.2 ≠ some k)) })

/-- A task ends: counted once, its unit freed, its end stamped. -/
def State.taskStop (k : Nat) (st : TaskSt) (cause : Nat) (s : State) : State :=
  let run := if (s.task k).st = .running then min 0xFFFF (s.now - (s.task k).startedAt) else 0
  let u := (s.release k).onTask k (fun t => { t with st := st, cause := cause, endBeat := s.beat.number, runUs := run, endNo := s.press.readyNo })
  u.count 0x5000 (if st = .done then 1 else 2) 1

/-- Whether the item of an ended task must be written before its slot is FREE (R268). -/
def State.mustPost (s : State) (k : Nat) : Bool := (s.task k).desc.post && decide (s.ent 0x5000 8 ≠ 0xFF)

/-- An ended task whose item need not be written leaves its slot FREE (R263). -/
def State.taskFree (k : Nat) (s : State) : State :=
  if s.mustPost k then s else s.onTask k (fun _ => {})

/-- A decrement reaches a slot (R265). -/
def State.decrement (k : Nat) (s : State) : State :=
  if s.tileUp (k / 1024) = true ∧ (s.task k).st = .waiting ∧ 0 < (s.task k).dep then
    s.onTask k (fun t => if t.dep = 1 then { t with dep := 0, st := .ready, readyNo := s.press.readyNo }
      else { t with dep := t.dep - 1 })
  else s.count 0x5000 4 1

/-- What reaches a dependent's slot when a task ends: a decrement, or the end of a CANCELLED predecessor (R264). -/
abbrev TaskMsg := Nat × Bool

/-- What the end of a task in a given state sends to its dependents. -/
def State.endMsgs (s : State) (e : Nat × TaskSt × Nat) : List TaskMsg :=
  (s.task e.1).desc.dependents.map (fun d => (d, decide (e.2.1 = .cancelled)))

/-- Whether a message cancels the slot it reaches: DETACH 0 (R264). -/
def State.cancels (s : State) (m : TaskMsg) : Bool := m.2 && s.tileUp (m.1 / 1024) && !(s.task m.1).desc.detach

/-- The tasks that end in one dispatcher cycle: those given, and within their tiles every live slot that a cancelled one
takes with it (R264); at most one per slot. -/
def State.spread (s : State) : Nat → List (Nat × TaskSt × Nat) → List (Nat × TaskSt × Nat)
  | 0, l => l
  | n + 1, l =>
    let hit := (l.flatMap (fun e => (s.endMsgs e).filter (fun m => decide (m.1 / 1024 = e.1 / 1024) && s.cancels m))).map (fun m => m.1)
    let more := (hit.eraseDups).filter (fun k => (s.task k).st.live && !l.any (fun e => decide (e.1 = k)))
    if more = [] then l else s.spread n (l ++ more.map (fun k => (k, TaskSt.cancelled, 3)))

/-- A message that ends nothing: a decrement, or a cancellation that finds its slot not live at the start of the cycle
(R265, R266). -/
def State.taskMsg (s was : State) (m : TaskMsg) : State :=
  if s.tileUp (m.1 / 1024) = false then s.count 0x5000 4 1
  else if was.cancels m then
    (if (was.task m.1).st.live then s
     else s.onPress (fun p => { p with cancelMissed := tabPut false p.cancelMissed (m.1 / 1024) true }))
  else s.decrement m.1

/-- A slot ends: stopped, counted, and FREE where no item must be written. -/
def State.endTask (e : Nat × TaskSt × Nat) (s : State) : State := (s.taskStop e.1 e.2.1 e.2.2).taskFree e.1

/-- The first entry for each slot. -/
def firstEnds (l : List (Nat × TaskSt × Nat)) : List (Nat × TaskSt × Nat) :=
  l.foldl (fun acc e => if acc.any (fun x => decide (x.1 = e.1)) then acc else acc ++ [e]) []

/-- One dispatcher cycle: the tasks that end in it with those they take along, and the messages that reach it from other
tiles. All decrements of the cycle are applied, then its cancellations (R266); what leaves for other tiles arrives a cycle
later. -/
def State.endCycle (ends : List (Nat × TaskSt × Nat)) (msgs : List TaskMsg) (s : State) : List TaskMsg × State :=
  let came := (msgs.filter (fun m => s.cancels m && (s.task m.1).st.live)).map (fun m => (m.1, TaskSt.cancelled, 3))
  let all := s.spread 4096 (firstEnds ((ends ++ came).filter (fun e => (s.task e.1).st.live)))
  let near := all.flatMap (fun e => (s.endMsgs e).filter (fun m => decide (m.1 / 1024 = e.1 / 1024)))
  let far := all.flatMap (fun e => (s.endMsgs e).filter (fun m => decide (m.1 / 1024 ≠ e.1 / 1024)))
  (far, all.foldl (fun u e => u.endTask e) ((msgs ++ near).foldl (fun u m => u.taskMsg s m) s))

/-- The end of tasks and what follows for their dependents, cycle by cycle (R263, R264); a cycle that ends no task sends
nothing on, so one cycle per slot suffices. -/
def State.endTasks : Nat → List (Nat × TaskSt × Nat) → List TaskMsg → State → State
  | 0, _, _, s => s
  | n + 1, ends, msgs, s =>
    let r := s.cycle.endCycle ends msgs
    if r.1 = [] then r.2 else r.2.endTasks n [] r.1

/-- Ends tasks; each entry is a slot that ends with its state and cause. -/
def State.endAll (l : List (Nat × TaskSt × Nat)) (s : State) : State := s.endTasks 4097 l []

/-! ### The press stage (08 R270, R271, R284) -/

/-- A SHED or FAILED verdict of beat n (R284), with its flag bit. -/
def State.emptyVerdict (s : State) (n flag : Nat) : Verdict :=
  let zones := ((s.press.zoneSnaps.find? (fun e => decide (e.1 = n + 1))).map (fun e => e.2)).getD (BitVec.ofNat 8 s.zoneStates)
  { beat := n, tov := s.startOf n, classIds := List.replicate 5 0xFFFF#16, confidences := List.replicate 5 0#8,
    flags := BitVec.ofNat 16 (2 ^ flag + 16), weightMg := -2147483648, weightStatus := 0, mask := 0,
    oldestAge := 0xFFFFFFFF#32, zoneEmpty := zones, imageId := BitVec.ofNat 32 s.press.loadedId }

/-- Whether template tasks of beat n are still live. -/
def State.templateLive (s : State) (n : Nat) : Bool :=
  s.press.tasks.any (fun e => decide (e.2.beat = some n) && e.2.st.live)

/-- The press stage of the next beat starts when its voice stage has ended, not before start(N+2), and behind the press
stages of the beats before it (02 R54, R57). -/
def State.startPress (s : State) : State :=
  match s.beat.work.find? (fun w => !(decide (w.press = .done) || decide (w.press = .shed))) with
  | none => s
  | some w =>
    if w.press = .waiting ∧ (w.voice = .done ∨ w.voice = .shed) ∧ w.captured = true ∧ w.beat + 2 ≤ s.beat.number
        ∧ s.beat.hardHalt = false then
      (s.onWork w.beat (fun w => { w with press := .running })).onPress (fun p => { p with stageAt := s.now })
    else s

/-- Records the duration of a press stage for the decision of the operating point (15 R488). -/
def State.notePress (n us : Nat) : State → State :=
  State.onPower (fun p => { p with pressUs := (n, us) :: p.pressUs.filter (fun e => decide (n < e.1 + 64)) })

/-- The press stage of beat n ends once every template task has ended and the verdict is assembled (R270). -/
def State.pressCheck (n : Nat) (s : State) : State :=
  match s.workOf n with
  | none => s
  | some w =>
    if w.press = .running ∧ w.instantiated = true ∧ w.verdict.isSome = true ∧ s.templateLive n = false then
      let us := s.now - s.press.stageAt
      ((((s.onWork n (fun w => { w with press := .done })).onPress (fun p => { p with lastBeat := n, lastUs := min max32 us })).notePress
        n us).onBeat (fun b => { b with pressMet := if w.pressLate then 0 else min 31 (b.pressMet + 1) })).startPress
    else s

/-- What follows for a beat once tasks bound to it have ended: a FINALISE that ended CANCELLED with a cause other than 2
gives the FAILED verdict, whatever it had assembled (R271), and the stage may end. -/
def State.afterEnd (beat : Option Nat) (failed : Bool) (s : State) : State :=
  match beat with
  | none => s
  | some n =>
    let v := s.emptyVerdict n 3
    (if failed then s.onWork n (fun w => { w with verdict := some v }) else s).pressCheck n

/-- The beat of the template's FINALISE while it is live. -/
def State.finaliseLive (s : State) : Option Nat :=
  match s.press.finaliseSlot with
  | none => none
  | some k => if (s.task k).st.live then (s.task k).beat else none

/-- Ends tasks with all that follows. A FINALISE that ends DONE with no verdict assembled counts as failed, so that the beat
has its one verdict (DESIGN CHOICE, log 71). -/
def State.finish (k : Nat) (st : TaskSt) (cause : Nat) (s : State) : State :=
  let beat := (s.task k).beat
  let before := s.finaliseLive
  let u := s.endAll [(k, st, cause)]
  let done := decide (s.press.finaliseSlot = some k) && decide (st = .done)
    && (before.bind s.workOf).any (fun w => w.verdict.isSome)
  (u.afterEnd before (before.isSome && u.finaliseLive.isNone && !done)).afterEnd beat false

/-- A task ends with an error: counted and recorded (R263, R292). -/
def State.taskError (u k cause : Nat) (s : State) : State :=
  let i := (s.task k).pc
  ((s.count 0x5000 3 1).book 0xE300 (0x10 + k / 1024) 1
    (leBytes 2 (k % 1024) ++ leBytes 1 cause ++ leBytes 1 u ++ leBytes 2 i)).finish k .cancelled cause

/-! ### Submission, cancellation, completion items (08 R266, R268) -/

/-- Refuses a submission. -/
def State.submitRefuse (t cause : Nat) : State → State :=
  State.onPress (fun p => { p with refused := tabPut false p.refused t true, refuseCause := tabPut 0 p.refuseCause t cause })

/-- Places a task in its slot. -/
def State.place (t : Nat) (d : TaskDesc) (beat : Option Nat) (s : State) : State :=
  s.onTask (t * 1024 + d.taskId) (fun _ =>
    { st := if d.depCount = 0 then .ready else .waiting, desc := d, dep := d.depCount, readyNo := s.press.readyNo, beat := beat })

/-- GO of SUBMIT_CONTROL. -/
def State.submit (t : Nat) (s : State) : State :=
  let addr := s.reg (0x10 + t) 0x10 + 2 ^ 32 * s.reg (0x10 + t) 0x14
  let a := offsetOf addr
  if s.tileUp t = false then s
  else if (s.isLocal addr = false ∧ packageOf addr ≠ 0) ∨ (s.ncReadFail .press a 32).isSome = true then s.submitRefuse t 4
  else
    let b := s.bytesAt a 32
    let d := parseDesc b
    if (s.task (t * 1024 + d.taskId)).st ≠ .free then s.submitRefuse t 1
    else if d.taskId < tabGet 0 s.press.templateCount t then s.submitRefuse t 2
    else if descOk t b = false then s.submitRefuse t 3
    else (s.cycle.place t d none).onPress (fun p => { p with refused := tabPut false p.refused t false, refuseCause := tabPut 0 p.refuseCause t 0 })

/-- TASK_SUBMIT (08 R268). -/
def execTaskSubmit (t : Fin 4) (s : State) : Host.Outcome State Fault Refusal := .next (s.submit t)

/-- GO of CANCEL (R263, R266). -/
def State.cancel (t slot : Nat) (s : State) : State :=
  let k := t * 1024 + slot
  if s.tileUp t = false then s
  else if (s.task k).st.live then s.finish k .cancelled 1
  else s.onPress (fun p => { p with cancelMissed := tabPut false p.cancelMissed t true })

/-- TASK_CANCEL. -/
def execTaskCancel (t : Fin 4) (slot : Fin 1024) (s : State) : Host.Outcome State Fault Refusal := .next (s.cancel t slot)

/-- The completion item of a task (R268). -/
def State.taskItem (s : State) (k : Nat) : BitVec 128 :=
  let x := s.task k
  let st := if x.st = .done then 4 else 5
  BitVec.ofNat 128 (leNum (leBytes 2 (k % 4096) ++ leBytes 1 st ++ leBytes 1 x.cause ++ leBytes 6 x.endBeat ++ leBytes 2 x.runUs))

/-- Whether no item of a task that ended before waits at the same dispatcher: a waiting item holds back the later ones
(09 R302); items of one cycle go by lower slot (DESIGN CHOICE, log 72). -/
def State.postFirst (s : State) (k : Nat) : Bool :=
  s.press.tasks.all (fun e => decide (e.1 / 1024 ≠ k / 1024) || !(decide (e.2.st = .done) || decide (e.2.st = .cancelled))
    || !e.2.desc.post || decide ((s.task k).endNo < e.2.endNo) || (decide ((s.task k).endNo = e.2.endNo) && decide (k ≤ e.1)))

/-- TASK_COMPLETION_POST (R268): the item is written when the queue takes it; then the slot is FREE. -/
def execTaskCompletionPost (t : Fin 4) (slot : Fin 1024) (s : State) : Host.Outcome State Fault Refusal :=
  let k := t.val * 1024 + slot.val
  .next (if (s.task k).st = .done ∨ (s.task k).st = .cancelled then
    (if s.mustPost k && !s.postFirst k then s
     else if s.mustPost k then
      match s.hwPush (s.ent 0x5000 8) [s.taskItem k] with
      | none => s
      | some u => u.onTask k (fun _ => {})
     else s.onTask k (fun _ => {}))
    else s)

/-! ### Dispatch (08 R257, R267) -/

/-- Whether a unit may take a task: its tile powered, online, and free. -/
def State.unitFree (s : State) (u : Nat) : Bool :=
  s.tileUp (unitTile u) && !tabGet false s.press.offline u && (s.runs u).isNone && !s.beat.hardHalt

/-- Whether a task's ENGINE field lets a unit take it; either engine: the lower-numbered free one (R267). -/
def State.unitTakes (s : State) (u : Nat) (d : TaskDesc) : Bool :=
  if u = 8 then decide (d.engine = 3)
  else decide (d.engine = u % 2) || (decide (d.engine = 2) && (decide (u % 2 = 0) || !s.unitFree (u - 1)))

/-- The oldest READY task a unit may take: by READY cycle, then by TASK_ID. -/
def State.nextTask (s : State) (u : Nat) : Option Nat :=
  let l := s.press.tasks.filter (fun e => decide (e.1 / 1024 = unitTile u) && decide (e.2.st = .ready) && s.unitTakes u e.2.desc)
  (l.foldl (fun (best : Option (Nat × Nat)) e => match best with
    | none => some (e.1, e.2.readyNo)
    | some b => if e.2.readyNo < b.2 then some (e.1, e.2.readyNo) else some b) none).map (fun b => b.1)

/-- TASK_DISPATCH (08 R267). -/
def execTaskDispatch (t : Fin 4) (u : Unit3) (s : State) : Host.Outcome State Fault Refusal :=
  let v := unitOf t u
  .next (if (v ≠ 8 ∨ t = 0) ∧ s.unitFree v = true then
    match s.nextTask v with
    | none => s
    | some k => (s.setRuns v (some k)).onTask k (fun x => { x with st := .running, startedAt := s.now, pc := 0 })
    else s)

/-! ### Commands (08 R256, R258, R259, R261) -/

/-- A command's fields. -/
structure PCmd where
  op : Nat
  inT : Nat
  outT : Nat
  flags : Nat
  shift : Nat
  a : Nat
  b : Nat
  dst : Nat
  m : Nat
  n : Nat
  k : Nat
  param : Nat
  h : Nat
deriving DecidableEq, Repr

/-- The fields of a command's 32 bytes. -/
def parseCmd (l : List Byte) : PCmd :=
  { op := numAt l 0 1, inT := bits (numAt l 1 1) 0 4, outT := bits (numAt l 1 1) 4 4, flags := numAt l 2 1, shift := numAt l 3 1,
    a := numAt l 4 6, b := numAt l 10 6, dst := numAt l 16 6, m := numAt l 22 2, n := numAt l 24 2, k := numAt l 26 2,
    param := numAt l 28 2, h := numAt l 30 2 }

/-- ACC_KEEP. -/
def PCmd.keep (c : PCmd) : Bool := c.flags.testBit 0
/-- RELU. -/
def PCmd.relu (c : PCmd) : Bool := c.flags.testBit 1

/-- Whether the types of a command go together (R255, R261): integer inputs give INT8, INT4 or INT32, floating-point
ones FP8, FP16 or FP32 (DEDUCED, log 26). -/
def PCmd.typesOk (c : PCmd) : Bool :=
  if 5 ≤ c.op then decide (c.inT = 0 ∧ c.outT = 0)
  else decide (c.inT ≤ 3) && (if c.inT < 2 then decide (c.outT = 0 ∨ c.outT = 1 ∨ c.outT = 4) else decide (c.outT = 2 ∨ c.outT = 3 ∨ c.outT = 5))
    && (!(decide (c.op = 3 ∨ c.op = 4)) || (decide (c.inT ≠ 1) && decide (c.outT ≠ 1)))

/-- Whether END, GATHER or FINALISE has no reserved bit set, no reserved type, and 0 in the fields it does not have (R258,
R261). -/
def PCmd.bareOk (c : PCmd) : Bool :=
  decide (c.flags < 4) && decide (c.shift ≤ 31) && decide (c.inT ≤ 3 ∧ c.outT ≤ 5) && decide (c.param = 0 ∧ c.h = 0)

/-- Whether a command other than END is well-formed on an engine (R258, R259, R261). -/
def State.cmdOk (s : State) (c : PCmd) : Bool :=
  decide (1 ≤ c.op ∧ c.op ≤ 8) && decide (c.flags < 4) && decide (c.shift ≤ 31) && decide (1 ≤ c.m ∧ 1 ≤ c.k)
  && (decide (1 ≤ c.n) || decide (c.op = 8)) && c.typesOk
  && (match c.op with
    | 2 => (convShape c.h c.m c.param).isSome
    | 4 => (convShape c.h c.m c.param).isSome
    | 7 => decide (c.param ≤ 5) && decide (1 ≤ c.h)
    | 8 => decide (c.param = 0 ∧ c.h = 0) && decide (c.n ≤ 7) && decide ((s.source c.n).kind = 2)
    | _ => decide (c.param = 0 ∧ c.h = 0))

/-- A read or write of an engine: the failure it meets, with the cause of its task's end (R256, R261, 10 R324). -/
def State.engineFail (s : State) (wr : Bool) (addr n : Nat) : Option (Nat × NcFail) :=
  if 2 ^ 44 ≤ addr then some (4, .kind 6 addr)
  else match s.rangeKind .press wr addr n with
    | some (k, a) => some (4, .kind k a)
    | none => if wr then none else (s.badLine addr n).map (fun a => (6, NcFail.ecc a))

/-- The first failure of a list of accesses: address, length and whether it writes. -/
def State.engineFails (s : State) (l : List (Nat × Nat × Bool)) : Option (Nat × NcFail) :=
  l.findSome? (fun x => if x.2.1 = 0 then none else s.engineFail x.2.2 x.1 x.2.1)

/-- The task of an engine ends with an error. -/
def State.engineStop (e k cause : Nat) (f : Option NcFail) (s : State) : State :=
  let u := match f with
    | none => s
    | some (.kind 6 a) => s.accessError (0x20 + e) 6 a
    | some x => s.ncFailed (0x20 + e) s.choir.ownId x
  u.taskError e k cause

/-- A Blend task ends with an error; R31 gives the Blend unit no SOURCE, so that an access error is neither counted nor
captured (DESIGN CHOICE, log 63). -/
def State.blendStop (k cause : Nat) (f : Option NcFail) (s : State) : State :=
  (match f with
    | some (.ecc a) => s.eccRead 0x20 a
    | _ => s).taskError 8 k cause

/-- The task of a unit ends with an error. -/
def State.unitStop (u k cause : Nat) (f : Option NcFail) (s : State) : State :=
  if u = 8 then s.blendStop k cause f else s.engineStop u k cause f

/-- An engine that meets an uncorrectable error in its own buffers (R290). -/
def State.engineFault (e k : Nat) (s : State) : State :=
  ((s.onPress (fun p => { p with offline := tabPut false p.offline e true })).raiseCond 0x5000 (0x10 + e / 2) e []).taskError e k 6

/-- The command a unit's task is at: read with its access check (R256, R258), or the failure that the read meets. -/
def State.dueCmd (s : State) (k : Nat) : Sum (Nat × NcFail) PCmd :=
  let a := (s.task k).desc.addr + 32 * (s.task k).pc
  match s.engineFail false a 32 with
  | some x => .inl x
  | none => .inr (parseCmd (s.bytesAt a 32))

/-- A running task ends DONE after its last command, or at END, which must be well-formed (R261); a Blend task only after its
GATHER or FINALISE (R258, R263, R265). A halted fabric ends nothing (01 R24). -/
def State.completeTask (u : Nat) (needEnd : Bool) (s : State) : State :=
  if s.beat.hardHalt then s
  else match s.runs u with
    | none => s
    | some k =>
      let x := s.task k
      if x.desc.count ≤ x.pc then (if needEnd then s else s.finish k .done 0)
      else if u = 8 ∧ x.pc = 0 then s
      else match s.dueCmd k with
        | .inl (cause, f) => s.unitStop u k cause (some f)
        | .inr c => if c.op ≠ 0 then s else if c.bareOk then s.finish k .done 0 else s.unitStop u k 5 none

/-- TASK_COMPLETE (08 R263). -/
def execTaskComplete (t : Fin 4) (u : Unit3) (s : State) : Host.Outcome State Fault Refusal :=
  .next (if unitOf t u ≠ 8 ∨ t = 0 then s.completeTask (unitOf t u) false else s)

/-- PRESS_END (08 R259): the next command of the engine's task is END, which ends it. -/
def execPressEnd (e : Fin 8) (s : State) : Host.Outcome State Fault Refusal := .next (s.completeTask e true)

/-- The command of engine e that is due, when its opcode is the one a command of the block names: fetched and checked
(R258, R261, R290); otherwise the engine's state after the error, or unchanged when another opcode is due. `bad` says that
the engine meets an uncorrectable error in its own buffers. -/
def State.fetchCmd (s : State) (e op : Nat) (bad : Bool) : Sum State (Nat × PCmd) :=
  if s.beat.hardHalt then .inl s
  else match s.runs e with
    | none => .inl s
    | some k =>
      if (s.task k).desc.count ≤ (s.task k).pc then .inl s
      else if bad then .inl (s.engineFault e k)
      else match s.dueCmd k with
        | .inl (cause, f) => .inl (s.engineStop e k cause (some f))
        | .inr c =>
          if c.op = 0 then .inl s
          else if 8 < c.op then .inl (s.engineStop e k 5 none)
          else if c.op ≠ op then .inl s
          else if s.cmdOk c then .inr (k, c)
          else .inl (s.engineStop e k 5 none)

/-- The task goes on to its next command. -/
def State.nextCmd (k : Nat) : State → State := State.onTask k (fun x => { x with pc := x.pc + 1 })

/-- Runs the command of an engine: accesses first, then its bytes are written (10 R334) and the task goes on. -/
def State.runCmd (e op : Nat) (bad : Bool) (acc : PCmd → List (Nat × Nat × Bool)) (out : State → PCmd → List Byte) (s : State) :
    State :=
  match s.fetchCmd e op bad with
  | .inl u => u
  | .inr (k, c) =>
    match s.engineFails (acc c) with
    | some (cause, f) => s.engineStop e k cause (some f)
    | none => (s.ncWrite c.dst (out s c)).nextCmd k

/-- The accesses of a command with two sources: A, B, DST if it is kept, and the write of DST. -/
def PCmd.accesses (c : PCmd) (na nb nd : Nat) : List (Nat × Nat × Bool) :=
  [(c.a, na, false), (c.b, nb, false), (c.dst, if c.keep then nd else 0, false), (c.dst, nd, true)]

/-- The elements of DST, each from its terms. -/
def PCmd.elements (c : PCmd) (old : List Byte) (count : Nat) (it : Nat → List Int) (ft : Nat → List FVal) : List Byte :=
  packElems c.outT old ((List.range count).map (fun i =>
    if c.inT < 2 then ifinish c.outT c.shift c.keep c.relu old i (it i) else ffinish c.outT c.keep c.relu old i (ft i)))

/-- The product of two elements as a term. -/
def fmul (t : Nat) (a : List Byte) (i : Nat) (b : List Byte) (j : Nat) : FVal := ftimes (fterm t a i) (fterm t b j)

/-- MATMUL's bytes (R259). -/
def State.matmulOut (s : State) (c : PCmd) : List Byte :=
  let a := s.bytesAt c.a (tensorBytes c.inT (c.m * c.k))
  let b := s.bytesAt c.b (tensorBytes c.inT (c.k * c.n))
  let old := s.bytesAt c.dst (tensorBytes c.outT (c.m * c.n))
  c.elements old (c.m * c.n)
    (fun i => (List.range c.k).map (fun j => ielem c.inT a (i / c.n * c.k + j) * ielem c.inT b (j * c.n + i % c.n)))
    (fun i => (List.range c.k).map (fun j => fmul c.inT a (i / c.n * c.k + j) b (j * c.n + i % c.n)))

/-- MATMUL (08 R259). -/
def execMatmul (e : Fin 8) (bad : Bool) (s : State) : Host.Outcome State Fault Refusal :=
  .next (s.runCmd e 1 bad (fun c => c.accesses (tensorBytes c.inT (c.m * c.k)) (tensorBytes c.inT (c.k * c.n)) (tensorBytes c.outT (c.m * c.n)))
    (fun t c => t.matmulOut c))

/-- Output height and width of a CONV or MAXPOOL. -/
def PCmd.shape (c : PCmd) : Nat × Nat × Nat × Nat × Nat := (convShape c.h c.m c.param).getD (1, 1, 0, 0, 0)

/-- CONV's bytes: the kernel's first row and column meet the window's (R259, log 27). -/
def State.convOut (s : State) (c : PCmd) : List Byte :=
  let (ks, st, pad, ho, wo) := c.shape
  let a := s.bytesAt c.a (tensorBytes c.inT (c.h * c.m * c.k))
  let b := s.bytesAt c.b (tensorBytes c.inT (ks * ks * c.k * c.n))
  let old := s.bytesAt c.dst (tensorBytes c.outT (ho * wo * c.n))
  let taps := fun i => (window ks st pad c.h c.m (i / c.n / wo) (i / c.n % wo)).flatMap (fun w =>
    (List.range c.k).map (fun q => ((w.2.2.1 * c.m + w.2.2.2) * c.k + q, ((w.1 * ks + w.2.1) * c.k + q) * c.n + i % c.n)))
  c.elements old (ho * wo * c.n)
    (fun i => (taps i).map (fun p => ielem c.inT a p.1 * ielem c.inT b p.2))
    (fun i => (taps i).map (fun p => fmul c.inT a p.1 b p.2))

/-- CONV (08 R259). -/
def execConv (e : Fin 8) (bad : Bool) (s : State) : Host.Outcome State Fault Refusal :=
  .next (s.runCmd e 2 bad (fun c => c.accesses (tensorBytes c.inT (c.h * c.m * c.k))
    (tensorBytes c.inT (c.shape.1 * c.shape.1 * c.k * c.n)) (tensorBytes c.outT (c.shape.2.2.2.1 * c.shape.2.2.2.2 * c.n)))
    (fun t c => t.convOut c))

/-- ADD's bytes. -/
def State.addOut (s : State) (c : PCmd) : List Byte :=
  let n := c.m * c.n
  let a := s.bytesAt c.a (tensorBytes c.inT n)
  let b := s.bytesAt c.b (tensorBytes c.inT n)
  c.elements (s.bytesAt c.dst (tensorBytes c.outT n)) n
    (fun i => [ielem c.inT a i, ielem c.inT b i]) (fun i => [fterm c.inT a i, fterm c.inT b i])

/-- PRESS_ADD (08 R259). -/
def execPressAdd (e : Fin 8) (bad : Bool) (s : State) : Host.Outcome State Fault Refusal :=
  .next (s.runCmd e 3 bad (fun c => c.accesses (tensorBytes c.inT (c.m * c.n)) (tensorBytes c.inT (c.m * c.n)) (tensorBytes c.outT (c.m * c.n)))
    (fun t c => t.addOut c))

/-- Largest of a list of whole numbers. -/
def maxI : List Int → Int
  | [] => 0
  | x :: t => t.foldl max x

/-- MAXPOOL's bytes: padding takes no part in the maximum. -/
def State.maxpoolOut (s : State) (c : PCmd) : List Byte :=
  let (ks, st, pad, ho, wo) := c.shape
  let a := s.bytesAt c.a (tensorBytes c.inT (c.h * c.m * c.k))
  let at' := fun i => (window ks st pad c.h c.m (i / c.k / wo) (i / c.k % wo)).map (fun w => (w.2.2.1 * c.m + w.2.2.2) * c.k + i % c.k)
  c.elements (s.bytesAt c.dst (tensorBytes c.outT (ho * wo * c.k))) (ho * wo * c.k)
    (fun i => [maxI ((at' i).map (fun j => ielem c.inT a j))])
    (fun i => [fmax ((at' i).map (fun j => fterm c.inT a j))])

/-- MAXPOOL (08 R259). -/
def execMaxpool (e : Fin 8) (bad : Bool) (s : State) : Host.Outcome State Fault Refusal :=
  .next (s.runCmd e 4 bad (fun c => c.accesses (tensorBytes c.inT (c.h * c.m * c.k)) 0 (tensorBytes c.outT (c.shape.2.2.2.1 * c.shape.2.2.2.2 * c.k)))
    (fun t c => t.maxpoolOut c))

/-- LUT (08 R259): the element is an unsigned index (log 27). -/
def execLut (e : Fin 8) (bad : Bool) (s : State) : Host.Outcome State Fault Refusal :=
  .next (s.runCmd e 5 bad (fun c => [(c.a, c.m * c.n, false), (c.b, 256, false), (c.dst, c.m * c.n, true)])
    (fun t c => (t.bytesAt c.a (c.m * c.n)).map (fun x => t.byteAt (c.b + x.toNat))))

/-- COPY (08 R259). -/
def execCopy (e : Fin 8) (bad : Bool) (s : State) : Host.Outcome State Fault Refusal :=
  .next (s.runCmd e 6 bad (fun c => [(c.a, c.m * c.n, false), (c.dst, c.m * c.n, true)]) (fun t c => t.bytesAt c.a (c.m * c.n)))

/-! ### FRAME_LOAD (08 R260) -/

/-- The frame a FRAME_LOAD selects: the latest complete one before start(N+1), or the latest for a task outside a press
stage. -/
def State.loadFrame (s : State) (p : Nat) (beat : Option Nat) : Option Frame :=
  (s.port p).frames.find? (fun f => f.complete && (match beat with
    | none => true
    | some n => decide (f.time < s.startOf (n + 1))))

/-- Planes of a frame's data type. -/
def planesOf (dt : Nat) : Nat := if dt = 0x1E then 3 else 1

/-- Whether a command's shape fits the head of its port. -/
def State.loadShapeOk (s : State) (c : PCmd) : Bool :=
  if s.headType c.param = 3 then decide (c.m = s.headField c.param 12 2 ∧ c.h = s.headField c.param 14 2 ∧ c.n = 1)
  else if s.headType c.param = 2 then decide (c.n = planesOf (s.headField c.param 10 1))
  else true

/-- FRAME_LOAD's effect. -/
def State.frameLoad (e : Nat) (bad : Bool) (s : State) : State :=
  match s.fetchCmd e 7 bad with
  | .inl u => u
  | .inr (k, c) =>
    if s.loadShapeOk c = false then s.engineStop e k 5 none
    else match s.loadFrame c.param (s.task k).beat with
      | none => (s.onTask k (fun x => { x with inputInvalid := true })).nextCmd k
      | some f =>
        match s.engineFails [(c.dst, c.m * c.h * c.n, true)] with
        | some (cause, x) => s.engineStop e k cause (some x)
        | none =>
          let bytes := if s.headType c.param = 3 then spectralPlane f else framePlanes f c.m c.h c.n
          ((s.ncWrite c.dst bytes).onTask k (fun x => { x with inputTime := some f.time })).nextCmd k

/-- FRAME_LOAD. -/
def execFrameLoad (e : Fin 8) (bad : Bool) (s : State) : Host.Outcome State Fault Refusal := .next (s.frameLoad e bad)

/-! ### Templates and shedding (08 R269, R270) -/

/-- The template of tile t. -/
def State.template (s : State) (t : Nat) : List TaskDesc :=
  (List.range (tabGet 0 s.press.templateCount t)).map (fun k => { tabGet {} s.press.templates (t * 512 + k) with taskId := k })

/-- Whether every template slot is FREE. -/
def State.templateFree (s : State) : Bool :=
  (List.range 4).all (fun t => (List.range (tabGet 0 s.press.templateCount t)).all (fun k => decide ((s.task (t * 1024 + k)).st = .free)))

/-- Every dispatcher instantiates its template for beat n. -/
def State.instantiate (n : Nat) (s : State) : State :=
  ((List.range 4).foldl (fun u t => if u.tileUp t then (u.template t).foldl (fun a d => a.place t d (some n)) u else u) s.cycle).onWork n
    (fun w => { w with instantiated := true })

/-- Cancels every template task of beat n that has not ended, with cause 2, whatever its DETACH bit (R270). -/
def State.shedTasks (n : Nat) (s : State) : State :=
  s.endAll ((s.press.tasks.filter (fun e => decide (e.2.beat = some n) && e.2.st.live)).map (fun e => (e.1, TaskSt.cancelled, 2)))

/-! ### Reset (08 R289) -/

/-- A device reset: every slot FREE, every engine asleep and online, slates cleared; what the image set goes too. -/
def State.pressReset (s : State) : State := s.onPress (fun _ => {})

/-- ENGINES_ONLINE: the engines of present tiles that no uncorrectable error took offline (08 R290). -/
def State.enginesOnline (s : State) : Nat :=
  sumN ((List.range 8).map (fun e => b2n (decide (e / 2 < s.tiles) && !tabGet false s.press.offline e) * 2 ^ e))

/-- TASK_STATE's number. -/
def TaskSt.code : TaskSt → Nat
  | .free => 0 | .waiting => 1 | .ready => 2 | .running => 3 | .done => 4 | .cancelled => 5

end Sys2Proof.Machine
end

