-- ==== Sys2Proof/Machine/Blend.lean ====
section
/-! DEFINITION. The Blend unit: slates, capture, weight, GATHER, FINALISE (08_press_and_blend.md R272 to R284). -/

namespace Sys2Proof.Machine

/-- Bytes of a slate of an EVENT or PRESS source (08 R272). -/
def Source.slateSize (x : Source) : Nat := 64 * 48 * x.chCount

/-- One of its two buffers: false the first. -/
def Source.buf (x : Source) (b : Bool) : SlateBuf := if b then x.buf1 else x.buf0

/-- Changes one of its buffers. -/
def Source.setBuf (x : Source) (b : Bool) (v : SlateBuf) : Source :=
  if b then { x with buf1 := v } else { x with buf0 := v }

/-- Where a buffer lies. -/
def Source.bufAddr (x : Source) (b : Bool) : Nat := x.slateOff + (if b then x.slateSize else 0)

/-- Whether the port a source is bound to streams, if it is bound to one (R273). -/
def State.portStreams (s : State) (x : Source) : Bool :=
  decide (x.port = 0xFF) || decide ((s.port x.port).st = .streaming)

/-- A commit to source i (R273): discarded while the bound port does not stream; else the buffer that does not hold the
latest slate takes it and becomes the latest. -/
def State.commitSlate (i tov : Nat) (valid : Bool) (data : List Byte) (weight : BitVec 64) (s : State) : State :=
  let x := s.source i
  if s.portStreams x = false then s.count (sourceIdx i) 9 1
  else
    let b := !(x.latest.getD true)
    let u := if x.kind = 3 then s else s.ncWrite (x.bufAddr b) data
    (u.onSource i (fun y => { y.setBuf b { tov := tov, valid := valid, committed := true, weight := weight } with latest := some b })).count
      (sourceIdx i) 8 1

/-- SLATE_COMMIT's effect (R259, R273). -/
def State.slateCommit (e : Nat) (bad : Bool) (s : State) : State :=
  match s.fetchCmd e 8 bad with
  | .inl u => u
  | .inr (k, c) =>
    let n := (s.source c.n).slateSize
    match s.engineFails [(c.a, n, false)] with
    | some (cause, f) => s.engineStop e k cause (some f)
    | none =>
      (s.commitSlate c.n ((s.task k).inputTime.getD s.now) (!(s.task k).inputInvalid) (s.bytesAt c.a n) 0).nextCmd k

/-- SLATE_COMMIT. -/
def execSlateCommit (e : Fin 8) (bad : Bool) (s : State) : Host.Outcome State Fault Refusal := .next (s.slateCommit e bad)

/-! ### Capture (08 R274) -/

/-- The INT8 value slot k of a core yields: saturated from the variable shifted right; 0 while the core is in FAULT. -/
def State.captured (s : State) (e : CapEntry) (j : Nat) : Byte :=
  if (s.core e.core).st = .fault ∨ 1024 ≤ e.first + j then 0
  else BitVec.ofNat 8 (toBits 8 (clampI (-128) 127
    (sext 16 (s.memNum (slotState e.core (e.first + j) + 2 * e.var) 2) / (2 ^ e.shift : Nat))))

/-- The slate of a source's capture map; bytes no entry names are 0. -/
def State.captureBytes (s : State) (x : Source) : List Byte :=
  let vals := x.capture.flatMap (fun e => (List.range e.count).map (fun j => (e.slateByte + j, s.captured e j)))
  (List.range x.slateSize).map (fun i => ((vals.find? (fun v => decide (v.1 = i))).map (fun v => v.2)).getD 0)

/-- Capture of beat n: every EVENT source commits with TOV start(n); VALID is 0 when the stage was shedding or a core of
its map is in FAULT. -/
def State.captureAll (n : Nat) (shedding : Bool) (s : State) : State :=
  ((List.range 8).foldl (fun u i =>
    let x := u.source i
    if x.kind = 1 then
      u.commitSlate i (u.startOf n) (!shedding && x.capture.all (fun e => decide ((u.core e.core).st ≠ .fault))) (u.captureBytes x) 0
    else u) s).onWork n (fun w => { w with captured := true })

/-- At every reinitialisation the slates lose their COMMITTED bits (R273). -/
def State.slatesReinit (s : State) : State :=
  (List.range 8).foldl (fun u i => u.onSource i (fun x =>
    { x with buf0 := { x.buf0 with committed := false }, buf1 := { x.buf1 with committed := false } })) s

/-! ### Weight (08 R275) -/

/-- A write of WEIGHT_SAMPLE: refused with a reserved bit set or with the weight 0x8000_0000. -/
def State.weightWrite (v : Nat) (s : State) : Nat × State :=
  if 2 ^ 34 ≤ v ∨ v % 2 ^ 32 = 0x80000000 then (0x06090030, s)
  else
    let u := (s.writeEnt 0x5300 1 v).count 0x5300 2 1
    (0, (List.range 8).foldl (fun a i =>
      if (a.source i).kind = 3 then a.commitSlate i a.now (!v.testBit 33) [] (BitVec.ofNat 64 v) else a) u)

/-- WEIGHT_SAMPLE_WRITE (08 R275). -/
def execWeightSampleWrite (val : BitVec 64) (s : State) : Host.Outcome State Fault Refusal :=
  .next (s.guarded 0x5300 1 val.toNat (State.weightWrite val.toNat))

/-! ### GATHER (08 R277 to R280) -/

/-- The latest COMMITTED buffer of a source whose TOV is before start(n + 1). -/
def Source.select (x : Source) (next : Nat) : Option Bool :=
  let ok := fun b => (x.buf b).committed && decide ((x.buf b).tov < next)
  match x.latest with
  | none => none
  | some b => if ok b then some b else if ok (!b) then some (!b) else none

/-- Age of a slate in beat n. -/
def ageOf (start tov : Nat) : Nat := start - tov

/-- What GATHER takes from a source: its content (a buffer, zeros, or the absent embedding), the reason of its
replacement (0 none), and its age (none: it takes no part in OLDEST_AGE_US). -/
structure Taken where
  /-- the buffer used, none for zeros -/
  buf : Option Bool
  /-- 0 used, 1 absent, 2 age, 3 invalid -/
  reason : Nat
  age : Option Nat
deriving DecidableEq, Repr

/-- Selection of one source (R277 to R279). -/
def Source.take (x : Source) (start next : Nat) : Taken :=
  let sel := x.select next
  if x.mask then
    match sel with
    | none => { buf := none, reason := 1, age := none }
    | some b =>
      let a := ageOf start (x.buf b).tov
      if x.maxAge < a then { buf := some b, reason := 2, age := some a }
      else if (x.buf b).valid = false then { buf := some b, reason := 3, age := some a }
      else { buf := some b, reason := 0, age := some a }
  else
    match sel with
    | some b => { buf := some b, reason := 0, age := some (ageOf start (x.buf b).tov) }
    | none => match x.latest with
      | some b => { buf := some b, reason := 0, age := some (ageOf start (x.buf b).tov) }
      | none => { buf := none, reason := 0, age := none }

/-- Counts and records the replacement of source i, or its return (R291, R292). The age of an absent source is no
number the spec gives: a free value. -/
def State.noteReplaced (i : Nat) (t : Taken) (s : State) : State :=
  let x := s.source i
  if t.reason = 0 then
    (if x.replaced then (s.book 0xE311 0x19 0 (leBytes 1 i)).onSource i (fun y => { y with replaced := false }) else s)
  else
    let u := s.count (sourceIdx i) 0xA 1
    if x.replaced then u
    else
      let (age, v) := match t.age with
        | some a => (min max32 a, u)
        | none => (u.drawn % 2 ^ 32, u.draw)
      (v.book 0xE310 0x19 1 (leBytes 1 i ++ leBytes 1 t.reason ++ leBytes 4 age)).onSource i (fun y => { y with replaced := true })

/-- The content of an EVENT or PRESS source in the grid: channel c of a cell. -/
def State.cellByte (s : State) (x : Source) (t : Taken) (cell c : Nat) : Byte :=
  if t.reason ≠ 0 then x.absent.getD c 0
  else match t.buf with
    | none => 0
    | some b => s.byteAt (x.bufAddr b + cell * x.chCount + c)

/-- The grid's bytes: channels no source covers are 0. -/
def State.gridBytes (s : State) (l : List (Source × Taken)) : List Byte :=
  (List.range 3072).flatMap (fun cell => (List.range 32).map (fun ch =>
    match l.find? (fun e => decide (e.1.kind = 1 ∨ e.1.kind = 2) && decide (e.1.chBase ≤ ch) && decide (ch < e.1.chBase + e.1.chCount)) with
    | some (x, t) => s.cellByte x t cell (ch - x.chBase)
    | none => 0))

/-- Weight, status byte of the side vector, WEIGHT_STATUS of the verdict, and NO_WEIGHT, from the WEIGHT source of lowest
number. -/
def weightOf (l : List (Source × Taken)) : Nat × Nat × Nat × Bool :=
  match l.find? (fun e => decide (e.1.kind = 3)) with
  | none => (0x80000000, 0, 0, true)
  | some (x, t) =>
    if t.reason ≠ 0 then
      let st := numAt x.absent 4 1
      (numAt x.absent 0 4, st, bits st 0 2 + 4, true)
    else match t.buf with
      | none => (0, 0, 0, false)
      | some b =>
        let v := (x.buf b).weight.toNat
        (bits v 0 32, bits v 32 2, bits v 32 2, false)

/-- Zone states at start(n + 1) (R280). -/
def State.zonesAt (s : State) (n : Nat) : BitVec 8 :=
  ((s.press.zoneSnaps.find? (fun e => decide (e.1 = n + 1))).map (fun e => e.2)).getD (BitVec.ofNat 8 s.zoneStates)

/-- Largest of the ages. -/
def oldestOf (l : List (Source × Taken)) : Nat :=
  match (l.filter (fun e => decide (e.2.reason = 0))).filterMap (fun e => e.2.age) with
  | [] => max32
  | a :: t => min max32 (t.foldl max a)

/-- GATHER's effect for beat n: replaced sources noted, grid and side vector written. -/
def State.gatherBeat (n : Nat) (s : State) : State :=
  let l := (List.range s.press.sourceCount).map (fun i => (s.source i, (s.source i).take (s.startOf n) (s.startOf (n + 1))))
  let mask := sumN (((List.range s.press.sourceCount).zip l).map (fun e => b2n (decide (e.2.2.reason ≠ 0)) * 2 ^ e.1))
  let u := ((List.range s.press.sourceCount).zip l).foldl (fun a e => a.noteReplaced e.1 e.2.2) s
  let (w, side, wst, none') := weightOf l
  let zones := s.zonesAt n
  let vec := leBytes 4 w ++ leBytes 1 side ++ [zones] ++ leBytes 1 mask ++ List.replicate 57 0
  (u.ncWrite s.press.gridOff (s.gridBytes l ++ vec)).onPress (fun p => { p with gathered :=
    { beat := n, mask := BitVec.ofNat 8 mask, oldestAge := oldestOf l, zones := zones, weight := BitVec.ofNat 32 w,
      weightStatus := BitVec.ofNat 8 wst, noWeight := none' } })

/-- The Blend unit's next command, when its opcode is the one named; a stream that does not begin with a well-formed GATHER
or FINALISE, or goes on with anything but END, is malformed (R261, R265). -/
def State.blendFetch (s : State) (op : Nat) : Sum State Nat :=
  if s.beat.hardHalt then .inl s
  else match s.runs 8 with
    | none => .inl s
    | some k =>
      let x := s.task k
      if x.desc.count ≤ x.pc then .inl s
      else match s.dueCmd k with
        | .inl (cause, f) => .inl (s.blendStop k cause (some f))
        | .inr c =>
          if x.pc = 0 then
            (if c.op ≠ 0x10 ∧ c.op ≠ 0x11 then .inl (s.blendStop k 5 none)
             else if c.op ≠ op then .inl s
             else if c.bareOk then .inr k
             else .inl (s.blendStop k 5 none))
          else if c.op = 0 then .inl s
          else .inl (s.blendStop k 5 none)

/-- The beat a Blend task works for: that of its press stage, else the one in progress (log 28). -/
def State.blendBeat (s : State) (k : Nat) : Nat := (s.task k).beat.getD s.beat.number

/-- GATHER (08 R277). -/
def execGather (s : State) : Host.Outcome State Fault Refusal :=
  .next (match s.blendFetch 0x10 with
    | .inl u => u
    | .inr k => (s.gatherBeat (s.blendBeat k)).nextCmd k)

/-! ### FINALISE (08 R281, R282) -/

/-- The better of two scored classes: the higher score, on equal scores the lower index. -/
def better (a b : Nat × Nat) : Bool := decide (b.2 < a.2) || (decide (a.2 = b.2) && decide (a.1 < b.1))

/-- Inserts into a ranking of at most five. -/
def rankInsert (x : Nat × Nat) : List (Nat × Nat) → List (Nat × Nat)
  | [] => [x]
  | y :: t => if better x y then x :: y :: t else y :: rankInsert x t

/-- The five best of a list of index and score. -/
def rankFive (l : List (Nat × Nat)) : List (Nat × Nat) := l.foldl (fun r x => (rankInsert x r).take 5) []

/-- Pads to five places. -/
def padFive {α : Type} (d : α) (l : List α) : List α := l ++ List.replicate (5 - l.length) d

/-- A confidence: the score shifted right by 8, scaled by the absent factor of each replaced source in rising order. -/
def State.scaled (s : State) (mask score : Nat) : Nat :=
  (List.range 8).foldl (fun c i => if mask.testBit i then c * (s.source i).absentFactor / 256 else c) (score / 256)

/-- The verdict of beat n from scores and what GATHER found. -/
def State.assemble (s : State) (n : Nat) : Verdict :=
  let g : Gathered := if s.press.gathered.beat = n then s.press.gathered else { zones := s.zonesAt n }
  let top := rankFive ((List.range s.press.classCount).map (fun i => (i, s.memNum (s.press.scoreOff + 2 * i) 2)))
  let conf := padFive 0 (top.map (fun e => s.scaled g.mask.toNat e.2))
  let attr := match top with
    | [] => 0
    | e :: _ => tabGet 0 s.press.classes e.1 / 65536 % 256
  let stop := attr.testBit 0 && decide (s.press.stopMin ≤ conf.getD 0 0)
  let empty := if s.press.zoneEmptyMin ≤ conf.getD 0 0 then bits attr 1 4 else 0
  { beat := n, tov := s.startOf n, classIds := padFive 0xFFFF#16 (top.map (fun e => BitVec.ofNat 16 (tabGet 0 s.press.classes e.1))),
    confidences := conf.map (fun c => BitVec.ofNat 8 c),
    flags := BitVec.ofNat 16 (b2n g.noWeight * 16 + b2n stop * 32 + empty * 256), weightMg := sext 32 g.weight.toNat,
    weightStatus := g.weightStatus, mask := g.mask.zeroExtend 16, oldestAge := BitVec.ofNat 32 g.oldestAge,
    zoneEmpty := g.zones, imageId := BitVec.ofNat 32 s.press.loadedId }

/-- FINALISE (08 R281): the verdict of the task's beat is assembled; a task outside a press stage has no beat's verdict
to assemble (log 28). -/
def execFinalise (s : State) : Host.Outcome State Fault Refusal :=
  .next (match s.blendFetch 0x11 with
    | .inl u => u
    | .inr k => match (s.task k).beat with
      | none => s.nextCmd k
      | some n =>
        let v := s.assemble n
        (s.nextCmd k).onWork n (fun w => { w with verdict := some v }))

end Sys2Proof.Machine
end

