-- ==== Sys2Proof/Machine/Movers.lean ====
section
/-! DEFINITION. The cellar movers (10_cellar_and_memory_model.md R336 to R343, R351) and remote requests (11 R379). -/

namespace Sys2Proof.Machine

/-! ### Rings (10 R339, R343) -/

/-- Descriptors of a ring. -/
def Mover.ringSize (m : Mover) : Nat := 16 * 2 ^ m.size

/-- Whether an offset lies in the Cellar, in the slice of a tile that is present, or in package DRAM. -/
def State.memoryAt (s : State) (a : Nat) : Bool :=
  match areaOf a with
  | .hub => true
  | .dram => true
  | .slice t => decide (t < s.tiles)
  | _ => false

/-- Whether a ring configuration is valid. -/
def State.ringOk (s : State) (m : Mover) : Bool :=
  decide (m.size ≤ 4) && s.isLocal m.base && s.memoryAt (offsetOf m.base) && decide (m.base % (32 * m.ringSize) = 0)

/-- Descriptors pending: from HEAD to TAIL - 1. -/
def Mover.pending (m : Mover) : Nat := (m.tail + 65536 - m.head) % 65536

/-- The offset of descriptor i. -/
def Mover.descAddr (m : Mover) (i : Nat) : Nat := offsetOf m.base + 32 * (i % m.ringSize)

/-- SOURCE of a mover. -/
def moverSrc (m : Nat) : Nat := 0x10 + m

/-- MOVER_STATE's number. -/
def MoverSt.code : MoverSt → Nat
  | .disabled => 0 | .idle => 1 | .active => 2 | .aborting => 3

/-- ENABLE written 1 (R341). -/
def State.moverEnable (m : Nat) (s : State) : State :=
  let x := s.mover m
  if x.st = .aborting then s.onMover m (fun y => { y with enable := true })
  else if x.st ≠ .disabled then s
  else if s.ringOk x then s.onMover m (fun y => { y with st := .idle, enable := true, head := 0, tail := 0, lastBad := false })
  else s.onMover m (fun y => { y with configError := true })

/-- ENABLE written 0 (R341). -/
def State.moverDisable (m : Nat) (s : State) : State :=
  s.onMover m (fun y => match y.st with
    | .disabled => y
    | .idle => { y with st := .disabled, enable := false }
    | .active => { y with st := .aborting, enable := false }
    | .aborting => { y with enable := false })

/-- ABORT written 1 (R341). -/
def State.moverAbort (m : Nat) (s : State) : State :=
  s.onMover m (fun y => if y.st = .active then { y with st := .aborting } else y)

/-- A TAIL write (R339). -/
def State.tailWrite (m tail : Nat) (s : State) : State :=
  let x := s.mover m
  if x.st = .disabled then s
  else
    let n := (tail + 65536 - x.head) % 65536
    if x.ringSize < n ∨ n < x.pending then s.onMover m (fun y => { y with tailError := true })
    else s.onMover m (fun y => { y with tail := tail, st := if y.st = .idle ∧ 0 < n then .active else y.st })

/-- MOVER_TAIL_WRITE (10 R339). -/
def execMoverTailWrite (m : Fin 16) (tail : BitVec 16) (s : State) : Host.Outcome State Fault Refusal :=
  .next (s.tailWrite m tail.toNat)

/-- MOVER_ENABLE (10 R341). -/
def execMoverEnable (m : Fin 16) (s : State) : Host.Outcome State Fault Refusal := .next (s.moverEnable m)

/-- MOVER_DISABLE (10 R341). -/
def execMoverDisable (m : Fin 16) (s : State) : Host.Outcome State Fault Refusal := .next (s.moverDisable m)

/-- MOVER_ABORT (10 R341). -/
def execMoverAbort (m : Fin 16) (s : State) : Host.Outcome State Fault Refusal := .next (s.moverAbort m)

/-! ### Moving data (10 R337, R340) -/

/-- Whether a descriptor is malformed (R338). -/
def State.descMalformed (s : State) (b : List Byte) : Bool :=
  let ctl := numAt b 20 1
  let fill := ctl.testBit 5
  let q := numAt b 21 1
  (!fill && decide (numAt b 6 2 ≠ 0)) || decide (numAt b 14 2 ≠ 0) || decide (numAt b 16 4 = 0 ∨ 16777216 < numAt b 16 4)
  || decide (bits ctl 0 2 = 3) || decide (bits ctl 6 2 ≠ 0) || (decide (31 < q) && decide (q ≠ 0xFF))
  || (decide (bits ctl 0 2 ≠ 2) && ((!fill && !s.isLocal (numAt b 0 6)) || !s.isLocal (numAt b 8 6)))

/-- A started descriptor from its 32 bytes. -/
def descOf (i a : Nat) (b : List Byte) : DescRun :=
  let ctl := numAt b 20 1
  { index := i, addr := a, scope := bits ctl 0 2, post := ctl.testBit 3, irq := ctl.testBit 4, queue := numAt b 21 1,
    tag := numAt b 22 2, result := 0, kind := 0, moved := 0, src := if ctl.testBit 5 then numAt b 0 8 else numAt b 0 6,
    dst := numAt b 8 6, len := numAt b 16 4, fill := ctl.testBit 5, goal := numAt b 16 4 }

/-- Changes a started descriptor. -/
def State.onDesc (m i : Nat) (f : DescRun → DescRun) : State → State :=
  State.onMover m (fun x => { x with flight := modFirst (fun d => decide (d.index = i)) f x.flight })

/-- A descriptor fails on a line: nothing beyond the bytes so far is written (R340). -/
def State.descFail (m i goal result kind : Nat) : State → State :=
  State.onDesc m i (fun d => { d with goal := goal, result := result, kind := kind, waiting := false })

/-- The failure of a mover's local access: captured under SOURCE 0x10 + mover, or recorded (R324, R342). -/
def State.moverFail (m i goal : Nat) (f : NcFail) (s : State) : State :=
  let u := s.ncFailed (moverSrc m) s.choir.ownId f
  match f with
  | .kind k _ => u.descFail m i goal 2 k
  | .ecc _ => u.descFail m i goal 6 0

/-- A remote address that names no reachable member fails with kind 6 at once. -/
def State.moverNoMember (m i goal addr : Nat) (s : State) : State :=
  (s.accessError (moverSrc m) 6 addr).descFail m i goal 2 6

/-- The bytes of a piece of DST. -/
def DescRun.bytes (d : DescRun) (off n : Nat) : List Byte :=
  if d.fill then (List.range n).map (fun j => BitVec.ofNat 8 (d.src / 256 ^ ((off + j) % 8))) else slice d.got off n

/-- One line piece of a descriptor: read first, every source byte before the first write; a remote piece sends its
request and waits. -/
def State.descPiece (m : Nat) (d : DescRun) (s : State) : State :=
  if d.fill = false ∧ d.got.length < d.goal then
    let a := d.src + d.got.length
    let n := min (d.goal - d.got.length) (64 - a % 64)
    if s.isLocal a then
      match s.ncReadFail .mover (offsetOf a) n with
      | some f => s.moverFail m d.index d.got.length f
      | none => (s.windowEcc (offsetOf a) n).onDesc m d.index (fun x => { x with got := x.got ++ s.moverBytes m (offsetOf a) n })
    else if s.reachable (packageOf a) then
      (s.sendMemReq (.moverRead m d.index 0) false a n []).onDesc m d.index (fun x => { x with waiting := true })
    else s.moverNoMember m d.index d.got.length a
  else
    let a := d.dst + d.moved
    let n := min (d.goal - d.moved) (64 - a % 64)
    if s.isLocal a then
      match s.rangeKind .mover true (offsetOf a) n with
      | some (k, b) => s.moverFail m d.index d.moved (.kind k b)
      | none => (s.moverPut m d.scope (offsetOf a) (d.bytes d.moved n)).onDesc m d.index (fun x => { x with moved := x.moved + n })
    else if s.reachable (packageOf a) then
      (s.sendMemReq (.moverWrite m d.index) true a n (d.bytes d.moved n)).onDesc m d.index (fun x => { x with waiting := true })
    else s.moverNoMember m d.index d.moved a

/-- A descriptor of a mover. -/
def State.desc (s : State) (m i : Nat) : Option DescRun := (s.mover m).flight.find? (fun d => decide (d.index = i))

/-- Whether a descriptor has nothing left to move. -/
def DescRun.moveDone (d : DescRun) : Bool := decide (d.goal ≤ d.moved)

/-- Moves pieces until the descriptor is done or waits for a response. -/
def State.runDesc : Nat → Nat → Nat → State → State
  | 0, _, _, s => s
  | n + 1, m, i, s => match s.desc m i with
    | none => s
    | some d => if d.waiting || d.moveDone then s else (s.descPiece m d).runDesc n m i

/-- Pieces of the largest descriptor, read and written. -/
def maxPieces : Nat := 2 * (16777216 / 64 + 4)

/-- Descriptors started and not completed, over all movers. -/
def State.inFlightDescs (s : State) : Nat := sumN (s.memu.movers.map (fun e => e.2.flight.length))

/-- Starts a descriptor read as bytes. -/
def State.startDesc (m i a : Nat) (b : List Byte) (s : State) : State :=
  let d := descOf i a b
  let put := fun (d : DescRun) => s.onMover m (fun x => { x with flight := x.flight ++ [d] })
  if s.descMalformed b then put { d with goal := 0, result := 3 }
  else if (numAt b 20 1).testBit 2 = true ∧ (s.mover m).lastBad = true then put { d with goal := 0, result := 7 }
  else (put d).runDesc maxPieces m i

/-- DESCRIPTOR_START (10 R337 to R340): the next pending descriptor starts; one with WAIT_PREV waits until every earlier
one has completed. -/
def execDescriptorStart (m : Fin 16) (s : State) : Host.Outcome State Fault Refusal :=
  let x := s.mover m
  let i := (x.head + x.flight.length) % 65536
  let a := x.descAddr i
  .next (if x.st = .active ∧ x.flight.length < x.pending ∧ x.flight.length < 128 ∧ s.inFlightDescs < 2048 then
    match s.ncReadFail .mover a 32 with
    | some f =>
      ((s.onMover m (fun y => { y with flight := y.flight ++
        [{ index := i, addr := a, scope := 0, post := false, irq := false, queue := 0xFF, tag := 0, result := 0, kind := 0, moved := 0 }] })).moverFail
          m i 0 f)
    | none =>
      let b := s.moverBytes m a 32
      if (numAt b 20 1).testBit 2 = true ∧ x.flight ≠ [] then s else s.startDesc m i a b
    else s)

/-! ### Completion (10 R342) -/

/-- The completion item. -/
def State.moverItem (s : State) (m : Nat) (d : DescRun) (result : Nat) : BitVec 128 :=
  BitVec.ofNat 128 (leNum (leBytes 1 m ++ leBytes 1 result ++ leBytes 2 d.tag ++ leBytes 2 d.index ++ leBytes 6 s.beat.number
    ++ leBytes 4 d.moved))

/-- IRQ_PENDING is set and the target cantor interrupted (R342, R343). -/
def State.moverIrq (m : Nat) (s : State) : State :=
  (s.onMover m (fun x => { x with irqPending := true })).emit (.interrupt 0x14 (bits (s.reg 0x14 0x14) 0 3))

/-- Writes a waiting item when its queue takes it; then step 5. -/
def State.moverPost (m : Nat) (s : State) : State :=
  match (s.mover m).item with
  | none => s
  | some (q, it) => match s.hwPush q [it] with
    | none => s
    | some u =>
      let v := u.onMover m (fun x => { x with item := none, itemIrq := false })
      if (s.mover m).itemIrq then v.moverIrq m else v

/-- RESULT of a descriptor that has moved all it will. -/
def DescRun.final (d : DescRun) : Nat := if d.result = 0 then 1 else d.result

/-- Completes a descriptor with a result: steps 2 to 5 of R342. -/
def State.completeDesc (m : Nat) (d : DescRun) (result kind : Nat) (s : State) : State :=
  let status := leBytes 4 (result + kind * 4096)
  let s := if d.scope = 0 then s else s.lateOut m
  let u := if (s.rangeKind .mover true d.addr 32).isNone then s.ncWrite (d.addr + 24) (status ++ leBytes 4 d.moved) else s
  let u := u.onMover m (fun x => { x with
    flight := x.flight.filter (fun e => decide (e.index ≠ d.index)), head := (x.head + 1) % 65536, completed := x.completed + 1,
    lastBad := x.lastBad || decide (result ≠ 1) })
  let u := if result = 1 ∨ result = 4 ∨ result = 7 then u
    else u.book 0xE501 0x14 1 (leBytes 1 m ++ leBytes 2 d.index ++ status)
  if d.post = true ∧ d.queue ≠ 0xFF then
    (u.onMover m (fun x => { x with item := some (d.queue, s.moverItem m d result), itemIrq := d.irq })).moverPost m
  else if d.irq then u.moverIrq m else u

/-- ACTIVE ends when HEAD reaches TAIL (R341). -/
def State.moverIdle (m : Nat) (s : State) : State :=
  s.onMover m (fun x => if x.st = .active ∧ x.pending = 0 then { x with st := .idle } else x)

/-- DESCRIPTOR_COMPLETE (10 R342): the first started descriptor completes once its data is moved and no item waits. -/
def execDescriptorComplete (m : Fin 16) (s : State) : Host.Outcome State Fault Refusal :=
  .next (match (s.mover m).flight, (s.mover m).item with
    | d :: _, none =>
      if d.waiting = false ∧ d.moveDone = true ∧ (s.mover m).st = .active then
        (s.completeDesc m d d.final d.kind).moverIdle m
      else s
    | _, _ => s)

/-- MOVER_COMPLETION_POST (10 R342 step 4). -/
def execMoverCompletionPost (m : Fin 16) (s : State) : Host.Outcome State Fault Refusal := .next (s.moverPost m)

/-- The next pending descriptor of an aborting mover, started or not. -/
def State.abortNext (s : State) (m : Nat) : DescRun :=
  match (s.mover m).flight with
  | d :: _ => d
  | [] =>
    let a := (s.mover m).descAddr (s.mover m).head
    descOf (s.mover m).head a (s.moverBytes m a 32)

/-- Completes pending descriptors as ABORTED, in ring order, until none is left or an item waits (R341). -/
def State.abortAll : Nat → Nat → State → State
  | 0, _, s => s
  | n + 1, m, s =>
    if (s.mover m).pending = 0 ∨ (s.mover m).item.isSome = true then s
    else (s.completeDesc m (s.abortNext m) 4 0).abortAll n m

/-- MOVER_ABORT_DONE (10 R341): once every started line has finished. -/
def execMoverAbortDone (m : Fin 16) (s : State) : Host.Outcome State Fault Refusal :=
  .next (if (s.mover m).st = .aborting ∧ (s.mover m).flight.all (fun d => !d.waiting) then
    let u := s.abortAll 65536 m
    if (u.mover m).pending = 0 ∧ (u.mover m).item = none then
      u.onMover m (fun x => { x with st := if x.enable then .idle else .disabled })
    else u
    else s)

/-- MOVER_IRQ_STATUS. -/
def State.moverIrqs (s : State) : Nat := sumN ((List.range 16).map (fun m => b2n (s.mover m).irqPending * 2 ^ m))

end Sys2Proof.Machine
end

