-- ==== Sys2Proof/Machine/Tracker.lean ====
section
/-! DEFINITION. Device time and beat number reads, SYNC_OUT, and the SYNC_IN tracker: glitches, relock, rate adoption,
holdover and phase slewing (02_the_beat.md). -/

namespace Sys2Proof.Machine

/-! ### Numbers of the states -/

/-- STATE of BEAT_STATUS and 0x2100.06 (02 R63). -/
def Tracker.code : Tracker → Nat
  | .free => 0 | .acquiring => 1 | .locked => 2 | .holdover => 3 | .freeRun => 4 | .halted => 5

/-- EFFECTIVE_SOURCE (02 R47, R73). -/
def BeatSource.code : BeatSource → Nat
  | .internal => 0 | .syncIn => 1 | .choir => 2

/-! ### Captures (02 R47) -/

/-- Captures device time for a requester; the answer is its low word. -/
def State.readTimeLo (req : Nat) (s : State) : Nat × State :=
  (s.now % 2 ^ 32, s.onBeat (fun b => { b with capTime := tabPut 0 b.capTime req (s.now / 2 ^ 32) }))

/-- Captures the beat number and its start for a requester; the answer is the low word of the number. -/
def State.readBeatLo (req : Nat) (s : State) : Nat × State :=
  (s.beat.number % 2 ^ 32, s.onBeat (fun b => { b with
    capBeat := tabPut 0 b.capBeat req b.number, capStart := tabPut 0 b.capStart req b.start }))

/-- DEVICE_TIME_LO_READ. -/
def execDeviceTimeLoRead (req : Nat) (s : State) : Host.Outcome State Fault Refusal :=
  .next ((s.readTimeLo req).2.emit (.read req (s.readTimeLo req).1))

/-- BEAT_NUMBER_LO_READ. -/
def execBeatNumberLoRead (req : Nat) (s : State) : Host.Outcome State Fault Refusal :=
  .next ((s.readBeatLo req).2.emit (.read req (s.readBeatLo req).1))

/-- SYNC_OUT_PULSE_END (02 R72). -/
def execSyncOutPulseEnd (s : State) : Host.Outcome State Fault Refusal :=
  .next (if s.beat.syncOut then (s.upTo s.beat.syncOutFall).onBeat (fun b => { b with syncOut := false }) else s)

/-! ### State changes of the tracker (02 R63, R64, R67, R105) -/

/-- The conditions of a beat holdover end (03 R105). -/
def State.endHoldover (s : State) : State := (s.endCond 0xFF10 1 0).endCond 0xFF11 1 0

/-- Ingest is to start at an era boundary from this moment on (02 R70, 03 R83). -/
def State.wantIngest (s : State) : State := s.onBeat (fun b => { b with ingestWanted := some s.now })

/-- Ingest is to stop at the next beat boundary (02 R69, 03 R83); a start not yet taken is withdrawn. -/
def State.stopIngest (s : State) : State :=
  s.onBeat (fun b => { b with ingestWanted := none,
                              ingestStop := if b.ingesting && b.ingestStop.isNone then some s.now else b.ingestStop })

/-- The fabric ingests no more: ACTIVE becomes IDLE (15 R481). -/
def State.idled (s : State) : State := s.onPower (fun p => if p.st = .active then { p with st := .idle } else p)

/-- A halt stops ingest; its later start is then a resumption (02 R69, R70). -/
def State.haltIngest (s : State) : State :=
  (s.onBeat (fun b => { b with resuming := b.resuming || b.ingesting })).stopIngest

/-- LOCKED is entered by a relock or a rate adoption; from HALTED the fabric resumes (R63, R70). -/
def State.lock (slew : Bool) (s : State) : State :=
  let u := s.onBeat (fun b => { b with
    tracker := .locked, inRun := 0, offRun := [], meanRun := [], holdStart := none, rejected := false, slewing := slew,
    residual := none })
  let v := u.endHoldover
  if s.beat.tracker = .halted then v.wantIngest else v

/-- HOLDOVER is entered from LOCKED (R63, R67). -/
def State.toHoldover (run : List Nat) (s : State) : State :=
  ((s.onBeat (fun b => { b with
    tracker := .holdover, inRun := 0, offRun := run, slewing := false, residual := none, holdStart := some s.now,
    rejected := false })).count 0x2100 0xE 1).raiseCond 0xFF10 1 0 []

/-- The limit is reached: FREE_RUN or HALTED by policy (R63, R68, R69). -/
def State.limitReached (s : State) : State :=
  let stop := decide (s.force 0x2100 0xB = 1)
  let u := (s.onBeat (fun b => { b with
    tracker := if stop then .halted else .freeRun, holdStart := none, rejected := false })).raiseCond 0xFF11 1 0 []
  if stop then u.haltIngest else u

/-- When the holdover timer reaches HOLDOVER_LIMIT (R68). -/
def State.limitAt (s : State) : Option Nat := s.beat.holdStart.map (fun t => t + 1000 * s.force 0x2100 0xA)

/-! ### Edges (02 R60 to R66) -/

/-- The mean of some intervals, rounded to the nearest with halves upward (R64, R65). -/
def meanUp (l : List Nat) : Nat := (2 * sumN l + l.length) / (2 * l.length)

/-- Whether an interval lies within the tolerance of P. -/
def inTolerance (p i : Nat) : Bool := decide (p ≤ i + p / 50) && decide (i ≤ p + p / 50)

/-- Whether eight intervals are consistent (R64). -/
def runConsistent (l : List Nat) : Bool :=
  l.all (fun i => decide (sumN l ≤ 8 * i + 8 * (sumN l / 400)) && decide (8 * i ≤ sumN l + 8 * (sumN l / 400)))

/-- A difference brought into the range above -m/2 up to m/2. -/
def nearest (d : Int) (m : Nat) : Int :=
  let r := (d % (m : Int))
  if (m : Int) < 2 * r then r - m else r

/-- The period of the beats from the next boundary on. -/
def BeatUnit.nextPeriod (b : BeatUnit) : Nat := b.adopt.getD b.activePeriod

/-- The residual error of an edge (R66). -/
def State.residualOf (s : State) (stamp : Nat) : Int :=
  nearest ((stamp + s.force 0x2100 0x17 : Nat) - (s.beat.start + s.beat.length : Nat)) s.beat.nextPeriod

/-- Measures an in-tolerance edge. -/
def State.measure (stamp : Nat) (s : State) : State :=
  s.onBeat (fun b => { b with phaseError := s.residualOf stamp, residual := some (s.residualOf stamp) })

/-- Eight consistent off-rate edges: adoption or rejection (R63, R65). The eighth edge is off-rate, and R66 measures
in-tolerance edges only: it measures no phase (log 40). -/
def State.adoptRate (s : State) : State :=
  let cand := meanUp s.beat.offRun
  if 125 ≤ cand ∧ cand ≤ 4000 then
    (s.onBeat (fun b => { b with tracked := cand, adopt := some cand })).lock false
  else
    let u := (s.onBeat (fun b => { b with inRun := 0, offRun := [], rejected := true })).count 0x2100 0xD 1
    if s.beat.rejected then u else u.emcyEvent 0xFF12 1 []

/-- An edge of an interval, by the state (R63 to R65). -/
def State.edgeActs (stamp i : Nat) (s : State) : State :=
  let ok := inTolerance s.beat.tracked i
  let s := s.onBeat (fun b => { b with refEdge := some stamp })
  if s.beat.tracker = .locked then
    if ok then
      (s.measure stamp).onBeat (fun b =>
        let run := (b.meanRun ++ [i]).drop (b.meanRun.length - 7)
        { b with
          meanRun := run, tracked := meanUp run,
          adopt := b.adopt.map (fun _ => meanUp run),
          activePeriod := if b.adopt.isSome then b.activePeriod else meanUp run })
    else s.toHoldover [i]
  else if ok then
    let u := s.onBeat (fun b => { b with inRun := b.inRun + 1, offRun := [] })
    if 4 ≤ u.beat.inRun then (u.lock true).measure stamp else u
  else
    let u := s.onBeat (fun b => { b with inRun := 0, offRun := (b.offRun ++ [i]).drop (b.offRun.length - 7) })
    if u.beat.offRun.length = 8 ∧ runConsistent u.beat.offRun = true then u.adoptRate else u

/-- An edge that acts: a glitch by its interval, the first reference, or classified (R61, R62). -/
def State.syncEdge (stamp : Nat) (s : State) : State :=
  match s.beat.refEdge with
  | none => s.onBeat (fun b => { b with refEdge := some stamp })
  | some t =>
    if 2 * (stamp - t) < s.beat.tracked then s.count 0x2100 0xC 1
    else s.edgeActs stamp (stamp - t)

/-- Takes the limit first when an edge stamped after it acts (R68). -/
def State.limitBefore (stamp : Nat) (s : State) : State :=
  match s.limitAt with
  | some t => if t < stamp then s.limitReached else s
  | none => s

/-- SYNC_IN_EDGE: it acts 2 µs after its stamp; edges are tracked only while the source is SYNC_IN (R50, R60). -/
def execSyncInEdge (stamp : Nat) (s : State) : Host.Outcome State Fault Refusal :=
  .next (if s.beat.source = .syncIn then ((s.upTo (stamp + 2)).limitBefore stamp).syncEdge stamp else s)

/-- SYNC_IN_GLITCH (R61). -/
def execSyncInGlitch (s : State) : Host.Outcome State Fault Refusal :=
  .next (if s.beat.source = .syncIn then s.count 0x2100 0xC 1 else s)

/-- SYNC_IN_TIMEOUT (R63): at the reference edge + 3P/2. -/
def execSyncInTimeout (s : State) : Host.Outcome State Fault Refusal :=
  .next (match s.beat.refEdge with
    | some t => if s.beat.tracker = .locked then (s.upTo (t + (3 * s.beat.tracked + 1) / 2)).toHoldover [] else s
    | none => s)

/-! ### Boundaries (02 R51, R63, R65, R66) -/

/-- The length of the beat that starts at this boundary, with the correction the last edge asks for. -/
def BeatUnit.nextLength (b : BeatUnit) : Nat :=
  let p := b.nextPeriod
  match b.residual with
  | none => p
  | some r => ((p : Int) + clampI (-((b.tracked / 50 : Nat) : Int)) ((b.tracked / 50 : Nat) : Int) r).toNat

/-- The flywheel starts a beat: its number and start. -/
def BeatUnit.turn (b : BeatUnit) : BeatUnit :=
  { b with
    number := b.number + 1, start := b.start + b.length,
    starts := ((b.number + 1, b.start + b.length) :: b.starts).take 32 }

/-- Fixes the length of the beat that has just started, once the sources and periods of the boundary are in force. -/
def BeatUnit.fixLength (b : BeatUnit) : BeatUnit :=
  { b with
    length := b.nextLength, periods := ((b.number, b.nextPeriod) :: b.periods).take 32, activePeriod := b.nextPeriod,
    adopt := none, residual := none,
    slewing := match b.residual with | some r => decide (r ≠ 0) | none => b.slewing }

/-- The tracker takes another source at an era boundary (R62, R63). In FREE the fabric runs: one that was halted resumes. -/
def State.sourceTo (src : BeatSource) (s : State) : State :=
  if src = s.beat.source then s
  else
    let p := s.force 0x2100 3
    match src with
    | .syncIn => s.onBeat (fun b => { b with
        source := src, tracker := .acquiring, refEdge := none, inRun := 0, offRun := [], meanRun := [],
        tracked := p, adopt := some p, holdStart := some b.start, rejected := false })
    | _ =>
      let u := (s.onBeat (fun b => { b with
        source := src, tracker := .free, refEdge := none, inRun := 0, offRun := [], meanRun := [],
        slewing := false, residual := none, holdStart := none, rejected := false })).endHoldover
      if s.beat.tracker = .halted then u.wantIngest else u

/-- BEAT_PERIOD in force acts at an era boundary: on the internal source, and while ACQUIRING (R50, R65). -/
def State.periodInForce (s : State) : State :=
  let p := s.force 0x2100 3
  match s.beat.source, s.beat.tracker with
  | .internal, _ => s.onBeat (fun b => { b with adopt := some p })
  | .syncIn, .acquiring =>
    if p = s.beat.tracked then s
    else s.onBeat (fun b => { b with tracked := p, adopt := some p, inRun := 0, offRun := [] })
  | _, _ => s

end Sys2Proof.Machine
end

