-- ==== Sys2Proof/Machine/Image.lean ====
section
/-! DEFINITION. Tordor images: format and checks, install, activation, the switch at an era boundary and loading
(04 R131 to R143; 06 R215, R216; 07 R249; 08 R286, R287; 10 R357; 15 R485, R486). -/

namespace Sys2Proof.Machine

/-! ### Slots and trailers (04 R118, R135, R136) -/

/-- Where a slot starts. -/
def slotBase (k : Nat) : Nat := mramBase + 0x370000 + k * 0xD00000
/-- Where its trailer starts. -/
def trailer (k : Nat) : Nat := slotBase k + 0xCFF000

/-- INSTALL_GENERATION of a slot. -/
def State.slotGen (s : State) (k : Nat) : Nat := s.memNum (trailer k + 4) 4

/-- Whether a slot is committed. -/
def State.committed (s : State) (k : Nat) : Bool :=
  decide (s.memNum (trailer k + 0xFF8) 8 = 0x534C4F54434D0000 + s.slotGen k % 0x10000)
    && !s.poisoned (trailer k) 8 && !s.poisoned (trailer k + 0xFF8) 8

/-- The activation number of a slot, none where ACTIVATION has not its form. -/
def State.activation (s : State) (k : Nat) : Option Nat :=
  let v := s.memNum (trailer k + 0xFF0) 8
  if v / 2 ^ 32 = 0x41435456 ∧ 1 ≤ v % 2 ^ 32 ∧ s.poisoned (trailer k + 0xFF0) 8 = false then some (v % 2 ^ 32) else none

/-- The highest activation number either slot holds, 0 for none. -/
def State.topActivation (s : State) : Nat := max ((s.activation 0).getD 0) ((s.activation 1).getD 0)

/-- SLOTn_STATE. -/
def State.slotSt (s : State) (k : Nat) : SlotSt := if k = 0 then s.nvm.slot0 else s.nvm.slot1

/-- Sets SLOTn_STATE. -/
def State.setSlot (k : Nat) (v : SlotSt) : State → State :=
  State.onNvm (fun n => if k = 0 then { n with slot0 := v } else { n with slot1 := v })

/-- The number of a slot state. -/
def SlotSt.code : SlotSt → Nat
  | .empty => 0 | .installing => 1 | .valid => 2 | .active => 3

/-! ### Header and section table (04 R131, R132, R134) -/

/-- TOTAL_LENGTH of an image. -/
def imgTotal (b : List Byte) : Nat := numAt b 16 4
/-- Cellar claim of slice k in KiB: 0 the hub, 1 to 4 the tiles. -/
def imgClaim (b : List Byte) (k : Nat) : Nat := numAt b (28 + 4 * k) 4

/-- Whether a header breaks R131. -/
def headerBad (b : List Byte) : Bool :=
  decide (numAt b 0 4 ≠ 0x52445254) || decide (numAt b 4 2 ≠ 1) || decide (numAt b 6 2 ≠ 128)
  || decide (imgTotal b < 512 ∨ 13627392 < imgTotal b ∨ imgTotal b % 4 ≠ 0)
  || decide (numAt b 20 2 < 1 ∨ 256 < numAt b 20 2) || decide (0xB0 < numAt b 22 2)
  || decide (8192 < imgClaim b 0) || (List.range 4).any (fun t => decide (16384 < imgClaim b (t + 1)))
  || (slice b 48 80).any (fun x => decide (x ≠ 0))

/-- Whether a header declares an absent unit. -/
def State.unitsMissing (s : State) (b : List Byte) : Bool :=
  decide (numAt b 24 4 &&& s.unitsPresent ≠ numAt b 24 4)
  || (List.range 4).any (fun t => decide (imgClaim b (t + 1) ≠ 0) && decide (s.tiles ≤ t))

/-- The check of a header: 0 when it passes. -/
def State.headerCheck (s : State) (b : List Byte) : Nat :=
  if headerBad b then 0x08000020 else if s.unitsMissing b then 0x0F000011 else 0

/-- An entry of the section table. -/
structure Sect where
  type : Nat
  target : Nat
  off : Nat
  len : Nat
  crc : Nat
deriving DecidableEq, Repr

/-- The section table. -/
def imgSects (b : List Byte) : List Sect :=
  (List.range (numAt b 20 2)).map (fun i =>
    let o := 128 + 16 * i
    { type := numAt b o 2, target := numAt b (o + 2) 2, off := numAt b (o + 4) 4, len := numAt b (o + 8) 4,
      crc := numAt b (o + 12) 4 })

/-- The bytes of a section. -/
def Sect.bytes (x : Sect) (b : List Byte) : List Byte := slice b x.off x.len

/-- Whether a section's type, target and place are in order. -/
def Sect.ok (x : Sect) (total : Nat) : Bool :=
  (match x.type with
    | 1 => decide (x.target ≤ 255)
    | 2 => decide (x.target ≤ 3)
    | 3 => decide (x.target ≤ 3)
    | 4 => decide (x.target = 0)
    | 5 => decide (x.target = 0)
    | _ => false) && decide (x.off + x.len ≤ total - 128)

/-- Whether a section targets a core or tile that is absent (R134). -/
def State.targetsMissing (s : State) (b : List Byte) : Bool :=
  (imgSects b).any (fun x => (decide (x.type = 1) && !s.hasCore x.target)
    || (decide (x.type = 2 ∨ x.type = 3) && decide (s.tiles ≤ x.target)))

/-- Whether the section table is malformed. -/
def sectsBad (b : List Byte) : Bool :=
  (imgSects b).any (fun x => !x.ok (imgTotal b))
  || anyOverlap (((imgSects b).filter (fun x => decide (x.len ≠ 0))).map (fun x => (x.off, x.len)))

/-- The sections of a type with their targets, in table order. -/
def imgOf (b : List Byte) (type : Nat) : List (Nat × List Byte) :=
  ((imgSects b).filter (fun x => decide (x.type = type))).map (fun x => (x.target, x.bytes b))

/-- The blocks or blobs that fill the rest of a section: place and data; none where they do not fill it exactly or a
length is no multiple of 4. -/
def blocksOf : Nat → List Byte → Option (List (Nat × List Byte))
  | 0, l => if l = [] then some [] else none
  | n + 1, l =>
    let k := numAt l 4 4
    if l.length < 8 + k ∨ k % 4 ≠ 0 then none
    else (blocksOf n (l.drop (8 + k))).map (fun r => (numAt l 0 4, slice l 8 k) :: r)

/-- Whether a place lies wholly within the Cellar an image claims. -/
def claimed (b : List Byte) (a n : Nat) : Bool :=
  (List.range 5).any (fun k => decide (sliceBase k ≤ a) && decide (a + n ≤ sliceBase k + 1024 * imgClaim b k))

/-! ### Voice-core sections (06 R215, R216) -/

/-- The blocks of a voice-core section. -/
def voiceBlocks (l : List Byte) : Option (List (Nat × List Byte)) := blocksOf (numAt l 4 2) (l.drop 144)

/-- Whether a block lies wholly within the programs, the slot table or the arena. -/
def voiceBlockOk (p : Nat × List Byte) : Bool :=
  [(0x12000, 0x12800), (0x12800, 0x18800), (0x18800, 0x30000)].any (fun r => decide (r.1 ≤ p.1) && decide (p.1 + p.2.length ≤ r.2))

/-- Whether a voice-core section breaks its layout. -/
def voiceBad (rank : Nat) (l : List Byte) : Bool :=
  decide (l.length < 144) || decide (numAt l 0 4 ≠ 0x4C43564B) || decide (numAt l 6 1 ≠ rank) || decide (rank < 1 ∨ 8 < rank)
  || decide (numAt l 7 1 ≠ 0)
  || (match voiceBlocks l with
    | none => true
    | some bs => bs.any (fun p => !voiceBlockOk p))

/-- Loads a core from its section as the procedure of 06 does (R216): LOAD, the registers and blocks, VOICE_RANK_COUNT,
then COMMIT with its check. A core in FAULT stays in it. -/
def State.loadCore (c : Nat) (l : List Byte) (s : State) : State :=
  if (s.core c).st = .fault then s
  else
    let page := 0x20 + c / 64
    let block := 0x8000 + 0x100 * (c % 64)
    let s := ((s.coreDisableOp c).coreLoadOp c).onCore c (fun x => { x with clearing := false })
    let s := (List.range 34).foldl (fun u i => u.setReg page (block + 8 + 4 * i) (numAt l (8 + 4 * i) 4)) s
    let s := ((voiceBlocks l).getD []).foldl (fun u p => u.putBytes (coreBase c + p.1) p.2) s
    let s := s.onFabric (fun f => { f with rankCount := numAt l 6 1 })
    (s.coreCommitOp c).coreCommitEnd c

/-! ### Router sections (07 R249) -/

/-- ENTRY_COUNT, LEAF_COUNT and DEFAULT_ROUTE of router i of a section. -/
def rhEntries (l : List Byte) (i : Nat) : Nat := numAt l (8 + 8 * i) 2
/-- LEAF_COUNT. -/
def rhLeaves (l : List Byte) (i : Nat) : Nat := numAt l (10 + 8 * i) 2
/-- DEFAULT_ROUTE. -/
def rhDefault (l : List Byte) (i : Nat) : Nat := numAt l (12 + 8 * i) 1

/-- Where the items of router i start. -/
def rhOff (l : List Byte) (i : Nat) : Nat :=
  520 + 16 * numAt l 4 1 + sumN ((List.range i).map (fun j => 16 * rhEntries l j + pad4 (2 * rhLeaves l j)))

/-- Leaf j of router i. -/
def rhLeaf (l : List Byte) (i j : Nat) : Nat := numAt l (rhOff l i + 16 * rhEntries l i + 2 * j) 2

/-- An ingest map of a section, with its port. -/
def mapAt (l : List Byte) (i : Nat) : Nat × IngestMap :=
  let o := 520 + 16 * i
  (numAt l o 1, { tag := numAt l (o + 1) 1, chFell := numAt l (o + 2) 1, chRose := numAt l (o + 3) 1, chGraded := numAt l (o + 4) 1,
                  shift := numAt l (o + 5) 1, polPayload := numAt l (o + 6) 1, entryCore := numAt l (o + 7) 1 })

/-- The ingest maps of a section. -/
def mapsOf (l : List Byte) : List (Nat × IngestMap) := (List.range (numAt l 4 1)).map (mapAt l)

/-- Whether an ingest map's fields are out of range. -/
def mapBad (p : Nat × IngestMap) : Bool :=
  let m := p.2
  decide (5 < p.1 ∨ 31 < m.tag ∨ 31 < m.chFell ∨ 31 < m.chRose ∨ 31 < m.chGraded ∨ 3 < m.shift ∨ m.polPayload = 0)

/-- Whether the items of router i break R229 or the layout. -/
def State.routerBad (s : State) (l : List Byte) (i : Nat) : Bool :=
  let o := rhOff l i
  let n := rhEntries l i
  decide (1024 < n ∨ 2048 < rhLeaves l i ∨ 4 < rhDefault l i ∨ numAt l (13 + 8 * i) 3 ≠ 0)
  || (List.range n).any (fun j => entryBad (numAt l (o + 16 * j + 8) 4) (numAt l (o + 16 * j + 12) 4))
  || (List.range (rhLeaves l i)).any (fun j => s.leafBad (rhLeaf l i j))
  || (decide (rhLeaves l i % 2 = 1) && decide (numAt l (o + 16 * n + 2 * rhLeaves l i) 2 ≠ 0))

/-- Whether a router section for tile t is malformed. -/
def State.routersBad (s : State) (t : Nat) (l : List Byte) : Bool :=
  let maps := mapsOf l
  decide (l.length < 520) || decide (numAt l 0 4 ≠ 0x5354524B) || decide (6 < maps.length ∨ (t ≠ 0 ∧ maps ≠ []))
  || decide (numAt l 5 3 ≠ 0) || (List.range 64).any (fun i => s.routerBad l i) || decide (l.length ≠ rhOff l 64)
  || maps.any mapBad || (List.range maps.length).any (fun i => decide (numAt l (528 + 16 * i) 8 ≠ 0))
  || maps.any (fun p => !s.hasCore p.2.entryCore) || decide ((maps.map (fun p => p.1)).eraseDups.length ≠ maps.length)

/-- Loads one router. -/
def State.loadRouter (t : Nat) (l : List Byte) (s : State) (i : Nat) : State :=
  let r := t * 64 + i
  let o := rhOff l i
  s.onFabric (fun f =>
    let f := (List.range (rhEntries l i)).foldl (fun f j =>
      f.putEntry r j (numAt l (o + 16 * j) 4) (numAt l (o + 16 * j + 4) 4) (numAt l (o + 16 * j + 8) 4) (numAt l (o + 16 * j + 12) 4)) f
    let f := (List.range (rhLeaves l i)).foldl (fun f j => { f with leaves := tabPut 0 f.leaves (r * 2048 + j) (rhLeaf l i j) }) f
    f.putConfig r (rhEntries l i) (rhDefault l i))

/-- Loads a router section. -/
def State.loadRouters (t : Nat) (l : List Byte) (s : State) : State :=
  ((List.range 64).foldl (fun u i => u.loadRouter t l i) s).onFabric
    (fun f => { f with ingestMaps := (mapsOf l).foldl (fun m p => tabPut none m p.1 (some p.2)) f.ingestMaps })

/-! ### Press sections (08 R286) -/

/-- TEMPLATE_COUNT. -/
def pressCount (l : List Byte) : Nat := numAt l 4 2
/-- The bytes of descriptor k. -/
def pressDesc (l : List Byte) (k : Nat) : List Byte := slice l (8 + 32 * k) 32
/-- The blobs. -/
def pressBlobs (l : List Byte) : Option (List (Nat × List Byte)) := blocksOf (numAt l 6 2) (l.drop (8 + 32 * pressCount l))

/-- All press blobs of an image. -/
def imgBlobs (b : List Byte) : List (Nat × List Byte) := (imgOf b 3).flatMap (fun p => (pressBlobs p.2).getD [])

/-- Templates of tile t in an image. -/
def imgTemplates (b : List Byte) (t : Nat) : Nat := sumN (((imgOf b 3).filter (fun p => decide (p.1 = t))).map (fun p => pressCount p.2))

/-- The command i of a task whose stream lies in one blob. -/
def cmdAt (d : TaskDesc) (blob : Nat × List Byte) (i : Nat) : PCmd := parseCmd (slice blob.2 (d.addr - blob.1 + 32 * i) 32)

/-- Whether the reachable commands of a task are in order and lie within the blob (R286). -/
def State.commandsOk (s : State) (d : TaskDesc) (blob : Nat × List Byte) : Nat → Nat → Bool
  | 0, _ => true
  | n + 1, i =>
    decide (d.addr + 32 * (i + 1) ≤ blob.1 + blob.2.length)
    && (if (cmdAt d blob i).op = 0 then (cmdAt d blob i).bareOk
        else if d.engine = 3 then
          (decide (i = 0) && decide ((cmdAt d blob i).op = 0x10 ∨ (cmdAt d blob i).op = 0x11)) && (cmdAt d blob i).bareOk
            && s.commandsOk d blob n (i + 1)
        else s.cmdOk (cmdAt d blob i) && s.commandsOk d blob n (i + 1))

/-- Whether descriptor k of tile t breaks R258 to R262 or R286. -/
def State.templateBad (s : State) (b : List Byte) (t : Nat) (l : List Byte) (k : Nat) : Bool :=
  let raw := pressDesc l k
  let d := parseDesc raw
  !descOk t raw || decide (d.taskId ≠ k) || d.dependents.any (fun q => decide (imgTemplates b (q / 1024) ≤ q % 1024))
  || (match (imgBlobs b).find? (fun p => decide (p.1 ≤ d.addr) && decide (d.addr + 32 ≤ p.1 + p.2.length)) with
    | none => true
    | some p => !s.commandsOk d p d.count 0)

/-- The first opcode of a task. -/
def taskRole (b : List Byte) (d : TaskDesc) : Nat :=
  match (imgBlobs b).find? (fun p => decide (p.1 ≤ d.addr) && decide (d.addr + 32 ≤ p.1 + p.2.length)) with
  | none => 0
  | some p => (cmdAt d p 0).op

/-- The descriptor of a slot key in an image. -/
def imgDesc (b : List Byte) (q : Nat) : Option TaskDesc :=
  ((imgOf b 3).find? (fun p => decide (p.1 = q / 1024) && decide (q % 1024 < pressCount p.2))).map
    (fun p => parseDesc (pressDesc p.2 (q % 1024)))

/-- The slots that depend on some slots, directly or through others. -/
def dependents (b : List Byte) : Nat → List Nat → List Nat
  | 0, l => l
  | n + 1, l =>
    let more := ((l.flatMap (fun q => ((imgDesc b q).map (fun d => d.dependents)).getD [])).filter (fun q => !l.contains q)).eraseDups
    if more = [] then l else dependents b n (l ++ more)

/-- Slots of tile 0's template with a role. -/
def roleSlots (b : List Byte) (op : Nat) : List Nat :=
  (List.range (imgTemplates b 0)).filter (fun k => match imgDesc b k with
    | some d => decide (d.engine = 3) && decide (taskRole b d = op)
    | none => false)

/-- Whether R271 is broken. -/
def rolesBad (b : List Byte) : Bool :=
  match roleSlots b 0x10, roleSlots b 0x11 with
  | [g], [f] => !(dependents b 2048 [g]).contains f
  | _, _ => true

/-- Whether a press section is malformed. -/
def State.pressBad (s : State) (b : List Byte) (t : Nat) (l : List Byte) : Bool :=
  decide (l.length < 8) || decide (numAt l 0 4 ≠ 0x5352504B) || decide (512 < pressCount l)
  || (match pressBlobs l with
    | none => true
    | some bs => bs.any (fun p => !claimed b p.1 p.2.length))
  || (List.range (pressCount l)).any (fun k => s.templateBad b t l k)

/-- Loads the templates of a press section. -/
def State.loadPress (t : Nat) (l : List Byte) (s : State) : State :=
  s.onPress (fun p => { p with
    templateCount := tabPut 0 p.templateCount t (pressCount l),
    templates := (List.range (pressCount l)).foldl (fun m k => tabPut {} m (t * 512 + k) (parseDesc (pressDesc l k))) p.templates })

/-! ### Blend section (08 R287) -/

/-- A capture map entry. -/
def capAt (l : List Byte) (o : Nat) : CapEntry :=
  { core := numAt l o 1, var := bits (numAt l (o + 1) 1) 0 2, shift := bits (numAt l (o + 1) 1) 4 4, first := numAt l (o + 2) 2,
    count := numAt l (o + 4) 2, slateByte := numAt l (o + 8) 4 }

/-- Where source entry i starts. -/
def srcOff (i : Nat) : Nat := 32 + 32 * i

/-- A source entry. -/
def blendSource (l : List Byte) (i : Nat) : Source :=
  let o := srcOff i
  let kind := numAt l o 1
  let ch := numAt l (o + 4) 1
  { kind := kind, mask := decide (numAt l (o + 1) 1 = 1), port := numAt l (o + 2) 1, chBase := numAt l (o + 3) 1, chCount := ch,
    absentFactor := numAt l (o + 5) 1, maxAge := numAt l (o + 8) 4, slateOff := numAt l (o + 12) 4,
    capture := (List.range (numAt l (o + 20) 2)).map (fun j => capAt l (numAt l (o + 16) 4 + 12 * j)),
    absent := slice l (numAt l (o + 24) 4) (if kind = 3 then 5 else ch) }

/-- Whether a capture entry is out of range. -/
def capBad (l : List Byte) (size o : Nat) : Bool :=
  let e := capAt l o
  decide (bits (numAt l (o + 1) 1) 2 2 ≠ 0) || decide (e.count < 1 ∨ 1024 < e.first + e.count ∨ size < e.slateByte + e.count)
  || decide (numAt l (o + 6) 2 ≠ 0)

/-- Whether source entry i is out of range. -/
def sourceBad (b l : List Byte) (i : Nat) : Bool :=
  let o := srcOff i
  let x := blendSource l i
  let n := numAt l (o + 20) 2
  if numAt l 4 1 ≤ i then decide (x.kind ≠ 0)
  else
    decide (x.kind < 1 ∨ 3 < x.kind ∨ 1 < numAt l (o + 1) 1 ∨ (5 < x.port ∧ x.port ≠ 0xFF) ∨ numAt l (o + 6) 2 ≠ 0
      ∨ x.maxAge < 1 ∨ 60000000 < x.maxAge ∨ x.slateOff % 64 ≠ 0 ∨ 512 < n ∨ numAt l (o + 22) 2 ≠ 0 ∨ numAt l (o + 28) 4 ≠ 0)
    || decide (l.length < numAt l (o + 16) 4 + 12 * n) || decide (l.length < numAt l (o + 24) 4 + x.absent.length)
    || (if x.kind = 3 then decide (x.chBase ≠ 0 ∨ x.chCount ≠ 0 ∨ n ≠ 0)
        else decide (x.chCount < 1 ∨ 32 < x.chBase + x.chCount) || !claimed b x.slateOff (2 * x.slateSize)
          || (List.range n).any (fun j => capBad l x.slateSize (numAt l (o + 16) 4 + 12 * j)))

/-- Whether the Blend section is malformed. -/
def blendBad (b l : List Byte) : Bool :=
  let srcs := (List.range (numAt l 4 1)).map (blendSource l)
  decide (l.length < 288 + 4 * numAt l 6 2) || decide (numAt l 0 4 ≠ 0x444C424B) || decide (numAt l 4 1 < 1 ∨ 8 < numAt l 4 1)
  || decide (numAt l 5 1 ≠ 0) || decide (numAt l 6 2 < 1 ∨ 4096 < numAt l 6 2) || decide (numAt l 12 4 % 64 ≠ 0)
  || (slice l 18 14).any (fun x => decide (x ≠ 0)) || (List.range 8).any (fun i => sourceBad b l i)
  || anyOverlap ((srcs.filter (fun x => decide (x.kind ≠ 3))).map (fun x => (x.chBase, x.chCount)))
  || !claimed b (numAt l 12 4) (64 * 48 * 32 + 64) || !claimed b (numAt l 8 4) (2 * numAt l 6 2)
  || (List.range (numAt l 6 2)).any (fun i => decide (numAt l (288 + 4 * i) 2 = 0xFFFF ∨ 31 < numAt l (290 + 4 * i) 1
    ∨ numAt l (291 + 4 * i) 1 ≠ 0))

/-- Loads the Blend section; the slates start uncommitted. -/
def State.loadBlend (l : List Byte) (s : State) : State :=
  s.onPress (fun p => { p with
    sources := (List.range 8).foldl (fun m i => tabPut {} m i (if i < numAt l 4 1 then blendSource l i else {})) p.sources,
    sourceCount := numAt l 4 1, classCount := numAt l 6 2, scoreOff := numAt l 8 4, gridOff := numAt l 12 4,
    stopMin := numAt l 16 1, zoneEmptyMin := numAt l 17 1,
    classes := (List.range (numAt l 6 2)).foldl (fun m i =>
      tabPut 0 m i (numAt l (288 + 4 * i) 2 + 65536 * numAt l (290 + 4 * i) 1)) [] })

/-! ### Hub Cellar section (10 R357) -/

/-- The blocks of a hub Cellar section, at their offsets in the address map. -/
def hubBlocks (l : List Byte) : Option (List (Nat × List Byte)) :=
  (blocksOf (numAt l 4 4) (l.drop 8)).map (fun bs => bs.map (fun p => (sliceBase 0 + p.1, p.2)))

/-- All hub blocks of an image. -/
def imgHub (b : List Byte) : List (Nat × List Byte) := (imgOf b 5).flatMap (fun p => (hubBlocks p.2).getD [])

/-- Whether hub sections are malformed. -/
def hubBad (b : List Byte) : Bool :=
  (imgOf b 5).any (fun p => decide (p.2.length < 8) || decide (numAt p.2 0 4 ≠ 0x4343484B) || (hubBlocks p.2).isNone)
  || (imgHub b).any (fun p => decide (sliceBase 0 + 1024 * imgClaim b 0 < p.1 + p.2.length))
  || anyOverlap (((imgHub b).filter (fun p => decide (p.2 ≠ []))).map (fun p => (p.1, p.2.length)))
  || (imgHub b).any (fun p => (imgBlobs b).any (fun q => overlaps p.1 p.2.length q.1 q.2.length))

/-! ### Loading (04 R141, 06 R216, 10 R357) -/

/-- The tiles an image names: by a claim, a section's target, a leaf or an entry core (04 R134, 07 R249). -/
def imgNames (b : List Byte) (t : Nat) : Bool :=
  decide (imgClaim b (t + 1) ≠ 0) || (imgOf b 1).any (fun p => decide (tileOf p.1 = t))
  || (imgOf b 2).any (fun p => decide (p.1 = t) || (mapsOf p.2).any (fun m => decide (tileOf m.2.entryCore = t))
    || (List.range 64).any (fun i => (List.range (rhLeaves p.2 i)).any (fun j =>
      decide (bits (rhLeaf p.2 i j) 0 9 ≠ 0x100) && decide (bits (rhLeaf p.2 i j) 0 9 / 64 = t))))
  || (imgOf b 3).any (fun p => decide (p.1 = t))

/-- Every unit as an image sets it, in a state that the image is loaded into; what the former image set is gone. -/
def State.loadUnits (b : List Byte) (s : State) : State :=
  let named := (imgOf b 1).map (fun p => p.1)
  let s := (List.range 256).foldl (fun u c =>
    if named.contains c ∨ (u.core c).st = .fault ∨ (u.core c).st = .disabled then u
    else u.onCore c (fun x => { x with st := .disabled, committing := false })) s
  let s := s.onFabric (fun f => { f with entries := [], leaves := [], entryCount := [], defaultRoute := [], ingestMaps := [] })
  let s := s.onPress (fun p => { p with templateCount := [], templates := [], sources := [], sourceCount := 0, classCount := 0,
                                        classes := [], loadedId := numAt b 8 4, finaliseSlot := (roleSlots b 0x11).head? })
  let s := (imgOf b 1).foldl (fun u p => u.loadCore p.1 p.2) s
  let s := (imgOf b 2).foldl (fun u p => u.loadRouters p.1 p.2) s
  let s := (imgOf b 3).foldl (fun u p => u.loadPress p.1 p.2) s
  (imgOf b 4).foldl (fun u p => u.loadBlend p.2) s

/-- The Cellar as an image sets it: the hub claim cleared, then blobs and blocks written (10 R357, 08 R286). -/
def State.loadCellar (b : List Byte) (s : State) : State :=
  let n := 1024 * imgClaim b 0
  let inHub := fun l => decide (sliceBase 0 / 64 ≤ l) && decide (l < (sliceBase 0 + n) / 64)
  let s : State := { s.drainAll with mem := memClear s.drainAll.mem (sliceBase 0) n }
  let s := (s.uncache (sliceBase 0) n).onMem (fun m => { m with cluster := tabDrop m.cluster inHub, poison := tabDrop m.poison inHub })
  (imgBlobs b ++ imgHub b).foldl (fun u p => u.ncWrite p.1 p.2) s

/-- Ungates the tiles an image needs (15 R486). -/
def State.ungateNamed (b : List Byte) (s : State) : State :=
  s.onPower (fun x => { x with gated := x.gated &&& ~~~(BitVec.ofNat 4 (sumN ((List.range 4).map (fun t => b2n (imgNames b t) * 2 ^ t)))) })

/-- Loads an image. -/
def State.loadImage (b : List Byte) (s : State) : State :=
  ((s.ungateNamed b).loadUnits b).loadCellar b

/-- The bytes of the image a slot holds, by its TOTAL_LENGTH. -/
def State.slotImage (s : State) (k : Nat) : List Byte := s.bytesAt (slotBase k) (s.memNum (slotBase k + 16) 4)

/-- Whether the active image needs a tile, or a port reservation lies in its slice (15 R485). -/
def State.tileNeeded (s : State) (t : Nat) : Bool :=
  (match s.nvm.activeSlot with
    | some k => imgNames (s.slotImage k) t
    | none => false)
  || (List.range 6).any (fun p => match (s.port p).region with
    | some (a, _) => decide (sliceTile a = some t)
    | none => false)

/-! ### Verification (04 R133, R134, R137, R140) -/

/-- The state a check loads an image into, to see what each section sets: the tiles it needs powered, every core as after
reset, so that a section is judged by its own content alone (06 R215). -/
def State.trial (b : List Byte) (s : State) : State := (s.ungateNamed b).onFabric (fun f => { f with cores := [] })

/-- Whether any section's content breaks the rules of its chapter. -/
def State.contentBad (s : State) (b : List Byte) : Bool :=
  let u := (s.trial b).loadUnits b
  let rank := match imgOf b 1 with
    | [] => 1
    | p :: _ => numAt p.2 6 1
  (imgOf b 1).any (fun p => voiceBad rank p.2 || !s.hasCore p.1 || decide ((u.core p.1).st ≠ .loaded))
  || (imgOf b 2).any (fun p => decide (s.tiles ≤ p.1) || s.routersBad p.1 p.2)
  || (imgOf b 3).any (fun p => decide (s.tiles ≤ p.1) || u.pressBad b p.1 p.2) || rolesBad b
  || (imgOf b 4).any (fun p => blendBad b p.2) || decide ((imgOf b 4).length ≠ 1) || hubBad b

/-- The model-image key hashes of the key list in use (17 R535). -/
def State.keyHashes (s : State) : List (List Byte) :=
  match s.boot.keyList with
  | none => []
  | some k =>
    let a := mramBase + 0x261000 + 0x1000 * k
    (List.range (s.memNum (a + 8) 1)).map (fun i => s.bytesAt (a + 12 + 32 * i) 32)

/-- Whether key hash and signature of an image verify (R133). -/
def State.imageSigned (s : State) (b : List Byte) : Bool :=
  let o := imgTotal b - 128
  s.keyHashes.contains (Config.sha256 (slice b o 32))
  && Config.ed25519Ok (slice b o 32) (Config.sha512 (slice b 0 o)) (slice b (o + 32) 64)

/-- The full check of an image; 0 when it passes (R134, R140). -/
def State.imageCode (s : State) (b : List Byte) : Nat :=
  if headerBad b = true ∨ sectsBad b = true then 0x08000020
  else if s.unitsMissing b = true ∨ s.targetsMissing b = true then 0x0F000011
  else if (imgSects b).any (fun x => decide (x.crc ≠ crc32 (x.bytes b))) = true
      ∨ s.contentBad b = true ∨ (slice b (imgTotal b - 32) 32).any (fun x => decide (x ≠ 0)) = true then 0x08000020
  else if s.imageSigned b then 0 else 0x0F000010

/-- The full check of the image that a slot holds; a read that ECC cannot correct fails it (R120). -/
def State.slotCode (s : State) (k : Nat) : Nat :=
  if s.poisoned (slotBase k) (imgTotal (s.slotImage k)) then 0x08000020 else s.imageCode (s.slotImage k)

/-! ### Install (04 R138 to R140) -/

/-- The install ends and leaves its slot empty, with its record. -/
def State.installFail (code : Nat) (s : State) : State :=
  match s.nvm.installing with
  | none => s
  | some k =>
    ((s.setSlot k .empty).onNvm (fun n => { n with installing := none, committing := false, installStatus := code })).book
      0xE022 3 1 (leBytes 1 k ++ leBytes 4 code)

/-- begin. -/
def State.installBegin (s : State) : Nat × State :=
  let k := match s.nvm.activeSlot with
    | some a => 1 - a
    | none => 0
  if s.nvm.job.isSome then (0x0F000020, s)
  else if s.nvm.installing.isSome then (0x08000020, s)
  else if s.nvm.pendingSwitch = some k then (0x0F000012, s)
  else
    let u := (s.nvmPut (trailer k + 0xFF0) (leBytes 16 0)).setSlot k .installing
    (0, ((u.onNvm (fun n => { n with installing := some k, committing := false, received := 0, installStatus := 0 })).setEnt
      0x2300 9 0).book 0xE020 3 0 (leBytes 1 k))

/-- A write of INSTALL_DATA. -/
def State.installData (data : List Byte) (s : State) : Nat × State :=
  let off := s.ent 0x2300 9
  let top := off + data.length
  if data.length = 0 ∨ 4096 < data.length then (0x06070010, s)
  else if s.nvm.job.isSome then (0x0F000020, s)
  else match s.nvm.installing with
    | none => (0x08000020, s)
    | some k =>
      if s.nvm.received < off then (0x08000020, s)
      else if 128 ≤ s.nvm.received ∧ s.memNum (slotBase k + 16) 4 < top then (0x06090030, s)
      else
        let u := ((s.nvmPut (slotBase k + off) data).onNvm (fun n => { n with received := top })).setEnt 0x2300 9 top
        let code := u.headerCheck (u.bytesAt (slotBase k) 128)
        if 128 ≤ top ∧ (off < 128 ∨ s.nvm.received < 128) ∧ code ≠ 0 then (code, u.installFail code) else (0, u)

/-- commit: the verification starts; its end answers. -/
def State.installCommit (who : StoreFor) (s : State) : Nat × State :=
  match s.nvm.installing with
  | none => (0x08000020, s)
  | some k =>
    if s.nvm.committing ∨ s.nvm.received < 128 ∨ s.nvm.received ≠ s.memNum (slotBase k + 16) 4 then (0x08000020, s)
    else (0, s.onNvm (fun n => { n with committing := true, commitFor := who }))

/-- The trailer of a slot whose image has passed: IMAGE_LENGTH, INSTALL_GENERATION, DIGEST, and COMMIT last (R140). -/
def State.writeTrailer (k : Nat) (s : State) : State :=
  let b := s.slotImage k
  let gen := (max (s.slotGen 0) (s.slotGen 1) + 1) % 2 ^ 32
  (s.nvmPut (trailer k) (leBytes 4 (imgTotal b) ++ leBytes 4 gen ++ slice (Config.sha512 (slice b 0 (imgTotal b - 128))) 0 64)).nvmPut
    (trailer k + 0xFF8) (leBytes 8 (0x534C4F54434D0000 + gen % 0x10000))

/-- A commit fails: the slot is left empty, and its response carries the code. -/
def State.commitFail (code : Nat) (s : State) : State := (s.installFail code).answerTo s.nvm.commitFor 0x2300 8 code

/-- The verification ends (R140); ok says whether COMMIT reads back. -/
def State.commitEnd (ok : Bool) (s : State) : State :=
  match s.nvm.installing with
  | none => s
  | some k =>
    if s.nvm.committing = false then s
    else if s.slotCode k ≠ 0 then s.commitFail (s.slotCode k)
    else if ok = false then ((s.writeTrailer k).badWord (trailer k + 0xFF8)).commitFail 0x08000020
    else
      let b := s.slotImage k
      let u := ((s.writeTrailer k).setSlot k .valid).onNvm (fun n => { n with installing := none, committing := false })
      (u.book 0xE021 3 0 (leBytes 1 k ++ leBytes 4 (numAt b 8 4) ++ leBytes 4 (numAt b 12 4))).answerTo s.nvm.commitFor 0x2300 8 0

/-- abort: ends an install and cancels a pending switch; a commit it breaks into is answered as failed. -/
def State.installAbort (s : State) : Nat × State :=
  let k := match s.nvm.installing, s.nvm.pendingSwitch with
    | some k, _ => some k
    | none, p => p
  match k with
  | none => (0, s)
  | some k =>
    let u := if s.nvm.committing then s.answerTo s.nvm.commitFor 0x2300 8 0x08000020 else s
    let u := match s.nvm.installing with
      | some j => u.setSlot j .empty
      | none => u
    let u := u.onNvm (fun n => { n with installing := none, committing := false, pendingSwitch := none, switchHeld := false })
    (0, (u.onChoir (fun c => { c with switchEra := none })).book 0xE022 3 1 (leBytes 1 k ++ leBytes 4 0))

/-- Whether a membership change is pending (11 R383). -/
def State.changePending (s : State) : Bool :=
  s.choir.change.isSome || !s.choir.departed.isEmpty || s.choir.joiners.any (fun j => decide (j.2 = 2))

/-- The slot in state valid that activate takes; of two, slot 0 (DESIGN CHOICE, log 65: R138 names none). -/
def State.validSlot (s : State) : Option Nat :=
  if s.nvm.slot0 = .valid then some 0 else if s.nvm.slot1 = .valid then some 1 else none

/-- What activate answers, 0 when it is accepted (R138). -/
def State.activateCode (s : State) : Nat :=
  if s.validSlot.isNone ∨ s.nvm.pendingSwitch.isSome then 0x08000020
  else if s.changePending then 0x0F000050
  else 0

/-- The switch becomes pending; a coordinated one for a given era (R138, 11 R387). -/
def State.switchPend (era : Option Nat) (s : State) : State :=
  (s.onNvm (fun n => { n with pendingSwitch := s.validSlot, switchAt := s.now })).onChoir (fun c => { c with switchEra := era })

/-- The number of the first era whose boundary lies at least 20 ms ahead (11 R387). -/
def State.eraAhead (s : State) : Nat :=
  let stop := s.beat.start + s.beat.length
  let need := (s.now + 20000 - stop + s.beat.activePeriod - 1) / s.beat.activePeriod
  (s.beat.number + 1 + need + 255) / 256

/-- The Choir's number of an own era: the offset is a multiple of 256 beats. -/
def State.choirEra (s : State) (e : Nat) : Nat := ((e : Int) + s.choir.offset / 256).toNat

/-- The own number of a Choir era. -/
def State.ownEra (s : State) (e : Nat) : Nat := ((e : Int) - s.choir.offset / 256).toNat

/-- The other current members. -/
def State.otherMembers (s : State) : List Nat :=
  (List.range 16).filter (fun i => decide (i ≠ s.choir.ownId) && decide (tabGet 0 s.choir.serials i ≠ 0)
    && !s.choir.departed.any (fun d => decide (d.1 = i)))

/-- activate: at once, or coordinated by the precentor (R138, 11 R387); none where the answer waits for the members. -/
def State.installActivate (who : StoreFor) (s : State) : Option Nat × State :=
  if s.activateCode ≠ 0 then (some s.activateCode, s)
  else if s.choir.role = .precentor ∧ s.otherMembers ≠ [] ∧ s.ent 0x8000 0x14 = 1 then
    if s.choir.switch.isSome then (some 0x08000020, s)
    else
      let era := s.choirEra s.eraAhead
      (none, (s.onChoir (fun c => { c with switch := some { era := era, accepted := [], asker := who } })).linkTo
        0x0E .all (switchBytes 0 era 0))
  else (some 0, s.switchPend none)

/-- INSTALL_BEGIN. -/
def execInstallBegin (s : State) : Host.Outcome State Fault Refusal := .next (s.guarded 0x2300 8 1 State.installBegin)

/-- INSTALL_DATA. -/
def execInstallData (data : List Byte) (s : State) : Host.Outcome State Fault Refusal :=
  .next (s.written (fun s => (s.installData data).2.answer (s.installData data).1))

/-- INSTALL_COMMIT: it is answered at its end. -/
def execInstallCommit (s : State) : Host.Outcome State Fault Refusal :=
  .next (s.written (fun s => let r := s.installCommit .local; if r.1 = 0 then r.2 else r.2.answer r.1))

/-- INSTALL_COMMIT_COMPLETE. -/
def execInstallCommitComplete (ok : Bool) (s : State) : Host.Outcome State Fault Refusal := .next (s.commitEnd ok)

/-- INSTALL_ABORT. -/
def execInstallAbort (s : State) : Host.Outcome State Fault Refusal := .next (s.guarded 0x2300 8 3 State.installAbort)

/-- INSTALL_ACTIVATE. -/
def execInstallActivate (s : State) : Host.Outcome State Fault Refusal :=
  .next (s.written (fun s => match s.installActivate .local with
    | (some code, t) => t.answer code
    | (none, t) => t))

/-! ### The switch (04 R141, R142) -/

/-- Whether a pending switch is due at the boundary that has just started. -/
def State.switchDue (s : State) : Option Nat :=
  if s.beat.number % 256 = 0 ∧ s.now = s.beat.start ∧ s.nvm.switchAt < s.beat.start
      ∧ (s.choir.switchEra.getD 0) ≤ s.beat.number / 256 then s.nvm.pendingSwitch
  else none

/-- Steps 1 to 3, or the failure of the read-back. -/
def State.switchTo (k : Nat) (ok : Bool) (s : State) : State :=
  let coord := s.choir.switchEra.isSome
  let s := (s.onNvm (fun n => { n with pendingSwitch := none })).onChoir (fun c => { c with switchEra := none })
  if ok then
    let act := s.topActivation + 1
    let b := s.bytesAt (slotBase k) 128
    let u := s.nvmPut (trailer k + 0xFF0) (leBytes 8 (0x4143545600000000 + act % 2 ^ 32))
    let u := match s.nvm.activeSlot with
      | some a => u.setSlot a .valid
      | none => u
    let u := (u.setSlot k .active).onNvm (fun n => { n with
      activeSlot := some k, imageId := numAt b 8 4, imageVersion := numAt b 12 4, loadPending := true })
    let u := u.book 0xE023 3 0 (leBytes 1 k ++ leBytes 4 (numAt b 8 4) ++ leBytes 4 (numAt b 12 4) ++ leBytes 4 act)
    u.idled.onBeat (fun x => { x with
      ingesting := false, ingestStop := none, ingestWanted := none,
      work := x.work.filter (fun w => decide (w.beat < x.number)) })
  else
    let u := (s.onNvm (fun n => { n with installStatus := 0x08000020 })).emcyEvent 0xFF90 3 []
    if coord ∧ s.choir.role = .follower then
      u.linkToPrec 0x0E (switchBytes 2 (s.choirEra (s.beat.number / 256)) 0x08000020)
    else if coord ∧ s.choir.role = .precentor then u.book 0xE602 0x1E 1 (leBytes 4 Config.serial ++ leBytes 4 s.choir.generation) else u

/-- IMAGE_SWITCH (04 R141): ok says whether ACTIVATION reads back. -/
def execImageSwitch (ok : Bool) (s : State) : Host.Outcome State Fault Refusal :=
  .next (match s.switchDue with
    | some k => s.switchTo k ok
    | none => s)

/-- Whether the press stage of every beat in the pipeline has ended. -/
def State.pressIdle (s : State) : Bool := s.beat.work.all (fun w => decide (w.press = .done ∨ w.press = .shed))

/-- Steps 4 and 5: reservations are moved, the image is loaded, and ingest is to resume. -/
def State.imageLoad (s : State) : State :=
  match s.nvm.activeSlot with
  | none => s
  | some k =>
    let b := s.slotImage k
    let claims := (List.range 5).map (imgClaim b)
    let u := ((s.moveRegions claims).onNvm (fun n => { n with
      claims := claims, unitsNeeded := numAt b 24 4, loadPending := false })).loadImage b
    u.wantIngest

/-- IMAGE_LOAD (04 R141). -/
def execImageLoad (s : State) : Host.Outcome State Fault Refusal :=
  .next (if s.nvm.loadPending = true ∧ s.pressIdle = true then s.imageLoad else s)

/-! ### Selection at boot (04 R137, R138, R143) -/

/-- The slots that qualify by their trailers, the higher activation number first. -/
def State.bootSlots (s : State) : List Nat :=
  let ok := fun k => s.committed k && (s.activation k).isSome
  let l := if (s.activation 0).getD 0 < (s.activation 1).getD 0 then [1, 0] else [0, 1]
  l.filter ok

/-- The first of them that verifies, with a record for one that does not. -/
def State.pickSlot : List Nat → State → Option Nat × State
  | [], s => (none, s)
  | k :: t, s =>
    let code := s.slotCode k
    if code = 0 then (some k, s) else (s.book 0xE024 3 2 (leBytes 1 k ++ leBytes 4 code)).pickSlot t

/-- Slot states and the active image at boot; the image is loaded. -/
def State.bootImage (s : State) : State :=
  let st := fun k => if s.committed k then SlotSt.valid else .empty
  let s := s.onNvm (fun n => { n with slot0 := st 0, slot1 := st 1, activeSlot := none, imageId := 0, imageVersion := 0,
                                      claims := [0, 0, 0, 0, 0], unitsNeeded := 0 })
  match s.pickSlot s.bootSlots with
  | (none, t) => t
  | (some k, t) =>
    let b := t.slotImage k
    (((t.setSlot k .active).onNvm (fun n => { n with
      activeSlot := some k, imageId := numAt b 8 4, imageVersion := numAt b 12 4, unitsNeeded := numAt b 24 4,
      claims := (List.range 5).map (imgClaim b) })).loadImage b)

end Sys2Proof.Machine
end

