-- ==== Sys2Proof/Machine/Link.lean ====
section
/-! DEFINITION. Choir Link: ports, frames received, the gateway's exports, departures, HELLO and the roles
(11_choir_link.md R361 to R369, R374 to R376, R381 to R384). -/

namespace Sys2Proof.Machine

/-! ### Ports (11 R361, R362, R365) -/

/-- CHOIR_ROLE's number. -/
def Role.code : Role → Nat
  | .standalone => 0 | .precentor => 1 | .follower => 2 | .joining => 3

/-- CHOIR_BEAT_STATE's number. -/
def ChoirBeat.code : ChoirBeat → Nat
  | .notFollowing => 0 | .aligning => 1 | .following => 2 | .holdover => 3 | .freeRun => 4 | .halted => 5

/-- PORTn_STATE's number. -/
def ClPort.code : ClPort → Nat
  | .down => 0 | .training => 1 | .up => 2

/-- MEMBER_MAP (R389): a standalone or joining package counts as ID 0 alone. -/
def State.memberMap (s : State) : Nat :=
  if s.choirMember then sumN ((List.range 16).map (fun i => b2n (decide (tabGet 0 s.choir.serials i ≠ 0)) * 2 ^ i)) else 1

/-- MEMBER_COUNT (R386). -/
def State.memberCount (s : State) : Nat :=
  if s.choirMember then ((List.range 16).filter (fun i => decide (tabGet 0 s.choir.serials i ≠ 0))).length else 1

/-- PRECENTOR_SERIAL (R389). -/
def State.precSerial (s : State) : Nat :=
  match s.choir.role with
  | .standalone => Config.serial
  | .precentor => Config.serial
  | _ => s.choir.precSerial

/-- TOPOLOGY (R363, R389): a ring where a member is reached by both ports. -/
def State.topology (s : State) : Nat :=
  if s.choirMember = false then 0
  else if (List.range 16).any (fun d => decide (d ≠ s.choir.ownId) && (s.hopsBy 0 d).isSome && (s.hopsBy 1 d).isSome) then 2
  else 1

/-! ### Announcements (03 R115, R116) -/

/-- NMT state's code in heartbeats and announcements (03 R100, R115); INITIALISATION sends none. -/
def Nmt.code : Nmt → Nat
  | .initialisation => 0 | .stopped => 4 | .operational => 5 | .preOperational => 0x7F

/-- Product code (03 R87). -/
def State.product (s : State) : Nat :=
  match s.variant with
  | .erv1640 => 0x1640 | .erv1620 => 0x1620 | .erv1610 => 0x1610

/-- DEVICE_NAME (03 R87). -/
def State.deviceName (s : State) : List Byte :=
  match s.variant with
  | .erv1640 => textBytes "ERV-1640" | .erv1620 => textBytes "ERV-1620" | .erv1610 => textBytes "ERV-1610"

/-- 0x1018.03 (03 R87). -/
def State.revisionWord (s : State) : Nat := 0xB00000 + s.boot.revision

/-- The bytes of a MAC address, first octet first (03 R91). -/
def macBytes (p : Nat) : List Byte := (leBytes 6 (Config.mac p)).reverse

/-- ANNOUNCE data of a port (R115). -/
def State.announceData (s : State) (p : Nat) : List Byte :=
  leBytes 4 0x4B5 ++ leBytes 4 s.product ++ leBytes 4 s.revisionWord ++ leBytes 4 Config.serial ++ leBytes 4 s.unitsPresent
  ++ leBytes 1 s.comm.nmt.code ++ leBytes 1 (if s.choir.role = .precentor then 1 else 0) ++ leBytes 1 s.choir.ownId
  ++ leBytes 1 s.memberCount ++ leBytes 1 s.comm.node ++ leBytes 3 0 ++ macBytes p ++ leBytes 2 0 ++ slice s.deviceName 0 32

/-- The index of an Ethernet port's entries. -/
def ethIdx (p : Nat) : Nat := 0x2021 + p

/-- The announcements of a port. -/
def State.announcer (s : State) (p : Nat) : Announcer := tabGet {} s.oap.announces p

/-- Sends ANNOUNCE from a port; its SEQUENCE, which the spec leaves open, is a free value. -/
def State.announceTo (p : Nat) (dest : OapDest) (s : State) : State :=
  s.draw.oapSend dest 0x40 (BitVec.ofNat 32 s.drawn) 0 none 0 (s.announceData p)

/-- Multicasts ANNOUNCE on a port to the group of each kind of address it holds; a follower sends none (R116, R117). -/
def State.announceOn (p : Nat) (s : State) : State :=
  if s.choir.role = .follower then s
  else
    let u := if s.ent (ethIdx p) 5 ≠ 0 then s.announceTo p (.group p false) else s
    if (s.announcer p).v6 then u.announceTo p (.group p true) else u

/-- Announces on every port (R116). -/
def State.announceAll (s : State) : State := (s.announceOn 0).announceOn 1

/-! ### Ports that come up, go down and replay (11 R362 to R365) -/

/-- The own HELLO (R365). -/
def State.ownHello (s : State) : HelloMsg :=
  { serial := Config.serial, units := BitVec.ofNat 32 s.unitsPresent, stepping := 0xB0, role := s.choir.role.code, ownId := s.choir.ownId,
    precSerial := s.precSerial, members := s.memberCount, generation := s.choir.generation }

/-- Sends HELLO to the neighbour of a port. -/
def State.sendHello (p : Nat) (s : State) : State := s.linkTo 1 (.port p) (helloBytes s.ownHello)

/-- Sends the frames of the replay buffer again. -/
def State.replay (p : Nat) (s : State) : State := s.emitAll ((s.clPort p).sent.map (Out.frame p))

/-- CHOIR_PORT_TRAINED (R362): all four lanes trained. A link that came up anew begins its numbers and credit and sends
HELLO (R365); one that was retrained goes on from its replay buffer. -/
def execChoirPortTrained (p : Fin 2) (s : State) : Host.Outcome State Fault Refusal :=
  .next (if s.choirOn = false ∨ (s.clPort p).st ≠ .training then s
    else if (s.clPort p).retraining then (s.onClPort p (fun x => { x with st := .up, replays := 0, retraining := false })).replay p
    else (s.onClPort p (fun _ => { st := .up })).sendHello p)

/-- CHOIR_PORT_RETRY (R362): a port that stays down tries again. -/
def execChoirPortRetry (p : Fin 2) (s : State) : Host.Outcome State Fault Refusal :=
  .next (if s.choirOn = true ∧ (s.clPort p).st = .down then s.onClPort p (fun x => { x with st := .training }) else s)

/-- Whether a frame is one for a single member, which can take another path (R363). -/
def LinkFrame.toMember (f : LinkFrame) : Bool := decide (f.flags = 0) && decide (f.kind ≠ 1) && decide (f.kind ≠ 0x0F)

/-- A port goes down: what it had for members that the other port reaches takes that way (R363). -/
def State.clDown (p : Nat) (s : State) : State :=
  let x := s.clPort p
  let moved := ((x.sent.map (fun (f : LinkFrame) => { f with via := none })) ++ x.txq).filter LinkFrame.toMember
  let t := (s.onClPort p (fun _ => {})).onChoir (fun c => { c with
    paths := (List.range 16).foldl (fun u d => tabPut {} u (p * 16 + d) {}) c.paths,
    imports := c.imports.map (fun e => if e.port = some p then { e with port := none } else e) })
  (t.enqueue (1 - p) (moved.filter (fun f => (t.hopsBy (1 - p) f.dst).isSome))).linkRun

/-- CHOIR_TRAINING_TIMEOUT (R362, R365, R390). -/
def execChoirTrainingTimeout (p : Fin 2) (s : State) : Host.Outcome State Fault Refusal :=
  .next (if (s.clPort p).st = .training then
    (if (s.clPort p).retraining then (s.clDown p).book 0xE605 0x1E 1 (leBytes 1 p) else s.clDown p)
    else s)

/-- CHOIR_LINK_LOSS (R363): membership stays as it is. -/
def execChoirLinkLoss (p : Fin 2) (s : State) : Host.Outcome State Fault Refusal :=
  .next (if (s.clPort p).st = .up then s.clDown p else s)

/-- NAK: a frame with credit and acknowledgement only, which no number counts (log 73). -/
def State.sendNak (p : Nat) (s : State) : State :=
  s.emit (.frame p { s.creditFrame with flags := 4 + s.frameFlags false, seq := (s.clPort p).seq, ack := (s.clPort p).lastGood })

/-- LINK_FRAME_CRC_ERROR (R365): bytes with a bad CRC are discarded and answered with NAK; a frame with a good one but of
reserved KIND, with a reserved bit or an impossible FLITS value is discarded and counted. -/
def execLinkFrameCrcError (p : Fin 2) (bytes : List Byte) (s : State) : Host.Outcome State Fault Refusal :=
  .next (if s.clUp p = false then s
    else if frameCrcOk bytes = false then s.sendNak p
    else if frameFormOk bytes then s else s.count 0x8000 0x10 1)

/-- Frames of the replay buffer that an ACK_SEQ does not cover. -/
def unacked (ack : BitVec 16) (l : List LinkFrame) : List LinkFrame :=
  l.filter (fun f => decide (f.seq ≠ ack) && decide ((f.seq - ack).toNat < 2 ^ 15))

/-- One more replay of the frame at the head of the replay buffer. -/
def ClPortSt.replayed (f : LinkFrame) (x : ClPortSt) : ClPortSt :=
  { x with replays := if x.replayOf = f.seq then x.replays + 1 else 1, replayOf := f.seq }

/-- LINK_NAK (R365): the frames from ACK_SEQ + 1 on are replayed; the 16th replay in a row of one retrains the link. -/
def execLinkNak (p : Fin 2) (ackSeq : BitVec 16) (s : State) : Host.Outcome State Fault Refusal :=
  .next (if s.clUp p = false then s
    else
      let t := s.onClPort p (fun x => { x with sent := unacked ackSeq x.sent })
      match (t.clPort p).sent with
      | [] => t
      | f :: _ =>
        let u := (t.count 0x8000 0xF 1).onClPort p (ClPortSt.replayed f)
        if 16 ≤ (u.clPort p).replays then u.onClPort p (fun x => { x with st := .training, retraining := true, replays := 0 })
        else u.replay p)

/-- Whether a message being joined has a TAG of a sender. -/
def Partial.of (src tag : Nat) (q : Partial) : Bool := decide (q.src = src) && decide (q.tag = tag)

/-- CONTROL_MESSAGE_TIMEOUT (R367): 10 ms after its first segment the incomplete message is discarded, and counted once. -/
def execControlMessageTimeout (src tag : Fin 16) (s : State) : Host.Outcome State Fault Refusal :=
  .next (match s.choir.partials.find? (Partial.of src tag) with
    | none => s
    | some q =>
      let t := (s.upTo (q.since + 10000)).onChoir (fun c => { c with partials := dropFirst (Partial.of src tag) c.partials })
      if q.dead then t else t.count 0x8000 0x10 1)

/-! ### The gateway's exports (11 R374, R376) -/

/-- Changes the link ledger's set of a target beat. -/
def State.linkTerm (target : Nat) (f : LinkTerms → LinkTerms) : State → State :=
  State.onChoir (fun c => { c with ledger := tabMod {} c.ledger (target % 16) f })

/-- Adds to DROPPED. -/
def State.linkDropped (target n : Nat) : State → State :=
  State.linkTerm target (fun t => { t with dropped := t.dropped + BitVec.ofNat 32 n })

/-- Adds to LINK_SHED. -/
def State.linkShedTerm (target n : Nat) : State → State :=
  State.linkTerm target (fun t => { t with linkShed := t.linkShed + BitVec.ofNat 32 n })

/-- A CHOIR_KEY entry in force as VALUE, MASK and PACKAGES. -/
def State.choirKey (s : State) (i : Nat) : Nat × Nat × Nat :=
  let v := s.force 0x8100 (i + 1)
  (bits v 0 32, bits v 32 32, bits v 64 16)

/-- The destination set of a key (R374): PACKAGES of the first used entry that matches, without the own ID. -/
def State.keyDests (s : State) (key : Nat) : List Nat :=
  match (List.range 64).find? (fun i => let e := s.choirKey i; decide (e.2.2 ≠ 0) && decide (key &&& e.2.1 = e.1)) with
  | none => []
  | some i => (List.range 16).filter (fun d => decide (d ≠ s.choir.ownId) && (s.choirKey i).2.2.testBit d)

/-- A VN0 packet has left the gateway with its last copy: the W output's credit starts back. -/
def State.exportDone (last : Bool) (f : Flit) (s : State) : State :=
  if last = true ∧ f.vn1 = false then s.giveBack (credKey 0 4 0) else s

/-- Class of an export. -/
def exportClass (f : Flit) : Nat := if f.vn1 then 2 else 1

/-- Whether an export may leave: its port is up with credit for two flits, and no forwarded frame of its class waits. -/
def State.exportReady (s : State) (e : Nat × Bool × Flit) : Bool :=
  let p := s.clPortFor e.1
  s.clUp p && decide (2 ≤ s.linkCredit p (exportClass e.2.2)) && (s.clPort p).txq.all (fun g => decide (g.cls ≠ exportClass e.2.2))

/-- The EVENTS frame of one packet: its header and a flit (R365). -/
def State.eventsFrame (s : State) (d : Nat) (f : Flit) : LinkFrame :=
  { kind := 8, cls := exportClass f, src := s.choir.ownId, dst := d, flags := s.frameFlags false, field := eventsField [(f.vn1, f.pkt)],
    payload := eventsBytes [(f.vn1, f.pkt)] }

/-- Sends the oldest export that may leave. -/
def State.drainOne (s : State) : Option State :=
  match findAt s.exportReady s.fabric.exports with
  | none => none
  | some (n, (d, last, f)) =>
    let p := s.clPortFor d
    let u := s.onFabric (fun x => { x with exports := x.exports.take n ++ x.exports.drop (n + 1) })
    let u := u.useLinkCredit p (exportClass f) 2
    let u := u.onChoir (fun c => { c with exported := tabMod 0 c.exported d (· + 1) })
    some ((u.exportDone last f).sendFrame p (s.eventsFrame d f))

/-- Repeats that. -/
def State.drainN : Nat → State → State
  | 0, s => s
  | k + 1, s => match s.drainOne with
    | none => s
    | some u => u.drainN k

/-- Sends every export that has credit. -/
def State.drainExports (s : State) : State := s.drainN s.fabric.exports.length

/-- VN1 copies in the export buffer (R376). -/
def State.vn1Exports (s : State) : Nat := (s.fabric.exports.filter (fun e => e.2.2.vn1)).length

/-- Copies of one packet, one for each destination that is a current reachable member; the others are DROPPED, and the
last copy made is marked. -/
def State.gatewayCopies (f : Flit) (ds : List Nat) (s : State) : State :=
  let live := ds.filter (fun d => s.reachable d)
  let gone := ds.filter (fun d => s.choir.departed.any (fun e => decide (e.1 = d)))
  let u := (s.linkDropped f.target (ds.length - live.length)).count 0x8000 0x11 gone.length
  let u := if live.isEmpty then u.exportDone true f else u
  (live.zipIdx.foldl (fun a e =>
    if f.vn1 = true ∧ 1024 ≤ a.vn1Exports then (a.count 0x8000 0x12 1).linkShedTerm f.target 1
    else a.onFabric (fun x => { x with exports := x.exports ++ [(e.1, decide (e.2 + 1 = live.length), f)] })) u)

/-- The gateway accepts a copy (R374): delivered in the fabric ledger, ACCEPTED in the link ledger, then copied. -/
def State.gatewayAccept (f : Flit) (s : State) : State :=
  let u := (s.ledger f.target 1 1).linkTerm f.target (fun t => { t with accepted := t.accepted + 1 })
  let u := if f.vn1 then u.giveBack (credKey 0 4 1) else u
  match s.keyDests f.pkt.key.toNat with
  | [] => (u.linkDropped f.target 1).exportDone true f
  | d :: t => (u.linkTerm f.target (fun x => { x with replicated := x.replicated + BitVec.ofNat 32 t.length })).gatewayCopies f (d :: t)

/-- The copies just granted to the gateway output are those after the exports already known. -/
def State.gatewayStep (before : Nat) (s : State) : State :=
  let new := s.fabric.exports.drop before
  (new.foldl (fun a e => a.gatewayAccept e.2.2)
    (s.onFabric (fun x => { x with exports := x.exports.take before }))).drainExports

/-- OUTPUT_GRANT (07 R237): an output grants one requesting flit; the gateway exports what it is granted (11 R374). -/
def execOutputGrant (r : Fin 256) (o : Dir) (s : State) : Host.Outcome State Fault Refusal :=
  .next (if s.beat.hardHalt then s
    else if s.isGateway r o then (s.grant r o).gatewayStep s.fabric.exports.length else s.grant r o)

/-! ### Frames received (11 R363 to R367) -/

/-- What the header of a good frame says: it is the last received, it acknowledges, it gives back credit, and it tells a
path to its sender (R363, R364). -/
def State.linkTaken (v : LinkVia) (s : State) : State :=
  let u := s.onClPort v.port (fun x => { x with
    lastGood := v.seq, sent := unacked v.ack x.sent,
    credits := tabMod 64 x.credits v.credClass (fun k => min 64 (k + v.credCount)) })
  if v.unassigned then u
  else u.onChoir (fun c => { c with paths := tabPut {} c.paths (v.port * 16 + v.src) { hops := v.hops, heard := s.beat.number } })

/-- Whether a message in parts is that of a segment: the same sender, TAG and kind of address (R367). -/
def Partial.meets (v : LinkVia) (q : Partial) : Bool := q.of v.src v.tag && decide (q.bcast = v.dst.isNone)

/-- Takes the message in parts of a segment off the state. -/
def State.partialsOff (v : LinkVia) (s : State) : State :=
  s.onChoir (fun c => { c with partials := c.partials.filter (fun q => !q.meets v) })

/-- Joins the segments of a message; it acts when the one with LAST arrives in order (R367). -/
def State.segmentIn (v : LinkVia) (segs : Nat) (act : State → State) (s : State) : State :=
  let old := s.choir.partials.find? (Partial.meets v)
  let t := s.partialsOff v
  let go := fun (since : Nat) (dead : Bool) (u : State) =>
    if v.seg + 1 = segs then (if dead then u else act u)
    else u.onChoir (fun c => { c with
      partials := c.partials ++ [{ src := v.src, bcast := v.dst.isNone, tag := v.tag, next := v.seg + 1, since := since, dead := dead }] })
  match old with
  | none => if v.seg = 0 then go s.now false t else go s.now true (t.count 0x8000 0x10 1)
  | some q =>
    if q.dead = false ∧ v.seg = q.next then go q.since false t
    else
      let u := if q.dead then t else t.count 0x8000 0x10 1
      if v.seg = 0 then go s.now false u else go q.since true u

/-- Whether a broadcast has come by the other port before: in a ring each comes by both (log 73). -/
def State.bcastOld (s : State) (v : LinkVia) : Bool :=
  let x := tabGet {} s.choir.bcasts v.src
  v.dst.isNone && !v.unassigned && x.any && decide (x.port ≠ v.port.val) && decide ((x.tag + 16 - v.tag.val) % 16 < 8)

/-- Whether a frame is for this package (R363, R364): HELLO and CREDIT are the neighbour's; of one without an ID, JOIN and
PING are the precentor's and PONG the joiner's; of a member's, broadcasts and those with the own ID. -/
def State.linkMine (s : State) (kind : Nat) (v : LinkVia) : Bool :=
  if kind = 1 ∨ kind = 0x0F then true
  else if v.unassigned then (if kind = 6 then decide (s.choir.role = .joining) else decide (s.choir.role = .precentor))
  else v.dst.isNone || (s.choirMember && decide (v.dst.map (fun d => d.val) = some s.choir.ownId))

/-- Whether a frame is the own broadcast that has come round a ring. -/
def State.linkOwn (s : State) (kind : Nat) (v : LinkVia) : Bool :=
  decide (kind ≠ 1) && decide (kind ≠ 0x0F) && !v.unassigned && s.choirMember && decide (v.src.val = s.choir.ownId)

/-- A frame goes on unchanged through the other port; where that is not up it is discarded, and its credit returns. -/
def State.passOn (f : LinkFrame) (p : Nat) (s : State) : State :=
  if s.clUp (1 - p) then s.enqueue (1 - p) [{ f with via := some p }] else s.owe p f.cls f.flits

/-- The frame that a command stands for. -/
def viaFrame (v : LinkVia) (kind cls field : Nat) (payload : List Byte) : LinkFrame :=
  { kind := kind, cls := cls, src := v.src, dst := (v.dst.map (fun d => d.val)).getD 0, flags := b2n v.dst.isNone + 2 * b2n v.unassigned,
    field := field, payload := payload }

/-- Notes a member's broadcast, so that the one that comes the other way round is known. -/
def State.bcastNote (v : LinkVia) (s : State) : State :=
  if v.dst.isNone ∧ v.unassigned = false then
    s.onChoir (fun c => { c with bcasts := tabPut {} c.bcasts v.src { port := v.port, tag := v.tag, any := true } })
  else s

/-- Delivers a frame; a package in reset or boot only forwards (17 R530). -/
def State.linkDeliver (v : LinkVia) (cls segs : Nat) (act : State → State) (s : State) : State :=
  if s.boot.st ≠ .running ∨ s.bcastOld v = true then s
  else if cls = 0 then (s.bcastNote v).segmentIn v segs act else act (s.bcastNote v)

/-- A frame in its order is taken: one for others, or a broadcast, goes on; another gives its credit back, but for CREDIT,
which uses none, and but for the slots of EVENTS, whose credit returns when they are done (R375). -/
def State.linkPassed (v : LinkVia) (f : LinkFrame) (s : State) : State :=
  let t := s.linkTaken v
  let on := !s.linkOwn f.kind v && decide (f.kind ≠ 1) && decide (f.kind ≠ 0x0F) && (!s.linkMine f.kind v || v.dst.isNone)
  if on then t.passOn f v.port else if f.kind = 0x0F then t else t.owe v.port f.cls (if f.kind = 8 then 1 else f.flits)

/-- Receives a frame: one out of its order is left to the replay; of the others, those for others and broadcasts go on,
those for this package act. -/
def State.linkFrame (v : LinkVia) (f : LinkFrame) (segs : Nat) (act : State → State) (s : State) : State :=
  if s.clUp v.port = false ∨ v.seq ≠ (s.clPort v.port).lastGood + 1 then s
  else
    let u := s.linkPassed v f
    let w := if s.linkMine f.kind v && !s.linkOwn f.kind v then u.linkDeliver v f.cls segs act else u
    w.linkRun.drainExports

/-- The frame of a segment of a CONTROL message. -/
def ctrlFrame (v : LinkVia) (kind : Nat) (msg : List Byte) : LinkFrame :=
  viaFrame v kind 0 (ctrlField v.tag v.seg (decide (v.seg + 1 = segCount msg.length))) (segment msg v.seg)

/-- Receives a segment of a CONTROL message; the message stands with each of its segments. -/
def State.linkIn (v : LinkVia) (kind : Nat) (msg : List Byte) (act : State → State) : State → State :=
  State.linkFrame v (ctrlFrame v kind msg) (segCount msg.length) act

/-- CREDIT (R365): link credits of a class return; what waited for them is sent. -/
def execCredit (v : LinkVia) (s : State) : Host.Outcome State Fault Refusal := .next (s.linkIn v 0x0F [] id)

/-- Takes a slot off the queue of imports; with the last one of its flit, the flit's credit returns (R375). -/
def State.importDone (e : Import) (s : State) : State :=
  let u := s.onChoir (fun c => { c with imports := dropFirst (fun x => decide (x = e)) c.imports })
  if u.choir.imports.any (fun x => decide (x.flit = e.flit)) then u
  else match e.port with
    | some p => u.owe p e.cls 1
    | none => u

/-- Discards the queue of imports. -/
def State.dropImports (s : State) : State := (s.choir.imports.foldl (fun a e => a.importDone e) s).linkRun

/-- Discards the gateway's packets of a stage of class c or lower (all for 4) and counts them as LINK_SHED (R376). -/
def State.purgeGateway (n c : Nat) (s : State) : State :=
  let p := fun (f : Flit) => decide (f.stage = n) && (decide (c = 4) || match f.cls with | some k => decide (k.val ≤ c) | none => false)
  let badOut := s.fabric.exports.filter (fun e => p e.2.2)
  let badIn := s.choir.imports.filter (fun e => p e.f)
  let u := s.onFabric (fun x => { x with exports := x.exports.filter (fun e => !p e.2.2) })
  let u := badOut.foldl (fun a e => (a.linkShedTerm e.2.2.target 1).exportDone e.2.1 e.2.2) u
  let u := (badIn.foldl (fun a e => (a.linkShedTerm e.f.target 1).importDone e) u).linkRun
  if badOut.isEmpty && badIn.isEmpty then u else u.shedVoice n

/-! ### Departures (11 R381, R382) -/

/-- Copies queued for an ID are DROPPED. -/
def State.dropExports (id : Nat) (s : State) : State :=
  let bad := s.fabric.exports.filter (fun e => decide (e.1 = id))
  bad.foldl (fun a e => ((a.linkDropped e.2.2.target 1).count 0x8000 0x11 1).exportDone e.2.1 e.2.2)
    (s.onFabric (fun x => { x with exports := x.exports.filter (fun e => decide (e.1 ≠ id)) }))

/-- A remote request whose home left ends: a load traps, a store is lost, a mover's piece stops. -/
def State.requestLost (r : RemoteReq) (s : State) : State :=
  match r.who with
  | .cantorLoad c => (s.accessError c 6 r.addr).emit (.trap c 5 r.addr)
  | .cantorStore _ => s
  | .moverRead m i _ => s.onDesc m i (fun d => { d with waiting := false })
  | .moverWrite m i => s.onDesc m i (fun d => { d with waiting := false })

/-- Pending fences of cantors that lost a store complete with PARTIAL (10 R349). -/
def State.fencesPartial (cs : List Nat) (s : State) : State :=
  let lost := fun (f : FenceWait) => f.system && cs.contains f.cantor
  (s.memu.fences.filter lost).foldl (fun u f => u.fenceEnd f 1)
    (s.onMem (fun m => { m with fences := m.fences.filter (fun f => !lost f) }))

/-- Started descriptors with SCOPE SYSTEM that touch a member end PARTIAL where they stand (R382, 10 R342). -/
def State.descsPartial (id : Nat) (s : State) : State :=
  let touch := fun (d : DescRun) => decide (d.scope = 2) && decide (d.result = 0) && !d.moveDone
    && ((!d.fill && decide (packageOf d.src = id)) || decide (packageOf d.dst = id))
  (List.range 16).foldl (fun a m => a.onMover m (fun x => { x with
    flight := x.flight.map (fun d => if touch d then { d with goal := d.moved, result := 5, kind := 0, waiting := false } else d) })) s

/-- The precentor answers a forwarded OAP request, with TARGET echoed (03 R117); the session keeps the response. -/
def State.viaRespond (f : Nat × Nat × BitVec 64 × BitVec 32 × Nat) (code : Nat) (data : List Byte) (s : State) : State :=
  let (host, type, token, seq, target) := f
  (s.oapAnswer host type token seq (some target) code data).onOap
    (fun o => { o with forwarded := o.forwarded.filter (fun g => decide (g ≠ f)) })

/-- Requests forwarded to a member that leaves are answered: a membership change is pending (03 R117). -/
def State.failForwards (id : Nat) (s : State) : State :=
  (s.oap.forwarded.filter (fun f => decide (f.2.2.2.2 = id))).foldl (fun a f => a.viaRespond f 0x0F000050 []) s

/-- A remote request that waits for a place, as a request. -/
def WaitTx.asReq : WaitTx → Option RemoteReq
  | .remote who _ addr len _ => some { tag := 0, who := who, addr := addr, len := len, dest := packageOf addr, sentAt := 0 }
  | .line _ _ => none

/-- What R382 does with the traffic of one member. -/
def State.cutOff (id : Nat) (s : State) : State :=
  let gone := s.memu.remote.filter (fun r => decide (r.dest = id)) ++ (s.memu.waitq.filterMap WaitTx.asReq).filter (fun r => decide (r.dest = id))
  let stores := gone.filterMap (fun r => match r.who with | .cantorStore c => some c | _ => none)
  let u := ((s.failForwards id).dropExports id).onMem (fun m => { m with
    remote := m.remote.filter (fun r => decide (r.dest ≠ id)),
    waitq := m.waitq.filter (fun w => !(w.asReq).any (fun r => decide (r.dest = id))) })
  ((((gone.foldl (fun a r => a.requestLost r) u).fencesPartial stores).fencesDone).descsPartial id).placeWaiting

/-- The IDs of the current members that have not departed, the own among them. -/
def State.liveMembers (s : State) : List Nat :=
  (List.range 16).filter (fun i => decide (tabGet 0 s.choir.serials i ≠ 0) && !s.choir.departed.any (fun d => decide (d.1 = i)))

/-- The membership as serials of IDs 0 to 15 and offsets. -/
def State.serialList (s : State) : List Nat := (List.range 16).map (fun i => tabGet 0 s.choir.serials i)
/-- The offsets. -/
def State.offsetList (s : State) : List Int := (List.range 16).map (fun i => tabGet 0 s.choir.offsets i)

/-- The membership that the pending change, or the present one, names, without the departed. -/
def State.nextSerials (s : State) : List Nat :=
  let l := match s.choir.change with
    | some c => c.serials
    | none => s.serialList
  l.zipIdx.map (fun e => if s.choir.departed.any (fun d => decide (d.1 = e.2)) then 0 else e.1)

/-- The number of the next era. -/
def State.nextEra (s : State) : Nat := s.beat.number / 256 + 1

/-- Broadcasts MEMBERSHIP; the era travels as the Choir numbers it. -/
def State.sendMembership (c : MemberChange) (s : State) : State :=
  s.linkTo 2 .all (memberBytes { generation := c.generation, era := s.choirEra c.era, serials := c.serials, offsets := c.offsets })

/-- The precentor announces a change for the next era boundary. -/
def State.announceChange (serials : List Nat) (offsets : List Int) (s : State) : State :=
  let g := match s.choir.change with
    | some c => c.generation + 1
    | none => s.choir.generation + 1
  let c : MemberChange := { generation := g % 2 ^ 32, era := s.nextEra, serials := serials, offsets := offsets }
  (s.onChoir (fun x => { x with change := some c })).sendMembership c

/-- The offsets the change under way names. -/
def State.nextOffsets (s : State) : List Int :=
  match s.choir.change with
  | some c => c.offsets
  | none => s.offsetList

/-- Whether the reachable follower with the lowest serial is this package. -/
def State.lowestLive (s : State) : Bool :=
  s.liveMembers.all (fun i => decide (Config.serial ≤ tabGet 0 s.choir.serials i))

/-- A follower enters HOLDOVER (R373). -/
def State.followerHoldover (s : State) : State :=
  if s.choir.beat = .following then
    (s.onBeat (fun b => { b with slewing := false, residual := none })).onChoir
      (fun c => { c with beat := .holdover, good := 0, holdStart := some s.now }) |>.raiseCond 0xFF10 1 0 []
  else s

/-- The precentor role passes to this package at once (R384); it stays in HOLDOVER, whatever the timer, until the change takes
effect. -/
def State.takeOver (s : State) : State :=
  let u := s.onChoir (fun c => { c with role := .precentor, precentor := c.ownId, joiners := [], reports := c.ownReport.toList, stale := [], switch := none,
                                        switchLast := none, holdStart := none,
                                        limit := s.force 0x2100 0xA, policyStop := decide (s.force 0x2100 0xB = 1) })
  let u := u.announceChange u.nextSerials u.nextOffsets
  (u.book 0xE602 0x1E 1 (leBytes 4 Config.serial ++ leBytes 4 (match u.choir.change with | some c => c.generation | none => 0))).announceAll

/-- The departure of a member (R381 to R384). -/
def State.departs (id cause : Nat) (s : State) : State :=
  let serial := tabGet 0 s.choir.serials id
  let wasPrec := decide (id = s.choir.precentor) && decide (s.choir.role = .follower)
  let u := s.onChoir (fun c => { c with
    departed := c.departed ++ [(id, s.now)], stale := c.stale.filter (fun x => decide (x.1 ≠ id)),
    partials := c.partials.filter (fun q => decide (q.src ≠ id)), bcasts := tabPut {} c.bcasts id {} })
  let u := ((u.emcyEvent 0xFF80 0x1E []).book 0xE601 0x1E 1 (leBytes 1 id ++ leBytes 4 serial ++ leBytes 1 cause)).count 0x8000 0xE 1
  let u := u.cutOff id
  if u.choir.role = .precentor then u.announceChange u.nextSerials u.nextOffsets
  else if wasPrec then
    let v := u.followerHoldover
    if v.lowestLive then v.takeOver
    else
      let low := v.liveMembers.foldl (fun b i => if tabGet 0 v.choir.serials i < tabGet 0 v.choir.serials b then i else b) v.choir.ownId
      (v.onChoir (fun c => { c with precentor := low, precSerial := tabGet 0 c.serials low })).book 0xE602 0x1E 1
        (leBytes 4 (tabGet 0 v.choir.serials low) ++ leBytes 4 (v.choir.generation + 1))
  else u

/-! ### HELLO and roles (11 R368, R369) -/

/-- Whether a HELLO shows a package this one can join. -/
def helloOk (h : HelloMsg) : Bool := decide (h.stepping = 0xB0) && h.units.getLsbD 4

/-- The kept package of two standalone ones becomes precentor with ID 0 and offset 0. -/
def State.formChoir (s : State) : State :=
  (s.onChoir (fun c => { c with role := .precentor, ownId := 0, precentor := 0, serials := tabPut 0 [] 0 Config.serial,
                                offsets := [], offset := 0, departed := [], change := none, joiners := [] })).announceAll

/-- What a follower served for its precentor's sessions ends with its membership (03 R117). -/
def State.dropForwarded (s : State) : State := s.onOap (fun o => { o with sessions := o.sessions.filter (fun x => x.via.isNone) })

/-- The package leaves its Choir and becomes JOINING (R368, R370). -/
def State.leaveFor (prec : Nat) (s : State) : State :=
  let u := if s.choirMember then s.otherMembers.foldl (fun a i => a.cutOff i) s else s
  let u := (if s.choir.beat ≠ .notFollowing then u.endHoldover else u).dropForwarded.dropImports
  State.announceAll <| u.onChoir (fun c => { c with
    role := .joining, ownId := 0, precentor := 0, serials := [], offsets := [], offset := 0, beat := .notFollowing, holdStart := none,
    departed := [], change := none, stale := [], joiners := [], reports := [], ownReport := none, granted := none,
    paths := [], bcasts := [], partials := [], unchecked := [], switchLast := none,
    good := 0, aligned := 0, joinOffset := none, joinDue := some s.now, precSerial := prec, switch := none, fabricHalted := false })

/-- Whether a neighbour's HELLO shows a member of the own Choir that has left it for another, so that the own Choir is the
one that dissolves (R368). -/
def State.dissolving (s : State) (h : HelloMsg) : Bool :=
  s.choirMember && decide (h.role = 3) && decide (h.precSerial ≠ s.precSerial)
  && (List.range 16).any (fun i => decide (i ≠ s.choir.ownId) && decide (tabGet 0 s.choir.serials i = h.serial) && decide (h.serial ≠ 0)
    && !s.choir.departed.any (fun d => decide (d.1 = i)))

/-- Two Choirs meet (R368). -/
def State.meet (h : HelloMsg) (s : State) : State :=
  if s.dissolving h then s.leaveFor h.precSerial
  else if h.role = 3 ∨ h.precSerial = s.precSerial then s
  else if s.choir.role = .joining then s.onChoir (fun c => { c with precSerial := h.precSerial })
  else if h.members < s.memberCount ∨ (h.members = s.memberCount ∧ s.precSerial < h.precSerial) then
    (if s.choir.role = .standalone then s.formChoir else s)
  else s.leaveFor h.precSerial

/-- What a HELLO does. -/
def State.takeHello (p : Nat) (h : HelloMsg) (s : State) : State :=
  let u := s.onClPort p (fun x => { x with neighbour := some h })
  if helloOk h then u.meet h else u

/-- HELLO. -/
def execHello (v : LinkVia) (h : HelloMsg) (s : State) : Host.Outcome State Fault Refusal :=
  .next (s.linkIn v 1 (helloBytes h) (State.takeHello v.port h))

/-- Every 100 ms: HELLO leaves each port that is up, and a neighbour that is ignored is counted (R365, R368). -/
def State.helloPort (p : Nat) (s : State) : State :=
  if s.clUp p = false then s
  else
    let u := s.sendHello p
    match (s.clPort p).neighbour with
    | some h => if helloOk h then u else u.count 0x8000 0x10 1
    | none => u

/-- HELLO_TIMER. -/
def execHelloTimer (s : State) : Host.Outcome State Fault Refusal := .next ((s.helloPort 0).helloPort 1)

end Sys2Proof.Machine
end

