-- ==== Sys2Proof/Machine/Choir.lean ====
section
/-! DEFINITION. Membership, the precentor's beat and the coordinated image switch (11_choir_link.md R369 to R373, R383 to
R387; 17 R530). -/

namespace Sys2Proof.Machine

/-! ### The precentor's beat at a follower or joiner (11 R370, R372, R373) -/

/-- The time of a BEAT frame: arrival less path delay, in whole µs (R372). -/
def State.frameTime (s : State) (b : BeatMsg) : Int := ((b.arrivalNs : Int) - (s.choir.pathDelay : Int)) / 1000

/-- When the own beat m starts: recorded, or predicted from the already fixed end of the beat in progress. -/
def State.startOf' (s : State) (p : Nat) (m : Int) : Int :=
  match s.beat.starts.find? (fun e => decide ((e.1 : Int) = m)) with
  | some e => e.2
  | none => ((s.beat.start + s.beat.length : Nat) : Int) + (m - (s.beat.number + 1 : Nat)) * p

/-- Residual of a BEAT frame for the own beat m: against the boundaries that the fixed end of the beat in progress
implies, modulo 256 beats (R66, R370). -/
def State.frameResidual (s : State) (p : Nat) (t m : Int) : Int :=
  nearest (t - ((s.beat.start + s.beat.length : Nat) : Int) - (m - (s.beat.number + 1 : Nat)) * p) (256 * p)

/-- The beat offset a joiner chooses (R370). -/
def State.chooseOffset (s : State) (p : Nat) (t : Int) (c : Nat) : Int :=
  let n1 : Int := (s.beat.number + 1 : Nat)
  let d := t - ((s.beat.start + s.beat.length : Nat) : Int)
  let j0 := ((c : Int) - n1) % 256
  let e0 := d - j0 * p
  let k := (e0 - nearest e0 (256 * p)) / (256 * p)
  (c : Int) - (n1 + j0 + 256 * k)

/-- What a measured frame asks of the flywheel (R66, R372). -/
def State.chase (p : Nat) (e r : Int) (s : State) : State :=
  (s.onBeat (fun b => { b with
    residual := some r, phaseError := r, tracked := p, adopt := if b.activePeriod = p then b.adopt else some p })).onChoir
    (fun c => { c with phaseError := e })

/-- Whether an error lies within the tolerance of the precentor's period. -/
def inTol (p : Nat) (e : Int) : Bool := decide (e.natAbs ≤ p / 50)

/-- What every BEAT frame distributes (R365, R373). -/
def State.takeFrame (b : BeatMsg) (s : State) : State :=
  s.onChoir (fun c => { c with
    period := b.period, limit := b.limit, policyStop := decide (b.policy = 1), beatSeenAt := s.beat.number })

/-- A joiner's frame: the offset is chosen once and reported, the flywheel slews toward e = 0, and the fourth frame in a
row at 0 is reported as aligned (R370). -/
def State.alignFrame (b : BeatMsg) (s : State) : State :=
  let t := s.frameTime b
  let o := s.choir.joinOffset.getD (s.chooseOffset b.period t b.beat)
  let m := (b.beat : Int) - o
  let e := nearest (t - s.startOf' b.period m) (256 * b.period)
  let u := (s.onChoir (fun c => { c with joinOffset := some o, aligned := if e = 0 then c.aligned + 1 else 0 })).chase b.period e
    (s.frameResidual b.period t m)
  let u := if s.choir.joinOffset.isNone then u.linkToPrec 7 (joinBytes Config.serial 1 e) else u
  if u.choir.aligned = 4 then u.linkToPrec 7 (joinBytes Config.serial 2 e) else u

/-- A follower relocks (R373). -/
def State.refollow (s : State) : State :=
  let u := (s.onChoir (fun c => { c with beat := .following, good := 0, holdStart := none })).endHoldover
  if s.choir.beat = .halted then u.wantIngest else u

/-- A follower's frame (R372, R373). -/
def State.followFrame (b : BeatMsg) (s : State) : State :=
  let t := s.frameTime b
  let m := (b.beat : Int) - s.choir.offset
  let e := nearest (t - s.startOf' b.period m) (256 * b.period)
  let r := s.frameResidual b.period t m
  let u := s.onChoir (fun c => { c with phaseError := e })
  if s.choir.beat = .following then (if inTol b.period e then u.chase b.period e r else u.followerHoldover)
  else if inTol b.period e then
    let u := u.onChoir (fun c => { c with good := c.good + 1 })
    if 4 ≤ u.choir.good then (u.refollow.onBeat (fun x => { x with slewing := true })).chase b.period e r else u
  else u.onChoir (fun c => { c with good := 0 })

/-- FABRIC_HALTED set or cleared by the precentor (R373): a halt acts at the boundary of the frame's beat, so that beat is
not ingested; the end of the halt resumes. -/
def State.fabricFlag (b : BeatMsg) (s : State) : State :=
  if b.halted = s.choir.fabricHalted then s
  else
    let u := s.onChoir (fun c => { c with fabricHalted := b.halted })
    if b.halted then
      let m := ((b.beat : Int) - s.choir.offset).toNat
      let v := (u.haltIngest).onBeat (fun x => { x with ingesting := false, ingestStop := none,
                                                        work := x.work.filter (fun w => decide (w.beat < m)) })
      if s.beat.work.any (fun w => decide (m ≤ w.beat)) then
        (v.purgeStage m 4).onFabric (fun f => { f with shedFrom := s.fabric.shedFrom })
      else v
    else if u.choir.beat = .halted then u else u.wantIngest

/-- LEDGER_FAIL: the verdict of the named beat takes the LEDGER flag (R378). -/
def State.ledgerFail (m : Nat) (s : State) : State :=
  s.onBeat (fun b => { b with work := b.work.map (fun w => if w.beat = m then { w with ledgerBad := true } else w) })

/-- What a BEAT frame does (R372, R373). -/
def State.takeBeat (b : BeatMsg) (u : State) : State :=
  if u.choir.role = .joining ∧ u.choir.beat = .aligning then (u.takeFrame b).alignFrame b
  else if u.choir.role = .follower then
    let v := ((u.takeFrame b).followFrame b).fabricFlag b
    if b.ledgerFail then v.ledgerFail ((b.failBeat : Int) - v.choir.offset).toNat else v
  else u.onChoir (fun c => { c with period := b.period })

/-- BEAT. -/
def execBeatFrame (v : LinkVia) (b : BeatMsg) (s : State) : Host.Outcome State Fault Refusal :=
  .next ((s.upTo (b.arrivalNs / 1000)).linkIn v 4 (beatBytes b) (State.takeBeat b))

/-- CHOIR_BEAT_TIMEOUT (R373): no frame in the own beat by its start + P/2. -/
def execChoirBeatTimeout (s : State) : Host.Outcome State Fault Refusal :=
  .next (if s.choir.role = .follower ∧ s.choir.beat = .following ∧ s.choir.beatSeenAt < s.beat.number then
    (s.upTo (s.beat.start + (s.beat.tracked + 1) / 2)).followerHoldover
    else s)

/-- When a follower's holdover timer reaches the distributed limit (R373). -/
def State.choirLimitAt (s : State) : Option Nat := s.choir.holdStart.map (fun t => t + 1000 * s.choir.limit)

/-- The limit of a follower's holdover (R373). -/
def State.choirLimit (s : State) : State :=
  let u := (s.onChoir (fun c => { c with beat := if c.policyStop then .halted else .freeRun, holdStart := none })).raiseCond
    0xFF11 1 0 []
  if s.choir.policyStop then u.haltIngest else u

/-- HOLDOVER_LIMIT_EXPIRY (02 R68, 11 R373): the tracker's transition is held until every edge stamped no later has
acted. -/
def execHoldoverLimitExpiry (s : State) : Host.Outcome State Fault Refusal :=
  .next (match s.limitAt, s.choirLimitAt with
    | some t, _ => (s.upTo (t + 2)).limitReached
    | none, some t => if s.choir.role = .follower ∧ s.choir.beat = .holdover then (s.upTo t).choirLimit else s
    | none, none => s)

/-- The precentor answers a PING with the time it took, which the spec leaves open. -/
def State.takePing (v : LinkVia) (time : BitVec 64) (s : State) : State :=
  if s.choir.role = .precentor then
    s.draw.linkTo 6 (if v.unassigned then .port v.port else .member v.src) (pongBytes time.toNat s.drawn)
  else s

/-- PING (R372). -/
def execPing (v : LinkVia) (time : BitVec 64) (s : State) : Host.Outcome State Fault Refusal :=
  .next (s.linkIn v 5 (leBytes 8 time.toNat) (State.takePing v time))

/-- D = (round trip - turnaround) / 2 (R372); the sender's time is in ns of its device time (log 73). -/
def State.takePong (time : BitVec 64) (turn : BitVec 32) (arrivalNs : Nat) (s : State) : State :=
  if s.choir.role = .follower ∨ s.choir.role = .joining then
    s.onChoir (fun c => { c with pathDelay := (arrivalNs - time.toNat - turn.toNat) / 2 })
  else s

/-- Sends PING to the precentor. -/
def State.sendPing (s : State) : State := s.linkToPrec 5 (leBytes 8 (1000 * s.now))

/-- PONG (R372). -/
def execPong (v : LinkVia) (time : BitVec 64) (turnNs : BitVec 32) (arrivalNs : Nat) (s : State) : Host.Outcome State Fault Refusal :=
  .next ((s.upTo (arrivalNs / 1000)).linkIn v 6 (pongBytes time.toNat turnNs.toNat) (State.takePong time turnNs arrivalNs))

/-! ### Joining and membership (11 R369 to R371, R383, R386) -/

/-- A freed ID may be named from the second era boundary after its departure took effect (R369). -/
def State.idFree (s : State) (i : Nat) : Bool :=
  decide (s.nextSerials.getD i 0 = 0) && !s.choir.departed.any (fun d => decide (d.1 = i))
  && (match tabGet 0 s.choir.freedAt i with
    | 0 => true
    | f + 1 => decide (f + 2 ≤ s.nextEra))

/-- The offset of a joiner in MEMBERSHIP: JOIN does not carry it, so it is a free multiple of 256 (log 30). -/
def State.joinerOffset (s : State) : Int := 256 * sext 56 s.drawn

/-- The precentor admits an aligned joiner (R370). -/
def State.admitMember (serial : Nat) (s : State) : State :=
  if s.nextSerials.contains serial then s
  else match (List.range 16).find? (fun i => s.idFree i) with
    | none => s
    | some i => s.draw.announceChange (setAt s.nextSerials i serial) (setAt s.nextOffsets i s.joinerOffset)

/-- What a JOIN does at the precentor (R370). -/
def State.takeJoin (serial state : Nat) (s : State) : State :=
  if s.choir.role = .precentor then
    let u := s.onChoir (fun c => { c with joiners := c.joiners.filter (fun j => decide (j.1 ≠ serial)) ++ [(serial, state)] })
    if state = 2 then u.admitMember serial else u
  else s

/-- JOIN. -/
def execJoin (v : LinkVia) (serial : BitVec 32) (state : Nat) (err : Int) (s : State) : Host.Outcome State Fault Refusal :=
  .next (s.linkIn v 7 (joinBytes serial.toNat state err) (State.takeJoin serial.toNat state))

/-- What a MEMBERSHIP does (R370, R386): the change is kept until the era boundary it names; a member that it no longer names
is treated as departed. -/
def State.takeMembership (m : MemberMsg) (s : State) : State :=
  if s.choir.role = .follower ∨ s.choir.role = .joining then
    let o := if s.choir.role = .joining then s.choir.joinOffset.getD 0 else s.choir.offset
    let c : MemberChange := { generation := m.generation, era := ((m.era : Int) - o / 256).toNat,
                              serials := (List.range 16).map (fun i => m.serials.getD i 0),
                              offsets := (List.range 16).map (fun i => m.offsets.getD i 0) }
    let gone := s.otherMembers.filter (fun i => decide (m.serials.getD i 0 = 0))
    gone.foldl (fun a i => if a.reachable i then a.departs i 2 else a) (s.onChoir (fun x => { x with change := some c }))
  else s

/-- MEMBERSHIP. -/
def execMembership (v : LinkVia) (m : MemberMsg) (s : State) : Host.Outcome State Fault Refusal :=
  .next (s.linkIn v 2 (memberBytes m) (State.takeMembership m))

/-- What a HEARTBEAT does (R386): in the first beat of an era a member that shows another generation is sent MEMBERSHIP
again; the mark stays until it shows the right one. -/
def State.takeHeartbeat (src generation beat : Nat) (s : State) : State :=
  if s.choir.role ≠ .precentor ∨ s.reachable src = false then s
  else if generation = s.choir.generation then
    s.onChoir (fun c => { c with stale := c.stale.filter (fun x => decide (x.1 ≠ src)) })
  else if beat % 256 ≠ 0 then s
  else (s.onChoir (fun c => { c with stale := c.stale.filter (fun x => decide (x.1 ≠ src)) ++ [(src, generation)] })).sendMembership
    { generation := s.choir.generation, era := s.beat.number / 256, serials := s.serialList, offsets := s.offsetList }

/-- HEARTBEAT. -/
def execMemberHeartbeat (v : LinkVia) (generation beat : Nat) (s : State) : Host.Outcome State Fault Refusal :=
  .next (s.linkIn v 3 (heartbeatBytes generation beat) (State.takeHeartbeat v.src generation beat))

/-- Position of a value in a list. -/
def idOf (l : List Nat) (v : Nat) : Option Nat := (findAt (fun x => decide (x = v)) l).map (fun r => r.1)

/-- The lowest serial of a membership. -/
def lowestSerial (l : List Nat) : Nat :=
  (l.filter (fun x => decide (x ≠ 0))).foldl (fun b x => if b = 0 ∨ x < b then x else b) 0

/-- Closes every OAP session, whose hosts find their tokens unknown (03 R110, 11 R370). -/
def State.closeSessions (s : State) : State := s.onOap (fun o => { o with sessions := [], frags := [], forwarded := [] })

/-- Records every member that a change admits; a joiner its own admission alone (R390). -/
def State.recordAdmitted (c : MemberChange) (s : State) : State :=
  (c.serials.zipIdx.filter (fun e => decide (e.1 ≠ 0) && decide (tabGet 0 s.choir.serials e.2 ≠ e.1)
      && (decide (s.choir.role ≠ .joining) || decide (e.1 = Config.serial)))).foldl
    (fun a e => a.book 0xE600 0x1E 0 (leBytes 1 e.2 ++ leBytes 4 e.1 ++ leBytes 4 c.generation)) s

/-- A package that the membership no longer names stands alone again (R386). -/
def State.standAlone (s : State) : State :=
  let u := s.otherMembers.foldl (fun a i => a.cutOff i) s
  (u.onChoir (fun c => { c with
    role := .standalone, ownId := 0, precentor := 0, serials := [], offsets := [], offset := 0, beat := .notFollowing, holdStart := none,
    departed := [], change := none, stale := [], joiners := [], reports := [], ownReport := none, granted := none,
    paths := [], bcasts := [], partials := [], unchecked := [], switchLast := none,
    fabricHalted := false, generation := 0 })).endHoldover.dropForwarded.dropImports.announceAll

/-- A joiner becomes a member (R370). -/
def State.admitted (s : State) : State :=
  (s.onChoir (fun c => { c with
    offset := c.joinOffset.getD 0, joinOffset := none, joinDue := none, beat := .following, good := 0, aligned := 0,
    beatSeenAt := s.beat.number })).closeSessions.wantIngest

/-- The beats whose voice stage has not ended and that a member leaving at this boundary has not reported, by the Choir's
numbers: LINK_LEDGER_CHECK leaves them out (R378). -/
def State.notReported (s : State) (ids : List Nat) : List Nat :=
  ((s.beat.work.filter (fun w => decide (w.voice = .waiting) || decide (w.voice = .running))).map
    (fun w => ((w.beat : Int) + s.choir.offset).toNat)).filter
      (fun b => ids.any (fun i => !s.choir.reports.any (fun r => decide (r.src = i) && decide (r.beat = b) && r.rank.isNone)))

/-- A membership change takes effect at the era boundary that has just started, for a package it names as ID i. -/
def State.takeEffect (c : MemberChange) (i : Nat) (s : State) : State :=
  let era := s.beat.number / 256
  let low := lowestSerial c.serials
  let wasJoining := decide (s.choir.role = .joining)
  let newRole := if low = Config.serial then Role.precentor else .follower
  let freed := (List.range 16).filter (fun k => decide (tabGet 0 s.choir.serials k ≠ 0) && decide (c.serials.getD k 0 = 0))
  let u := s.recordAdmitted c
  let u := if wasJoining = false ∧ low ≠ s.precSerial then u.book 0xE602 0x1E 1 (leBytes 4 low ++ leBytes 4 c.generation) else u
  let u := u.onChoir (fun x => { x with
    generation := c.generation, change := none, role := newRole, ownId := i,
    precentor := (idOf c.serials low).getD 0, precSerial := low,
    serials := (c.serials.zipIdx).foldl (fun t e => tabPut 0 t e.2 e.1) x.serials,
    offsets := (c.offsets.zipIdx).foldl (fun t e => tabPut 0 t e.2 e.1) x.offsets,
    freedAt := freed.foldl (fun t k => tabPut 0 t k (era + 1)) x.freedAt,
    unchecked := x.unchecked ++ s.notReported freed,
    reports := x.reports.filter (fun r => !freed.contains r.src),
    departed := x.departed.filter (fun d => decide (c.serials.getD d.1 0 ≠ 0)),
    joiners := x.joiners.filter (fun j => !c.serials.contains j.1) })
  let u := if wasJoining then u.admitted else u
  let u := if newRole = .follower ∧ s.choir.role = .precentor then
      u.onChoir (fun x => { x with beat := .following, good := 0, beatSeenAt := s.beat.number, reports := [], stale := [] })
    else u
  if newRole = s.choir.role then u else u.announceAll

/-- Whether a pending change takes effect at the era that has just started. -/
def State.changeDue (s : State) : Option MemberChange :=
  match s.choir.change with
  | none => none
  | some c => if c.era ≤ s.beat.number / 256 then some c else none

/-- MEMBERSHIP_EFFECT (R386). -/
def State.membershipEffect (s : State) : State :=
  match s.changeDue with
  | none => s
  | some c => match idOf c.serials Config.serial with
    | some i => s.takeEffect c i
    | none => if s.choir.role = .joining then s.onChoir (fun x => { x with change := none }) else s.standAlone

/-- MEMBER_EXPEL (R386): members that still differ at the era boundary are recorded and treated as departed. -/
def State.expelStale (s : State) : State :=
  if s.choir.role ≠ .precentor then s
  else s.choir.stale.foldl (fun a x =>
    ((a.book 0xE603 0x1E 2 (leBytes 1 x.1 ++ leBytes 4 (tabGet 0 a.choir.serials x.1) ++ leBytes 4 x.2)).departs x.1 1)) s

/-- A join begins at E0: ingest stops and the flywheel takes the precentor's period (R370). -/
def State.joinStart (s : State) : State :=
  match s.choir.joinDue with
  | none => s
  | some t =>
    if s.choir.role = .joining ∧ t < s.beat.start then
      ((s.onChoir (fun c => { c with joinDue := none, beat := .aligning, aligned := 0, joinOffset := none })).onBeat
        (fun b => { b with adopt := some s.choir.period, tracked := s.choir.period, ingesting := false, ingestStop := none,
                           ingestWanted := none, resuming := b.resuming || b.ingesting })).sendPing
    else s

/-- The source a package takes at an era boundary: a follower and an aligning joiner the Choir's, everyone else its own;
a precentor just admitted, or one whose takeover has not taken effect, keeps the Choir's for now (R370, R371, R384). -/
def State.sourceDue (keep : Bool) (s : State) : BeatSource :=
  let own := if s.force 0x2100 4 = 1 then BeatSource.syncIn else .internal
  match s.choir.role with
  | .follower => .choir
  | .joining => if s.choir.beat = .aligning then .choir else s.beat.source
  | .precentor => if s.choir.beat ≠ .notFollowing ∧ (keep || s.choir.change.isSome) = true then .choir else own
  | .standalone => own

/-- The effective source of a precentor becomes its own (R373, R384). -/
def State.leadAlone (s : State) : State :=
  if s.choir.role = .precentor ∧ s.choir.beat ≠ .notFollowing ∧ s.beat.source ≠ .choir then
    (s.onChoir (fun c => { c with beat := .notFollowing, holdStart := none, good := 0 })).endHoldover
  else s

/-- What an era boundary does to membership and source, in this order: expulsions, the effect of a change, a join's
start, the source. -/
def State.choirEraWork (s : State) : State :=
  let joining := decide (s.choir.role = .joining)
  let u := s.expelStale.membershipEffect.joinStart
  (u.sourceTo (u.sourceDue joining)).leadAlone

/-- The frames a member sends at every beat boundary (R365, R370, R372): HEARTBEAT; the precentor's BEAT; PING in the
first beat of an era. -/
def State.choirFrames (s : State) : State :=
  if s.choirMember = false then s
  else
    let n := ((s.beat.number : Int) + s.choir.offset).toNat
    let own := decide (s.choir.beat = .notFollowing)
    let u := s.linkTo 3 .all (heartbeatBytes s.choir.generation n)
    if s.choir.role = .precentor then
      (u.linkTo 4 .all (beatBytes
        { beat := n, period := s.beat.activePeriod, limit := if own then s.force 0x2100 0xA else s.choir.limit,
          policy := if own then s.force 0x2100 0xB else b2n s.choir.policyStop,
          halted := decide (s.beat.tracker = .halted) || decide (s.choir.beat = .halted),
          ledgerFail := s.choir.ledgerFailDue.isSome, holdover := decide (s.beat.tracker = .holdover) || !own,
          failBeat := s.choir.ledgerFailDue.getD 0, arrivalNs := 0 })).onChoir (fun c => { c with ledgerFailDue := none })
    else if s.beat.number % 256 = 0 then u.sendPing else u

/-! ### The coordinated switch (11 R387) -/

/-- A member answers a prepare: whether it would accept activate. -/
def State.switchAnswer (era : Nat) (s : State) : State :=
  if s.choir.role = .follower then s.linkToPrec 0x0E (switchBytes (if s.activateCode = 0 then 1 else 2) era s.activateCode) else s

/-- SWITCH_PREPARE. -/
def execSwitchPrepare (v : LinkVia) (era : Nat) (s : State) : Host.Outcome State Fault Refusal :=
  .next (s.linkIn v 0x0E (switchBytes 0 era 0) (State.switchAnswer era))

/-- The precentor cancels the switch and answers the write. -/
def State.switchCancel (code : Nat) (s : State) : State :=
  match s.choir.switch with
  | none => s
  | some j => ((s.onChoir (fun c => { c with switch := none })).linkTo 0x0E .all (switchBytes 4 j.era 0)).answerTo j.asker 0x2300 8 code

/-- Every member has accepted: commit. -/
def State.switchCommit (j : SwitchJob) (s : State) : State :=
  if s.activateCode ≠ 0 then s.switchCancel s.activateCode
  else (((s.onChoir (fun c => { c with switch := none, switchLast := some j.era })).linkTo 0x0E .all (switchBytes 3 j.era 0)).switchPend
    (some (s.ownEra j.era))).answerTo j.asker 0x2300 8 0

/-- The precentor counts an accept. -/
def State.switchAccepted (src era : Nat) (s : State) : State :=
  match s.choir.switch with
  | none => s
  | some j =>
    if s.choir.role = .precentor ∧ j.era = era then
      let j : SwitchJob := { j with accepted := if j.accepted.contains src then j.accepted else j.accepted ++ [src] }
      let u := s.onChoir (fun c => { c with switch := some j })
      if u.otherMembers.all (fun i => j.accepted.contains i) then u.switchCommit j else u
    else s

/-- SWITCH_ACCEPT. -/
def execSwitchAccept (v : LinkVia) (era : Nat) (s : State) : Host.Outcome State Fault Refusal :=
  .next (s.linkIn v 0x0E (switchBytes 1 era 0) (State.switchAccepted v.src era))

/-- A refusal cancels the switch; one that comes after the commit tells that the member's ACTIVATION failed, so the switch is
incomplete, which is recorded (R387; how a member tells is this model's, log 73). -/
def State.switchRefused (era status : Nat) (s : State) : State :=
  if s.choir.role ≠ .precentor then s
  else match s.choir.switch with
    | some j => if j.era = era then s.switchCancel status else s
    | none =>
      if s.choir.switchLast = some era then s.book 0xE602 0x1E 1 (leBytes 4 Config.serial ++ leBytes 4 s.choir.generation) else s

/-- SWITCH_REFUSE. -/
def execSwitchRefuse (v : LinkVia) (era : Nat) (status : BitVec 32) (s : State) : Host.Outcome State Fault Refusal :=
  .next (s.linkIn v 0x0E (switchBytes 2 era status.toNat) (State.switchRefused era status.toNat))

/-- A member takes a commit. -/
def State.switchTaken (era : Nat) (s : State) : State :=
  if s.choir.role = .follower ∧ s.validSlot.isSome = true ∧ s.nvm.pendingSwitch = none then s.switchPend (some (s.ownEra era)) else s

/-- SWITCH_COMMIT. -/
def execSwitchCommit (v : LinkVia) (era : Nat) (s : State) : Host.Outcome State Fault Refusal :=
  .next (s.linkIn v 0x0E (switchBytes 3 era 0) (State.switchTaken era))

/-- A member drops a switch. -/
def State.switchDropped (era : Nat) (s : State) : State :=
  if s.choir.role = .follower ∧ s.choir.switchEra = some (s.ownEra era) then
    (s.onNvm (fun n => { n with pendingSwitch := none })).onChoir (fun c => { c with switchEra := none })
  else s

/-- SWITCH_CANCEL. -/
def execSwitchCancel (v : LinkVia) (era : Nat) (s : State) : Host.Outcome State Fault Refusal :=
  .next (s.linkIn v 0x0E (switchBytes 4 era 0) (State.switchDropped era))

/-- SWITCH_ACCEPT_TIMEOUT. -/
def execSwitchAcceptTimeout (s : State) : Host.Outcome State Fault Refusal := .next (s.switchCancel 0x08000020)

/-! ### A member's reset (17 R530) -/

/-- GO of CHOIR_RESET_REQUEST. -/
def State.resetRequestTo (id : Nat) (s : State) : State :=
  if s.choir.role = .precentor ∧ s.reachable id = true then
    s.linkTo 0x0D (.member id) (resetBytes (tabGet 0 s.choir.serials id))
  else s.onChoir (fun c => { c with resetRefused := true })

/-- CHOIR_RESET_REQUEST. -/
def execChoirResetRequest (id : Fin 16) (s : State) : Host.Outcome State Fault Refusal := .next (s.resetRequestTo id)

end Sys2Proof.Machine
end

