-- ==== Sys2Proof/Machine/Gateway.lean ====
section
/-! DEFINITION. Events imported from other members, barriers and stage ends that span the Choir, the link ledger, and
remote memory (11_choir_link.md R366, R367, R375 to R382). -/

namespace Sys2Proof.Machine

/-! ### The stage in progress (06 R193, R197) -/

/-- The beat whose voice stage runs. -/
def State.voiceRunning (s : State) : Option BeatWork := s.beat.work.find? (fun w => decide (w.voice = .running))

/-- The oldest beat whose stave entries are not consumed (06 R193): the beat of the voice stage in progress, or the one
whose stage comes next. -/
def State.oldestBeat (s : State) : Nat :=
  match s.beat.work.find? (fun w => decide (w.voice = .running) || decide (w.voice = .waiting)) with
  | some w => w.beat
  | none => s.beat.number

/-- The beat from the oldest on, up to 15 later, with four given low bits (06 R193). -/
def State.beatOfTag (s : State) (tag : Nat) : Nat := s.oldestBeat + (tag + 16 - s.oldestBeat % 16) % 16

/-- Whether a flit was sent during the stage of beat n: SPIKE packets. -/
def Flit.spikeOf (n : Nat) (f : Flit) : Bool := decide (f.pkt.type = 1) && decide (f.stage = n)

/-- Whether rank r of beat n is quiet: nothing waits to be sent, no DELAY 0 SPIKE of it is in flight, and the gateway holds
nothing of it for export (06 R197, 11 R377). -/
def State.rankQuiet (s : State) (n r : Nat) : Bool :=
  s.fabric.cores.all (fun e => e.2.outbox.all (fun f => !f.spikeOf n))
  && !s.inFlight (fun f => f.spikeOf n && decide (f.pkt.delay = 0) && decide (f.rank = r))
  && s.fabric.exports.all (fun e => !(e.2.2.spikeOf n && decide (e.2.2.rank = r)))
  && s.choir.imports.all (fun e => !(e.f.spikeOf n && decide (e.f.pkt.delay = 0)))

/-- Whether the whole stage of beat n is quiet. -/
def State.stageQuiet (s : State) (n : Nat) : Bool :=
  !s.inFlight (fun f => f.spikeOf n) && s.fabric.exports.all (fun e => !e.2.2.spikeOf n)
  && s.choir.imports.all (fun e => !e.f.spikeOf n)

/-! ### Reports (11 R367, R377, R378) -/

/-- The number the Choir gives an own beat. -/
def State.choirBeatNo (s : State) (n : Nat) : Nat := ((n : Int) + s.choir.offset).toNat

/-- The number this package gives a beat of the Choir. -/
def State.ownBeatNo (s : State) (n : Nat) : Nat := ((n : Int) - s.choir.offset).toNat

/-- Packets exported to and imported from each other member. -/
def State.linkCounts (s : State) : List (Nat × Nat × Nat) :=
  s.otherMembers.map (fun i => (i, tabGet 0 s.choir.exported i, tabGet 0 s.choir.imported i))

/-- The own report for a rank (none: the stage end) of beat n. -/
def State.ownReportOf (s : State) (n : Nat) (rank : Option Nat) : Report :=
  { src := s.choir.ownId, beat := s.choirBeatNo n, rank := rank, counts := s.linkCounts, terms := tabGet {} s.choir.ledger (n % 16) }

/-- Whether two reports name the same barrier or stage end. -/
def Report.same (a b : Report) : Bool := decide (a.beat = b.beat) && decide (a.rank = b.rank)

/-- Packets a report names for another member: exported, imported. -/
def Report.pair (r : Report) (i : Nat) : Nat × Nat :=
  match r.counts.find? (fun c => decide (c.1 = i)) with
  | some c => c.2
  | none => (0, 0)

/-- Whether exports equal imports for every pair of reports; an import count includes the copies its receiver discarded. -/
def balanced (l : List Report) : Bool := l.all (fun a => l.all (fun b => decide (a.src = b.src) || decide ((a.pair b.src).1 = (b.pair a.src).2)))

/-- The sum of the link ledger over reports: ACCEPTED + REPLICATED against IMPORTED + LINK_SHED + DROPPED (R378). -/
def linkSums (l : List Report) : BitVec 32 × BitVec 32 :=
  l.foldl (fun a r => (a.1 + r.terms.accepted + r.terms.replicated, a.2 + r.terms.imported + r.terms.linkShed + r.terms.dropped)) (0, 0)

/-- KIND of a report. -/
def Report.kind (r : Report) : Nat := if r.rank.isSome then 0x0B else 0x0C

/-- The payload of a report or broadcast. -/
def Report.bytes (r : Report) : List Byte :=
  match r.rank with
  | some k => barrierBytes r.beat k r.counts
  | none => stageEndBytes r.beat r.terms r.counts

/-- LINK_LEDGER_CHECK (R378): not made when a member departed before it reported. -/
def State.linkCheck (key : Report) (l : List Report) (s : State) : State :=
  if s.choir.departed.any (fun d => !l.any (fun r => decide (r.src = d.1))) = true ∨ key.beat ∈ s.choir.unchecked then
    s.onChoir (fun c => { c with unchecked := c.unchecked.filter (fun b => decide (b ≠ key.beat)) })
  else if (linkSums l).1 = (linkSums l).2 then s
  else
    (((s.emcyEvent 0xFF20 0x1E (leBytes 6 key.beat)).count 0x8000 0x13 1).onChoir (fun c => { c with ledgerFailDue := some key.beat })).ledgerFail
      (s.ownBeatNo key.beat)

/-- The precentor opens the barrier or ends the stage once every current member has reported and the counts balance. -/
def State.checkReports (s : State) : State :=
  match s.choir.ownReport with
  | none => s
  | some k =>
    let l := s.choir.reports.filter (fun r => r.same k)
    if s.choir.role = .precentor ∧ s.liveMembers.all (fun i => l.any (fun r => decide (r.src = i))) = true
        ∧ balanced (l.filter (fun r => s.liveMembers.contains r.src)) = true then
      let u := (s.onChoir (fun c => { c with granted := some (k.beat, k.rank), ownReport := none, reports := c.reports.filter (fun r => !r.same k) })).linkTo
        k.kind .all k.bytes
      if k.rank.isNone then u.linkCheck k l else u
    else s

/-- A report reaches the precentor; a repeated one replaces the earlier. -/
def State.takeReport (r : Report) (s : State) : State :=
  (s.onChoir (fun c => { c with reports := c.reports.filter (fun x => !(decide (x.src = r.src) && x.same r)) ++ [r] })).checkReports

/-- Reports that this package is ready: to itself as precentor, else over the link. -/
def State.sendReport (n : Nat) (rank : Option Nat) (s : State) : State :=
  let r := s.ownReportOf n rank
  let u := s.onChoir (fun c => { c with ownReport := some r })
  if s.choir.role = .precentor then u.takeReport r else u.linkToPrec r.kind r.bytes

/-- Whether a rank or stage end of beat n needs no other package, or is granted. -/
def State.isGranted (s : State) (n : Nat) (rank : Option Nat) : Bool :=
  s.choirMember = false || s.otherMembers.isEmpty || decide (s.choir.granted = some (s.choirBeatNo n, rank))

/-- A broadcast: the barrier is open, or the stage ended. -/
def State.takeGrant (beat : Nat) (rank : Option Nat) (s : State) : State :=
  s.onChoir (fun c => { c with
    granted := some (beat, rank),
    ownReport := match c.ownReport with
      | some r => if r.beat = beat ∧ r.rank = rank then none else some r
      | none => none })

/-- A report at the precentor, or its broadcast at a follower (R377). -/
def State.takeStage (v : LinkVia) (r : Report) (s : State) : State :=
  if v.dst.isNone then (if s.choir.role = .follower then s.takeGrant r.beat r.rank else s)
  else if s.choir.role = .precentor ∧ s.reachable v.src = true then s.takeReport r
  else s

/-- BARRIER. -/
def execBarrier (v : LinkVia) (beat rank : Nat) (counts : List (Nat × Nat × Nat)) (s : State) : Host.Outcome State Fault Refusal :=
  .next (s.linkIn v 0x0B (barrierBytes beat rank counts)
    (State.takeStage v { src := v.src, beat := beat, rank := some rank, counts := counts, terms := {} }))

/-- STAGE_END. -/
def execStageEnd (v : LinkVia) (beat : Nat) (terms : LinkTerms) (counts : List (Nat × Nat × Nat)) (s : State) :
    Host.Outcome State Fault Refusal :=
  .next (s.linkIn v 0x0C (stageEndBytes beat terms counts)
    (State.takeStage v { src := v.src, beat := beat, rank := none, counts := counts, terms := terms }))

/-- REPORT_REPEAT (R367): the report that awaits its broadcast is sent again, with the counts as they stand once the
package is quiet again. -/
def execReportRepeat (s : State) : Host.Outcome State Fault Refusal :=
  .next (match s.choir.ownReport with
    | none => s
    | some r =>
      let n := s.ownBeatNo r.beat
      let quiet := match r.rank with
        | some k => s.rankQuiet n k
        | none => s.stageQuiet n
      if quiet then s.sendReport n r.rank
      else if s.choir.role = .precentor then s.checkReports
      else s.linkToPrec r.kind r.bytes)

/-- MEMBER_UNREACHABLE (R381): no barrier or stage end waits for the member any more. -/
def execMemberUnreachable (id : Fin 16) (s : State) : Host.Outcome State Fault Refusal :=
  .next (if s.reachable id then (s.departs id 1).checkReports else s)

/-- HEARTBEAT_MISSED_DEPARTURE (R381). -/
def execHeartbeatMissedDeparture (id : Fin 16) (s : State) : Host.Outcome State Fault Refusal :=
  .next (if s.reachable id then (s.departs id 2).checkReports else s)

/-! ### Imports (11 R366, R375) -/

/-- The flit of an EVENTS slot: its beat from BEATTAG, its target from DELAY; the slot's class is kept until import. -/
def State.importFlit (s : State) (vn1 : Bool) (p : Packet) : Flit :=
  let b := s.beatOfTag p.tag.toNat
  { pkt := p, target := b + p.delay.toNat, stage := b, rank := (s.voiceRunning.map (fun w => w.rank)).getD 0, vn1 := vn1 }

/-- One slot of a flit of an EVENTS frame. -/
def State.takeSlot (v : LinkVia) (cls flit : Nat) (vn1 : Bool) (p : Packet) (s : State) : State :=
  let f := s.importFlit vn1 p
  let counted := s.onChoir (fun c => { c with imported := tabMod 0 c.imported v.src (· + 1) })
  if p.type = 4 then s
  else if p.type = 5 ∨ p.type = 6 ∨ p.type = 7 then counted.linkDropped f.target 1
  else if s.flitShed f then (counted.linkShedTerm f.target 1).shedVoice f.stage
  else counted.onChoir (fun c => { c with imports := c.imports ++ [{ f := f, port := some v.port.val, cls := cls, flit := flit }] })

/-- One flit, two slots; a flit none of whose slots waits gives its credit back at once. -/
def State.takeFlit (v : LinkVia) (cls : Nat) (slots : List (Bool × Packet)) (s : State) : State :=
  let no := s.choir.flitNo
  let u := slots.foldl (fun a e => a.takeSlot v cls no e.1 e.2) (s.onChoir (fun c => { c with flitNo := no + 1 }))
  if u.choir.imports.any (fun e => decide (e.flit = no)) then u else u.owe v.port cls 1

/-- The flits of an EVENTS frame; those of a package that is no member any more are discarded. -/
def State.takeFlits (v : LinkVia) (cls : Nat) : List (Bool × Packet) → State → State
  | [], s => s
  | [a], s => if s.reachable v.src then s.takeFlit v cls [a] else s.owe v.port cls 1
  | a :: b :: t, s => (if s.reachable v.src then s.takeFlit v cls [a, b] else s.owe v.port cls 1).takeFlits v cls t

/-- EVENTS, of class EVENT_VN1 or EVENT_VN0. -/
def execEvents (v : LinkVia) (vn1 : Bool) (slots : List (Bool × Packet)) (s : State) : Host.Outcome State Fault Refusal :=
  let cls := if vn1 then 2 else 1
  .next (s.linkFrame v (viaFrame v 8 cls (eventsField slots) (eventsBytes slots)) 1 (State.takeFlits v cls slots))

/-- GATEWAY_IMPORT (R375): the oldest copy enters the W input of router (0, 0) as a VN0 packet with HOPS 0; its link credit
returns with its flit. -/
def execGatewayImport (s : State) : Host.Outcome State Fault Refusal :=
  .next (
    match s.choir.imports with
    | [] => s
    | e :: _ =>
      if s.credit (credKey 0 7 0) = 0 ∨ s.coreUp 0 = false ∨ s.beat.hardHalt = true then s
      else
        let v := (s.importDone e).linkTerm e.f.target (fun x => { x with imported := x.imported + 1 })
        ((((v.ledger e.f.target 0 1).useCredit (credKey 0 7 0)).sendTo 0 .w { e.f with vn1 := false, hops := 0, cls := none })).linkRun)

/-! ### Remote memory (11 R379, R380) -/

/-- The status of a MEM_RSP: 0, the kind of an access error, or 0x10 for an uncorrectable error (log 31). -/
def NcFail.status : NcFail → Nat
  | .kind k _ => k
  | .ecc _ => 0x10

/-- The payload of a MEM_RSP. -/
def rspBytes (tag : Nat) (wr : Bool) (addr status : Nat) (data : List Byte) : List Byte :=
  if status = 0 then memBytes tag (b2n wr) data.length addr data else memBytes tag 2 1 addr (leBytes 1 status)

/-- Answers a MEM_REQ; the response to a departed member is discarded (R382). -/
def State.memRespond (src tag : Nat) (wr : Bool) (addr status : Nat) (data : List Byte) (s : State) : State :=
  if s.reachable src then s.linkData 0x0A 4 src 0 (rspBytes tag wr addr status data) else s

/-- What a MEM_REQ does at its home (R379): performed as SOURCE 0x30; an error is captured here under that source
(01 R31, R33) and reported at the requester. -/
def State.takeMemReq (src tag : Nat) (wr : Bool) (addr len : Nat) (data : List Byte) (s : State) : State :=
  let a := offsetOf addr
  let rsp := fun (status : Nat) (l : List Byte) (u : State) => u.memRespond src tag wr addr status l
  if s.choirMember = false ∨ s.isLocal addr = false then s
  else if wr then
    match s.rangeKind .remote true a data.length with
    | some (k, b) => rsp k [] (s.ncFailed 0x30 s.choir.ownId (.kind k b))
    | none => rsp 0 [] (s.ncWrite a data)
  else match s.ncReadFail .remote a len with
    | some f => rsp f.status [] (s.ncFailed 0x30 s.choir.ownId f)
    | none => rsp 0 (s.bytesAt a len) s

/-- MEM_REQ. -/
def execMemReq (v : LinkVia) (tag : Nat) (wr : Bool) (addr : Addr) (len : Nat) (data : List Byte) (s : State) :
    Host.Outcome State Fault Refusal :=
  .next (s.linkFrame v (viaFrame v 9 3 0 (memBytes tag (b2n wr) len addr.toNat data)) 1
    (State.takeMemReq v.src tag wr addr.toNat len data))

/-- A remote request ends with an error: a cantor traps, a mover's descriptor stops; a status of 0x10 is an uncorrectable
error, which its home has recorded. -/
def State.requestFailed (r : RemoteReq) (status : Nat) (s : State) : State :=
  let err := fun (src : Nat) (u : State) => if status < 0x10 then u.accessError src status r.addr else u
  let stop := fun (m i goal : Nat) (u : State) => if status < 0x10 then u.descFail m i goal 2 status else u.descFail m i goal 6 0
  match r.who with
  | .cantorLoad c => (err c s).emit (.trap c 5 r.addr)
  | .cantorStore c => (err c s).emit (.trap c 7 r.addr)
  | .moverRead m i _ => stop m i ((s.desc m i).map (fun d => d.got.length) |>.getD 0) (err (moverSrc m) s)
  | .moverWrite m i => stop m i ((s.desc m i).map (fun d => d.moved) |>.getD 0) (err (moverSrc m) s)

/-- A remote request is served. -/
def State.requestServed (r : RemoteReq) (data : List Byte) (s : State) : State :=
  match r.who with
  | .cantorLoad c => s.emit (.read c (leNum (slice data 0 r.len)))
  | .cantorStore _ => s
  | .moverRead m i _ => s.onDesc m i (fun d => { d with got := d.got ++ slice data 0 r.len, waiting := false })
  | .moverWrite m i => s.onDesc m i (fun d => { d with moved := d.moved + r.len, waiting := false })

/-- A descriptor goes on with its next line; in ABORTING it stops after the line in progress (10 R341). -/
def State.runOn (m i : Nat) (s : State) : State :=
  if (s.mover m).st = .aborting then s else s.runDesc maxPieces m i

/-- What goes on after a request has ended: its mover's descriptor, or the fences that waited. -/
def State.requestNext (r : RemoteReq) (s : State) : State :=
  match r.who with
  | .cantorLoad _ => s.fencesDone
  | .cantorStore _ => s.fencesDone
  | .moverRead m i _ => s.runOn m i
  | .moverWrite m i => s.runOn m i

/-- Takes a request off the list; its place is free. -/
def State.takeRequest (tag : Nat) (s : State) : Option (RemoteReq × State) :=
  (s.memu.remote.find? (fun r => decide (r.tag = tag))).map (fun r =>
    (r, (s.onMem (fun m => { m with remote := dropFirst (fun x => decide (x.tag = tag)) m.remote })).placeWaiting))

/-- What a MEM_RSP does: one that comes after its request has ended is discarded (R380). -/
def State.takeMemRsp (tag status : Nat) (data : List Byte) (s : State) : State :=
  match s.takeRequest tag with
  | none => s
  | some (r, u) => (if status = 0 then u.requestServed r data else u.requestFailed r status).requestNext r

/-- MEM_RSP. -/
def execMemRsp (v : LinkVia) (tag : Nat) (wr : Bool) (addr : Addr) (status : Nat) (data : List Byte) (s : State) :
    Host.Outcome State Fault Refusal :=
  .next (s.linkFrame v (viaFrame v 0x0A 4 0 (rspBytes tag wr addr.toNat status data)) 1 (State.takeMemRsp tag status data))

/-- REMOTE_REQUEST_TIMEOUT (R380, R390): 10 ms after the request. -/
def execRemoteRequestTimeout (tag : Nat) (s : State) : Host.Outcome State Fault Refusal :=
  .next (match s.takeRequest tag with
    | none => s
    | some (r, u) =>
      (((u.upTo (r.sentAt + 10000)).requestFailed r 6).book 0xE604 0x1E 1 (leBytes 1 r.dest ++ leBytes 6 (offsetOf r.addr))).requestNext r)

end Sys2Proof.Machine
end

