-- ==== Sys2Proof/Machine/Stage.lean ====
section
/-! DEFINITION. The stages of a beat: the close of its ingest window, the voice stage with its barriers, end, deadline and
shedding, the start of the press stage, and the start of ingest (02_the_beat.md R52 to R59, R70; 03 R83; 06 R195 to
R199; 07 R241 to R245; 08 R269). -/

namespace Sys2Proof.Machine

/-! ### The ingest window (02 R53) -/

/-- The grace: the smaller of INGEST_GRACE and an eighth of the period, both as they stand when the window closes
(log 62). -/
def State.grace (s : State) : Nat := min (s.force 0x2100 0x19) (s.beat.activePeriod / 8)

/-- The window of beat n closes: hot pixels, event regions (05 R179, 12 R397), and the voice stage may begin. -/
def State.closeWindow (n : Nat) (s : State) : State :=
  let u := (List.range s.portCount).foldl (fun a p => a.hotUpdate p n) s
  let u := (List.range 16).foldl (fun a r => a.regionDecide r n (a.startOf n)) u
  (u.onWork n (fun w => { w with closed := true })).onBeat (fun b => { b with closing := n + 1 })

/-- Every port decodes what it has had time for. -/
def State.portsDrain (s : State) : State := (List.range s.portCount).foldl (fun a p => a.portDrain p) s

/-- INGEST_WINDOW_CLOSE: the window of the oldest beat that is past, at start(N+1) plus the grace; what the ports decoded
by then is in it. -/
def execIngestWindowClose (s : State) : Host.Outcome State Fault Refusal :=
  .next (if s.beat.closing < s.beat.number then
    ((s.upTo (s.startOf (s.beat.closing + 1) + s.grace)).portsDrain).closeWindow s.beat.closing else s)

/-! ### The voice stage (06 R195, R197) -/

/-- The oldest beat whose voice stage has not ended. -/
def State.voiceFront (s : State) : Option BeatWork := s.beat.work.find? (fun w => decide (w.voice = .waiting) || decide (w.voice = .running))

/-- Whether every INGEST packet of beat n is resolved (07 R231). -/
def State.ingestDrained (s : State) (n : Nat) : Bool :=
  let p := fun (f : Flit) => decide (f.pkt.type = 0) && decide (f.target = n)
  !s.inFlight p && s.fabric.exports.all (fun e => !p e.2.2) && s.choir.imports.all (fun e => !p e.f)
  && (List.range 6).all (fun k => (s.port k).injq.all (fun e => decide (e.beat ≠ n)))

/-- VOICE_STAGE_START: rank 0 of the oldest beat whose window has closed. -/
def execVoiceStageStart (s : State) : Host.Outcome State Fault Refusal :=
  .next (match s.voiceFront with
    | none => s
    | some w =>
      if w.voice = .waiting ∧ w.closed = true ∧ s.ingestDrained w.beat = true ∧ s.beat.hardHalt = false then
        ((s.onWork w.beat (fun x => { x with voice := .running, rank := 0 })).onFabric (fun f => { f with fires := 0 })).evalRank w.beat 0
      else s)

/-- Rank r of beat n begins. -/
def State.openRank (n r : Nat) (s : State) : State := (s.onWork n (fun w => { w with rank := r })).evalRank n r

/-- What a barrier or stage end of beat n does once this package is ready for it: at once if it is granted, else the
report is sent, and done if that grants it (11 R377). -/
def State.whenGranted (n : Nat) (rank : Option Nat) (f : State → State) (s : State) : State :=
  if s.isGranted n rank then f s
  else if s.choir.ownReport.isSome then s
  else
    let u := s.sendReport n rank
    if u.isGranted n rank then f u else u

/-- RANK_BARRIER_OPEN. -/
def execRankBarrierOpen (s : State) : Host.Outcome State Fault Refusal :=
  .next (match s.voiceRunning with
    | none => s
    | some w =>
      if w.rank + 1 < s.fabric.rankCount ∧ s.rankQuiet w.beat w.rank = true ∧ s.beat.hardHalt = false then
        s.whenGranted w.beat (some w.rank) (State.openRank w.beat (w.rank + 1))
      else s)

/-! ### The end of the voice stage (07 R244, R245; 08 R274; 06 R191, R220) -/

/-- A term of the ledger set of beat n. -/
def State.ledgerOf (s : State) (n term : Nat) : Nat := (tabGet 0 s.fabric.ledger (n % 16 * 4 + term)).toNat

/-- Adds to one of the four 64-bit totals. -/
def State.addTotal (sub n : Nat) (s : State) : State := s.setEnt 0x4200 sub (satAdd (2 ^ 64 - 1) (s.ent 0x4200 sub) n)

/-- The ledger check of beat n (R244, R245). -/
def State.ledgerCheck (n : Nat) (s : State) : State :=
  let inj := s.ledgerOf n 0
  let del := s.ledgerOf n 1
  let shd := s.ledgerOf n 2
  let unr := s.ledgerOf n 3
  let u := ((((s.setEnt 0x4200 6 n).addTotal 1 inj).addTotal 2 del).addTotal 3 shd).addTotal 4 unr
  let u := u.onFabric (fun f => { f with ledger := tabDrop f.ledger (fun k => decide (k / 4 = n % 16)) })
  if inj = (del + shd + unr) % 2 ^ 32 then u
  else
    ((u.emcyEvent 0xFF20 0x20 (leBytes 6 n ++ leBytes 4 inj ++ leBytes 4 del ++ leBytes 4 shd ++ leBytes 4 unr)).count
      0x4200 5 1).onWork n (fun w => { w with ledgerBad := true })

/-- The counts of the stage that has ended (06 R220). -/
def Fabric.stageCounts (n : Nat) (f : Fabric) : Fabric :=
  { f with
    lastStage := n, lastUpdates := tabGet 0 f.updates (n % 16), lastFires := f.fires,
    updates := tabPut 0 f.updates (n % 16) 0, fires := 0, shedFrom := none }

/-- The link terms and counts of the stage that has ended are cleared (11 R377, R378). -/
def Choir.stageCleared (n : Nat) (c : Choir) : Choir :=
  { c with exported := [], imported := [], ledger := tabPut {} c.ledger (n % 16) {}, ownReport := none }

/-- The voice stage of the beat of w ends, done or shed: staves left over are cleared, the capture is made, the ledger
checked, and the cores stop after the last ingested beat. -/
def State.voiceEnd (w : BeatWork) (st : StageSt) (s : State) : State :=
  let n := w.beat
  let shed := ((s.workOf n).map (fun x => x.voiceShed)).getD false
  let u := (s.clearAllStaves n).captureAll n shed
  let u := (u.ledgerCheck n).onWork n (fun x => { x with voice := st })
  let u := (u.onFabric (Fabric.stageCounts n)).onChoir (Choir.stageCleared n)
  let u := u.onBeat (fun b => { b with voiceMet := if w.voiceLate || shed then 0 else min 31 (b.voiceMet + 1) })
  let u := if u.beat.ingesting || u.beat.work.any (fun x => decide (n < x.beat)) then u else u.coresStop
  u.startPress

/-- VOICE_STAGE_END. -/
def execVoiceStageEnd (s : State) : Host.Outcome State Fault Refusal :=
  .next (match s.voiceRunning with
    | none => s
    | some w =>
      if s.fabric.rankCount ≤ w.rank + 1 ∧ s.rankQuiet w.beat w.rank = true ∧ s.stageQuiet w.beat = true
          ∧ s.beat.hardHalt = false then
        s.whenGranted w.beat none (State.voiceEnd w .done)
      else s)

/-! ### Deadlines, shedding and the return to HOLD (02 R57, R58; 07 R241) -/

/-- The voice stage of the beat of w is shed: every packet of it, and every slot not evaluated (06 R198). -/
def State.voiceShedAll (w : BeatWork) (s : State) : State :=
  (((s.shedVoice w.beat).purgeStage w.beat 4).purgeGateway w.beat 4).voiceEnd w .shed

/-- VOICE_STAGE_DEADLINE: under HOLD the stage goes on, under SHED its remaining work is shed. -/
def execVoiceStageDeadline (s : State) : Host.Outcome State Fault Refusal :=
  .next (match s.voiceFront with
    | none => s
    | some w =>
      if w.beat + 2 ≤ s.beat.number ∧ s.beat.hardHalt = false then
        (if s.beat.voiceShedding then s.voiceShedAll w else s.onWork w.beat (fun x => { x with voiceLate := true }))
      else s)

/-- The step of R241 in µs. -/
def State.shedStep (s : State) : Nat := min (s.force 0x4200 0xC) (s.beat.activePeriod / 16)

/-- SHED_CLASS_DISCARD: at D - (3 - c) × step every packet of class c of the unfinished stage is discarded. -/
def execShedClassDiscard (cls : Fin 4) (s : State) : Host.Outcome State Fault Refusal :=
  .next (match s.voiceFront with
    | none => s
    | some w =>
      if s.beat.voiceShedding = true ∧ w.beat + 2 ≤ s.beat.number + 1 ∧ s.beat.hardHalt = false then
        ((s.upTo (s.startOf (w.beat + 2) - (3 - cls.val) * s.shedStep)).purgeStage w.beat cls).purgeGateway w.beat cls
      else s)

/-- POLICY_RETURN_TO_HOLD: after 16 consecutive beats that met the deadline. -/
def execPolicyReturnToHold (st : StageName) (s : State) : Host.Outcome State Fault Refusal :=
  .next (match st with
    | .voice => if s.beat.voiceRaised = true ∧ 16 ≤ s.beat.voiceMet then
        s.onBeat (fun b => { b with voiceRaised := false, voiceShedding := decide (s.force 0x2100 0xF = 1) }) else s
    | .press => if s.beat.pressRaised = true ∧ 16 ≤ s.beat.pressMet then
        s.onBeat (fun b => { b with pressRaised := false, pressShedding := decide (s.force 0x2100 0x10 = 1) }) else s)

/-! ### The press stage begins (08 R269) -/

/-- The beat whose press stage runs. -/
def State.pressRunning (s : State) : Option BeatWork := s.beat.work.find? (fun w => decide (w.press = .running))

/-- TEMPLATE_INSTANTIATE. -/
def execTemplateInstantiate (s : State) : Host.Outcome State Fault Refusal :=
  .next (match s.pressRunning with
    | none => s
    | some w => if w.instantiated = false ∧ w.captured = true ∧ s.templateFree = true ∧ s.beat.hardHalt = false then s.instantiate w.beat else s)

/-! ### Ingest starts (03 R83, 02 R70, 06 R199) -/

/-- Whether no beat is in its voice or press stage. -/
def State.stagesIdle (s : State) : Bool :=
  s.beat.work.all (fun w => (decide (w.voice = .done) || decide (w.voice = .shed)) && (decide (w.press = .done) || decide (w.press = .shed)))

/-- Whether the fabric is halted: by the tracker, the precentor's fabric or the Trellis (02 R69, 11 R373, 01 R24), or the
package is aligning to a Choir (11 R370). -/
def State.fabricHalted (s : State) : Bool :=
  decide (s.beat.tracker = .halted) || decide (s.choir.beat = .halted) || s.choir.fabricHalted || s.beat.hardHalt
  || decide (s.choir.beat = .aligning)

/-- Whether ingest is to start with the beat that has just begun. -/
def State.ingestDue (s : State) : Bool :=
  decide (s.beat.number % 256 = 0) && decide (s.now = s.beat.start) && decide (s.comm.nmt = .operational)
  && !s.beat.ingesting && !s.fabricHalted && s.nvm.activeSlot.isSome && !s.nvm.loadPending && s.stagesIdle
  && (match s.beat.ingestWanted with
    | some t => decide (t < s.beat.start)
    | none => false)

/-- Ingest starts with beat n (06 R199, 08 R273, R283). -/
def State.ingestStart (n : Nat) (s : State) : State :=
  let u := if s.beat.resuming then s.book 0xE031 0x20 1 (leBytes 6 n) else s
  let u := (u.reinitAll n).slatesReinit
  ((u.onBeat (fun b => { b with
    ingesting := true, ingestWanted := none, ingestStop := none, resuming := false,
    work := b.work ++ [{ beat := n, start := b.start }] })).onPress (fun p => { p with firstPending := true })).onPower
    (fun p => if p.st = .idle then { p with st := .active } else p)

/-- INGEST_START. -/
def execIngestStart (s : State) : Host.Outcome State Fault Refusal :=
  .next (if s.ingestDue then s.ingestStart s.beat.number else s)

end Sys2Proof.Machine
end

