-- ==== Sys2Proof/Machine/Values.lean ====
section
/-! DEFINITION. Reads of object entries (03 R75 to R78, R87, R91 and the cards of the unit chapters), and the values TPDOs
carry (03 R97, R98). -/

namespace Sys2Proof.Machine

/-- CORE_STATE as a number (06 R191). -/
def CoreSt.code : CoreSt → Nat
  | .disabled => 0 | .loading => 1 | .loaded => 2 | .running => 3 | .fault => 4

/-- POWER_STATE as a number (03 R91). -/
def PowerSt.code : PowerSt → Nat
  | .off => 0 | .standby => 1 | .idle => 2 | .active => 3

/-- Cores whose state meets a test. -/
def State.coresIn (s : State) (p : CoreSt → Bool) : Nat := (s.fabric.cores.filter (fun c => p c.2.st)).length

/-- GATE_LEVELS (12 R418). -/
def State.gateLevels (s : State) : Nat :=
  sumN ((List.range 8).map (fun g => b2n (s.gate g).a.accepted * 2 ^ (2 * g) + b2n (s.gate g).b.accepted * 2 ^ (2 * g + 1)))

/-- POOL_MARKS: stream s's buffers are 4s to 4s + 3 (16 R516, R524). -/
def State.poolMarks (s : State) : Nat :=
  sumN ((List.range 8).map (fun b => tabGet 0 (s.stream (b / 4)).marks (b % 4) * 16 ^ b))

/-- Computed values of 0x1000 to 0x20FF, none where the entry's own storage holds the value. -/
def State.numComm (s : State) (idx sub : Nat) : Option Nat :=
  match idx, sub with
  | 0x1001, 0 => some s.errorRegister
  | 0x1003, 0 => some s.comm.errHist.length
  | 0x1003, k + 1 => some (s.comm.errHist.getD k 0).toNat
  | 0x1018, 2 => some s.product
  | 0x1018, 3 => some s.revisionWord
  | 0x1018, 4 => some Config.serial
  | 0x1200, 1 => some (0x600 + s.comm.node)
  | 0x1200, 2 => some (0x580 + s.comm.node)
  | 0x2001, 0 => some s.unitsPresent
  | 0x2010, 1 => some s.comm.node
  | 0x2010, 2 => some s.comm.rate
  | 0x2020, 2 => some (s.oap.sessions.filter (fun x => x.via.isNone)).length
  | _, _ => none

/-- Computed values of 0x2100 (02 R73). -/
def State.numBeat (s : State) (sub : Nat) : Option Nat :=
  match sub with
  | 1 => some s.beat.number
  | 2 => some s.now
  | 5 => some s.beat.source.code
  | 6 => some s.beat.tracker.code
  | 7 => some s.beat.activePeriod
  | 8 => some s.beat.tracked
  | 9 => some (toBits 16 s.beat.phaseError)
  | 0x12 => some s.beat.voiceLag
  | 0x13 => some s.beat.pressLag
  | _ => none

/-- Computed values of 0x2200 (03 R91, 15). -/
def State.numPower (s : State) (sub : Nat) : Option Nat :=
  match sub with
  | 1 => some s.power.st.code
  | 3 => some s.power.vin
  | 4 => some s.power.vport
  | 5 => some s.power.vcore
  | 6 => some s.power.inputMw
  | 7 => some (toBits 16 s.power.hubTemp)
  | 8 => some (toBits 16 s.power.tileTemp)
  | 9 => some s.power.gated.toNat
  | 0xA => some s.power.point
  | 0xC => some s.power.lastCause
  | 0xE => some s.committedMw
  | _ => none

/-- Computed values of 0x2300, 0x2400 and 0x2500 (03 R91, 04, 17). -/
def State.numStore (s : State) (idx sub : Nat) : Option Nat :=
  match idx, sub with
  | 0x2300, 1 => some s.nvm.storeState
  | 0x2300, 2 => some s.nvm.inUse
  | 0x2300, 3 => some s.nvm.gen
  | 0x2300, 4 => some (s.nvm.activeSlot.getD 0xFF)
  | 0x2300, 5 => some s.nvm.slot0.code
  | 0x2300, 6 => some s.nvm.slot1.code
  | 0x2300, 7 => some (b2n s.nvm.pendingSwitch.isSome)
  | 0x2300, 0xB => some s.nvm.received
  | 0x2300, 0xC => some s.nvm.installStatus
  | 0x2300, 0xD => some s.nvm.imageId
  | 0x2300, 0xE => some s.nvm.imageVersion
  | 0x2400, 1 => some s.nvm.nextSeq
  | 0x2400, 2 => some s.nvm.oldestSeq
  | 0x2400, 5 => some s.nvm.overwritten
  | 0x2500, 2 => some s.boot.slot
  | 0x2500, 3 => some s.boot.keyIndex
  | 0x2500, 4 => some (b2n s.boot.debug)
  | _, _ => none

/-- Computed values of a port (05 R187). -/
def State.numPort (s : State) (p sub : Nat) : Option Nat :=
  match sub with
  | 1 => some (s.port p).st.code
  | 4 => some (s.port p).cause
  | 5 => some (s.headType p)
  | 0xC => some (s.hotMasked p)
  | 0xE => some (toBits 16 (s.port p).ratePpm)
  | 0xF => some (s.portPower p)
  | _ => none

/-- Computed values of 0x4000, the cores, 0x5000 to 0x5200 (06 R220, 08 R291). -/
def State.numFabric (s : State) (idx sub : Nat) : Option Nat :=
  if 0x4100 ≤ idx ∧ idx ≤ 0x41FF then (if sub = 1 then some (s.core (idx - 0x4100)).st.code else none)
  else match idx, sub with
  | 0x4000, 1 => some s.fabric.rankCount
  | 0x4000, 2 => some (s.coresIn (fun c => decide (c = .loaded) || decide (c = .running)))
  | 0x4000, 3 => some (s.coresIn (fun c => decide (c = .fault)))
  | 0x4000, 6 => some s.fabric.lastStage
  | 0x4000, 7 => some s.fabric.lastUpdates
  | 0x4000, 8 => some s.fabric.lastFires
  | 0x5000, 5 => some s.enginesOnline
  | 0x5000, 6 => some s.press.lastBeat
  | 0x5000, 7 => some s.press.lastUs
  | 0x5100, 1 => some s.press.sourceCount
  | 0x5100, 2 => some s.press.classCount
  | 0x5200, 2 => some s.press.nextSeq.toNat
  | _, _ => none

/-- Computed values of a Blend source; PORT keeps its card's value while no image names one (08 R291). -/
def State.numSource (s : State) (i sub : Nat) : Option Nat :=
  let x := s.source i
  match sub with
  | 1 => some x.kind
  | 2 => some (b2n x.mask)
  | 3 => some x.port
  | 4 => some x.maxAge
  | 5 => some x.absentFactor
  | 6 => some (match x.latest with | none => 0 | some b => (x.buf b).tov)
  | 7 => some (match x.latest with | none => 0 | some b => b2n (x.buf b).valid)
  | _ => none

/-- Computed values of a queue (09 R319). -/
def State.numQueue (s : State) (q sub : Nat) : Option Nat :=
  match sub with
  | 1 => some (s.q q).st.code
  | 0xE => some (s.q q).fill
  | 0xF => some (s.q q).status
  | _ => none

/-- Computed values of the zone counter (12 R418). -/
def State.numZones (s : State) (idx sub : Nat) : Option Nat :=
  if idx = 0x6000 then
    match sub with
    | 1 => some s.gateLevels
    | 2 => some s.zoneStates
    | 3 => some s.zone.countSeq.toNat
    | _ => none
  else if 0x6010 ≤ idx ∧ idx ≤ 0x6017 then
    match sub with
    | 9 => some (s.gate (idx - 0x6010)).seq.code
    | 0xA => some (s.gate (idx - 0x6010)).fault
    | _ => none
  else if 0x6080 ≤ idx ∧ idx ≤ 0x608F then (if sub = 8 then some (s.region (idx - 0x6080)).last else none)
  else if 0x6100 ≤ idx ∧ idx ≤ 0x6103 then
    match sub with
    | 1 => some (s.zoneOf (idx - 0x6100)).st.code
    | 2 => some (toBits 16 (s.zoneOf (idx - 0x6100)).count)
    | 5 => some (s.zoneOf (idx - 0x6100)).cause.toNat
    | _ => none
  else none

/-- Computed values of the belt drive and the audio output (13 R445, R446). -/
def State.numDrive (s : State) (idx sub : Nat) : Option Nat :=
  match idx, sub with
  | 0x6200, 1 => some s.beltSync.belt.st.code
  | 0x6200, 6 => some (toBits 16 (mmPerS s.belt.speed))
  | 0x6200, 0x11 => some s.belt.fault
  | 0x6200, 0x12 => some s.beltSync.belt.stopCause
  | 0x6200, 0x13 => some s.belt.current
  | 0x6200, 0x14 => some s.belt.position.toNat
  | 0x6200, 0x15 => some s.belt.indexPos.toNat
  | 0x6200, 0x16 => some (b2n s.mirrorSls)
  | 0x6400, 1 => some s.audio.ch0.st.code
  | 0x6400, 2 => some s.audio.ch1.st.code
  | 0x6400, 8 => some s.audio.ch0.tripInfo.toNat
  | 0x6400, 9 => some s.audio.ch1.tripInfo.toNat
  | 0x6400, 0xD => some (toBits 16 s.audio.temperature)
  | _, _ => none

/-- Where a field of 0x6810 lies in the block of R467: offset and size. -/
def blockField (sub : Nat) : Nat × Nat :=
  match sub with
  | 1 => (16, 1) | 2 => (17, 1) | 3 => (18, 1) | 4 => (19, 1) | 5 => (20, 2) | 6 => (22, 1) | 7 => (23, 1) | 8 => (24, 2)
  | 9 => (26, 2) | 0xA => (28, 4) | 0xB => (32, 4) | 0xC => (36, 2) | 0xD => (38, 2) | 0xE => (40, 1) | 0xF => (41, 1)
  | _ => (0, 0)

/-- Values of the island's mirror and of the transfer (14 R449, R471). -/
def State.numIsland (s : State) (idx sub : Nat) : Option Nat :=
  match idx, sub with
  | _, 0 => none
  | 0x6800, k + 1 => some (s.island.snap.getD k 0)
  | 0x6810, k + 1 => some (numAt s.island.snapBlock (blockField (k + 1)).1 (blockField (k + 1)).2)
  | 0x6F00, 2 => some s.island.transfer
  | 0x6F00, 4 => some s.island.confirm
  | 0x6F00, 6 => some s.island.transferStatus
  | _, _ => none

/-- Computed values of the encoder (16 R524). -/
def State.numVideo (s : State) (idx sub : Nat) : Option Nat :=
  if idx = 0x7000 then (if sub = 1 then some s.poolMarks else none)
  else match sub with
  | 1 => some (s.stream (idx - 0x7100)).st.code
  | 3 => some (s.stream (idx - 0x7100)).waitCause
  | _ => none

/-- Computed values of Choir Link (11 R389). -/
def State.numChoir (s : State) (idx sub : Nat) : Option Nat :=
  match idx, sub with
  | 0x8010, k + 1 => some (tabGet 0 s.choir.serials k)
  | 0x8000, 2 => some s.choir.role.code
  | 0x8000, 3 => some s.memberCount
  | 0x8000, 4 => some s.memberMap
  | 0x8000, 5 => some s.precSerial
  | 0x8000, 6 => some s.choir.generation
  | 0x8000, 7 => some s.choir.beat.code
  | 0x8000, 8 => some (toBits 64 s.choir.offset)
  | 0x8000, 9 => some s.choir.pathDelay
  | 0x8000, 0xA => some (toBits 32 s.choir.phaseError)
  | 0x8000, 0xB => some (s.clPort 0).st.code
  | 0x8000, 0xC => some (s.clPort 1).st.code
  | 0x8000, 0xD => some s.topology
  | _, _ => none

/-- The computed number of an entry, none where the entry's own storage holds the value. -/
def State.numOf (s : State) (idx sub : Nat) : Option Nat :=
  if idx < 0x2100 then s.numComm idx sub
  else if idx = 0x2100 then s.numBeat sub
  else if idx = 0x2200 then s.numPower sub
  else if idx < 0x3000 then s.numStore idx sub
  else if idx < 0x3600 then s.numPort ((idx - 0x3000) / 0x100) sub
  else if 0x5180 ≤ idx ∧ idx ≤ 0x5187 then s.numSource (idx - 0x5180) sub
  else if idx < 0x6000 then s.numFabric idx sub
  else if idx < 0x6200 then s.numZones idx sub
  else if idx < 0x6800 then s.numDrive idx sub
  else if idx < 0x7000 then s.numIsland idx sub
  else if idx < 0x8000 then s.numVideo idx sub
  else if idx < 0x9000 then s.numChoir idx sub
  else s.numQueue ((idx - 0x9000) / 0x40) sub

/-- The text of bytes up to the first 0. -/
def untilZero (l : List Byte) : List Byte := l.takeWhile (fun b => decide (b ≠ 0))

/-- Values that are strings or records of their own (03 R87, R91; 05 R187; 08 R291; 12 R418; 14 R468). -/
def State.textOf (s : State) (idx sub : Nat) : Option (List Byte) :=
  match idx, sub with
  | 0x1008, 0 => some s.deviceName
  | 0x1009, 0 => some (textBytes "B0")
  | 0x100A, 0 => some s.boot.version
  | 0x2021, 8 => some (macBytes 0)
  | 0x2022, 8 => some (macBytes 1)
  | 0x2500, 5 => some (slice s.boot.challenge 0 16)
  | 0x5200, 1 => some (slice s.press.lastVerdict 0 64)
  | 0x6000, 4 => some (slice s.zone.lastEvent 0 16)
  | 0x6F00, 3 => some (slice s.island.echo 0 64)
  | i, 6 => if 0x3000 ≤ i ∧ i < 0x3600 then some (untilZero (slice (s.port ((i - 0x3000) / 0x100)).record 60 16)) else none
  | i, 7 => if 0x3000 ≤ i ∧ i < 0x3600 then some (slice (s.port ((i - 0x3000) / 0x100)).record 0 256) else none
  | _, _ => none

/-- The number an entry reads as. -/
def State.number (s : State) (idx sub : Nat) : Nat := (s.numOf idx sub).getD (s.ent idx sub)

/-- The bytes an entry of a type reads as. -/
def State.valueOf (s : State) (idx sub : Nat) (ty : Ty) : List Byte :=
  match s.textOf idx sub with
  | some l => l
  | none => leBytes (ty.size.getD 0) (s.number idx sub)

/-- The answer to a read: status code, type and value, without what a read changes (03 R77, R78, R93; 02 R73). -/
def State.peek (s : State) (idx sub : Nat) : Nat × Ty × List Byte :=
  match s.find idx sub with
  | .noIndex => (0x06020000, .u8, [])
  | .noSub => (0x06090011, .u8, [])
  | .card c =>
    if c.acc = .wo then (0x06010001, c.ty, [])
    else if idx = 0x2100 ∧ (sub = 8 ∨ sub = 9) ∧ (s.beat.tracker = .free ∨ s.beat.tracker = .acquiring) then (0x0F000040, c.ty, [])
    else if idx = 0x2400 ∧ sub = 4 then
      match s.ringRecord (s.ent 0x2400 3) with
      | none => (0x08000020, c.ty, [])
      | some b => (0, c.ty, b)
    else (0, c.ty, s.valueOf idx sub c.ty)

/-! ### TPDOs (03 R97, R98) -/

/-- The size in bytes of an entry of fixed size, 0 for any other. -/
def State.entrySize (s : State) (idx sub : Nat) : Nat :=
  match s.find idx sub with
  | .card c => c.ty.size.getD 0
  | _ => 0

/-- Index, subindex and size of the entry a mapping word names; its length field is the size in bits modulo 256 (the 512
bits of a VERDICT do not fit it: DEDUCED, log 11). -/
def State.mapRef (s : State) (w : Nat) : Nat × Nat × Nat := (bits w 16 16, bits w 8 8, s.entrySize (bits w 16 16) (bits w 8 8))

/-- The mapped entries of the n-th PDO of a direction, in order. -/
def State.mapped (s : State) (base n : Nat) : List (Nat × Nat × Nat) :=
  (List.range (s.ent (base + n) 0)).map (fun k => s.mapRef (s.ent (base + n) (k + 1)))

/-- Whether PDO n of a communication base is active: OPERATIONAL, a valid COB-ID (bit 31 clear: PRESUMED, log 11), and
entries mapped (R82, R95, R97). -/
def State.pdoActive (s : State) (comm map n : Nat) : Bool :=
  decide (s.comm.nmt = .operational) && decide (s.comm.node ≠ 0xFF) && !(s.ent (comm + n) 1).testBit 31 && decide (s.ent (map + n) 0 ≠ 0)

/-- The bytes a mapped entry gives. -/
def State.mappedBytes (s : State) (m : Nat × Nat × Nat) : List Byte :=
  match s.peek m.1 m.2.1 with
  | (0, _, l) => slice l 0 m.2.2
  | _ => leBytes m.2.2 (Config.unreadable m.1 m.2.1)

/-- The bytes TPDO n carries now. -/
def State.tpdoData (s : State) (n : Nat) : List Byte := (s.mapped 0x1A00 n).flatMap s.mappedBytes

/-- TPDO n's transmission type. -/
def State.tpdoType (s : State) (n : Nat) : Nat := s.ent (0x1800 + n) 2

/-- TPDO n's running state. -/
def State.tpdo (s : State) (n : Nat) : TpdoSt := tabGet {} s.comm.tpdo n

/-- Changes TPDO n's running state. -/
def State.onTpdo (n : Nat) (f : TpdoSt → TpdoSt) : State → State :=
  State.onComm (fun c => { c with tpdo := tabMod {} c.tpdo n f })

/-- TPDO n is sent with the bytes given; the inhibit time runs from here. -/
def State.tpdoEmit (n : Nat) (data : List Byte) (s : State) : State :=
  (s.emit (.tpdo n data)).onTpdo n (fun t =>
    { t with lastData := s.tpdoData n, changed := false, lastSent := s.now, held := none, syncs := 0, inhibitUntil := s.now + 100 * s.ent (0x1800 + n) 3 })

/-- TPDO n of type 254 or 255 is due with the bytes given: within the inhibit time it waits (R98). -/
def State.tpdoDue (n : Nat) (data : List Byte) (s : State) : State :=
  if s.now < (s.tpdo n).inhibitUntil then s.onTpdo n (fun t => { t with held := some data }) else s.tpdoEmit n data

/-- Verdict publication: TPDOs of type 254 sample and send (R98). -/
def State.tpdoVerdict (s : State) : State :=
  (List.range 16).foldl (fun t n =>
    if t.pdoActive 0x1800 0x1A00 n = true ∧ t.tpdoType n = 254 then t.tpdoDue n (t.tpdoData n) else t) s

/-- Whether the event timer of TPDO n has run out. -/
def State.tpdoTimer (s : State) (n : Nat) : Bool :=
  decide (s.ent (0x1800 + n) 5 ≠ 0) && decide ((s.tpdo n).lastSent + 1000 * s.ent (0x1800 + n) 5 ≤ s.now)

/-- One look at TPDO n: type 255 is due when a mapped value changed since the last look, and type 0 keeps for its SYNC that
one did (R98). -/
def State.tpdoLook (n : Nat) (s : State) : State :=
  if s.pdoActive 0x1800 0x1A00 n = false ∨ s.tpdoData n = (s.tpdo n).lastData then s
  else
    let u := s.onTpdo n (fun t => { t with lastData := s.tpdoData n, changed := true })
    if s.tpdoType n = 255 then u.tpdoDue n (s.tpdoData n) else u

/-- The values that TPDO n starts from. -/
def State.tpdoBase (n : Nat) (s : State) : State := s.onTpdo n (fun t => { t with lastData := s.tpdoData n, lastSent := s.now })

/-- OPERATIONAL is entered: changes count from here (R82, R98). -/
def State.tpdoStart (s : State) : State := (List.range 16).foldl (fun t n => t.tpdoBase n) s

/-- One look at every TPDO. -/
def State.tpdoScan (s : State) : State := (List.range 16).foldl (fun t n => t.tpdoLook n) s

/-- One µs of device time with nothing commanded (01 R35, log 5): TPDOs are looked at. -/
def State.tick (s : State) : State := State.tpdoScan { s with now := s.now + 1 }

end Sys2Proof.Machine
end

