-- ==== Sys2Proof/Machine/Boot.lean ====
section
/-! DEFINITION. NMT states, device resets, the boot sequence, boot slots and key lists, the watchdog, fuses, debug, JTAG
and the Ethernet link (17_reset_boot_trust.md; 03 R82 to R85, R568). -/

namespace Sys2Proof.Machine

/-! ### NMT states (03 R82 to R84) -/

/-- OPERATIONAL is entered: ingest starts at an era boundary, and the audio mute of the other states ends. -/
def State.enterOperational (s : State) : State :=
  if s.comm.nmt = .operational then s
  else (((s.onComm (fun c => { c with nmt := .operational })).tpdoStart.wantIngest).audioFollow).announceAll

/-- Another state is entered and announced; leaving OPERATIONAL stops ingest and the belt and mutes the audio output. -/
def State.enterNmt (n : Nmt) (s : State) : State :=
  if s.comm.nmt = n then s
  else if s.comm.nmt = .operational then
    ((((s.onComm (fun c => { c with nmt := n, rpdo := [], tpdo := [] })).stopIngest).beltStop 3).audioFollow).announceAll
  else (s.onComm (fun c => { c with nmt := n })).announceAll

/-- PRE-OPERATIONAL with its boot-up message; a node without a node-ID sends none (R82, R95). -/
def State.bootUp (s : State) : State :=
  let u := (s.enterNmt .preOperational).onComm (fun c => { c with hbLast := s.now })
  if u.comm.node = 0xFF then u else u.emit (.bootUp u.comm.node)

/-- NMT_STARTUP 1 moves on to OPERATIONAL (R82, R85). -/
def State.nmtStartup (s : State) : State := if s.ent 0x2010 4 = 1 then s.enterOperational else s

/-! ### What a device reset clears (17 R528) -/

/-- The pipeline and page 0x01; beat and tracker go on (02 R45). -/
def BeatUnit.reset (b : BeatUnit) : BeatUnit :=
  { b with
    irqPending := false, irqEnable := false, irqEraOnly := false, voiceShedding := false, pressShedding := false,
    voiceLag := 0, pressLag := 0, voiceMet := 0, pressMet := 0, voiceRaised := false, pressRaised := false,
    shedThisEra := false, ingesting := false, ingestWanted := none, ingestStop := none, hardHalt := false, work := [] }

/-- The memory unit: caches, movers, requests and the access-error capture; Cellar content and its errors stay (10 R325). -/
def MemUnit.reset (m : MemUnit) : MemUnit := { poison := m.poison }

/-- The power manager: operating point 0, nothing gated; the supplies and the park are physical (17 R531, R541). -/
def Power.reset (p : Power) : Power :=
  { vin := p.vin, vport := p.vport, vcore := p.vcore, inputMw := p.inputMw, hubTemp := p.hubTemp, tileTemp := p.tileTemp,
    park := p.park, lastCause := p.lastCause, offCause := p.offCause, pvidCmd := 1, pvidData := 30 }

/-- Choir membership is left; the ports stay trained (17 R530). -/
def Choir.reset (c : Choir) : Choir := { ports := c.ports, tags := c.tags, flitNo := c.flitNo }

/-- The NVM controller: operations abandoned, staged records kept (04 R143, R150). -/
def Nvm.reset (n : Nvm) : Nvm :=
  { n with eccCorrected := 0, appendPayload := [], appendControl := [], appendRefused := [], overwritten := 0, switchAt := 0 }

/-- Page 0x04 and the debug state; the fuses and BOOT_ATTEMPTS stay. -/
def Boot.reset (b : Boot) (cause now : Nat) : Boot :=
  { st := .resetting, cause := cause, resetAt := now, attempts := b.attempts, fuses := b.fuses, slot := b.slot, keyIndex := b.keyIndex,
    security := b.security, revision := b.revision, version := b.version, jtagId := b.jtagId }

/-- Whether the cause of a condition outlives a device reset (03 R568): the tracker's, the supply's, the temperature's, and
those of the island while it stays up. -/
def Cond.outlives (c : Cond) : Bool := [0xFF10, 0xFF11, 0x3120, 0x4210, 0xFF70, 0xFF71].contains c.code

/-- CAN0 and NMT: conditions start anew, with the causes that outlive the reset kept (03 R568). -/
def Comm.reset (c : Comm) : Comm := { latent := (c.conds.filter Cond.outlives) ++ c.latent }

/-- Every unit a device reset clears. The tracker's own settings in force stay until the first era boundary after boot
(02 R45). -/
def State.clearUnits (s : State) : State :=
  let u := (s.lateAll.dropImports.setStopLine true).abandonNvm.beltReset.audioReset.videoReset.transferReset.zonesReset.queuesReset
  let u := (u.pressReset.onBeat BeatUnit.reset).onPorts (fun _ => s.portsReset.ports)
  let u := (((u.onFabric (fun _ => {})).onTrellis (fun _ => {})).onComm Comm.reset).onOap (fun _ => {})
  let u := (((u.onChoir Choir.reset).onMem MemUnit.reset).onPower Power.reset).onNvm Nvm.reset
  let u := ((u.onEntries (fun _ => [])).onRegs (fun _ => [])).onWtimes (fun _ => [])
  u.onForces (fun t => tabDrop t (fun k => decide (k / 256 ≠ 0x2100)))

/-! ### Resets (17 R526, R527) -/

/-- A PVID frame, its first bit the highest (15 R477): START, COMMAND, DATA and even PARITY over COMMAND and DATA. -/
def pvidFrame (cmd data : Nat) : BitVec 20 :=
  let ones := sumN ((List.range 16).map (fun i => b2n ((cmd * 4096 + data).testBit i)))
  BitVec.ofNat 20 (6 * 2 ^ 17 + cmd * 2 ^ 13 + data * 2 + ones % 2)

/-- Sends a PVID frame (15 R477). -/
def State.pvid (cmd data : Nat) (s : State) : State :=
  (s.emit (.pvid (pvidFrame cmd data))).onPower (fun p => { p with pvidCmd := cmd, pvidData := data, pvidRefused := 0, pvidAt := s.now })

/-- The record of a reset (04 R148, log 32). -/
def State.resetRecord (s : State) : State := s.book 0xE002 4 0 (leBytes 1 s.boot.cause)

/-- A reset source arises: sources of one instant make one reset with the lowest cause; a later one during a reset
restarts it. STANDBY is left by a wake only, and nothing answers in OFF (15 R481). -/
def State.resetStart (cause : Nat) (s : State) : State :=
  if s.power.st = .off ∨ (s.power.st = .standby ∧ cause ≠ 6) then s
  else if s.boot.st = .resetting ∧ s.boot.resetAt = s.now then s.onBoot (fun b => { b with cause := min b.cause cause })
  else
    let u := if s.boot.st = .resetting then s.resetRecord else s
    let u := if u.power.commanded = 650 then u else u.pvid 1 30
    (u.clearUnits).onBoot (fun b => b.reset cause s.now)

/-- STANDBY is left: rails rise and boot runs (15 R484, R496). -/
def State.wake (s : State) : State :=
  if s.power.st = .standby then
    (((s.resetStart 6).onPower (fun p => { p with st := .idle, lastCause := 3 })).pvid 2 1).pvid 1 30
  else s

/-- RESET_N (R526); in STANDBY it is a wake (15 R484). -/
def execResetN (s : State) : Host.Outcome State Fault Refusal :=
  .next (if s.power.st = .standby then s.wake else s.resetStart 1)

/-- WATCHDOG_TIMEOUT (R529): the watchdog's time has passed. -/
def execWatchdogTimeout (s : State) : Host.Outcome State Fault Refusal :=
  .next (if s.boot.wdEnabled = true ∧ s.boot.wdPaused = false then
    (s.upTo (s.boot.wdAt + 1000 * s.boot.wdTimeout)).resetStart 2 else s)

/-- A write of WATCHDOG_KICK. -/
def State.kick (v : Nat) (s : State) : State :=
  s.onBoot (fun b => if v = 0x5AC3 then { b with wdAt := if b.wdPaused then 0 else s.now } else { b with kickError := true })

/-- What firmware does: not while the device is unpowered or in reset. -/
def State.byFirmware (f : State → State) (s : State) : State := if s.powered = true ∧ s.boot.st ≠ .resetting then f s else s

/-- WATCHDOG_KICK (R529). -/
def execWatchdogKick (val : BitVec 32) (s : State) : Host.Outcome State Fault Refusal := .next (s.byFirmware (State.kick val.toNat))

/-- SOFTWARE_RESET (R529): other values are ignored. -/
def execSoftwareReset (val : BitVec 32) (s : State) : Host.Outcome State Fault Refusal :=
  .next (s.byFirmware (fun s => if val = 0xA5C3 then s.resetStart 4 else s))

/-- A new challenge of 16 random bytes (R544). -/
def State.newChallenge (s : State) : State := (s.draw).onBoot (fun b => { b with challenge := leBytes 16 s.drawn })

/-- RESET_END (R527): staged records are written out, the ring is scanned, and boot begins. -/
def execResetEnd (s : State) : Host.Outcome State Fault Refusal :=
  .next (if s.boot.st = .resetting ∧ s.powered = true then
    ((s.upTo (s.boot.resetAt + 1000)).flushBook.bootBook.resetRecord.newChallenge).onBoot (fun b => { b with st := .booting })
  else s)

/-! ### Keys and fuses (17 R532, R535) -/

/-- Whether a hash reads zero. -/
def zeroHash (l : List Byte) : Bool := l.all (fun b => decide (b = 0))

/-- A boot key hash, empty while nothing is programmed. -/
def State.bootHash (s : State) (k : Nat) : List Byte :=
  match k with
  | 0 => Config.bootHash0
  | 1 => s.boot.fuses.bootHash1
  | 2 => s.boot.fuses.bootHash2
  | _ => s.boot.fuses.bootHash3

/-- The unrevoked boot hash that a public key has. -/
def State.bootKeyIndex (s : State) (key : List Byte) : Option Nat :=
  (List.range 4).find? (fun k => !s.boot.fuses.revoked.getLsbD k && !zeroHash (s.bootHash k) && decide (Config.sha256 key = s.bootHash k))

/-- Whether a signature block of 128 bytes verifies over what precedes it (04 R133). -/
def sigOk (l : List Byte) (o : Nat) : Bool :=
  Config.ed25519Ok (slice l o 32) (Config.sha512 (slice l 0 o)) (slice l (o + 32) 64) && (slice l (o + 96) 32).all (fun b => decide (b = 0))

/-- The rollback floor. -/
def State.rollbackFloor (s : State) : Nat := sumN ((List.range 64).map (fun i => b2n (s.boot.fuses.rollback.getLsbD i)))

/-- Where a key list copy lies (R534). -/
def keyListBase (k : Nat) : Nat := mramBase + 0x261000 + 0x1000 * k

/-- The commit word of a key list. -/
def keyCommit (gen : Nat) : Nat := 0x4B45594C00000000 + gen % 65536

/-- Whether the content of a key list is valid (R535). -/
def State.keyListOk (s : State) (l : List Byte) : Bool :=
  decide (numAt l 0 4 = 0x59454B4B) && decide (numAt l 8 1 ≤ 8) && decide (numAt l 9 3 = 0)
  && (slice l (12 + 32 * numAt l 8 1) (32 * (8 - numAt l 8 1))).all (fun b => decide (b = 0))
  && (s.bootKeyIndex (slice l 300 32)).isSome && sigOk l 300

/-- A valid copy's generation. -/
def State.keyCopy (s : State) (k : Nat) : Option Nat :=
  let l := s.bytesAt (keyListBase k) 428
  if s.poisoned (keyListBase k) 428 = false ∧ s.poisoned (keyListBase k + 0xFF8) 8 = false ∧ s.keyListOk l ∧ s.memNum (keyListBase k + 0xFF8) 8 = keyCommit (numAt l 4 4) then some (numAt l 4 4) else none

/-- The boot ROM takes the valid copy of the higher generation (R535). -/
def State.selectKeys (s : State) : State :=
  s.onBoot (fun b => { b with keyList := match s.keyCopy 0, s.keyCopy 1 with
    | some g, some g' => if g < g' then some 1 else some 0
    | some _, none => some 0
    | none, some _ => some 1
    | none, none => none })

/-! ### Boot slots (17 R536, R538, R539) -/

/-- Where a boot slot lies (04 R118). -/
def bootBase (k : Nat) : Nat := mramBase + k * 0x100000
/-- SLOT_GENERATION. -/
def State.bootGen (s : State) (k : Nat) : Nat := s.memNum (bootBase k + 0xFF000) 4
/-- The commit word of a boot slot. -/
def bootCommit (gen : Nat) : Nat := 0x424F4F54434D0000 + gen % 65536
/-- Whether a slot is committed. -/
def State.bootCommitted (s : State) (k : Nat) : Bool := 
  decide (s.memNum (bootBase k + 0xFFFF8) 8 = bootCommit (s.bootGen k)) && !s.poisoned (bootBase k + 0xFFFF8) 8
    && !s.poisoned (bootBase k + 0xFF000) 4

/-- Whether a boot image's header lies in range (R536). -/
def bootHeaderOk (h : List Byte) : Bool :=
  decide (numAt h 0 4 = 0x544F424B) && decide (numAt h 4 2 = 1) && decide (numAt h 8 4 ≤ 64)
  && decide (4096 ≤ numAt h 12 4 ∧ numAt h 12 4 ≤ 1044480 ∧ numAt h 12 4 % 4 = 0) && (slice h 52 76).all (fun b => decide (b = 0))

/-- Why a boot image fails, 0 when it verifies: 1 header, 2 key hash, 3 signature, 4 rollback (R538, R547). -/
def State.bootImageCode (s : State) (l : List Byte) : Nat :=
  if bootHeaderOk l = false then 1
  else if numAt l 8 4 < s.rollbackFloor then 4
  else if (s.bootKeyIndex (slice l (numAt l 12 4 - 128) 32)).isNone then 2
  else if sigOk l (numAt l 12 4 - 128) then 0 else 3

/-- The image a slot holds, by its LENGTH. -/
def State.bootSlotImage (s : State) (k : Nat) : List Byte := s.bytesAt (bootBase k) (min 1044480 (max 128 (s.memNum (bootBase k + 12) 4)))

/-- Why the image of a slot fails: a header that ECC cannot correct is out of range, another byte fails its signature (04 R120). -/
def State.bootSlotCode (s : State) (k : Nat) : Nat :=
  if s.poisoned (bootBase k) 128 then 1
  else if s.bootImageCode (s.bootSlotImage k) = 0 ∧ s.poisoned (bootBase k) (s.bootSlotImage k).length = true then 3
  else s.bootImageCode (s.bootSlotImage k)

/-- The committed slots, the higher generation first. -/
def State.bootOrder (s : State) : List Nat :=
  (if s.bootGen 0 < s.bootGen 1 then [1, 0] else [0, 1]).filter (fun k => s.bootCommitted k)

/-- The first slot that verifies; one that does not is recorded. -/
def State.pickBoot : List Nat → State → Option Nat × State
  | [], s => (none, s)
  | k :: t, s =>
    let code := s.bootSlotCode k
    if code = 0 then (some k, s) else (s.book 0xE7F0 4 2 (leBytes 1 k ++ leBytes 1 code)).pickBoot t

/-- Three boots without a confirmation abandon the slot (R539). -/
def State.abandonSlot (s : State) : State :=
  if 3 ≤ s.boot.attempts then
    ((s.nvmPut (bootBase s.boot.slot + 0xFFFF8) (leBytes 8 0)).book 0xE7F1 4 2 (leBytes 1 s.boot.slot ++ leBytes 4 (s.bootGen s.boot.slot))).onBoot
      (fun b => { b with attempts := 0 })
  else s

/-- The firmware area (R537). -/
def firmwareBase : Nat := 0x400000000

/-- A slot's image is copied into the firmware area and entered. -/
def State.enterFirmware (k : Nat) (s : State) : State :=
  let l := s.bootSlotImage k
  ((s.uncache firmwareBase l.length).putBytes firmwareBase l).onBoot (fun b => { b with
    slot := k, keyIndex := (s.bootKeyIndex (slice l (numAt l 12 4 - 128) 32)).getD 0, security := numAt l 8 4,
    revision := numAt l 6 2, version := (slice l 20 32).filter (fun x => decide (x ≠ 0)), attempts := b.attempts + 1,
    wdEnabled := true, wdTimeout := 2000, wdAt := s.now, wdPaused := false })

/-! ### The boot sequence (17 R541) -/

/-- Node-ID and nominal rate from the vintage (03 R101). -/
def State.bootNode (s : State) : State := s.onComm (fun c => { c with node := c.lss.pendingNode, rate := c.lss.pendingRate })

/-- The entries of R92, whose changes take effect at a reset communication or a reset node. -/
def resetEntries : List (Nat × Nat) :=
  (0x2010, 3) :: [0x2021, 0x2022].flatMap (fun i => [1, 2, 3, 4, 6].map (fun k => (i, k)))

/-- Their values come in force. -/
def State.commInForce (s : State) : State := resetEntries.foldl (fun t e => t.setForce e.1 e.2 (t.ent e.1 e.2)) s

/-- A queue whose ENABLE is 1 in the vintage is enabled, or recorded (09 R317). -/
def State.bootQueue (q : Nat) (s : State) : State :=
  if s.qEnt q 2 = 1 ∧ (s.q q).st = .disabled then
    (if s.qConfigOk q ∧ s.qBlocked q = false then s.qEnable q else s.book 0xE401 0x18 1 (leBytes 1 q))
  else s

/-- A condition whose cause still holds begins anew at the end of boot; that of the temperature ends below 100 °C. -/
def State.condAnew (c : Cond) (s : State) : State :=
  if c.code = 0x4210 ∧ s.junction < 1000 ∧ s.audioThermal = false then s
  else s.raiseCond c.code c.source c.idx (if c.source = 0x1F then s.islandExtra else [])

/-- The conditions whose causes outlived the reset, or arose in it, begin anew, the oldest first (03 R568). -/
def State.conditionsAnew (s : State) : State :=
  ((s.comm.latent.reverse.foldl (fun u c => u.condAnew c) (s.onComm (fun c => { c with latent := [] })))).heatCheck

/-- Entries whose writes act at a boundary of the beat count as written when boot completes; those of 0x2100 wait for the
first era boundary after it (02 R45, R46). -/
def State.stampBoundaries (s : State) : State :=
  let keys := ([0x03, 0x04, 0x0A, 0x0B, 0x0F, 0x10, 0x11, 0x15, 0x16, 0x17, 0x19].map (ekey 0x2100)) ++ [ekey 0x4200 0xC]
    ++ (List.range 6).flatMap (fun p => portBoundarySubs.map (ekey (portIdx p))) ++ (List.range 64).map (fun k => ekey 0x8100 (k + 1))
  s.onWtimes (fun t => keys.foldl (fun t k => tabPut {} t k { stamp := s.now, held := decide (k / 256 = 0x2100) }) t)

/-- The steps from 25 ms to PRE-OPERATIONAL. -/
def State.bootUnits (s : State) : State :=
  let u := s.loadVintage.bootNode.commInForce.bootImage
  let u := ((List.range 32).foldl (fun a q => a.bootQueue q) u).videoBoot
  let u := u.portsBegin.audioBegin
  let u := (u.onBoot (fun b => { b with st := .running })).stampBoundaries
  let u := (u.bootUp.setStopLine false).zonesBegin.conditionsAnew
  u.nmtStartup

/-- BOOT_COMPLETE: boot ends in PRE-OPERATIONAL, or in recovery when no slot verifies (R540). -/
def execBootComplete (s : State) : Host.Outcome State Fault Refusal :=
  .next (if s.boot.st = .booting ∧ s.powered = true then
    let u := s.selectKeys.abandonSlot
    match u.pickBoot u.bootOrder with
    | (none, t) => (t.book 0xE7F2 4 3 []).onBoot (fun b => { b with st := .recovery })
    | (some k, t) => (t.enterFirmware k).bootUnits
  else s)

/-- BOOT_CONFIRM (R539). -/
def execBootConfirm (val : BitVec 32) (s : State) : Host.Outcome State Fault Refusal :=
  .next (s.byFirmware (fun s => if val.getLsbD 0 then s.onBoot (fun b => { b with attempts := 0 }) else s))

/-- DFU_DOWNLOAD (R540): a verified image goes into slot 0 and a reset follows. -/
def execDfuDownload (image : List Byte) (s : State) : Host.Outcome State Fault Refusal :=
  .next (if s.boot.st = .recovery then
    if image.length ≤ 1044480 ∧ numAt image 12 4 = image.length ∧ s.bootImageCode image = 0 then
      let g := (max (if s.bootCommitted 0 then s.bootGen 0 else 0) (if s.bootCommitted 1 then s.bootGen 1 else 0) + 1) % 2 ^ 32
      let u := (((s.nvmPut (bootBase 0 + 0xFFFF8) (leBytes 8 0)).nvmPut (bootBase 0) image).nvmPut (bootBase 0 + 0xFF000) (leBytes 4 g)).nvmPut
        (bootBase 0 + 0xFFFF8) (leBytes 8 (bootCommit g))
      (u.emit (.dfu true)).resetStart 4
    else s.emit (.dfu false)
  else s)

/-! ### Boot slot and key list updates (17 R542) -/

/-- GO of BOOT_WRITE_CONTROL: COMMIT of the target becomes 0, the content is copied and verified; a store or install that
runs refuses the update and leaves the target empty. -/
def State.bootWrite (keyList : Bool) (s : State) : State :=
  if s.boot.update.isSome then s
  else
    let n := s.boot.writeLength
    let src := offsetOf s.boot.writeSource
    let l := s.bytesAt src n
    let k := if keyList then (match s.boot.keyList with | some 0 => 1 | _ => 0) else 1 - s.boot.slot
    let base := if keyList then keyListBase k else bootBase k
    let readable := s.isLocal s.boot.writeSource && cacheable src && (s.ncReadFail .inner src n).isNone
    let busy := s.storing || s.nvm.installing.isSome
    let g := if keyList then max ((s.keyCopy 0).getD 0) ((s.keyCopy 1).getD 0) + 1
      else max (if s.bootCommitted 0 then s.bootGen 0 else 0) (if s.bootCommitted 1 then s.bootGen 1 else 0) + 1
    let u := s.nvmPut (base + (if keyList then 0xFF8 else 0xFFFF8)) (leBytes 8 0)
    if busy then u.onBoot (fun b => { b with writeFailed := true })
    else
      let fits := if keyList then decide (428 ≤ n ∧ n ≤ 0xFF8) else decide (128 ≤ n ∧ n ≤ 1044480)
      let ok := readable && fits && (if keyList then s.keyListOk l else decide (numAt l 12 4 = n) && decide (s.bootImageCode l = 0))
      (if readable && fits then u.nvmPut base l else u).onBoot (fun b => { b with
        update := some { keyList := keyList, target := k, ok := ok, generation := g % 2 ^ 32 } })

/-- BOOT_SLOT_WRITE. -/
def execBootSlotWrite (s : State) : Host.Outcome State Fault Refusal := .next (s.byFirmware (State.bootWrite false))

/-- KEY_LIST_WRITE. -/
def execKeyListWrite (s : State) : Host.Outcome State Fault Refusal := .next (s.byFirmware (State.bootWrite true))

/-- BOOT_UPDATE_COMPLETE: COMMIT is written last, or FAILED is set. -/
def execBootUpdateComplete (s : State) : Host.Outcome State Fault Refusal :=
  .next (match s.boot.update with
    | none => s
    | some j =>
      let u := s.onBoot (fun b => { b with update := none, writeFailed := b.writeFailed || !j.ok })
      if j.ok = false then u
      else if j.keyList then u.nvmPut (keyListBase j.target + 0xFF8) (leBytes 8 (keyCommit j.generation))
      else (u.nvmPut (bootBase j.target + 0xFF000) (leBytes 4 j.generation)).nvmPut (bootBase j.target + 0xFFFF8)
        (leBytes 8 (bootCommit j.generation)))

/-! ### Fuses (17 R532, R533; FIELD codes: log 33) -/

/-- Whether another hash than k stays in use. -/
def State.otherHash (s : State) (k : Nat) : Bool :=
  (List.range 4).any (fun i => decide (i ≠ k) && !s.boot.fuses.revoked.getLsbD i && !zeroHash (s.bootHash i))

/-- DEBUG_KEY_HASH. -/
def State.debugHash (s : State) : List Byte := if s.boot.fuses.debugHash.isEmpty then Config.debugHash else s.boot.fuses.debugHash

/-- The fuses after FUSE_PROGRAM, none where it is refused; the bytes to be programmed are a free value. -/
def State.fused (s : State) (field index : Nat) : Option Fuses :=
  let f := s.boot.fuses
  let d := leBytes 32 s.drawn
  match field with
  | 0 => if s.boot.debug = true ∧ 1 ≤ index ∧ index ≤ 3 ∧ zeroHash (s.bootHash index) then
      some (if index = 1 then { f with bootHash1 := d } else if index = 2 then { f with bootHash2 := d } else { f with bootHash3 := d })
    else none
  | 1 => if index ≤ 3 ∧ s.otherHash index = true then some { f with revoked := f.revoked ||| BitVec.ofNat 4 (2 ^ index) } else none
  | 2 => if s.boot.debug then some { f with debugHash := (s.debugHash.zip d).map (fun p => p.1 ||| p.2) } else none
  | 3 => some { f with rollback := f.rollback ||| BitVec.ofNat 64 (2 ^ index) }
  | 4 => if s.boot.debug then some { f with debugDisable := true } else none
  | _ => none

/-- GO of FUSE_PROGRAM. -/
def State.fuseProgram (field index : Nat) (s : State) : State :=
  match s.fused field index with
  | none => s.onBoot (fun b => { b with fuseRefused := true })
  | some f => (s.draw).onBoot (fun b => { b with fuses := f })

/-- FUSE_PROGRAM (R533). -/
def execFuseProgram (field index : Nat) (s : State) : Host.Outcome State Fault Refusal := 
  .next (s.byFirmware (State.fuseProgram (field % 16) (index % 8)))

/-- Sets the lowest clear bits until n are set. -/
def raiseBits (n : Nat) (v : BitVec 64) : BitVec 64 :=
  (List.range 64).foldl (fun a i =>
    if sumN ((List.range 64).map (fun k => b2n (a.getLsbD k))) < n ∧ a.getLsbD i = false then a ||| BitVec.ofNat 64 (2 ^ i) else a) v

/-- A write of ROLLBACK_ADVANCE. -/
def State.rollbackAdvance (v : Nat) (s : State) : State :=
  if s.boot.security < v then s.onBoot (fun b => { b with fuseRefused := true })
  else s.onBoot (fun b => { b with fuses := { b.fuses with rollback := raiseBits v b.fuses.rollback } })

/-- ROLLBACK_ADVANCE (R533). -/
def execRollbackAdvance (val : BitVec 32) (s : State) : Host.Outcome State Fault Refusal := 
  .next (s.byFirmware (State.rollbackAdvance (bits val.toNat 0 7)))

/-! ### Debug and JTAG (17 R543 to R545) -/

/-- Whether a response is right. -/
def State.debugOk (s : State) (sig : List Byte) : Bool :=
  match s.boot.keyList with
  | none => false
  | some k =>
    let pub := s.bytesAt (keyListBase k + 268) 32
    decide (Config.sha256 pub = s.debugHash)
    && Config.ed25519Ok pub (textBytes "KDBG" ++ s.boot.challenge ++ leBytes 4 Config.serial) sig

/-- A write of DEBUG_RESPONSE; each renews the challenge; one of another length is no write (R77, log 78). -/
def State.debugResponse (sig : List Byte) (s : State) : Nat × State :=
  if sig.length ≠ 64 then (0x06070010, s)
  else if s.comm.nmt ≠ .preOperational then (0x08000022, s.newChallenge)
  else if s.boot.fuses.debugDisable then (0x06010000, s.newChallenge)
  else if 3 ≤ s.boot.debugFails then (0x08000020, s.newChallenge)
  else if s.debugOk sig then
    (0, ((s.onBoot (fun b => { b with debug := true })).book 0xE7F3 4 1 (leBytes 1 s.boot.keyIndex)).newChallenge)
  else (0x08000020, (s.onBoot (fun b => { b with debugFails := b.debugFails + 1 })).newChallenge)

/-- DEBUG_RESPONSE (R544). -/
def execDebugResponse (sig : List Byte) (s : State) : Host.Outcome State Fault Refusal :=
  .next (s.written (fun s => let r := s.debugResponse sig; r.2.answer r.1))

/-- The identification code. -/
def State.idcode (s : State) : Nat := 0xB * 2 ^ 28 + s.product * 2 ^ 12 + 0x4B5

/-- IDCODE (R543). -/
def execIdcode (s : State) : Host.Outcome State Fault Refusal :=
  .next ((s.onBoot (fun b => { b with jtagId := true })).emit (.jtag s.idcode))

/-- BYPASS (R543): the bypass register captures 0 (log 9). -/
def execBypass (s : State) : Host.Outcome State Fault Refusal :=
  .next ((s.onBoot (fun b => { b with jtagId := false })).emit (.jtag 0))

/-- The watchdog pauses while the debugger holds cantor 0 (R529). -/
def Boot.pause (b : Boot) (now : Nat) (stop : Bool) : Boot :=
  if stop = b.wdPaused then b else { b with wdPaused := stop, wdAt := now - b.wdAt }

/-- Halts or resumes a cantor. -/
def State.debugHalt (c : Nat) (on : Bool) (s : State) : State :=
  s.onBoot (fun b =>
    let m := BitVec.ofNat 8 (2 ^ c)
    let b := { b with halted := if on then b.halted ||| m else b.halted &&& ~~~m }
    if c = 0 then b.pause s.now on else b)

/-! ### Ethernet links (03 R91) -/

/-- ETH_LINK_CHANGE: LINK_STATE follows the PHY, which is powered down from reset to boot (R531). -/
def execEthLinkChange (p : Fin 2) (state : Fin 3) (s : State) : Host.Outcome State Fault Refusal :=
  .next (if s.boot.st = .running then s.setEnt (ethIdx p) 7 state.val else s)

end Sys2Proof.Machine
end

