-- ==== Sys2Proof/Machine/Power.lean ====
section
/-! DEFINITION. The power manager: power states, shutdown, power-on, brownout, the core regulator, operating points,
temperatures and tile gating (15_power_manager.md). -/

namespace Sys2Proof.Machine

/-! ### Records and what is lost (R495, R498) -/

/-- The payload of record 0xE7D0. -/
def State.shutdownPayload (s : State) (cause : Nat) : List Byte :=
  leBytes 1 cause ++ leBytes 2 s.power.vin ++ leBytes 2 (toBits 16 s.junction)

/-- Whether an offset lies in MRAM. -/
def inMram (a : Nat) : Bool := decide (mramBase ≤ a) && decide (a < mramBase + 0x2000000)

/-- Whether an offset lies in package DRAM. -/
def inDram (a : Nat) : Bool := decide (0x400000000 ≤ a) && decide (a < 0x800000000)

/-- Memory keeps only the places of a test; what is lost reads as memory nothing has written (log 4). -/
def State.keepMem (p : Nat → Bool) (s : State) : State := { s with mem := s.mem.filter (fun c => p c.1) }

/-- Without power only MRAM keeps its content, and with it its errors. -/
def MemUnit.powered (m : MemUnit) : MemUnit := { poison := tabDrop m.poison (fun l => !inMram (l * 64)) }

/-- Stop line, NVM operations and the Cellar Book as a shutdown or STANDBY entry leaves them. -/
def State.putAway (cause sev : Nat) (s : State) : State :=
  (((s.setStopLine true).abandonNvm.closeSessions.flushBook).book 0xE7D0 2 sev (s.shutdownPayload cause)).flushBook

/-- An orderly shutdown with its cause (R481, R495). One that has started is not started again. -/
def State.shutdown (cause : Nat) (s : State) : State :=
  if s.power.st = .off then s
  else
    let u := ((s.putAway cause 2).pvid 2 0).clearUnits.keepMem inMram
    let u := ((((u.onBeat (fun _ => {})).onChoir (fun _ => {})).onMem MemUnit.powered).onNvm (fun _ => {})).onForces (fun _ => [])
    let u := (List.range 6).foldl (fun a p => a.onPort p (fun x => { x with efuseAt := none })) u
    let u := u.onComm (fun c => { c with latent := c.latent.filter (fun x => decide (x.source = 0x1F)) })
    (u.onBoot (fun b => { fuses := b.fuses })).onPower (fun p => {
      vin := p.vin, vport := p.vport, inputMw := p.inputMw, hubTemp := p.hubTemp, tileTemp := p.tileTemp, st := .off,
      offCause := cause, lastCause := p.lastCause })

/-! ### Power-on (R476, R496) -/

/-- The types of record that R496 looks at: 0xE7D0, 0xE001, and 0xE002 of a wake. -/
def leaveRecord (b : List Byte) : Bool :=
  decide (numAt b 4 2 = 0xE7D0) || decide (numAt b 4 2 = 0xE001) || (decide (numAt b 4 2 = 0xE002) && decide (numAt b 22 1 = 6))

/-- The records of the ring, newest first. -/
def State.ringBack (s : State) : List (List Byte) :=
  (List.range 16384).filterMap (fun k =>
    s.ringAt ((s.nvm.nextSlot + 16383 - k) % 16384))

/-- LAST_SHUTDOWN_CAUSE at a power-on. -/
def State.shutdownCause (s : State) : Nat :=
  let l := s.ringBack
  if l.any (fun b => decide (numAt b 4 2 = 0xE001)) = false then 0
  else match l.find? leaveRecord with
    | some b => if numAt b 4 2 = 0xE7D0 then numAt b 22 1 else 2
    | none => 2

/-- The device powers on with VIN at 17.0 V or above, its value free: device time and beat start at 0 and boot begins. The island keeps its state where VIN_SAFE
stayed up, and its own clock goes on (log 5). -/
def State.turnOn (contiguousSafe : Bool) (s : State) : State :=
  let u := ((s.setNow 0).beltClock s.now).onBeat (fun _ => {})
  let u := u.draw.onPower (fun p => { p with vin := 17000 + u.drawn % 15001 })
  let u := u.onIsland (fun i => { i with epoch := i.epoch + s.now })
  let u := (if contiguousSafe then u else u.islandFresh).bootBook
  let c := u.shutdownCause
  (((u.onPower (fun p => { p with st := .idle, lastCause := c, offCause := 0 })).book 0xE001 4 0 (leBytes 1 c)).newChallenge.pvid 2 1).pvid 1 30

/-- POWER_ON (R476, R481): after a thermal shutdown once the hub junction is below 90 °C. -/
def execPowerOn (contiguousSafe : Bool) (s : State) : Host.Outcome State Fault Refusal :=
  .next (if s.power.st = .off ∧ (s.power.offCause = 4 → s.power.hubTemp < 900) then s.turnOn contiguousSafe else s)

/-! ### Operating points (R487 to R490) -/

/-- Press engine clock of a point in kHz. -/
def pressKhz (p : Nat) : Nat := [312500, 500000, 625000, 750000, 875000, 1000000, 1125000, 1250000].getD p 1250000

/-- VCORE of a point in mV. -/
def pointMv (p : Nat) : Nat := [650, 680, 700, 720, 750, 780, 820, 860].getD p 860

/-- The upper limit (R489). -/
def Power.upper (p : Power) : Nat := min (min p.opMax p.thermalCap) (if p.park then 3 else 7)

/-- The lower limit. -/
def Power.lower (p : Power) : Nat := min p.opMin p.upper

/-- The point last decided. -/
def Power.decided (p : Power) : Nat := p.target.getD p.point

/-- A decision, clamped by the limits. -/
def Power.decide (p : Power) (n : Nat) : Power :=
  let c := max p.lower (min n p.upper)
  if c = p.decided then p else { p with target := some c }

/-- The limits are applied whenever a cap changes; in IDLE the point is the lower limit. -/
def Power.follow (p : Power) : Power := p.decide (if p.st = .active then p.decided else 0)

/-- The state after a limit, a cap or the power state changed. -/
def State.followLimits (s : State) : State := if s.powered then s.onPower Power.follow else s

/-- The thermal cap's step at a decision (R493). -/
def State.capStep (s : State) : State :=
  let t := s.junction
  s.onPower (fun p => { p with
    thermalCap := if 1000 ≤ t then p.thermalCap - 1 else if t < 950 then min 7 (p.thermalCap + 1) else p.thermalCap })

/-- Whether a point's press clock is at least f * L / 0.7. -/
def pointEnough (p kHz us period : Nat) : Bool := decide (10 * kHz * us ≤ 7 * pressKhz p * period)

/-- The point R488 decides at beat n from the 64 beats before it. -/
def State.wantedPoint (s : State) (n : Nat) : Nat :=
  let old := fun k => Nat.ble n (k + 64) && Nat.blt k n
  if s.power.lagged.any old then 7
  else
    let us := (s.power.pressUs.filter (fun e => old e.1)).foldl (fun m e => max m e.2) 0
    let p := ((List.range 8).find? (fun p => pointEnough p (pressKhz s.power.point) us s.beat.activePeriod)).getD 7
    max p (s.power.decided - 1)

/-- The decision at a boundary whose beat number is a multiple of 64. -/
def State.decidePoint (n : Nat) (s : State) : State :=
  if s.powered = false then s
  else if n % 64 ≠ 0 then s.followLimits
  else
    let u := s.capStep
    let v := if u.power.st = .active then u.onPower (fun p => p.decide (u.wantedPoint n)) else u.followLimits
    v.onPower (fun p => { p with lagged := p.lagged.filter (fun k => Nat.ble n (k + 64)) })

/-- OPERATING_POINT_CHANGE (R490): the change that is due begins; upward SET_VID goes first and the clocks follow once
VCORE has settled, downward the clocks switch first. A change due while one runs waits for it. -/
def execOperatingPointChange (s : State) : Host.Outcome State Fault Refusal :=
  .next (match s.power.target with
    | none => s
    | some p =>
      if s.powered = false ∨ s.power.settling = true then s
      else if p = s.power.point then s.onPower (fun x => { x with target := none })
      else (s.onPower (fun x => { x with
        commanded := pointMv p, settling := true, point := if p < x.point then p else x.point })).pvid 1 ((pointMv p - 500) / 5))

/-- The point whose VCORE is commanded. -/
def Power.commandedPoint (p : Power) : Nat := ((List.range 8).find? (fun k => Nat.beq (pointMv k) p.commanded)).getD p.point

/-- VCORE_SETTLED (R479, R490): within 10 mV of the command. -/
def execVcoreSettled (mv : Nat) (s : State) : Host.Outcome State Fault Refusal :=
  .next (if s.powered = true ∧ s.power.commanded ≤ mv + 10 ∧ mv ≤ s.power.commanded + 10 then
    s.onPower (fun p =>
      if p.settling then
        { p with vcore := mv, settling := false, point := p.commandedPoint,
                 target := if p.target = some p.commandedPoint then none else p.target }
      else { p with vcore := mv })
  else s)

/-- PVID_RESEND (R477): a refused or unacknowledged frame is sent again once, 10 µs after its 2.4 µs; refused again it is a
regulator fault. -/
def execPvidResend (s : State) : Host.Outcome State Fault Refusal :=
  .next (if s.power.st = .off ∨ s.power.pvidRefused ≠ 0 then s
    else ((s.upTo (s.power.pvidAt + 12)).emit (.pvid (pvidFrame s.power.pvidCmd s.power.pvidData))).onPower
      (fun p => { p with pvidRefused := 1 }))

/-! ### Shutdown causes (R475, R480, R481, R493) -/

/-- VIN_LOW_SHUTDOWN: the 16 V warning is raised with it if it was not raised before. -/
def execVinLowShutdown (vinMv : Nat) (s : State) : Host.Outcome State Fault Refusal :=
  .next (if vinMv < 14000 then
    let u := s.onPower (fun p => { p with vin := vinMv })
    (if u.powered then u.raiseCond 0x3120 2 0 [] else u).shutdown 1
  else s)

/-- RAIL_FAULT. -/
def execRailFault (s : State) : Host.Outcome State Fault Refusal := .next (s.shutdown 6)

/-- REGULATOR_FAULT (R480): READ_STATUS, record 0xE7D1, shutdown with cause VCORE_FAULT. -/
def execRegulatorFault (status : BitVec 12) (s : State) : Host.Outcome State Fault Refusal :=
  .next (if s.powered then
    ((s.pvid 3 0).book 0xE7D1 2 2 (leBytes 2 status.toNat ++ leBytes 2 s.power.vcore ++ leBytes 2 s.power.commanded)).shutdown 5
  else s)

/-- TEMPERATURE_SAMPLE (R493): the powered tiles only; in STANDBY and OFF the hub's junction alone is watched (R481). -/
def execTemperatureSample (hub : Int) (tiles : List Int) (s : State) : Host.Outcome State Fault Refusal :=
  .next (
    let hot := (List.range 4).foldl (fun (m : Option Int) t =>
      if s.tileUp t then (match tiles[t]?, m with
        | some x, some y => some (max x y)
        | some x, none => some x
        | none, m => m) else m) none
    let u := s.onPower (fun p => { p with hubTemp := hub })
    if s.power.st = .off then u
    else if s.powered = false then (if 1250 ≤ hub then u.shutdown 4 else u)
    else
      let u := (u.onPower (fun p => { p with tileTemp := hot.getD p.tileTemp })).heatCheck
      if 1250 ≤ u.junction then u.shutdown 4 else u)

/-! ### Brownout (R494) -/

/-- BROWNOUT_WARNING: EMCY 0x3120 and the park. -/
def execBrownoutWarning (vinMv : Nat) (s : State) : Host.Outcome State Fault Refusal :=
  .next (if s.powered = true ∧ vinMv < 16000 ∧ s.power.park = false then
    (((((s.onPower (fun p => { p with vin := vinMv, park := true })).raiseCond 0x3120 2 0 []).count 0x2200 0xB 1).beltStop 5).audioFollow).followLimits
  else s.onPower (fun p => { p with vin := vinMv }))

/-- BROWNOUT_END: the warning and the park end; the belt is not restarted. -/
def execBrownoutEnd (vinMv : Nat) (s : State) : Host.Outcome State Fault Refusal :=
  .next (if s.powered = true ∧ 17000 ≤ vinMv ∧ s.power.park = true then
    (((s.onPower (fun p => { p with vin := vinMv, park := false })).endCond 0x3120 2 0).audioFollow).followLimits
  else s.onPower (fun p => { p with vin := vinMv }))

/-! ### STANDBY (R482 to R484) -/

/-- STANDBY is entered: everything but MRAM, package DRAM, the beat and VDD_AON's own registers is lost. -/
def State.enterStandby (s : State) : State :=
  let on := sumN ((List.range 6).map (fun p => b2n (decide (s.ent (portIdx p) 2 = 1)) * 2 ^ p))
  let u := ((s.putAway 3 0).clearUnits.pvid 2 0).keepMem (fun a => inMram a || inDram a)
  (((u.onMem MemUnit.powered).onChoir (fun _ => {})).onBoot (fun b => { b.reset b.cause u.now with st := .booting })).onPower
    (fun p => { p with st := .standby, wakePorts := BitVec.ofNat 6 on })

/-- An accepted request is acted on once the device is IDLE. -/
def State.standbyDue (s : State) : State := if s.power.st = .idle ∧ s.ent 0x2200 2 = 1 then s.enterStandby else s

/-- A write of POWER_REQUEST. -/
def State.powerRequest (v : Nat) (s : State) : Nat × State :=
  if v = 1 ∧ s.comm.nmt = .operational then (0x08000022, s)
  else if v = 1 ∧ s.storing = true then (0x0F000020, s)
  else (0, (s.writeEnt 0x2200 2 v).standbyDue)

/-- STANDBY_REQUEST. -/
def execStandbyRequest (s : State) : Host.Outcome State Fault Refusal := .next (s.guarded 0x2200 2 1 (State.powerRequest 1))

/-- WAKE (R484): an insertion wakes on a port that is enabled. -/
def execWake (src : WakeSrc) (s : State) : Host.Outcome State Fault Refusal :=
  .next (match src with
    | .insertion p =>
      if s.power.st = .standby ∧ p.val < s.portCount then
        let u := s.onPort p.val (fun x => { x with present := true })
        if s.power.wakePorts.getLsbD p.val then u.wake else u
      else s
    | _ => s.wake)

/-! ### Tile gating (R485) -/

/-- Whether a range of addresses of the own package meets a tile's slice. -/
def State.meetsSlice (s : State) (t addr n : Nat) : Bool :=
  s.isLocal addr && overlaps (offsetOf addr) n (sliceBase (t + 1)) (sliceSize (t + 1))

/-- Whether a memory transaction to a tile's slice is in flight: of a mover, or a writeback to it. -/
def State.sliceBusy (s : State) (t : Nat) : Bool :=
  s.memu.movers.any (fun m => m.2.flight.any (fun d => s.meetsSlice t d.dst d.len || (!d.fill && s.meetsSlice t d.src d.len)))
  || s.memu.dir.any (fun d => decide (sliceTile (d.1 * 64) = some t) && (decide (d.2.st = .wbPending) || !d.2.queue.isEmpty))
  || (s.memu.sbuf ++ s.memu.late).any (fun e => e.2.any (fun p => decide (sliceTile p.addr = some t)))

/-- Whether the receiver of a link direction, named by its credit key, lies in a tile. -/
def credInto (t k : Nat) : Bool :=
  let r := k / 16
  let no := k / 2 % 8
  if 1 ≤ no ∧ no ≤ 4 then (match meshNext r (dirOf no) with
    | some q => Nat.beq (q / 64) t
    | none => Nat.beq (r / 64) t)
  else Nat.beq (r / 64) t

/-- The fabric without the content of a tile; the credits of every link into it start anew (07 R239). -/
def Fabric.withoutTile (f : Fabric) (t : Nat) : Fabric :=
  { f with
    cores := tabDrop f.cores (fun k => Nat.beq (k / 64) t), routers := tabDrop f.routers (fun k => Nat.beq (k / 64) t),
    entries := tabDrop f.entries (fun k => Nat.beq (k / 65536) t), leaves := tabDrop f.leaves (fun k => Nat.beq (k / 131072) t),
    entryCount := tabDrop f.entryCount (fun k => Nat.beq (k / 64) t), defaultRoute := tabDrop f.defaultRoute (fun k => Nat.beq (k / 64) t),
    onLink := tabDrop f.onLink (fun k => Nat.beq (k / 1024) t), credits := tabDrop f.credits (credInto t),
    creditsBack := tabDrop f.creditsBack (credInto t), tableStatus := tabDrop f.tableStatus (fun k => Nat.beq k t) }

/-- The dispatcher and engines without those of a tile. -/
def Press.withoutTile (p : Press) (t : Nat) : Press :=
  let here := fun k => Nat.beq (k / 1024) t
  { p with
    tasks := tabDrop p.tasks here, templates := tabDrop p.templates (fun k => Nat.beq (k / 512) t),
    running := p.running.filter (fun r => match r.2 with | some k => !here k | none => true),
    templateCount := tabDrop p.templateCount (fun k => Nat.beq k t), refused := tabDrop p.refused (fun k => Nat.beq k t),
    refuseCause := tabDrop p.refuseCause (fun k => Nat.beq k t), cancelMissed := tabDrop p.cancelMissed (fun k => Nat.beq k t) }

/-- A tile is power-gated: it keeps no content (06 R219, 07 R251, 08 R289). -/
def State.gateTile (t : Nat) (s : State) : State :=
  let mine := fun a => decide (sliceTile a = some t) || (Nat.ble (coreBase (64 * t)) a && Nat.blt a (coreBase (64 * t + 64)))
  let u := ((s.onFabric (fun f => f.withoutTile t)).onPress (fun p => p.withoutTile t)).keepMem (fun a => !mine a)
  let u := u.onMem (fun m => { m with
    dir := tabDrop m.dir (fun l => mine (64 * l)), l2 := m.l2.filter (fun l => !mine (64 * l)), cluster := tabDrop m.cluster (fun l => mine (64 * l)),
    poison := tabDrop m.poison (fun l => mine (64 * l)) })
  let u := u.onRegs (fun r => tabDrop r (fun k => Nat.beq (k / 65536) (0x10 + t) || Nat.beq (k / 65536) (0x20 + t)))
  u.onPower (fun p => { p with gated := p.gated ||| BitVec.ofNat 4 (2 ^ t) })

/-- TILE_GATE: a tile that the loaded image does not need and no transaction aims at. -/
def execTileGate (t : Fin 4) (s : State) : Host.Outcome State Fault Refusal :=
  .next (if s.boot.st = .running ∧ s.nvm.loadPending = false ∧ s.tileUp t = true ∧ s.tileNeeded t = false ∧ s.sliceBusy t = false then
    s.gateTile t else s)

end Sys2Proof.Machine
end

