-- ==== Sys2Proof/Machine/Entries.lean ====
section
/-! DEFINITION. Writes of object entries by any path (03 R77 to R81, R97): the checks of their cards, then the effect each
unit gives its entries. -/

namespace Sys2Proof.Machine

/-- An outcome of a write: its status code, none where the answer waits for the end of what it started, and the state. -/
abbrev Wrote := Option Nat × State

/-- An outcome that is answered at once. -/
def done (r : Nat × State) : Wrote := (some r.1, r.2)

/-- An outcome that is answered at once when refused, and later otherwise. -/
def waits (r : Nat × State) : Wrote := (if r.1 = 0 then none else some r.1, r.2)

/-! ### Communication entries -/

/-- The mappability a direction asks for. -/
def pdoDir (idx : Nat) : Pdo := if idx < 0x1800 then .r else .t

/-- What naming an entry in a mapping answers, 0 where it may be mapped (R78, R97). -/
def State.mapCode (s : State) (dir : Pdo) (w : Nat) : Nat :=
  match s.find (bits w 16 16) (bits w 8 8) with
  | .noIndex => 0x06020000
  | .noSub => 0x06090011
  | .card c => if c.pdo = dir ∧ c.ty.size.isSome = true ∧ bits w 0 8 = 8 * c.ty.size.getD 0 % 256 then 0 else 0x06040041

/-- What writing the number of mapped entries answers. -/
def State.countCode (s : State) (idx n : Nat) : Nat :=
  let words := (List.range n).map (fun k => s.ent idx (k + 1))
  match words.find? (fun w => decide (s.mapCode (pdoDir idx) w ≠ 0)) with
  | some w => s.mapCode (pdoDir idx) w
  | none => if 512 < sumN (words.map (fun w => 8 * (s.mapRef w).2.2)) then 0x06040042 else 0

/-- A PDO whose parameters change starts anew. -/
def State.pdoAnew (idx : Nat) (s : State) : State :=
  s.onComm (fun c => { c with
    rpdo := if idx < 0x1800 then tabPut {} c.rpdo (idx % 16) {} else c.rpdo,
    tpdo := if idx < 0x1800 then c.tpdo else tabPut {} c.tpdo (idx % 16) {} })

/-- A write to a PDO parameter (R97, R98): words are written while the number of entries is 0; the word 0 names nothing
(log 11). -/
def State.pdoWrite (idx sub v : Nat) (s : State) : Nat × State :=
  let map := decide (0x1600 ≤ idx ∧ idx < 0x1800) || decide (0x1A00 ≤ idx)
  let code :=
    if map = true ∧ sub = 0 then s.countCode idx v
    else if map = true ∧ s.ent idx 0 ≠ 0 then 0x06010000
    else if map = true ∧ v ≠ 0 then s.mapCode (pdoDir idx) v
    else if map = false ∧ sub = 2 ∧ 241 ≤ v ∧ v ≤ 253 then 0x06090030
    else 0
  if code ≠ 0 then (code, s) else (0, (s.writeEnt idx sub v).pdoAnew idx)

/-- The heartbeat consumer entry i is written: monitoring starts anew and its condition ends (R100). -/
def State.consumerWrite (sub v : Nat) (s : State) : State :=
  ((s.onComm (fun c => { c with hbSeen := c.hbSeen.filter (fun e => decide (e.1 ≠ bits (s.ent 0x1016 sub) 16 8)) })).writeEnt
    0x1016 sub v).endCond 0x8130 0x2A (sub - 1)

/-- Writes of 0x1000 to 0x1FFF. -/
def State.hookComm (idx sub v : Nat) (who : StoreFor) (s : State) : Wrote :=
  if idx = 0x1003 then (some 0, s.onComm (fun c => { c with errHist := [] }))
  else if idx = 0x1010 then waits (s.storeWrite sub false who v)
  else if idx = 0x1011 then waits (s.storeWrite sub true who v)
  else if idx = 0x1016 then (some 0, s.consumerWrite sub v)
  else if idx = 0x1017 then (some 0, (s.writeEnt idx sub v).onComm (fun c => { c with hbLast := s.now }))
  else if 0x1400 ≤ idx then done (s.pdoWrite idx sub v)
  else (some 0, s.writeEnt idx sub v)

/-! ### Device-wide entries -/

/-- Writes of 0x2100 (02 R74): the holdover entries act at once (03 R80), the others at the boundary R46 names. -/
def State.hookBeat (sub v : Nat) (s : State) : Nat × State :=
  if sub = 0x17 ∧ s.ent 0x2100 3 ≤ v then (0x06090030, s)
  else if sub = 0xA ∨ sub = 0xB then (0, (s.writeEnt 0x2100 sub v).setForce 0x2100 sub v)
  else (0, s.writeEnt 0x2100 sub v)

/-- Writes of 0x2300 (04 R138 to R141). -/
def State.hookInstall (sub v : Nat) (data : List Byte) (who : StoreFor) (s : State) : Wrote :=
  if sub = 8 then
    (if v = 1 then done s.installBegin
     else if v = 2 then waits (s.installCommit who)
     else if v = 3 then done s.installAbort
     else s.installActivate who)
  else if sub = 0xA then done (s.installData data)
  else (some 0, s.writeEnt 0x2300 sub v)

/-- Writes of 0x2000 to 0x2FFF. -/
def State.hookDevice (idx sub v : Nat) (data : List Byte) (who : StoreFor) (s : State) : Wrote :=
  if idx = 0x2100 then done (s.hookBeat sub v)
  else if idx = 0x2200 ∧ sub = 2 then done (s.powerRequest v)
  else if idx = 0x2300 then s.hookInstall sub v data who
  else if idx = 0x2400 ∧ sub = 5 then (some 0, s.onNvm (fun n => { n with overwritten := 0 }))
  else if idx = 0x2500 ∧ sub = 6 then done (s.debugResponse data)
  else (some 0, s.writeEnt idx sub v)

/-! ### Entries of the units -/

/-- Writes of a port's entries (05 R164, R186). -/
def State.hookPort (p sub v : Nat) (s : State) : Nat × State :=
  if sub = 2 then s.portEnable p v
  else if sub = 3 then s.portCommand p v
  else (0, s.writeEnt (portIdx p) sub v)

/-- Writing 0 to any of the four ledger totals clears all four (07 R246). -/
def State.hookLedger (sub v : Nat) (s : State) : Nat × State :=
  if 1 ≤ sub ∧ sub ≤ 4 then (0, (((s.writeEnt 0x4200 1 0).writeEnt 0x4200 2 0).writeEnt 0x4200 3 0).writeEnt 0x4200 4 0)
  else (0, s.writeEnt 0x4200 sub v)

/-- The sum of a queue's level capacities, taken at enable or by its configuration (09 R295, R311). -/
def State.qTotal (s : State) (q : Nat) : Nat :=
  let x := s.q q
  if x.st = .disabled then s.qEnt q 4 * levelCapOf (decide (s.qEnt q 3 = 1)) (s.qEnt q 5) (s.qEnt q 4) else x.levelCount * x.levelCap

/-- Writes of a queue's entries (09 R311, R317, R319). -/
def State.hookQueue (q sub v : Nat) (s : State) : Nat × State :=
  if sub = 2 then (if v = 1 then s.writeEnable1 q else (0, s.writeEnable0 q))
  else if 3 ≤ sub ∧ sub ≤ 7 then (if (s.q q).st = .disabled then (0, s.writeEnt (queueIdx q) sub v) else (0x08000022, s))
  else if sub = 8 then
    (if v = 0 ∨ s.qTotal q < v ∨ v ≤ s.qEnt q 9 then (0x06090030, s)
     else (0, (s.writeEnt (queueIdx q) 8 v).watermarks q (s.q q).fill))
  else if sub = 9 then
    (if s.qEnt q 8 ≤ v then (0x06090030, s) else (0, (s.writeEnt (queueIdx q) 9 v).watermarks q (s.q q).fill))
  else if sub = 0xD then (0, (s.writeEnt (queueIdx q) 0xD v).refreshFc)
  else if sub = 0x10 then s.queueCommand q v
  else (0, s.writeEnt (queueIdx q) sub v)

/-- Writes of a gate's entries (12 R394, R395, R401). -/
def State.hookGate (g sub v : Nat) (s : State) : Nat × State :=
  if sub = 1 then (if v = 1 then s.gateEnable g else s.gateDisable g)
  else if sub = 2 then s.sourceWrite g false v
  else if sub = 3 then s.sourceWrite g true v
  else if sub = 7 ∨ sub = 8 then s.stuckWrite g sub v
  else if sub = 0xB then (if v = 1 then s.gateClear g else (0x06090030, s))
  else (0, s.writeEnt (gateIdx g) sub v)

/-- Writes of a region's entries (12 R397). -/
def State.hookRegion (r sub v : Nat) (s : State) : Nat × State :=
  let u := s.writeEnt (regionIdx r) sub v
  let f := fun k => u.ent (regionIdx r) k
  if ((sub = 2 ∨ sub = 4) ∧ f 4 < f 2) ∨ ((sub = 3 ∨ sub = 5) ∧ f 5 < f 3) ∨ ((sub = 6 ∨ sub = 7) ∧ f 6 ≤ f 7)
  then (0x06090030, s) else (0, u)

/-- Writes of a zone's entries (12 R407, R413, R414). -/
def State.hookZone (z sub v : Nat) (s : State) : Nat × State :=
  if sub = 3 then s.boundaryWrite z v
  else if sub = 7 then s.zoneCommand z v
  else if sub = 0xA then s.baggingWeight z v
  else (0, s.writeEnt (zoneIdx z) sub v)

/-- Writes of 0x6200 to 0x64FF (13). -/
def State.hookDrive (idx sub v : Nat) (s : State) : Nat × State :=
  if idx = 0x6200 ∧ sub = 2 then s.beltCommand v
  else if idx = 0x6400 ∧ 3 ≤ sub ∧ sub ≤ 6 then s.audioGainWrite sub v
  else if idx = 0x6400 ∧ sub = 7 then s.audioCommand v
  else (0, s.writeEnt idx sub v)

/-- Writes of 0x6F00 (14 R468). -/
def State.hookSafety (sub : Nat) (data : List Byte) (who : StoreFor) (s : State) : Wrote :=
  if sub = 1 then done (s.paramWrite data) else waits (s.confirmWrite who data)

/-- Writes of 0x8000 to 0x8FFF (11): CHOIR_ENABLE 0 brings the ports down, and the package stands alone (DEDUCED, log 36). The
reserved bytes of a CHOIR_KEY entry are 0 (R374). -/
def State.hookChoir (idx sub v : Nat) (s : State) : Nat × State :=
  if idx = 0x8000 ∧ sub = 1 ∧ v = 0 then
    let u := ((s.writeEnt 0x8000 1 0).clDown 0).clDown 1
    (0, if u.choir.role = .standalone then u else u.standAlone)
  else if idx = 0x8100 ∧ 2 ^ 80 ≤ v then (0x06090030, s)
  else (0, s.writeEnt idx sub v)

/-- The effect of a write that passed the checks of its card. -/
def State.hook (idx sub v : Nat) (data : List Byte) (who : StoreFor) (s : State) : Wrote :=
  if idx < 0x2000 then s.hookComm idx sub v who
  else if idx < 0x3000 then s.hookDevice idx sub v data who
  else if idx < 0x4000 then done (s.hookPort ((idx - 0x3000) / 0x100) sub v)
  else if idx = 0x4200 then done (s.hookLedger sub v)
  else if idx = 0x5300 ∧ sub = 1 then done (s.weightWrite v)
  else if idx < 0x6000 then (some 0, s.writeEnt idx sub v)
  else if idx < 0x6080 then done (s.hookGate (idx - 0x6010) sub v)
  else if idx < 0x6100 then done (s.hookRegion (idx - 0x6080) sub v)
  else if idx < 0x6200 then done (s.hookZone (idx - 0x6100) sub v)
  else if idx < 0x6800 then done (s.hookDrive idx sub v)
  else if idx < 0x7000 then s.hookSafety sub data who
  else if idx = 0x7000 then (some 0, s.writeEnt idx sub v)
  else if idx < 0x8000 then done (s.videoWrite (idx - 0x7100) sub v)
  else if idx < 0x9000 then done (s.hookChoir idx sub v)
  else done (s.hookQueue ((idx - 0x9000) / 0x40) sub v)

/-! ### Writes and reads by any path -/

/-- Whether the length of a written value fails its type (R78); the entries whose chapters test it themselves pass here. -/
def badLength (idx sub : Nat) (ty : Ty) (n : Nat) : Bool :=
  match ty.size with
  | none => false
  | some k => decide (n ≠ k) && !(decide (idx = 0x2500 ∧ sub = 6) || decide (idx = 0x6F00))

/-- A write of an entry (R77, R78, R81): the checks in this model's order (log 13), then its effect. -/
def State.writeEntry (idx sub : Nat) (data : List Byte) (who : StoreFor) (s : State) : Wrote :=
  match s.find idx sub with
  | .noIndex => (some 0x06020000, s)
  | .noSub => (some 0x06090011, s)
  | .card c =>
    if c.acc ≠ .ro ∧ c.acc ≠ .rws ∧ badLength idx sub c.ty data.length = true then (some 0x06070010, s)
    else if s.cardCheck c (leNum data) ≠ 0 then (some (s.cardCheck c (leNum data)), s)
    else s.hook idx sub (leNum data) data who

/-- What follows the response to a write: one to OAP_ACCESS or OAP_WRITE_CODE closes every session (R94). -/
def State.afterWrite (idx sub code : Nat) (s : State) : State :=
  if idx = 0x2500 ∧ (sub = 7 ∨ sub = 8) ∧ code = 0 then s.closeSessions else s

/-- A read of an entry: the answer, and the advance of BOOK_READ_SEQUENCE by a served read of BOOK_RECORD (04 R152). -/
def State.readEntry (idx sub : Nat) (s : State) : (Nat × Ty × List Byte) × State :=
  (s.peek idx sub, if idx = 0x2400 ∧ sub = 4 ∧ (s.peek idx sub).1 = 0 then s.bookRead.2 else s)

end Sys2Proof.Machine
end

