-- ==== Sys2Proof/Machine/Oap.lean ====
section
/-! DEFINITION. The Object Access Protocol: headers, sessions, sequence numbers, fragments, access messages, discovery and
Choir targets (03 R106 to R117). -/

namespace Sys2Proof.Machine

/-! ### Datagrams and answers (R106, R107, R110, R111) -/

/-- TARGET. -/
def reqTarget (h : OapHdr) : Nat := bits h.targetByte.toNat 0 4
/-- TARGET_VALID. -/
def reqTargeted (h : OapHdr) : Bool := h.flags.getLsbD 0

/-- The bytes that the CRC of a received datagram covers (R106). -/
def hdrBytes (h : OapHdr) (type index count : Nat) (data : List Byte) : List Byte :=
  leBytes 2 h.magic.toNat ++ leBytes 1 h.version.toNat ++ leBytes 1 type ++ leBytes 4 h.seq.toNat ++ leBytes 8 h.token.toNat
  ++ leBytes 1 index ++ leBytes 1 count ++ [h.targetByte, h.flags] ++ leBytes 4 h.status.toNat ++ leBytes 2 h.length.toNat
  ++ leBytes 2 h.reserved.toNat ++ data

/-- Whether a datagram stands: MAGIC, VERSION, LENGTH, the reserved bits and CRC (R107). -/
def hdrOk (h : OapHdr) (type index count : Nat) (data : List Byte) : Bool :=
  decide (h.magic = 0x4B4F) && decide (h.version = 1) && decide (h.length.toNat = data.length) && decide (data.length ≤ 1368)
  && decide (bits h.targetByte.toNat 4 4 = 0) && decide (bits h.flags.toNat 2 6 = 0) && decide (h.reserved = 0)
  && decide (h.crc.toNat = crc32 (hdrBytes h type index count data))

/-- Takes a datagram that stands; another is discarded and counted. A Choir follower refuses every request (R117). -/
def State.oapTake (h : OapHdr) (type index count : Nat) (data : List Byte) (f : State → State) (s : State) : State :=
  if s.boot.st ≠ .running then s
  else if hdrOk h type index count data = false then s.count 0x2020 1 1
  else if s.choir.role = .follower then s.oapSend (.host h.host) (type + 0x80) h.seq h.token none 0x08000022 []
  else f s

/-- Takes a message of one datagram. -/
def State.oapMessage (h : OapHdr) (type : Nat) (data : List Byte) (f : State → State) : State → State :=
  State.oapTake h type 0 1 data f

/-- The session of a token. -/
def State.session (s : State) (token : BitVec 64) : Option OapSession := s.oap.sessions.find? (fun x => decide (x.token = token))

/-- Answers a request within its session. -/
def State.respond (h : OapHdr) (type code : Nat) (data : List Byte) : State → State := State.oapRespond h.host type h.token h.seq code data

/-- How far a sequence number lies behind the newest seen, none when it is newer (R111). -/
def behind (x : OapSession) (seq : BitVec 32) : Option Nat :=
  match x.newest with
  | none => none
  | some n => if (n - seq).toNat < 2 ^ 31 then some (n - seq).toNat else none

/-- A request is seen: the session lives on, and its newest sequence number moves. -/
def OapSession.seen (x : OapSession) (seq : BitVec 32) (now : Nat) : OapSession :=
  { x with lastReq := now, newest := if (behind x seq).isNone then some seq else x.newest }

/-- Whether a request still executes, here or at a member. -/
def State.stillRuns (s : State) (x : OapSession) (seq : BitVec 32) : Bool :=
  x.busy.any (fun b => decide (b.seq = seq)) || s.oap.forwarded.any (fun f => decide (f.2.2.1 = x.token) && decide (f.2.2.2.1 = seq))

/-- The session of a request has seen it. -/
def State.seenBy (s : State) (h : OapHdr) : State := s.onSession h.token (fun y => y.seen h.seq s.now)

/-- The session rules of a request (R110, R111): a cached one gets its response again, one that still executes none, one
behind the last 16 is refused; any other is executed. -/
def State.inSession (h : OapHdr) (type : Nat) (f : OapSession → State → State) (s : State) : State :=
  match s.session h.token with
  | none => s.oapSend (.host h.host) (type + 0x80) h.seq 0 none 0x05040000 []
  | some x =>
    let t := s.seenBy h
    match x.cache.find? (fun c => decide (c.seq = h.seq)) with
    | some c => t.oapSend (.host h.host) (c.type + 0x80) h.seq h.token c.target c.status c.data
    | none =>
      if s.stillRuns x h.seq then t
      else if 16 ≤ (behind x h.seq).getD 0 then t.oapSend (.host h.host) (type + 0x80) h.seq h.token none 0x08000000 []
      else f x t

/-- Sends a request on to the member TARGET names (R117). -/
def State.forwardTo (h : OapHdr) (type : Nat) (data : List Byte) (s : State) : State :=
  (s.linkTo 0x0D (.member (reqTarget h)) (forwardBytes (.request h type data))).onOap
    (fun o => { o with forwarded := o.forwarded ++ [(h.host, type, h.token, h.seq, reqTarget h)] })

/-- Whether TARGET names another member; one that departed is a member until its change takes effect (11 R382). -/
def State.memberTarget (s : State) (i : Nat) : Bool :=
  s.choirMember && decide (i ≠ s.choir.ownId) && decide (tabGet 0 s.choir.serials i ≠ 0)

/-- The target rules (R117): the own dictionary, another member's, or a refusal. -/
def State.atTarget (h : OapHdr) (type : Nat) (data : List Byte) (f : State → State) (s : State) : State :=
  if reqTargeted h = false ∨ reqTarget h = s.choir.ownId then f s
  else if s.memberTarget (reqTarget h) = false then s.respond h type 0x08000020 []
  else if s.changePending then s.respond h type 0x0F000050 []
  else s.forwardTo h type data

/-! ### Request data (R109, R113) -/

/-- The bytes of references. -/
def refBytes (refs : List (Nat × Nat)) : List Byte := refs.flatMap (fun r => leBytes 2 r.1 ++ leBytes 1 r.2 ++ leBytes 1 0)

/-- OPEN. -/
def openData (rights : Nat) (code : BitVec 32) : List Byte := leBytes 1 rights ++ leBytes 3 0 ++ leBytes 4 code.toNat
/-- WRITE. -/
def writeData (idx sub type : Nat) (data : List Byte) : List Byte :=
  refBytes [(idx, sub)] ++ leBytes 2 type ++ leBytes 2 data.length ++ data
/-- MULTI_READ. -/
def multiData (refs : List (Nat × Nat)) : List Byte := leBytes 1 refs.length ++ leBytes 3 0 ++ refBytes refs
/-- SUBSCRIBE. -/
def subscribeData (period : Nat) (refs : List (Nat × Nat)) : List Byte :=
  leBytes 2 period ++ leBytes 1 refs.length ++ leBytes 1 0 ++ refBytes refs
/-- VERDICT_STREAM. -/
def streamData (enable : Bool) (decimate : Nat) : List Byte := leBytes 1 (b2n enable) ++ leBytes 1 decimate ++ leBytes 2 0

/-! ### Sessions (R109, R110) -/

/-- A token drawn from a free value: not zero, and unlike those in use. -/
def freshToken (v : Nat) (used : List Nat) : BitVec 64 :=
  BitVec.ofNat 64 ((((List.range 8).map (fun k => (v + k) % (2 ^ 64 - 1) + 1)).find? (fun t => !used.contains t)).getD 1)

/-- What OPEN answers, 0 when a session is granted. -/
def State.openCode (s : State) (rights : Nat) (code : BitVec 32) : Nat :=
  if s.ent 0x2500 7 = 0 then 0x08000022
  else if rights ≠ 1 ∧ rights ≠ 2 then 0x06090030
  else if rights = 2 ∧ (s.ent 0x2500 7 = 1 ∨ (s.ent 0x2500 8 ≠ 0 ∧ s.ent 0x2500 8 ≠ code.toNat)) then 0x06010000
  else if 4 ≤ (s.oap.sessions.filter (fun x => x.via.isNone)).length then 0x05040005
  else 0

/-- Grants or refuses a session. -/
def State.openSession (h : OapHdr) (rights : Nat) (code : BitVec 32) (s : State) : State :=
  if s.openCode rights code ≠ 0 then s.oapSend (.host h.host) 0x81 h.seq 0 none (BitVec.ofNat 32 (s.openCode rights code)) []
  else
    let token := freshToken s.drawn (s.oap.sessions.map (fun x => x.token.toNat))
    let x : OapSession := { host := h.host, token := token, write := decide (rights = 2), lastReq := s.now }
    (s.draw.onOap (fun o => { o with sessions := o.sessions ++ [x] })).oapSend (.host h.host) 0x81 h.seq token none 0 (leBytes 2 10000)

/-- OPEN. -/
def State.reqOpen (h : OapHdr) (rights : Nat) (code : BitVec 32) : State → State :=
  State.atTarget h 1 (openData rights code) (State.openSession h rights code)

/-- Ends the session of a token, with its subscriptions, its verdict stream and what it was assembling. -/
def State.endSession (token : BitVec 64) : State → State := State.onOap (fun o => { o with
  sessions := o.sessions.filter (fun x => decide (x.token ≠ token)), frags := o.frags.filter (fun f => decide (f.token ≠ token)) })

/-- CLOSE. -/
def State.reqClose (h : OapHdr) : State → State :=
  State.inSession h 2 (fun _ => State.atTarget h 2 [] (fun t =>
    (t.oapSend (.host h.host) 0x82 h.seq h.token none 0 []).endSession h.token))

/-- KEEPALIVE. -/
def State.reqKeepalive (h : OapHdr) : State → State := State.inSession h 3 (fun _ => State.atTarget h 3 [] (fun t => t.respond h 3 0 []))

/-! ### Access messages (R113) -/

/-- A value with its type and length. -/
def typed (ty : Ty) (l : List Byte) : List Byte := leBytes 2 ty.number ++ leBytes 2 l.length ++ l

/-- An item of a MULTI_READ response or a NOTIFY: a refused one carries type 0 and no value (log 11). -/
def itemOf (r : Nat × Ty × List Byte) : List Byte :=
  leBytes 4 r.1 ++ (if r.1 = 0 then typed r.2.1 r.2.2 ++ List.replicate (pad4 r.2.2.length - r.2.2.length) 0 else leBytes 4 0)

/-- Reads several entries in order. -/
def State.readAll : List (Nat × Nat) → State → List Byte × State
  | [], s => ([], s)
  | r :: t, s => let a := s.readEntry r.1 r.2; let b := a.2.readAll t; (itemOf a.1 ++ b.1, b.2)

/-- What a READ answers: code, data, and the state after. -/
def State.serveRead (idx sub : Nat) (s : State) : Nat × List Byte × State :=
  match s.readEntry idx sub with
  | ((0, ty, l), t) => (0, typed ty l, t)
  | ((code, _, _), t) => (code, [], t)

/-- What a MULTI_READ answers. -/
def State.serveMulti (refs : List (Nat × Nat)) (s : State) : Nat × List Byte × State :=
  if refs.length = 0 ∨ 64 < refs.length then (0x06090030, [], s)
  else (0, leBytes 1 refs.length ++ leBytes 3 0 ++ (s.readAll refs).1, (s.readAll refs).2)

/-- What a WRITE does: refused in STOPPED (R82) and where TYPE is not the entry's. -/
def State.serveWrite (idx sub type : Nat) (data : List Byte) (who : StoreFor) (s : State) : Wrote :=
  if s.comm.nmt = .stopped then (some 0x08000022, s)
  else if type ≠ 0 ∧ (match s.find idx sub with | .card c => decide (type ≠ c.ty.number) | _ => false) = true then (some 0x06070010, s)
  else s.writeEntry idx sub data who

/-- The references that bytes spell. -/
def parseRefs : Nat → List Byte → List (Nat × Nat)
  | 0, _ => []
  | n + 1, l => (numAt l 0 2, numAt l 2 1) :: parseRefs n (l.drop 4)

/-- READ. -/
def State.reqRead (h : OapHdr) (idx sub : Nat) : State → State :=
  State.inSession h 0x10 (fun _ => State.atTarget h 0x10 (refBytes [(idx, sub)]) (fun t =>
    let r := t.serveRead idx sub
    r.2.2.respond h 0x10 r.1 r.2.1))

/-- WRITE: refused in a read-only session; what waits for a store, a commit or the island is answered at its end (R111). -/
def State.reqWrite (h : OapHdr) (idx sub type : Nat) (data : List Byte) : State → State :=
  State.inSession h 0x11 (fun x t =>
    if x.write = false then t.respond h 0x11 0x06010000 []
    else t.atTarget h 0x11 (writeData idx sub type data) (fun u =>
      match u.serveWrite idx sub type data (.oap h.host h.token h.seq) with
      | (some code, v) => (v.respond h 0x11 code []).afterWrite idx sub code
      | (none, v) => v.onSession h.token (fun y => { y with busy := y.busy ++ [{ seq := h.seq, idx := idx, sub := sub }] })))

/-- MULTI_READ. -/
def State.reqMulti (h : OapHdr) (refs : List (Nat × Nat)) : State → State :=
  State.inSession h 0x12 (fun _ => State.atTarget h 0x12 (multiData refs) (fun t =>
    let r := t.serveMulti refs
    r.2.2.respond h 0x12 r.1 r.2.1))

/-- The present items of references, without what a read changes. -/
def State.peekItems (s : State) (refs : List (Nat × Nat)) : List (List Byte) := refs.map (fun r => itemOf (s.peek r.1 r.2))

/-- The lowest free SUB_ID. -/
def OapSession.freeSub (x : OapSession) : Nat :=
  ((List.range 8).find? (fun i => x.subs.all (fun u => decide (u.id ≠ i)))).getD 0

/-- What a SUBSCRIBE answers in a session, and the state after. -/
def State.serveSubscribe (token : BitVec 64) (x : OapSession) (period : Nat) (refs : List (Nat × Nat)) (s : State) : Nat × List Byte × State :=
  if refs.length = 0 ∨ 32 < refs.length then (0x06090030, [], s)
  else if 8 ≤ x.subs.length then (0x05040005, [], s)
  else
    let u : OapSub := { id := x.freeSub, period := period % 65536, refs := refs, beat0 := s.beat.number, last := s.peekItems refs }
    (0, leBytes 1 x.freeSub, s.onSession token (fun y => { y with subs := y.subs ++ [u] }))

/-- What an UNSUBSCRIBE answers; of a SUB_ID not in use: a general error (log 11). -/
def State.serveUnsubscribe (token : BitVec 64) (x : OapSession) (id : Nat) (s : State) : Nat × State :=
  if x.subs.any (fun u => decide (u.id = id)) then
    (0, s.onSession token (fun y => { y with subs := y.subs.filter (fun u => decide (u.id ≠ id)) }))
  else (0x08000000, s)

/-- What a VERDICT_STREAM answers. -/
def State.serveStream (token : BitVec 64) (enable : Bool) (decimate : Nat) (s : State) : Nat × State :=
  if decimate = 0 ∨ 255 < decimate then (0x06090030, s)
  else (0, s.onSession token (fun y => { y with streamOn := enable, decimate := decimate, streamCount := 0 }))

/-- SUBSCRIBE. -/
def State.reqSubscribe (h : OapHdr) (period : Nat) (refs : List (Nat × Nat)) : State → State :=
  State.inSession h 0x20 (fun x => State.atTarget h 0x20 (subscribeData period refs) (fun t =>
    let r := t.serveSubscribe h.token x period refs
    r.2.2.respond h 0x20 r.1 r.2.1))

/-- UNSUBSCRIBE. -/
def State.reqUnsubscribe (h : OapHdr) (id : Nat) : State → State :=
  State.inSession h 0x21 (fun x => State.atTarget h 0x21 (leBytes 1 id) (fun t =>
    let r := t.serveUnsubscribe h.token x id
    r.2.respond h 0x21 r.1 []))

/-- VERDICT_STREAM. -/
def State.reqStream (h : OapHdr) (enable : Bool) (decimate : Nat) : State → State :=
  State.inSession h 0x30 (fun _ => State.atTarget h 0x30 (streamData enable decimate) (fun t =>
    let r := t.serveStream h.token enable decimate
    r.2.respond h 0x30 r.1 []))

/-- Whether a type is one that no request carries and that is never answered: NOTIFY, EMCY, VERDICT and ANNOUNCE, and a
response (R108). -/
def neverAnswered (type : Nat) : Bool := [0x22, 0x23, 0x31, 0x40].contains type || decide (0x80 ≤ type)

/-- A request of an unknown type (R108). -/
def State.reqUnknown (h : OapHdr) (type : Nat) (s : State) : State :=
  if neverAnswered type then s else s.inSession h type (fun _ t => t.respond h type 0x05040001 [])

/-! ### Fragments (R112) -/

/-- A whole message by its type and data; data that is not laid out as R113 has it: a general error (log 11). -/
def State.reqWhole (h : OapHdr) (type : Nat) (l : List Byte) (s : State) : State :=
  let bad := State.inSession h type (fun _ t => t.respond h type 0x08000000 [])
  match type with
  | 0x01 => if l.length = 8 then s.reqOpen h (numAt l 0 1) (BitVec.ofNat 32 (numAt l 4 4)) else bad s
  | 0x02 => s.reqClose h
  | 0x03 => s.reqKeepalive h
  | 0x10 => if l.length = 4 then s.reqRead h (numAt l 0 2) (numAt l 2 1) else bad s
  | 0x11 => if l.length = 8 + numAt l 6 2 then s.reqWrite h (numAt l 0 2) (numAt l 2 1) (numAt l 4 2) (l.drop 8) else bad s
  | 0x12 => if l.length = 4 + 4 * numAt l 0 1 then s.reqMulti h (parseRefs (numAt l 0 1) (l.drop 4)) else bad s
  | 0x20 => if l.length = 4 + 4 * numAt l 2 1 then s.reqSubscribe h (numAt l 0 2) (parseRefs (numAt l 2 1) (l.drop 4)) else bad s
  | 0x21 => if l.length = 1 then s.reqUnsubscribe h (numAt l 0 1) else bad s
  | 0x30 => if l.length = 4 then s.reqStream h (decide (numAt l 0 1 = 1)) (numAt l 1 1) else bad s
  | _ => s.reqUnknown h type

/-- Whether a fragment's place and length are in order. -/
def fragOk (index count n : Nat) : Bool :=
  decide (1 ≤ count) && decide (count ≤ 64) && decide (index < count) && decide (n ≤ 1368) && (decide (index + 1 = count) || decide (n = 1368))

/-- The place a fragment belongs to. -/
def OapFrags.holds (f : OapFrags) (h : OapHdr) (type count : Nat) : Bool :=
  decide (f.host = h.host) && decide (f.token = h.token) && decide (f.seq = h.seq) && decide (f.type = type) && decide (f.count = count)

/-- The data of an assembled message. -/
def OapFrags.whole (f : OapFrags) : List Byte :=
  (List.range f.count).flatMap (fun i => match f.parts.find? (fun p => decide (p.1 = i)) with | some p => p.2 | none => [])

/-- Holds a fragment; with the last one missing the message is executed. -/
def State.takeFrag (h : OapHdr) (type index count : Nat) (data : List Byte) (s : State) : State :=
  let old : OapFrags := (s.oap.frags.find? (fun f => f.holds h type count)).getD
    { host := h.host, token := h.token, seq := h.seq, type := type, count := count, since := s.now, parts := [] }
  let new : OapFrags := { old with parts := (index, data) :: old.parts.filter (fun p => decide (p.1 ≠ index)) }
  let rest := s.oap.frags.filter (fun f => !f.holds h type count)
  if new.parts.length = count then (s.onOap (fun o => { o with frags := rest })).reqWhole h type new.whole
  else s.onOap (fun o => { o with
    frags := if o.frags.any (fun f => f.holds h type count) then o.frags.map (fun f => if f.holds h type count then new else f) else o.frags ++ [new] })

/-- OAP_FRAGMENT. -/
def execOapFragment (h : OapHdr) (type index count : Nat) (data : List Byte) (s : State) : Host.Outcome State Fault Refusal :=
  .next (s.oapTake h type index count data (fun t => if fragOk index count data.length then t.takeFrag h type index count data else t))

/-- OAP_FRAGMENT_TIMEOUT: the oldest incomplete request, 500 ms after its first fragment. -/
def execOapFragmentTimeout (s : State) : Host.Outcome State Fault Refusal :=
  .next (match s.oap.frags with
    | [] => s
    | f :: rest => (s.upTo (f.since + 500000)).onOap (fun o => { o with frags := rest }))

/-! ### The messages -/

/-- OPEN. -/
def execOapOpen (h : OapHdr) (rights : Nat) (code : BitVec 32) (s : State) : Host.Outcome State Fault Refusal :=
  .next (s.oapMessage h 1 (openData rights code) (State.reqOpen h rights code))

/-- CLOSE. -/
def execOapClose (h : OapHdr) (s : State) : Host.Outcome State Fault Refusal := .next (s.oapMessage h 2 [] (State.reqClose h))

/-- KEEPALIVE. -/
def execOapKeepalive (h : OapHdr) (s : State) : Host.Outcome State Fault Refusal := .next (s.oapMessage h 3 [] (State.reqKeepalive h))

/-- READ. -/
def execOapRead (h : OapHdr) (idx sub : Nat) (s : State) : Host.Outcome State Fault Refusal :=
  .next (s.oapMessage h 0x10 (refBytes [(idx, sub)]) (State.reqRead h idx sub))

/-- WRITE. -/
def execOapWrite (h : OapHdr) (idx sub type : Nat) (data : List Byte) (s : State) : Host.Outcome State Fault Refusal :=
  .next (s.oapMessage h 0x11 (writeData idx sub type data)
    (State.reqWrite h idx sub type data))

/-- MULTI_READ. -/
def execOapMultiRead (h : OapHdr) (refs : List (Nat × Nat)) (s : State) : Host.Outcome State Fault Refusal :=
  .next (s.oapMessage h 0x12 (multiData refs) (State.reqMulti h refs))

/-- SUBSCRIBE. -/
def execOapSubscribe (h : OapHdr) (period : Nat) (refs : List (Nat × Nat)) (s : State) : Host.Outcome State Fault Refusal :=
  .next (s.oapMessage h 0x20 (subscribeData period refs)
    (State.reqSubscribe h period refs))

/-- UNSUBSCRIBE. -/
def execOapUnsubscribe (h : OapHdr) (subId : Fin 8) (s : State) : Host.Outcome State Fault Refusal :=
  .next (s.oapMessage h 0x21 (leBytes 1 subId.val) (State.reqUnsubscribe h subId))

/-- VERDICT_STREAM. -/
def execOapVerdictStream (h : OapHdr) (enable : Bool) (decimate : Nat) (s : State) : Host.Outcome State Fault Refusal :=
  .next (s.oapMessage h 0x30 (streamData enable decimate)
    (State.reqStream h enable decimate))

/-- OAP_UNKNOWN_TYPE. -/
def execOapUnknownType (h : OapHdr) (type : Nat) (data : List Byte) (s : State) : Host.Outcome State Fault Refusal :=
  .next (s.oapMessage h type data (State.reqUnknown h type))

/-- OAP_SESSION_TIMEOUT (R110): 10 s without a request from its host. -/
def execOapSessionTimeout (i : Fin 4) (s : State) : Host.Outcome State Fault Refusal :=
  .next (match s.oap.sessions[i.val]? with
    | none => s
    | some x => (s.upTo (x.lastReq + 10000000)).endSession x.token)

/-- OAP_ACCESS_WRITE (R94): a write of OAP_ACCESS, or of OAP_WRITE_CODE. -/
def execOapAccessWrite (code : Bool) (val : BitVec 32) (s : State) : Host.Outcome State Fault Refusal :=
  .next (let sub := if code then 8 else 7
    s.guarded 0x2500 sub val.toNat (fun t => (0, (t.writeEnt 0x2500 sub val.toNat).closeSessions)))

/-! ### Discovery (R115, R116) -/

/-- DISCOVER: its reply waits; a follower ignores it (R117). -/
def execDiscover (h : OapHdr) (s : State) : Host.Outcome State Fault Refusal :=
  .next (if s.boot.st ≠ .running then s
    else if hdrOk h 0x41 0 1 [] = false then s.count 0x2020 1 1
    else if s.choir.role = .follower then s
    else s.onOap (fun o => { o with discovers := o.discovers.filter (fun k => decide (k.1 ≠ h.host)) ++ [(h.host, h.seq)] }))

/-- DISCOVER_REPLY: a unicast ANNOUNCE from the first port that holds an address, with the SEQUENCE of the DISCOVER. -/
def execDiscoverReply (host : Nat) (s : State) : Host.Outcome State Fault Refusal :=
  .next (match s.oap.discovers.find? (fun k => decide (k.1 = host)) with
    | none => s
    | some k =>
      let t := s.onOap (fun o => { o with discovers := o.discovers.filter (fun k => decide (k.1 ≠ host)) })
      let p := if s.ent (ethIdx 0) 5 ≠ 0 ∨ (s.announcer 0).v6 = true then 0 else 1
      if t.choir.role = .follower then t else t.oapSend (.host host) 0x40 k.2 0 none 0 (t.announceData p))

/-- The IPv4 address a port takes: by its mode in force (R91, R92), none where the port is disabled. -/
def State.addressOf (s : State) (p : Nat) (addr : BitVec 32) : Nat :=
  if s.force (ethIdx p) 1 = 0 then addr.toNat else if s.force (ethIdx p) 1 = 1 then s.force (ethIdx p) 2 else 0

/-- Whether a port takes an IPv6 address: link-local or SLAAC, where IPV6_ENABLE is 1 and the port is not disabled. -/
def State.takesV6 (s : State) (p : Nat) : Bool := decide (s.force (ethIdx p) 6 = 1) && decide (s.force (ethIdx p) 1 ≠ 2)

/-- Announcements of a port that gained an address: at once, and the next after 1 s (R116). -/
def State.announceGain (p : Nat) (v6 : Bool) (s : State) : State :=
  (s.onOap (fun o => { o with
    announces := tabMod {} o.announces p (fun a => { sent := 0, due := s.now + 1000000, v6 := a.v6 || v6 }) })).announceOn p

/-- ETH_ADDRESS_ACQUIRED: ANNOUNCE at once. -/
def execEthAddressAcquired (p : Fin 2) (v6 : Bool) (addr : BitVec 32) (s : State) : Host.Outcome State Fault Refusal :=
  .next (if s.boot.st ≠ .running then s
    else if v6 then (if s.takesV6 p then s.announceGain p true else s)
    else if s.addressOf p addr = 0 then s
    else (s.setEnt (ethIdx p) 5 (s.addressOf p addr)).announceGain p false)

/-- When the announcement after the next one is due: 2 s after the address was gained, then every ANNOUNCE_PERIOD. -/
def State.nextAnnounce (s : State) (a : Announcer) : Nat :=
  if a.sent = 0 then a.due + 1000000 else a.due + 1000000 * s.ent 0x2020 3

/-- ANNOUNCE_TIMER: the next announcement of a port that holds an address, at the instant it is due. -/
def execAnnounceTimer (p : Fin 2) (s : State) : Host.Outcome State Fault Refusal :=
  .next (let a := s.announcer p
    if s.boot.st ≠ .running ∨ a.due = 0 then s
    else
      ((s.upTo a.due).onOap (fun o => { o with
        announces := tabMod {} o.announces p (fun x => { x with sent := min 2 (x.sent + 1), due := s.nextAnnounce a }) })).announceOn p)

/-! ### FORWARD (R117, 17 R530) -/

/-- A member's answer to a forwarded request. -/
def State.forwardAnswer (src : Nat) (h : OapHdr) (type code : Nat) (data : List Byte) : State → State :=
  State.forwardReply src type h.token h.seq code data

/-- The session that a member serves for a forwarded request. -/
def State.viaSession (src : Nat) (h : OapHdr) (s : State) : OapSession :=
  (s.oap.sessions.find? (fun x => decide (x.token = h.token) && decide (x.via = some src))).getD
    { host := h.host, via := some src, token := h.token, write := false, lastReq := s.now }

/-- A member keeps such a session from its first subscription or stream on. -/
def State.keepVia (src : Nat) (h : OapHdr) (s : State) : State :=
  if s.oap.sessions.any (fun x => decide (x.token = h.token) && decide (x.via = some src)) then s
  else s.onOap (fun o => { o with sessions := o.sessions ++ [s.viaSession src h] })

/-- A member serves a forwarded request by its type and data; it grants no session of its own (R117, log 64), and data not
laid out as R113 has it gets a general error (log 11). -/
def State.serveForward (src : Nat) (h : OapHdr) (type : Nat) (l : List Byte) (s : State) : State :=
  let answer := fun (r : Nat × List Byte × State) => r.2.2.forwardAnswer src h type r.1 r.2.1
  let bad := s.forwardAnswer src h type 0x08000000 []
  match type with
  | 0x01 => s.forwardAnswer src h type 0x08000022 []
  | 0x02 => (s.endSession h.token).forwardAnswer src h type 0 []
  | 0x03 => s.forwardAnswer src h type 0 []
  | 0x10 => if l.length = 4 then answer (s.serveRead (numAt l 0 2) (numAt l 2 1)) else bad
  | 0x11 =>
    if l.length = 8 + numAt l 6 2 then
      match s.serveWrite (numAt l 0 2) (numAt l 2 1) (numAt l 4 2) (l.drop 8) (.fwd src h.host h.token h.seq) with
      | (some code, t) => (t.forwardAnswer src h type code []).afterWrite (numAt l 0 2) (numAt l 2 1) code
      | (none, t) => t
    else bad
  | 0x12 => if l.length = 4 + 4 * numAt l 0 1 then answer (s.serveMulti (parseRefs (numAt l 0 1) (l.drop 4))) else bad
  | 0x20 =>
    if l.length = 4 + 4 * numAt l 2 1 then
      answer ((s.keepVia src h).serveSubscribe h.token (s.viaSession src h) (numAt l 0 2) (parseRefs (numAt l 2 1) (l.drop 4)))
    else bad
  | 0x21 =>
    if l.length = 1 then
      let r := s.serveUnsubscribe h.token (s.viaSession src h) (numAt l 0 1)
      r.2.forwardAnswer src h type r.1 []
    else bad
  | 0x30 =>
    if l.length = 4 then
      let r := (s.keepVia src h).serveStream h.token (decide (numAt l 0 1 = 1)) (numAt l 1 1)
      r.2.forwardAnswer src h type r.1 []
    else bad
  | _ => s.forwardAnswer src h type 0x05040001 []

/-- A message to the host of a session, with the session's own sequence number; a member's goes through the precentor. -/
def State.toHost (x : OapSession) (type : Nat) (data : List Byte) (s : State) : State :=
  match x.via with
  | some src => s.linkTo 0x0D (.member src) (forwardBytes (.notice x.token type data))
  | none => match s.session x.token with
    | none => s
    | some y => (s.oapSend (.host y.host) type y.sendSeq y.token none 0 data).onSession x.token (fun z => { z with sendSeq := z.sendSeq + 1 })

/-- What a FORWARD message does at the package it is for. -/
def State.takeForward (src : Nat) (m : ForwardMsg) (s : State) : State :=
  if s.boot.st ≠ .running then s
  else match m with
  | .request h type data => if s.choirMember = true ∧ src = s.choir.precentor then s.serveForward src h type data else s
  | .response host _ token seq status data =>
    match s.oap.forwarded.find? (fun f => decide (f.1 = host) && decide (f.2.2.1 = token) && decide (f.2.2.2.1 = seq) && decide (f.2.2.2.2 = src)) with
    | some f => s.viaRespond f status.toNat data
    | none => s
  | .notice token type data =>
    match s.session token with
    | some x => s.toHost x type data
    | none => s
  | .reset serial => if serial = Config.serial then s.resetStart 5 else s

/-- FORWARD. -/
def execForward (v : LinkVia) (m : ForwardMsg) (s : State) : Host.Outcome State Fault Refusal :=
  .next (s.linkIn v 0x0D (forwardBytes m) (State.takeForward v.src m))

/-! ### Messages to the host (R114) -/

/-- Whether a subscription notifies at the boundary that has just started: every n-th, or on a change. -/
def State.notifyDue (s : State) (u : OapSub) : Bool :=
  if u.period = 0 then decide (s.peekItems u.refs ≠ u.last)
  else decide (u.beat0 < s.beat.number) && decide ((s.beat.number - u.beat0) % u.period = 0)

/-- One NOTIFY. -/
def State.notify (x : OapSession) (u : OapSub) (s : State) : State :=
  if s.notifyDue u then
    (s.toHost x 0x22 (leBytes 1 u.id ++ leBytes 1 0 ++ leBytes 6 s.beat.number ++ leBytes 8 s.now ++ (s.peekItems u.refs).flatten)).onSession
      x.token (fun y => { y with subs := y.subs.map (fun v => if v.id = u.id then { v with last := s.peekItems u.refs } else v) })
  else s

/-- The notifications of a beat boundary. -/
def State.notifyAll (s : State) : State :=
  s.oap.sessions.foldl (fun a x => x.subs.foldl (fun b u => b.notify x u) a) s

/-- A published verdict goes to the sessions whose stream takes it. -/
def State.verdictOut (bytes : List Byte) (s : State) : State :=
  s.oap.sessions.foldl (fun a x =>
    if x.streamOn then
      let t := a.onSession x.token (fun y => { y with streamCount := (y.streamCount + 1) % y.decimate })
      if (x.streamCount + 1) % x.decimate = 0 then t.toHost x 0x31 bytes else t
    else a) s

end Sys2Proof.Machine
end

