-- ==== Sys2Proof/Machine/Beat.lean ====
section
/-! DEFINITION. The beat boundary: what takes effect at it, lag and overruns, the publication of verdicts, SYNC_OUT
(02_the_beat.md R44 to R59, R69, R72; 08_press_and_blend.md R283, R285). -/

namespace Sys2Proof.Machine

/-! ### Values that come in force (02 R46, R74) -/

/-- The write log of an entry. -/
def State.writes (s : State) (idx sub : Nat) : WriteLog := tabGet {} s.wtime (ekey idx sub)

/-- Whether a write is taken at this boundary: it lies before its start, and a value held from the vintage waits for an
era boundary (R45). -/
def State.boundaryTakes (s : State) (w : PastWrite) : Bool :=
  decide (w.stamp < s.beat.start) && (!w.held || decide (s.beat.number % 256 = 0))

/-- The last write of an entry that this boundary takes. -/
def State.lastTaken (s : State) (idx sub : Nat) : Option PastWrite :=
  let w := s.writes idx sub
  ((⟨w.stamp, s.ent idx sub, w.held⟩ : PastWrite) :: w.past).find? (fun e => s.boundaryTakes e)

/-- What the boundary leaves of a write log. -/
def WriteLog.taken (w : WriteLog) (start : Nat) : WriteLog :=
  { w with held := w.held && decide (start ≤ w.stamp), past := w.past.filter (fun e => decide (start ≤ e.stamp)) }

/-- The last value written before this boundary comes in force. -/
def State.takeForce (idx sub : Nat) (s : State) : State :=
  match s.lastTaken idx sub with
  | none => s
  | some e => (if s.force idx sub = e.value then s else s.setForce idx sub e.value).onWtimes
      (fun t => tabMod {} t (ekey idx sub) (fun w => w.taken s.beat.start))

/-- Entries of 0x2100 that act at the next beat boundary. -/
def beatSubs : List Nat := [0xF, 0x10, 0x11, 0x15, 0x16, 0x19]
/-- Entries of 0x2100 that act at the next era boundary. -/
def eraSubs : List Nat := [3, 4, 0xA, 0xB, 0x17]

/-- Entries that come in force at every boundary; a changed overrun policy replaces the effective one. -/
def State.beatForces (s : State) : State :=
  let v := s.force 0x2100 0xF
  let p := s.force 0x2100 0x10
  let u := (beatSubs.foldl (fun a k => a.takeForce 0x2100 k) s).takeForce 0x4200 0xC
  let u := (List.range 6).foldl (fun a n => portBoundarySubs.foldl (fun b k => b.takeForce (portIdx n) k) a) u
  let u := if u.force 0x2100 0xF = v then u else u.onBeat (fun b => { b with voiceRaised := false, voiceMet := 0 })
  if u.force 0x2100 0x10 = p then u else u.onBeat (fun b => { b with pressRaised := false, pressMet := 0 })

/-- Entries that come in force at an era boundary (R74, 11 R374). -/
def State.eraForces (s : State) : State :=
  (List.range 64).foldl (fun a k => a.takeForce 0x8100 (k + 1)) (eraSubs.foldl (fun a k => a.takeForce 0x2100 k) s)

/-- An era without a shed beat ends the episode (R59). -/
def State.endEpisode (s : State) : State :=
  (if s.beat.shedThisEra then s else s.endCond 0xFF21 1 0).onBeat (fun b => { b with shedThisEra := false })

/-- The work of an era boundary. -/
def State.eraWork (s : State) : State := s.eraForces.choirEraWork.checkReports.periodInForce.endEpisode

/-! ### Ingest (02 R69, 03 R83, 01 R24) -/

/-- A halt of the Trellis acts at the first boundary after it (01 R24). -/
def State.hardHaltDue (s : State) : State :=
  match s.trellis.haltDue with
  | none => s
  | some t =>
    if t < s.beat.start then
      ((((s.raiseCond 0x5000 0x30 0 []).onTrellis (fun x => { x with haltDue := none })).onBeat (fun b =>
        { b with hardHalt := true, ingesting := false, ingestStop := none, ingestWanted := none })).idled)
    else s

/-- The beat that starts is ingested while ingest runs. -/
def State.ingestNext (s : State) : State :=
  if s.beat.ingesting then s.onBeat (fun b => { b with work := b.work ++ [{ beat := b.number, start := b.start }] }) else s

/-- Ingest stops at the first boundary after the cause; else the beat that starts is ingested. -/
def State.ingestTurn (s : State) : State :=
  match s.beat.ingestStop with
  | some t => if t < s.beat.start then (s.onBeat (fun b => { b with ingesting := false, ingestStop := none })).idled else s.ingestNext
  | none => s.ingestNext

/-! ### Lag and escalation (02 R56 to R59) -/

/-- Beats whose voice deadline has passed with their stage unfinished. -/
def State.voiceOverdue (s : State) : List BeatWork :=
  s.beat.work.filter (fun w => (decide (w.voice = .waiting) || decide (w.voice = .running)) && decide (w.beat + 2 ≤ s.beat.number))

/-- Whether the press stage of a beat has ended. -/
def BeatWork.pressEnded (w : BeatWork) : Bool := decide (w.press = .done) || decide (w.press = .shed)

/-- Beats whose press deadline has passed with their stage unfinished. -/
def State.pressOverdue (s : State) : List BeatWork :=
  s.beat.work.filter (fun w => !w.pressEnded && decide (w.beat + 3 ≤ s.beat.number))

/-- Beats that lag count for the operating point (15 R488). -/
def State.noteLagged (l : List BeatWork) : State → State :=
  State.onPower (fun p => { p with lagged := l.map (fun w => w.beat) ++ p.lagged.filter (fun k => !l.any (fun w => decide (w.beat = k))) })

/-- The press stage of beat n is shed: its tasks are cancelled and its verdict is the shed one (R58, 08 R270, R284). -/
def State.pressShed (n : Nat) (s : State) : State :=
  let ran := (s.workOf n).any (fun w => decide (w.press = .running))
  let u := s.shedTasks n
  let v := u.emptyVerdict n 0
  let u := u.onWork n (fun w => { w with press := .shed, verdict := some v })
  let u := if ran then u.onPress (fun p => { p with lastBeat := n, lastUs := min max32 (s.now - p.stageAt) }) else u
  (u.shedBeat n).onBeat (fun b => { b with pressMet := 0 })

/-- The voice stage at a boundary: lag is counted under HOLD, and a lag above MAX_LAG turns the policy to SHED. -/
def State.voiceLagWork (s : State) : State :=
  let l := s.voiceOverdue
  if s.beat.voiceShedding then s.onBeat (fun b => { b with voiceLag := 0 })
  else if s.force 0x2100 0x11 < l.length then
    l.foldl (fun a w => a.voiceShedAll w)
      (s.onBeat (fun b => { b with voiceRaised := true, voiceShedding := true, voiceMet := 0, voiceLag := 0 }))
  else
    (s.onBeat (fun b => { b with
      voiceLag := l.length,
      work := b.work.map (fun w => if l.any (fun x => decide (x.beat = w.beat)) then { w with voiceLate := true } else w) })).noteLagged l

/-- The press stage at a boundary. -/
def State.pressLagWork (s : State) : State :=
  let l := s.pressOverdue
  if s.beat.pressShedding then s.onBeat (fun b => { b with pressLag := 0 })
  else if s.force 0x2100 0x11 < l.length then
    l.foldl (fun a w => a.pressShed w.beat)
      (s.onBeat (fun b => { b with pressRaised := true, pressShedding := true, pressMet := 0, pressLag := 0 }))
  else
    (s.onBeat (fun b => { b with
      pressLag := l.length,
      work := b.work.map (fun w => if l.any (fun x => decide (x.beat = w.beat)) then { w with pressLate := true } else w) })).noteLagged l

/-- The effective policies follow the entries in force and what raised them (R57). -/
def State.policies (s : State) : State :=
  s.onBeat (fun b => { b with
    voiceShedding := b.voiceRaised || decide (s.force 0x2100 0xF = 1), pressShedding := b.pressRaised || decide (s.force 0x2100 0x10 = 1) })

/-- Lag and escalation of both stages, and the press stage that may start. A fabric halted by the Trellis does no
work (01 R24). -/
def State.lagWork (s : State) : State :=
  if s.beat.hardHalt then s.policies else s.policies.voiceLagWork.pressLagWork.startPress

/-! ### Publication (02 R55, 08 R283, R285) -/

/-- One bit step of CRC-16 with polynomial 0x1021. -/
def crc16Bit (r : BitVec 16) : BitVec 16 := if r.getLsbD 15 then (r <<< 1) ^^^ 0x1021#16 else r <<< 1

/-- One byte step. -/
def crc16Byte (r : BitVec 16) (b : Byte) : BitVec 16 :=
  crc16Bit (crc16Bit (crc16Bit (crc16Bit (crc16Bit (crc16Bit (crc16Bit (crc16Bit (r ^^^ ((b.zeroExtend 16) <<< 8)))))))))

/-- CRC-16 of a verdict record, initial value 0xFFFF. -/
def crc16 (l : List Byte) : Nat := (l.foldl crc16Byte 0xFFFF#16).toNat

/-- Bytes 0 to 61 of a verdict record. -/
def Verdict.body (v : Verdict) : List Byte :=
  leBytes 4 v.seq.toNat ++ leBytes 6 v.beat ++ leBytes 2 v.flags.toNat ++ leBytes 8 v.tov ++ leBytes 4 v.oldestAge.toNat
  ++ (List.range 5).flatMap (fun i => leBytes 2 (v.classIds.getD i 0xFFFF#16).toNat)
  ++ (List.range 5).map (fun i => v.confidences.getD i 0#8) ++ leBytes 1 v.mask.toNat ++ [v.zoneEmpty] ++ [v.weightStatus]
  ++ leBytes 2 0 ++ leBytes 4 (toBits 32 v.weightMg) ++ leBytes 4 v.imageId.toNat ++ List.replicate 10 0

/-- A verdict record's 64 bytes (R283). -/
def Verdict.bytes (v : Verdict) : List Byte := v.body ++ leBytes 2 (crc16 v.body)

/-- The verdict as it is published: SEQUENCE and the flags that publication knows. -/
def State.stamped (s : State) (w : BeatWork) (v : Verdict) : Verdict :=
  { v with
    seq := s.press.nextSeq,
    flags := v.flags ||| BitVec.ofNat 16 (b2n w.ledgerBad * 2 + b2n (decide (w.beat + 3 < s.beat.number)) * 4 + b2n s.press.firstPending * 64) }

/-- Counts of a published verdict (R291). -/
def State.countVerdict (v : Verdict) (s : State) : State :=
  let u := if v.mask = 0 then s else s.count 0x5100 3 1
  let u := if v.flags.getLsbD 0 then u.count 0x5200 4 1 else u
  if v.flags.getLsbD 2 then u.count 0x5200 5 1 else u

/-- One verdict is published: LAST_VERDICT, TPDOs, OAP, VERDICT_QUEUE, the zones (12 R414) and the belt's ordinary stop
(13 R432). -/
def State.publish (w : BeatWork) (v : Verdict) (s : State) : State :=
  let v := s.stamped w v
  let l := v.bytes
  let u := s.onPress (fun p => { p with
    lastVerdict := l, nextSeq := p.nextSeq + 1, firstPending := false,
    verdictQ := if s.ent 0x5200 3 = 0xFF then p.verdictQ else p.verdictQ ++ [l] })
  let u := (((u.countVerdict v).emit (.verdict v.seq l)).tpdoVerdict).verdictOut l
  let u := (u.onWork w.beat (fun x => { x with verdict := none })).zonesVerdict v.tov (BitVec.ofNat 8 (bits v.flags.toNat 8 4))
  if v.flags.getLsbD 5 ∧ s.ent 0x6200 0x10 = 1 then u.beltStop 2 else u

/-- Whether the verdict of a beat has been published. -/
def BeatWork.published (w : BeatWork) : Bool := w.pressEnded && w.verdict.isNone

/-- Publishes what is ready, in beat order, up to the first beat that is not. -/
def State.publishList : List BeatWork → State → State
  | [], s => s
  | w :: t, s =>
    if w.published then s.publishList t
    else match w.verdict with
      | some v => if w.pressEnded = true ∧ w.beat + 3 ≤ s.beat.number then (s.publish w v).publishList t else s
      | none => s

/-- Beats with nothing left to do leave the pipeline. -/
def State.retire (s : State) : State :=
  s.onBeat (fun b => { b with work := b.work.filter (fun w => !(w.published && !(decide (w.voice = .waiting) || decide (w.voice = .running)))) })

/-- Publication at a boundary. -/
def State.publishAll (s : State) : State := if s.beat.hardHalt then s else (s.publishList s.beat.work).retire

/-! ### SYNC_OUT and BEAT_IRQ (02 R46, R72) -/

/-- SYNC_OUT at a boundary, by the mode in force. -/
def State.syncOutTurn (s : State) : State :=
  s.onBeat (fun b =>
    let mode := s.force 0x2100 0x15
    if mode = 0 then { b with syncOut := false }
    else if mode = 1 ∨ b.number % 256 = 0 then
      { b with syncOut := true, syncOutFall := b.start + min (s.force 0x2100 0x16) (b.activePeriod / 2) }
    else b)

/-- The beat interrupt to every cantor, once PENDING and ENABLE are both 1. -/
def State.beatInterrupt (s : State) : State :=
  if s.beat.irqPending && s.beat.irqEnable then s.emitAll ((List.range 8).map (fun c => Out.interrupt 1 c)) else s

/-- BEAT_IRQ.PENDING at a boundary. -/
def State.beatIrq (s : State) : State :=
  if s.beat.irqPending || (s.beat.irqEraOnly && decide (s.beat.number % 256 ≠ 0)) then s
  else (s.onBeat (fun b => { b with irqPending := true })).beatInterrupt

/-! ### The boundary (02 R44) -/

/-- Zone states at the start of the beat, for GATHER (08 R280). -/
def State.snapZones (s : State) : State :=
  s.onPress (fun p => { p with zoneSnaps := ((s.beat.number, BitVec.ofNat 8 s.zoneStates) :: p.zoneSnaps).take 32 })

/-- What a boundary does while the device is up. -/
def State.boundaryUp (s : State) : State :=
  let u := s.snapZones.beatForces
  let u := if u.beat.number % 256 = 0 then u.eraWork else u
  let u := (u.onBeat BeatUnit.fixLength).hardHaltDue.ingestTurn
  let u := (u.lagWork).publishAll
  let u := (List.range u.portCount).foldl (fun a p => a.beatBegins p) u
  let u := (u.creditCheck.decidePoint u.beat.number).syncOutTurn.beatIrq
  (u.choirFrames.notifyAll.tpdoScan).standbyDue

/-- BEAT_BOUNDARY (R44): the beat in progress ends at its fixed end. During a reset and boot, and in STANDBY, the beat,
the tracker and SYNC_OUT go on (R45). -/
def execBeatBoundary (s : State) : Host.Outcome State Fault Refusal :=
  .next (if s.power.st = .off then s
    else
      let u := ((s.upTo (s.beat.start + s.beat.length)).portsDrain.drainAll).onBeat BeatUnit.turn
      if u.boot.st = .running then u.boundaryUp else (u.onBeat BeatUnit.fixLength).syncOutTurn)

/-- PRESS_STAGE_DEADLINE (R58): under HOLD the oldest unfinished press stage goes on; under SHED it is shed, and its
verdict published at the boundary in progress. -/
def execPressStageDeadline (s : State) : Host.Outcome State Fault Refusal :=
  .next (match s.pressOverdue with
    | [] => s
    | w :: _ =>
      if s.beat.hardHalt then s
      else if s.beat.pressShedding then (s.pressShed w.beat).startPress.publishAll
      else s.onWork w.beat (fun x => { x with pressLate := true }))

/-- The queue items of a byte list. -/
def itemsOf : Nat → List Byte → List (BitVec 128)
  | 0, _ => []
  | n + 1, l => BitVec.ofNat 128 (numAt l 0 16) :: itemsOf n (l.drop 16)

/-- VERDICT_QUEUE_WRITE (08 R285): the oldest verdict that waits is written once the queue takes it. -/
def execVerdictQueueWrite (s : State) : Host.Outcome State Fault Refusal :=
  .next (match s.press.verdictQ with
    | [] => s
    | l :: t =>
      if s.ent 0x5200 3 = 0xFF then s
      else match s.hwPush (s.ent 0x5200 3) (itemsOf 4 l) with
        | none => s
        | some u => u.onPress (fun p => { p with verdictQ := t }))

end Sys2Proof.Machine
end

