-- ==== Sys2Proof/Machine/Can.lean ====
section
/-! DEFINITION. CANopen FD on CAN0: SDO, PDOs, SYNC, NMT commands, heartbeats, LSS, CAN errors (03 R82 to R101, R104, R105). -/

namespace Sys2Proof.Machine

/-- Whether CAN0 serves anything but LSS (R95). -/
def State.canUp (s : State) : Bool := decide (s.boot.st = .running) && decide (s.comm.node ≠ 0xFF)

/-- Whether SDO is served (R82). -/
def State.sdoServed (s : State) : Bool :=
  s.canUp && (decide (s.comm.nmt = .preOperational) || decide (s.comm.nmt = .operational))

/-- Whether PDOs and SYNC are served (R82). -/
def State.pdoServed (s : State) : Bool := s.canUp && decide (s.comm.nmt = .operational)

/-! ### SDO (R96) -/

/-- Sets the transfer in progress. -/
def State.setSdo (x : SdoXfer) : State → State := State.onComm (fun c => { c with sdo := x })

/-- Aborts the transfer in progress, if any. -/
def State.sdoStop (code : Nat) (s : State) : State :=
  match s.comm.sdo with
  | .idle => s
  | .download i b _ _ _ => (s.emit (.sdoAbort i b code)).setSdo .idle
  | .upload i b _ _ _ => (s.emit (.sdoAbort i b code)).setSdo .idle

/-- A completed SDO write (R79): its response, at once or at the end of what it started. -/
def State.sdoWrite (idx sub : Nat) (data : List Byte) (s : State) : State :=
  match s.writeEntry idx sub data .sdo with
  | (none, t) => t
  | (some code, t) => (t.answerTo .sdo idx sub code).afterWrite idx sub code

/-- SDO_INITIATE_DOWNLOAD: expedited data is at most 4 bytes. -/
def execSdoInitiateDownload (idx sub : Nat) (expedited : Bool) (data : List Byte) (s : State) : Host.Outcome State Fault Refusal :=
  .next (if s.sdoServed = false then s
    else
      let t := s.sdoStop 0x05040001
      if expedited then t.sdoWrite idx sub (data.take 4)
      else (t.emit (.sdo idx sub [])).setSdo (.download idx sub [] false t.now))

/-- SDO_DOWNLOAD_SEGMENT: a segment that is out of turn, or for which nothing is in progress, is refused (log 11). -/
def execSdoDownloadSegment (toggle last : Bool) (data : List Byte) (s : State) : Host.Outcome State Fault Refusal :=
  .next (if s.sdoServed = false then s
    else match s.comm.sdo with
      | .download i b got t _ =>
        if toggle ≠ t then s.sdoStop 0x05040001
        else if last then (s.setSdo .idle).sdoWrite i b (got ++ data.take 7)
        else (s.emit (.sdo i b [])).setSdo (.download i b (got ++ data.take 7) (!t) s.now)
      | .upload _ _ _ _ _ => s.sdoStop 0x05040001
      | .idle => s.emit (.sdoAbort 0 0 0x05040001))

/-- SDO_INITIATE_UPLOAD: up to 4 bytes go expedited, more in segments after their number. -/
def execSdoInitiateUpload (idx sub : Nat) (s : State) : Host.Outcome State Fault Refusal :=
  .next (if s.sdoServed = false then s
    else match (s.sdoStop 0x05040001).readEntry idx sub with
      | ((0, _, l), t) =>
        if l.length ≤ 4 then t.emit (.sdo idx sub l)
        else (t.emit (.sdo idx sub (leBytes 4 l.length))).setSdo (.upload idx sub l false t.now)
      | ((code, _, _), t) => t.emit (.sdoAbort idx sub code))

/-- SDO_UPLOAD_SEGMENT: the next 7 bytes. -/
def execSdoUploadSegment (toggle : Bool) (s : State) : Host.Outcome State Fault Refusal :=
  .next (if s.sdoServed = false then s
    else match s.comm.sdo with
      | .upload i b rest t _ =>
        if toggle ≠ t then s.sdoStop 0x05040001
        else (s.emit (.sdo i b (rest.take 7))).setSdo
          (if rest.length ≤ 7 then .idle else .upload i b (rest.drop 7) (!t) s.now)
      | .download _ _ _ _ _ => s.sdoStop 0x05040001
      | .idle => s.emit (.sdoAbort 0 0 0x05040001))

/-- SDO_BLOCK_REQUEST: refused; as an initiate it ends the transfer in progress. -/
def execSdoBlockRequest (s : State) : Host.Outcome State Fault Refusal :=
  .next (if s.sdoServed = false then s else (s.sdoStop 0x05040001).emit (.sdoAbort 0 0 0x05040001))

/-- SDO_ABORT_RECEIVED. -/
def execSdoAbortReceived (s : State) : Host.Outcome State Fault Refusal :=
  .next (if s.sdoServed = false then s else s.setSdo .idle)

/-- When the transfer in progress last moved. -/
def SdoXfer.last : SdoXfer → Option Nat
  | .idle => none
  | .download _ _ _ _ t => some t
  | .upload _ _ _ _ t => some t

/-- SDO_SEGMENT_TIMEOUT: 1000 ms without a segment; where SDO is not served the transfer ends in silence. -/
def execSdoSegmentTimeout (s : State) : Host.Outcome State Fault Refusal :=
  .next (match s.comm.sdo.last with
    | none => s
    | some t =>
      let u := s.upTo (t + 1000000)
      if u.sdoServed then u.sdoStop 0x05040000 else u.setSdo .idle)

/-! ### PDOs and SYNC (R97 to R99) -/

/-- RPDO n's running state. -/
def State.rpdo (s : State) (n : Nat) : RpdoSt := tabGet {} s.comm.rpdo n

/-- Changes RPDO n's running state. -/
def State.onRpdo (n : Nat) (f : RpdoSt → RpdoSt) : State → State :=
  State.onComm (fun c => { c with rpdo := tabMod {} c.rpdo n f })

/-- Writes the mapped entries from the bytes of an RPDO, in mapping order; a refused write changes nothing. -/
def State.putMapped : List (Nat × Nat × Nat) → List Byte → State → State
  | [], _, s => s
  | m :: t, l, s => ((s.writeEntry m.1 m.2.1 (l.take m.2.2) .local).2).putMapped t (l.drop m.2.2)

/-- Applies the bytes of RPDO n. -/
def State.rpdoApply (n : Nat) (data : List Byte) (s : State) : State := s.putMapped (s.mapped 0x1600 n) data

/-- The bytes RPDO n's mapping needs. -/
def State.rpdoNeed (s : State) (n : Nat) : Nat := sumN ((s.mapped 0x1600 n).map (fun m => m.2.2))

/-- RPDO_RECEIVE. -/
def execRpdoReceive (n : Fin 16) (data : List Byte) (s : State) : Host.Outcome State Fault Refusal :=
  .next (if s.pdoServed = false ∨ s.pdoActive 0x1400 0x1600 n = false then s
    else if data.length < s.rpdoNeed n then s.emcyEvent 0x8210 0x2A []
    else
      let t := (s.onRpdo n (fun r => { r with lastGot := s.now })).endCond 0x8250 0x2A n
      if t.ent (0x1400 + n) 2 ≤ 240 then t.onRpdo n (fun r => { r with waiting := some data }) else t.rpdoApply n data)

/-- RPDO_DEADLINE_EXPIRY: the deadline runs from a reception (log 11). -/
def execRpdoDeadlineExpiry (n : Fin 16) (s : State) : Host.Outcome State Fault Refusal :=
  .next (if s.pdoServed = false ∨ s.pdoActive 0x1400 0x1600 n = false ∨ s.ent (0x1400 + n) 5 = 0 ∨ (s.rpdo n).lastGot = 0 then s
    else (s.upTo ((s.rpdo n).lastGot + 1000 * s.ent (0x1400 + n) 5)).raiseCond 0x8250 0x2A n [])

/-- What a SYNC does to TPDO n: type 0 is sent after a change, types 1 to 240 at every n-th SYNC. -/
def State.tpdoSync (n : Nat) (s : State) : State :=
  if s.pdoActive 0x1800 0x1A00 n = false then s
  else if s.tpdoType n = 0 then
    (if (s.tpdo n).changed = true ∨ s.tpdoData n ≠ (s.tpdo n).lastData then s.tpdoEmit n (s.tpdoData n) else s)
  else if s.tpdoType n ≤ 240 then
    (if s.tpdoType n ≤ (s.tpdo n).syncs + 1 then s.tpdoEmit n (s.tpdoData n) else s.onTpdo n (fun t => { t with syncs := t.syncs + 1 }))
  else s

/-- What a SYNC does to RPDO n: what it waits with is applied. -/
def State.rpdoSync (n : Nat) (s : State) : State :=
  match (s.rpdo n).waiting with
  | none => s
  | some d => (s.onRpdo n (fun r => { r with waiting := none })).rpdoApply n d

/-- SYNC: TPDOs are sampled, then RPDOs applied; the beat is untouched (R99). -/
def execSync (s : State) : Host.Outcome State Fault Refusal :=
  .next (if s.pdoServed = false then s
    else (List.range 16).foldl (fun t n => t.rpdoSync n) ((List.range 16).foldl (fun t n => t.tpdoSync n) s))

/-- TPDO_EVENT_TIMER_EXPIRY. -/
def execTpdoEventTimerExpiry (n : Fin 16) (s : State) : Host.Outcome State Fault Refusal :=
  .next (if s.pdoServed = false ∨ s.pdoActive 0x1800 0x1A00 n = false ∨ s.tpdoType n ≠ 255 ∨ s.ent (0x1800 + n) 5 = 0 then s
    else
      let t := s.upTo ((s.tpdo n).lastSent + 1000 * s.ent (0x1800 + n) 5)
      t.tpdoDue n (t.tpdoData n))

/-- TPDO_INHIBIT_EXPIRY: a transmission held back goes out; type 255 carries the values of now. -/
def execTpdoInhibitExpiry (n : Fin 16) (s : State) : Host.Outcome State Fault Refusal :=
  .next (if s.pdoServed = false ∨ s.pdoActive 0x1800 0x1A00 n = false then s
    else match (s.tpdo n).held with
      | none => s
      | some d =>
        let t := s.upTo (s.tpdo n).inhibitUntil
        t.tpdoEmit n (if t.tpdoType n = 255 then t.tpdoData n else d))

/-! ### NMT commands (R85) -/

/-- NMT_START. -/
def execNmtStart (s : State) : Host.Outcome State Fault Refusal := .next (if s.canUp then s.enterOperational else s)

/-- NMT_STOP. -/
def execNmtStop (s : State) : Host.Outcome State Fault Refusal := .next (if s.canUp then s.enterNmt .stopped else s)

/-- NMT_ENTER_PRE_OPERATIONAL. -/
def execNmtEnterPreOperational (s : State) : Host.Outcome State Fault Refusal :=
  .next (if s.canUp then s.enterNmt .preOperational else s)

/-- NMT_RESET_NODE: a device reset with cause 3 (17 R526). -/
def execNmtResetNode (s : State) : Host.Outcome State Fault Refusal := .next (if s.canUp then s.resetStart 3 else s)

/-- The indices a reset communication reloads. -/
def commIdx (idx : Nat) : Bool := (decide (0x1000 ≤ idx) && decide (idx < 0x2000)) || (decide (0x2010 ≤ idx) && decide (idx ≤ 0x2022))

/-- Whether the settings in force of an Ethernet port differ from its entries. -/
def State.ethChanges (s : State) (p : Nat) : Bool := [1, 2, 3, 4, 6].any (fun k => decide (s.force (ethIdx p) k ≠ s.ent (ethIdx p) k))

/-- New settings of a port take its address away until it acquires one (DEDUCED from R92, log 11). -/
def State.ethRestart (p : Nat) (s : State) : State :=
  if s.ethChanges p then (s.setEnt (ethIdx p) 5 0).onOap (fun o => { o with announces := tabPut {} o.announces p {} }) else s

/-- A reset communication: entries reloaded, sessions closed, the node-ID and rate that LSS set taken, PRE-OPERATIONAL entered. -/
def State.resetCommunication (s : State) : State :=
  let u := ((s.enterNmt .preOperational).loadP commIdx).closeSessions
  let u := ((u.ethRestart 0).ethRestart 1).commInForce
  let u := (u.onComm (fun c => { c with
    sdo := .idle, hbSeen := [], tpdo := [], rpdo := [], lss := { s.comm.lss with config := false, fastscanSub := 0 } })).bootNode
  let u := [0, 1, 2, 3].foldl (fun t i => t.endCond 0x8130 0x2A i) u
  u.bootUp.nmtStartup

/-- NMT_RESET_COMMUNICATION. -/
def execNmtResetCommunication (s : State) : Host.Outcome State Fault Refusal := .next (if s.canUp then s.resetCommunication else s)

/-! ### Heartbeats (R100) -/

/-- HEARTBEAT_PRODUCE. -/
def execHeartbeatProduce (s : State) : Host.Outcome State Fault Refusal :=
  .next (if s.canUp = false ∨ s.ent 0x1017 0 = 0 then s
    else
      let t := s.upTo (s.comm.hbLast + 1000 * s.ent 0x1017 0)
      (t.emit (.heartbeat t.comm.nmt.code)).onComm (fun c => { c with hbLast := t.now }))

/-- The node and time in µs that consumer entry i + 1 monitors. -/
def State.monitors (s : State) (i : Nat) : Nat × Nat := (bits (s.ent 0x1016 (i + 1)) 16 8, 1000 * bits (s.ent 0x1016 (i + 1)) 0 16)

/-- HEARTBEAT_CONSUME. -/
def execHeartbeatConsume (node : Nat) (s : State) : Host.Outcome State Fault Refusal :=
  .next (if s.canUp = false ∨ [0, 1, 2, 3].all (fun i => decide ((s.monitors i).1 ≠ node) || decide ((s.monitors i).2 = 0)) = true then s
    else
      let t := s.onComm (fun c => { c with hbSeen := (node, s.now) :: c.hbSeen.filter (fun e => decide (e.1 ≠ node)) })
      [0, 1, 2, 3].foldl (fun t i => if (s.monitors i).1 = node then t.endCond 0x8130 0x2A i else t) t)

/-- HEARTBEAT_CONSUMER_TIMEOUT: monitoring runs from a node's first heartbeat (log 11). -/
def execHeartbeatConsumerTimeout (i : Fin 4) (s : State) : Host.Outcome State Fault Refusal :=
  .next (if s.canUp = false ∨ (s.monitors i).2 = 0 then s
    else match s.comm.hbSeen.find? (fun e => decide (e.1 = (s.monitors i).1)) with
      | none => s
      | some e => (s.upTo (e.2 + (s.monitors i).2)).raiseCond 0x8130 0x2A i [])

/-! ### LSS (R101; the services as CiA 305 has them, PRESUMED, log 11) -/

/-- Changes the LSS state. -/
def State.onLss (f : Lss → Lss) : State → State := State.onComm (fun c => { c with lss := f c.lss })

/-- Serves an LSS service of the configuration state. -/
def State.lssDo (s : State) (f : State → State) : State := if s.boot.st = .running ∧ s.comm.lss.config = true then f s else s

/-- Leaving the configuration state, a node without a node-ID that was given one starts with it. -/
def State.lssLeave (s : State) : State :=
  let t := s.onLss (fun l => { l with config := false })
  if s.comm.lss.config = true ∧ s.comm.node = 0xFF ∧ s.comm.lss.pendingNode ≠ 0xFF then
    (t.onComm (fun c => { c with node := c.lss.pendingNode })).bootUp.nmtStartup
  else t

/-- LSS_SWITCH_STATE_GLOBAL. -/
def execLssSwitchStateGlobal (config : Bool) (s : State) : Host.Outcome State Fault Refusal :=
  .next (if s.boot.st ≠ .running then s
    else if config then s.onLss (fun l => { l with config := true }) else s.lssLeave)

/-- The identity of 0x1018 by field. -/
def State.identity (s : State) (f : Nat) : Nat := [0x4B5, s.product, s.revisionWord, Config.serial].getD f 0

/-- LSS_SWITCH_STATE_SELECTIVE. -/
def execLssSwitchStateSelective (id : LssId) (s : State) : Host.Outcome State Fault Refusal :=
  .next (if s.boot.st = .running ∧ id.vendor.toNat = s.identity 0 ∧ id.product.toNat = s.identity 1
      ∧ id.revision.toNat = s.identity 2 ∧ id.serial.toNat = s.identity 3 then
    (s.onLss (fun l => { l with config := true })).emit (.lss 0x44 0)
  else s)

/-- LSS_CONFIGURE_NODE_ID: 1 to 127, or 0xFF. -/
def execLssConfigureNodeId (node : Nat) (s : State) : Host.Outcome State Fault Refusal :=
  .next (s.lssDo (fun s =>
    if (1 ≤ node ∧ node ≤ 127) ∨ node = 0xFF then (s.onLss (fun l => { l with pendingNode := node })).emit (.lss 0x11 0)
    else s.emit (.lss 0x11 1)))

/-- The nominal rate of an index of table 0. -/
def lssRate (index : Nat) : Option Nat :=
  if index = 0 then some 1000 else if index = 2 then some 500 else if index = 3 then some 250 else if index = 4 then some 125 else none

/-- LSS_CONFIGURE_BIT_TIMING. -/
def execLssConfigureBitTiming (table index : Nat) (s : State) : Host.Outcome State Fault Refusal :=
  .next (s.lssDo (fun s =>
    match lssRate index with
    | none => s.emit (.lss 0x13 1)
    | some r => if table = 0 then (s.onLss (fun l => { l with pendingRate := r })).emit (.lss 0x13 0) else s.emit (.lss 0x13 1)))

/-- LSS_ACTIVATE_BIT_TIMING. -/
def execLssActivateBitTiming (s : State) : Host.Outcome State Fault Refusal :=
  .next (s.lssDo (State.onComm (fun c => { c with rate := c.lss.pendingRate })))

/-- LSS_STORE_CONFIGURATION: as a store of 0x1010.02, answered at its end. -/
def execLssStoreConfiguration (s : State) : Host.Outcome State Fault Refusal :=
  .next (s.lssDo (fun s => if s.storing then s.emit (.lss 0x17 2) else s.startStore 2 false .lss))

/-- LSS_INQUIRE_IDENTITY. -/
def execLssInquireIdentity (field : Fin 4) (s : State) : Host.Outcome State Fault Refusal :=
  .next (s.lssDo (fun s => s.emit (.lss (0x5A + field) (s.identity field))))

/-- LSS_INQUIRE_NODE_ID. -/
def execLssInquireNodeId (s : State) : Host.Outcome State Fault Refusal :=
  .next (s.lssDo (fun s => s.emit (.lss 0x5E s.comm.node)))

/-- LSS_IDENTIFY_REMOTE_SLAVE. -/
def execLssIdentifyRemoteSlave (vendor product revLo revHi serLo serHi : BitVec 32) (s : State) : Host.Outcome State Fault Refusal :=
  .next (if s.boot.st = .running ∧ vendor.toNat = s.identity 0 ∧ product.toNat = s.identity 1
      ∧ revLo.toNat ≤ s.identity 2 ∧ s.identity 2 ≤ revHi.toNat ∧ serLo.toNat ≤ s.identity 3 ∧ s.identity 3 ≤ serHi.toNat then
    s.emit (.lss 0x4F 0) else s)

/-- LSS_IDENTIFY_NON_CONFIGURED. -/
def execLssIdentifyNonConfigured (s : State) : Host.Outcome State Fault Refusal :=
  .next (if s.boot.st = .running ∧ s.comm.node = 0xFF then s.emit (.lss 0x50 0) else s)

/-- LSS_FASTSCAN, for a node without a node-ID in the waiting state: bitCheck 0x80 starts over; another step matches the identity
bits from 31 down to bitCheck of the part being scanned; the last part selects the node. -/
def execLssFastscan (idNumber : BitVec 32) (bitCheck : Nat) (lssSub lssNext : Fin 4) (s : State) : Host.Outcome State Fault Refusal :=
  .next (if s.boot.st ≠ .running ∨ s.comm.node ≠ 0xFF ∨ s.comm.lss.config = true then s
    else if bitCheck = 0x80 then (s.onLss (fun l => { l with fastscanSub := 0 })).emit (.lss 0x4F 0)
    else if lssSub.val = s.comm.lss.fastscanSub ∧ bitCheck < 32 ∧ idNumber.toNat / 2 ^ bitCheck = s.identity lssSub / 2 ^ bitCheck then
      (if bitCheck = 0 then
        s.onLss (fun l => { l with fastscanSub := lssNext, config := l.config || decide (lssNext.val < lssSub.val) }) else s).emit (.lss 0x4F 0)
    else s)

/-! ### CAN errors and the EMCY inhibit time (R104, R105) -/

/-- CAN_RECEIVE_OVERRUN. -/
def execCanReceiveOverrun (s : State) : Host.Outcome State Fault Refusal := .next (s.served (State.emcyEvent 0x8110 0x2A []))

/-- CAN_ERROR_PASSIVE. -/
def execCanErrorPassive (entering : Bool) (s : State) : Host.Outcome State Fault Refusal :=
  .next (s.served (fun s => if entering then s.raiseCond 0x8120 0x2A 0 [] else s.endCond 0x8120 0x2A 0))

/-- CAN_BUS_OFF_RECOVERY. -/
def execCanBusOffRecovery (s : State) : Host.Outcome State Fault Refusal :=
  .next (s.served (fun s => (s.count 0x2010 5 1).emcyEvent 0x8140 0x2A []))

/-- EMCY_INHIBIT_EXPIRY: the next message of the queue is sent, where EMCY is served (R82). -/
def execEmcyInhibitExpiry (s : State) : Host.Outcome State Fault Refusal :=
  .next (if s.sdoServed = false then s
    else match s.comm.emcyQ with
      | [] => s
      | m :: rest =>
        let t := s.upTo s.comm.emcyUntil
        (t.emit (.canEmcy m)).onComm (fun c => { c with emcyQ := rest, emcyUntil := t.emcyNext }))

end Sys2Proof.Machine
end

