-- ==== Sys2Proof/Machine/Registers.lean ====
section
/-! DEFINITION. The register pages, and the loads and stores of a cantor (01 R26 to R34, R41; 10 R324, R327, R345; 11 R379; the
field maps of the unit chapters). -/

namespace Sys2Proof.Machine

/-! ### Pages (01 R31, R41) -/

/-- Whether a page is assigned. -/
def pageAssigned (p : Nat) : Bool :=
  decide (p ≤ 4) || decide (8 ≤ p ∧ p ≤ 0xE) || decide (0x10 ≤ p ∧ p ≤ 0x14) || decide (0x18 ≤ p ∧ p ≤ 0x1F)
  || decide (0x20 ≤ p ∧ p ≤ 0x23) || decide (0x28 ≤ p ∧ p ≤ 0x2C) || decide (p = 0x30)

/-- Whether a page is assigned and its unit present and powered; else it reads 0 and ignores writes. -/
def State.pageUp (s : State) (p : Nat) : Bool :=
  if 8 ≤ p ∧ p ≤ 0xD then decide (p - 8 < s.portCount)
  else if 0x10 ≤ p ∧ p ≤ 0x13 then s.tileUp (p - 0x10)
  else if 0x20 ≤ p ∧ p ≤ 0x23 then s.tileUp (p - 0x20)
  else if p = 0x1C then s.hasUnit 6
  else if p = 0x1D then s.hasUnit 5
  else if p = 0x1E then s.hasUnit 4
  else pageAssigned p

/-- Puts bits into place. -/
def atBit (n v : Nat) : Nat := v * 2 ^ n

/-- A bit of a written value. -/
def hit (v n : Nat) : Bool := v.testBit n

/-! ### Page 0x00 (01 R31), page 0x01 (02 R47), page 0x02 (15), page 0x03 (04) -/

/-- ACCESS_ERROR_STATUS. -/
def MemUnit.errWord (m : MemUnit) : Nat := atBit 31 (b2n m.errValid) + atBit 16 m.errSource + atBit 12 m.errKind + m.errCount

/-- Page 0x00. -/
def State.readSystem (s : State) (off : Nat) : Nat :=
  match off with
  | 0x04 => s.unitsPresent
  | 0x08 => 0xB0
  | 0x0C => s.choir.ownId
  | 0x10 => s.memu.errWord
  | 0x18 => s.memu.errAddr % 2 ^ 32
  | 0x1C => s.memu.errAddr / 2 ^ 32 % 2 ^ 16
  | _ => 0

/-- BEAT_STATUS. -/
def BeatUnit.statusWord (b : BeatUnit) : Nat :=
  atBit 20 (min 15 b.pressLag) + atBit 16 (min 15 b.voiceLag) + atBit 9 (b2n b.pressShedding) + atBit 8 (b2n b.voiceShedding)
  + atBit 7 (b2n b.slewing) + atBit 4 b.source.code + b.tracker.code

/-- Page 0x01, without what a read of DEVICE_TIME_LO or BEAT_NUMBER_LO captures. -/
def State.readBeatPage (s : State) (c off : Nat) : Nat :=
  match off with
  | 0x0C => tabGet 0 s.beat.capTime c
  | 0x14 => tabGet 0 s.beat.capBeat c / 2 ^ 32
  | 0x18 => tabGet 0 s.beat.capStart c % 2 ^ 32
  | 0x1C => tabGet 0 s.beat.capStart c / 2 ^ 32
  | 0x20 => s.beat.statusWord
  | 0x24 => atBit 2 (b2n s.beat.irqEraOnly) + atBit 1 (b2n s.beat.irqEnable) + b2n s.beat.irqPending
  | _ => 0

/-- A write of BEAT_IRQ. -/
def State.writeBeatIrq (v : Nat) (s : State) : State :=
  let before := s.beat.irqPending && s.beat.irqEnable
  let u := s.onBeat (fun b => { b with irqPending := b.irqPending && !hit v 0, irqEnable := hit v 1, irqEraOnly := hit v 2 })
  if before then u else u.beatInterrupt

/-- NVM_STATUS (04). -/
def State.nvmStatus (s : State) : Nat :=
  atBit 16 (min 65535 s.nvm.eccCorrected) + atBit 3 (b2n (decide (64 ≤ s.nvm.staged.length))) + atBit 2 (b2n s.nvm.pendingSwitch.isSome)
  + atBit 1 (b2n (s.nvm.installing.isSome || s.nvm.committing)) + b2n s.storing

/-- Page 0x03: every cantor has its own copy of the append registers (04 R154). -/
def State.readNvm (s : State) (c off : Nat) : Nat :=
  if off = 0x10 then s.nvmStatus
  else if 0x20 ≤ off ∧ off ≤ 0x40 then (tabGet 0 s.nvm.appendPayload (c * 16 + (off - 0x20) / 4)).toNat
  else if off = 0x44 then (tabGet 0 s.nvm.appendControl c).toNat + atBit 30 (b2n (tabGet false s.nvm.appendRefused c))
  else 0

/-- A write of page 0x03. -/
def State.writeNvm (c off v : Nat) (s : State) : State :=
  if 0x20 ≤ off ∧ off ≤ 0x40 then
    s.onNvm (fun n => { n with
      appendPayload := tabPut 0 n.appendPayload (c * 16 + (off - 0x20) / 4) (BitVec.ofNat 32 (if off = 0x40 then v % 2 ^ 16 else v)) })
  else if off = 0x44 then
    let u := s.onNvm (fun n => { n with
      appendControl := tabPut 0 n.appendControl c (BitVec.ofNat 32 (bits v 0 18)),
      appendRefused := if hit v 30 then tabPut false n.appendRefused c false else n.appendRefused })
    if hit v 31 then u.bookAppend c else u
  else s

/-! ### Page 0x04 (17 R546) -/

/-- RESET_STATUS. -/
def Boot.statusWord (b : Boot) : Nat :=
  atBit 16 (b2n b.debug) + atBit 15 (b2n b.keyList.isSome) + atBit 13 b.keyIndex + atBit 12 b.slot + atBit 8 (min 15 b.attempts) + b.cause

/-- Page 0x04. -/
def State.readSecurity (s : State) (off : Nat) : Nat :=
  match off with
  | 0x10 => s.boot.statusWord
  | 0x18 => atBit 31 (b2n s.boot.wdEnabled) + atBit 30 (b2n s.boot.kickError) + s.boot.wdTimeout
  | 0x20 => atBit 30 (b2n s.choir.resetRefused) + s.reg 4 0x20
  | 0x30 => s.boot.writeSource % 2 ^ 32
  | 0x34 => s.boot.writeSource / 2 ^ 32
  | 0x38 => s.boot.writeLength
  | 0x3C => atBit 31 (b2n s.boot.update.isSome) + atBit 30 (b2n s.boot.writeFailed) + s.reg 4 0x3C
  | 0x40 => atBit 30 (b2n s.boot.fuseRefused) + s.reg 4 0x40
  | 0x44 => s.reg 4 0x44
  | _ => 0

/-- A write of WATCHDOG_CONTROL (17 R529). -/
def Boot.writeWatchdog (v : Nat) (b : Boot) : Boot :=
  let b := if hit v 30 then { b with kickError := false } else b
  if 10 ≤ bits v 0 14 ∧ bits v 0 14 ≤ 10000 then { b with wdTimeout := bits v 0 14 } else { b with kickError := true }

/-- A write of BOOT_WRITE_CONTROL; a TARGET other than 0 and 1 fails. -/
def State.writeBootControl (v : Nat) (s : State) : State :=
  let u := (s.setReg 4 0x3C (bits v 0 2)).onBoot (fun b => { b with writeFailed := b.writeFailed && !hit v 30 })
  if hit v 31 = false then u
  else match bits v 0 2 with
    | 0 => u.bootWrite false
    | 1 => u.bootWrite true
    | _ => u.onBoot (fun b => { b with writeFailed := true })

/-- A write of page 0x04. -/
def State.writeSecurity (off v : Nat) (s : State) : State :=
  match off with
  | 0x14 => if v = 0xA5C3 then s.resetStart 4 else s
  | 0x18 => s.onBoot (Boot.writeWatchdog v)
  | 0x1C => s.kick v
  | 0x20 =>
    let u := (s.setReg 4 0x20 (bits v 0 4)).onChoir (fun c => { c with resetRefused := c.resetRefused && !hit v 30 })
    if hit v 31 then u.resetRequestTo (bits v 0 4) else u
  | 0x24 => if hit v 0 then s.onBoot (fun b => { b with attempts := 0 }) else s
  | 0x30 => s.onBoot (fun b => { b with writeSource := putBits b.writeSource 0 32 v })
  | 0x34 => s.onBoot (fun b => { b with writeSource := putBits b.writeSource 32 32 v })
  | 0x38 => s.onBoot (fun b => { b with writeLength := v })
  | 0x3C => s.writeBootControl v
  | 0x40 =>
    let u := (s.setReg 4 0x40 (bits v 0 4)).onBoot (fun b => { b with fuseRefused := b.fuseRefused && !hit v 30 })
    if hit v 31 then u.fuseProgram (bits v 0 4) (s.reg 4 0x44) else u
  | 0x44 => s.setReg 4 0x44 (bits v 0 3)
  | 0x48 => s.rollbackAdvance (bits v 0 7)
  | _ => s

/-! ### Pages 0x10 to 0x13 (08 R268) -/

/-- TASK_STATUS of a slot. -/
def Task.statusWord (x : Task) : Nat := atBit 12 x.dep + atBit 8 x.cause + x.st.code

/-- FREE slots at or above the template count. -/
def State.freeSlots (s : State) (t : Nat) : Nat :=
  ((List.range 1024).filter (fun k => decide (tabGet 0 s.press.templateCount t ≤ k) && decide ((s.task (t * 1024 + k)).st = .free))).length

/-- Whether a press stage's template is live on a tile. -/
def State.templateBusy (s : State) (t : Nat) : Bool :=
  s.press.tasks.any (fun e => decide (e.1 / 1024 = t) && e.2.beat.isSome && e.2.st.live)

/-- A dispatcher's page. -/
def State.readDispatch (s : State) (t off : Nat) : Nat :=
  match off with
  | 0x10 => s.reg (0x10 + t) 0x10
  | 0x14 => s.reg (0x10 + t) 0x14
  | 0x18 => atBit 30 (b2n (tabGet false s.press.refused t)) + atBit 16 (tabGet 0 s.press.refuseCause t)
  | 0x1C => atBit 30 (b2n (tabGet false s.press.cancelMissed t)) + s.reg (0x10 + t) 0x1C
  | 0x20 => s.reg (0x10 + t) 0x20
  | 0x24 => (s.task (t * 1024 + s.reg (0x10 + t) 0x20)).statusWord
  | 0x28 => atBit 11 (s.freeSlots t) + atBit 1 (tabGet 0 s.press.templateCount t) + b2n (s.templateBusy t)
  | _ => 0

/-- A write of a dispatcher's page. -/
def State.writeDispatch (t off v : Nat) (s : State) : State :=
  match off with
  | 0x10 => s.setReg (0x10 + t) 0x10 v
  | 0x14 => s.setReg (0x10 + t) 0x14 (bits v 0 16)
  | 0x18 =>
    let u := if hit v 30 then s.onPress (fun p => { p with refused := tabPut false p.refused t false }) else s
    if hit v 31 then u.submit t else u
  | 0x1C =>
    let u := s.setReg (0x10 + t) 0x1C (bits v 0 10)
    let u := if hit v 30 then u.onPress (fun p => { p with cancelMissed := tabPut false p.cancelMissed t false }) else u
    if hit v 31 then u.cancel t (bits v 0 10) else u
  | 0x20 => s.setReg (0x10 + t) 0x20 (bits v 0 10)
  | _ => s

/-! ### Page 0x14 (10 R343) -/

/-- A register of a mover's block. -/
def Mover.readWord (x : Mover) (off : Nat) : Nat :=
  match off with
  | 0x00 => x.base % 2 ^ 32
  | 0x04 => x.base / 2 ^ 32
  | 0x08 => atBit 31 (b2n x.enable) + atBit 30 (b2n (decide (x.st = .aborting))) + x.size
  | 0x0C => x.tail
  | 0x10 => x.head
  | 0x14 => atBit 16 x.st.code + atBit 8 x.flight.length + atBit 2 (b2n x.configError) + atBit 1 (b2n x.tailError) + b2n x.irqPending
  | 0x18 => x.completed.toNat
  | _ => 0

/-- Page 0x14. -/
def State.readMovers (s : State) (off : Nat) : Nat :=
  if 0x1000 ≤ off ∧ off < 0x1400 then (s.mover ((off - 0x1000) / 0x40)).readWord (off % 0x40)
  else match off with
    | 0x10 => s.moverIrqs
    | 0x14 => s.reg 0x14 0x14
    | 0x18 => min 4095 s.inFlightCount
    | 0x1C => s.memu.eccCorrected
    | 0x20 => s.memu.eccUncorrected
    | _ => 0

/-- A write of RING_CONFIG: SIZE_CODE while DISABLED, then ENABLE 1, ABORT and ENABLE 0 (10 R341). -/
def State.writeRing (m v : Nat) (s : State) : State :=
  let u := s.onMover m (fun x => if x.st = .disabled then { x with size := bits v 0 3 } else x)
  let u := if hit v 30 then u.moverAbort m else u
  if hit v 31 then u.moverEnable m else u.moverDisable m

/-- A write of a mover's block. -/
def State.writeMover (m off v : Nat) (s : State) : State :=
  match off with
  | 0x00 => s.onMover m (fun x => if x.st = .disabled then { x with base := putBits x.base 0 32 v } else x)
  | 0x04 => s.onMover m (fun x => if x.st = .disabled then { x with base := putBits x.base 32 16 v } else x)
  | 0x08 => s.writeRing m v
  | 0x0C => s.tailWrite m (bits v 0 16)
  | 0x14 => s.onMover m (fun x => { x with
      configError := x.configError && !hit v 2, tailError := x.tailError && !hit v 1, irqPending := x.irqPending && !hit v 0 })
  | _ => s

/-- A write of page 0x14. -/
def State.writeMovers (off v : Nat) (s : State) : State :=
  if 0x1000 ≤ off ∧ off < 0x1400 then s.writeMover ((off - 0x1000) / 0x40) (off % 0x40) v
  else if off = 0x14 then s.setReg 0x14 0x14 (bits v 0 3)
  else s

/-! ### Page 0x18 (09 R318) -/

/-- Word k of an item. -/
def itemWord (it : BitVec 128) (k : Nat) : Nat := bits it.toNat (32 * k) 32

/-- Whether a queue has an enabled interrupt pending (09 R313). -/
def Queue.irqOn (x : Queue) : Bool := decide (x.irqPending &&& x.irqEnable ≠ 0)

/-- A register of a queue's block, without what a read of POP_DATA0 does. -/
def State.readQueue (s : State) (c q off : Nat) : Nat :=
  let x := s.q q
  let k := latchKey c q
  if off = 0 then x.status
  else if off = 4 then x.fill
  else if off = 8 then atBit 16 x.irqEnable.toNat + x.irqPending.toNat
  else if 0x10 ≤ off ∧ off ≤ 0x1C then itemWord (tabGet 0 s.queue.pushData k) ((off - 0x10) / 4)
  else if off = 0x20 then
    let r := tabGet 0 s.queue.pushRefused k
    atBit 30 (b2n (decide (r ≠ 0))) + atBit 27 r + tabGet 0 s.queue.pushControl k
  else if 0x30 ≤ off ∧ off ≤ 0x3C then itemWord (tabGet 0 s.queue.popData k) ((off - 0x30) / 4)
  else if off = 0x40 then (tabGet 0 s.queue.popStatus k).toNat
  else if 0x60 ≤ off then (x.level ((off - 0x60) / 4)).credits
  else 0

/-- Page 0x18. -/
def State.readQueues (s : State) (c off : Nat) : Nat :=
  if 0x1000 ≤ off ∧ off < 0x2000 then s.readQueue c ((off - 0x1000) / 0x80) (off % 0x80)
  else match off with
    | 0x10 => sumN ((List.range 32).map (fun q => b2n (s.q q).irqOn * 2 ^ q))
    | 0x14 => s.reg 0x18 0x14
    | 0x18 => s.queue.fc.toNat
    | _ => 0

/-- A write of Q_IRQ; an enable that meets a pending interrupt raises it. -/
def State.writeQIrq (q v : Nat) (s : State) : State :=
  let u := s.onQ q (fun x => { x with irqPending := x.irqPending &&& ~~~(BitVec.ofNat 4 v), irqEnable := BitVec.ofNat 4 (bits v 16 4) })
  if (u.q q).irqOn && !(s.q q).irqOn then u.emit (.interrupt 0x18 (s.reg 0x18 0x14 % 8)) else u

/-- A write of PUSH_CONTROL (09 R300). -/
def State.writePush (c q v : Nat) (s : State) : State :=
  let k := latchKey c q
  let u := s.onQueues (fun x => { x with
    pushControl := tabPut 0 x.pushControl k (atBit 8 (bits v 8 8) + bits v 0 3),
    pushRefused := if hit v 30 then tabPut 0 x.pushRefused k 0 else x.pushRefused })
  if hit v 31 = false then u else if hit v 15 then u.pushFirst c q else u.pushNext c q

/-- A write of a queue's block. -/
def State.writeQueue (c q off v : Nat) (s : State) : State :=
  if off = 0 then s.onQ q (fun x => { x with creditFault := x.creditFault && !hit v 10, underrun := x.underrun && !hit v 4 })
  else if off = 8 then s.writeQIrq q v
  else if 0x10 ≤ off ∧ off ≤ 0x1C then
    s.onQueues (fun x => { x with
      pushData := tabMod 0 x.pushData (latchKey c q) (fun it => BitVec.ofNat 128 (putBits it.toNat (32 * ((off - 0x10) / 4)) 32 v)) })
  else if off = 0x20 then s.writePush c q v
  else s

/-- A write of page 0x18; a new target is interrupted at once while an enabled interrupt is pending (09 R313). -/
def State.writeQueues (c off v : Nat) (s : State) : State :=
  if 0x1000 ≤ off ∧ off < 0x2000 then s.writeQueue c ((off - 0x1000) / 0x80) (off % 0x80) v
  else if off = 0x14 then
    let u := s.setReg 0x18 0x14 (bits v 0 3)
    if s.reg 0x18 0x14 ≠ bits v 0 3 ∧ (List.range 32).any (fun q => (s.q q).irqOn) = true then
      u.emit (.interrupt 0x18 (bits v 0 3)) else u
  else s

/-! ### Page 0x1C (13) -/

/-- Page 0x1C. -/
def Audio.readWord (a : Audio) (off : Nat) : Nat :=
  match off with
  | 0x10 => a.base % 2 ^ 32
  | 0x14 => a.base / 2 ^ 32
  | 0x18 => atBit 31 (b2n a.enable) + a.size
  | 0x1C => a.wr.toNat
  | 0x20 => a.rd.toNat
  | 0x24 => atBit 2 (b2n a.configError) + atBit 1 (b2n a.writeError) + b2n a.underrun
  | _ => 0

/-- A write of page 0x1C. -/
def State.writeAudio (off v : Nat) (s : State) : State :=
  match off with
  | 0x10 => s.onAudio (fun a => if a.enable then a else { a with base := putBits a.base 0 32 v })
  | 0x14 => s.onAudio (fun a => if a.enable then a else { a with base := putBits a.base 32 16 v })
  | 0x18 =>
    let u := s.onAudio (fun a => if a.enable then a else { a with size := bits v 0 3 })
    if hit v 31 then u.audioEnable else u.onAudio (fun a => { a with enable := false })
  | 0x1C => s.audioWrite (BitVec.ofNat 32 v)
  | 0x24 => s.onAudio (fun a => { a with
      configError := a.configError && !hit v 2, writeError := a.writeError && !hit v 1, underrun := a.underrun && !hit v 0 })
  | _ => s

/-! ### Pages 0x20 to 0x23 (06 R213, R214; 07 R247) -/

/-- The bits of a core's loading register that are not reserved, for a KERNEL or another partition (06 R213, R214). -/
def coreMask (kernel : Bool) (off : Nat) : Nat :=
  if off = 0x08 then 0x3FFFFF
  else if off = 0x0C then 0xFFFFFFFF
  else match (off - 0x10) % 0x20 with
    | 0x08 => 0xFE01FFFF
    | 0x0C => 0x3FF
    | 0x10 => if kernel then 0x00FFFFFF else 0xFFFFFFFF
    | 0x14 => if kernel then 0x07FF07FF else 0
    | 0x18 => if kernel then 0x07FF07FF else 0
    | 0x1C => 0
    | _ => 0xFFFFFFFF

/-- CORE_STATUS. -/
def State.coreStatus (s : State) (c : Nat) : Nat :=
  let x := s.core c
  atBit 24 x.loadError + atBit 16 x.ecc + atBit 7 (b2n x.loadRefused) + atBit 6 (b2n x.uncorrected)
  + atBit 3 (b2n x.clearing) + x.st.code

/-- A register of a core's block; reserved bits read 0. -/
def State.readCore (s : State) (c off : Nat) : Nat :=
  if off = 0 then atBit 1 (b2n (s.core c).committing)
  else if off = 4 then s.coreStatus c
  else if 8 ≤ off ∧ off < 0x90 then
    s.coreReg c off &&& coreMask (decide (s.partKind c ((off - 0x10) / 0x20) = 0)) off
  else match off with
    | 0x90 => s.ent (coreIdx c) 2
    | 0x94 => s.ent (coreIdx c) 3
    | 0x98 => s.ent (coreIdx c) 4
    | 0x9C => s.ent (coreIdx c) 6
    | _ => 0

/-- A fabric control page, without what the read of an item's last word does. -/
def State.readFabric (s : State) (t off : Nat) : Nat :=
  if 0x8000 ≤ off ∧ off < 0xC000 then s.readCore (t * 64 + (off - 0x8000) / 0x100) (off % 0x100)
  else if off = 0x04 then s.fabric.rankCount
  else if off = 0x10 then s.reg (0x20 + t) 0x10
  else if 0x14 ≤ off ∧ off ≤ 0x20 then s.tabItem t ((off - 0x14) / 4)
  else if off = 0x24 then tabGet 0 s.fabric.tableStatus t
  else 0

/-- The offset of the last word of the item TABLE_SELECT names. -/
def State.tabLast (s : State) (t : Nat) : Nat := if (s.tabSelect t).2.1 = 0 then 0x20 else 0x14

/-- A write of CORE_CONTROL: LOAD, COMMIT and DISABLE in this order. -/
def State.coreControl (c v : Nat) (s : State) : State :=
  let u := if hit v 0 then s.coreLoadOp c else s
  let u := if hit v 1 then u.coreCommitOp c else u
  if hit v 2 then u.coreDisableOp c else u

/-- A write of a core's block (06 R214). -/
def State.writeCore (c off v : Nat) (s : State) : State :=
  if off = 0 then s.coreControl c v
  else if off = 4 then s.onCore c (fun x => { x with loadRefused := x.loadRefused && !hit v 7, uncorrected := x.uncorrected && !hit v 6 })
  else if 8 ≤ off ∧ off < 0x90 ∧ (s.core c).st = .loading then s.setReg (0x20 + c / 64) (0x8000 + 0x100 * (c % 64) + off) v
  else s

/-- A write of a fabric control page. -/
def State.writeFabric (t off v : Nat) (s : State) : State :=
  if 0x8000 ≤ off ∧ off < 0xC000 then s.writeCore (t * 64 + (off - 0x8000) / 0x100) (off % 0x100) v
  else if off = 0x04 then s.rankWrite t v
  else if off = 0x10 then s.setReg (0x20 + t) 0x10 (v &&& 0x3FC7FF)
  else if 0x14 ≤ off ∧ off ≤ 0x20 then (if off = s.tabLast t then s.tabWrite t v else s.setReg (0x20 + t) off v)
  else if off = 0x24 then s.onFabric (fun f => { f with tableStatus := tabMod 0 f.tableStatus t (fun w => w - (w &&& v &&& 3)) })
  else s

/-! ### Any page -/

/-- What a register reads as, without what the read does. -/
def State.peekReg (s : State) (c p off : Nat) : Nat :=
  if s.pageUp p = false then 0
  else if off = 0 then 0x4B500000 + p
  else if p = 0 then s.readSystem off
  else if p = 1 then s.readBeatPage c off
  else if p = 2 then (if off = 0x10 then atBit 4 s.power.opMin + s.power.opMax else 0)
  else if p = 3 then s.readNvm c off
  else if p = 4 then s.readSecurity off
  else if 0x10 ≤ p ∧ p ≤ 0x13 then s.readDispatch (p - 0x10) off
  else if p = 0x14 then s.readMovers off
  else if p = 0x18 then s.readQueues c off
  else if p = 0x1C then s.audio.readWord off
  else if 0x20 ≤ p ∧ p ≤ 0x23 then s.readFabric (p - 0x20) off
  else 0

/-- A read of a register by a cantor: its value, and the state after what the read does. -/
def State.readReg (c p off : Nat) (s : State) : Nat × State :=
  if s.pageUp p = false then (0, s)
  else if p = 1 ∧ off = 0x08 then s.readTimeLo c
  else if p = 1 ∧ off = 0x10 then s.readBeatLo c
  else if 0x20 ≤ p ∧ p ≤ 0x23 ∧ off = s.tabLast (p - 0x20) then (s.peekReg c p off, s.tabNext (p - 0x20))
  else (s.peekReg c p off, s)

/-- A write of a register by a cantor. -/
def State.writeReg (c p off v : Nat) (s : State) : State :=
  if s.pageUp p = false then s
  else if p = 0 then
    (if off = 0x10 ∧ hit v 31 = true then s.onMem (fun m => { m with errValid := false, errSource := 0, errKind := 0, errCount := 0, errAddr := 0 })
     else s)
  else if p = 1 then (if off = 0x24 then s.writeBeatIrq v else s)
  else if p = 2 then
    (if off = 0x10 then (s.onPower (fun x => { x with opMin := bits v 4 3, opMax := bits v 0 3 })).followLimits else s)
  else if p = 3 then s.writeNvm c off v
  else if p = 4 then s.writeSecurity off v
  else if 0x10 ≤ p ∧ p ≤ 0x13 then s.writeDispatch (p - 0x10) off v
  else if p = 0x14 then s.writeMovers off v
  else if p = 0x18 then s.writeQueues c off v
  else if p = 0x1C then s.writeAudio off v
  else if 0x20 ≤ p ∧ p ≤ 0x23 then s.writeFabric (p - 0x20) off v
  else s

/-- The page of an offset of the register region. -/
def pageOf (a : Nat) : Nat := (a - 0x10000000) / 0x10000

/-- The queue whose POP_DATA0 an offset names. -/
def popQueue (a : Nat) : Option Nat :=
  if pageOf a = 0x18 ∧ 0x1000 ≤ a % 0x10000 ∧ a % 0x10000 < 0x2000 ∧ a % 0x80 / 4 * 4 = 0x30 then some ((a % 0x10000 - 0x1000) / 0x80) else none

/-! ### Loads and stores of a cantor (10 R327, R345, R354) -/

/-- A cantor's access error: captured, and a precise trap (01 R32, R33): 5 for a load, 7 for a store. -/
def State.cantorFault (c kind addr trap : Nat) (s : State) : State := (s.accessError c kind addr).emit (.trap c trap addr)

/-- Reads the words that n bytes from an offset of the register region touch, in rising order; the answer spells them. -/
def State.loadWords : Nat → Nat → Nat → State → Nat × State
  | 0, _, _, s => (0, s)
  | k + 1, c, a, s =>
    let r := s.readReg c (pageOf a) (a % 0x10000)
    let t := r.2.loadWords k c (a + 4)
    (r.1 + 2 ^ 32 * t.1, t.2)

/-- A load of n bytes from the register region. Accesses of another width than one aligned word are this model's reading
(log 35); a load that begins at POP_DATA0 is a pop, which answers its word once the item is there. -/
def State.loadPage (c addr a n : Nat) (s : State) : State :=
  if pageAssigned (pageOf a) = false ∨ pageAssigned (pageOf (a + n - 1)) = false then s.cantorFault c 1 addr 5
  else match popQueue a with
    | some q => s.pop c q
    | none =>
      let w := a / 4 * 4
      let r := s.loadWords ((a % 4 + n + 3) / 4) c w
      r.2.emit (.read c (bits r.1 (8 * (a % 4)) (8 * n)))

/-- Writes the words that a store of bytes at an offset of the register region touches, in rising order from word w on; the
lanes of a word that the store does not cover are free values (log 35). -/
def State.storeWords : Nat → Nat → Nat → Nat → List Byte → State → State
  | 0, _, _, _, _, s => s
  | k + 1, c, a, w, l, s =>
    let part := (a ≤ w ∧ w + 4 ≤ a + l.length)
    let lane := fun i => if a ≤ w + i ∧ w + i < a + l.length then (l.getD (w + i - a) 0).toNat else bits s.drawn (8 * i) 8
    let v := sumN ((List.range 4).map (fun i => lane i * 256 ^ i))
    ((if part then s else s.draw).writeReg c (pageOf w) (w % 0x10000) v).storeWords k c a (w + 4) l

/-- A store to the register region. -/
def State.storePage (c addr a : Nat) (l : List Byte) (s : State) : State :=
  if pageAssigned (pageOf a) = false ∨ pageAssigned (pageOf (a + l.length - 1)) = false then s.cantorFault c 1 addr 7
  else s.storeWords ((a % 4 + l.length + 3) / 4) c a (a / 4 * 4) l

/-- A line of the Cellar with an uncorrectable error that the Cantor cluster does not hold (10 R324). -/
def State.cantorBadLine (s : State) (a n : Nat) : Option Nat :=
  ((pieces a n).find? (fun p => inCellar p.1 && s.poisoned p.1 p.2 && !s.memu.l2.contains (p.1 / 64))).map (fun p => p.1)

/-- Whether a cantor's read of a range reaches memory: a device region, or a line that the L2 does not hold. -/
def State.reachesMemory (s : State) (a : Nat) : Bool := !cacheable a || !s.memu.l2.contains (a / 64)

/-- A load of the own package. -/
def State.loadLocal (c addr n : Nat) (upset : Upset) (s : State) : State :=
  let a := offsetOf addr
  match s.rangeKind .cantor false a n with
  | some (k, b) => s.cantorFault c k (packageOf addr * 2 ^ 44 + b) 5
  | none =>
    match areaOf a with
    | .pages => s.loadPage c addr a n
    | .window _ => ((s.upset upset a).windowEcc a n).emit (.read c (s.memNum a n))
    | _ =>
      let u := if s.reachesMemory a then s.upset upset a else s
      match u.cantorBadLine a n with
      | some b => (u.eccRead c b).emit (.trap c 5 addr)
      | none =>
        let v := u.takeLines c a n
        v.emit (.read c (leNum (v.cantorBytes c a n)))

/-- A store of the own package. -/
def State.storeLocal (c addr : Nat) (l : List Byte) (s : State) : State :=
  let a := offsetOf addr
  match s.rangeKind .cantor true a l.length with
  | some (k, b) => s.cantorFault c k (packageOf addr * 2 ^ 44 + b) 7
  | none =>
    match areaOf a with
    | .pages => s.storePage c addr a l
    | .window _ => s.ncWrite a l
    | _ =>
      match s.cantorBadLine a l.length with
      | some b => (s.eccRead c b).emit (.trap c 5 addr)
      | none => s.cantorStore c a l

/-- CANTOR_LOAD of 1, 2, 4 or 8 bytes: local, or of another member's memory over Choir Link (11 R379). -/
def execCantorLoad (c : Fin 8) (addr : Addr) (size : Fin 4) (upset : Upset) (s : State) :
    Host.Outcome State Fault Refusal :=
  .next (if s.cantorUp c = false then s
    else if s.isLocal addr.toNat then s.loadLocal c addr.toNat (2 ^ size.val) upset
    else if s.reachable (packageOf addr.toNat) then s.sendMemReq (.cantorLoad c) false addr.toNat (2 ^ size.val) []
    else s.cantorFault c 6 addr.toNat 5)

/-- CANTOR_STORE of 1, 2, 4 or 8 bytes. -/
def execCantorStore (c : Fin 8) (addr : Addr) (size : Fin 4) (val : BitVec 64) (s : State) : Host.Outcome State Fault Refusal :=
  .next (if s.cantorUp c = false then s
    else
      let l := leBytes (2 ^ size.val) val.toNat
      if s.isLocal addr.toNat then s.storeLocal c addr.toNat l
      else if s.reachable (packageOf addr.toNat) then s.sendMemReq (.cantorStore c) true addr.toNat (2 ^ size.val) l
      else s.cantorFault c 6 addr.toNat 7)

/-- REGISTER_WRITE: a cantor's store of one word to a register; a reserved page is an access error (01 R31, R32). -/
def execRegisterWrite (c : Fin 8) (page off : Nat) (val : BitVec 32) (s : State) : Host.Outcome State Fault Refusal :=
  .next (if s.cantorUp c = false then s
    else if pageAssigned page then s.writeReg c page (off % 0x10000 / 4 * 4) val.toNat
    else s.cantorFault c 1 (s.choir.ownId * 2 ^ 44 + 0x10000000 + page % 4096 * 0x10000 + off % 0x10000) 7)

/-! ### The debug module (17 R545) -/

/-- A system bus access of the debug module to the own package's address map (01 R26): backing memory, or words of the register
pages with the effects of a cantor's access. One that fails returns no data and captures nothing, for R31 gives it no SOURCE
(log 34). -/
def State.debugBus (wr : Bool) (addr n : Nat) (data : List Byte) (s : State) : State :=
  let a := offsetOf addr
  if s.isLocal addr = false ∨ (s.rangeKind .cantor wr a n).isSome = true ∨ (s.badLine a n).isSome = true then s.emit (.data 0xFF [])
  else match areaOf a with
    | .pages =>
      if pageAssigned (pageOf a) = false ∨ pageAssigned (pageOf (a + n - 1)) = false then s.emit (.data 0xFF [])
      else if wr then s.storeWords ((a % 4 + n + 3) / 4) 0 a (a / 4 * 4) data
      else
        let r := s.loadWords ((a % 4 + n + 3) / 4) 0 (a / 4 * 4)
        r.2.emit (.data 0xFF (leBytes n (bits r.1 (8 * (a % 4)) (8 * n))))
    | _ => if wr then s.ncWrite a data else s.emit (.data 0xFF (s.bytesAt a n))

/-- DEBUG_MODULE_ACCESS (R545). -/
def execDebugModuleAccess (a : DebugOp) (s : State) : Host.Outcome State Fault Refusal :=
  .next (if s.boot.debug = false then s
    else match a with
      | .halt c => s.debugHalt c true
      | .resume c => s.debugHalt c false
      | .busRead addr len => s.debugBus false addr.toNat len []
      | .busWrite addr data => s.debugBus true addr.toNat data.length data
      | .hartAccess c => (s.draw).emit (.data (0x40 + c.val) (leBytes 8 s.drawn)))

end Sys2Proof.Machine
end

