-- ==== Sys2Proof/Machine/Dispatch.lean ====
section
/-! DEFINITION. What each command does: one arm per constructor, each one call of its meaning. -/

namespace Sys2Proof.Machine

/-- The effect of a command on everything but the queue of waiting commands. -/
def exec (i : Instr) (s : State) : Host.Outcome State Fault Refusal :=
  match i with
  | .beatBoundary => Sys2Proof.Machine.execBeatBoundary s
  | .syncOutPulseEnd => Sys2Proof.Machine.execSyncOutPulseEnd s
  | .deviceTimeLoRead req => Sys2Proof.Machine.execDeviceTimeLoRead req s
  | .beatNumberLoRead req => Sys2Proof.Machine.execBeatNumberLoRead req s
  | .ingestWindowClose => Sys2Proof.Machine.execIngestWindowClose s
  | .voiceStageStart => Sys2Proof.Machine.execVoiceStageStart s
  | .rankBarrierOpen => Sys2Proof.Machine.execRankBarrierOpen s
  | .voiceStageEnd => Sys2Proof.Machine.execVoiceStageEnd s
  | .voiceStageDeadline => Sys2Proof.Machine.execVoiceStageDeadline s
  | .pressStageDeadline => Sys2Proof.Machine.execPressStageDeadline s
  | .policyReturnToHold st => Sys2Proof.Machine.execPolicyReturnToHold st s
  | .shedClassDiscard cls => Sys2Proof.Machine.execShedClassDiscard cls s
  | .syncInEdge stamp => Sys2Proof.Machine.execSyncInEdge stamp s
  | .syncInGlitch => Sys2Proof.Machine.execSyncInGlitch s
  | .syncInTimeout => Sys2Proof.Machine.execSyncInTimeout s
  | .holdoverLimitExpiry => Sys2Proof.Machine.execHoldoverLimitExpiry s
  | .ingestStart => Sys2Proof.Machine.execIngestStart s
  | .verdictQueueWrite => Sys2Proof.Machine.execVerdictQueueWrite s
  | .trellisFlitCrcError t l flit => Sys2Proof.Machine.execTrellisFlitCrcError t l flit s
  | .trellisLinkRetrain t l ok => Sys2Proof.Machine.execTrellisLinkRetrain t l ok s
  | .trellisLinkDisable t l => Sys2Proof.Machine.execTrellisLinkDisable t l s
  | .cantorLoad c addr size upset => Sys2Proof.Machine.execCantorLoad c addr size upset s
  | .cantorStore c addr size val => Sys2Proof.Machine.execCantorStore c addr size val s
  | .accessErrorClear => Sys2Proof.Machine.execAccessErrorClear s
  | .lr c addr dbl => Sys2Proof.Machine.execLr c addr dbl s
  | .sc c addr dbl val => Sys2Proof.Machine.execSc c addr dbl val s
  | .amo c addr dbl opr val => Sys2Proof.Machine.execAmo c addr dbl opr val s
  | .fenceSCore c word => Sys2Proof.Machine.execFenceSCore c word s
  | .fenceSChip c word => Sys2Proof.Machine.execFenceSChip c word s
  | .fenceSSystem c word => Sys2Proof.Machine.execFenceSSystem c word s
  | .fence c pred succ => Sys2Proof.Machine.execFence c pred succ s
  | .fenceI c => Sys2Proof.Machine.execFenceI c s
  | .fenceTso c => Sys2Proof.Machine.execFenceTso c s
  | .getS c line cycle => Sys2Proof.Machine.execGetS c line cycle s
  | .getM c line cycle => Sys2Proof.Machine.execGetM c line cycle s
  | .putS c line => Sys2Proof.Machine.execPutS c line s
  | .putE c line => Sys2Proof.Machine.execPutE c line s
  | .putM c line => Sys2Proof.Machine.execPutM c line s
  | .putMData line => Sys2Proof.Machine.execPutMData line s
  | .ncRead req addr len upset => Sys2Proof.Machine.execNcRead req addr len upset s
  | .ncWrite req addr data => Sys2Proof.Machine.execNcWrite req addr data s
  | .registerWrite c page off val => Sys2Proof.Machine.execRegisterWrite c page off val s
  | .sdoInitiateDownload idx sub expedited data => Sys2Proof.Machine.execSdoInitiateDownload idx sub expedited data s
  | .sdoDownloadSegment toggle last data => Sys2Proof.Machine.execSdoDownloadSegment toggle last data s
  | .sdoInitiateUpload idx sub => Sys2Proof.Machine.execSdoInitiateUpload idx sub s
  | .sdoUploadSegment toggle => Sys2Proof.Machine.execSdoUploadSegment toggle s
  | .sdoBlockRequest => Sys2Proof.Machine.execSdoBlockRequest s
  | .sdoAbortReceived => Sys2Proof.Machine.execSdoAbortReceived s
  | .sdoSegmentTimeout => Sys2Proof.Machine.execSdoSegmentTimeout s
  | .rpdoReceive n data => Sys2Proof.Machine.execRpdoReceive n data s
  | .rpdoDeadlineExpiry n => Sys2Proof.Machine.execRpdoDeadlineExpiry n s
  | .sync => Sys2Proof.Machine.execSync s
  | .tpdoEventTimerExpiry n => Sys2Proof.Machine.execTpdoEventTimerExpiry n s
  | .tpdoInhibitExpiry n => Sys2Proof.Machine.execTpdoInhibitExpiry n s
  | .nmtStart => Sys2Proof.Machine.execNmtStart s
  | .nmtStop => Sys2Proof.Machine.execNmtStop s
  | .nmtEnterPreOperational => Sys2Proof.Machine.execNmtEnterPreOperational s
  | .nmtResetNode => Sys2Proof.Machine.execNmtResetNode s
  | .nmtResetCommunication => Sys2Proof.Machine.execNmtResetCommunication s
  | .heartbeatProduce => Sys2Proof.Machine.execHeartbeatProduce s
  | .heartbeatConsume node => Sys2Proof.Machine.execHeartbeatConsume node s
  | .heartbeatConsumerTimeout j => Sys2Proof.Machine.execHeartbeatConsumerTimeout j s
  | .lssSwitchStateGlobal config => Sys2Proof.Machine.execLssSwitchStateGlobal config s
  | .lssSwitchStateSelective id => Sys2Proof.Machine.execLssSwitchStateSelective id s
  | .lssConfigureNodeId node => Sys2Proof.Machine.execLssConfigureNodeId node s
  | .lssConfigureBitTiming table index => Sys2Proof.Machine.execLssConfigureBitTiming table index s
  | .lssActivateBitTiming => Sys2Proof.Machine.execLssActivateBitTiming s
  | .lssStoreConfiguration => Sys2Proof.Machine.execLssStoreConfiguration s
  | .lssInquireIdentity field => Sys2Proof.Machine.execLssInquireIdentity field s
  | .lssInquireNodeId => Sys2Proof.Machine.execLssInquireNodeId s
  | .lssIdentifyRemoteSlave vendor product revLo revHi serLo serHi => Sys2Proof.Machine.execLssIdentifyRemoteSlave vendor product revLo revHi serLo serHi s
  | .lssIdentifyNonConfigured => Sys2Proof.Machine.execLssIdentifyNonConfigured s
  | .lssFastscan idNumber bitCheck lssSub lssNext => Sys2Proof.Machine.execLssFastscan idNumber bitCheck lssSub lssNext s
  | .canReceiveOverrun => Sys2Proof.Machine.execCanReceiveOverrun s
  | .canErrorPassive entering => Sys2Proof.Machine.execCanErrorPassive entering s
  | .canBusOffRecovery => Sys2Proof.Machine.execCanBusOffRecovery s
  | .emcyInhibitExpiry => Sys2Proof.Machine.execEmcyInhibitExpiry s
  | .store sub sig => Sys2Proof.Machine.execStore sub sig s
  | .storeComplete r => Sys2Proof.Machine.execStoreComplete r s
  | .restoreDefaults sub sig => Sys2Proof.Machine.execRestoreDefaults sub sig s
  | .oapAccessWrite code val => Sys2Proof.Machine.execOapAccessWrite code val s
  | .oapFragment h type index count data => Sys2Proof.Machine.execOapFragment h type index count data s
  | .oapFragmentTimeout => Sys2Proof.Machine.execOapFragmentTimeout s
  | .oapOpen h rights code => Sys2Proof.Machine.execOapOpen h rights code s
  | .oapClose h => Sys2Proof.Machine.execOapClose h s
  | .oapKeepalive h => Sys2Proof.Machine.execOapKeepalive h s
  | .oapRead h idx sub => Sys2Proof.Machine.execOapRead h idx sub s
  | .oapWrite h idx sub type data => Sys2Proof.Machine.execOapWrite h idx sub type data s
  | .oapMultiRead h refs => Sys2Proof.Machine.execOapMultiRead h refs s
  | .oapSubscribe h period refs => Sys2Proof.Machine.execOapSubscribe h period refs s
  | .oapUnsubscribe h subId => Sys2Proof.Machine.execOapUnsubscribe h subId s
  | .oapVerdictStream h enable decimate => Sys2Proof.Machine.execOapVerdictStream h enable decimate s
  | .discover h => Sys2Proof.Machine.execDiscover h s
  | .discoverReply host => Sys2Proof.Machine.execDiscoverReply host s
  | .oapUnknownType h type data => Sys2Proof.Machine.execOapUnknownType h type data s
  | .oapSessionTimeout j => Sys2Proof.Machine.execOapSessionTimeout j s
  | .ethAddressAcquired p v6 addr => Sys2Proof.Machine.execEthAddressAcquired p v6 addr s
  | .announceTimer p => Sys2Proof.Machine.execAnnounceTimer p s
  | .installBegin => Sys2Proof.Machine.execInstallBegin s
  | .installData data => Sys2Proof.Machine.execInstallData data s
  | .installCommit => Sys2Proof.Machine.execInstallCommit s
  | .installCommitComplete ok => Sys2Proof.Machine.execInstallCommitComplete ok s
  | .installAbort => Sys2Proof.Machine.execInstallAbort s
  | .installActivate => Sys2Proof.Machine.execInstallActivate s
  | .imageSwitch ok => Sys2Proof.Machine.execImageSwitch ok s
  | .imageLoad => Sys2Proof.Machine.execImageLoad s
  | .bookRecordWrite => Sys2Proof.Machine.execBookRecordWrite s
  | .bookRecordRead => Sys2Proof.Machine.execBookRecordRead s
  | .bookAppendGo c => Sys2Proof.Machine.execBookAppendGo c s
  | .portInsertion p => Sys2Proof.Machine.execPortInsertion p s
  | .portRemoval p => Sys2Proof.Machine.execPortRemoval p s
  | .portLinkLoss p => Sys2Proof.Machine.execPortLinkLoss p s
  | .portEnableWrite p on => Sys2Proof.Machine.execPortEnableWrite p on s
  | .portRescan p => Sys2Proof.Machine.execPortRescan p s
  | .portClearHotTable p => Sys2Proof.Machine.execPortClearHotTable p s
  | .efuseOn p => Sys2Proof.Machine.execEfuseOn p s
  | .identifyStart p => Sys2Proof.Machine.execIdentifyStart p s
  | .identityReadRetry p => Sys2Proof.Machine.execIdentityReadRetry p s
  | .identityReadComplete p ack rc => Sys2Proof.Machine.execIdentityReadComplete p ack rc s
  | .portReadyTimeout p => Sys2Proof.Machine.execPortReadyTimeout p s
  | .portStallTimeout p => Sys2Proof.Machine.execPortStallTimeout p s
  | .efuseTrip p reason => Sys2Proof.Machine.execEfuseTrip p reason s
  | .csi2Packet p k => Sys2Proof.Machine.execCsi2Packet p k s
  | .headTimeSilent p => Sys2Proof.Machine.execHeadTimeSilent p s
  | .frameStart p arrival => Sys2Proof.Machine.execFrameStart p arrival s
  | .frameEnd p => Sys2Proof.Machine.execFrameEnd p s
  | .ingestInject p => Sys2Proof.Machine.execIngestInject p s
  | .coreLoad c => Sys2Proof.Machine.execCoreLoad c s
  | .coreClearDone c => Sys2Proof.Machine.execCoreClearDone c s
  | .coreCommit c => Sys2Proof.Machine.execCoreCommit c s
  | .coreCommitDone c => Sys2Proof.Machine.execCoreCommitDone c s
  | .coreDisable c => Sys2Proof.Machine.execCoreDisable c s
  | .voiceRankCountWrite t val => Sys2Proof.Machine.execVoiceRankCountWrite t val s
  | .coreEventAccept c => Sys2Proof.Machine.execCoreEventAccept c s
  | .coreFanoutSend c => Sys2Proof.Machine.execCoreFanoutSend c s
  | .routerFlitArrive r j vn => Sys2Proof.Machine.execRouterFlitArrive r j vn s
  | .outputGrant r o => Sys2Proof.Machine.execOutputGrant r o s
  | .vn0Escape r o j => Sys2Proof.Machine.execVn0Escape r o j s
  | .vn0AgeBoost r o j => Sys2Proof.Machine.execVn0AgeBoost r o j s
  | .creditReturn r o vn => Sys2Proof.Machine.execCreditReturn r o vn s
  | .creditQuietCheck r o vn => Sys2Proof.Machine.execCreditQuietCheck r o vn s
  | .tableItemWrite t val => Sys2Proof.Machine.execTableItemWrite t val s
  | .tableItemRead t => Sys2Proof.Machine.execTableItemRead t s
  | .taskSubmit t => Sys2Proof.Machine.execTaskSubmit t s
  | .taskCancel t slot => Sys2Proof.Machine.execTaskCancel t slot s
  | .taskDispatch t u => Sys2Proof.Machine.execTaskDispatch t u s
  | .taskComplete t u => Sys2Proof.Machine.execTaskComplete t u s
  | .taskCompletionPost t slot => Sys2Proof.Machine.execTaskCompletionPost t slot s
  | .templateInstantiate => Sys2Proof.Machine.execTemplateInstantiate s
  | .pressEnd en => Sys2Proof.Machine.execPressEnd en s
  | .matmul en bad => Sys2Proof.Machine.execMatmul en bad s
  | .conv en bad => Sys2Proof.Machine.execConv en bad s
  | .pressAdd en bad => Sys2Proof.Machine.execPressAdd en bad s
  | .maxpool en bad => Sys2Proof.Machine.execMaxpool en bad s
  | .lut en bad => Sys2Proof.Machine.execLut en bad s
  | .copy en bad => Sys2Proof.Machine.execCopy en bad s
  | .frameLoad en bad => Sys2Proof.Machine.execFrameLoad en bad s
  | .slateCommit en bad => Sys2Proof.Machine.execSlateCommit en bad s
  | .gather => Sys2Proof.Machine.execGather s
  | .finalise => Sys2Proof.Machine.execFinalise s
  | .weightSampleWrite val => Sys2Proof.Machine.execWeightSampleWrite val s
  | .pushFirst c q => Sys2Proof.Machine.execPushFirst c q s
  | .pushAppend c q => Sys2Proof.Machine.execPushAppend c q s
  | .pop c q => Sys2Proof.Machine.execPop c q s
  | .spillPopComplete c q => Sys2Proof.Machine.execSpillPopComplete c q s
  | .spillMove q l bad => Sys2Proof.Machine.execSpillMove q l bad s
  | .queueCreditReturn q l => Sys2Proof.Machine.execQueueCreditReturn q l s
  | .packetAbandon q => Sys2Proof.Machine.execPacketAbandon q s
  | .queueEnable q => Sys2Proof.Machine.execQueueEnable q s
  | .queueDisable q => Sys2Proof.Machine.execQueueDisable q s
  | .queueFlush q => Sys2Proof.Machine.execQueueFlush q s
  | .queueClearUnderrun q => Sys2Proof.Machine.execQueueClearUnderrun q s
  | .queuePendingTimeout q => Sys2Proof.Machine.execQueuePendingTimeout q s
  | .moverTailWrite m tail => Sys2Proof.Machine.execMoverTailWrite m tail s
  | .moverEnable m => Sys2Proof.Machine.execMoverEnable m s
  | .moverDisable m => Sys2Proof.Machine.execMoverDisable m s
  | .moverAbort m => Sys2Proof.Machine.execMoverAbort m s
  | .moverAbortDone m => Sys2Proof.Machine.execMoverAbortDone m s
  | .descriptorStart m => Sys2Proof.Machine.execDescriptorStart m s
  | .descriptorComplete m => Sys2Proof.Machine.execDescriptorComplete m s
  | .moverCompletionPost m => Sys2Proof.Machine.execMoverCompletionPost m s
  | .choirPortTrained p => Sys2Proof.Machine.execChoirPortTrained p s
  | .choirPortRetry p => Sys2Proof.Machine.execChoirPortRetry p s
  | .linkFrameCrcError p bytes => Sys2Proof.Machine.execLinkFrameCrcError p bytes s
  | .linkNak p ackSeq => Sys2Proof.Machine.execLinkNak p ackSeq s
  | .hello v h => Sys2Proof.Machine.execHello v h s
  | .helloTimer => Sys2Proof.Machine.execHelloTimer s
  | .membership v m => Sys2Proof.Machine.execMembership v m s
  | .memberHeartbeat v generation beat => Sys2Proof.Machine.execMemberHeartbeat v generation beat s
  | .beatFrame v b => Sys2Proof.Machine.execBeatFrame v b s
  | .choirBeatTimeout => Sys2Proof.Machine.execChoirBeatTimeout s
  | .ping v time => Sys2Proof.Machine.execPing v time s
  | .pong v time turnNs arrivalNs => Sys2Proof.Machine.execPong v time turnNs arrivalNs s
  | .join v serial state err => Sys2Proof.Machine.execJoin v serial state err s
  | .events v vn1 slots => Sys2Proof.Machine.execEvents v vn1 slots s
  | .gatewayImport => Sys2Proof.Machine.execGatewayImport s
  | .memReq v tag wr addr len data => Sys2Proof.Machine.execMemReq v tag wr addr len data s
  | .memRsp v tag wr addr status data => Sys2Proof.Machine.execMemRsp v tag wr addr status data s
  | .remoteRequestTimeout tag => Sys2Proof.Machine.execRemoteRequestTimeout tag s
  | .barrier v beat rank counts => Sys2Proof.Machine.execBarrier v beat rank counts s
  | .stageEnd v beat terms counts => Sys2Proof.Machine.execStageEnd v beat terms counts s
  | .reportRepeat => Sys2Proof.Machine.execReportRepeat s
  | .controlMessageTimeout src tag => Sys2Proof.Machine.execControlMessageTimeout src tag s
  | .forward v m => Sys2Proof.Machine.execForward v m s
  | .switchPrepare v era => Sys2Proof.Machine.execSwitchPrepare v era s
  | .switchAccept v era => Sys2Proof.Machine.execSwitchAccept v era s
  | .switchRefuse v era status => Sys2Proof.Machine.execSwitchRefuse v era status s
  | .switchCommit v era => Sys2Proof.Machine.execSwitchCommit v era s
  | .switchCancel v era => Sys2Proof.Machine.execSwitchCancel v era s
  | .switchAcceptTimeout => Sys2Proof.Machine.execSwitchAcceptTimeout s
  | .credit v => Sys2Proof.Machine.execCredit v s
  | .memberUnreachable id => Sys2Proof.Machine.execMemberUnreachable id s
  | .heartbeatMissedDeparture id => Sys2Proof.Machine.execHeartbeatMissedDeparture id s
  | .choirResetRequest id => Sys2Proof.Machine.execChoirResetRequest id s
  | .gateRawChange g b high stamp => Sys2Proof.Machine.execGateRawChange g b high stamp s
  | .gateChangeAccepted g => Sys2Proof.Machine.execGateChangeAccepted g s
  | .gateStuck g b => Sys2Proof.Machine.execGateStuck g b s
  | .gateSourceLost g => Sys2Proof.Machine.execGateSourceLost g s
  | .gateFaultClear g => Sys2Proof.Machine.execGateFaultClear g s
  | .gateEnable g => Sys2Proof.Machine.execGateEnable g s
  | .gateDisable g => Sys2Proof.Machine.execGateDisable g s
  | .sourceWrite g b val => Sys2Proof.Machine.execSourceWrite g b val s
  | .boundaryWrite z val => Sys2Proof.Machine.execBoundaryWrite z val s
  | .zoneRestore z target => Sys2Proof.Machine.execZoneRestore z target s
  | .zoneDisturb z => Sys2Proof.Machine.execZoneDisturb z s
  | .restoreTimeout z => Sys2Proof.Machine.execRestoreTimeout z s
  | .baggingWeightWrite z val => Sys2Proof.Machine.execBaggingWeightWrite z val s
  | .hallEdge code stampNs => Sys2Proof.Machine.execHallEdge code stampNs s
  | .hallInvalid => Sys2Proof.Machine.execHallInvalid s
  | .qepEdge fwd stampNs => Sys2Proof.Machine.execQepEdge fwd stampNs s
  | .indexLatch => Sys2Proof.Machine.execIndexLatch s
  | .speedEstimate => Sys2Proof.Machine.execSpeedEstimate s
  | .sensorMismatch => Sys2Proof.Machine.execSensorMismatch s
  | .speedLoopStep => Sys2Proof.Machine.execSpeedLoopStep s
  | .currentLimitCycle shuntUv => Sys2Proof.Machine.execCurrentLimitCycle shuntUv s
  | .sustainedLimit => Sys2Proof.Machine.execSustainedLimit s
  | .fastTrip shuntUv node => Sys2Proof.Machine.execFastTrip shuntUv node s
  | .beltRun => Sys2Proof.Machine.execBeltRun s
  | .beltStop => Sys2Proof.Machine.execBeltStop s
  | .beltFaultClear => Sys2Proof.Machine.execBeltFaultClear s
  | .observationEnd => Sys2Proof.Machine.execObservationEnd s
  | .brakingTimeout => Sys2Proof.Machine.execBrakingTimeout s
  | .stoppingTimeout => Sys2Proof.Machine.execStoppingTimeout s
  | .stoDeEnergised => Sys2Proof.Machine.execStoDeEnergised s
  | .stoEnergised => Sys2Proof.Machine.execStoEnergised s
  | .audioEnable => Sys2Proof.Machine.execAudioEnable s
  | .audioWrite val => Sys2Proof.Machine.execAudioWrite val s
  | .audioFrameTick => Sys2Proof.Machine.execAudioFrameTick s
  | .audioMuteWrite f val => Sys2Proof.Machine.execAudioMuteWrite f val s
  | .softStartEnd ch => Sys2Proof.Machine.execSoftStartEnd ch s
  | .audioLimitedCycle ch sides => Sys2Proof.Machine.execAudioLimitedCycle ch sides s
  | .audioRetry ch => Sys2Proof.Machine.execAudioRetry ch s
  | .audioDcFault ch mv => Sys2Proof.Machine.execAudioDcFault ch mv s
  | .stageTemperatureChange tenths => Sys2Proof.Machine.execStageTemperatureChange tenths s
  | .audioClearCh0 => Sys2Proof.Machine.execAudioClearCh0 s
  | .audioClearCh1 => Sys2Proof.Machine.execAudioClearCh1 s
  | .safetyCycle fbA fbB => Sys2Proof.Machine.execSafetyCycle fbA fbB s
  | .safetyInputAccepted n b on since => Sys2Proof.Machine.execSafetyInputAccepted n b on since s
  | .testPulse tp1 obs => Sys2Proof.Machine.execTestPulse tp1 obs s
  | .discrepancyTimeout n => Sys2Proof.Machine.execDiscrepancyTimeout n s
  | .speedDiscrepancy => Sys2Proof.Machine.execSpeedDiscrepancy s
  | .resetRequest n => Sys2Proof.Machine.execResetRequest n s
  | .degradedExpiry => Sys2Proof.Machine.execDegradedExpiry s
  | .slsRampExpiry => Sys2Proof.Machine.execSlsRampExpiry s
  | .stoFeedbackTimeout => Sys2Proof.Machine.execStoFeedbackTimeout s
  | .testDueTimer => Sys2Proof.Machine.execTestDueTimer s
  | .ordinaryStopLine asserted => Sys2Proof.Machine.execOrdinaryStopLine asserted s
  | .lockstepMismatch => Sys2Proof.Machine.execLockstepMismatch s
  | .clockCheckFail ppm => Sys2Proof.Machine.execClockCheckFail ppm s
  | .islandWatchdog => Sys2Proof.Machine.execIslandWatchdog s
  | .vddSafeFault => Sys2Proof.Machine.execVddSafeFault s
  | .islandPowerUp => Sys2Proof.Machine.execIslandPowerUp s
  | .selftestComplete passed => Sys2Proof.Machine.execSelftestComplete passed s
  | .safetyParamBlock data => Sys2Proof.Machine.execSafetyParamBlock data s
  | .safetyConfirm data => Sys2Proof.Machine.execSafetyConfirm data s
  | .transferWriteComplete => Sys2Proof.Machine.execTransferWriteComplete s
  | .transferTimeout => Sys2Proof.Machine.execTransferTimeout s
  | .powerOn contiguousSafe => Sys2Proof.Machine.execPowerOn contiguousSafe s
  | .brownoutWarning vinMv => Sys2Proof.Machine.execBrownoutWarning vinMv s
  | .brownoutEnd vinMv => Sys2Proof.Machine.execBrownoutEnd vinMv s
  | .vinLowShutdown vinMv => Sys2Proof.Machine.execVinLowShutdown vinMv s
  | .railFault => Sys2Proof.Machine.execRailFault s
  | .regulatorFault status => Sys2Proof.Machine.execRegulatorFault status s
  | .pvidResend => Sys2Proof.Machine.execPvidResend s
  | .vcoreSettled mv => Sys2Proof.Machine.execVcoreSettled mv s
  | .operatingPointChange => Sys2Proof.Machine.execOperatingPointChange s
  | .temperatureSample hub tiles => Sys2Proof.Machine.execTemperatureSample hub tiles s
  | .tileGate t => Sys2Proof.Machine.execTileGate t s
  | .standbyRequest => Sys2Proof.Machine.execStandbyRequest s
  | .wake src => Sys2Proof.Machine.execWake src s
  | .streamEnable st => Sys2Proof.Machine.execStreamEnable st s
  | .streamDisable st => Sys2Proof.Machine.execStreamDisable st s
  | .frameEncodeStart st => Sys2Proof.Machine.execFrameEncodeStart st s
  | .sliceEncode st lineError => Sys2Proof.Machine.execSliceEncode st lineError s
  | .frameEncodeDone st => Sys2Proof.Machine.execFrameEncodeDone st s
  | .videoPacketWrite st => Sys2Proof.Machine.execVideoPacketWrite st s
  | .streamIdr st => Sys2Proof.Machine.execStreamIdr st s
  | .streamRecoverNew st => Sys2Proof.Machine.execStreamRecoverNew st s
  | .streamRecoverOld st => Sys2Proof.Machine.execStreamRecoverOld st s
  | .resetN => Sys2Proof.Machine.execResetN s
  | .watchdogTimeout => Sys2Proof.Machine.execWatchdogTimeout s
  | .watchdogKick val => Sys2Proof.Machine.execWatchdogKick val s
  | .softwareReset val => Sys2Proof.Machine.execSoftwareReset val s
  | .resetEnd => Sys2Proof.Machine.execResetEnd s
  | .bootComplete => Sys2Proof.Machine.execBootComplete s
  | .bootConfirm val => Sys2Proof.Machine.execBootConfirm val s
  | .bootSlotWrite => Sys2Proof.Machine.execBootSlotWrite s
  | .keyListWrite => Sys2Proof.Machine.execKeyListWrite s
  | .bootUpdateComplete => Sys2Proof.Machine.execBootUpdateComplete s
  | .fuseProgram field index => Sys2Proof.Machine.execFuseProgram field index s
  | .rollbackAdvance val => Sys2Proof.Machine.execRollbackAdvance val s
  | .debugResponse sig => Sys2Proof.Machine.execDebugResponse sig s
  | .dfuDownload image => Sys2Proof.Machine.execDfuDownload image s
  | .idcode => Sys2Proof.Machine.execIdcode s
  | .bypass => Sys2Proof.Machine.execBypass s
  | .ethLinkChange p state => Sys2Proof.Machine.execEthLinkChange p state s
  | .choirLinkLoss p => Sys2Proof.Machine.execChoirLinkLoss p s
  | .choirTrainingTimeout p => Sys2Proof.Machine.execChoirTrainingTimeout p s
  | .stoCurrentLimitOff b => Sys2Proof.Machine.execStoCurrentLimitOff b s
  | .debugModuleAccess a => Sys2Proof.Machine.execDebugModuleAccess a s

end Sys2Proof.Machine
end

