-- ==== Sys2Proof/Machine/Parts.lean ====
section
/-! DEFINITION. The parts of the state by name, and which parts two states may differ in: what the frame of a command
says. -/

namespace Sys2Proof.Machine

/-- The parts of the state, one per field of `State`. -/
inductive Part where
  | variant | now | beat | comm | oap | nvm | ports | fabric | press | queue | memu | trellis | choir | zone | belt | audio | island | power | video | boot | od | inForce | wtime | regs | mem | fresh | out | pending
deriving DecidableEq, Repr

/-- What a part holds. -/
inductive PartVal where
  | variant (v : Variant)
  | now (v : Nat)
  | beat (v : BeatUnit)
  | comm (v : Comm)
  | oap (v : Oap)
  | nvm (v : Nvm)
  | ports (v : Tab Port)
  | fabric (v : Fabric)
  | press (v : Press)
  | queue (v : QueueUnit)
  | memu (v : MemUnit)
  | trellis (v : Trellis)
  | choir (v : Choir)
  | zone (v : ZoneUnit)
  | belt (v : Belt)
  | audio (v : Audio)
  | island (v : Island)
  | power (v : Power)
  | video (v : Tab Stream)
  | boot (v : Boot)
  | od (v : Tab Nat)
  | inForce (v : Tab Nat)
  | wtime (v : Tab WriteLog)
  | regs (v : Tab Word)
  | mem (v : List Host.Cell)
  | fresh (v : Nat)
  | out (v : List Out)
  | pending (v : List Instr)

/-- The content of a part. -/
def State.get (s : State) : Part → PartVal
  | .variant => .variant s.variant
  | .now => .now s.now
  | .beat => .beat s.beat
  | .comm => .comm s.comm
  | .oap => .oap s.oap
  | .nvm => .nvm s.nvm
  | .ports => .ports s.ports
  | .fabric => .fabric s.fabric
  | .press => .press s.press
  | .queue => .queue s.queue
  | .memu => .memu s.memu
  | .trellis => .trellis s.trellis
  | .choir => .choir s.choir
  | .zone => .zone s.zone
  | .belt => .belt s.belt
  | .audio => .audio s.audio
  | .island => .island s.island
  | .power => .power s.power
  | .video => .video s.video
  | .boot => .boot s.boot
  | .od => .od s.od
  | .inForce => .inForce s.inForce
  | .wtime => .wtime s.wtime
  | .regs => .regs s.regs
  | .mem => .mem s.mem
  | .fresh => .fresh s.fresh
  | .out => .out s.out
  | .pending => .pending s.pending

/-- Every part that is not listed is the same in both states. -/
def SameBut (parts : List Part) (s t : State) : Prop := ∀ p, p ∉ parts → t.get p = s.get p

end Sys2Proof.Machine
end

