-- ==== Sys2Proof/Safety.lean ====
section
/-! DEFINITION. What counts as a safe run of the block: no step ends it, device time does not run backward but at a
power-on, and its tables and memory stay in the one canonical form that makes equal contents equal data. -/

namespace Sys2Proof.Safety

open Machine

/-- No step of the run stops with a fault or a refusal. -/
def Runs (s : State) : Prop := ∀ k, ∃ t, Host.Core.run Sys2Proof.core k s = .next t

/-- The memory of the package window and the stored object entries are in canonical form. -/
def Canonical (s : State) : Prop := Memory.wf s.mem = true ∧ tabWf {} s.wtime = true

end Sys2Proof.Safety

namespace Sys2Proof.Machine

/-! ### When a received frame takes effect (11 R363 to R367) -/

/-- A frame is in its order at a port that is up and for this package, which runs, and completes a message of `segs`
segments. -/
def State.linkTakes (s : State) (v : LinkVia) (f : LinkFrame) (segs : Nat) : Bool :=
  s.clUp v.port && decide (v.seq = (s.clPort v.port).lastGood + 1) && s.linkMine f.kind v && !s.linkOwn f.kind v
  && decide (s.boot.st = .running) && !(s.linkPassed v f).bcastOld v
  && (decide (f.cls ≠ 0) || (decide (v.seg + 1 = segs) && match s.choir.partials.find? (Partial.meets v) with
    | none => decide (v.seg = 0)
    | some q => !q.dead && decide (v.seg = q.next)))

/-- The state on which such a frame acts: its sequence number and credit are taken. -/
def State.linkGot (s : State) (v : LinkVia) (f : LinkFrame) : State :=
  if f.cls = 0 then ((s.linkPassed v f).bcastNote v).partialsOff v else (s.linkPassed v f).bcastNote v

end Sys2Proof.Machine
end

