-- ==== Sys2Proof/WellFormed.lean ====
section
/-! DEFINITION. Which operands the spec admits: the widths of the fields that carry them and the limits of the frames,
records and addresses they come in (assumption log 1). A command out of them still has a meaning: a check of its rule
answers, or the value enters its field modulo the width of the field. -/

namespace Sys2Proof

/-- An index and a subindex of the object dictionary (00, Numbers; 03 R75). -/
def entryWf (idx sub : Nat) : Bool := decide (idx < 65536 ∧ sub < 256)

/-- The references of a MULTI_READ or SUBSCRIBE (03 R109, R111). -/
def refsWf (refs : List (Nat × Nat)) : Bool := refs.all (fun r => entryWf r.1 r.2)

/-- A CANopen node-ID (03 R96). -/
def nodeWf (n : Nat) : Bool := decide (1 ≤ n ∧ n ≤ 127)

/-- A requester of page 0x01: a cantor, or another by its number (02 R47). -/
def reqWf (r : Nat) : Bool := decide (r < 64)

/-- The number of a 64-byte line of a 44-bit offset (10 R323). -/
def lineWf (l : Nat) : Bool := decide (l < 2 ^ 38)

/-- An era number (02 R46): 48 bits of beat number, 8 of them within the era. -/
def eraWf (e : Nat) : Bool := decide (e < 2 ^ 40)

/-- The per-member counts of a report: member, packets sent to it, packets taken from it (11 R378). -/
def countsWf (l : List (Nat × Nat × Nat)) : Bool := l.all (fun c => decide (c.1 < 16 ∧ c.2.1 < 2 ^ 32 ∧ c.2.2 < 2 ^ 32))

/-- The header of an OAP datagram: its host number is the model's name of an address and port (03 R106). -/
def hdrWf (h : OapHdr) : Bool := decide (h.host < 2 ^ 48)

/-- How a link frame reached a port (11 R363, R364, R367): a frame gives back at most 64 flits, SEGMENT has 11 bits, and a path
passes at most 15 links. -/
def viaWf (v : LinkVia) : Bool := decide (v.credCount ≤ 64 ∧ v.seg < 2048 ∧ 1 ≤ v.hops ∧ v.hops ≤ 15)

/-- Whether the operands of a command are those its rules admit. -/
def Instr.wf : Instr → Bool
  | .deviceTimeLoRead r => reqWf r
  | .beatNumberLoRead r => reqWf r
  | .syncInEdge t => decide (t < 2 ^ 64)
  | .getS _ l _ => lineWf l
  | .getM _ l _ => lineWf l
  | .putS _ l => lineWf l
  | .putE _ l => lineWf l
  | .putM _ l => lineWf l
  | .putMData l => lineWf l
  | .ncRead r _ n _ => reqWf r && decide (1 ≤ n ∧ n ≤ 256)
  | .ncWrite r _ d => reqWf r && decide (1 ≤ d.length ∧ d.length ≤ 256)
  | .registerWrite _ p o _ => decide (p < 64 ∧ o < 65536 ∧ o % 4 = 0)
  | .sdoInitiateDownload idx sub e d => entryWf idx sub && (!e || decide (1 ≤ d.length ∧ d.length ≤ 4))
  | .sdoDownloadSegment _ _ d => decide (d.length ≤ 7)
  | .sdoInitiateUpload idx sub => entryWf idx sub
  | .rpdoReceive _ d => decide (d.length ≤ 64)
  | .heartbeatConsume n => nodeWf n
  | .lssConfigureNodeId n => decide (n < 256)
  | .lssConfigureBitTiming t i => decide (t < 256 ∧ i < 256)
  | .lssFastscan _ b _ _ => decide (b < 256)
  | .oapFragment h t i c d => hdrWf h && decide (t < 256 ∧ i < 256 ∧ c < 256 ∧ d.length ≤ 1368)
  | .oapOpen h r _ => hdrWf h && decide (r < 256)
  | .oapClose h => hdrWf h
  | .oapKeepalive h => hdrWf h
  | .oapRead h idx sub => hdrWf h && entryWf idx sub
  | .oapWrite h idx sub t d => hdrWf h && entryWf idx sub && decide (t < 65536 ∧ d.length < 65536)
  | .oapMultiRead h refs => hdrWf h && refsWf refs
  | .oapSubscribe h p refs => hdrWf h && decide (p < 65536) && refsWf refs
  | .oapUnsubscribe h _ => hdrWf h
  | .oapVerdictStream h _ n => hdrWf h && decide (n < 65536)
  | .discover h => hdrWf h
  | .discoverReply h => decide (h < 2 ^ 48)
  | .oapUnknownType h t d => hdrWf h && decide (t < 256 ∧ d.length ≤ 1368)
  | .installData d => decide (d.length < 65536)
  | .identityReadComplete _ ack r => !ack || decide (r.length = 256)
  | .csi2Packet _ k => decide (k.vc < 16 ∧ k.dt < 64 ∧ k.arrival < 2 ^ 64 ∧ k.len < 65536 ∧ k.words.length = (k.len + 3) / 4)
  | .frameStart _ t => decide (t < 2 ^ 64)
  | .linkFrameCrcError _ l => decide (l.length ≤ 128)
  | .hello v h => viaWf v && decide (h.serial < 2 ^ 32 ∧ h.role < 8 ∧ h.ownId < 256 ∧ h.precSerial < 2 ^ 32 ∧ h.members < 65536 ∧ h.generation < 2 ^ 32)
  | .membership v m => viaWf v && decide (m.generation < 2 ^ 32 ∧ m.serials.length = 16 ∧ m.offsets.length = 16) && m.serials.all (fun n => decide (n < 2 ^ 32))
  | .memberHeartbeat v g b => viaWf v && decide (g < 2 ^ 32 ∧ b < 2 ^ 48)
  | .beatFrame v b => viaWf v && decide (b.beat < 2 ^ 48 ∧ b.period < 65536 ∧ b.limit < 65536 ∧ b.policy < 256 ∧ b.failBeat < 2 ^ 48 ∧ b.arrivalNs < 2 ^ 74)
  | .ping v _ => viaWf v
  | .pong v _ _ t => viaWf v && decide (t < 2 ^ 74)
  | .join v _ st e => viaWf v && decide (st < 256 ∧ -2147483648 ≤ e ∧ e < 2147483648)
  | .events v _ l => viaWf v && decide (1 ≤ l.length ∧ l.length ≤ 2)
  | .memReq v t wr _ n d => viaWf v && decide (t < 65536 ∧ 1 ≤ n ∧ n ≤ 256) && (if wr then decide (d.length = n) else d.isEmpty)
  | .memRsp v t _ _ st d => viaWf v && decide (t < 65536 ∧ st < 256 ∧ d.length ≤ 256)
  | .remoteRequestTimeout t => decide (t < 65536)
  | .barrier v b r c => viaWf v && decide (b < 2 ^ 48 ∧ r < 8) && countsWf c
  | .stageEnd v b _ c => viaWf v && decide (b < 2 ^ 48) && countsWf c
  | .forward v _ => viaWf v
  | .switchPrepare v e => viaWf v && eraWf e
  | .switchAccept v e => viaWf v && eraWf e
  | .switchRefuse v e _ => viaWf v && eraWf e
  | .switchCommit v e => viaWf v && eraWf e
  | .switchCancel v e => viaWf v && eraWf e
  | .credit v => viaWf v
  | .gateRawChange _ _ _ t => decide (t < 2 ^ 64)
  | .hallEdge _ t => decide (t < 2 ^ 74)
  | .qepEdge _ t => decide (t < 2 ^ 74)
  | .currentLimitCycle u => decide (u ≤ 200000)
  | .fastTrip u _ => decide (u ≤ 200000)
  | .audioMuteWrite f v => match f with | .powerLimit => decide (v < 65536) | _ => decide (v < 256)
  | .stageTemperatureChange t => decide (-32768 ≤ t ∧ t < 32768)
  | .safetyInputAccepted _ _ _ t => decide (t < 2 ^ 64)
  | .testPulse _ l => decide (l.length ≤ 8)
  | .safetyParamBlock d => decide (d.length < 65536)
  | .safetyConfirm d => decide (d.length < 65536)
  | .brownoutWarning v => decide (v < 65536)
  | .brownoutEnd v => decide (v < 65536)
  | .vinLowShutdown v => decide (v < 65536)
  | .vcoreSettled v => decide (v < 65536)
  | .temperatureSample h l => decide (-32768 ≤ h ∧ h < 32768 ∧ l.length = 4) && l.all (fun t => decide (-32768 ≤ t ∧ t < 32768))
  | .fuseProgram f i => decide (f < 16 ∧ i < 8)
  | .debugResponse d => decide (d.length < 65536)
  | .beatBoundary | .syncOutPulseEnd | .ingestWindowClose | .voiceStageStart | .rankBarrierOpen | .voiceStageEnd
  | .voiceStageDeadline | .pressStageDeadline | .policyReturnToHold _ | .shedClassDiscard _ | .syncInGlitch
  | .syncInTimeout | .holdoverLimitExpiry | .ingestStart | .verdictQueueWrite | .trellisFlitCrcError _ _ _
  | .trellisLinkRetrain _ _ _ | .trellisLinkDisable _ _ | .cantorLoad _ _ _ _ | .cantorStore _ _ _ _
  | .accessErrorClear | .lr _ _ _ | .sc _ _ _ _ | .amo _ _ _ _ _ | .fenceSCore _ _ | .fenceSChip _ _
  | .fenceSSystem _ _ | .fence _ _ _ | .fenceI _ | .fenceTso _ | .sdoUploadSegment _ | .sdoBlockRequest
  | .sdoAbortReceived | .sdoSegmentTimeout | .rpdoDeadlineExpiry _ | .sync | .tpdoEventTimerExpiry _
  | .tpdoInhibitExpiry _ | .nmtStart | .nmtStop | .nmtEnterPreOperational | .nmtResetNode | .nmtResetCommunication
  | .heartbeatProduce | .heartbeatConsumerTimeout _ | .lssSwitchStateGlobal _ | .lssSwitchStateSelective _
  | .lssActivateBitTiming | .lssStoreConfiguration | .lssInquireIdentity _ | .lssInquireNodeId
  | .lssIdentifyRemoteSlave _ _ _ _ _ _ | .lssIdentifyNonConfigured | .canReceiveOverrun | .canErrorPassive _
  | .canBusOffRecovery | .emcyInhibitExpiry | .store _ _ | .storeComplete _ | .restoreDefaults _ _
  | .oapAccessWrite _ _ | .oapFragmentTimeout | .oapSessionTimeout _ | .ethAddressAcquired _ _ _ | .announceTimer _
  | .installBegin | .installCommit | .installCommitComplete _ | .installAbort | .installActivate | .imageSwitch _
  | .imageLoad | .bookRecordWrite | .bookRecordRead | .bookAppendGo _ | .portInsertion _ | .portRemoval _
  | .portLinkLoss _ | .portEnableWrite _ _ | .portRescan _ | .portClearHotTable _ | .efuseOn _ | .identifyStart _
  | .identityReadRetry _ | .portReadyTimeout _ | .portStallTimeout _ | .efuseTrip _ _ | .headTimeSilent _
  | .frameEnd _ | .ingestInject _ | .coreLoad _ | .coreClearDone _ | .coreCommit _ | .coreCommitDone _
  | .coreDisable _ | .voiceRankCountWrite _ _ | .coreEventAccept _ | .coreFanoutSend _ | .routerFlitArrive _ _ _
  | .outputGrant _ _ | .vn0Escape _ _ _ | .vn0AgeBoost _ _ _ | .creditReturn _ _ _ | .creditQuietCheck _ _ _
  | .tableItemWrite _ _ | .tableItemRead _ | .taskSubmit _ | .taskCancel _ _ | .taskDispatch _ _
  | .taskComplete _ _ | .taskCompletionPost _ _ | .templateInstantiate | .pressEnd _ | .matmul _ _ | .conv _ _
  | .pressAdd _ _ | .maxpool _ _ | .lut _ _ | .copy _ _ | .frameLoad _ _ | .slateCommit _ _ | .gather | .finalise
  | .weightSampleWrite _ | .pushFirst _ _ | .pushAppend _ _ | .pop _ _ | .spillPopComplete _ _ | .spillMove _ _ _
  | .queueCreditReturn _ _ | .packetAbandon _ | .queueEnable _ | .queueDisable _ | .queueFlush _
  | .queueClearUnderrun _ | .queuePendingTimeout _ | .moverTailWrite _ _ | .moverEnable _ | .moverDisable _
  | .moverAbort _ | .moverAbortDone _ | .descriptorStart _ | .descriptorComplete _ | .moverCompletionPost _
  | .choirPortTrained _ | .choirPortRetry _ | .linkNak _ _ | .helloTimer | .choirBeatTimeout | .gatewayImport
  | .reportRepeat | .controlMessageTimeout _ _ | .switchAcceptTimeout | .memberUnreachable _
  | .heartbeatMissedDeparture _ | .choirResetRequest _ | .gateChangeAccepted _ | .gateStuck _ _ | .gateSourceLost _
  | .gateFaultClear _ | .gateEnable _ | .gateDisable _ | .sourceWrite _ _ _ | .boundaryWrite _ _ | .zoneRestore _ _
  | .zoneDisturb _ | .restoreTimeout _ | .baggingWeightWrite _ _ | .hallInvalid | .indexLatch | .speedEstimate
  | .sensorMismatch | .speedLoopStep | .sustainedLimit | .beltRun | .beltStop | .beltFaultClear | .observationEnd
  | .brakingTimeout | .stoppingTimeout | .stoDeEnergised | .stoEnergised | .audioEnable | .audioWrite _
  | .audioFrameTick | .softStartEnd _ | .audioLimitedCycle _ _ | .audioRetry _ | .audioDcFault _ _ | .audioClearCh0
  | .audioClearCh1 | .safetyCycle _ _ | .discrepancyTimeout _ | .speedDiscrepancy | .resetRequest _
  | .degradedExpiry | .slsRampExpiry | .stoFeedbackTimeout | .testDueTimer | .ordinaryStopLine _
  | .lockstepMismatch | .clockCheckFail _ | .islandWatchdog | .vddSafeFault | .islandPowerUp | .selftestComplete _
  | .transferWriteComplete | .transferTimeout | .powerOn _ | .railFault | .regulatorFault _ | .pvidResend
  | .operatingPointChange | .tileGate _ | .standbyRequest | .wake _ | .streamEnable _ | .streamDisable _
  | .frameEncodeStart _ | .sliceEncode _ _ | .frameEncodeDone _ | .videoPacketWrite _ | .streamIdr _
  | .streamRecoverNew _ | .streamRecoverOld _ | .resetN | .watchdogTimeout | .watchdogKick _ | .softwareReset _
  | .resetEnd | .bootComplete | .bootConfirm _ | .bootSlotWrite | .keyListWrite | .bootUpdateComplete
  | .rollbackAdvance _ | .dfuDownload _ | .idcode | .bypass | .ethLinkChange _ _ | .choirLinkLoss _
  | .choirTrainingTimeout _ | .stoCurrentLimitOff _ | .debugModuleAccess _ => true

end Sys2Proof
end

