-- ==== Sys2Proof/Certificates/Slice0/Obligations.lean ====
section
/-! DEFINITION. The statements for the provers. Each gives a command's own effect as the existence of the next state with
what that state holds, and its frame: the parts of the state it may change, and within them what stays. -/

open Sys2Proof Sys2Proof.Machine

/-- A step runs the command at the front of the queue: for every command and state, a step with the command in front is
exec of it with the rest of the queue -/
def Obligations.StepRunsTheFrontCommand : Prop :=
  ∀ (c : Instr) (s : State) (rest : List Instr), s.pending = c :: rest → step s = exec c { s with pending := rest }

/-- With no command waiting one µs of device time passes: on an empty queue a step answers a next state one µs later; only
the running TPDOs and their frames may change besides (the model's choice, log entry 5) -/
def Obligations.EmptyQueuePassesOneMicrosecond : Prop :=
  ∀ s : State, s.pending = [] →
    ∃ t, step s = .next t ∧ t.now = s.now + 1 ∧ SameBut [.now, .comm, .oap, .out] s t

/-- Replays, retraining and loss of a Trellis link: an enabled link of a present tile counts consecutive replays of one
flit up to 16, another flit starts at 1; after 16 it is retrained, which clears the count or marks the link failed; a
link that failed its retraining is disabled and recorded, and the loss of a tile's last link makes the halt of the
fabric due; nothing else changes. Completes: TRELLIS_FLIT_CRC_ERROR, TRELLIS_LINK_RETRAIN, TRELLIS_LINK_DISABLE (R23,
R24) on an enabled link of a present tile in the state named -/
def Obligations.TrellisLinks : Prop :=
  (∀ (t l : Fin 4) (flit : Nat) (s : State), s.linkUp t l = true → 
    exec (.trellisFlitCrcError t l flit) s = .next (s.onLink t l (TLink.replay flit))) ∧
  (∀ (flit : Nat) (x : TLink), (x.flit = flit → (x.replay flit).replays = min 16 (x.replays + 1)) ∧
    (x.flit ≠ flit → (x.replay flit).replays = 1) ∧ (x.replay flit).failed = x.failed ∧ (x.replay flit).disabled = x.disabled) ∧
  (∀ (t l : Fin 4) (ok : Bool) (s : State), s.linkUp t l = true → (s.tlink t l).replays = 16 →
      (s.tlink t l).failed = false →
    exec (.trellisLinkRetrain t l ok) s = .next (s.onLink t l (fun x => if ok then { x with replays := 0 } else { x with failed := true }))) ∧
  (∀ (t l : Fin 4) (s : State), s.linkUp t l = true → (s.tlink t l).failed = true →
    ∃ u, exec (.trellisLinkDisable t l) s = .next u ∧ (u.tlink t l).disabled = true ∧
      (∀ t' l' : Fin 4, (t', l') ≠ (t, l) → u.tlink t' l' = s.tlink t' l') ∧
      u.nvm = ((s.onLink t l (fun x => { x with disabled := true })).book 0xE030 0x30 2 (leBytes 1 t ++ leBytes 1 l)).nvm ∧
      (u.tileCut t = true → u.trellis.haltDue = some s.now) ∧ (u.tileCut t = false → u.trellis.haltDue = s.trellis.haltDue) ∧
      SameBut [.nvm, .trellis] s u)

/-- Loads and stores of a cantor: while a cantor executes: a load from memory of its own package answers the bytes that
its store buffer and the Cantor cluster hold after its lines are taken for reading, an upset of the word read being
corrected or left uncorrectable; a load from a voice-core window answers the bytes of the window; a load of the
register pages reads them; a store to memory is the cluster's store of its bytes, one to a window or page reaches it
at once; an access to another package that can be reached becomes a memory request; an access the address map forbids,
or to a package that cannot be reached, is captured as an access error and traps. Completes: CANTOR_LOAD, CANTOR_STORE
(R26, R31, R32) for every address and size -/
def Obligations.CantorLoadsAndStores : Prop :=
  (∀ (c : Fin 8) (addr : Addr) (size : Fin 4) (upset : Upset) (s u : State), s.cantorUp c = true → s.isLocal addr.toNat = true →
      s.rangeKind .cantor false (offsetOf addr.toNat) (2 ^ size.val) = none → areaOf (offsetOf addr.toNat) ≠ .pages → (∀ k, areaOf (offsetOf addr.toNat) ≠ .window k) →
      u = (if s.reachesMemory (offsetOf addr.toNat) = true then s.upset upset (offsetOf addr.toNat) else s) → u.cantorBadLine (offsetOf addr.toNat) (2 ^ size.val) = none →
    ∃ t, exec (.cantorLoad c addr size upset) s = .next t ∧
      t = (u.takeLines c (offsetOf addr.toNat) (2 ^ size.val)).emit (.read c (leNum ((u.takeLines c (offsetOf addr.toNat) (2 ^ size.val)).cantorBytes c (offsetOf addr.toNat) (2 ^ size.val)))) ∧
      SameBut [.nvm, .fabric, .memu, .choir, .od, .mem, .fresh, .out] s t) ∧
  (∀ (k : Nat) (c : Fin 8) (addr : Addr) (size : Fin 4) (upset : Upset) (s : State), s.cantorUp c = true →
      s.isLocal addr.toNat = true → s.rangeKind .cantor false (offsetOf addr.toNat) (2 ^ size.val) = none →
      areaOf (offsetOf addr.toNat) = .window k →
    ∃ t, exec (.cantorLoad c addr size upset) s = .next t ∧
      t = ((s.upset upset (offsetOf addr.toNat)).windowEcc (offsetOf addr.toNat) (2 ^ size.val)).emit (.read c (s.memNum (offsetOf addr.toNat) (2 ^ size.val))) ∧
      SameBut [.nvm, .fabric, .memu, .od, .out] s t) ∧
  (∀ (c : Fin 8) (addr : Addr) (size : Fin 4) (upset : Upset) (s : State), s.cantorUp c = true →
      s.isLocal addr.toNat = true → s.rangeKind .cantor false (offsetOf addr.toNat) (2 ^ size.val) = none →
      areaOf (offsetOf addr.toNat) = .pages →
    exec (.cantorLoad c addr size upset) s = .next (s.loadPage c addr.toNat (offsetOf addr.toNat) (2 ^ size.val))) ∧
  (∀ (c : Fin 8) (addr : Addr) (size : Fin 4) (upset : Upset) (k b : Nat) (s : State), s.cantorUp c = true →
      s.isLocal addr.toNat = true → s.rangeKind .cantor false (offsetOf addr.toNat) (2 ^ size.val) = some (k, b) →
    ∃ t, exec (.cantorLoad c addr size upset) s = .next t ∧
      t = (s.accessError c k (packageOf addr.toNat * 2 ^ 44 + b)).emit (.trap c 5 (packageOf addr.toNat * 2 ^ 44 + b)) ∧
      SameBut [.memu, .out] s t) ∧
  (∀ (c : Fin 8) (addr : Addr) (size : Fin 4) (upset : Upset) (s : State), s.cantorUp c = true →
      s.isLocal addr.toNat = false → s.reachable (packageOf addr.toNat) = true →
    exec (.cantorLoad c addr size upset) s = .next (s.sendMemReq (.cantorLoad c) false addr.toNat (2 ^ size.val) [])) ∧
  (∀ (c : Fin 8) (addr : Addr) (size : Fin 4) (val : BitVec 64) (s : State), s.cantorUp c = true →
      s.isLocal addr.toNat = true → s.rangeKind .cantor true (offsetOf addr.toNat) (2 ^ size.val) = none →
      areaOf (offsetOf addr.toNat) ≠ .pages → (∀ k, areaOf (offsetOf addr.toNat) ≠ .window k) →
      s.cantorBadLine (offsetOf addr.toNat) (2 ^ size.val) = none →
    ∃ t, exec (.cantorStore c addr size val) s = .next t ∧
      t = s.cantorStore c (offsetOf addr.toNat) (leBytes (2 ^ size.val) val.toNat) ∧
      SameBut [.memu, .choir, .mem, .fresh, .out] s t) ∧
  (∀ (k : Nat) (c : Fin 8) (addr : Addr) (size : Fin 4) (val : BitVec 64) (s : State), s.cantorUp c = true →
      s.isLocal addr.toNat = true → s.rangeKind .cantor true (offsetOf addr.toNat) (2 ^ size.val) = none →
      areaOf (offsetOf addr.toNat) = .window k →
    exec (.cantorStore c addr size val) s = .next (s.ncWrite (offsetOf addr.toNat) (leBytes (2 ^ size.val) val.toNat))) ∧
  (∀ (c : Fin 8) (addr : Addr) (size : Fin 4) (val : BitVec 64) (s : State), s.cantorUp c = true →
      s.isLocal addr.toNat = true → s.rangeKind .cantor true (offsetOf addr.toNat) (2 ^ size.val) = none →
      areaOf (offsetOf addr.toNat) = .pages →
    exec (.cantorStore c addr size val) s = .next (s.storePage c addr.toNat (offsetOf addr.toNat) (leBytes (2 ^ size.val) val.toNat))) ∧
  (∀ (c : Fin 8) (addr : Addr) (size : Fin 4) (val : BitVec 64) (k b : Nat) (s : State), s.cantorUp c = true →
      s.isLocal addr.toNat = true → s.rangeKind .cantor true (offsetOf addr.toNat) (2 ^ size.val) = some (k, b) →
    ∃ t, exec (.cantorStore c addr size val) s = .next t ∧
      t = (s.accessError c k (packageOf addr.toNat * 2 ^ 44 + b)).emit (.trap c 7 (packageOf addr.toNat * 2 ^ 44 + b)) ∧
      SameBut [.memu, .out] s t) ∧
  (∀ (c : Fin 8) (addr : Addr) (size : Fin 4) (val : BitVec 64) (s : State), s.cantorUp c = true →
      s.isLocal addr.toNat = false → s.reachable (packageOf addr.toNat) = true →
    exec (.cantorStore c addr size val) s = .next (s.sendMemReq (.cantorStore c) true addr.toNat (2 ^ size.val) (leBytes (2 ^ size.val) val.toNat))) ∧
  (∀ (c : Fin 8) (addr : Addr) (size : Fin 4) (upset : Upset) (val : BitVec 64) (s : State), s.cantorUp c = true → s.isLocal addr.toNat = false →
      s.reachable (packageOf addr.toNat) = false →
    exec (.cantorLoad c addr size upset) s = .next ((s.accessError c 6 addr.toNat).emit (.trap c 5 addr.toNat)) ∧
    exec (.cantorStore c addr size val) s = .next ((s.accessError c 6 addr.toNat).emit (.trap c 7 addr.toNat)))

/-- The first access error is captured, later ones are counted: an access error met while none is captured fills the
capture with its source, kind and address; while one is captured only the count changes; ACCESS_ERROR_CLEAR clears the
capture and its count; nothing else changes. Completes: ACCESS_ERROR_CLEAR (R33) in every state -/
def Obligations.FirstAccessErrorIsCaptured : Prop :=
  (∀ (src kind addr : Nat) (s : State), s.memu.errValid = false →
    (s.accessError src kind addr).memu.errValid = true ∧ (s.accessError src kind addr).memu.errSource = src ∧
    (s.accessError src kind addr).memu.errKind = kind ∧ (s.accessError src kind addr).memu.errAddr = addr) ∧
  (∀ (src kind addr : Nat) (s : State), s.memu.errValid = true →
    (s.accessError src kind addr).memu.errSource = s.memu.errSource ∧ (s.accessError src kind addr).memu.errKind = s.memu.errKind ∧
    (s.accessError src kind addr).memu.errAddr = s.memu.errAddr) ∧
  (∀ (src kind addr : Nat) (s : State), SameBut [.memu] s (s.accessError src kind addr)) ∧
  (∀ s : State, exec .accessErrorClear s =
    .next { s with memu := { s.memu with errValid := false, errSource := 0, errKind := 0, errCount := 0, errAddr := 0 } })

/-- LR, SC and AMO act on the line and on reservations: while a cantor executes and the address supports atomics, each
takes the line in M first: LR answers the value and reserves its line; SC stores and succeeds when its reservation
still names the line, else it fails and stores nothing, and either way gives the reservation up; an AMO stores its
result and answers the old value; an address that does not support atomics traps with cause 7 and changes nothing
else. Completes: LR, SC, AMO (R328) -/
def Obligations.AtomicsActOnTheLine : Prop :=
  (∀ (c : Fin 8) (addr : Addr) (dbl : Bool) (s : State), s.cantorUp c = true →
      s.atomicGuard c addr.toNat (atomSize dbl) = none →
    ∃ t, exec (.lr c addr dbl) s = .next t ∧
      t = ((s.own c true (offsetOf addr.toNat / 64)).reserve c (some (offsetOf addr.toNat / 64))).emit
        (.read c (leNum ((s.own c true (offsetOf addr.toNat / 64)).clusterBytes (offsetOf addr.toNat) (atomSize dbl)))) ∧
      t.memu.reservation = tabPut none (s.own c true (offsetOf addr.toNat / 64)).memu.reservation c (some (offsetOf addr.toNat / 64)) ∧
      SameBut [.memu, .choir, .mem, .fresh, .out] s t) ∧
  (∀ (c : Fin 8) (addr : Addr) (dbl : Bool) (val : BitVec 64) (s : State), s.cantorUp c = true →
      s.atomicGuard c addr.toNat (atomSize dbl) = none →
      tabGet none (s.own c true (offsetOf addr.toNat / 64)).memu.reservation c = some (offsetOf addr.toNat / 64) →
    ∃ t, exec (.sc c addr dbl val) s = .next t ∧
      t = ((((s.own c true (offsetOf addr.toNat / 64)).storePiece c (offsetOf addr.toNat) (leBytes (atomSize dbl) val.toNat)).reserve c none).emit (.sc c false)) ∧
      SameBut [.memu, .choir, .mem, .fresh, .out] s t) ∧
  (∀ (c : Fin 8) (addr : Addr) (dbl : Bool) (val : BitVec 64) (s : State), s.cantorUp c = true →
      s.atomicGuard c addr.toNat (atomSize dbl) = none →
      tabGet none (s.own c true (offsetOf addr.toNat / 64)).memu.reservation c ≠ some (offsetOf addr.toNat / 64) →
    ∃ t, exec (.sc c addr dbl val) s = .next t ∧
      t = ((s.own c true (offsetOf addr.toNat / 64)).reserve c none).emit (.sc c true) ∧
      SameBut [.memu, .choir, .mem, .fresh, .out] s t) ∧
  (∀ (c : Fin 8) (addr : Addr) (dbl : Bool) (op : AmoOp) (val : BitVec 64) (s : State), s.cantorUp c = true →
      s.atomicGuard c addr.toNat (atomSize dbl) = none →
    ∃ t, exec (.amo c addr dbl op val) s = .next t ∧
      t = ((s.own c true (offsetOf addr.toNat / 64)).storePiece c (offsetOf addr.toNat) (leBytes (atomSize dbl) (amoValue op (8 * atomSize dbl)
        (leNum ((s.own c true (offsetOf addr.toNat / 64)).clusterBytes (offsetOf addr.toNat) (atomSize dbl))) val.toNat))).emit
        (.amo c (leNum ((s.own c true (offsetOf addr.toNat / 64)).clusterBytes (offsetOf addr.toNat) (atomSize dbl)))) ∧
      SameBut [.memu, .choir, .mem, .fresh, .out] s t) ∧
  (∀ (c : Fin 8) (addr : Addr) (dbl : Bool) (op : AmoOp) (val : BitVec 64) (s : State), s.cantorUp c = true →
      s.atomicOk addr.toNat (atomSize dbl) = false →
    exec (.lr c addr dbl) s = .next (s.emit (.trap c 7 addr.toNat)) ∧
    exec (.sc c addr dbl val) s = .next (s.emit (.trap c 7 addr.toNat)) ∧
    exec (.amo c addr dbl op val) s = .next (s.emit (.trap c 7 addr.toNat)))

/-- Fences make a cantor's stores visible: while a cantor executes: FENCE with PW drains its store buffer, with PR it
waits for its loads; FENCE.I waits for its loads only, FENCE.TSO for both; each FENCE.S drains the buffer, CHIP and
SYSTEM also clean every line that holds stores of the cantor, and each answers completion or waits; a word with
another funct3 or with a nonzero bit 31 to 15 raises the illegal-instruction exception (cause 2). Completes: FENCE,
FENCE_I, FENCE_TSO, FENCE_S_CORE, FENCE_S_CHIP, FENCE_S_SYSTEM (R348, R349, R350) -/
def Obligations.FencesMakeStoresVisible : Prop :=
  (∀ (c : Fin 8) (p q : BitVec 4) (s : State), s.cantorUp c = true →
    exec (.fence c p q) s = .next (s.fenceStd c (p.getLsbD 1) (p.getLsbD 0)) ∧
    exec (.fenceI c) s = .next (s.fenceStd c false true) ∧ exec (.fenceTso c) s = .next (s.fenceStd c true true)) ∧
  (∀ (c : Fin 8) (w : BitVec 32) (s : State), s.cantorUp c = true → fenceScope w.toNat = some 0 →
    ∃ t, exec (.fenceSCore c w) s = .next t ∧
      t = (s.drainStores c).fenceWait { cantor := c, system := false, rd := some (bits w.toNat 7 5) } ∧
      SameBut [.memu, .choir, .mem, .fresh, .out] s t) ∧
  (∀ (c : Fin 8) (w : BitVec 32) (s : State), s.cantorUp c = true → fenceScope w.toNat = some 1 →
    ∃ t, exec (.fenceSChip c w) s = .next t ∧
      t = ((s.drainStores c).cleanCantor c).fenceWait { cantor := c, system := false, rd := some (bits w.toNat 7 5) } ∧
      SameBut [.memu, .choir, .mem, .fresh, .out] s t) ∧
  (∀ (c : Fin 8) (w : BitVec 32) (s : State), s.cantorUp c = true → fenceScope w.toNat = some 2 →
    ∃ t, exec (.fenceSSystem c w) s = .next t ∧
      t = ((s.drainStores c).cleanCantor c).fenceWait { cantor := c, system := true, rd := some (bits w.toNat 7 5) } ∧
      SameBut [.memu, .choir, .mem, .fresh, .out] s t) ∧
  (∀ (c : Fin 8) (w : BitVec 32) (s : State), s.cantorUp c = true → fenceScope w.toNat = none →
    exec (.fenceSCore c w) s = .next (s.emit (.trap c 2 w.toNat)) ∧ exec (.fenceSChip c w) s = .next (s.emit (.trap c 2 w.toNat)) ∧
    exec (.fenceSSystem c w) s = .next (s.emit (.trap c 2 w.toNat))) ∧
  (∀ (f : FenceWait) (s : State), (s.fenceMet f = true → s.fenceWait f = s.fenceEnd f 0) ∧
    (s.fenceMet f = false → s.fenceWait f = { s with memu := { s.memu with fences := s.memu.fences ++ [f] } }))

/-- Requests to the directory: GETS of a cacheable line and GETM of a writable one are granted, or queued by age while a
writeback is pending and a place is free, or wait for a place; PUTS and PUTE give a clean copy up; PUTM of the holder
of a modified line starts its writeback and leaves no holder, and PUTM_DATA ends it and serves the queued requests;
each but PUTM_DATA and a granted request changes the entry of its line only. Completes: GETS, GETM, PUTS, PUTE, PUTM,
PUTM_DATA (R330 to R332) -/
def Obligations.DirectoryRequests : Prop :=
  (∀ (c : Fin 8) (line cycle : Nat) (s : State), cacheable (line * 64) = true → (s.dirLine line).st ≠ .wbPending →
    ∃ t, exec (.getS c line cycle) s = .next t ∧ t = s.grantLine c false line ∧ SameBut [.memu, .mem, .fresh] s t) ∧
  (∀ (c : Fin 8) (line cycle : Nat) (s : State), lockable (line * 64) = true → (s.dirLine line).st ≠ .wbPending →
    ∃ t, exec (.getM c line cycle) s = .next t ∧ t = s.grantLine c true line ∧ SameBut [.memu, .mem, .fresh] s t) ∧
  (∀ (c : Fin 8) (line cycle : Nat) (s : State), cacheable (line * 64) = true → (s.dirLine line).st = .wbPending →
      s.hasLinePlace line = true →
    exec (.getS c line cycle) s = .next (s.onDir line (fun d => { d with queue := queueReq { cantor := c, write := false, cycle := cycle } d.queue }))) ∧
  (∀ (c : Fin 8) (line cycle : Nat) (s : State), lockable (line * 64) = true → (s.dirLine line).st = .wbPending →
      s.hasLinePlace line = true →
    exec (.getM c line cycle) s = .next (s.onDir line (fun d => { d with queue := queueReq { cantor := c, write := true, cycle := cycle } d.queue }))) ∧
  (∀ (c : Fin 8) (line : Nat) (s : State), (s.dirLine line).st = .s → 
    exec (.putS c line) s = .next (s.onDir line (fun d => d.put c))) ∧
  (∀ (c : Fin 8) (line : Nat) (s : State), (s.dirLine line).st = .e → 
    exec (.putE c line) s = .next (s.onDir line (fun d => d.put c))) ∧
  (∀ (c : Fin 8) (line : Nat) (s : State), (s.dirLine line).st = .m →
      (s.dirLine line).holders.contains (c : Nat) = true →
    ∃ t, exec (.putM c line) s = .next t ∧ t = s.onDir line (fun d => { d with st := .wbPending, holders := [] }) ∧
      (t.dirLine line).st = .wbPending ∧ (t.dirLine line).holders = [] ∧ (∀ l, l ≠ line → t.dirLine l = s.dirLine l) ∧
      SameBut [.memu] s t) ∧
  (∀ (line : Nat) (s : State), (s.dirLine line).st = .wbPending → 
    ∃ t, exec (.putMData line) s = .next t ∧
      t = ((s.dirLine line).queue.foldl (fun u r => u.grantLine r.cantor r.write line)
        (s.onDir line (fun _ => { }))).placeWaiting ∧
      SameBut [.memu, .choir, .mem, .fresh, .out] s t)

/-- NC_READ and NC_WRITE reach backing memory: where the address map serves it NC_READ answers the bytes its requester
sees and changes no byte of memory, an uncorrectable word is reported instead; NC_WRITE within one line of which the
cluster holds nothing leaves every byte outside the stored ones as before, and the stored bytes read as written; a
forbidden access, or one that is not local, is captured. Completes: NC_READ, NC_WRITE (R333, R334) -/
def Obligations.NonCantorAccesses : Prop :=
  (∀ (req : Nat) (addr : Addr) (len : Nat) (upset : Upset) (s : State), ¬ (s.isLocal addr.toNat = false ∧ ¬ (req < 0x28 ∧ 0x20 ≤ req ∧ packageOf addr.toNat = 0)) →
      s.rangeKind (reqOf req) false (offsetOf addr.toNat) len = none →
      (s.upset upset (offsetOf addr.toNat)).badLine (offsetOf addr.toNat) len = none →
    ∃ t, exec (.ncRead req addr len upset) s = .next t ∧
      t.out = .data req ((s.upset upset (offsetOf addr.toNat)).ncBytes req (offsetOf addr.toNat) len) :: s.out ∧
      t = ((s.upset upset (offsetOf addr.toNat)).windowEcc (offsetOf addr.toNat) len).emit
        (.data req ((s.upset upset (offsetOf addr.toNat)).ncBytes req (offsetOf addr.toNat) len)) ∧
      SameBut [.nvm, .fabric, .memu, .od, .out] s t) ∧
  (∀ (req : Nat) (addr : Addr) (len b : Nat) (upset : Upset) (s : State), ¬ (s.isLocal addr.toNat = false ∧ ¬ (req < 0x28 ∧ 0x20 ≤ req ∧ packageOf addr.toNat = 0)) →
      s.rangeKind (reqOf req) false (offsetOf addr.toNat) len = none →
      (s.upset upset (offsetOf addr.toNat)).badLine (offsetOf addr.toNat) len = some b →
    exec (.ncRead req addr len upset) s = .next ((s.upset upset (offsetOf addr.toNat)).eccRead req b)) ∧
  (∀ (req : Nat) (addr : Addr) (data : List Byte) (s : State), ¬ (s.isLocal addr.toNat = false ∧ ¬ (req < 0x28 ∧ 0x20 ≤ req ∧ packageOf addr.toNat = 0)) →
      s.rangeKind (reqOf req) true (offsetOf addr.toNat) data.length = none →
    exec (.ncWrite req addr data) s = .next (s.ncWrite (offsetOf addr.toNat) data)) ∧
  (∀ (a : Nat) (data : List Byte) (s : State), 1 ≤ data.length → a % 64 + data.length ≤ 64 →
      tabGet none s.memu.cluster (a / 64) = none → (s.dirLine (a / 64)).st ≠ .wbPending →
    (s.ncWrite a data).bytesAt a data.length = data ∧
    (∀ x, x < a ∨ a + data.length ≤ x → (s.ncWrite a data).byteAt x = s.byteAt x)) ∧
  (∀ (req : Nat) (addr : Addr) (data : List Byte) (s : State) (k b : Nat), ¬ (s.isLocal addr.toNat = false ∧ ¬ (req < 0x28 ∧ 0x20 ≤ req ∧ packageOf addr.toNat = 0)) →
      s.rangeKind (reqOf req) true (offsetOf addr.toNat) data.length = some (k, b) →
    exec (.ncWrite req addr data) s = .next (s.accessError req k (packageOf addr.toNat * 2 ^ 44 + b))) ∧
  (∀ (req : Nat) (addr : Addr) (len : Nat) (upset : Upset) (s : State) (k b : Nat), ¬ (s.isLocal addr.toNat = false ∧ ¬ (req < 0x28 ∧ 0x20 ≤ req ∧ packageOf addr.toNat = 0)) →
      s.rangeKind (reqOf req) false (offsetOf addr.toNat) len = some (k, b) →
    exec (.ncRead req addr len upset) s = .next (s.accessError req k (packageOf addr.toNat * 2 ^ 44 + b))) ∧
  (∀ (req : Nat) (addr : Addr) (data : List Byte) (len : Nat) (upset : Upset) (s : State), s.isLocal addr.toNat = false →
      ¬ (req < 0x28 ∧ 0x20 ≤ req ∧ packageOf addr.toNat = 0) →
    exec (.ncRead req addr len upset) s = .next (s.accessError req 6 addr.toNat) ∧
    exec (.ncWrite req addr data) s = .next (s.accessError req 6 addr.toNat))

/-- A register write reaches the register of its page: while its cantor executes, a write of BEAT_IRQ, of a dispatcher,
mover, queue, audio or fabric register is that unit's register write, a write of OP limits sets both limits, and a
write to a reserved page is captured as an access error of kind 1 and traps; a page whose unit is absent or unpowered
takes no write. Completes: REGISTER_WRITE (R31, R41) for every page and offset -/
def Obligations.RegisterWritesReachTheirPage : Prop :=
  (∀ (c : Fin 8) (page off : Nat) (val : BitVec 32) (s : State), s.cantorUp c = true → pageAssigned page = true →
    exec (.registerWrite c page off val) s = .next (s.writeReg c page (off % 0x10000 / 4 * 4) val.toNat)) ∧
  (∀ (c : Fin 8) (page off : Nat) (val : BitVec 32) (s : State), s.cantorUp c = true → pageAssigned page = false →
    ∃ t, exec (.registerWrite c page off val) s = .next t ∧
      t = (s.accessError c 1 (s.choir.ownId * 2 ^ 44 + 0x10000000 + page % 4096 * 0x10000 + off % 0x10000)).emit
        (.trap c 7 (s.choir.ownId * 2 ^ 44 + 0x10000000 + page % 4096 * 0x10000 + off % 0x10000)) ∧
      (s.memu.errValid = false → t.memu.errKind = 1 ∧ t.memu.errSource = c) ∧ SameBut [.memu, .out] s t) ∧
  (∀ (c p off v : Nat) (s : State), s.pageUp p = false → s.writeReg c p off v = s) ∧
  (∀ (c v : Nat) (s : State), s.pageUp 1 = true → s.writeReg c 1 0x24 v = s.writeBeatIrq v) ∧
  (∀ (c v : Nat) (s : State), s.pageUp 2 = true →
    s.writeReg c 2 0x10 v = (s.onPower (fun x => { x with opMin := bits v 4 3, opMax := bits v 0 3 })).followLimits) ∧
  (∀ (c off v : Nat) (s : State), s.pageUp 3 = true → s.writeReg c 3 off v = s.writeNvm c off v) ∧
  (∀ (c off v : Nat) (s : State), s.pageUp 4 = true → s.writeReg c 4 off v = s.writeSecurity off v) ∧
  (∀ (c off v p : Nat) (s : State), 0x10 ≤ p → p ≤ 0x13 → s.pageUp p = true → s.writeReg c p off v = s.writeDispatch (p - 0x10) off v) ∧
  (∀ (c off v p : Nat) (s : State), 0x20 ≤ p → p ≤ 0x23 → s.pageUp p = true → s.writeReg c p off v = s.writeFabric (p - 0x20) off v) ∧
  (∀ (c off v : Nat) (s : State), s.pageUp 0x14 = true → s.writeReg c 0x14 off v = s.writeMovers off v) ∧
  (∀ (c off v : Nat) (s : State), s.pageUp 0x18 = true → s.writeReg c 0x18 off v = s.writeQueues c off v) ∧
  (∀ (c off v : Nat) (s : State), s.pageUp 0x1C = true → s.writeReg c 0x1C off v = s.writeAudio off v)

/-- A beat boundary starts the next beat: while the device is not OFF, BEAT_BOUNDARY answers a next state in which the
beat number is greater by exactly one, the new beat starts where the one in progress ends, and device time has reached
that start; while the device runs it then does the work of a boundary, otherwise it only fixes the new beat's length
and turns SYNC_OUT. Completes: BEAT_BOUNDARY (R44) in every state but OFF -/
def Obligations.BeatBoundaryStartsTheNextBeat : Prop :=
  (∀ s : State, s.power.st ≠ .off →
    ∃ t, exec .beatBoundary s = .next t ∧ t.beat.number = s.beat.number + 1 ∧
      t.beat.start = s.beat.start + s.beat.length ∧ t.now = max s.now (s.beat.start + s.beat.length)) ∧
  (∀ (s : State), s.power.st ≠ .off → s.boot.st = .running → 
    exec .beatBoundary s = .next (((((s.upTo (s.beat.start + s.beat.length)).portsDrain.drainAll).onBeat BeatUnit.turn).boundaryUp))) ∧
  (∀ (s : State), s.power.st ≠ .off → s.boot.st ≠ .running → 
    exec .beatBoundary s = .next ((((((s.upTo (s.beat.start + s.beat.length)).portsDrain.drainAll).onBeat BeatUnit.turn).onBeat BeatUnit.fixLength).syncOutTurn)))

/-- Time reads capture their other words, and SYNC_OUT falls at the end of its pulse: DEVICE_TIME_LO_READ answers bits
31:0 of device time and captures bits 63:32 for its requester; BEAT_NUMBER_LO_READ answers bits 31:0 of the beat
number and captures the number and its start; while SYNC_OUT is high, SYNC_OUT_PULSE_END lowers it at the end of its
width; nothing else changes. Completes: DEVICE_TIME_LO_READ, BEAT_NUMBER_LO_READ (R47) in every state,
SYNC_OUT_PULSE_END (R72) while SYNC_OUT is high -/
def Obligations.TimeReadsAndSyncOut : Prop :=
  (∀ (req : Nat) (s : State),
    exec (.deviceTimeLoRead req) s = .next { s with
      beat := { s.beat with capTime := tabPut 0 s.beat.capTime req (s.now / 2 ^ 32) },
      out := .read req (s.now % 2 ^ 32) :: s.out } ∧
    exec (.beatNumberLoRead req) s = .next { s with
      beat := { s.beat with capBeat := tabPut 0 s.beat.capBeat req s.beat.number,
                            capStart := tabPut 0 s.beat.capStart req s.beat.start },
      out := .read req (s.beat.number % 2 ^ 32) :: s.out }) ∧
  (∀ s : State, s.beat.syncOut = true →
    exec .syncOutPulseEnd s = .next { s with now := max s.now s.beat.syncOutFall, beat := { s.beat with syncOut := false } })

/-- Ingest windows close and the stages of a beat begin, go on and end: INGEST_WINDOW_CLOSE, when a beat later than the
oldest open window's has begun, closes that window at its grace, after the words buffered in the ports;
VOICE_STAGE_START begins the voice stage of the oldest beat whose window has closed and whose events are injected,
with rank 0; RANK_BARRIER_OPEN opens the next rank of a quiet rank and VOICE_STAGE_END ends the stage after the last
rank, both only when the package stands alone or the barrier was granted, the package reports first otherwise;
INGEST_START begins ingest with the beat that has just started; each leaves the parts alone that its rules do not
name. Completes: INGEST_WINDOW_CLOSE (R53), VOICE_STAGE_START (R197), RANK_BARRIER_OPEN (R199), VOICE_STAGE_END (R199,
R220), INGEST_START (R70) when due and the fabric is not halted -/
def Obligations.IngestWindowAndStages : Prop :=
  (∀ (s : State), s.beat.closing < s.beat.number → 
    ∃ t, exec .ingestWindowClose s = .next t ∧
      t = ((s.upTo (s.startOf (s.beat.closing + 1) + s.grace)).portsDrain).closeWindow s.beat.closing ∧
      t.beat.closing = s.beat.closing + 1 ∧ t.now = max s.now (s.startOf (s.beat.closing + 1) + s.grace) ∧
      SameBut [.now, .beat, .comm, .oap, .nvm, .ports, .zone, .video, .od, .out] s t) ∧
  (∀ (w : BeatWork) (s : State), s.voiceFront = some w → w.voice = .waiting → w.closed = true →
      s.ingestDrained w.beat = true → s.beat.hardHalt = false →
    ∃ t, exec .voiceStageStart s = .next t ∧
      t = ((s.onWork w.beat (fun x => { x with voice := .running, rank := 0 })).onFabric (fun f => { f with fires := 0 })).evalRank w.beat 0 ∧
      t.beat.work = modFirst (fun x => decide (x.beat = w.beat)) (fun x => { x with voice := .running, rank := 0 }) s.beat.work ∧
      SameBut [.beat, .comm, .oap, .nvm, .fabric, .od, .mem, .out] s t) ∧
  (∀ (w : BeatWork) (s : State), s.voiceRunning = some w → w.rank + 1 < s.fabric.rankCount →
      s.rankQuiet w.beat w.rank = true → s.beat.hardHalt = false → s.isGranted w.beat (some w.rank) = true →
    ∃ t, exec .rankBarrierOpen s = .next t ∧ t = s.openRank w.beat (w.rank + 1) ∧
      t.beat.work = modFirst (fun x => decide (x.beat = w.beat)) (fun x => { x with rank := w.rank + 1 }) s.beat.work ∧
      SameBut [.beat, .comm, .oap, .nvm, .fabric, .od, .mem, .out] s t) ∧
  (∀ (w : BeatWork) (s : State), s.voiceRunning = some w → w.rank + 1 < s.fabric.rankCount →
      s.rankQuiet w.beat w.rank = true → s.beat.hardHalt = false → s.isGranted w.beat (some w.rank) = false →
      s.choir.ownReport = none → (s.sendReport w.beat (some w.rank)).isGranted w.beat (some w.rank) = false →
    exec .rankBarrierOpen s = .next (s.sendReport w.beat (some w.rank))) ∧
  (∀ (w : BeatWork) (s : State), s.voiceRunning = some w → s.fabric.rankCount ≤ w.rank + 1 →
      s.rankQuiet w.beat w.rank = true → s.stageQuiet w.beat = true → s.beat.hardHalt = false →
      s.isGranted w.beat none = true →
    ∃ t, exec .voiceStageEnd s = .next t ∧ t = s.voiceEnd w .done ∧ t.fabric.lastStage = w.beat ∧
      t.fabric.lastFires = s.fabric.fires ∧ t.fabric.fires = 0 ∧ t.choir.ownReport = none ∧
      SameBut [.beat, .comm, .oap, .nvm, .fabric, .press, .memu, .choir, .od, .mem, .fresh, .out] s t) ∧
  (∀ (w : BeatWork) (s : State), s.voiceRunning = some w → s.fabric.rankCount ≤ w.rank + 1 →
      s.rankQuiet w.beat w.rank = true → s.stageQuiet w.beat = true → s.beat.hardHalt = false →
      s.isGranted w.beat none = false → s.choir.ownReport = none →
      (s.sendReport w.beat none).isGranted w.beat none = false →
    exec .voiceStageEnd s = .next (s.sendReport w.beat none)) ∧
  (∀ (s : State), s.ingestDue = true → 
    ∃ t, exec .ingestStart s = .next t ∧ t = s.ingestStart s.beat.number ∧ t.beat.ingesting = true ∧
      t.beat.ingestWanted = none ∧ t.beat.resuming = false ∧
      t.beat.work = s.beat.work ++ [{ beat := s.beat.number, start := s.beat.start }] ∧ t.press.firstPending = true ∧
      SameBut [.beat, .comm, .oap, .nvm, .fabric, .press, .power, .mem, .out] s t)

/-- Stages that miss their deadline go on under HOLD and are shed under SHED: while the fabric is not halted: under HOLD
VOICE_STAGE_DEADLINE and PRESS_STAGE_DEADLINE only note that the oldest unfinished beat is late; under SHED the voice
stage of that beat is shed, its packets are purged and it ends, and the press stage of the oldest overdue beat is shed
with an empty verdict; SHED_CLASS_DISCARD under SHED discards the packets of its class at the instant of the class;
POLICY_RETURN_TO_HOLD after 16 beats that met the deadline gives the policy in force back. Completes:
VOICE_STAGE_DEADLINE, PRESS_STAGE_DEADLINE (R57, R58), SHED_CLASS_DISCARD (R241), POLICY_RETURN_TO_HOLD (R58), each
when its instant is reached -/
def Obligations.DeadlinesUnderHoldAndShed : Prop :=
  (∀ (w : BeatWork) (s : State), s.voiceFront = some w → w.beat + 2 ≤ s.beat.number → s.beat.hardHalt = false →
      s.beat.voiceShedding = false →
    ∃ t, exec .voiceStageDeadline s = .next t ∧ t = s.onWork w.beat (fun x => { x with voiceLate := true }) ∧
      SameBut [.beat] s t) ∧
  (∀ (w : BeatWork) (s : State), s.voiceFront = some w → w.beat + 2 ≤ s.beat.number → s.beat.hardHalt = false →
      s.beat.voiceShedding = true →
    ∃ t, exec .voiceStageDeadline s = .next t ∧ t = s.voiceShedAll w ∧
      SameBut [.beat, .comm, .oap, .nvm, .ports, .fabric, .press, .memu, .choir, .power, .od, .mem, .fresh, .out] s t) ∧
  (∀ (w : BeatWork) (l : List BeatWork) (s : State), s.pressOverdue = w :: l → s.beat.hardHalt = false →
      s.beat.pressShedding = false →
    ∃ t, exec .pressStageDeadline s = .next t ∧ t = s.onWork w.beat (fun x => { x with pressLate := true }) ∧
      SameBut [.beat] s t) ∧
  (∀ (w : BeatWork) (l : List BeatWork) (s : State), s.pressOverdue = w :: l → s.beat.hardHalt = false →
      s.beat.pressShedding = true →
    ∃ t, exec .pressStageDeadline s = .next t ∧ t = (s.pressShed w.beat).startPress.publishAll ∧
      t.beat.number = s.beat.number ∧
      SameBut [.beat, .comm, .oap, .nvm, .press, .choir, .zone, .belt, .power, .od, .out] s t) ∧
  (∀ (cls : Fin 4) (w : BeatWork) (s : State), s.voiceFront = some w → s.beat.voiceShedding = true →
      w.beat + 2 ≤ s.beat.number + 1 → s.beat.hardHalt = false →
    ∃ t, exec (.shedClassDiscard cls) s = .next t ∧
      t = ((s.upTo (s.startOf (w.beat + 2) - (3 - cls.val) * s.shedStep)).purgeStage w.beat cls).purgeGateway w.beat cls ∧
      t.now = max s.now (s.startOf (w.beat + 2) - (3 - cls.val) * s.shedStep) ∧
      SameBut [.now, .beat, .comm, .oap, .nvm, .ports, .fabric, .choir, .power, .od, .out] s t) ∧
  (∀ (s : State), s.beat.voiceRaised = true → 16 ≤ s.beat.voiceMet → 
    exec (.policyReturnToHold .voice) s = .next ({ s with
      beat := { s.beat with voiceRaised := false, voiceShedding := decide (s.force 0x2100 0xF = 1) } })) ∧
  (∀ (s : State), s.beat.pressRaised = true → 16 ≤ s.beat.pressMet → 
    exec (.policyReturnToHold .press) s = .next ({ s with
      beat := { s.beat with pressRaised := false, pressShedding := decide (s.force 0x2100 0x10 = 1) } }))

/-- Edges, glitches, the timeout and the limit move the SYNC_IN tracker: with SYNC_IN the source: a glitch is counted and
changes nothing else; the first edge after the entry of ACQUIRING becomes the reference edge; an edge closer than half
the period is a glitch and keeps the reference; while LOCKED an edge in tolerance is measured and the period becomes
the mean of the last intervals; every other edge acts by its interval; no edge by reference + 3P/2 takes LOCKED to
HOLDOVER (an odd 3P is rounded up, the model's choice, log entry 62); at the limit the tracker goes to FREE_RUN, or to
HALTED with policy STOP, and a follower in HOLDOVER likewise; with another source edges are not tracked. Completes:
SYNC_IN_EDGE (R61, R63), SYNC_IN_GLITCH (R62), SYNC_IN_TIMEOUT, HOLDOVER_LIMIT_EXPIRY (R63, R68) -/
def Obligations.SyncInTracker : Prop :=
  (∀ s : State, s.beat.source = .syncIn → exec .syncInGlitch s = .next (s.count 0x2100 0xC 1)) ∧
  (∀ (stamp : Nat) (s : State), s.beat.source ≠ .syncIn → exec (.syncInEdge stamp) s = .next s) ∧
  (∀ (stamp : Nat) (s : State), s.beat.source = .syncIn → s.beat.holdStart = none → s.beat.refEdge = none →
    exec (.syncInEdge stamp) s = .next { s with now := max s.now (stamp + 2), beat := { s.beat with refEdge := some stamp } }) ∧
  (∀ (stamp r : Nat) (s : State), s.beat.source = .syncIn → s.beat.holdStart = none → s.beat.refEdge = some r →
      2 * (stamp - r) < s.beat.tracked →
    exec (.syncInEdge stamp) s = .next ((s.upTo (stamp + 2)).count 0x2100 0xC 1)) ∧
  (∀ (stamp : Nat) (s : State), s.beat.source = .syncIn → 
    ∃ t, exec (.syncInEdge stamp) s = .next t ∧ t = ((s.upTo (stamp + 2)).limitBefore stamp).syncEdge stamp ∧
      SameBut [.now, .beat, .comm, .oap, .nvm, .od, .out] s t) ∧
  (∀ (stamp r : Nat) (s : State), s.beat.source = .syncIn → s.beat.holdStart = none → s.beat.refEdge = some r →
      s.beat.tracker = .locked → s.beat.tracked ≤ 2 * (stamp - r) → inTolerance s.beat.tracked (stamp - r) = true →
      s.beat.meanRun.length ≤ 8 →
    ∃ t, exec (.syncInEdge stamp) s = .next t ∧ t.beat.refEdge = some stamp ∧ t.beat.tracker = .locked ∧
      t.beat.tracked = meanUp ((s.beat.meanRun ++ [stamp - r]).drop (s.beat.meanRun.length - 7)) ∧
      t.beat.residual = some t.beat.phaseError ∧ t.beat.number = s.beat.number ∧ t.beat.start = s.beat.start ∧
      SameBut [.now, .beat] s t) ∧
  (∀ (r : Nat) (s : State), s.beat.refEdge = some r → s.beat.tracker = .locked → 
    ∃ t, exec .syncInTimeout s = .next t ∧ t = (s.upTo (r + (3 * s.beat.tracked + 1) / 2)).toHoldover [] ∧
      t.now = max s.now (r + (3 * s.beat.tracked + 1) / 2) ∧ t.beat.tracker = .holdover ∧ t.beat.slewing = false ∧
      t.beat.holdStart = some t.now ∧ t.beat.refEdge = some r ∧ t.beat.tracked = s.beat.tracked ∧
      SameBut [.now, .beat, .comm, .oap, .nvm, .od, .out] s t) ∧
  (∀ (l : Nat) (s : State), s.limitAt = some l → 
    ∃ t, exec .holdoverLimitExpiry s = .next t ∧ t = (s.upTo (l + 2)).limitReached ∧ t.now = max s.now (l + 2) ∧
      t.beat.tracker = (if s.force 0x2100 0xB = 1 then .halted else .freeRun) ∧ t.beat.holdStart = none ∧
      t.beat.number = s.beat.number ∧ SameBut [.now, .beat, .comm, .oap, .nvm, .out] s t) ∧
  (∀ (l : Nat) (s : State), s.limitAt = none → s.choirLimitAt = some l → s.choir.role = .follower →
      s.choir.beat = .holdover →
    ∃ t, exec .holdoverLimitExpiry s = .next t ∧ t = (s.upTo l).choirLimit ∧ t.now = max s.now l ∧
      t.choir.beat = (if s.choir.policyStop then .halted else .freeRun) ∧ t.choir.holdStart = none ∧
      SameBut [.now, .beat, .comm, .oap, .nvm, .choir, .out] s t)

/-- An SDO download writes its entry and is answered: where SDO is served, an expedited download in which the write of the
entry completes is answered with the entry, or aborted with the code the write gives; a segmented one is opened, takes
7 bytes a segment while the toggle bit alternates, and writes at its last segment; a wrong toggle bit aborts it with
0x05040001 and ends it; a download opens no more than the transfer. Completes: SDO_INITIATE_DOWNLOAD,
SDO_DOWNLOAD_SEGMENT (R96) where SDO is served -/
def Obligations.SdoDownloads : Prop :=
  (∀ (idx sub : Nat) (data : List Byte) (s u : State) (code : Nat), s.sdoServed = true → s.comm.sdo = .idle → idx ≠ 0x2500 →
      s.writeEntry idx sub (data.take 4) .sdo = (some code, u) →
    exec (.sdoInitiateDownload idx sub true data) s =
      .next { u with out := (if code = 0 then .sdo idx sub [] else .sdoAbort idx sub code) :: u.out }) ∧
  (∀ (idx sub : Nat) (data : List Byte) (s u : State), s.sdoServed = true → s.comm.sdo = .idle →
      s.writeEntry idx sub (data.take 4) .sdo = (none, u) →
    exec (.sdoInitiateDownload idx sub true data) s = .next u) ∧
  (∀ (idx sub : Nat) (data : List Byte) (s : State), s.sdoServed = true → s.comm.sdo = .idle →
    ∃ t, exec (.sdoInitiateDownload idx sub false data) s = .next t ∧ t.comm = { s.comm with sdo := .download idx sub [] false s.now } ∧
      t.out = .sdo idx sub [] :: s.out ∧ SameBut [.comm, .out] s t) ∧
  (∀ (i b at' : Nat) (got data : List Byte) (tog : Bool) (s : State), s.sdoServed = true → s.comm.sdo = .download i b got tog at' →
    ∃ t, exec (.sdoDownloadSegment tog false data) s = .next t ∧
      t.comm = { s.comm with sdo := .download i b (got ++ data.take 7) (!tog) s.now } ∧
      t.out = .sdo i b [] :: s.out ∧ SameBut [.comm, .out] s t) ∧
  (∀ (i b at' : Nat) (got data : List Byte) (tog : Bool) (s u : State) (code : Nat), s.sdoServed = true →
      s.comm.sdo = .download i b got tog at' → i ≠ 0x2500 →
      State.writeEntry i b (got ++ data.take 7) .sdo { s with comm := { s.comm with sdo := .idle } } = (some code, u) →
    exec (.sdoDownloadSegment tog true data) s =
      .next { u with out := (if code = 0 then .sdo i b [] else .sdoAbort i b code) :: u.out }) ∧
  (∀ (i b at' : Nat) (got data : List Byte) (tog last : Bool) (s : State), s.sdoServed = true →
      s.comm.sdo = .download i b got tog at' →
    exec (.sdoDownloadSegment (!tog) last data) s =
      .next { s with comm := { s.comm with sdo := .idle }, out := .sdoAbort i b 0x05040001 :: s.out })

/-- An SDO upload answers the value; refused services, aborts and the timeout end a transfer: where SDO is served, an
upload of at most 4 bytes is answered expedited, a longer one with its length and then 7 bytes a segment; an entry
that cannot be read is aborted with its code; SDO_BLOCK_REQUEST is aborted with 0x05040001; a received abort ends the
transfer in silence; 1000 ms without a segment end it with 0x05040000. Completes: SDO_INITIATE_UPLOAD,
SDO_UPLOAD_SEGMENT, SDO_BLOCK_REQUEST, SDO_ABORT_RECEIVED, SDO_SEGMENT_TIMEOUT (R96) -/
def Obligations.SdoUploadsAndEnds : Prop :=
  (∀ (idx sub : Nat) (s u : State) (ty : Ty) (l : List Byte), s.sdoServed = true → s.comm.sdo = .idle →
      s.readEntry idx sub = ((0, ty, l), u) → l.length ≤ 4 →
    exec (.sdoInitiateUpload idx sub) s = .next { u with out := .sdo idx sub l :: u.out }) ∧
  (∀ (idx sub : Nat) (s u : State) (ty : Ty) (l : List Byte), s.sdoServed = true → s.comm.sdo = .idle →
      s.readEntry idx sub = ((0, ty, l), u) → 4 < l.length →
    exec (.sdoInitiateUpload idx sub) s = .next { u with
      comm := { u.comm with sdo := .upload idx sub l false u.now }, out := .sdo idx sub (leBytes 4 l.length) :: u.out }) ∧
  (∀ (idx sub code : Nat) (s u : State) (ty : Ty) (l : List Byte), s.sdoServed = true → s.comm.sdo = .idle → code ≠ 0 →
      s.readEntry idx sub = ((code, ty, l), u) →
    exec (.sdoInitiateUpload idx sub) s = .next { u with out := .sdoAbort idx sub code :: u.out }) ∧
  (∀ (i b at' : Nat) (rest : List Byte) (tog : Bool) (s : State), s.sdoServed = true → s.comm.sdo = .upload i b rest tog at' →
    exec (.sdoUploadSegment tog) s = .next { s with
      comm := { s.comm with sdo := if rest.length ≤ 7 then .idle else .upload i b (rest.drop 7) (!tog) s.now },
      out := .sdo i b (rest.take 7) :: s.out }) ∧
  (∀ (i b at' : Nat) (rest : List Byte) (tog : Bool) (s : State), s.sdoServed = true → s.comm.sdo = .upload i b rest tog at' →
    exec (.sdoUploadSegment (!tog)) s =
      .next { s with comm := { s.comm with sdo := .idle }, out := .sdoAbort i b 0x05040001 :: s.out }) ∧
  (∀ s : State, s.sdoServed = true → s.comm.sdo = .idle →
    exec .sdoBlockRequest s = .next { s with out := .sdoAbort 0 0 0x05040001 :: s.out }) ∧
  (∀ s : State, s.sdoServed = true →
    exec .sdoAbortReceived s = .next { s with comm := { s.comm with sdo := .idle } }) ∧
  (∀ (s : State) (i b at' : Nat) (got : List Byte) (tog : Bool), s.sdoServed = true → s.comm.sdo = .download i b got tog at' →
    exec .sdoSegmentTimeout s = .next { s with
      now := max s.now (at' + 1000000), comm := { s.comm with sdo := .idle }, out := .sdoAbort i b 0x05040000 :: s.out })

/-- RPDOs, TPDOs and SYNC: where PDOs are served, an RPDO too short for its mapping raises EMCY 0x8210 and writes nothing;
one of a type up to 240 waits for the SYNC, any other is applied at once; its deadline raises the condition 0x8250;
SYNC leaves the beat number, the tracker's reference and device time alone when the mapped writes do; a TPDO of type
255 is sent at its event timer, one held back at the end of its inhibit time with the values of then; each TPDO and
RPDO that waits acts at the SYNC, TPDOs first; outside OPERATIONAL none of them does anything. Completes:
RPDO_RECEIVE, RPDO_DEADLINE_EXPIRY, SYNC, TPDO_EVENT_TIMER_EXPIRY, TPDO_INHIBIT_EXPIRY (R97, R98, R99) in OPERATIONAL -/
def Obligations.PdosAndSync : Prop :=
  (∀ (n : Fin 16) (data : List Byte) (s : State), s.pdoServed = true → s.pdoActive 0x1400 0x1600 n = true →
      data.length < s.rpdoNeed n →
    ∃ t, exec (.rpdoReceive n data) s = .next t ∧ t = s.emcyEvent 0x8210 0x2A [] ∧ SameBut [.comm, .oap, .nvm, .out] s t) ∧
  (∀ (n : Fin 16) (data : List Byte) (s : State), s.pdoServed = true → s.pdoActive 0x1400 0x1600 n = true →
      s.rpdoNeed n ≤ data.length → s.ent (0x1400 + n) 2 ≤ 240 →
    ∃ t, exec (.rpdoReceive n data) s = .next t ∧
      t = ((s.onRpdo n (fun r => { r with lastGot := s.now })).endCond 0x8250 0x2A n).onRpdo n (fun r => { r with waiting := some data }) ∧
      (t.rpdo n).waiting = some data ∧ (t.rpdo n).lastGot = s.now ∧
      SameBut [.comm, .oap, .nvm, .out] s t) ∧
  (∀ (n : Fin 16) (data : List Byte) (s : State), s.pdoServed = true → s.pdoActive 0x1400 0x1600 n = true →
      s.rpdoNeed n ≤ data.length → 240 < s.ent (0x1400 + n) 2 → s.condOn 0x8250 0x2A n = false →
      (⟨0x8250, 0x2A, n⟩ : Cond) ∉ s.comm.latent →
    (s.onRpdo n (fun r => { r with lastGot := s.now })).endCond 0x8250 0x2A n =
      { (s.onRpdo n (fun r => { r with lastGot := s.now })) with comm := { (s.onRpdo n (fun r => { r with lastGot := s.now })).comm with
          latent := s.comm.latent.filter (fun x => x ≠ ⟨0x8250, 0x2A, n⟩) } }) ∧
  (∀ (n : Fin 16) (data : List Byte) (s : State), s.pdoServed = true → s.pdoActive 0x1400 0x1600 n = true →
      s.rpdoNeed n ≤ data.length →
      240 < ((s.onRpdo n (fun r => { r with lastGot := s.now })).endCond 0x8250 0x2A n).ent (0x1400 + n) 2 →
    exec (.rpdoReceive n data) s = .next (((s.onRpdo n (fun r => { r with lastGot := s.now })).endCond 0x8250 0x2A n).rpdoApply n data)) ∧
  (∀ (n : Nat) (data : List Byte) (s : State), s.rpdoApply n data = s.putMapped (s.mapped 0x1600 n) data) ∧
  (∀ (n : Fin 16) (s : State), s.pdoServed = true → s.pdoActive 0x1400 0x1600 n = true → s.ent (0x1400 + n) 5 ≠ 0 →
      (s.rpdo n).lastGot ≠ 0 →
    ∃ t, exec (.rpdoDeadlineExpiry n) s = .next t ∧
      t = (s.upTo ((s.rpdo n).lastGot + 1000 * s.ent (0x1400 + n) 5)).raiseCond 0x8250 0x2A n [] ∧ t.now = max s.now ((s.rpdo n).lastGot + 1000 * s.ent (0x1400 + n) 5) ∧
      t.condOn 0x8250 0x2A n = true ∧ SameBut [.now, .comm, .oap, .nvm, .out] s t) ∧
  (∀ s : State, s.pdoServed = true → (∀ n < 16, s.pdoActive 0x1800 0x1A00 n = false) → (∀ n < 16, (s.rpdo n).waiting = none) →
    exec .sync s = .next s) ∧
  (∀ s : State, s.pdoServed = true →
    exec .sync s = .next ((List.range 16).foldl (fun t n => t.rpdoSync n) ((List.range 16).foldl (fun t n => t.tpdoSync n) s))) ∧
  (∀ (n : Fin 16) (s : State), s.pdoServed = true → s.pdoActive 0x1800 0x1A00 n = true → s.tpdoType n = 255 →
      s.ent (0x1800 + n) 5 ≠ 0 → (s.tpdo n).inhibitUntil ≤ s.now →
    ∃ t, exec (.tpdoEventTimerExpiry n) s = .next t ∧ t.now = max s.now ((s.tpdo n).lastSent + 1000 * s.ent (0x1800 + n) 5) ∧
      t.out = .tpdo n (State.tpdoData { s with now := t.now } n) :: s.out ∧ (t.tpdo n).lastSent = t.now ∧ SameBut [.now, .comm, .out] s t) ∧
  (∀ (n : Fin 16) (s : State), s.pdoServed = true → s.pdoActive 0x1800 0x1A00 n = true → s.tpdoType n = 255 →
      s.ent (0x1800 + n) 5 ≠ 0 →
    ∃ t, exec (.tpdoEventTimerExpiry n) s = .next t ∧
      t = (s.upTo ((s.tpdo n).lastSent + 1000 * s.ent (0x1800 + n) 5)).tpdoDue n
        ((s.upTo ((s.tpdo n).lastSent + 1000 * s.ent (0x1800 + n) 5)).tpdoData n) ∧ SameBut [.now, .comm, .out] s t) ∧
  (∀ (n : Fin 16) (d : List Byte) (s : State), s.pdoServed = true → s.pdoActive 0x1800 0x1A00 n = true →
      (s.tpdo n).held = some d →
    ∃ t, exec (.tpdoInhibitExpiry n) s = .next t ∧
      t = (s.upTo (s.tpdo n).inhibitUntil).tpdoEmit n (if (s.upTo (s.tpdo n).inhibitUntil).tpdoType n = 255 then
        (s.upTo (s.tpdo n).inhibitUntil).tpdoData n else d) ∧ SameBut [.now, .comm, .out] s t) ∧
  (∀ (n : Fin 16) (d : List Byte) (s : State), s.pdoServed = true → s.pdoActive 0x1800 0x1A00 n = true → s.tpdoType n = 254 →
      (s.tpdo n).held = some d →
    ∃ t, exec (.tpdoInhibitExpiry n) s = .next t ∧ t.now = max s.now (s.tpdo n).inhibitUntil ∧ t.out = .tpdo n d :: s.out ∧
      (t.tpdo n).held = none ∧ SameBut [.now, .comm, .out] s t) ∧
  (∀ (n : Fin 16) (data : List Byte) (s : State), s.pdoServed = false →
    exec .sync s = .next s ∧ exec (.rpdoReceive n data) s = .next s ∧ exec (.rpdoDeadlineExpiry n) s = .next s ∧
    exec (.tpdoEventTimerExpiry n) s = .next s ∧ exec (.tpdoInhibitExpiry n) s = .next s)

/-- NMT commands move the node between its states: on a node that serves CAN0, start leaves it OPERATIONAL, stop STOPPED,
enter pre-operational PRE-OPERATIONAL; leaving OPERATIONAL drops what the PDOs hold back and wants no more ingest;
reset communication leaves the transfer, the RPDO state and the monitored nodes empty, the TPDO state too unless the
node starts itself, every OAP session closed and NMT at PRE-OPERATIONAL or, where the reloaded NMT_STARTUP is 1,
OPERATIONAL; reset node is a device reset with cause 3. Completes: NMT_START, NMT_STOP, NMT_ENTER_PRE_OPERATIONAL,
NMT_RESET_NODE, NMT_RESET_COMMUNICATION (R85) on a node that serves CAN0 -/
def Obligations.NmtCommandsMoveTheNode : Prop :=
  (∀ s : State, s.canUp = true →
    ∃ t, exec .nmtStart s = .next t ∧
      t = s.enterOperational ∧ t.comm.nmt = .operational ∧ SameBut [.beat, .comm, .audio, .fresh, .out] s t) ∧
  (∀ s : State, s.canUp = true →
    ∃ t, exec .nmtStop s = .next t ∧
      t = s.enterNmt .stopped ∧ t.comm.nmt = .stopped ∧ SameBut [.beat, .comm, .belt, .audio, .fresh, .out] s t) ∧
  (∀ s : State, s.canUp = true →
    ∃ t, exec .nmtEnterPreOperational s = .next t ∧
      t = s.enterNmt .preOperational ∧ t.comm.nmt = .preOperational ∧
      SameBut [.beat, .comm, .belt, .audio, .fresh, .out] s t) ∧
  (∀ s : State, s.canUp = true → s.comm.nmt = .operational →
    ∃ t, exec .nmtStop s = .next t ∧ t.comm.rpdo = [] ∧ t.comm.tpdo = []) ∧
  (∀ s : State, s.canUp = true → s.comm.nmt = .stopped → exec .nmtStop s = .next s) ∧
  (∀ s : State, s.canUp = true →
    ∃ t, exec .nmtResetCommunication s = .next t ∧
      t = s.resetCommunication ∧ (t.comm.nmt = .preOperational ∨ t.comm.nmt = .operational) ∧
      t.comm.sdo = .idle ∧ t.comm.hbSeen = [] ∧ t.comm.rpdo = [] ∧ (t.comm.nmt = .preOperational → t.comm.tpdo = []) ∧
      t.oap.sessions = [] ∧ SameBut [.beat, .comm, .oap, .nvm, .belt, .audio, .od, .inForce, .fresh, .out] s t) ∧
  (∀ s : State, s.canUp = true → exec .nmtResetNode s = .next (s.resetStart 3))

/-- Heartbeats are sent, heard and missed; LSS selects, configures and identifies the node: on a node that serves CAN0
with a producer time set, HEARTBEAT_PRODUCE sends the NMT state at the end of the time; a heartbeat of a monitored
node is noted with its time and ends the node's conditions; a missed one raises the condition 0x8130 and leaves the
NMT state as it was; while the device is up the node enters the configuration state globally or by its identity; in it
a node-ID, a bit rate of the four indices of table 0, activation, store and inquiry are served, and outside it
nothing; a node without a node-ID answers identify non-configured and a fastscan step that its identity matches;
refused values are answered and change nothing; the layout of the services is the family's (PRESUMED, log entry 11).
Completes: HEARTBEAT_PRODUCE, HEARTBEAT_CONSUME, HEARTBEAT_CONSUMER_TIMEOUT (R100), LSS_SWITCH_STATE_GLOBAL,
LSS_SWITCH_STATE_SELECTIVE, LSS_CONFIGURE_NODE_ID, LSS_CONFIGURE_BIT_TIMING, LSS_ACTIVATE_BIT_TIMING,
LSS_STORE_CONFIGURATION, LSS_INQUIRE_IDENTITY, LSS_INQUIRE_NODE_ID, LSS_IDENTIFY_REMOTE_SLAVE,
LSS_IDENTIFY_NON_CONFIGURED, LSS_FASTSCAN (R101) -/
def Obligations.HeartbeatsAndLss : Prop :=
  (∀ s : State, s.canUp = true → s.ent 0x1017 0 ≠ 0 →
    exec .heartbeatProduce s = .next { s with
      now := max s.now (s.comm.hbLast + 1000 * s.ent 0x1017 0),
      comm := { s.comm with hbLast := max s.now (s.comm.hbLast + 1000 * s.ent 0x1017 0) },
      out := .heartbeat s.comm.nmt.code :: s.out }) ∧
  (∀ (node : Nat) (i : Fin 4) (s : State), s.canUp = true → (s.monitors i).1 = node → (s.monitors i).2 ≠ 0 →
    ∃ t, exec (.heartbeatConsume node) s = .next t ∧
      t = [0, 1, 2, 3].foldl (fun t i => if (s.monitors i).1 = node then t.endCond 0x8130 0x2A i else t)
        (s.onComm (fun c => { c with hbSeen := (node, s.now) :: c.hbSeen.filter (fun e => decide (e.1 ≠ node)) })) ∧ (node, s.now) ∈ t.comm.hbSeen ∧ t.comm.nmt = s.comm.nmt ∧
      t.condOn 0x8130 0x2A i = false ∧ SameBut [.comm, .oap, .nvm, .out] s t) ∧
  (∀ (i : Fin 4) (e : Nat × Nat) (s : State), s.canUp = true → (s.monitors i).2 ≠ 0 →
      s.comm.hbSeen.find? (fun e => decide (e.1 = (s.monitors i).1)) = some e →
    ∃ t, exec (.heartbeatConsumerTimeout i) s = .next t ∧
      t = (s.upTo (e.2 + (s.monitors i).2)).raiseCond 0x8130 0x2A i [] ∧ t.now = max s.now (e.2 + (s.monitors i).2) ∧
      t.condOn 0x8130 0x2A i = true ∧ t.comm.nmt = s.comm.nmt ∧ SameBut [.now, .comm, .oap, .nvm, .out] s t) ∧
  (∀ s : State, s.boot.st = .running → exec (.lssSwitchStateGlobal true) s =
    .next { s with comm := { s.comm with lss := { s.comm.lss with config := true } } }) ∧
  (∀ s : State, s.boot.st = .running → s.comm.node ≠ 0xFF → exec (.lssSwitchStateGlobal false) s =
    .next { s with comm := { s.comm with lss := { s.comm.lss with config := false } } }) ∧
  (∀ s : State, s.boot.st = .running → exec (.lssSwitchStateGlobal false) s = .next s.lssLeave) ∧
  (∀ s : State, s.comm.lss.config = true → s.comm.node = 0xFF → s.comm.lss.pendingNode ≠ 0xFF →
    s.lssLeave = (({ s with comm := { s.comm with node := s.comm.lss.pendingNode, lss := { s.comm.lss with config := false } } } :
      State).bootUp).nmtStartup) ∧
  (∀ (id : LssId) (s : State), s.boot.st = .running → id.vendor.toNat = s.identity 0 → id.product.toNat = s.identity 1 →
      id.revision.toNat = s.identity 2 → id.serial.toNat = s.identity 3 →
    exec (.lssSwitchStateSelective id) s = .next { s with
      comm := { s.comm with lss := { s.comm.lss with config := true } }, out := .lss 0x44 0 :: s.out }) ∧
  (∀ (node : Nat) (s : State), s.boot.st = .running → s.comm.lss.config = true → 1 ≤ node → node ≤ 127 →
    exec (.lssConfigureNodeId node) s = .next { s with
      comm := { s.comm with lss := { s.comm.lss with pendingNode := node } }, out := .lss 0x11 0 :: s.out }) ∧
  (∀ (node : Nat) (s : State), s.boot.st = .running → s.comm.lss.config = true → 127 < node → node ≠ 0xFF →
    exec (.lssConfigureNodeId node) s = .next { s with out := .lss 0x11 1 :: s.out }) ∧
  (∀ (index r : Nat) (s : State), s.boot.st = .running → s.comm.lss.config = true →
      (index, r) ∈ [(0, 1000), (2, 500), (3, 250), (4, 125)] →
    exec (.lssConfigureBitTiming 0 index) s = .next { s with
      comm := { s.comm with lss := { s.comm.lss with pendingRate := r } }, out := .lss 0x13 0 :: s.out }) ∧
  (∀ s : State, s.boot.st = .running → s.comm.lss.config = true →
    exec .lssActivateBitTiming s = .next { s with comm := { s.comm with rate := s.comm.lss.pendingRate } }) ∧
  (∀ s : State, s.boot.st = .running → s.comm.lss.config = true → s.storing = false →
    ∃ t, exec .lssStoreConfiguration s = .next t ∧ t = s.startStore 2 false .lss ∧ SameBut [.nvm, .memu, .mem, .out] s t) ∧
  (∀ (field : Fin 4) (s : State), s.boot.st = .running → s.comm.lss.config = true →
    exec (.lssInquireIdentity field) s = .next { s with out := .lss (0x5A + field) (s.identity field) :: s.out } ∧
    exec .lssInquireNodeId s = .next { s with out := .lss 0x5E s.comm.node :: s.out }) ∧
  (∀ (v p rl rh sl sh : BitVec 32) (s : State), s.boot.st = .running → v.toNat = s.identity 0 → p.toNat = s.identity 1 →
      rl.toNat ≤ s.identity 2 → s.identity 2 ≤ rh.toNat → sl.toNat ≤ s.identity 3 → s.identity 3 ≤ sh.toNat →
    exec (.lssIdentifyRemoteSlave v p rl rh sl sh) s = .next { s with out := .lss 0x4F 0 :: s.out }) ∧
  (∀ s : State, s.boot.st = .running → s.comm.node = 0xFF →
    exec .lssIdentifyNonConfigured s = .next { s with out := .lss 0x50 0 :: s.out }) ∧
  (∀ (idn : BitVec 32) (a b : Fin 4) (s : State), s.boot.st = .running → s.comm.node = 0xFF → s.comm.lss.config = false →
    exec (.lssFastscan idn 0x80 a b) s = .next { s with
      comm := { s.comm with lss := { s.comm.lss with fastscanSub := 0 } }, out := .lss 0x4F 0 :: s.out }) ∧
  (∀ (idn : BitVec 32) (bc : Nat) (a b : Fin 4) (s : State), s.boot.st = .running → s.comm.node = 0xFF →
      s.comm.lss.config = false → a.val = s.comm.lss.fastscanSub → 1 ≤ bc → bc < 32 →
      idn.toNat / 2 ^ bc = s.identity a / 2 ^ bc →
    exec (.lssFastscan idn bc a b) s = .next { s with out := .lss 0x4F 0 :: s.out }) ∧
  (∀ (idn : BitVec 32) (a b : Fin 4) (s : State), s.boot.st = .running → s.comm.node = 0xFF → s.comm.lss.config = false →
      a.val = s.comm.lss.fastscanSub → idn.toNat = s.identity a →
    exec (.lssFastscan idn 0 a b) s = .next { s with
      comm := { s.comm with lss := { s.comm.lss with fastscanSub := b, config := decide (b.val < a.val) } },
      out := .lss 0x4F 0 :: s.out }) ∧
  (∀ (node : Nat) (s : State), s.boot.st = .running → s.comm.lss.config = true → node = 0xFF →
    exec (.lssConfigureNodeId node) s = .next { s with
      comm := { s.comm with lss := { s.comm.lss with pendingNode := 0xFF } }, out := .lss 0x11 0 :: s.out }) ∧
  (∀ (node table index : Nat) (field : Fin 4) (s : State), s.comm.lss.config = false →
    exec (.lssConfigureNodeId node) s = .next s ∧ exec (.lssConfigureBitTiming table index) s = .next s ∧
    exec .lssActivateBitTiming s = .next s ∧ exec .lssStoreConfiguration s = .next s ∧
    exec (.lssInquireIdentity field) s = .next s ∧ exec .lssInquireNodeId s = .next s)

/-- CAN errors raise their EMCY codes and the inhibit time spaces the messages: while the device is up an overrun is the
event 0x8110, error passive the condition 0x8120 while it lasts, and a recovery from bus-off is counted and is the
event 0x8140; at the end of the inhibit time the oldest message that waits is sent and a new inhibit time starts.
Completes: CAN_RECEIVE_OVERRUN, CAN_ERROR_PASSIVE, CAN_BUS_OFF_RECOVERY, EMCY_INHIBIT_EXPIRY (R103 to R105) while the
device runs -/
def Obligations.CanErrorsAndEmcy : Prop :=
  (∀ s : State, s.boot.st = .running →
    ∃ t, exec .canReceiveOverrun s = .next t ∧ t = s.emcyEvent 0x8110 0x2A [] ∧ SameBut [.comm, .oap, .nvm, .out] s t) ∧
  (∀ s : State, s.boot.st = .running →
    ∃ t, exec (.canErrorPassive true) s = .next t ∧
      t = s.raiseCond 0x8120 0x2A 0 [] ∧ t.condOn 0x8120 0x2A 0 = true ∧ SameBut [.comm, .oap, .nvm, .out] s t) ∧
  (∀ s : State, s.boot.st = .running →
    ∃ t, exec (.canErrorPassive false) s = .next t ∧
      t = s.endCond 0x8120 0x2A 0 ∧ t.condOn 0x8120 0x2A 0 = false ∧ SameBut [.comm, .oap, .nvm, .out] s t) ∧
  (∀ s : State, s.boot.st = .running →
    ∃ t, exec .canBusOffRecovery s = .next t ∧
      t = (s.count 0x2010 5 1).emcyEvent 0x8140 0x2A [] ∧ t.od = (s.count 0x2010 5 1).od ∧ SameBut [.comm, .oap, .nvm, .od, .out] s t) ∧
  (∀ (m : Emcy) (rest : List Emcy) (s : State), s.sdoServed = true → s.comm.emcyQ = m :: rest →
    exec .emcyInhibitExpiry s = .next { s with
      now := max s.now s.comm.emcyUntil, out := .canEmcy m :: s.out,
      comm := { s.comm with emcyQ := rest, emcyUntil := max s.now s.comm.emcyUntil + 100 * s.ent 0x1015 0 } })

/-- A store writes a new vintage and a failed one changes nothing in force: while the device is up and NMT is not STOPPED,
STORE with its signature and no store running starts a store, and RESTORE_DEFAULTS a restore: STORE_STATE is 1, the
target is the vintage not in use, and no byte outside the target's COMMIT changes; a wrong signature is refused with
0x0800_0020, a second store with 0x0F00_0020, and either in STOPPED with 0x0800_0022; STORE_COMPLETE writes the
content and the COMMIT of the new vintage and makes it the one in use, changing no byte outside its area; one that
fails its read-back of the content or of the COMMIT leaves STORE_STATE 2 and the vintage in use as it was. Completes:
STORE, RESTORE_DEFAULTS (R89, R90, R128), STORE_COMPLETE (R129) with a store running -/
def Obligations.StoresAndRestores : Prop :=
  (∀ (sub : Fin 4) (s : State), s.boot.st = .running → s.comm.nmt ≠ .stopped → s.nvm.job = none →
    ∃ t j, exec (.store sub 0x65766173) s = .next t ∧ t = s.startStore (sub.val + 1) false .local ∧ t.nvm.job = some j ∧
      j.sub = sub.val + 1 ∧ j.restore = false ∧
      j.target = (if s.nvm.inUse = 0 then 1 else 0) ∧ t.nvm.storeState = 1 ∧ t.nvm.inUse = s.nvm.inUse ∧
      (∀ a, a < vintageBase j.target + 0x1FFF8 ∨ vintageBase j.target + 0x20000 ≤ a → t.byteAt a = s.byteAt a) ∧
      SameBut [.nvm, .memu, .mem] s t) ∧
  (∀ (sub : Fin 4) (s : State), s.boot.st = .running → s.comm.nmt ≠ .stopped → s.nvm.job = none →
    ∃ t j, exec (.restoreDefaults sub 0x64616F6C) s = .next t ∧ t = s.startStore (sub.val + 1) true .local ∧ t.nvm.job = some j ∧
      j.sub = sub.val + 1 ∧ j.restore = true ∧
      j.target = (if s.nvm.inUse = 0 then 1 else 0) ∧ t.nvm.storeState = 1 ∧ t.nvm.inUse = s.nvm.inUse ∧
      (∀ a, a < vintageBase j.target + 0x1FFF8 ∨ vintageBase j.target + 0x20000 ≤ a → t.byteAt a = s.byteAt a) ∧
      SameBut [.nvm, .memu, .mem] s t) ∧
  (∀ (sub : Fin 4) (sig : BitVec 32) (s : State), s.boot.st = .running → s.comm.nmt ≠ .stopped →
    (sig ≠ 0x65766173 → exec (.store sub sig) s = .next { s with out := .status 0x08000020 :: s.out }) ∧
    (sig ≠ 0x64616F6C → exec (.restoreDefaults sub sig) s = .next { s with out := .status 0x08000020 :: s.out })) ∧
  (∀ (sub : Fin 4) (s : State), s.boot.st = .running → s.comm.nmt ≠ .stopped → s.nvm.job ≠ none →
    exec (.store sub 0x65766173) s = .next { s with out := .status 0x0F000020 :: s.out } ∧
    exec (.restoreDefaults sub 0x64616F6C) s = .next { s with out := .status 0x0F000020 :: s.out }) ∧
  (∀ (sub : Fin 4) (sig : BitVec 32) (s : State), s.boot.st = .running → s.comm.nmt = .stopped →
    exec (.store sub sig) s = .next { s with out := .status 0x08000022 :: s.out } ∧
    exec (.restoreDefaults sub sig) s = .next { s with out := .status 0x08000022 :: s.out }) ∧
  (∀ (j : StoreJob) (s : State), s.nvm.job = some j → j.fails = false →
    ∃ t, exec (.storeComplete .ok) s = .next t ∧
      t = (((((s.storeContent j).storeCommit j).onNvm (fun n => { n with storeState := 0, job := none, inUse := j.target, gen := j.gen })).book
        0xE010 3 0 (leBytes 1 j.target ++ leBytes 4 j.gen ++ leBytes 1 j.sub ++ leBytes 1 (b2n j.restore))).answerTo
        j.asker (if j.restore then 0x1011 else 0x1010) j.sub 0) ∧
      t.nvm.job = none ∧ t.nvm.storeState = 0 ∧ t.nvm.inUse = j.target ∧ t.nvm.gen = j.gen ∧
      (∀ a, a < vintageBase j.target ∨ vintageBase j.target + max 0x20000 j.image.length ≤ a → t.byteAt a = s.byteAt a) ∧
      SameBut [.oap, .nvm, .memu, .choir, .mem, .out] s t) ∧
  (∀ (j : StoreJob) (r : StoreEnd) (s : State), s.nvm.job = some j → (j.fails = true ∨ r ≠ .ok) →
    ∃ t, exec (.storeComplete r) s = .next t ∧ t.nvm.job = none ∧ t.nvm.storeState = 2 ∧ t.nvm.inUse = s.nvm.inUse ∧
      t.nvm.gen = s.nvm.gen ∧ SameBut [.comm, .oap, .nvm, .memu, .choir, .mem, .out] s t)

/-- OAP sessions are opened, kept and closed: for a valid header at a device that is up and no follower, OPEN grants a
session that did not exist, with its rights, and answers its token, where the rules let it, and is refused with its
code otherwise; CLOSE answers and ends the session; KEEPALIVE answers success and moves the session's last request to
now; without such a session a request is answered 0x0504_0000; 10 s without a request end a session; a write of
OAP_ACCESS or OAP_WRITE_CODE closes every session; a header that is not in order is discarded and counted; an answer
is sent as its datagrams and kept for a repeated request. Completes: OAP_OPEN, OAP_CLOSE, OAP_KEEPALIVE,
OAP_SESSION_TIMEOUT (R107, R109, R110), OAP_ACCESS_WRITE (R94) -/
def Obligations.OapSessionsOpenAndClose : Prop :=
  (∀ (h : OapHdr) (rights : Nat) (code : BitVec 32) (s : State), s.boot.st = .running →
      hdrOk h 1 0 1 (openData rights code) = true → s.choir.role ≠ .follower → reqTargeted h = false →
    ∃ t, exec (.oapOpen h rights code) s = .next t ∧ t = s.openSession h rights code ∧
      SameBut [.oap, .choir, .od, .fresh, .out] s t) ∧
  (∀ (h : OapHdr) (rights : Nat) (code : BitVec 32) (s : State), s.openCode rights code = 0 →
    ∃ x, (s.openSession h rights code).oap.sessions = s.oap.sessions ++ [x] ∧ x.host = h.host ∧
      x.write = decide (rights = 2) ∧ x.lastReq = s.now ∧ (∀ y ∈ s.oap.sessions, y.token ≠ x.token) ∧
      (s.openSession h rights code).out =
        ((oapDatagrams 0x81 h.seq x.token none 0 (leBytes 2 10000)).map (Out.oap (.host h.host))).reverse ++ s.out) ∧
  (∀ (h : OapHdr) (rights : Nat) (code : BitVec 32) (s : State), s.openCode rights code ≠ 0 →
    s.openSession h rights code = s.oapSend (.host h.host) 0x81 h.seq 0 none (BitVec.ofNat 32 (s.openCode rights code)) []) ∧
  (∀ (h : OapHdr) (x : OapSession) (s : State), s.boot.st = .running → hdrOk h 2 0 1 [] = true →
      s.choir.role ≠ .follower → s.session h.token = some x →
      x.cache.find? (fun c => decide (c.seq = h.seq)) = none → s.stillRuns x h.seq = false →
      (behind x h.seq).getD 0 < 16 → reqTargeted h = false →
    ∃ t, exec (.oapClose h) s = .next t ∧
      t = (((s.seenBy h).oapSend (.host h.host) 0x82 h.seq h.token none 0 []).endSession h.token) ∧
      t.session h.token = none ∧ SameBut [.oap, .choir, .od, .out] s t) ∧
  (∀ (h : OapHdr) (x : OapSession) (s : State), s.boot.st = .running → hdrOk h 3 0 1 [] = true →
      s.choir.role ≠ .follower → s.session h.token = some x →
      x.cache.find? (fun c => decide (c.seq = h.seq)) = none → s.stillRuns x h.seq = false →
      (behind x h.seq).getD 0 < 16 → reqTargeted h = false →
    ∃ t, exec (.oapKeepalive h) s = .next t ∧ t = (s.seenBy h).respond h 3 0 [] ∧
      SameBut [.oap, .choir, .od, .out] s t) ∧
  (∀ (h : OapHdr) (x : OapSession) (s : State), s.session h.token = some x →
    ∃ y, ((s.seenBy h).respond h 3 0 []).session h.token = some y ∧ y.lastReq = s.now ∧ y.subs = x.subs) ∧
  (∀ (h : OapHdr) (type code : Nat) (data : List Byte) (s : State),
    (s.respond h type code data).out = ((oapDatagrams (type + 0x80) h.seq h.token none (BitVec.ofNat 32 code) data).map
      (Out.oap (.host h.host))).reverse ++ s.out ∧ SameBut [.oap, .out] s (s.respond h type code data)) ∧
  (∀ (h : OapHdr) (s : State), s.boot.st = .running → hdrOk h 3 0 1 [] = true → s.choir.role ≠ .follower →
      s.session h.token = none →
    ∃ t, exec (.oapKeepalive h) s = .next t ∧ t = s.oapSend (.host h.host) 0x83 h.seq 0 none 0x05040000 [] ∧
      SameBut [.out] s t) ∧
  (∀ (h : OapHdr) (s : State), s.boot.st = .running → hdrOk h 2 0 1 [] = true → s.choir.role ≠ .follower →
      s.session h.token = none →
    ∃ t, exec (.oapClose h) s = .next t ∧ t = s.oapSend (.host h.host) 0x82 h.seq 0 none 0x05040000 [] ∧
      SameBut [.out] s t) ∧
  (∀ (i : Fin 4) (x : OapSession) (s : State), s.oap.sessions[i.val]? = some x →
    ∃ t, exec (.oapSessionTimeout i) s = .next t ∧ t = (s.upTo (x.lastReq + 10000000)).endSession x.token ∧
      t.now = max s.now (x.lastReq + 10000000) ∧ t.session x.token = none ∧ SameBut [.now, .oap] s t) ∧
  (∀ (code : Bool) (val : BitVec 32) (s : State), s.boot.st = .running → s.comm.nmt ≠ .stopped →
      s.writeCheck 0x2500 (if code then 8 else 7) val.toNat = 0 →
    ∃ t, exec (.oapAccessWrite code val) s = .next t ∧
      t = (((s.writeEnt 0x2500 (if code then 8 else 7) val.toNat).closeSessions).answer 0) ∧
      t.oap.sessions = [] ∧ t.ent 0x2500 (if code then 8 else 7) = val.toNat ∧
      t.out = .status 0 :: s.out ∧ SameBut [.oap, .od, .wtime, .out] s t) ∧
  (∀ (h : OapHdr) (s : State), s.boot.st = .running → hdrOk h 3 0 1 [] = false → exec (.oapKeepalive h) s = .next (s.count 0x2020 1 1))

/-- OAP access messages read, write, subscribe and stream: a new request of an open session for the own dictionary: READ
and MULTI_READ answer the entries and change no entry but what a read changes; WRITE in a write session whose write
completes answers its code after it, a write that waits is noted as running, in a read-only session it is answered
0x0601_0000; SUBSCRIBE adds a subscription and answers its number, UNSUBSCRIBE removes it; VERDICT_STREAM sets the
stream; an unknown type is answered 0x0504_0001, but types 0x22, 0x23, 0x31, 0x40 and the responses are never
answered. Completes: OAP_READ, OAP_WRITE, OAP_MULTI_READ, OAP_SUBSCRIBE, OAP_UNSUBSCRIBE, OAP_VERDICT_STREAM,
OAP_UNKNOWN_TYPE (R108, R111, R113) -/
def Obligations.OapAccessMessages : Prop :=
  (∀ (h : OapHdr) (idx sub : Nat) (x : OapSession) (s : State), s.boot.st = .running →
      hdrOk h 0x10 0 1 (refBytes [(idx, sub)]) = true → s.choir.role ≠ .follower → s.session h.token = some x →
      x.cache.find? (fun c => decide (c.seq = h.seq)) = none → s.stillRuns x h.seq = false →
      (behind x h.seq).getD 0 < 16 → reqTargeted h = false →
    ∃ t, exec (.oapRead h idx sub) s = .next t ∧
      t = ((s.seenBy h).serveRead idx sub).2.2.respond h 0x10 ((s.seenBy h).serveRead idx sub).1 ((s.seenBy h).serveRead idx sub).2.1 ∧
      SameBut [.oap, .od, .out] s t) ∧
  (∀ (h : OapHdr) (refs : List (Nat × Nat)) (x : OapSession) (s : State), s.boot.st = .running →
      hdrOk h 0x12 0 1 (multiData refs) = true → s.choir.role ≠ .follower → s.session h.token = some x →
      x.cache.find? (fun c => decide (c.seq = h.seq)) = none → s.stillRuns x h.seq = false →
      (behind x h.seq).getD 0 < 16 → reqTargeted h = false →
    ∃ t, exec (.oapMultiRead h refs) s = .next t ∧
      t = ((s.seenBy h).serveMulti refs).2.2.respond h 0x12 ((s.seenBy h).serveMulti refs).1 ((s.seenBy h).serveMulti refs).2.1 ∧
      SameBut [.oap, .od, .out] s t) ∧
  (∀ (refs : List (Nat × Nat)) (s : State), 1 ≤ refs.length → refs.length ≤ 64 →
    s.serveMulti refs = (0, leBytes 1 refs.length ++ leBytes 3 0 ++ (s.readAll refs).1, (s.readAll refs).2)) ∧
  (∀ (h : OapHdr) (idx sub type : Nat) (data : List Byte) (x : OapSession) (s : State), s.boot.st = .running →
      hdrOk h 0x11 0 1 (writeData idx sub type data) = true → s.choir.role ≠ .follower →
      s.session h.token = some x → x.cache.find? (fun c => decide (c.seq = h.seq)) = none →
      s.stillRuns x h.seq = false → (behind x h.seq).getD 0 < 16 → reqTargeted h = false → x.write = false →
    ∃ t, exec (.oapWrite h idx sub type data) s = .next t ∧ t = (s.seenBy h).respond h 0x11 0x06010000 [] ∧
      SameBut [.oap, .out] s t) ∧
  (∀ (h : OapHdr) (idx sub type code : Nat) (data : List Byte) (v : State) (x : OapSession) (s : State),
      s.boot.st = .running → hdrOk h 0x11 0 1 (writeData idx sub type data) = true → s.choir.role ≠ .follower →
      s.session h.token = some x → x.cache.find? (fun c => decide (c.seq = h.seq)) = none →
      s.stillRuns x h.seq = false → (behind x h.seq).getD 0 < 16 → reqTargeted h = false → x.write = true →
      (s.seenBy h).serveWrite idx sub type data (.oap h.host h.token h.seq) = (some code, v) →
    exec (.oapWrite h idx sub type data) s = .next ((v.respond h 0x11 code []).afterWrite idx sub code)) ∧
  (∀ (h : OapHdr) (idx sub type : Nat) (data : List Byte) (v : State) (x : OapSession) (s : State),
      s.boot.st = .running → hdrOk h 0x11 0 1 (writeData idx sub type data) = true → s.choir.role ≠ .follower →
      s.session h.token = some x → x.cache.find? (fun c => decide (c.seq = h.seq)) = none →
      s.stillRuns x h.seq = false → (behind x h.seq).getD 0 < 16 → reqTargeted h = false → x.write = true →
      (s.seenBy h).serveWrite idx sub type data (.oap h.host h.token h.seq) = (none, v) →
    exec (.oapWrite h idx sub type data) s = .next (v.onSession h.token (fun y => { y with busy := y.busy ++ [{ seq := h.seq, idx := idx, sub := sub }] }))) ∧
  (∀ (h : OapHdr) (period : Nat) (refs : List (Nat × Nat)) (x : OapSession) (s : State), s.boot.st = .running →
      hdrOk h 0x20 0 1 (subscribeData period refs) = true → s.choir.role ≠ .follower →
      s.session h.token = some x → x.cache.find? (fun c => decide (c.seq = h.seq)) = none →
      s.stillRuns x h.seq = false → (behind x h.seq).getD 0 < 16 → reqTargeted h = false →
    ∃ t, exec (.oapSubscribe h period refs) s = .next t ∧
      t = ((s.seenBy h).serveSubscribe h.token x period refs).2.2.respond h 0x20
        ((s.seenBy h).serveSubscribe h.token x period refs).1 ((s.seenBy h).serveSubscribe h.token x period refs).2.1 ∧
      SameBut [.oap, .out] s t) ∧
  (∀ (h : OapHdr) (period : Nat) (refs : List (Nat × Nat)) (x : OapSession) (s : State), s.session h.token = some x →
      1 ≤ refs.length → refs.length ≤ 32 → x.subs.length < 8 →
    ∃ y u, (((s.seenBy h).serveSubscribe h.token x period refs).2.2.respond h 0x20 0 (leBytes 1 x.freeSub)).session h.token = some y ∧
      y.subs = x.subs ++ [u] ∧ u.id = x.freeSub ∧ u.refs = refs ∧ u.period = period % 65536 ∧
      ((s.seenBy h).serveSubscribe h.token x period refs).1 = 0 ∧
      ((s.seenBy h).serveSubscribe h.token x period refs).2.1 = leBytes 1 x.freeSub) ∧
  (∀ (h : OapHdr) (id : Fin 8) (x : OapSession) (s : State), s.boot.st = .running →
      hdrOk h 0x21 0 1 (leBytes 1 id.val) = true → s.choir.role ≠ .follower → s.session h.token = some x →
      x.cache.find? (fun c => decide (c.seq = h.seq)) = none → s.stillRuns x h.seq = false →
      (behind x h.seq).getD 0 < 16 → reqTargeted h = false →
    ∃ t, exec (.oapUnsubscribe h id) s = .next t ∧
      t = ((s.seenBy h).serveUnsubscribe h.token x id).2.respond h 0x21 ((s.seenBy h).serveUnsubscribe h.token x id).1 [] ∧
      SameBut [.oap, .out] s t) ∧
  (∀ (h : OapHdr) (id : Nat) (x : OapSession) (u : OapSub) (s : State), s.session h.token = some x → u ∈ x.subs → u.id = id →
    ∃ y, ((s.seenBy h).serveUnsubscribe h.token x id).2.session h.token = some y ∧
      y.subs = x.subs.filter (fun v => decide (v.id ≠ id)) ∧ ((s.seenBy h).serveUnsubscribe h.token x id).1 = 0) ∧
  (∀ (h : OapHdr) (enable : Bool) (decimate : Nat) (x : OapSession) (s : State), s.boot.st = .running →
      hdrOk h 0x30 0 1 (streamData enable decimate) = true → s.choir.role ≠ .follower →
      s.session h.token = some x → x.cache.find? (fun c => decide (c.seq = h.seq)) = none →
      s.stillRuns x h.seq = false → (behind x h.seq).getD 0 < 16 → reqTargeted h = false → 1 ≤ decimate →
      decimate ≤ 255 →
    ∃ t, exec (.oapVerdictStream h enable decimate) s = .next t ∧
      t = ((s.seenBy h).onSession h.token (fun y => { y with streamOn := enable, decimate := decimate, streamCount := 0 })).respond h 0x30 0 [] ∧
      SameBut [.oap, .out] s t) ∧
  (∀ (h : OapHdr) (type : Nat) (data : List Byte) (x : OapSession) (s : State), s.boot.st = .running →
      hdrOk h type 0 1 data = true → s.choir.role ≠ .follower → s.session h.token = some x →
      x.cache.find? (fun c => decide (c.seq = h.seq)) = none → s.stillRuns x h.seq = false →
      (behind x h.seq).getD 0 < 16 → reqTargeted h = false → neverAnswered type = false →
    ∃ t, exec (.oapUnknownType h type data) s = .next t ∧ t = (s.seenBy h).respond h type 0x05040001 [] ∧
      SameBut [.oap, .out] s t) ∧
  (∀ (h : OapHdr) (type : Nat) (data : List Byte) (s : State), s.boot.st = .running → hdrOk h type 0 1 data = true →
      s.choir.role ≠ .follower → neverAnswered type = true →
    exec (.oapUnknownType h type data) s = .next (s))

/-- Fragments are assembled, hosts discover the device and ports announce it: the first of several fragments of a request
is held with the time it came, and every fragment in order is taken; 500 ms after its first fragment the oldest
incomplete request is dropped; a valid DISCOVER notes the host and its sequence number, DISCOVER_REPLY answers it with
the announcement of a port that holds an address; a port that gains an IPv4 or IPv6 address announces at once to the
group of each address it holds, and ANNOUNCE_TIMER again when it is due: 1 s and 2 s after, then every
ANNOUNCE_PERIOD; ETH_LINK_CHANGE sets the entry of the port. Completes: OAP_FRAGMENT, OAP_FRAGMENT_TIMEOUT (R112),
DISCOVER, DISCOVER_REPLY, ETH_ADDRESS_ACQUIRED, ANNOUNCE_TIMER (R115, R116), ETH_LINK_CHANGE -/
def Obligations.OapFragmentsAndDiscovery : Prop :=
  (∀ (h : OapHdr) (type count : Nat) (data : List Byte) (s : State), s.boot.st = .running → hdrOk h type 0 count data = true →
      s.choir.role ≠ .follower → 2 ≤ count → count ≤ 64 → data.length = 1368 →
      (s.oap.frags.any (fun f => f.holds h type count)) = false →
    exec (.oapFragment h type 0 count data) s = .next { s with oap := { s.oap with frags := s.oap.frags ++
      [{ host := h.host, token := h.token, seq := h.seq, type := type, count := count, since := s.now, parts := [(0, data)] }] } }) ∧
  (∀ (h : OapHdr) (type index count : Nat) (data : List Byte) (s : State), s.boot.st = .running →
      hdrOk h type index count data = true → s.choir.role ≠ .follower → fragOk index count data.length = true →
    exec (.oapFragment h type index count data) s = .next (s.takeFrag h type index count data)) ∧
  (∀ (f : OapFrags) (rest : List OapFrags) (s : State), s.oap.frags = f :: rest →
    exec .oapFragmentTimeout s =
      .next { s with now := max s.now (f.since + 500000), oap := { s.oap with frags := rest } }) ∧
  (∀ (h : OapHdr) (s : State), s.boot.st = .running → hdrOk h 0x41 0 1 [] = true → s.choir.role ≠ .follower → 
    ∃ t, exec (.discover h) s = .next t ∧
      t = s.onOap (fun o => { o with discovers := o.discovers.filter (fun k => decide (k.1 ≠ h.host)) ++ [(h.host, h.seq)] }) ∧
      SameBut [.oap] s t) ∧
  (∀ (host : Nat) (k : Nat × BitVec 32) (s : State), s.oap.discovers.find? (fun k => decide (k.1 = host)) = some k →
      s.choir.role ≠ .follower →
    ∃ t, exec (.discoverReply host) s = .next t ∧
      t = (s.onOap (fun o => { o with discovers := o.discovers.filter (fun k => decide (k.1 ≠ host)) })).oapSend (.host host) 0x40 k.2 0 none 0
        ((s.onOap (fun o => { o with discovers := o.discovers.filter (fun k => decide (k.1 ≠ host)) })).announceData
          (if s.ent (ethIdx 0) 5 ≠ 0 ∨ (s.announcer 0).v6 = true then 0 else 1)) ∧
      SameBut [.oap, .out] s t) ∧
  (∀ (p : Fin 2) (addr : BitVec 32) (s : State), s.boot.st = .running → s.addressOf p addr ≠ 0 → 
    ∃ t, exec (.ethAddressAcquired p false addr) s = .next t ∧
      t = (s.setEnt (ethIdx p) 5 (s.addressOf p addr)).announceGain p false ∧ t.ent (ethIdx p) 5 = s.addressOf p addr ∧
      SameBut [.oap, .od, .fresh, .out] s t) ∧
  (∀ (p : Fin 2) (addr : BitVec 32) (s : State), s.boot.st = .running → s.takesV6 p = true → 
    ∃ t, exec (.ethAddressAcquired p true addr) s = .next t ∧ t = s.announceGain p true ∧
      SameBut [.oap, .od, .fresh, .out] s t) ∧
  (∀ (p : Fin 2) (s : State), s.boot.st = .running → (s.announcer p).due ≠ 0 → 
    ∃ t, exec (.announceTimer p) s = .next t ∧
      t = ((s.upTo (s.announcer p).due).onOap (fun o => { o with
        announces := tabMod { } o.announces p (fun x => { x with sent := min 2 (x.sent + 1), due := s.nextAnnounce (s.announcer p) }) })).announceOn p ∧
      t.now = max s.now (s.announcer p).due ∧ SameBut [.now, .oap, .fresh, .out] s t) ∧
  (∀ (p : Nat) (s : State), s.choir.role ≠ .follower → s.ent (ethIdx p) 5 ≠ 0 → (s.announcer p).v6 = false →
    s.announceOn p = s.announceTo p (.group p false)) ∧
  (∀ (p : Nat) (s : State), s.choir.role ≠ .follower → s.ent (ethIdx p) 5 = 0 → (s.announcer p).v6 = true →
    s.announceOn p = s.announceTo p (.group p true)) ∧
  (∀ (p : Fin 2) (state : Fin 3) (s : State), s.boot.st = .running → 
    ∃ t, exec (.ethLinkChange p state) s = .next t ∧ t = s.setEnt (ethIdx p) 7 state.val ∧
      t.ent (ethIdx p) 7 = state.val ∧ SameBut [.od] s t)

/-- An image is installed, switched to and loaded: with no store and no install running, begin opens the slot that is not
active and touches no byte outside its trailer; data in turn is stored at its offset, also while a commit is verified;
commit of a complete image begins the verification, whose end writes the trailer and makes the slot valid when the
image passes and its COMMIT reads back, and leaves it empty when it does not; abort empties the slot; activate outside
a Choir makes the switch pending; at its era boundary the switch makes the slot active, stops ingest and wants the
load, which happens when the press stages have ended; a failed read-back leaves the active slot as it was with EMCY
0xFF90. Completes: INSTALL_BEGIN, INSTALL_DATA, INSTALL_COMMIT, INSTALL_COMMIT_COMPLETE, INSTALL_ABORT,
INSTALL_ACTIVATE (R138 to R140), IMAGE_SWITCH, IMAGE_LOAD (R141) -/
def Obligations.InstallsAndSwitches : Prop :=
  (∀ s : State, s.boot.st = .running → s.comm.nmt ≠ .stopped → s.writeCheck 0x2300 8 1 = 0 → s.nvm.job = none →
      s.nvm.installing = none → s.nvm.pendingSwitch = none →
    ∃ t k, exec .installBegin s = .next t ∧ k = (match s.nvm.activeSlot with | some a => 1 - a | none => 0) ∧
      t = s.installBegin.2.answer 0 ∧
      t.nvm.installing = some k ∧ t.nvm.received = 0 ∧ t.nvm.activeSlot = s.nvm.activeSlot ∧ t.ent 0x2300 9 = 0 ∧
      (∀ a, a < trailer k + 0xFF0 ∨ trailer k + 0x1000 ≤ a → t.byteAt a = s.byteAt a) ∧
      SameBut [.nvm, .memu, .od, .mem, .out] s t) ∧
  (∀ (data : List Byte) (s : State), s.boot.st = .running → s.comm.nmt ≠ .stopped →
    ∃ t, exec (.installData data) s = .next t ∧ t = (s.installData data).2.answer (s.installData data).1 ∧
      SameBut [.nvm, .memu, .od, .mem, .out] s t) ∧
  (∀ (data : List Byte) (k : Nat) (s : State), s.boot.st = .running → s.comm.nmt ≠ .stopped → s.nvm.job = none →
      s.nvm.installing = some k → s.nvm.received = s.ent 0x2300 9 → 1 ≤ data.length → data.length ≤ 4096 →
      128 ≤ s.nvm.received → s.nvm.received + data.length ≤ s.memNum (slotBase k + 16) 4 →
    ∃ t, exec (.installData data) s = .next t ∧ t.nvm = { s.nvm with received := s.nvm.received + data.length } ∧
      t.bytesAt (slotBase k + s.nvm.received) data.length = data ∧ t.out = .status 0 :: s.out ∧
      (∀ a, a < slotBase k + s.nvm.received ∨ slotBase k + s.nvm.received + data.length ≤ a → t.byteAt a = s.byteAt a) ∧
      SameBut [.nvm, .memu, .od, .mem, .out] s t) ∧
  (∀ (k : Nat) (s : State), s.boot.st = .running → s.comm.nmt ≠ .stopped → s.nvm.installing = some k → s.nvm.committing = false →
      128 ≤ s.nvm.received → s.nvm.received = s.memNum (slotBase k + 16) 4 →
    exec .installCommit s = .next { s with nvm := { s.nvm with committing := true, commitFor := .local } }) ∧
  (∀ (k : Fin 2) (ok : Bool) (s : State), s.nvm.installing = some k.val → s.nvm.committing = true →
    ∃ t, exec (.installCommitComplete ok) s = .next t ∧ t.nvm.installing = none ∧ t.nvm.activeSlot = s.nvm.activeSlot ∧
      (s.slotCode k = 0 → ok = true →
        t = (((((s.writeTrailer k).setSlot k .valid).onNvm (fun n => { n with installing := none, committing := false })).book 0xE021 3 0
          (leBytes 1 k ++ leBytes 4 (numAt (s.slotImage k) 8 4) ++ leBytes 4 (numAt (s.slotImage k) 12 4))).answerTo s.nvm.commitFor 0x2300 8 0) ∧
        (if k = 0 then t.nvm.slot0 else t.nvm.slot1) = .valid ∧ t.nvm.committing = false) ∧
      (s.slotCode k = 0 → ok = false →
        t = ((s.writeTrailer k).badWord (trailer k + 0xFF8)).commitFail 0x08000020 ∧ (if k = 0 then t.nvm.slot0 else t.nvm.slot1) = .empty ∧
        t.nvm.installStatus = 0x08000020) ∧
      (s.slotCode k ≠ 0 → t = s.commitFail (s.slotCode k) ∧ (if k = 0 then t.nvm.slot0 else t.nvm.slot1) = .empty ∧ t.nvm.installStatus = s.slotCode k) ∧
      SameBut [.oap, .nvm, .memu, .choir, .mem, .out] s t) ∧
  (∀ (k : Fin 2) (s : State), s.boot.st = .running → s.comm.nmt ≠ .stopped → s.writeCheck 0x2300 8 3 = 0 → s.nvm.installing = some k.val →
    ∃ t, exec .installAbort s = .next t ∧ t = s.installAbort.2.answer 0 ∧ t.nvm.installing = none ∧ t.nvm.pendingSwitch = none ∧
      (if k = 0 then t.nvm.slot0 else t.nvm.slot1) = .empty ∧ SameBut [.oap, .nvm, .choir, .out] s t) ∧
  (∀ s : State, s.boot.st = .running → s.comm.nmt ≠ .stopped → s.activateCode = 0 → s.choir.role ≠ .precentor →
    ∃ t, exec .installActivate s = .next t ∧ t = (s.switchPend none).answer 0 ∧ t.nvm.pendingSwitch = s.validSlot ∧
      t.nvm.activeSlot = s.nvm.activeSlot ∧ t.out = .status 0 :: s.out ∧ SameBut [.nvm, .choir, .out] s t) ∧
  (∀ (k : Nat) (s : State), s.switchDue = some k →
    ∃ t, exec (.imageSwitch true) s = .next t ∧ t = s.switchTo k true ∧ t.nvm.activeSlot = some k ∧ t.nvm.pendingSwitch = none ∧
      t.nvm.loadPending = true ∧ t.beat.ingesting = false ∧ SameBut [.beat, .nvm, .memu, .choir, .power, .mem] s t) ∧
  (∀ (k : Nat) (s : State), s.switchDue = some k →
    ∃ t, exec (.imageSwitch false) s = .next t ∧ t = s.switchTo k false ∧ t.nvm.activeSlot = s.nvm.activeSlot ∧
      t.nvm.pendingSwitch = none ∧ t.nvm.installStatus = 0x08000020 ∧ SameBut [.comm, .oap, .nvm, .choir, .out] s t) ∧
  (∀ (k : Nat) (s : State), s.nvm.activeSlot = some k → s.nvm.loadPending = true → s.pressIdle = true →
    ∃ t, exec .imageLoad s = .next t ∧ t = s.imageLoad ∧ t.nvm.loadPending = false ∧ t.nvm.activeSlot = some k ∧
      t.now = s.now ∧ t.beat.number = s.beat.number ∧ t.island = s.island)

/-- Cellar Book records are staged, written, read and appended: BOOK_RECORD_WRITE writes the oldest staged record into the
next slot of the ring, and no byte outside that slot, and moves the slot and the sequence number on, dropped records
being told by a record of their own; a served read answers the record of BOOK_READ_SEQUENCE and moves it on, or is
refused where none is; a cantor's GO stages a record of its code in its range with its source, and is refused with the
flag of that cantor outside it; a record met while 64 wait is counted as dropped. Completes: BOOK_RECORD_WRITE (R149,
R152), BOOK_RECORD_READ (R150), BOOK_APPEND_GO (R154) -/
def Obligations.CellarBookRecords : Prop :=
  (∀ (r : Rec) (rest : List Rec) (s : State), s.nvm.staged = r :: rest →
    ∃ t, exec .bookRecordWrite s = .next t ∧ t = s.writeRecord ∧ t.nvm.nextSeq = seqNext s.nvm.nextSeq ∧
      t.nvm.nextSlot = (s.nvm.nextSlot + 1) % 16384 ∧ t.bytesAt (bookBase s.nvm.nextSlot) 64 = r.bytes s.nvm.nextSeq ∧
      (∀ a, a < bookBase s.nvm.nextSlot ∨ bookBase s.nvm.nextSlot + 64 ≤ a → t.byteAt a = s.byteAt a) ∧
      (s.nvm.dropped = 0 → t.nvm.staged = rest) ∧ t.nvm.dropped = 0 ∧ SameBut [.nvm, .memu, .mem] s t) ∧
  (∀ (b : List Byte) (s : State), s.boot.st = .running → s.ringRecord (s.ent 0x2400 3) = some b →
    ∃ t, exec .bookRecordRead s = .next t ∧ t.out = .data 0 b :: s.out ∧ t.ent 0x2400 3 = seqNext (s.ent 0x2400 3) ∧
      SameBut [.od, .out] s t) ∧
  (∀ s : State, s.boot.st = .running → s.ringRecord (s.ent 0x2400 3) = none →
    exec .bookRecordRead s = .next { s with out := .status 0x08000020 :: s.out }) ∧
  (∀ (c : Fin 8) (code : Nat) (s : State), code = bits (tabGet 0 s.nvm.appendControl c).toNat 0 16 → 0xE800 ≤ code → code ≤ 0xEFFF →
      s.nvm.staged.length < 64 →
    ∃ t r, exec (.bookAppendGo c) s = .next t ∧ t.nvm = { s.nvm with staged := s.nvm.staged ++ [r] } ∧ r.code = code ∧
      r.source = 0x40 + c.val ∧ r.severity = bits (tabGet 0 s.nvm.appendControl c).toNat 16 2 ∧ r.time = s.now ∧ r.beat = s.beat.number ∧
      r.payload = ((List.range 9).flatMap (fun k => leBytes 4 (tabGet 0 s.nvm.appendPayload (c.val * 16 + k)).toNat)).take 34 ∧
      SameBut [.nvm] s t) ∧
  (∀ (c : Fin 8) (code : Nat) (s : State), code = bits (tabGet 0 s.nvm.appendControl c).toNat 0 16 → (code < 0xE800 ∨ 0xEFFF < code) →
    exec (.bookAppendGo c) s = .next { s with nvm := { s.nvm with appendRefused := tabPut false s.nvm.appendRefused c true } }) ∧
  (∀ (code src sev : Nat) (p : List Byte) (s : State), 64 ≤ s.nvm.staged.length →
    (s.book code src sev p).nvm = { s.nvm with dropped := satAdd max32 s.nvm.dropped 1 })

/-- A port starts, goes away and is rescanned: insertion at an enabled ABSENT port leaves it POWERING; removal, a link
loss, PORT_ENABLE 0 and a rescan take it to ABSENT or POWERING, with its e-fuse off, its record and reservation
forgotten; removal, link loss, rescan and clear empty the hot table; every other port stays as it was. Completes:
PORT_INSERTION, PORT_REMOVAL, PORT_LINK_LOSS (R160, R164, R165), PORT_ENABLE_WRITE, PORT_RESCAN, PORT_CLEAR_HOT_TABLE
(R164, R179, R186) -/
def Obligations.PortsComeAndGo : Prop :=
  (∀ (p : Fin 6) (s : State), p.val < s.portCount → (s.port p).present = false → s.boot.st = .running →
      (s.port p).st = .absent → s.pEnt p 2 = 1 →
    ∃ t, exec (.portInsertion p) s = .next t ∧ t = (s.onPort p (fun x => { x with present := true })).portStart p ∧
      (t.port p).present = true ∧ (t.port p).st = .powering ∧ (∀ q, q ≠ p.val → t.port q = s.port q) ∧
      SameBut [.comm, .oap, .nvm, .ports, .zone, .video, .od, .out] s t) ∧
  (∀ (p : Fin 6) (s : State), p.val < s.portCount → (s.port p).present = false → s.boot.st = .running →
      s.pEnt p 2 ≠ 1 →
    ∃ t, exec (.portInsertion p) s = .next t ∧ t = s.onPort p (fun x => { x with present := true }) ∧
      SameBut [.ports] s t) ∧
  (∀ (p : Fin 6) (s : State), p.val < s.portCount → (s.port p).present = true → (s.port p).st ≠ .absent → 
    ∃ t, exec (.portRemoval p) s = .next t ∧
      t = (s.onPort p (fun x => { x with present := false, hotTable := [], hotCounts := [] })).portAbsent p true ∧
      (t.port p).present = false ∧ (t.port p).st = .absent ∧ (t.port p).efuse = false ∧ (t.port p).record = [] ∧
      (t.port p).region = none ∧ (t.port p).hotTable = [] ∧ (∀ q, q ≠ p.val → t.port q = s.port q) ∧
      SameBut [.comm, .oap, .nvm, .ports, .zone, .video, .od, .out] s t) ∧
  (∀ (p : Fin 6) (s : State), p.val < s.portCount → (s.port p).present = true → (s.port p).st = .absent → 
    ∃ t, exec (.portRemoval p) s = .next t ∧
      t = s.onPort p (fun x => { x with present := false, hotTable := [], hotCounts := [] }) ∧ SameBut [.ports] s t) ∧
  (∀ (p : Fin 6) (s : State), (s.port p).st = .streaming ∨ (s.port p).st = .stalled → 
    ∃ t, exec (.portLinkLoss p) s = .next t ∧ t = s.portAbsent p true ∧ (t.port p).st = .absent ∧
      (t.port p).efuse = false ∧ (t.port p).record = [] ∧ (t.port p).hotTable = [] ∧
      (t.port p).present = (s.port p).present ∧ (∀ q, q ≠ p.val → t.port q = s.port q) ∧
      SameBut [.comm, .oap, .nvm, .ports, .zone, .video, .od, .out] s t) ∧
  (∀ (p : Fin 6) (s : State), s.boot.st = .running → s.comm.nmt ≠ .stopped → s.writeCheck (portIdx p) 2 0 = 0 →
      (s.port p).st ≠ .absent →
    ∃ t, exec (.portEnableWrite p false) s = .next t ∧ t = ((s.writeEnt (portIdx p) 2 0).portAbsent p false).answer 0 ∧
      (t.port p).st = .absent ∧ (t.port p).efuse = false ∧ (t.port p).record = [] ∧
      (∀ q, q ≠ p.val → t.port q = s.port q) ∧
      SameBut [.comm, .oap, .nvm, .ports, .zone, .video, .od, .wtime, .out] s t) ∧
  (∀ (p : Fin 6) (s : State), s.boot.st = .running → s.comm.nmt ≠ .stopped → s.writeCheck (portIdx p) 2 1 = 0 →
      s.pEnt p 2 = 0 → (s.port p).st = .absent → (s.port p).present = true →
    ∃ t, exec (.portEnableWrite p true) s = .next t ∧ t = ((s.writeEnt (portIdx p) 2 1).portStart p).answer 0 ∧
      (t.port p).st = .powering ∧ t.pEnt p 2 = 1 ∧ (∀ q, q ≠ p.val → t.port q = s.port q) ∧
      SameBut [.comm, .oap, .nvm, .ports, .zone, .video, .od, .wtime, .out] s t) ∧
  (∀ (p : Fin 6) (s : State), s.boot.st = .running → s.comm.nmt ≠ .stopped → s.writeCheck (portIdx p) 3 1 = 0 →
      s.pEnt p 2 ≠ 0 → (s.port p).st ≠ .absent →
    ∃ t, exec (.portRescan p) s = .next t ∧
      t = ((((s.portDrain p).portTo p .powering).onPort p (fun x => { x.forget.fuseOff s.now with hotTable := [], hotCounts := [] })).answer 0) ∧
      (t.port p).st = .powering ∧ (t.port p).efuse = false ∧ (t.port p).record = [] ∧ (t.port p).hotTable = [] ∧
      (t.port p).buffer = [] ∧ (∀ q, q ≠ p.val → t.port q = s.port q) ∧
      SameBut [.comm, .oap, .nvm, .ports, .zone, .video, .od, .out] s t) ∧
  (∀ (p : Fin 6) (s : State), s.boot.st = .running → s.comm.nmt ≠ .stopped → s.writeCheck (portIdx p) 3 2 = 0 → 
    ∃ t, exec (.portClearHotTable p) s = .next t ∧
      t = (s.onPort p (fun x => { x with hotTable := [], hotCounts := [] })).answer 0 ∧ SameBut [.ports, .out] s t) ∧
  (∀ (p : Fin 6) (on : Bool) (s : State), s.boot.st = .running → s.comm.nmt = .stopped →
    exec (.portEnableWrite p on) s = .next { s with out := .status 0x08000022 :: s.out } ∧
    exec (.portRescan p) s = .next { s with out := .status 0x08000022 :: s.out } ∧
    exec (.portClearHotTable p) s = .next { s with out := .status 0x08000022 :: s.out })

/-- A port is powered, its head identified and its faults latched: the e-fuse of a POWERING port turns on 100 ms after it
was off (at once where it was off since power-on, the model's choice, log entry 67), identification starts 100 ms
later with attempt 1, a further attempt 20 ms after the last; a right record that meets every check leaves the port
READY with it; one that fails a field check leaves FAULT with cause 4, three attempts without acknowledge cause 3;
1000 ms in READY are cause 11, in STALLED cause 9, an e-fuse trip cause 1; a fault turns the e-fuse off and raises the
port's condition 0xFF30. Completes: EFUSE_ON, IDENTIFY_START, IDENTITY_READ_RETRY, IDENTITY_READ_COMPLETE (R165 to
R167), PORT_READY_TIMEOUT, PORT_STALL_TIMEOUT, EFUSE_TRIP (R164, R491) -/
def Obligations.PortsAreIdentified : Prop :=
  (∀ (p : Fin 6) (e : Nat) (s : State), (s.port p).st = .powering → (s.port p).efuse = false →
      (s.port p).efuseAt = some e →
    ∃ t, exec (.efuseOn p) s = .next t ∧
      t = (s.upTo (e + 100000)).onPort p (fun x => { x with efuse := true, efuseAt := some (max s.now (e + 100000)) }) ∧
      t.now = max s.now (e + 100000) ∧ (t.port p).efuse = true ∧ (t.port p).st = .powering ∧
      (∀ q, q ≠ p.val → t.port q = s.port q) ∧ SameBut [.now, .ports] s t) ∧
  (∀ (p : Fin 6) (s : State), (s.port p).st = .powering → (s.port p).efuse = false → (s.port p).efuseAt = none →
    ∃ t, exec (.efuseOn p) s = .next t ∧
      t = (s.upTo s.now).onPort p (fun x => { x with efuse := true, efuseAt := some (s.upTo s.now).now }) ∧
      t.now = s.now ∧ (t.port p).efuse = true ∧ (∀ q, q ≠ p.val → t.port q = s.port q) ∧ SameBut [.now, .ports] s t) ∧
  (∀ (p : Fin 6) (e : Nat) (s : State), (s.port p).st = .powering → (s.port p).efuse = true →
      (s.port p).efuseAt = some e →
    ∃ t, exec (.identifyStart p) s = .next t ∧
      t = ((s.upTo (e + 100000)).onPort p (fun x => { x with
        attempts := 1, acked := false, reading := true, readAt := max s.now (e + 100000) })).portTo p .identifying ∧
      t.now = max s.now (e + 100000) ∧ (t.port p).st = .identifying ∧ (t.port p).attempts = 1 ∧
      (t.port p).reading = true ∧ (∀ q, q ≠ p.val → t.port q = s.port q) ∧
      SameBut [.now, .comm, .oap, .nvm, .ports, .zone, .video, .od, .out] s t) ∧
  (∀ (p : Fin 6) (s : State), (s.port p).st = .identifying → (s.port p).reading = false → 
    ∃ t, exec (.identityReadRetry p) s = .next t ∧
      t = (s.upTo ((s.port p).readAt + 20000)).onPort p (fun x => { x with
        attempts := x.attempts + 1, reading := true, readAt := max s.now ((s.port p).readAt + 20000) }) ∧
      (t.port p).attempts = (s.port p).attempts + 1 ∧ (t.port p).reading = true ∧ (t.port p).st = .identifying ∧
      (∀ q, q ≠ p.val → t.port q = s.port q) ∧ SameBut [.now, .ports] s t) ∧
  (∀ (p : Fin 6) (rec : List Byte) (s : State), (s.port p).st = .identifying → (s.port p).reading = true →
      recCrcOk (slice rec 0 256) = true →
    ∃ t, exec (.identityReadComplete p true rec) s = .next t ∧
      t = (s.onPort p (fun x => { x with acked := x.acked || true, reading := false })).portChecks p (slice rec 0 256) ∧
      (∀ q, q ≠ p.val → t.port q = s.port q) ∧
      SameBut [.comm, .oap, .nvm, .ports, .zone, .power, .video, .od, .out] s t) ∧
  (∀ (p : Fin 6) (rec : List Byte) (s : State), (s.port p).st = .identifying → (s.port p).reading = true →
      recCrcOk (slice rec 0 256) = false → (s.port p).attempts < 3 →
    ∃ t, exec (.identityReadComplete p true rec) s = .next t ∧
      t = (s.onPort p (fun x => { x with acked := x.acked || true, reading := false })) ∧
      (∀ q, q ≠ p.val → t.port q = s.port q) ∧ SameBut [.ports] s t) ∧
  (∀ (p : Fin 6) (rec : List Byte) (s : State), (s.port p).st = .identifying → (s.port p).reading = true →
      recCrcOk (slice rec 0 256) = true → recFieldsOk (slice rec 0 256) s.power.vport = true →
      numAt (slice rec 0 256) 22 2 ≤ s.power.vport → streamOk (slice rec 0 256) = true →
      s.committedMw - s.portPower p + numAt (slice rec 0 256) 20 2 ≤ s.ent 0x2200 0xD → regionNeed (slice rec 0 256) = 0 →
      s.rateInUse p + pixelRate (slice rec 0 256) ≤ 248832000 * 1000 →
    ∃ t, exec (.identityReadComplete p true rec) s = .next t ∧ (t.port p).st = .ready ∧ (t.port p).record = slice rec 0 256 ∧
      (t.port p).powerMw = numAt (slice rec 0 256) 20 2 ∧ (∀ q, q ≠ p.val → t.port q = s.port q) ∧
      SameBut [.comm, .oap, .nvm, .ports, .zone, .power, .video, .od, .out] s t) ∧
  (∀ (p : Fin 6) (rec : List Byte) (s : State), (s.port p).st = .identifying → (s.port p).reading = true →
      recCrcOk (slice rec 0 256) = true → recFieldsOk (slice rec 0 256) s.power.vport = false →
    ∃ t, exec (.identityReadComplete p true rec) s = .next t ∧ (t.port p).st = .fault ∧ (t.port p).efuse = false ∧ (s.boot.st = .running → t.condOn 0xFF30 (8 + p.val) 0 = true) ∧ (t.port p).cause = 4 ∧ (∀ q, q ≠ p.val → t.port q = s.port q)) ∧
  (∀ (p : Fin 6) (rec : List Byte) (s : State), (s.port p).st = .identifying → (s.port p).reading = true →
      3 ≤ (s.port p).attempts → (s.port p).acked = false →
    ∃ t, exec (.identityReadComplete p false rec) s = .next t ∧ (t.port p).st = .fault ∧ (t.port p).efuse = false ∧ (s.boot.st = .running → t.condOn 0xFF30 (8 + p.val) 0 = true) ∧ (t.port p).cause = 3 ∧ (∀ q, q ≠ p.val → t.port q = s.port q)) ∧
  (∀ (p : Fin 6) (s : State), (s.port p).st = .ready → 
    ∃ t, exec (.portReadyTimeout p) s = .next t ∧ t = (s.upTo ((s.port p).since + 1000000)).portFault p 11 ∧
      t.now = max s.now ((s.port p).since + 1000000) ∧ (t.port p).st = .fault ∧ (t.port p).efuse = false ∧
      (s.boot.st = .running → t.condOn 0xFF30 (8 + p.val) 0 = true) ∧ (t.port p).cause = 11 ∧
      (∀ q, q ≠ p.val → t.port q = s.port q) ∧ SameBut [.now, .comm, .oap, .nvm, .ports, .zone, .video, .od, .out] s t) ∧
  (∀ (p : Fin 6) (s : State), (s.port p).st = .stalled → 
    ∃ t, exec (.portStallTimeout p) s = .next t ∧ t = (s.upTo ((s.port p).since + 1000000)).portFault p 9 ∧
      t.now = max s.now ((s.port p).since + 1000000) ∧ (t.port p).st = .fault ∧ (t.port p).efuse = false ∧
      (s.boot.st = .running → t.condOn 0xFF30 (8 + p.val) 0 = true) ∧ (t.port p).cause = 9 ∧
      (∀ q, q ≠ p.val → t.port q = s.port q) ∧ SameBut [.now, .comm, .oap, .nvm, .ports, .zone, .video, .od, .out] s t) ∧
  (∀ (p : Fin 6) (reason : Fin 6) (s : State), (s.port p).efuse = true → reason.val ≠ 0 → 
    ∃ t, exec (.efuseTrip p reason) s = .next t ∧
      t = (s.portFault p 1).book 0xE7D2 2 1 (leBytes 1 p.val ++ leBytes 1 reason.val) ∧ (t.port p).st = .fault ∧
      (t.port p).efuse = false ∧ (s.boot.st = .running → t.condOn 0xFF30 (8 + p.val) 0 = true) ∧ (t.port p).cause = 1 ∧
      (∀ q, q ≠ p.val → t.port q = s.port q) ∧ SameBut [.comm, .oap, .nvm, .ports, .zone, .video, .od, .out] s t)

/-- Packets, frames and head time of a port with a head: a packet with a wrong ECC or checksum, or of another channel or
type, is discarded and counted and decodes nothing; the words of a packet of an event head go into the port's buffer,
from which they are decoded at 300 words a µs; a ROW word sets the row; a packet of a frame head in a frame is one
more line, marked where its length is not the frame's; FRAME_START opens a frame with its time and takes a READY head
to STREAMING, FRAME_END of a frame whose lines are all there with their length makes it the newest frame, any other
frame is dropped and counted; 5 ms without head time stall the port; while the fabric is not halted an accepted event
leaves the port as one packet on the link of its entry core. Completes: CSI2_PACKET (R158, R171, R174), FRAME_START,
FRAME_END (R182), HEAD_TIME_SILENT (R175), INGEST_INJECT (R230) -/
def Obligations.PortsTakeData : Prop :=
  (∀ (p : Fin 6) (k : CsiPacket) (s : State), s.headType p ≠ 0 →
      k.eccBad = true ∨ k.crcBad = true ∨ k.vc ≠ s.headField p 7 1 ∨ k.dt ≠ s.headField p 10 1 →
    ∃ t, exec (.csi2Packet p k) s = .next t ∧ t = (s.upTo k.arrival).csiDiscard p ∧
      ((s.port p).csiDiscards.length < 1000 → t.pEnt p 0x17 = satAdd max32 (s.pEnt p 0x17) 1 ∧ (t.port p).st = (s.port p).st ∧
        (t.port p).row = (s.port p).row ∧ (t.port p).buffer = (s.port p).buffer) ∧
      (∀ q, q ≠ p.val → t.port q = s.port q) ∧ SameBut [.now, .comm, .oap, .nvm, .ports, .zone, .video, .od, .out] s t) ∧
  (∀ (p : Fin 6) (k : CsiPacket) (s : State), s.headType p = 1 ∨ s.headType p = 4 → k.eccBad = false →
      k.crcBad = false → k.vc = s.headField p 7 1 → k.dt = s.headField p 10 1 →
    ∃ t, exec (.csi2Packet p k) s = .next t ∧ t = (s.upTo k.arrival).bufferWords p k.arrival k.words ∧
      (∀ q, q ≠ p.val → t.port q = s.port q) ∧ SameBut [.now, .comm, .oap, .nvm, .ports, .zone, .video, .od, .out] s t) ∧
  (∀ (p a : Nat) (ws : List (BitVec 32)) (s : State), (s.portDrain p).port p = s.port p → s.portDrain p = s →
      (s.port p).fill + ws.length ≤ 65536 → (s.port p).skipping = false →
    s.bufferWords p a ws = (s.onPort p (fun q => { q with buffer := q.buffer ++ [(a, ws)] })).portDrain p) ∧
  (∀ (p a : Nat) (w : BitVec 32) (s : State), (s.port p).vector = none → bits w.toNat 28 4 = 1 → bits w.toNat 11 17 = 0 →
    s.hefWord p a w = s.onPort p (fun q => { q with row := some (bits w.toNat 0 11) })) ∧
  (∀ (p : Fin 6) (k : CsiPacket) (s : State), s.headType p = 2 ∨ s.headType p = 3 → k.eccBad = false →
      k.crcBad = false → k.vc = s.headField p 7 1 → k.dt = s.headField p 10 1 → (s.port p).frameAt.isSome = true →
    ∃ t, exec (.csi2Packet p k) s = .next t ∧
      t = (s.upTo k.arrival).onPort p (fun q => { q with
        frameLines := k.words :: q.frameLines,
        frameBad := q.frameBad || decide (k.len ≠ lineLen k.dt (s.headField p 12 2)) }) ∧
      (∀ q, q ≠ p.val → t.port q = s.port q) ∧ SameBut [.now, .ports] s t) ∧
  (∀ (p : Fin 6) (s : State), (s.port p).st = .streaming → s.headType p = 1 ∨ s.headType p = 4 → 
    ∃ t, exec (.headTimeSilent p) s = .next t ∧ t = (s.upTo ((s.port p).lastHighAt + 5000)).portStall p 1 ∧
      t.now = max s.now ((s.port p).lastHighAt + 5000) ∧ (t.port p).st = .stalled ∧ t.pEnt p 0x1D = 1 ∧
      (∀ q, q ≠ p.val → t.port q = s.port q) ∧ SameBut [.now, .comm, .oap, .nvm, .ports, .zone, .video, .od, .out] s t) ∧
  (∀ (p : Fin 6) (arrival : Nat) (s : State), s.headType p = 2 ∨ s.headType p = 3 → (s.port p).frameAt = none →
      (s.port p).frames.length < 4 → (s.port p).st = .ready →
    ∃ t f, exec (.frameStart p arrival) s = .next t ∧ t.now = max s.now arrival ∧ (t.port p).st = .streaming ∧
      (t.port p).frameAt = some f ∧ f.time = arrival - t.pEnt p 8 ∧ f.width = s.headField p 12 2 ∧ f.height = s.headField p 14 2 ∧
      f.complete = false ∧ (∀ q, q ≠ p.val → t.port q = s.port q) ∧ SameBut [.now, .comm, .oap, .nvm, .ports, .zone, .video, .od, .out] s t) ∧
  (∀ (p : Fin 6) (f : Frame) (s : State), (s.port p).frameAt = some f → (s.port p).frameBad = false →
      (s.port p).frameLines.length = f.height →
    ∃ t, exec (.frameEnd p) s = .next t ∧
      t = (s.onPort p (fun q => { q with
        frameAt := none, frameLines := [], frameBad := false,
        frames := { f with lines := (s.port p).frameLines.reverse, complete := true } :: q.frames })).videoFrameEnd p
        { f with lines := (s.port p).frameLines.reverse, complete := true } ∧
      (t.port p).frameAt = none ∧
      (t.port p).frames = { f with lines := (s.port p).frameLines.reverse, complete := true } :: (s.port p).frames ∧
      (∀ q, q ≠ p.val → t.port q = s.port q) ∧ SameBut [.nvm, .ports, .video, .od] s t) ∧
  (∀ (p : Fin 6) (f : Frame) (s : State), (s.port p).frameAt = some f →
      (s.port p).frameBad = true ∨ (s.port p).frameLines.length ≠ f.height →
    ∃ t, exec (.frameEnd p) s = .next t ∧
      t = ((s.onPort p (fun q => { q with frameAt := none, frameLines := [], frameBad := false })).pCount p 0x1A).videoFrameDrop p f.time ∧
      (t.port p).frameAt = none ∧ (t.port p).frames = (s.port p).frames ∧ (∀ q, q ≠ p.val → t.port q = s.port q) ∧
      SameBut [.nvm, .ports, .video, .od] s t) ∧
  (∀ (p : Fin 6) (e : InjEvent) (rest : List InjEvent) (m : IngestMap) (s u : State), s.beat.hardHalt = false → u = s.portDrain p →
      (u.port p).injq = e :: rest → tabGet none u.fabric.ingestMaps p = some m →
      State.flitShed ((u.onPort p (fun x => { x with injq := rest })).ledger (ingestFlit u.choir.ownId p m e).target 0 1)
        (ingestFlit u.choir.ownId p m e) = false →
      State.credit ((u.onPort p (fun x => { x with injq := rest })).ledger (ingestFlit u.choir.ownId p m e).target 0 1)
        (credKey m.entryCore 6 0) ≠ 0 →
    ∃ t, exec (.ingestInject p) s = .next t ∧
      t = ((((u.onPort p (fun x => { x with injq := rest })).ledger (ingestFlit u.choir.ownId p m e).target 0 1).useCredit
        (credKey m.entryCore 6 0)).sendTo m.entryCore .inj (ingestFlit u.choir.ownId p m e)) ∧
      (t.port p).injq = rest ∧ (∀ q, q ≠ p.val → t.port q = u.port q) ∧ SameBut [.ports, .fabric] u t)

/-- Voice cores are loaded, checked, disabled and take events: LOAD of a core that is not running clears its window, every
byte of it and no other, and its lines' error marks, and leaves it LOADING; of a running or faulted core it is refused
with its flag; COMMIT of a LOADING core runs the check, whose end leaves it LOADED, or LOADING with the lowest failure
code, or, on an uncorrectable line, in FAULT; DISABLE leaves a core that is not running DISABLED; the rank count takes
1 to 8 while no core runs; a core accepts the oldest packet at its input and returns its credit: a faulted one sheds
it, one without a matching tap counts it, one that is not running counts it and adds nothing, a running one adds each
tap's contribution; a packet at its output leaves with a credit. Completes: CORE_LOAD, CORE_CLEAR_DONE, CORE_COMMIT,
CORE_COMMIT_DONE, CORE_DISABLE (R191), VOICE_RANK_COUNT_WRITE (R193), CORE_EVENT_ACCEPT (R191, R205, R217),
CORE_FANOUT_SEND (R212, R239) -/
def Obligations.VoiceCoresAreLoaded : Prop :=
  (∀ (c : Fin 256) (s : State), s.coreUp c = true → (s.core c).st = .disabled ∨ (s.core c).st = .loaded →
    ∃ t, exec (.coreLoad c) s = .next t ∧
      t.core c = { s.core c with st := .loading, clearing := true, touched := [] } ∧
      (∀ a, coreBase c ≤ a → a < coreBase c + windowSize → t.byteAt a = 0 ∧ tabGet false t.memu.poison (a / 64) = false) ∧
      (∀ a, a < coreBase c ∨ coreBase c + windowSize ≤ a → t.byteAt a = s.byteAt a) ∧ (∀ d, d ≠ c.val → t.core d = s.core d) ∧ SameBut [.fabric, .memu, .mem] s t) ∧
  (∀ (c : Fin 256) (s : State), s.coreUp c = true → (s.core c).st = .running ∨ (s.core c).st = .fault → 
    ∃ t, exec (.coreLoad c) s = .next t ∧ t = s.onCore c (fun x => { x with loadRefused := true }) ∧
      (∀ d, d ≠ c.val → t.core d = s.core d) ∧ SameBut [.fabric] s t) ∧
  (∀ (c : Fin 256) (s : State), 
    ∃ t, exec (.coreClearDone c) s = .next t ∧ t = s.onCore c (fun x => { x with clearing := false }) ∧
      t.core c = { s.core c with clearing := false } ∧ (∀ d, d ≠ c.val → t.core d = s.core d) ∧ SameBut [.fabric] s t) ∧
  (∀ (c : Fin 256) (s : State), s.coreUp c = true → (s.core c).st = .loading → 
    ∃ t, exec (.coreCommit c) s = .next t ∧ t = s.onCore c (fun x => { x with committing := true }) ∧
      t.core c = { s.core c with committing := true } ∧ (∀ d, d ≠ c.val → t.core d = s.core d) ∧ SameBut [.fabric] s t) ∧
  (∀ (c : Fin 256) (s : State), s.coreUp c = true → (s.core c).st = .loading → (s.core c).committing = true →
      s.commitBad c = false → s.commitCode c = 0 →
    ∃ t, exec (.coreCommitDone c) s = .next t ∧
      t = s.onCore c (fun x => { x with committing := false, st := .loaded, loadError := 0 }) ∧
      t.core c = { s.core c with committing := false, st := .loaded, loadError := 0 } ∧
      (∀ d, d ≠ c.val → t.core d = s.core d) ∧ SameBut [.fabric] s t) ∧
  (∀ (c : Fin 256) (s : State), s.coreUp c = true → (s.core c).st = .loading → (s.core c).committing = true →
      s.commitBad c = false → s.commitCode c ≠ 0 →
    ∃ t, exec (.coreCommitDone c) s = .next t ∧
      t = s.onCore c (fun x => { x with committing := false, loadError := s.commitCode c }) ∧
      t.core c = { s.core c with committing := false, loadError := s.commitCode c } ∧
      (∀ d, d ≠ c.val → t.core d = s.core d) ∧ SameBut [.fabric] s t) ∧
  (∀ (c : Fin 256) (s : State), s.coreUp c = true → (s.core c).st = .loading → (s.core c).committing = true →
      s.commitBad c = true →
    ∃ t, exec (.coreCommitDone c) s = .next t ∧ t = s.coreFault c ∧ (t.core c).st = .fault ∧
      (∀ d, d ≠ c.val → t.core d = s.core d) ∧ SameBut [.comm, .oap, .nvm, .fabric, .out] s t) ∧
  (∀ (c : Fin 256) (s : State), s.coreUp c = true → (s.core c).st = .loading ∨ (s.core c).st = .loaded → 
    ∃ t, exec (.coreDisable c) s = .next t ∧
      t = s.onCore c (fun x => { x with st := .disabled, committing := false }) ∧ (t.core c).st = .disabled ∧
      (∀ d, d ≠ c.val → t.core d = s.core d) ∧ SameBut [.fabric] s t) ∧
  (∀ (t : Fin 4) (val : BitVec 32) (s : State), s.tileUp t = true → s.anyRunning = false → 1 ≤ bits val.toNat 0 4 →
      bits val.toNat 0 4 ≤ 8 →
    exec (.voiceRankCountWrite t val) s = .next { s with fabric := { s.fabric with rankCount := bits val.toNat 0 4 } }) ∧
  (∀ (c : Fin 256) (f : Flit) (rest : List Flit) (s : State), s.beat.hardHalt = false →
      (s.core c).inbox = f :: rest → (s.core c).st = .fault →
    ∃ t, exec (.coreEventAccept c) s = .next t ∧
      t = ((s.onCore c (fun x => { x with inbox := rest })).onFabric (fun x => { x with
        creditsBack := tabMod 0 x.creditsBack (credKey c 0 (b2n f.vn1)) (· + 1) })).ledger f.target 2 1 ∧
      (t.core c).inbox = rest ∧
      tabGet 0 t.fabric.creditsBack (credKey c 0 (b2n f.vn1)) =
        tabGet 0 s.fabric.creditsBack (credKey c 0 (b2n f.vn1)) + 1 ∧
      tabGet 0 t.fabric.ledger (f.target % 16 * 4 + 2) = tabGet 0 s.fabric.ledger (f.target % 16 * 4 + 2) + 1 ∧
      (∀ d, d ≠ c.val → t.core d = s.core d) ∧ SameBut [.fabric] s t) ∧
  (∀ (c : Fin 256) (f : Flit) (rest : List Flit) (s : State), s.beat.hardHalt = false →
      (s.core c).inbox = f :: rest → (s.core c).st ≠ .fault → s.eventTaps c f.pkt.key.toNat = none →
    ∃ t, exec (.coreEventAccept c) s = .next t ∧
      t = (((((s.onCore c (fun x => { x with inbox := rest })).onFabric (fun x => { x with
        creditsBack := tabMod 0 x.creditsBack (credKey c 0 (b2n f.vn1)) (· + 1) })).count (coreIdx c) 2 1).count (coreIdx c) 6 1).count 0x4000 5 1).ledger f.target 3 1 ∧
      (t.core c).inbox = rest ∧
      tabGet 0 t.fabric.creditsBack (credKey c 0 (b2n f.vn1)) =
        tabGet 0 s.fabric.creditsBack (credKey c 0 (b2n f.vn1)) + 1 ∧
      t.ent 0x4000 5 = satAdd max32 (s.ent 0x4000 5) 1 ∧
      tabGet 0 t.fabric.ledger (f.target % 16 * 4 + 3) = tabGet 0 s.fabric.ledger (f.target % 16 * 4 + 3) + 1 ∧
      (∀ d, d ≠ c.val → t.core d = s.core d) ∧ SameBut [.fabric, .od] s t) ∧
  (∀ (c : Fin 256) (f : Flit) (rest : List Flit) (taps : List (Nat × Nat × Nat)) (s : State),
      s.beat.hardHalt = false → (s.core c).inbox = f :: rest → (s.core c).st ≠ .fault → (s.core c).st ≠ .running →
      s.eventTaps c f.pkt.key.toNat = some taps →
    ∃ t, exec (.coreEventAccept c) s = .next t ∧
      t = (((s.onCore c (fun x => { x with inbox := rest })).onFabric (fun x => { x with
        creditsBack := tabMod 0 x.creditsBack (credKey c 0 (b2n f.vn1)) (· + 1) })).count (coreIdx c) 2 1).ledger f.target 1 1 ∧
      (t.core c).inbox = rest ∧
      tabGet 0 t.fabric.creditsBack (credKey c 0 (b2n f.vn1)) =
        tabGet 0 s.fabric.creditsBack (credKey c 0 (b2n f.vn1)) + 1 ∧
      tabGet 0 t.fabric.ledger (f.target % 16 * 4 + 1) = tabGet 0 s.fabric.ledger (f.target % 16 * 4 + 1) + 1 ∧
      (∀ d, d ≠ c.val → t.core d = s.core d) ∧ SameBut [.fabric, .od] s t) ∧
  (∀ (c : Fin 256) (f : Flit) (rest : List Flit) (s : State), s.beat.hardHalt = false →
      (s.core c).inbox = f :: rest → (s.core c).st = .running →
    ∃ t, exec (.coreEventAccept c) s = .next t ∧
      t = ((s.onCore c (fun x => { x with inbox := rest })).onFabric (fun x => { x with
        creditsBack := tabMod 0 x.creditsBack (credKey c 0 (b2n f.vn1)) (· + 1) })).acceptEvent c f ∧
      SameBut [.comm, .oap, .nvm, .fabric, .od, .mem, .out] s t) ∧
  (∀ (c : Fin 256) (f : Flit) (rest : List Flit) (s : State), s.beat.hardHalt = false →
      (s.core c).outbox = f :: rest → s.flitShed f = false → s.credit (credKey c 5 0) ≠ 0 →
    ∃ t, exec (.coreFanoutSend c) s = .next t ∧
      t = (((s.onCore c (fun x => { x with outbox := rest })).ledger f.target 0 1).useCredit (credKey c 5 0)).sendTo c .core f ∧
      (t.core c).outbox = rest ∧ t.credit (credKey c 5 0) + 1 = s.credit (credKey c 5 0) ∧
      tabGet [] t.fabric.onLink (linkInKey c .core f.vn1) =
        tabGet [] s.fabric.onLink (linkInKey c .core f.vn1) ++ [f] ∧
      (∀ d, d ≠ c.val → t.core d = s.core d) ∧ SameBut [.fabric] s t) ∧
  (∀ (c : Fin 256) (f : Flit) (rest : List Flit) (s : State), s.beat.hardHalt = false →
      (s.core c).outbox = f :: rest → s.flitShed f = true →
    ∃ t, exec (.coreFanoutSend c) s = .next t ∧
      t = ((s.onCore c (fun x => { x with outbox := rest })).ledger f.target 0 1).discard f ∧
      SameBut [.beat, .comm, .oap, .nvm, .fabric, .power, .od, .out] s t)

/-- Routers route, grant, escape and count credits: while the package is not hard-halted: a packet of a reserved type is
discarded as unrouted; one on VN1 that does not end here waits for the output its destination gives; one whose key
meets no route is discarded, counted and unrouted; an output with nothing to grant does nothing; a grant of LOCAL puts
the packet at the core's input for one credit, a grant of an edge takes no credit; a copy that asked for an output
other than LOCAL escapes to VN1, counted; a boosted copy is marked; a returned credit raises the sender's count, and
one too many, or a quiet direction that does not read 8, sets it to 8, counts a fault and is recorded. Completes:
ROUTER_FLIT_ARRIVE (R227, R228), OUTPUT_GRANT (R236, R237), VN0_ESCAPE (R234), VN0_AGE_BOOST (R237), CREDIT_RETURN,
CREDIT_QUIET_CHECK (R239, R240) -/
def Obligations.RoutersMovePackets : Prop :=
  (∀ (r : Fin 256) (i : Inp) (vn : Bool) (f : Flit) (rest : List Flit) (s : State), s.beat.hardHalt = false →
      tabGet [] s.fabric.onLink (linkInKey r i vn) = f :: rest → f.pkt.type ≠ 0 → f.pkt.type ≠ 1 →
    ∃ t, exec (.routerFlitArrive r i vn) s = .next t ∧
      t = (s.onFabric (fun x => { x with onLink := tabPut [] x.onLink (linkInKey r i vn) rest })).arrive r i f ∧
      tabGet [] t.fabric.onLink (linkInKey r i vn) = rest ∧ t.fabric.routers = s.fabric.routers ∧
      tabGet 0 t.fabric.ledger (f.target % 16 * 4 + 3) = tabGet 0 s.fabric.ledger (f.target % 16 * 4 + 3) + 1 ∧
      SameBut [.fabric] s t) ∧
  (∀ (r : Fin 256) (i : Inp) (vn : Bool) (f : Flit) (rest : List Flit) (s : State), s.beat.hardHalt = false →
      tabGet [] s.fabric.onLink (linkInKey r i vn) = f :: rest → f.pkt.type = 0 → f.vn1 = true →
      s.flitShed f = false → s.vn1Ends r f.dest = false →
    ∃ t, exec (.routerFlitArrive r i vn) s = .next t ∧
      t = (s.onFabric (fun x => { x with onLink := tabPut [] x.onLink (linkInKey r i vn) rest })).arrive r i f ∧
      tabGet [] t.fabric.onLink (linkInKey r i vn) = rest ∧
      (t.router r).copies = (s.router r).copies ++
        [{ flit := f, inp := i, out := vn1Out r f.dest, slot := some (2 * (s.router r).nextSlot + 1) }] ∧
      (∀ q, q ≠ r.val → t.router q = s.router q) ∧ SameBut [.fabric] s t) ∧
  (∀ (r : Fin 256) (i : Inp) (vn : Bool) (f : Flit) (rest : List Flit) (s : State), s.beat.hardHalt = false →
      tabGet [] s.fabric.onLink (linkInKey r i vn) = f :: rest → f.pkt.type = 0 → f.vn1 = false →
      s.fabric.shedFrom = none → s.lookup r f.pkt.key = none → tabGet 0 s.fabric.defaultRoute r = 0 →
    ∃ t, exec (.routerFlitArrive r i vn) s = .next t ∧
      t = (s.onFabric (fun x => { x with onLink := tabPut [] x.onLink (linkInKey r i vn) rest })).arrive r i f ∧
      t.fabric.routers = s.fabric.routers ∧ t.ent 0x4200 0x0A = satAdd max32 (s.ent 0x4200 0x0A) 1 ∧
      tabGet 0 t.fabric.ledger (f.target % 16 * 4 + 3) = tabGet 0 s.fabric.ledger (f.target % 16 * 4 + 3) + 1 ∧
      SameBut [.fabric, .od] s t) ∧
  (∀ (r : Fin 256) (o : Dir) (s : State), s.beat.hardHalt = false → s.arbitrate r o = none →
      s.isGateway r o = false →
    exec (.outputGrant r o) s = .next (s)) ∧
  (∀ (r : Fin 256) (k : RCopy) (b : Bool) (s : State), s.beat.hardHalt = false → s.arbitrate r .loc = some (k, b) →
      s.credit (credKey r 0 (b2n k.flit.vn1)) ≠ 0 →
    ∃ t, exec (.outputGrant r .loc) s = .next t ∧ t = s.grant r .loc ∧
      (t.core r).inbox = (s.core r).inbox ++ [k.flit] ∧
      t.credit (credKey r 0 (b2n k.flit.vn1)) + 1 = s.credit (credKey r 0 (b2n k.flit.vn1)) ∧
      (∀ q, q ≠ r.val → t.router q = s.router q) ∧ SameBut [.fabric] s t) ∧
  (∀ (r : Fin 256) (o : Dir) (s : State), s.beat.hardHalt = false → s.isGateway r o = false → 
    ∃ t, exec (.outputGrant r o) s = .next t ∧ t = s.grant r o ∧ SameBut [.fabric, .choir, .od, .out] s t) ∧
  (∀ (r : Fin 256) (o : Dir) (s : State), s.beat.hardHalt = false → s.isGateway r o = true → 
    ∃ t, exec (.outputGrant r o) s = .next t ∧ t = (s.grant r o).gatewayStep s.fabric.exports.length ∧
      SameBut [.fabric, .choir, .od, .out] s t) ∧
  (∀ (r : Fin 256) (o : Dir) (i : Inp) (n : Nat) (k : RCopy) (s : State), s.beat.hardHalt = false → o ≠ .loc →
      findAt ((s.router r).asks o i) (s.router r).copies = some (n, k) →
    ∃ t, exec (.vn0Escape r o i) s = .next t ∧ t = s.escape r o i ∧ t.ent 0x4200 7 = satAdd max32 (s.ent 0x4200 7) 1 ∧
      (∀ q, q ≠ r.val → t.router q = s.router q) ∧ SameBut [.fabric, .od] s t) ∧
  (∀ (r : Fin 256) (o : Dir) (i : Inp) (s : State), s.beat.hardHalt = false → 
    ∃ t, exec (.vn0AgeBoost r o i) s = .next t ∧
      t = s.onRouter r (fun x => { x with
        copies := modFirst (fun c => x.asks o i c && !c.boosted) (fun c => { c with boosted := true }) x.copies }) ∧
      (t.router r).copies =
        modFirst (fun c => (s.router r).asks o i c && !c.boosted) (fun c => { c with boosted := true }) (s.router r).copies ∧
      (∀ q, q ≠ r.val → t.router q = s.router q) ∧ SameBut [.fabric] s t) ∧
  (∀ (r : Fin 256) (o : LinkDir) (vn : Bool) (s : State), s.linkThere r o = true →
      s.credit (credKey r (linkNo o) (b2n vn)) ≠ 8 →
      tabGet 0 s.fabric.creditsBack (credKey r (linkNo o) (b2n vn)) ≠ 0 →
    ∃ t, exec (.creditReturn r o vn) s = .next t ∧
      t = ((s.onFabric (fun f => { f with
        creditsBack := tabPut 0 f.creditsBack (credKey r (linkNo o) (b2n vn)) (tabGet 0 s.fabric.creditsBack (credKey r (linkNo o) (b2n vn)) - 1) })).onFabric (fun f => { f with
        credits := tabMod 8 f.credits (credKey r (linkNo o) (b2n vn)) (· + 1) })).settle r ∧
      t.credit (credKey r (linkNo o) (b2n vn)) = s.credit (credKey r (linkNo o) (b2n vn)) + 1 ∧
      (∀ q, q ≠ r.val → t.router q = s.router q) ∧ SameBut [.fabric] s t) ∧
  (∀ (r : Fin 256) (o : LinkDir) (vn : Bool) (s : State), s.linkThere r o = true →
      s.credit (credKey r (linkNo o) (b2n vn)) = 8 →
    ∃ t, exec (.creditReturn r o vn) s = .next t ∧
      t = (s.onFabric (fun f => { f with
        creditsBack := tabPut 0 f.creditsBack (credKey r (linkNo o) (b2n vn)) (tabGet 0 s.fabric.creditsBack (credKey r (linkNo o) (b2n vn)) - 1) })).creditFault r (linkNo o) (b2n vn) 9 ∧
      t.credit (credKey r (linkNo o) (b2n vn)) = 8 ∧ t.ent 0x4200 0x0B = satAdd max32 (s.ent 0x4200 0x0B) 1 ∧
      (∀ q, q ≠ r.val → t.router q = s.router q) ∧ SameBut [.nvm, .fabric, .od] s t) ∧
  (∀ (r : Fin 256) (o : LinkDir) (vn : Bool) (s : State), s.linkThere r o = true → s.linkQuiet r o vn = true →
      s.credit (credKey r (linkNo o) (b2n vn)) ≠ 8 →
    ∃ t, exec (.creditQuietCheck r o vn) s = .next t ∧
      t = s.creditFault r (linkNo o) (b2n vn) (s.credit (credKey r (linkNo o) (b2n vn))) ∧
      t.credit (credKey r (linkNo o) (b2n vn)) = 8 ∧ t.ent 0x4200 0x0B = satAdd max32 (s.ent 0x4200 0x0B) 1 ∧
      (∀ q, q ≠ r.val → t.router q = s.router q) ∧ SameBut [.nvm, .fabric, .od] s t)

/-- Routing table items are written and read: on a tile that is up and of which no core runs, a write of TABLE_DATA3 with
an entry in order stores that entry and moves INDEX on by one; one out of order sets the REFUSED bit and stores
nothing, and with a running core the RUNNING bit; a read answers the last word of the selected item and moves INDEX
on; a tile that is not up reads 0. Completes: TABLE_ITEM_WRITE, TABLE_ITEM_READ (R229, R248) -/
def Obligations.RoutingTablesAreLoaded : Prop :=
  (∀ (t : Fin 4) (v : BitVec 32) (s : State) (r i : Nat), s.tileUp t = true → s.tabSelect t = (r, 0, i) → s.tileRunning t = false →
      i < 1024 → entryBad (s.reg (0x20 + t) 0x1C) v.toNat = false →
    ∃ u, exec (.tableItemWrite t v) s = .next u ∧
      u.rEntry r i = { value := BitVec.ofNat 32 (s.reg (0x20 + t) 0x14), mask := BitVec.ofNat 32 (s.reg (0x20 + t) 0x18),
                       route := BitVec.ofNat 8 (s.reg (0x20 + t) 0x1C), priority := BitVec.ofNat 8 (s.reg (0x20 + t) 0x1C / 256),
                       leafBase := bits (s.reg (0x20 + t) 0x1C) 16 16, leafCount := bits v.toNat 0 16 } ∧
      bits (u.reg (0x20 + t) 0x10) 0 11 = (i + 1) % 2048 ∧ SameBut [.fabric, .regs] s u) ∧
  (∀ (t : Fin 4) (v : BitVec 32) (s : State) (r i : Nat), s.tileUp t = true → s.tabSelect t = (r, 0, i) → s.tileRunning t = false →
      entryBad (s.reg (0x20 + t) 0x1C) v.toNat = true →
    exec (.tableItemWrite t v) s = .next (s.tabStatus t 2)) ∧
  (∀ (t : Fin 4) (v : BitVec 32) (s : State), s.tileUp t = true → s.tileRunning t = true →
    exec (.tableItemWrite t v) s = .next (s.tabStatus t 1)) ∧
  (∀ (t : Fin 4) (s : State), s.tileUp t = true →
    ∃ u, exec (.tableItemRead t) s = .next u ∧
      u.out = .read (0x20 + t) (s.tabItem t (if (s.tabSelect t).2.1 = 0 then 3 else 0)) :: s.out ∧ SameBut [.regs, .out] s u) ∧
  (∀ (t : Fin 4) (s : State), s.tileUp t = false →
    exec (.tableItemRead t) s = .next { s with out := .read (0x20 + t) 0 :: s.out })

/-- Tasks are submitted, dispatched, cancelled, completed and posted: a submission whose descriptor is readable and in
order takes its FREE slot, READY without dependencies and WAITING with them; into a slot that is not FREE it is
refused with cause 1; a free unit runs the oldest READY task from now on from its first command; cancelling a live
task, the end of its commands and END leave it not live; cancelling another sets the missed flag; an ended task
without an item to post leaves its slot FREE, one with an item posts it when it is the first of its tile's and there
is room; the template of every tile is instantiated once for the beat whose press stage runs; VERDICT_QUEUE takes the
oldest verdict that waits. Completes: TASK_SUBMIT (R263), TASK_DISPATCH (R265), TASK_CANCEL, TASK_COMPLETE, PRESS_END
(R266, R267), TASK_COMPLETION_POST (R268, R302), TEMPLATE_INSTANTIATE (R269), VERDICT_QUEUE_WRITE (R285) -/
def Obligations.PressTasks : Prop :=
  (∀ (t : Fin 4) (d : TaskDesc) (addr : Nat) (b : List Byte) (s : State), s.tileUp t = true →
      addr = s.reg (0x10 + t) 0x10 + 2 ^ 32 * s.reg (0x10 + t) 0x14 → s.isLocal addr = true ∨ packageOf addr = 0 →
      s.ncReadFail .press (offsetOf addr) 32 = none → b = s.bytesAt (offsetOf addr) 32 → d = parseDesc b →
      (s.task (t * 1024 + d.taskId)).st = .free → tabGet 0 s.press.templateCount t ≤ d.taskId → descOk t b = true →
    ∃ u, exec (.taskSubmit t) s = .next u ∧
      (u.task (t * 1024 + d.taskId)).st = (if d.depCount = 0 then .ready else .waiting) ∧
      (u.task (t * 1024 + d.taskId)).desc = d ∧ (u.task (t * 1024 + d.taskId)).dep = d.depCount ∧
      tabGet false u.press.refused t = false ∧ (∀ j, j ≠ t * 1024 + d.taskId → u.task j = s.task j) ∧ SameBut [.press] s u) ∧
  (∀ (t : Fin 4) (d : TaskDesc) (addr : Nat) (b : List Byte) (s : State), s.tileUp t = true →
      addr = s.reg (0x10 + t) 0x10 + 2 ^ 32 * s.reg (0x10 + t) 0x14 → s.isLocal addr = true ∨ packageOf addr = 0 →
      s.ncReadFail .press (offsetOf addr) 32 = none → b = s.bytesAt (offsetOf addr) 32 → d = parseDesc b →
      (s.task (t * 1024 + d.taskId)).st ≠ .free →
    ∃ u, exec (.taskSubmit t) s = .next u ∧ u = s.submitRefuse t 1 ∧ tabGet false u.press.refused t = true ∧
      tabGet 0 u.press.refuseCause t = 1 ∧ u.press.tasks = s.press.tasks ∧ SameBut [.press] s u) ∧
  (∀ (t : Fin 4) (slot : Fin 1024) (k : Nat) (s : State), k = t.val * 1024 + slot.val → s.tileUp t = true → (s.task k).st.live = true →
    ∃ u, exec (.taskCancel t slot) s = .next u ∧ u = s.finish k .cancelled 1 ∧ (u.task k).st.live = false ∧ SameBut [.beat, .press, .power, .od] s u) ∧
  (∀ (t : Fin 4) (slot : Fin 1024) (k : Nat) (s : State), k = t.val * 1024 + slot.val → s.tileUp t = true → (s.task k).st.live = false →
    ∃ u, exec (.taskCancel t slot) s = .next u ∧ tabGet false u.press.cancelMissed t = true ∧ u.press.tasks = s.press.tasks ∧
      SameBut [.press] s u) ∧
  (∀ (t : Fin 4) (v : Unit3) (k : Nat) (s : State), unitOf t v ≠ 8 ∨ t = 0 → s.unitFree (unitOf t v) = true →
      s.nextTask (unitOf t v) = some k →
    ∃ u, exec (.taskDispatch t v) s = .next u ∧ u.task k = { s.task k with st := .running, startedAt := s.now, pc := 0 } ∧
      u.runs (unitOf t v) = some k ∧ (∀ j, j ≠ k → u.task j = s.task j) ∧ SameBut [.press] s u) ∧
  (∀ (t : Fin 4) (v : Unit3) (k : Nat) (s : State), s.beat.hardHalt = false → unitOf t v ≠ 8 ∨ t = 0 → s.runs (unitOf t v) = some k →
      (s.task k).desc.count ≤ (s.task k).pc → (s.task k).st.live = true →
    ∃ u, exec (.taskComplete t v) s = .next u ∧ u = s.finish k .done 0 ∧ (u.task k).st.live = false ∧ SameBut [.beat, .press, .power, .od] s u) ∧
  (∀ (e : Fin 8) (k : Nat) (c : PCmd) (s : State), s.beat.hardHalt = false → s.runs e = some k →
      (s.task k).pc < (s.task k).desc.count → s.dueCmd k = .inr c → c.op = 0 → c.bareOk = true → (s.task k).st.live = true →
    ∃ u, exec (.pressEnd e) s = .next u ∧ u = s.finish k .done 0 ∧ (u.task k).st.live = false ∧ SameBut [.beat, .press, .power, .od] s u) ∧
  (∀ (e : Fin 8) (k : Nat) (c : PCmd) (s : State), s.beat.hardHalt = false → s.runs e = some k →
      (s.task k).pc < (s.task k).desc.count → s.dueCmd k = .inr c → c.op = 0 → c.bareOk = false →
    exec (.pressEnd e) s = .next (s.engineStop e k 5 none)) ∧
  (∀ (t : Fin 4) (slot : Fin 1024) (k : Nat) (s : State), k = t.val * 1024 + slot.val → (s.task k).st = .done ∨ (s.task k).st = .cancelled →
      s.mustPost k = false →
    ∃ u, exec (.taskCompletionPost t slot) s = .next u ∧ (u.task k).st = .free ∧ (∀ j, j ≠ k → u.task j = s.task j) ∧ SameBut [.press] s u) ∧
  (∀ (t : Fin 4) (slot : Fin 1024) (k : Nat) (s v : State), k = t.val * 1024 + slot.val → (s.task k).st = .done ∨ (s.task k).st = .cancelled →
      s.mustPost k = true → s.postFirst k = true → s.hwPush (s.ent 0x5000 8) [s.taskItem k] = some v →
    ∃ u, exec (.taskCompletionPost t slot) s = .next u ∧ u = v.onTask k (fun _ => {}) ∧ (u.task k).st = .free ∧ u.queue = v.queue ∧
      SameBut [.nvm, .press, .queue, .od, .mem, .fresh, .out] s u) ∧
  (∀ (t : Fin 4) (slot : Fin 1024) (k : Nat) (s : State), k = t.val * 1024 + slot.val → s.mustPost k = true → s.postFirst k = false →
    exec (.taskCompletionPost t slot) s = .next s) ∧
  (∀ (s : State) (w : BeatWork), s.beat.hardHalt = false → s.pressRunning = some w → w.instantiated = false → w.captured = true →
      s.templateFree = true →
    ∃ u, exec .templateInstantiate s = .next u ∧ u = s.instantiate w.beat ∧
      u.beat.work = modFirst (fun x => decide (x.beat = w.beat)) (fun x => { x with instantiated := true }) s.beat.work ∧
      SameBut [.beat, .press] s u) ∧
  (∀ (s u : State) (l : List Byte) (rest : List (List Byte)), s.press.verdictQ = l :: rest → s.ent 0x5200 3 ≠ 0xFF →
      s.hwPush (s.ent 0x5200 3) (itemsOf 4 l) = some u →
    ∃ t, exec .verdictQueueWrite s = .next t ∧ t.press = { s.press with verdictQ := rest } ∧ t.queue = u.queue ∧
      SameBut [.nvm, .press, .queue, .od, .mem, .fresh, .out] s t)

/-- A press engine computes its command's bytes, writes them and goes on: an engine whose next command is fetched and in
order and meets no failure writes what the command computes at its destination and its task goes on by one command;
MATMUL, CONV, ADD, MAXPOOL, LUT and COPY; a failing access or a malformed command ends the task instead, and a fault
of the engine's own datapath takes the engine offline; a hard-halted package runs no command. Completes: MATMUL, CONV,
ADD, MAXPOOL, LUT, COPY (R258, R259) when the command is fetched and every access is allowed (R256) -/
def Obligations.PressCommands : Prop :=
  (∀ (e : Fin 8) (k : Nat) (c : PCmd) (s : State), s.fetchCmd e 1 false = .inr (k, c) →
      s.engineFails (c.accesses (tensorBytes c.inT (c.m * c.k)) (tensorBytes c.inT (c.k * c.n)) (tensorBytes c.outT (c.m * c.n))) = none →
    ∃ t, exec (.matmul e false) s = .next t ∧ t = (s.ncWrite c.dst (s.matmulOut c)).nextCmd k ∧
      t.mem = (s.ncWrite c.dst (s.matmulOut c)).mem ∧ t.task k = { s.task k with pc := (s.task k).pc + 1 } ∧
      (∀ j, j ≠ k → t.task j = s.task j) ∧ SameBut [.press, .memu, .choir, .mem, .fresh, .out] s t) ∧
  (∀ (e : Fin 8) (k cause : Nat) (c : PCmd) (f : NcFail) (s : State), s.fetchCmd e 1 false = .inr (k, c) →
      s.engineFails (c.accesses (tensorBytes c.inT (c.m * c.k)) (tensorBytes c.inT (c.k * c.n)) (tensorBytes c.outT (c.m * c.n))) = some (cause, f) →
    exec (.matmul e false) s = .next (s.engineStop e k cause (some f))) ∧
  (∀ (e : Fin 8) (k : Nat) (c : PCmd) (s : State), s.fetchCmd e 2 false = .inr (k, c) →
      s.engineFails (c.accesses (tensorBytes c.inT (c.h * c.m * c.k)) (tensorBytes c.inT (c.shape.1 * c.shape.1 * c.k * c.n))
        (tensorBytes c.outT (c.shape.2.2.2.1 * c.shape.2.2.2.2 * c.n))) = none →
    ∃ t, exec (.conv e false) s = .next t ∧ t = (s.ncWrite c.dst (s.convOut c)).nextCmd k ∧
      t.mem = (s.ncWrite c.dst (s.convOut c)).mem ∧ t.task k = { s.task k with pc := (s.task k).pc + 1 } ∧
      (∀ j, j ≠ k → t.task j = s.task j) ∧ SameBut [.press, .memu, .choir, .mem, .fresh, .out] s t) ∧
  (∀ (e : Fin 8) (k cause : Nat) (c : PCmd) (f : NcFail) (s : State), s.fetchCmd e 2 false = .inr (k, c) →
      s.engineFails (c.accesses (tensorBytes c.inT (c.h * c.m * c.k)) (tensorBytes c.inT (c.shape.1 * c.shape.1 * c.k * c.n))
        (tensorBytes c.outT (c.shape.2.2.2.1 * c.shape.2.2.2.2 * c.n))) = some (cause, f) →
    exec (.conv e false) s = .next (s.engineStop e k cause (some f))) ∧
  (∀ (e : Fin 8) (k : Nat) (c : PCmd) (s : State), s.fetchCmd e 3 false = .inr (k, c) →
      s.engineFails (c.accesses (tensorBytes c.inT (c.m * c.n)) (tensorBytes c.inT (c.m * c.n)) (tensorBytes c.outT (c.m * c.n))) = none →
    ∃ t, exec (.pressAdd e false) s = .next t ∧ t = (s.ncWrite c.dst (s.addOut c)).nextCmd k ∧
      t.mem = (s.ncWrite c.dst (s.addOut c)).mem ∧ t.task k = { s.task k with pc := (s.task k).pc + 1 } ∧
      (∀ j, j ≠ k → t.task j = s.task j) ∧ SameBut [.press, .memu, .choir, .mem, .fresh, .out] s t) ∧
  (∀ (e : Fin 8) (k cause : Nat) (c : PCmd) (f : NcFail) (s : State), s.fetchCmd e 3 false = .inr (k, c) →
      s.engineFails (c.accesses (tensorBytes c.inT (c.m * c.n)) (tensorBytes c.inT (c.m * c.n)) (tensorBytes c.outT (c.m * c.n))) = some (cause, f) →
    exec (.pressAdd e false) s = .next (s.engineStop e k cause (some f))) ∧
  (∀ (e : Fin 8) (k : Nat) (c : PCmd) (s : State), s.fetchCmd e 4 false = .inr (k, c) →
      s.engineFails (c.accesses (tensorBytes c.inT (c.h * c.m * c.k)) 0 (tensorBytes c.outT (c.shape.2.2.2.1 * c.shape.2.2.2.2 * c.k))) = none →
    ∃ t, exec (.maxpool e false) s = .next t ∧ t = (s.ncWrite c.dst (s.maxpoolOut c)).nextCmd k ∧
      t.mem = (s.ncWrite c.dst (s.maxpoolOut c)).mem ∧ t.task k = { s.task k with pc := (s.task k).pc + 1 } ∧
      (∀ j, j ≠ k → t.task j = s.task j) ∧ SameBut [.press, .memu, .choir, .mem, .fresh, .out] s t) ∧
  (∀ (e : Fin 8) (k cause : Nat) (c : PCmd) (f : NcFail) (s : State), s.fetchCmd e 4 false = .inr (k, c) →
      s.engineFails (c.accesses (tensorBytes c.inT (c.h * c.m * c.k)) 0 (tensorBytes c.outT (c.shape.2.2.2.1 * c.shape.2.2.2.2 * c.k))) = some (cause, f) →
    exec (.maxpool e false) s = .next (s.engineStop e k cause (some f))) ∧
  (∀ (e : Fin 8) (k : Nat) (c : PCmd) (s : State), s.fetchCmd e 5 false = .inr (k, c) →
      s.engineFails ([(c.a, c.m * c.n, false), (c.b, 256, false), (c.dst, c.m * c.n, true)]) = none →
    ∃ t, exec (.lut e false) s = .next t ∧
      t = (s.ncWrite c.dst ((s.bytesAt c.a (c.m * c.n)).map (fun x => s.byteAt (c.b + x.toNat)))).nextCmd k ∧
      t.mem = (s.ncWrite c.dst ((s.bytesAt c.a (c.m * c.n)).map (fun x => s.byteAt (c.b + x.toNat)))).mem ∧
      t.task k = { s.task k with pc := (s.task k).pc + 1 } ∧ (∀ j, j ≠ k → t.task j = s.task j) ∧
      SameBut [.press, .memu, .choir, .mem, .fresh, .out] s t) ∧
  (∀ (e : Fin 8) (k cause : Nat) (c : PCmd) (f : NcFail) (s : State), s.fetchCmd e 5 false = .inr (k, c) →
      s.engineFails ([(c.a, c.m * c.n, false), (c.b, 256, false), (c.dst, c.m * c.n, true)]) = some (cause, f) →
    exec (.lut e false) s = .next (s.engineStop e k cause (some f))) ∧
  (∀ (e : Fin 8) (k : Nat) (c : PCmd) (s : State), s.fetchCmd e 6 false = .inr (k, c) →
      s.engineFails ([(c.a, c.m * c.n, false), (c.dst, c.m * c.n, true)]) = none →
    ∃ t, exec (.copy e false) s = .next t ∧ t = (s.ncWrite c.dst (s.bytesAt c.a (c.m * c.n))).nextCmd k ∧
      t.mem = (s.ncWrite c.dst (s.bytesAt c.a (c.m * c.n))).mem ∧ t.task k = { s.task k with pc := (s.task k).pc + 1 } ∧
      (∀ j, j ≠ k → t.task j = s.task j) ∧ SameBut [.press, .memu, .choir, .mem, .fresh, .out] s t) ∧
  (∀ (e : Fin 8) (k cause : Nat) (c : PCmd) (f : NcFail) (s : State), s.fetchCmd e 6 false = .inr (k, c) →
      s.engineFails ([(c.a, c.m * c.n, false), (c.dst, c.m * c.n, true)]) = some (cause, f) →
    exec (.copy e false) s = .next (s.engineStop e k cause (some f))) ∧
  (∀ (e : Fin 8) (k : Nat) (c : PCmd) (s : State), s.beat.hardHalt = false → s.runs e = some k →
      (s.task k).pc < (s.task k).desc.count → s.dueCmd k = .inr c → 8 < c.op →
    exec (.matmul e false) s = .next (s.engineStop e k 5 none) ∧
    exec (.conv e false) s = .next (s.engineStop e k 5 none) ∧
    exec (.pressAdd e false) s = .next (s.engineStop e k 5 none) ∧
    exec (.maxpool e false) s = .next (s.engineStop e k 5 none) ∧
    exec (.lut e false) s = .next (s.engineStop e k 5 none) ∧
    exec (.copy e false) s = .next (s.engineStop e k 5 none) ∧
    exec (.frameLoad e false) s = .next (s.engineStop e k 5 none) ∧
    exec (.slateCommit e false) s = .next (s.engineStop e k 5 none)) ∧
  (∀ (e : Fin 8) (k : Nat) (s : State), s.beat.hardHalt = false → s.runs e = some k → (s.task k).pc < (s.task k).desc.count →
    exec (.matmul e true) s = .next (s.engineFault e k) ∧
    exec (.conv e true) s = .next (s.engineFault e k) ∧
    exec (.pressAdd e true) s = .next (s.engineFault e k) ∧
    exec (.maxpool e true) s = .next (s.engineFault e k) ∧
    exec (.lut e true) s = .next (s.engineFault e k) ∧
    exec (.copy e true) s = .next (s.engineFault e k) ∧
    exec (.frameLoad e true) s = .next (s.engineFault e k) ∧
    exec (.slateCommit e true) s = .next (s.engineFault e k)) ∧
  (∀ (e : Fin 8) (k : Nat) (s : State), tabGet false (s.engineFault e k).press.offline e = true) ∧
  (∀ (e : Fin 8) (b : Bool) (s : State), s.beat.hardHalt = true →
    exec (.matmul e b) s = .next s ∧ exec (.conv e b) s = .next s ∧ exec (.pressAdd e b) s = .next s
    ∧ exec (.maxpool e b) s = .next s ∧ exec (.lut e b) s = .next s ∧ exec (.copy e b) s = .next s
    ∧ exec (.frameLoad e b) s = .next s ∧ exec (.slateCommit e b) s = .next s)

/-- Frames are loaded, slates committed, and the Blend unit gathers and finalises: FRAME_LOAD writes the frame it selects
and stamps the task with its time, or marks the input invalid where there is none; SLATE_COMMIT commits the source's
bytes with the task's time and validity; GATHER writes grid and side vector of the beat and keeps what it found;
FINALISE assembles the verdict of the beat; each goes on by one command; a weight sample in order takes effect and
counts, one with a reserved bit or the excluded weight is refused. Completes: FRAME_LOAD, SLATE_COMMIT (R259, R260),
GATHER (R273, R275), FINALISE (R277), WEIGHT_SAMPLE_WRITE (R281) -/
def Obligations.FramesSlatesAndVerdicts : Prop :=
  (∀ (e : Fin 8) (k : Nat) (c : PCmd) (f : Frame) (s : State), s.fetchCmd e 7 false = .inr (k, c) →
      s.loadShapeOk c = true → s.loadFrame c.param (s.task k).beat = some f →
      s.engineFails [(c.dst, c.m * c.h * c.n, true)] = none →
    ∃ t, exec (.frameLoad e false) s = .next t ∧
      t = ((s.ncWrite c.dst (if s.headType c.param = 3 then spectralPlane f else framePlanes f c.m c.h c.n)).onTask k
        (fun x => { x with inputTime := some f.time })).nextCmd k ∧
      (t.task k).inputTime = some f.time ∧ (t.task k).pc = (s.task k).pc + 1 ∧ (∀ j, j ≠ k → t.task j = s.task j) ∧
      SameBut [.press, .memu, .choir, .mem, .fresh, .out] s t) ∧
  (∀ (e : Fin 8) (k : Nat) (c : PCmd) (s : State), s.fetchCmd e 7 false = .inr (k, c) → s.loadShapeOk c = true →
      s.loadFrame c.param (s.task k).beat = none →
    ∃ t, exec (.frameLoad e false) s = .next t ∧
      t = (s.onTask k (fun x => { x with inputInvalid := true })).nextCmd k ∧ (t.task k).inputInvalid = true ∧
      (t.task k).pc = (s.task k).pc + 1 ∧ (∀ j, j ≠ k → t.task j = s.task j) ∧ SameBut [.press] s t) ∧
  (∀ (e : Fin 8) (k : Nat) (c : PCmd) (s : State), s.fetchCmd e 8 false = .inr (k, c) →
      s.engineFails [(c.a, (s.source c.n).slateSize, false)] = none → s.portStreams (s.source c.n) = true →
      (s.source c.n).kind = 2 →
    ∃ t, exec (.slateCommit e false) s = .next t ∧
      t = (s.commitSlate c.n ((s.task k).inputTime.getD s.now) (!(s.task k).inputInvalid)
        (s.bytesAt c.a (s.source c.n).slateSize) 0).nextCmd k ∧
      (t.task k).pc = (s.task k).pc + 1 ∧ (t.source c.n).latest = some (!((s.source c.n).latest.getD true)) ∧
      (t.source c.n).buf (!((s.source c.n).latest.getD true)) =
        { tov := (s.task k).inputTime.getD s.now, valid := !(s.task k).inputInvalid, committed := true, weight := 0 } ∧
      t.mem = (s.ncWrite ((s.source c.n).bufAddr (!((s.source c.n).latest.getD true))) (s.bytesAt c.a (s.source c.n).slateSize)).mem ∧
      SameBut [.press, .memu, .choir, .od, .mem, .fresh, .out] s t) ∧
  (∀ (k : Nat) (s : State), s.blendFetch 0x10 = .inr k → 
    ∃ t, exec .gather s = .next t ∧ t = (s.gatherBeat (s.blendBeat k)).nextCmd k ∧
      t.press.gathered.beat = s.blendBeat k ∧ t.press.gathered.zones = s.zonesAt (s.blendBeat k) ∧
      SameBut [.nvm, .press, .memu, .choir, .od, .mem, .fresh, .out] s t) ∧
  (∀ (k n : Nat) (s : State), s.blendFetch 0x11 = .inr k → (s.task k).beat = some n → 
    ∃ t, exec .finalise s = .next t ∧ t = (s.nextCmd k).onWork n (fun w => { w with verdict := some (s.assemble n) }) ∧
      t.beat.work = modFirst (fun w => decide (w.beat = n)) (fun w => { w with verdict := some (s.assemble n) }) s.beat.work ∧
      (t.task k).pc = (s.task k).pc + 1 ∧ SameBut [.beat, .press] s t) ∧
  (∀ (k : Nat) (s : State), s.blendFetch 0x11 = .inr k → (s.task k).beat = none → 
    exec .finalise s = .next (s.nextCmd k)) ∧
  (∀ (val : BitVec 64) (s : State), s.boot.st = .running → s.comm.nmt ≠ .stopped → s.writeCheck 0x5300 1 val.toNat = 0 →
      (2 ^ 34 ≤ val.toNat ∨ val.toNat % 2 ^ 32 = 0x80000000) →
    exec (.weightSampleWrite val) s = .next { s with out := .status 0x06090030 :: s.out }) ∧
  (∀ (val : BitVec 64) (s : State), s.boot.st = .running → s.comm.nmt ≠ .stopped → s.writeCheck 0x5300 1 val.toNat = 0 →
      val.toNat < 2 ^ 34 → val.toNat % 2 ^ 32 ≠ 0x80000000 → (∀ i, i < 8 → (s.source i).kind ≠ 3) →
    ∃ t, exec (.weightSampleWrite val) s = .next t ∧ t.ent 0x5300 1 = val.toNat ∧
      t.ent 0x5300 2 = satAdd max32 (s.ent 0x5300 2) 1 ∧ t.out = .status 0 :: s.out ∧ SameBut [.od, .wtime, .out] s t) ∧
  (∀ (val : BitVec 64) (s : State), s.boot.st = .running → s.comm.nmt ≠ .stopped → s.writeCheck 0x5300 1 val.toNat = 0 →
      val.toNat < 2 ^ 34 → val.toNat % 2 ^ 32 ≠ 0x80000000 → (∀ i, i < 8 → ((s.source i).kind = 3 ↔ i = 0)) → (s.source 0).port = 0xFF →
    ∃ t, exec (.weightSampleWrite val) s = .next t ∧
      ((t.source 0).buf (!((s.source 0).latest.getD true))) =
        { tov := s.now, valid := !val.toNat.testBit 33, committed := true, weight := BitVec.ofNat 64 val.toNat } ∧
      (t.source 0).latest = some (!((s.source 0).latest.getD true)) ∧ SameBut [.press, .od, .wtime, .out] s t)

/-- A firmware push opens, fills and commits one packet of a queue: GO with FIRST 1 on an open queue with no packet open
reserves the packet's credits and opens it with the staged item, or commits it at once where its length is 1; without
credit it is refused with cause 1, with another packet open with cause 2, on a queue that takes none with cause 3,
with a length or level out of range with cause 4; FIRST 0 appends to the cantor's own packet and commits it with its
last item, which is counted and raises ABOVE at the high watermark; one of another cantor is refused; a returned
credit is a credit again; a packet abandoned for 1000 µs gives its credits back and counts its items. Completes:
PUSH_FIRST, PUSH_APPEND (R299 to R301), QUEUE_CREDIT_RETURN (R303), PACKET_ABANDON (R301) -/
def Obligations.PushesFormPackets : Prop :=
  (∀ (c : Fin 8) (q : Fin 32) (s : State), (s.q q).st = .enabled ∨ (s.q q).st = .flushPending → 1 < s.pushLen c q → s.pushLen c q ≤ 64 →
      s.pushLev c q < (s.q q).levelCount → (s.q q).opened = none → s.pushLen c q ≤ ((s.q q).level (s.pushLev c q)).credits →
    ∃ t, exec (.pushFirst c q) s = .next t ∧ (t.q q).opened = some (c.val, s.pushLev c q, s.pushLen c q, s.now) ∧
      (t.q q).assembly = [tabGet 0 s.queue.pushData (latchKey c q)] ∧
      (t.q q).level (s.pushLev c q) = { (s.q q).level (s.pushLev c q) with
        credits := ((s.q q).level (s.pushLev c q)).credits - s.pushLen c q } ∧ (∀ m, m ≠ s.pushLev c q → (t.q q).level m = (s.q q).level m) ∧
      tabGet 0 t.queue.pushRefused (latchKey c q) = 0 ∧ (∀ r, r ≠ q.val → t.q r = s.q r) ∧ SameBut [.queue] s t) ∧
  (∀ (c : Fin 8) (q : Fin 32) (s : State), (s.q q).st = .enabled ∨ (s.q q).st = .flushPending → s.pushLen c q = 1 →
      s.pushLev c q < (s.q q).levelCount → (s.q q).opened = none → 1 ≤ ((s.q q).level (s.pushLev c q)).credits →
    ∃ t, exec (.pushFirst c q) s = .next t ∧ (t.q q).opened = none ∧
      ((s.q q).spill = false → ((t.q q).level (s.pushLev c q)).pkts = ((s.q q).level (s.pushLev c q)).pkts ++
        [⟨1, 0, [tabGet 0 s.queue.pushData (latchKey c q)]⟩]) ∧
      ((t.q q).level (s.pushLev c q)).credits = ((s.q q).level (s.pushLev c q)).credits - 1 ∧ (∀ m, m ≠ s.pushLev c q → (t.q q).level m = (s.q q).level m) ∧
      t.ent (queueIdx q) 0x11 = satAdd max32 (s.ent (queueIdx q) 0x11) 1 ∧ (∀ r, r ≠ q.val → t.q r = s.q r) ∧ SameBut [.nvm, .queue, .od, .mem, .fresh, .out] s t) ∧
  (∀ (c : Fin 8) (q : Fin 32) (n : Nat) (s : State), s.firstCause c q (s.pushLen c q) (s.pushLev c q) = n → n ≠ 0 →
    ∃ t, exec (.pushFirst c q) s = .next t ∧ tabGet 0 t.queue.pushRefused (latchKey c q) = n ∧ (∀ r, t.q r = s.q r) ∧
      SameBut [.queue] s t) ∧
  (∀ (c q len lev : Nat) (s : State),
    ((s.q q).st = .disabled ∨ (s.q q).st = .disablePending → s.firstCause c q len lev = 3) ∧
    ((s.q q).st = .enabled ∨ (s.q q).st = .flushPending →
      (len = 0 ∨ 64 < len ∨ (s.q q).levelCount ≤ lev → s.firstCause c q len lev = 4) ∧
      (1 ≤ len → len ≤ 64 → lev < (s.q q).levelCount →
        (∀ d l n at', (s.q q).opened = some (d, l, n, at') → d ≠ c → s.firstCause c q len lev = 2) ∧
        ((s.q q).opened = none → ((s.q q).level lev).credits < len → s.firstCause c q len lev = 1) ∧
        ((s.q q).opened = none → len ≤ ((s.q q).level lev).credits → s.firstCause c q len lev = 0)))) ∧
  (∀ (c : Fin 8) (q : Fin 32) (lev len since : Nat) (s : State), (s.q q).st = .enabled ∨ (s.q q).st = .flushPending → (s.q q).opened = some (c.val, lev, len, since) →
      (s.q q).assembly.length + 1 < len →
    ∃ t, exec (.pushAppend c q) s = .next t ∧
      t.q q = { s.q q with assembly := (s.q q).assembly ++ [tabGet 0 s.queue.pushData (latchKey c q)] } ∧
      tabGet 0 t.queue.pushRefused (latchKey c q) = 0 ∧ (∀ r, r ≠ q.val → t.q r = s.q r) ∧ SameBut [.queue] s t) ∧
  (∀ (c : Fin 8) (q : Fin 32) (lev len since : Nat) (s : State), (s.q q).st = .enabled ∨ (s.q q).st = .flushPending → (s.q q).opened = some (c.val, lev, len, since) →
      (s.q q).assembly.length + 1 = len →
    ∃ t, exec (.pushAppend c q) s = .next t ∧ (t.q q).opened = none ∧ (t.q q).assembly = [] ∧
      ((s.q q).spill = false → ((t.q q).level lev).pkts = ((s.q q).level lev).pkts ++
        [⟨len, 0, (s.q q).assembly ++ [tabGet 0 s.queue.pushData (latchKey c q)]⟩]) ∧ (∀ m, m ≠ lev → (t.q q).level m = (s.q q).level m) ∧
      t.ent (queueIdx q) 0x11 = satAdd max32 (s.ent (queueIdx q) 0x11) len ∧
      (lev < 8 → (s.q q).spill = false → (s.q q).above = false → s.qEnt q 8 ≤ (s.q q).fill + len → (t.q q).above = true) ∧ (∀ r, r ≠ q.val → t.q r = s.q r) ∧
      SameBut [.nvm, .queue, .od, .mem, .fresh, .out] s t) ∧
  (∀ (c : Fin 8) (q : Fin 32) (s : State),
    exec (.pushFirst c q) s = .next (s.pushFirst c q) ∧ exec (.pushAppend c q) s = .next (s.pushNext c q)) ∧
  (∀ (c : Fin 8) (q : Fin 32) (d lev len since : Nat) (s : State), (s.q q).st = .enabled ∨ (s.q q).st = .flushPending → (s.q q).opened = some (d, lev, len, since) →
      d ≠ c →
    ∃ t, exec (.pushAppend c q) s = .next t ∧ tabGet 0 t.queue.pushRefused (latchKey c q) = 2 ∧ (∀ r, t.q r = s.q r) ∧
      SameBut [.queue] s t) ∧
  (∀ (q : Fin 32) (l : Fin 8) (s : State), 0 < ((s.q q).level l).returning →
    ∃ t, exec (.queueCreditReturn q l) s = .next t ∧
      (t.q q).level l = { (s.q q).level l with credits := ((s.q q).level l).credits + 1, returning := ((s.q q).level l).returning - 1 } ∧
      (∀ m, m ≠ l.val → (t.q q).level m = (s.q q).level m) ∧ (∀ r, r ≠ q.val → t.q r = s.q r) ∧ SameBut [.queue] s t) ∧
  (∀ (q : Fin 32) (c lev len since : Nat) (s : State), (s.q q).opened = some (c, lev, len, since) →
    ∃ t, exec (.packetAbandon q) s = .next t ∧ t.now = max s.now (since + 1000) ∧ (t.q q).opened = none ∧ (t.q q).assembly = [] ∧
      (t.q q).level lev = { (s.q q).level lev with credits := ((s.q q).level lev).credits + len } ∧ (∀ m, m ≠ lev → (t.q q).level m = (s.q q).level m) ∧
      t.ent (queueIdx q) 0x15 = satAdd max32 (s.ent (queueIdx q) 0x15) (s.q q).assembly.length ∧ (∀ r, r ≠ q.val → t.q r = s.q r) ∧
      SameBut [.now, .nvm, .queue, .od] s t)

/-- A pop takes the next item of the packet in progress, the empty behaviour, or waits: a pop of a RING queue takes the
next item of the packet in progress, or at a boundary of the oldest packet of the highest level that holds one, puts
it with its length, index and level into the cantor's latch, counts it and lets its credit return; an empty queue
answers its idle item, or its last item and an underrun; a SPILL head that is empty makes the pop wait, and the pop
completes when the head holds the item; a SPILL move reads four items of the middle back into a head with room and
moves four of the tail into the middle, each item lost on the way counted. Completes: POP (R305, R306),
SPILL_POP_COMPLETE (R309), SPILL_MOVE (R297, R310) -/
def Obligations.PopsReadPackets : Prop :=
  (∀ (c : Fin 8) (q : Fin 32) (l : Nat) (p : QPkt) (rest : List QPkt) (it : BitVec 128) (more : List (BitVec 128)) (s : State),
      (s.q q).waiting = [] → (s.q q).st ≠ .disabled → (s.q q).spill = false →
      ((s.q q).stream = some l ∨ (s.q q).stream = none ∧ (s.q q).chosen = none ∧ (s.q q).highest 8 = some l ∧ s.qEnt q 12 ≠ 1) →
      ((s.q q).level l).pkts = p :: rest → p.items = it :: more → more ≠ [] →
    ∃ t, exec (.pop c q) s = .next t ∧ tabGet 0 t.queue.popData (latchKey c q) = it ∧
      tabGet 0 t.queue.popStatus (latchKey c q) = popStatusWord true false false false p.length p.index l ∧
      (t.q q).stream = some l ∧ (t.q q).lastItem = it ∧
      ((t.q q).level l).pkts = { p with index := p.index + 1, items := more } :: rest ∧
      ((t.q q).level l).returning = ((s.q q).level l).returning + 1 ∧ ((t.q q).level l).credits = ((s.q q).level l).credits ∧
      (∀ m, m ≠ l → (t.q q).level m = (s.q q).level m) ∧ t.ent (queueIdx q) 0x12 = satAdd max32 (s.ent (queueIdx q) 0x12) 1 ∧ (∀ r, r ≠ q.val → t.q r = s.q r) ∧ SameBut [.queue, .od, .out] s t) ∧
  (∀ (c : Fin 8) (q : Fin 32) (l : Nat) (p : QPkt) (rest : List QPkt) (it : BitVec 128) (s : State),
      (s.q q).waiting = [] → (s.q q).st = .enabled → (s.q q).spill = false → (s.q q).stream = some l →
      ((s.q q).level l).pkts = p :: rest → p.items = [it] →
    ∃ t, exec (.pop c q) s = .next t ∧ tabGet 0 t.queue.popData (latchKey c q) = it ∧
      tabGet 0 t.queue.popStatus (latchKey c q) = popStatusWord true false false false p.length p.index l ∧
      (t.q q).stream = none ∧ ((t.q q).level l).pkts = rest ∧ (∀ m, m ≠ l → (t.q q).level m = (s.q q).level m) ∧ (∀ r, r ≠ q.val → t.q r = s.q r) ∧ SameBut [.queue, .od, .out] s t) ∧
  (∀ (c : Fin 8) (q : Fin 32) (s : State), (s.q q).waiting = [] → (s.q q).st ≠ .disabled → (s.q q).stream = none →
      (s.q q).chosen = none → (s.q q).highest 8 = none →
    (s.qEnt q 10 = 0 → ∃ t, exec (.pop c q) s = .next t ∧
      tabGet 0 t.queue.popData (latchKey c q) = BitVec.ofNat 128 (s.qEnt q 11) ∧
      tabGet 0 t.queue.popStatus (latchKey c q) = popStatusWord false true false false 0 0 0 ∧
      (t.q q).levels = (s.q q).levels ∧ (t.q q).underrun = (s.q q).underrun ∧ (∀ r, r ≠ q.val → t.q r = s.q r) ∧ SameBut [.queue, .out] s t) ∧
    (s.qEnt q 10 ≠ 0 → ∃ t, exec (.pop c q) s = .next t ∧ tabGet 0 t.queue.popData (latchKey c q) = (s.q q).lastItem ∧
      tabGet 0 t.queue.popStatus (latchKey c q) = popStatusWord false false true false 0 0 0 ∧ (t.q q).underrun = true ∧
      t.ent (queueIdx q) 0x14 = satAdd max32 (s.ent (queueIdx q) 0x14) 1 ∧ (t.q q).levels = (s.q q).levels ∧ (∀ r, r ≠ q.val → t.q r = s.q r) ∧
      SameBut [.queue, .od, .out] s t)) ∧
  (∀ (c : Fin 8) (q : Fin 32) (l : Nat) (s : State), (s.q q).waiting = [] → (s.q q).st ≠ .disabled → (s.q q).spill = true →
      (s.q q).stream = some l → ((s.q q).level l).headN = 0 → ((s.q q).level l).midN ≠ 0 →
    ∃ t, exec (.pop c q) s = .next t ∧ (t.q q).waiting = [c.val] ∧ (t.q q).chosen = some l ∧ (∀ m, (t.q q).level m = (s.q q).level m) ∧ (∀ r, r ≠ q.val → t.q r = s.q r) ∧
      SameBut [.queue] s t) ∧
  (∀ (c : Fin 8) (q : Fin 32) (w : List Nat) (l : Nat) (p : QPkt) (rest : List QPkt) (it : BitVec 128) (more : List (BitVec 128))
      (s : State), (s.q q).waiting = c.val :: w → (s.q q).stream = some l ∨ (s.q q).stream = none ∧ (s.q q).chosen = some l →
      ((s.q q).level l).headN ≠ 0 → ((s.q q).level l).pkts = p :: rest → p.items = it :: more → more ≠ [] →
    ∃ t, exec (.spillPopComplete c q) s = .next t ∧ (t.q q).waiting = w ∧ tabGet 0 t.queue.popData (latchKey c q) = it ∧
      tabGet 0 t.queue.popStatus (latchKey c q) =
        popStatusWord true false false ((s.q q).spill && ((s.q q).level l).badN.contains 0) p.length p.index l ∧
      ((t.q q).level l).pkts = { p with index := p.index + 1, items := more } :: rest ∧
      (((s.q q).level l).midN ≠ 0 → ((t.q q).level l).headN = ((s.q q).level l).headN - 1) ∧ (∀ m, m ≠ l → (t.q q).level m = (s.q q).level m) ∧ (∀ r, r ≠ q.val → t.q r = s.q r) ∧
      SameBut [.queue, .od, .out] s t) ∧
  (∀ (c : Fin 8) (q : Fin 32) (w : List Nat) (l : Nat) (s : State), (s.q q).waiting = c.val :: w → (s.q q).stream = some l →
      ((s.q q).level l).headN = 0 → ((s.q q).level l).midN ≠ 0 → exec (.spillPopComplete c q) s = .next s) ∧
  (∀ (q : Fin 32) (l : Fin 2) (bad : BitVec 4) (s : State), (s.q q).st ≠ .disabled → (s.q q).spill = true →
    exec (.spillMove q l bad) s = .next (s.spillMove q l bad) ∧
    (((s.q q).level l).midN = 0 → ((s.q q).level l).headN < 16 →
      s.spillMove q l bad = s.onQ q (fun x => x.onLevel l (fun v => { v with headN := min 16 v.stored }))) ∧
    (((s.q q).level l).inDue = false → (s.q q).outDue l = true → ((s.q q).level l).midN ≠ 0 →
      s.spillMove q l bad = s.spillOut q l)) ∧
  (∀ (q : Fin 32) (l : Fin 2) (bad : BitVec 4) (s : State), (s.q q).st ≠ .disabled → (s.q q).spill = true →
      4 ≤ ((s.q q).level l).midN → ((s.q q).level l).headN + 4 ≤ 16 →
    ∃ t, exec (.spillMove q l bad) s = .next t ∧ ((t.q q).level l).headN = ((s.q q).level l).headN + 4 ∧
      ((t.q q).level l).credits = ((s.q q).level l).credits ∧
      (bad = 15 → t.ent (queueIdx q) 0x17 = satAdd max32 (s.ent (queueIdx q) 0x17) 4) ∧ (∀ m, m ≠ l.val → (t.q q).level m = (s.q q).level m) ∧ (∀ r, r ≠ q.val → t.q r = s.q r) ∧
      SameBut [.nvm, .queue, .od, .mem, .fresh] s t)

/-- A queue is enabled, disabled and flushed: ENABLE 1 on a DISABLED queue with a valid configuration that overlaps no
other leaves it ENABLED with every level empty and at full credit; an invalid configuration and an overlap are refused
with their codes; ENABLE 0 and a flush act at once at a packet boundary and pend inside a packet, 1000 µs without
progress end that; a flush empties every level and gives its credits back; UNDERRUN is cleared by its command.
Completes: QUEUE_ENABLE, QUEUE_DISABLE, QUEUE_FLUSH, QUEUE_CLEAR_UNDERRUN, QUEUE_PENDING_TIMEOUT (R314, R317) while
the package runs and NMT is not STOPPED -/
def Obligations.QueuesAreEnabledAndFlushed : Prop :=
  (∀ (q : Fin 32) (s : State), s.boot.st = .running → s.comm.nmt ≠ .stopped → s.writeCheck (queueIdx q) 2 1 = 0 → (s.q q).st = .disabled →
      s.qConfigOk q = true → s.qBlocked q = false →
    ∃ t, exec (.queueEnable q) s = .next t ∧ (t.q q).st = .enabled ∧ (t.q q).opened = none ∧ (t.q q).stream = none ∧
      (∀ l, l < s.qEnt q 4 →
        (t.q q).level l = { credits := levelCapOf (decide (s.qEnt q 3 = 1)) (s.qEnt q 5) (s.qEnt q 4) }) ∧
      t.ent (queueIdx q) 2 = 1 ∧ t.out = .status 0 :: s.out ∧ (∀ r, r ≠ q.val → t.q r = s.q r) ∧ SameBut [.queue, .od, .out] s t) ∧
  (∀ (q : Fin 32) (s : State), s.boot.st = .running → s.comm.nmt ≠ .stopped → s.writeCheck (queueIdx q) 2 1 = 0 → (s.q q).st = .disabled →
      (s.qConfigOk q = false → exec (.queueEnable q) s = .next { s with out := .status 0x06090030 :: s.out }) ∧
      (s.qConfigOk q = true → s.qBlocked q = true →
        exec (.queueEnable q) s = .next { s with out := .status 0x08000020 :: s.out })) ∧
  (∀ (q : Fin 32) (s : State), s.boot.st = .running → s.comm.nmt ≠ .stopped → s.writeCheck (queueIdx q) 2 0 = 0 →
      (s.q q).st = .enabled ∨ (s.q q).st = .flushPending → (s.q q).stream = none →
    ∃ t, exec (.queueDisable q) s = .next t ∧ (t.q q).st = .disabled ∧ (t.q q).levels = [] ∧ (t.q q).opened = none ∧
      (t.q q).assembly = [] ∧ (t.q q).above = false ∧ (∀ r, r ≠ q.val → t.q r = s.q r) ∧ SameBut [.press, .queue, .memu, .video, .od, .out] s t) ∧
  (∀ (q : Fin 32) (l : Nat) (s : State), s.boot.st = .running → s.comm.nmt ≠ .stopped → s.writeCheck (queueIdx q) 2 0 = 0 →
      (s.q q).st = .enabled ∨ (s.q q).st = .flushPending → (s.q q).stream = some l →
    ∃ t, exec (.queueDisable q) s = .next t ∧ t.q q = { s.q q with st := .disablePending } ∧ (∀ r, r ≠ q.val → t.q r = s.q r) ∧
      SameBut [.queue, .od, .out] s t) ∧
  (∀ (q : Fin 32) (s : State), s.boot.st = .running → s.comm.nmt ≠ .stopped → s.writeCheck (queueIdx q) 0x10 1 = 0 → (s.q q).st = .enabled →
      (s.q q).stream = none →
    ∃ t, exec (.queueFlush q) s = .next t ∧ (t.q q).st = .enabled ∧
      (∀ l, l < 8 → ((t.q q).level l).pkts = [] ∧
        ((t.q q).level l).credits = ((s.q q).level l).credits + ((s.q q).level l).stored) ∧
      t.ent (queueIdx q) 0x13 = satAdd max32 (s.ent (queueIdx q) 0x13) (s.q q).fill ∧ (∀ r, r ≠ q.val → t.q r = s.q r) ∧ SameBut [.queue, .od, .out] s t) ∧
  (∀ (q : Fin 32) (l : Nat) (s : State), s.boot.st = .running → s.comm.nmt ≠ .stopped → s.writeCheck (queueIdx q) 0x10 1 = 0 → (s.q q).st = .enabled →
      (s.q q).stream = some l →
    ∃ t, exec (.queueFlush q) s = .next t ∧ t.q q = { s.q q with st := .flushPending } ∧ (∀ r, r ≠ q.val → t.q r = s.q r) ∧
      SameBut [.queue, .od, .out] s t) ∧
  (∀ (q : Fin 32) (s : State), s.boot.st = .running → s.comm.nmt ≠ .stopped → s.writeCheck (queueIdx q) 0x10 2 = 0 →
    ∃ t, exec (.queueClearUnderrun q) s = .next t ∧ t.q q = { s.q q with underrun := false } ∧ (∀ r, r ≠ q.val → t.q r = s.q r) ∧ SameBut [.queue, .out] s t) ∧
  (∀ (q : Fin 32) (s : State), (s.q q).st = .flushPending →
    ∃ t, exec (.queuePendingTimeout q) s = .next t ∧ t.now = max s.now ((s.q q).streamAt + 1000) ∧ (t.q q).st = .enabled ∧
      (t.q q).stream = none ∧ (∀ l, l < 8 → ((t.q q).level l).pkts = []) ∧ (∀ r, r ≠ q.val → t.q r = s.q r) ∧ SameBut [.now, .queue, .od, .out] s t) ∧
  (∀ (q : Fin 32) (s : State), (s.q q).st = .disablePending →
    ∃ t, exec (.queuePendingTimeout q) s = .next t ∧ t.now = max s.now ((s.q q).streamAt + 1000) ∧ (t.q q).st = .disabled ∧
      (t.q q).levels = [] ∧ (∀ r, r ≠ q.val → t.q r = s.q r) ∧ SameBut [.now, .press, .queue, .memu, .video, .od, .out] s t)

/-- A cellar mover takes descriptors from its ring and completes them in order: a TAIL that stays within the ring is taken
and an IDLE mover with descriptors becomes ACTIVE, another sets TAIL_ERROR; ENABLE 1 takes a valid ring to IDLE with
HEAD and TAIL 0 and refuses a bad one with CONFIG_ERROR, ENABLE 0 leaves DISABLED or ABORTING, ABORT leaves ABORTING;
a descriptor of an active mover that reads back malformed starts with result 3, a FILL within one line writes its
pattern there and nowhere else; a moved descriptor completes: it leaves the ring, HEAD and the count go on; an abort
with nothing left ends IDLE or DISABLED as enabled; a descriptor with WAIT_PREV does not start while another is in
flight; a waiting item leaves when its queue takes it. Completes: MOVER_TAIL_WRITE (R339), MOVER_ENABLE,
MOVER_DISABLE, MOVER_ABORT, MOVER_ABORT_DONE (R341), DESCRIPTOR_START, DESCRIPTOR_COMPLETE (R340),
MOVER_COMPLETION_POST (R342) -/
def Obligations.MoversRun : Prop :=
  (∀ (m : Fin 16) (tail : BitVec 16) (s : State), (s.mover m).st ≠ .disabled →
      (tail.toNat + 65536 - (s.mover m).head) % 65536 ≤ (s.mover m).ringSize →
      (s.mover m).pending ≤ (tail.toNat + 65536 - (s.mover m).head) % 65536 →
    ∃ t, exec (.moverTailWrite m tail) s = .next t ∧
      t.mover m = { s.mover m with tail := tail.toNat, st := (if (s.mover m).st = .idle ∧
        0 < (tail.toNat + 65536 - (s.mover m).head) % 65536 then .active else (s.mover m).st) } ∧ (∀ n, n ≠ m.val → t.mover n = s.mover n) ∧ SameBut [.memu] s t) ∧
  (∀ (m : Fin 16) (tail : BitVec 16) (s : State), (s.mover m).st ≠ .disabled →
      ((s.mover m).ringSize < (tail.toNat + 65536 - (s.mover m).head) % 65536 ∨
       (tail.toNat + 65536 - (s.mover m).head) % 65536 < (s.mover m).pending) →
    ∃ t, exec (.moverTailWrite m tail) s = .next t ∧ t.mover m = { s.mover m with tailError := true } ∧ (∀ n, n ≠ m.val → t.mover n = s.mover n) ∧ SameBut [.memu] s t) ∧
  (∀ (m : Fin 16) (s : State), (s.mover m).st = .disabled →
    (s.ringOk (s.mover m) = true → ∃ t, exec (.moverEnable m) s = .next t ∧
      t.mover m = { s.mover m with st := .idle, enable := true, head := 0, tail := 0, lastBad := false } ∧ (∀ n, n ≠ m.val → t.mover n = s.mover n) ∧
      SameBut [.memu] s t) ∧
    (s.ringOk (s.mover m) = false → ∃ t, exec (.moverEnable m) s = .next t ∧
      t.mover m = { s.mover m with configError := true } ∧ (∀ n, n ≠ m.val → t.mover n = s.mover n) ∧ SameBut [.memu] s t)) ∧
  (∀ (m : Fin 16) (s : State),
    ∃ t, exec (.moverDisable m) s = .next t ∧ (∀ n, n ≠ m.val → t.mover n = s.mover n) ∧ SameBut [.memu] s t ∧
      ((s.mover m).st = .disabled → t.mover m = s.mover m) ∧
      ((s.mover m).st ≠ .disabled → (t.mover m).enable = false ∧
        (t.mover m).st = (if (s.mover m).st = .idle then .disabled else .aborting))) ∧
  (∀ (m : Fin 16) (s : State), (s.mover m).st = .active →
    ∃ t, exec (.moverAbort m) s = .next t ∧ t.mover m = { s.mover m with st := .aborting } ∧ (∀ n, n ≠ m.val → t.mover n = s.mover n) ∧ SameBut [.memu] s t) ∧
  (∀ (m : Fin 16) (i a : Nat) (b : List Byte) (s : State), (s.mover m).st = .active →
      (s.mover m).flight.length < (s.mover m).pending → (s.mover m).flight.length < 128 → s.inFlightDescs < 2048 →
      i = ((s.mover m).head + (s.mover m).flight.length) % 65536 → a = (s.mover m).descAddr i →
      s.ncReadFail .mover a 32 = none → b = s.moverBytes m a 32 → (numAt b 20 1).testBit 2 = false ∨ (s.mover m).flight = [] →
      s.descMalformed b = true →
    ∃ t, exec (.descriptorStart m) s = .next t ∧
      t.mover m = { s.mover m with flight := (s.mover m).flight ++ [{ descOf i a b with goal := 0, result := 3 }] } ∧ (∀ n, n ≠ m.val → t.mover n = s.mover n) ∧
      SameBut [.memu] s t) ∧
  (∀ (m : Fin 16) (i a : Nat) (b : List Byte) (d : DescRun) (s : State), (s.mover m).st = .active → (s.mover m).flight = [] →
      0 < (s.mover m).pending → s.inFlightDescs < 2048 → i = (s.mover m).head % 65536 → a = (s.mover m).descAddr i →
      s.ncReadFail .mover a 32 = none → b = s.moverBytes m a 32 → s.descMalformed b = false → d = descOf i a b → d.fill = true →
      (numAt b 20 1).testBit 2 = false → d.dst % 64 + d.len ≤ 64 → s.isLocal d.dst = true →
      s.rangeKind .mover true (offsetOf d.dst) d.len = none →
    ∃ t, exec (.descriptorStart m) s = .next t ∧ (t.mover m).flight = [{ d with moved := d.len }] ∧
      t.mem = ((s.onMover m (fun x => { x with flight := x.flight ++ [d] })).moverPut m d.scope (offsetOf d.dst) (d.bytes 0 d.len)).mem ∧
      (∀ n, n ≠ m.val → t.mover n = s.mover n) ∧ SameBut [.memu, .choir, .mem, .fresh, .out] s t) ∧
  (∀ (m : Fin 16) (i a : Nat) (b : List Byte) (s : State), (s.mover m).st = .active → (s.mover m).flight ≠ [] →
      i = ((s.mover m).head + (s.mover m).flight.length) % 65536 → a = (s.mover m).descAddr i →
      s.ncReadFail .mover a 32 = none → b = s.moverBytes m a 32 → (numAt b 20 1).testBit 2 = true →
    exec (.descriptorStart m) s = .next s) ∧
  (∀ (m : Fin 16) (d : DescRun) (rest : List DescRun) (s : State), (s.mover m).flight = d :: rest → (s.mover m).item = none →
      d.waiting = false → d.moveDone = true → (s.mover m).st = .active →
    ∃ t, exec (.descriptorComplete m) s = .next t ∧ (t.mover m).head = ((s.mover m).head + 1) % 65536 ∧
      (t.mover m).completed = (s.mover m).completed + 1 ∧
      (t.mover m).flight = (d :: rest).filter (fun e => decide (e.index ≠ d.index)) ∧
      (t.mover m).lastBad = ((s.mover m).lastBad || decide (d.final ≠ 1)) ∧
      (s.rangeKind .mover true d.addr 32 = none → d.post = false →
        t.mem = ((if d.scope = 0 then s else s.lateOut m).ncWrite (d.addr + 24)
          (leBytes 4 (d.final + d.kind * 4096) ++ leBytes 4 d.moved)).mem) ∧ (∀ n, n ≠ m.val → t.mover n = s.mover n) ∧
      SameBut [.nvm, .queue, .memu, .choir, .od, .mem, .fresh, .out] s t) ∧
  (∀ (m : Fin 16) (s : State), (s.mover m).st = .aborting → (s.mover m).flight = [] → (s.mover m).pending = 0 → (s.mover m).item = none →
    ∃ t, exec (.moverAbortDone m) s = .next t ∧
      t.mover m = { s.mover m with st := (if (s.mover m).enable then .idle else .disabled) } ∧ (∀ n, n ≠ m.val → t.mover n = s.mover n) ∧ SameBut [.memu] s t) ∧
  (∀ (m : Fin 16) (s u : State), (s.mover m).st = .aborting → (s.mover m).flight.all (fun d => !d.waiting) = true →
      u = s.abortAll 65536 m → (u.mover m).pending = 0 → (u.mover m).item = none →
    exec (.moverAbortDone m) s = .next (u.onMover m (fun x => { x with st := if x.enable then .idle else .disabled }))) ∧
  (∀ (m : Fin 16) (s : State), (s.mover m).st = .aborting →
    ∃ t, exec (.moverEnable m) s = .next t ∧ t.mover m = { s.mover m with enable := true } ∧ (∀ n, n ≠ m.val → t.mover n = s.mover n) ∧ SameBut [.memu] s t) ∧
  (∀ (m : Fin 16) (q : Nat) (it : BitVec 128) (s u : State), (s.mover m).item = some (q, it) → s.hwPush q [it] = some u →
    ∃ t, exec (.moverCompletionPost m) s = .next t ∧ (t.mover m).item = none ∧ t.queue = u.queue ∧
      (t.mover m).irqPending = ((s.mover m).irqPending || (s.mover m).itemIrq) ∧ (∀ n, n ≠ m.val → t.mover n = s.mover n) ∧
      SameBut [.nvm, .queue, .memu, .od, .mem, .fresh, .out] s t)

/-- Choir Link ports train, are lost, replay and return credit: a training port comes up and sends HELLO, or after a
retraining its replay buffer, a down one tries again; a frame out of its order, or at a port that is not up, is left
to the replay and changes nothing; a frame with a bad CRC is answered with NAK of the last good one, a malformed one
counted; a NAK takes what it acknowledges off the replay buffer, counts a replay and sends the rest again, and the
16th of one frame in a row sends the port to training again; a retraining that times out leaves the port down,
recorded; a link loss leaves it down; the HELLO timer sends HELLO from a port that is up and counts a neighbour it
ignores; CREDIT returns credits up to 64; an incomplete control message is discarded and counted. Completes:
CHOIR_PORT_TRAINED, CHOIR_PORT_RETRY, CHOIR_TRAINING_TIMEOUT, CHOIR_LINK_LOSS (R362), LINK_FRAME_CRC_ERROR, LINK_NAK,
CREDIT (R365), HELLO_TIMER (R368), CONTROL_MESSAGE_TIMEOUT (R367) -/
def Obligations.ChoirPortsTrainAndFail : Prop :=
  (∀ (p : Fin 2) (s : State), s.choirOn = true → (s.clPort p).st = .training → (s.clPort p).retraining = false →
    ∃ t, exec (.choirPortTrained p) s = .next t ∧ t = (s.onClPort p (fun _ => { st := .up })).sendHello p ∧
      SameBut [.choir, .out] s t) ∧
  (∀ (p : Fin 2) (s : State), s.choirOn = true → (s.clPort p).st = .training → (s.clPort p).retraining = true → 
    ∃ t, exec (.choirPortTrained p) s = .next t ∧
      t = (s.onClPort p (fun x => { x with st := .up, replays := 0, retraining := false })).replay p ∧
      t.out = ((s.clPort p).sent.map (Out.frame p)).reverse ++ s.out ∧ (t.clPort p).st = .up ∧
      (∀ r, r ≠ p.val → t.clPort r = s.clPort r) ∧ SameBut [.choir, .out] s t) ∧
  (∀ (p : Fin 2) (s : State), s.choirOn = true → (s.clPort p).st = .down → 
    ∃ t, exec (.choirPortRetry p) s = .next t ∧ t = s.onClPort p (fun x => { x with st := .training }) ∧
      t.clPort p = { s.clPort p with st := .training } ∧ t.choir = { s.choir with ports := t.choir.ports } ∧
      (∀ r, r ≠ p.val → t.clPort r = s.clPort r) ∧ SameBut [.choir] s t) ∧
  (∀ (v : LinkVia) (h : HelloMsg) (m : MemberMsg) (n k : Nat) (serial status : BitVec 32) (e : Int) (time : BitVec 64)
      (l : List (Nat × Nat × Nat)) (terms : LinkTerms) (on : Bool) (slots : List (Bool × Packet)) (addr : Addr) (data : List Byte)
      (fm : ForwardMsg) (s : State), s.clUp v.port = false ∨ v.seq ≠ (s.clPort v.port).lastGood + 1 →
    exec (.hello v h) s = .next s ∧
    exec (.membership v m) s = .next s ∧
    exec (.memberHeartbeat v n k) s = .next s ∧
    exec (.join v serial n e) s = .next s ∧
    exec (.ping v time) s = .next s ∧
    exec (.barrier v n k l) s = .next s ∧
    exec (.stageEnd v n terms l) s = .next s ∧
    exec (.switchPrepare v n) s = .next s ∧
    exec (.switchAccept v n) s = .next s ∧
    exec (.switchRefuse v n status) s = .next s ∧
    exec (.switchCommit v n) s = .next s ∧
    exec (.switchCancel v n) s = .next s ∧
    exec (.events v on slots) s = .next s ∧
    exec (.memReq v n on addr k data) s = .next s ∧
    exec (.memRsp v n on addr k data) s = .next s ∧
    exec (.forward v fm) s = .next s ∧
    exec (.credit v) s = .next s) ∧
  (∀ (p : Fin 2) (bytes : List Byte) (s : State), s.clUp p = true → frameCrcOk bytes = false → 
    ∃ t, exec (.linkFrameCrcError p bytes) s = .next t ∧ t = s.sendNak p ∧
      t.out = .frame p { s.creditFrame with
        flags := 4 + s.frameFlags false, seq := (s.clPort p).seq, ack := (s.clPort p).lastGood } :: s.out ∧
      SameBut [.out] s t) ∧
  (∀ (p : Fin 2) (bytes : List Byte) (s : State), s.clUp p = true → frameCrcOk bytes = true →
      frameFormOk bytes = false →
    ∃ t, exec (.linkFrameCrcError p bytes) s = .next t ∧ t = s.count 0x8000 0x10 1 ∧
      t.ent 0x8000 0x10 = satAdd max32 (s.ent 0x8000 0x10) 1 ∧ SameBut [.od] s t) ∧
  (∀ (p : Fin 2) (a : BitVec 16) (s : State), s.clUp p = true → unacked a (s.clPort p).sent = [] → 
    ∃ t, exec (.linkNak p a) s = .next t ∧ t = (s.onClPort p (fun x => { x with sent := unacked a x.sent })) ∧
      (t.clPort p).sent = [] ∧ t.choir = { s.choir with ports := t.choir.ports } ∧
      (∀ r, r ≠ p.val → t.clPort r = s.clPort r) ∧ SameBut [.choir] s t) ∧
  (∀ (p : Fin 2) (a : BitVec 16) (f : LinkFrame) (l : List LinkFrame) (s : State), s.clUp p = true →
      unacked a (s.clPort p).sent = f :: l →
      ((((s.onClPort p (fun x => { x with sent := unacked a x.sent })).count 0x8000 0xF 1).onClPort p (ClPortSt.replayed f)).clPort p).replays < 16 →
    ∃ t, exec (.linkNak p a) s = .next t ∧
      t = (((s.onClPort p (fun x => { x with sent := unacked a x.sent })).count 0x8000 0xF 1).onClPort p (ClPortSt.replayed f)).replay p ∧
      t.ent 0x8000 0xF = satAdd max32 (s.ent 0x8000 0xF) 1 ∧ (t.clPort p).sent = f :: l ∧
      t.out = ((f :: l).map (Out.frame p)).reverse ++ s.out ∧ t.choir = { s.choir with ports := t.choir.ports } ∧
      (∀ r, r ≠ p.val → t.clPort r = s.clPort r) ∧ SameBut [.choir, .od, .out] s t) ∧
  (∀ (p : Fin 2) (a : BitVec 16) (f : LinkFrame) (l : List LinkFrame) (s : State), s.clUp p = true →
      unacked a (s.clPort p).sent = f :: l →
      16 ≤ ((((s.onClPort p (fun x => { x with sent := unacked a x.sent })).count 0x8000 0xF 1).onClPort p (ClPortSt.replayed f)).clPort p).replays →
    ∃ t, exec (.linkNak p a) s = .next t ∧
      t = (((s.onClPort p (fun x => { x with sent := unacked a x.sent })).count 0x8000 0xF 1).onClPort p (ClPortSt.replayed f)).onClPort p (fun x => { x with st := .training, retraining := true, replays := 0 }) ∧
      t.ent 0x8000 0xF = satAdd max32 (s.ent 0x8000 0xF) 1 ∧ (t.clPort p).st = .training ∧
      (t.clPort p).retraining = true ∧ t.choir = { s.choir with ports := t.choir.ports } ∧
      (∀ r, r ≠ p.val → t.clPort r = s.clPort r) ∧ SameBut [.choir, .od] s t) ∧
  (∀ (a : BitVec 16) (p : Nat) (f : LinkFrame) (l : List LinkFrame) (s : State), unacked a (s.clPort p).sent = f :: l →
    (State.clPort ((((s.onClPort p (fun x => { x with sent := unacked a x.sent })).count 0x8000 0xF 1).onClPort p (ClPortSt.replayed f))) p).replays = (if (s.clPort p).replayOf = f.seq then (s.clPort p).replays + 1 else 1)) ∧
  (∀ (p : Fin 2) (s : State), (s.clPort p).st = .training → (s.clPort p).retraining = false → 
    ∃ t, exec (.choirTrainingTimeout p) s = .next t ∧ t = s.clDown p ∧ (t.clPort p).st = .down ∧
      (t.clPort p).neighbour = none ∧ SameBut [.choir, .out] s t) ∧
  (∀ (p : Fin 2) (s : State), (s.clPort p).st = .training → (s.clPort p).retraining = true → 
    ∃ t, exec (.choirTrainingTimeout p) s = .next t ∧ t = (s.clDown p).book 0xE605 0x1E 1 (leBytes 1 p) ∧
      (t.clPort p).st = .down ∧ (t.clPort p).neighbour = none ∧
      (s.nvm.staged.length < 64 →
        ∃ r, t.nvm.staged = s.nvm.staged ++ [r] ∧ r.code = 0xE605 ∧ r.severity = 1) ∧
      SameBut [.nvm, .choir, .out] s t) ∧
  (∀ (p : Fin 2) (s : State), (s.clPort p).st = .up → 
    ∃ t, exec (.choirLinkLoss p) s = .next t ∧ t = s.clDown p ∧ (t.clPort p).st = .down ∧
      (t.clPort p).neighbour = none ∧ SameBut [.choir, .out] s t) ∧
  (∀ (s : State), 
    ∃ t, exec .helloTimer s = .next t ∧ t = (s.helloPort 0).helloPort 1 ∧
      (∀ h, s.clUp 0 = true → s.clUp 1 = false → (s.clPort 0).neighbour = some h → helloOk h = false →
        t.ent 0x8000 0x10 = satAdd max32 (s.ent 0x8000 0x10) 1) ∧
      SameBut [.choir, .od, .out] s t) ∧
  (∀ (v : LinkVia) (f : LinkFrame) (s : State), f = ctrlFrame v 0x0F (([] : List Byte)) →
      s.linkTakes v f (segCount (List.length (([] : List Byte)))) = true →
    ∃ t, exec (.credit v) s = .next t ∧ t = (((fun x => x) (s.linkGot v f)).linkRun.drainExports) ∧
      SameBut [.fabric, .choir, .od, .out] s t) ∧
  (∀ (v : LinkVia) (s : State),
    (s.linkTaken v).linkCredit v.port v.credClass = min 64 (s.linkCredit v.port v.credClass + v.credCount) ∧
    (∀ c, c ≠ v.credClass.val → (s.linkTaken v).linkCredit v.port c = s.linkCredit v.port c) ∧
    ((s.linkTaken v).clPort v.port).lastGood = v.seq ∧ ((s.linkTaken v).clPort v.port).sent = unacked v.ack (s.clPort v.port).sent ∧
    (∀ r, r ≠ v.port.val → (s.linkTaken v).clPort r = s.clPort r) ∧ SameBut [.choir] s (s.linkTaken v)) ∧
  (∀ (src tag : Fin 16) (q : Partial) (s : State), s.choir.partials.find? (Partial.of src tag) = some q → 
    ∃ t, exec (.controlMessageTimeout src tag) s = .next t ∧
      t = (if q.dead then (s.upTo (q.since + 10000)).onChoir (fun c => { c with partials := dropFirst (Partial.of src tag) c.partials })
      else ((s.upTo (q.since + 10000)).onChoir (fun c => { c with partials := dropFirst (Partial.of src tag) c.partials })).count 0x8000 0x10 1) ∧
      t.now = max s.now (q.since + 10000) ∧ (q.dead = false → t.ent 0x8000 0x10 = satAdd max32 (s.ent 0x8000 0x10) 1) ∧
      t.choir = { s.choir with partials := dropFirst (Partial.of src tag) s.choir.partials } ∧
      SameBut [.now, .choir, .od] s t)

/-- Packages meet, join, are measured and depart: each of these messages, when it is taken, acts on the state that has
taken its frame: HELLO of a package of the same Choir is kept as the neighbour's; a standalone package that meets a
larger Choir, or an equal one with a lower precentor serial, becomes JOINING and otherwise forms a Choir as precentor
with ID 0; a member whose Choir a neighbour has left to join another leaves it; MEMBERSHIP is kept until its era, and
a member it no longer names departs; a HEARTBEAT with the generation in force ends a member's staleness, another
begins it and is answered with MEMBERSHIP at an era boundary; the precentor admits an aligned joiner at a free ID for
the next era; PING is answered, PONG sets the path delay; an unreachable member and one that missed its heartbeats
depart, and the precentor announces a membership without it; a reset is requested of a reachable member by the
precentor alone. Completes: HELLO (R368), MEMBERSHIP, MEMBER_HEARTBEAT (R386), JOIN (R370), PING, PONG (R372),
MEMBER_UNREACHABLE, HEARTBEAT_MISSED_DEPARTURE (R381), CHOIR_RESET_REQUEST (17 R530) -/
def Obligations.ChoirMembershipChanges : Prop :=
  (∀ (v : LinkVia) (f : LinkFrame) (h : HelloMsg) (s : State), f = ctrlFrame v 1 (helloBytes h) →
      s.linkTakes v f (segCount (List.length (helloBytes h))) = true →
    ∃ t, exec (.hello v h) s = .next t ∧ t = (((State.takeHello v.port h) (s.linkGot v f)).linkRun.drainExports) ∧
      SameBut [.comm, .oap, .nvm, .fabric, .memu, .choir, .od, .mem, .fresh, .out] s t) ∧
  (∀ (p : Nat) (h : HelloMsg) (s : State), (s.onClPort p (fun x => { x with neighbour := some h })).dissolving h = false →
    (helloOk h = false ∨ h.role = 3 ∨ h.precSerial = s.precSerial →
      s.takeHello p h = s.onClPort p (fun x => { x with neighbour := some h })) ∧
    (helloOk h = true → h.role ≠ 3 → h.precSerial ≠ s.precSerial → s.choir.role = .standalone →
      ((h.members < s.memberCount ∨ h.members = s.memberCount ∧ s.precSerial < h.precSerial) →
        (s.takeHello p h).choir.role = .precentor ∧ (s.takeHello p h).choir.ownId = 0 ∧
        tabGet 0 (s.takeHello p h).choir.serials 0 = Config.serial ∧ (s.takeHello p h).choir.offset = 0 ∧
        SameBut [.choir, .out] s (s.takeHello p h)) ∧
      (¬ (h.members < s.memberCount ∨ h.members = s.memberCount ∧ s.precSerial < h.precSerial) →
        (s.takeHello p h).choir.role = .joining ∧ (s.takeHello p h).choir.precSerial = h.precSerial ∧
        (s.takeHello p h).choir.beat = .notFollowing ∧ (s.takeHello p h).choir.joinDue = some s.now))) ∧
  (∀ (h : HelloMsg) (s : State), s.dissolving h = true →
    s.meet h = s.leaveFor h.precSerial ∧ (s.meet h).choir.role = .joining ∧ (s.meet h).choir.ownReport = none ∧
    (s.meet h).choir.partials = [] ∧ (s.meet h).choir.precSerial = h.precSerial) ∧
  (∀ (v : LinkVia) (f : LinkFrame) (m : MemberMsg) (s : State), f = ctrlFrame v 2 (memberBytes m) →
      s.linkTakes v f (segCount (List.length (memberBytes m))) = true →
    ∃ t, exec (.membership v m) s = .next t ∧ t = (((State.takeMembership m) (s.linkGot v f)).linkRun.drainExports) ∧
      SameBut [.beat, .comm, .oap, .nvm, .fabric, .memu, .choir, .od, .mem, .fresh, .out] s t) ∧
  (∀ (m : MemberMsg) (c : MemberChange) (s : State), s.choir.role = .follower → c.generation = m.generation →
      c.era = ((m.era : Int) - s.choir.offset / 256).toNat → c.serials = (List.range 16).map (fun i => m.serials.getD i 0) →
      c.offsets = (List.range 16).map (fun i => m.offsets.getD i 0) →
    (s.otherMembers.filter (fun i => decide (m.serials.getD i 0 = 0)) = [] →
      s.takeMembership m = s.onChoir (fun x => { x with change := some c })) ∧
    (∀ i, s.otherMembers.filter (fun i => decide (m.serials.getD i 0 = 0)) = [i] → s.reachable i = true →
      s.takeMembership m = (s.onChoir (fun x => { x with change := some c })).departs i 2)) ∧
  (∀ (v : LinkVia) (f : LinkFrame) (n k : Nat) (s : State), f = ctrlFrame v 3 (heartbeatBytes n k) →
      s.linkTakes v f (segCount (List.length (heartbeatBytes n k))) = true →
    ∃ t, exec (.memberHeartbeat v n k) s = .next t ∧
      t = (((State.takeHeartbeat v.src n k) (s.linkGot v f)).linkRun.drainExports) ∧
      SameBut [.fabric, .choir, .od, .out] s t) ∧
  (∀ (src n k : Nat) (s : State), s.choir.role = .precentor → s.reachable src = true →
    (n = s.choir.generation →
      s.takeHeartbeat src n k = s.onChoir (fun c => { c with stale := c.stale.filter (fun x => decide (x.1 ≠ src)) })) ∧
    (n ≠ s.choir.generation → k % 256 = 0 →
      (src, n) ∈ (s.takeHeartbeat src n k).choir.stale ∧ SameBut [.choir, .out] s (s.takeHeartbeat src n k))) ∧
  (∀ (v : LinkVia) (f : LinkFrame) (serial : BitVec 32) (n : Nat) (e : Int) (s : State),
      f = ctrlFrame v 7 (joinBytes serial.toNat n e) →
      s.linkTakes v f (segCount (List.length (joinBytes serial.toNat n e))) = true →
    ∃ t, exec (.join v serial n e) s = .next t ∧
      t = (((State.takeJoin serial.toNat n) (s.linkGot v f)).linkRun.drainExports) ∧
      SameBut [.fabric, .choir, .od, .fresh, .out] s t) ∧
  (∀ (serial i : Nat) (s : State), s.choir.role = .precentor →
    s.takeJoin serial 1 = s.onChoir (fun c => { c with
      joiners := c.joiners.filter (fun j => decide (j.1 ≠ serial)) ++ [(serial, 1)] }) ∧
    (s.nextSerials.contains serial = false → (List.range 16).find? (fun i => s.idFree i) = some i →
      ∃ c, (s.takeJoin serial 2).choir.change = some c ∧ c.era = s.nextEra ∧ c.serials = setAt s.nextSerials i serial ∧
        SameBut [.choir, .fresh, .out] s (s.takeJoin serial 2))) ∧
  (∀ (v : LinkVia) (f : LinkFrame) (time : BitVec 64) (s : State), f = ctrlFrame v 5 (leBytes 8 time.toNat) →
      s.linkTakes v f (segCount (List.length (leBytes 8 time.toNat))) = true →
    ∃ t, exec (.ping v time) s = .next t ∧ t = (((State.takePing v time) (s.linkGot v f)).linkRun.drainExports) ∧
      SameBut [.fabric, .choir, .od, .fresh, .out] s t) ∧
  (∀ (v : LinkVia) (time : BitVec 64) (s : State), s.choir.role = .precentor →
    s.takePing v time = s.draw.linkTo 6 (if v.unassigned then .port v.port else .member v.src) (pongBytes time.toNat s.drawn)) ∧
  (∀ (v : LinkVia) (f : LinkFrame) (time : BitVec 64) (turn : BitVec 32) (a : Nat) (u : State) (s : State),
      u = s.upTo (a / 1000) → f = ctrlFrame v 6 (pongBytes time.toNat turn.toNat) →
      u.linkTakes v f (segCount (List.length (pongBytes time.toNat turn.toNat))) = true →
    ∃ t, exec (.pong v time turn a) s = .next t ∧
      t = (((State.takePong time turn a) (u.linkGot v f)).linkRun.drainExports) ∧ s.now ≤ t.now ∧
      SameBut [.now, .fabric, .choir, .od, .out] s t) ∧
  (∀ (time : BitVec 64) (turn : BitVec 32) (a : Nat) (s : State), s.choir.role = .follower ∨ s.choir.role = .joining →
    s.takePong time turn a = s.onChoir (fun c => { c with pathDelay := (a - time.toNat - turn.toNat) / 2 })) ∧
  (∀ (id : Fin 16) (s : State), s.reachable id = true → 
    ∃ t, exec (.memberUnreachable id) s = .next t ∧ t = (s.departs id 1).checkReports ∧
      SameBut [.beat, .comm, .oap, .nvm, .fabric, .memu, .choir, .od, .mem, .fresh, .out] s t) ∧
  (∀ (id : Fin 16) (s : State), s.reachable id = true → 
    ∃ t, exec (.heartbeatMissedDeparture id) s = .next t ∧ t = (s.departs id 2).checkReports ∧
      SameBut [.beat, .comm, .oap, .nvm, .fabric, .memu, .choir, .od, .mem, .fresh, .out] s t) ∧
  (∀ (id cause : Nat) (s : State),
    (s.choir.role = .precentor → ∃ m, (s.departs id cause).choir.change = some m ∧ m.era = s.nextEra ∧ m.serials.getD id 0 = 0 ∧
      (s.departs id cause).choir.departed = s.choir.departed ++ [(id, s.now)]) ∧
    (s.choir.role = .follower → id ≠ s.choir.precentor →
      (s.departs id cause).choir.departed = s.choir.departed ++ [(id, s.now)] ∧
      (s.departs id cause).ent 0x8000 0xE = satAdd max32 (s.ent 0x8000 0xE) 1)) ∧
  (∀ (id : Fin 16) (s : State), s.choir.role = .precentor → s.reachable id = true → 
    ∃ t, exec (.choirResetRequest id) s = .next t ∧
      t = s.linkTo 0x0D (.member id) (resetBytes (tabGet 0 s.choir.serials id)) ∧ SameBut [.choir, .out] s t) ∧
  (∀ (id : Fin 16) (s : State), s.choir.role ≠ .precentor ∨ s.reachable id = false →
    exec (.choirResetRequest id) s = .next { s with choir := { s.choir with resetRefused := true } })

/-- A follower follows the precentor's beat, and barriers, stage ends and image switches are coordinated: a BEAT frame
within the tolerance keeps a follower FOLLOWING and steers its flywheel to the frame's residual, one outside it, or
none in the beat, leaves HOLDOVER; reports are kept by the precentor, a broadcast opens the barrier or ends the stage
at a follower, and the precentor opens it when every live member has reported and the counts balance; a report that
waits is repeated; a switch is prepared, accepted, refused, cancelled and committed. Completes: BEAT_FRAME (R372,
R373), CHOIR_BEAT_TIMEOUT (R373), BARRIER, STAGE_END (R377), REPORT_REPEAT (R367), SWITCH_PREPARE, SWITCH_ACCEPT,
SWITCH_REFUSE, SWITCH_ACCEPT_TIMEOUT, SWITCH_COMMIT, SWITCH_CANCEL (R387), the messages when they are taken -/
def Obligations.ChoirBeatsAndBarriers : Prop :=
  (∀ (v : LinkVia) (f : LinkFrame) (b : BeatMsg) (u : State) (s : State), u = s.upTo (b.arrivalNs / 1000) →
      f = ctrlFrame v 4 (beatBytes b) → u.linkTakes v f (segCount (List.length (beatBytes b))) = true →
    ∃ t, exec (.beatFrame v b) s = .next t ∧ t = (((State.takeBeat b) (u.linkGot v f)).linkRun.drainExports) ∧
      s.now ≤ t.now ∧ SameBut [.now, .beat, .comm, .oap, .nvm, .ports, .fabric, .choir, .power, .od, .out] s t) ∧
  (∀ (b : BeatMsg) (e : Int) (s t : State), t = s.takeBeat b → s.choir.role = .follower → s.choir.beat = .following →
      b.halted = s.choir.fabricHalted → b.ledgerFail = false →
      e = nearest (s.frameTime b - s.startOf' b.period ((b.beat : Int) - s.choir.offset)) (256 * b.period) →
    t.choir.phaseError = e ∧ t.choir.period = b.period ∧ t.choir.limit = b.limit ∧ t.choir.beatSeenAt = s.beat.number ∧
    t.beat.number = s.beat.number ∧ t.beat.start = s.beat.start ∧
    (inTol b.period e = true → t.choir.beat = .following ∧
      t.beat.residual = some (s.frameResidual b.period (s.frameTime b) ((b.beat : Int) - s.choir.offset)) ∧
      t.beat.tracked = b.period ∧ t.beat.length = s.beat.length ∧ SameBut [.beat, .choir] s t) ∧
    (inTol b.period e = false → t.choir.beat = .holdover ∧ t.choir.holdStart = some s.now ∧ t.beat.slewing = false ∧
      SameBut [.beat, .comm, .oap, .nvm, .choir, .out] s t)) ∧
  (∀ (s : State), s.choir.role = .follower → s.choir.beat = .following → s.choir.beatSeenAt < s.beat.number → 
    ∃ t, exec .choirBeatTimeout s = .next t ∧ t = (s.upTo (s.beat.start + (s.beat.tracked + 1) / 2)).followerHoldover ∧
      t.now = max s.now (s.beat.start + (s.beat.tracked + 1) / 2) ∧ t.choir.beat = .holdover ∧
      t.choir.holdStart = some t.now ∧ (s.boot.st = .running → t.condOn 0xFF10 1 0 = true) ∧
      SameBut [.now, .beat, .comm, .oap, .nvm, .choir, .out] s t) ∧
  (∀ (v : LinkVia) (f : LinkFrame) (n k : Nat) (l : List (Nat × Nat × Nat)) (s : State),
      f = ctrlFrame v 0x0B (barrierBytes n k l) →
      s.linkTakes v f (segCount (List.length (barrierBytes n k l))) = true →
    ∃ t, exec (.barrier v n k l) s = .next t ∧
      t = (((State.takeStage v { src := v.src, beat := n, rank := some k, counts := l, terms := {} }) (s.linkGot v f)).linkRun.drainExports) ∧
      SameBut [.beat, .comm, .oap, .nvm, .fabric, .choir, .od, .out] s t) ∧
  (∀ (v : LinkVia) (f : LinkFrame) (n : Nat) (terms : LinkTerms) (l : List (Nat × Nat × Nat)) (s : State),
      f = ctrlFrame v 0x0C (stageEndBytes n terms l) →
      s.linkTakes v f (segCount (List.length (stageEndBytes n terms l))) = true →
    ∃ t, exec (.stageEnd v n terms l) s = .next t ∧
      t = (((State.takeStage v { src := v.src, beat := n, rank := none, counts := l, terms := terms }) (s.linkGot v f)).linkRun.drainExports) ∧
      SameBut [.beat, .comm, .oap, .nvm, .fabric, .choir, .od, .out] s t) ∧
  (∀ (v : LinkVia) (r : Report) (s : State),
    (v.dst = none → s.choir.role = .follower →
      (s.takeStage v r).choir.granted = some (r.beat, r.rank) ∧ SameBut [.choir] s (s.takeStage v r)) ∧
    (v.dst ≠ none → s.choir.role = .precentor → s.reachable v.src = true → s.choir.ownReport = none →
      s.takeStage v r = s.onChoir (fun c => { c with
        reports := c.reports.filter (fun x => !(decide (x.src = r.src) && x.same r)) ++ [r] }))) ∧
  (∀ (v : LinkVia) (r o : Report) (n : Nat) (k : List Report) (s : State),
      v.dst ≠ none → s.choir.role = .precentor → s.reachable v.src = true → r.rank = some n →
      s.choir.ownReport = some o → o.beat = r.beat → o.rank = some n →
      k = (s.choir.reports.filter (fun x => !(decide (x.src = r.src) && x.same r)) ++ [r]).filter (fun x => x.same o) →
      s.liveMembers.all (fun i => k.any (fun x => decide (x.src = i))) = true →
      balanced (k.filter (fun x => s.liveMembers.contains x.src)) = true →
    (s.takeStage v r).choir.granted = some (r.beat, some n) ∧ (s.takeStage v r).choir.ownReport = none ∧
    SameBut [.choir, .out] s (s.takeStage v r)) ∧
  (∀ (r : Report) (n : Nat) (s : State), s.choir.ownReport = some r → n = s.ownBeatNo r.beat →
      (match r.rank with | some k => s.rankQuiet n k | none => s.stageQuiet n) = true →
    ∃ t, exec .reportRepeat s = .next t ∧ t = s.sendReport n r.rank ∧
      SameBut [.beat, .comm, .oap, .nvm, .choir, .od, .out] s t) ∧
  (∀ (r : Report) (n : Nat) (s : State), s.choir.ownReport = some r → s.choir.role ≠ .precentor →
      n = s.ownBeatNo r.beat → (match r.rank with | some k => s.rankQuiet n k | none => s.stageQuiet n) = false →
    ∃ t, exec .reportRepeat s = .next t ∧ t = s.linkToPrec r.kind r.bytes ∧ SameBut [.choir, .out] s t) ∧
  (∀ (n : Nat) (rank : Option Nat) (s : State), s.choir.role ≠ .precentor →
    s.sendReport n rank = (s.onChoir (fun c => { c with ownReport := some (s.ownReportOf n rank) })).linkToPrec
      (s.ownReportOf n rank).kind (s.ownReportOf n rank).bytes) ∧
  (∀ (v : LinkVia) (f : LinkFrame) (n : Nat) (s : State), f = ctrlFrame v 0x0E (switchBytes 0 n 0) →
      s.linkTakes v f (segCount (List.length (switchBytes 0 n 0))) = true →
    ∃ t, exec (.switchPrepare v n) s = .next t ∧ t = (((State.switchAnswer n) (s.linkGot v f)).linkRun.drainExports) ∧
      SameBut [.fabric, .choir, .od, .out] s t) ∧
  (∀ (n : Nat) (s : State), s.choir.role = .follower →
    s.switchAnswer n = s.linkToPrec 0x0E (switchBytes (if s.activateCode = 0 then 1 else 2) n s.activateCode)) ∧
  (∀ (v : LinkVia) (f : LinkFrame) (n : Nat) (s : State), f = ctrlFrame v 0x0E (switchBytes 1 n 0) →
      s.linkTakes v f (segCount (List.length (switchBytes 1 n 0))) = true →
    ∃ t, exec (.switchAccept v n) s = .next t ∧
      t = (((State.switchAccepted v.src n) (s.linkGot v f)).linkRun.drainExports) ∧
      SameBut [.oap, .nvm, .fabric, .choir, .od, .out] s t) ∧
  (∀ (src : Nat) (j : SwitchJob) (s : State), s.choir.switch = some j → s.choir.role = .precentor → src ∉ j.accepted →
    ((∃ i, i ∈ s.otherMembers ∧ i ∉ j.accepted ++ [src]) →
      s.switchAccepted src j.era = s.onChoir (fun c => { c with switch := some { j with accepted := j.accepted ++ [src] } })) ∧
    ((∀ i, i ∈ s.otherMembers → i ∈ j.accepted ++ [src]) → s.activateCode = 0 →
      (s.switchAccepted src j.era).choir.switch = none ∧ (s.switchAccepted src j.era).choir.switchEra = some (s.ownEra j.era) ∧
      (s.switchAccepted src j.era).nvm.pendingSwitch = s.validSlot)) ∧
  (∀ (v : LinkVia) (f : LinkFrame) (n : Nat) (status : BitVec 32) (s : State),
      f = ctrlFrame v 0x0E (switchBytes 2 n status.toNat) →
      s.linkTakes v f (segCount (List.length (switchBytes 2 n status.toNat))) = true →
    ∃ t, exec (.switchRefuse v n status) s = .next t ∧
      t = (((State.switchRefused n status.toNat) (s.linkGot v f)).linkRun.drainExports) ∧
      SameBut [.oap, .nvm, .fabric, .choir, .od, .out] s t) ∧
  (∀ (n status : Nat) (s : State), s.choir.role = .precentor →
    (∀ j, s.choir.switch = some j → j.era = n → s.switchRefused n status = s.switchCancel status) ∧
    (s.choir.switch = none → s.choir.switchLast = some n →
      s.switchRefused n status = s.book 0xE602 0x1E 1 (leBytes 4 Config.serial ++ leBytes 4 s.choir.generation))) ∧
  (∀ (j : SwitchJob) (s : State), s.choir.switch = some j → 
    ∃ t, exec .switchAcceptTimeout s = .next t ∧
      t = ((s.onChoir (fun c => { c with switch := none })).linkTo 0x0E .all (switchBytes 4 j.era 0)).answerTo j.asker 0x2300 8 0x08000020 ∧
      t.choir.switch = none ∧ SameBut [.oap, .choir, .out] s t) ∧
  (∀ (v : LinkVia) (f : LinkFrame) (n : Nat) (s : State), f = ctrlFrame v 0x0E (switchBytes 3 n 0) →
      s.linkTakes v f (segCount (List.length (switchBytes 3 n 0))) = true →
    ∃ t, exec (.switchCommit v n) s = .next t ∧ t = (((State.switchTaken n) (s.linkGot v f)).linkRun.drainExports) ∧
      SameBut [.nvm, .fabric, .choir, .od, .out] s t) ∧
  (∀ (n : Nat) (s : State), s.choir.role = .follower → s.validSlot.isSome = true → s.nvm.pendingSwitch = none →
    s.switchTaken n = { s with
      nvm := { s.nvm with pendingSwitch := s.validSlot, switchAt := s.now },
      choir := { s.choir with switchEra := some (s.ownEra n) } }) ∧
  (∀ (v : LinkVia) (f : LinkFrame) (n : Nat) (s : State), f = ctrlFrame v 0x0E (switchBytes 4 n 0) →
      s.linkTakes v f (segCount (List.length (switchBytes 4 n 0))) = true →
    ∃ t, exec (.switchCancel v n) s = .next t ∧ t = (((State.switchDropped n) (s.linkGot v f)).linkRun.drainExports) ∧
      SameBut [.nvm, .fabric, .choir, .od, .out] s t) ∧
  (∀ (n : Nat) (s : State), s.choir.role = .follower → s.choir.switchEra = some (s.ownEra n) →
    s.switchDropped n = { s with nvm := { s.nvm with pendingSwitch := none }, choir := { s.choir with switchEra := none } })

/-- Events, memory requests and forwarded requests cross the Choir: each of these messages, when it is taken, acts on the
state that has taken its frame: an EVENTS slot with a spike becomes an import with its beat and is counted, a slot of
no packet does nothing, one of a reserved type is dropped, one of a shed stage shed; the slots of a frame are taken a
flit of two at a time in order; the oldest import enters router 0 with a credit and is counted in the link ledger; a
MEM_REQ for this package reads or writes its window and is answered, an address out of reach is answered with its
kind; a response ends the request it names, a request without one in 10 ms ends with kind 6; a forwarded request is
served and answered to the precentor, a response passed to the host, a reset request with the own serial resets.
Completes: EVENTS (R375), GATEWAY_IMPORT (R375, R378), MEM_REQ, MEM_RSP (R379), REMOTE_REQUEST_TIMEOUT (R380), FORWARD
(03 R117) -/
def Obligations.ChoirTraffic : Prop :=
  (∀ (v : LinkVia) (f : LinkFrame) (vn1 : Bool) (slots : List (Bool × Packet)) (s : State),
      f = viaFrame v 8 (if vn1 then 2 else 1) (eventsField slots) (eventsBytes slots) → s.linkTakes v f 1 = true →
    ∃ t, exec (.events v vn1 slots) s = .next t ∧
      t = (((State.takeFlits v (if vn1 then 2 else 1) slots) (s.linkGot v f)).linkRun.drainExports) ∧
      SameBut [.beat, .comm, .oap, .nvm, .fabric, .choir, .power, .od, .out] s t) ∧
  (∀ (v : LinkVia) (cls no : Nat) (vn1 : Bool) (p : Packet) (s : State),
    (p.type = 4 → s.takeSlot v cls no vn1 p = s) ∧
    (p.type.toNat < 4 ∨ 8 ≤ p.type.toNat → s.flitShed (s.importFlit vn1 p) = false →
      (s.takeSlot v cls no vn1 p).choir.imports = s.choir.imports ++ [⟨s.importFlit vn1 p, some v.port.val, cls, no⟩] ∧
      tabGet 0 (s.takeSlot v cls no vn1 p).choir.imported v.src = tabGet 0 s.choir.imported v.src + 1 ∧
      SameBut [.choir] s (s.takeSlot v cls no vn1 p)) ∧
    (p.type = 5 ∨ p.type = 6 ∨ p.type = 7 → s.takeSlot v cls no vn1 p =
      (s.onChoir (fun c => { c with imported := tabMod 0 c.imported v.src (· + 1) })).linkDropped (s.importFlit vn1 p).target 1)) ∧
  (∀ (v : LinkVia) (cls : Nat) (a b : Bool × Packet) (l : List (Bool × Packet)) (s : State), s.reachable v.src = true →
    s.takeFlits v cls [] = s ∧ s.takeFlits v cls [a] = s.takeFlit v cls [a] ∧
    s.takeFlits v cls (a :: b :: l) = (s.takeFlit v cls [a, b]).takeFlits v cls l) ∧
  (∀ (e : Import) (rest : List Import) (s : State), s.choir.imports = e :: rest → s.credit (credKey 0 7 0) ≠ 0 →
      s.coreUp 0 = true → s.beat.hardHalt = false →
    ∃ t, exec .gatewayImport s = .next t ∧
      t = ((((((s.importDone e).linkTerm e.f.target (fun x => { x with imported := x.imported + 1 })).ledger e.f.target 0 1).useCredit
      (credKey 0 7 0)).sendTo 0 .w { e.f with vn1 := false, hops := 0, cls := none })).linkRun ∧
      t.choir.imports = rest ∧ t.credit (credKey 0 7 0) + 1 = s.credit (credKey 0 7 0) ∧
      SameBut [.fabric, .choir, .out] s t) ∧
  (∀ (v : LinkVia) (f : LinkFrame) (tag len : Nat) (wr : Bool) (addr : Addr) (data : List Byte) (s : State),
      f = viaFrame v 9 3 (0) (memBytes tag (b2n wr) len addr.toNat data) → s.linkTakes v f 1 = true →
    ∃ t, exec (.memReq v tag wr addr len data) s = .next t ∧
      t = (((State.takeMemReq v.src tag wr addr.toNat len data) (s.linkGot v f)).linkRun.drainExports) ∧
      SameBut [.nvm, .fabric, .memu, .choir, .od, .mem, .fresh, .out] s t) ∧
  (∀ (src tag len addr a : Nat) (data : List Byte) (s : State), s.choirMember = true → s.isLocal addr = true → a = offsetOf addr →
    (s.ncReadFail .remote a len = none →
      s.takeMemReq src tag false addr len data = s.memRespond src tag false addr 0 (s.bytesAt a len)) ∧
    (∀ f, s.ncReadFail .remote a len = some f →
      s.takeMemReq src tag false addr len data = (s.ncFailed 0x30 s.choir.ownId f).memRespond src tag false addr f.status []) ∧
    (s.rangeKind .remote true a data.length = none →
      s.takeMemReq src tag true addr len data = (s.ncWrite a data).memRespond src tag true addr 0 []) ∧
    (∀ k b, s.rangeKind .remote true a data.length = some (k, b) →
      s.takeMemReq src tag true addr len data = (s.ncFailed 0x30 s.choir.ownId (.kind k b)).memRespond src tag true addr k [])) ∧
  (∀ (v : LinkVia) (f : LinkFrame) (tag status : Nat) (wr : Bool) (addr : Addr) (data : List Byte) (s : State),
      f = viaFrame v 0x0A 4 (0) (rspBytes tag wr addr.toNat status data) → s.linkTakes v f 1 = true →
    ∃ t, exec (.memRsp v tag wr addr status data) s = .next t ∧
      t = (((State.takeMemRsp tag status data) (s.linkGot v f)).linkRun.drainExports) ∧
      SameBut [.nvm, .fabric, .memu, .choir, .od, .mem, .fresh, .out] s t) ∧
  (∀ (tag c : Nat) (r : RemoteReq) (data : List Byte) (s u : State), s.takeRequest tag = some (r, u) → r.who = .cantorLoad c →
    s.takeMemRsp tag 0 data = (u.emit (.read c (leNum (slice data 0 r.len)))).fencesDone ∧
    (s.memu.waitq = [] → u = s.onMem (fun m => { m with remote := dropFirst (fun x => decide (x.tag = tag)) m.remote }))) ∧
  (∀ (tag : Nat) (r : RemoteReq) (u : State) (s : State), s.takeRequest tag = some (r, u) → 
    ∃ t, exec (.remoteRequestTimeout tag) s = .next t ∧
      t = (((u.upTo (r.sentAt + 10000)).requestFailed r 6).book 0xE604 0x1E 1 (leBytes 1 r.dest ++ leBytes 6 (offsetOf r.addr))).requestNext r ∧
      (∀ c, r.who = .cantorLoad c → .trap c 5 r.addr ∈ t.out) ∧
      SameBut [.now, .nvm, .fabric, .memu, .choir, .mem, .fresh, .out] s t) ∧
  (∀ (v : LinkVia) (f : LinkFrame) (m : ForwardMsg) (s : State), f = ctrlFrame v 0x0D (forwardBytes m) →
      s.linkTakes v f (segCount (List.length (forwardBytes m))) = true →
    ∃ t, exec (.forward v m) s = .next t ∧ t = (((State.takeForward v.src m) (s.linkGot v f)).linkRun.drainExports) ∧
      SameBut [.beat, .comm, .oap, .nvm, .ports, .fabric, .press, .queue, .memu, .trellis, .choir, .zone, .belt, .audio, .island, .power, .video, .boot, .od, .inForce, .wtime, .regs, .mem, .fresh, .out] s t) ∧
  (∀ (src type : Nat) (h : OapHdr) (data : List Byte) (s : State), s.boot.st = .running → s.choirMember = true →
      src = s.choir.precentor → s.takeForward src (.request h type data) = s.serveForward src h type data) ∧
  (∀ (src : Nat) (h : OapHdr) (data : List Byte) (r : Nat × List Byte × State) (s : State), data.length = 4 →
      r = s.serveRead (numAt data 0 2) (numAt data 2 1) →
    s.serveForward src h 0x10 data = r.2.2.forwardAnswer src h 0x10 r.1 r.2.1) ∧
  (∀ (src host type f : Nat) (token : BitVec 64) (seq status : BitVec 32) (data : List Byte) (s : State),
      s.boot.st = .running → s.oap.forwarded = [(host, f, token, seq, src)] →
    s.takeForward src (.response host type token seq status data) =
      s.viaRespond (host, f, token, seq, src) status.toNat data ∧
    (s.takeForward src (.response host type token seq status data)).oap.forwarded = []) ∧
  (∀ (src : Nat) (s : State), s.boot.st = .running → s.power.st ≠ .off → s.power.st ≠ .standby →
    (s.takeForward src (.reset Config.serial)).boot.st = .resetting ∧ (s.takeForward src (.reset Config.serial)).boot.cause = 5 ∧
    s.takeForward src (.reset Config.serial) = s.resetStart 5)

/-- Gate inputs are debounced, watched and stepped through the sequence machine: the level of a pin is taken, after
INVERT, by an input whose source it is, and by no other; a raw change is kept with its stamp and the DEBOUNCE of that
moment until the debounce has passed, or makes the gate chatter; the oldest change of a gate is accepted after
DEBOUNCE and steps the machine, and a passage counts at the gate, at the zone it bounds and in the last event; a stuck
input and a lost source are faults; a fault is cleared by its command when its condition is gone; ENABLE 1 enters SYNC
when both inputs match, ENABLE 0 enters IDLE; a source word is taken, or refused, and disturbs the zones the gate
bounds. Completes: GATE_RAW_CHANGE (R394, R395, R400), GATE_CHANGE_ACCEPTED (R398, R399), GATE_STUCK (R401),
GATE_SOURCE_LOST (R396), GATE_FAULT_CLEAR (R402), GATE_ENABLE, GATE_DISABLE (R405), SOURCE_WRITE (R394, R410) while
the package runs and NMT is not STOPPED -/
def Obligations.GatesCountPassages : Prop :=
  (∀ (g : Fin 8) (b high : Bool) (stamp : Nat) (s : State),
      srcKind (s.srcOf g b) ≠ 0 ∨ ((s.gate g).input b).raw = (high ^^ (s.srcOf g b).testBit 7) →
    ∃ t, exec (.gateRawChange g b high stamp) s = .next t ∧ t.now = max s.now stamp ∧ t.pin g b = high ∧ (∀ h, t.gate h = s.gate h) ∧
      SameBut [.now, .zone] s t) ∧
  (∀ (g : Fin 8) (b high level : Bool) (stamp : Nat) (l : List Nat) (s : State), srcKind (s.srcOf g b) = 0 →
      level = (high ^^ (s.srcOf g b).testBit 7) → ((s.gate g).input b).raw ≠ level →
      l = stamp :: (((s.gate g).input b).changes.filter (fun c => decide (stamp < c + 1000 * s.ent (gateIdx g) 6))) →
    (l.length ≤ s.ent (gateIdx g) 5 →
      ∃ t, exec (.gateRawChange g b high stamp) s = .next t ∧ t.now = max s.now stamp ∧ t.pin g b = high ∧
        (t.gate g).input b = { (s.gate g).input b with
          raw := level, since := (if ((s.gate g).input b).accepted = level then none else some stamp), changes := l,
          debounce := s.ent (gateIdx g) 4 } ∧
        (t.gate g).input (!b) = (s.gate g).input (!b) ∧ (t.gate g).seq = (s.gate g).seq ∧ (∀ h, h ≠ g.val → t.gate h = s.gate h) ∧ SameBut [.now, .zone] s t) ∧
    (s.ent (gateIdx g) 5 < l.length → 0 < s.ent (gateIdx g) 6 → s.gateOn g = true → (s.gate g).seq ≠ .faulted →
      ∃ t, exec (.gateRawChange g b high stamp) s = .next t ∧ (t.gate g).seq = .faulted ∧ (t.gate g).fault = 2 ∧
        (t.gate g).faultInput = b ∧ (∀ h, h ≠ g.val → t.gate h = s.gate h) ∧ SameBut [.now, .comm, .oap, .nvm, .zone, .od, .out] s t)) ∧
  (∀ (g : Fin 8) (st due : Nat) (x : Gate) (s : State), (s.gate g).oldest = some (st, due) → x = (s.gate g).takeAt st (max s.now due) →
    ∃ t, exec (.gateChangeAccepted g) s = .next t ∧ t.now = max s.now due ∧ (∀ h, h ≠ g.val → t.gate h = s.gate h) ∧ SameBut [.now, .comm, .oap, .nvm, .zone, .od, .out] s t ∧
      t.gate g = { x with seq := if s.gateOn g then (seqStep x.seq x.a.accepted x.b.accepted).1 else x.seq }) ∧
  (∀ (g : Fin 8) (st due : Nat) (z : Fin 4) (x : Gate) (s : State), (s.gate g).oldest = some (st, due) → s.gateOn g = true →
      x = (s.gate g).takeAt st (max s.now due) → seqStep x.seq x.a.accepted x.b.accepted = (.idle, .countIn) →
      s.bound z g = 1 → (∀ y, y < 4 → y ≠ z.val → s.bound y g = 0) → 0 ≤ (s.zoneOf z).count + 1 →
      (s.zoneOf z).count + 1 ≤ (s.ent (zoneIdx z) 4 : Int) → (s.zoneOf z).count + 1 ≤ 32767 → (s.zoneOf z).st ≠ .restoring →
    ∃ t, exec (.gateChangeAccepted g) s = .next t ∧ (t.zoneOf z).count = (s.zoneOf z).count + 1 ∧
      t.ent (gateIdx g) 12 = satAdd max32 (s.ent (gateIdx g) 12) 1 ∧ t.zone.countSeq = s.zone.countSeq + 1 ∧
      t.zone.lastEvent = leBytes 4 (s.zone.countSeq + 1).toNat ++ leBytes 1 g ++ leBytes 1 1 ++ leBytes 2 0 ++ leBytes 8 st) ∧
  (∀ (g : Fin 8) (b : Bool) (h : Nat) (s : State), s.gateOn g = true → (s.gate g).seq ≠ .faulted →
      ((s.gate g).input b).accepted = true →
      h = (if s.accrues g b then ((s.gate g).input b).active + (s.now - ((s.gate g).input b).activeAt) else ((s.gate g).input b).active) →
      s.accrues g b = true ∨ 1000 * s.ent (gateIdx g) 7 + 1 ≤ h →
    ∃ t, exec (.gateStuck g b) s = .next t ∧ t.now = s.now + (1000 * s.ent (gateIdx g) 7 + 1 - h) ∧ (t.gate g).seq = .faulted ∧
      (t.gate g).fault = 1 ∧ (t.gate g).faultInput = b ∧ (∀ h, h ≠ g.val → t.gate h = s.gate h) ∧ SameBut [.now, .comm, .oap, .nvm, .zone, .od, .out] s t) ∧
  (∀ (g : Fin 8) (b : Bool) (at' : Nat) (s : State), s.inputStall g b = some at' → (b = true → s.inputStall g false = none) →
      s.gateOn g = true → (s.gate g).seq ≠ .faulted →
    ∃ t, exec (.gateSourceLost g) s = .next t ∧ t.now = max s.now (at' + 100001) ∧ (t.gate g).seq = .faulted ∧ (t.gate g).fault = 3 ∧
      (t.gate g).faultInput = b ∧ (∀ h, h ≠ g.val → t.gate h = s.gate h) ∧ SameBut [.now, .comm, .oap, .nvm, .zone, .od, .out] s t) ∧
  (∀ (g : Fin 8) (s : State), s.boot.st = .running → s.comm.nmt ≠ .stopped → s.writeCheck (gateIdx g) 11 1 = 0 →
    (s.gateClearOk g = true → ∃ t, exec (.gateFaultClear g) s = .next t ∧ (t.gate g).seq = .sync ∧ (t.gate g).fault = 0 ∧ (∀ h, h ≠ g.val → t.gate h = s.gate h) ∧
      SameBut [.comm, .oap, .nvm, .zone, .od, .out] s t) ∧
    (s.gateClearOk g = false → exec (.gateFaultClear g) s = .next { s with out := .status 0x08000020 :: s.out })) ∧
  (∀ (g : Fin 8) (s : State), s.boot.st = .running → s.comm.nmt ≠ .stopped → s.writeCheck (gateIdx g) 1 1 = 0 →
    (s.inputsMatch g = true → ∃ t, exec (.gateEnable g) s = .next t ∧ t.ent (gateIdx g) 1 = 1 ∧
      (t.gate g).seq = (if (s.gate g).seq = .faulted then .faulted else .sync) ∧ (∀ h, h ≠ g.val → t.gate h = s.gate h) ∧ SameBut [.comm, .oap, .nvm, .zone, .od, .out] s t) ∧
    (s.inputsMatch g = false → exec (.gateEnable g) s = .next { s with out := .status 0x06090030 :: s.out })) ∧
  (∀ (g : Fin 8) (s : State), s.boot.st = .running → s.comm.nmt ≠ .stopped → s.writeCheck (gateIdx g) 1 0 = 0 →
    ∃ t, exec (.gateDisable g) s = .next t ∧ t.ent (gateIdx g) 1 = 0 ∧
      (t.gate g).seq = (if (s.gate g).seq = .faulted then .faulted else .idle) ∧ (∀ h, h ≠ g.val → t.gate h = s.gate h) ∧ SameBut [.comm, .oap, .nvm, .zone, .od, .out] s t) ∧
  (∀ (g : Fin 8) (b : Bool) (v : BitVec 32) (s : State), s.boot.st = .running →
      s.writeCheck (gateIdx g) (if b then 3 else 2) v.toNat = 0 →
    (s.srcOk v.toNat = true → ∃ t, exec (.sourceWrite g b v) s = .next t ∧ t.srcOf g b = v.toNat ∧
      (∀ z, z < 4 → s.bound z g ≠ 0 → (t.zoneOf z).st = .disturbed ∧ (t.zoneOf z).cause.getLsbD 6 = true) ∧
      (∀ h, h ≠ g.val → t.gate h = s.gate h) ∧ SameBut [.comm, .oap, .nvm, .zone, .od, .out] s t) ∧
    (s.srcOk v.toNat = false → exec (.sourceWrite g b v) s = .next { s with out := .status 0x06090030 :: s.out }))

/-- Zones take boundaries, are disturbed and restored: a BOUNDARY with the code 3 is refused, any other disturbs the zone,
0 leaving it unused with count 0, and an unused zone by 0 is not disturbed; a restore by count sets the count and
clears the causes at once, one by verdict or weight leaves RESTORING with its time; a disturb command leaves
DISTURBED; a restore that times out is DISTURBED again, recorded; a bagging weight below its limit restores a zone
that waits for it, one with a reserved bit is refused. Completes: BOUNDARY_WRITE (R410), ZONE_RESTORE, ZONE_DISTURB
(R411, R413), RESTORE_TIMEOUT (R412), BAGGING_WEIGHT_WRITE (R414, R415) while the package runs and NMT is not STOPPED -/
def Obligations.ZonesAreDisturbedAndRestored : Prop :=
  (∀ (z : Fin 4) (v : BitVec 16) (s : State), s.boot.st = .running → s.comm.nmt ≠ .stopped → s.writeCheck (zoneIdx z) 3 v.toNat = 0 →
    ((∃ g, g < 8 ∧ bits v.toNat (2 * g) 2 = 3) →
      exec (.boundaryWrite z v) s = .next { s with out := .status 0x06090030 :: s.out }) ∧
    (v = 0 → s.unusedZone z = true → ∃ t, exec (.boundaryWrite z v) s = .next t ∧ t.zoneOf z = { s.zoneOf z with count := 0 } ∧
      t.unusedZone z = true ∧ (∀ y, y ≠ z.val → t.zoneOf y = s.zoneOf y) ∧ SameBut [.comm, .oap, .nvm, .zone, .od, .out] s t) ∧
    (v = 0 → s.unusedZone z = false → ∃ t, exec (.boundaryWrite z v) s = .next t ∧ (t.zoneOf z).st = .disturbed ∧
      (t.zoneOf z).cause = (s.zoneOf z).cause ||| 0x40 ∧ (t.zoneOf z).count = 0 ∧ t.unusedZone z = true ∧ (∀ y, y ≠ z.val → t.zoneOf y = s.zoneOf y) ∧ SameBut [.comm, .oap, .nvm, .zone, .od, .out] s t) ∧
    (v ≠ 0 → (∀ g, g < 8 → bits v.toNat (2 * g) 2 ≠ 3) →
      ∃ t, exec (.boundaryWrite z v) s = .next t ∧ t.ent (zoneIdx z) 3 = v.toNat ∧ (t.zoneOf z).st = .disturbed ∧
        (t.zoneOf z).cause = (s.zoneOf z).cause ||| 0x40 ∧ (t.zoneOf z).count = (s.zoneOf z).count ∧
        (∀ h, t.gate h = s.gate h) ∧ SameBut [.comm, .oap, .nvm, .zone, .od, .out] s t)) ∧
  (∀ (z : Fin 4) (v : BitVec 16) (s : State), s.boot.st = .running → s.comm.nmt ≠ .stopped → s.writeCheck (zoneIdx z) 7 (1 + v.toNat * 65536) = 0 →
      0 ≤ sext 16 v.toNat → sext 16 v.toNat ≤ (s.ent (zoneIdx z) 4 : Int) → s.unusedZone z = false →
      (s.zoneOf z).st = .disturbed ∨ (s.zoneOf z).st = .restoring → (∀ g, g < 8 → s.bound z g ≠ 0 → (s.gate g).seq ≠ .faulted) →
    (s.ent (zoneIdx z) 6 = 0 → ∃ t, exec (.zoneRestore z v) s = .next t ∧
      (t.zoneOf z).count = sext 16 v.toNat ∧ (t.zoneOf z).cause = 0 ∧
      (t.zoneOf z).st = (if s.zoneBusy z then .occupied else .clear) ∧ (∀ y, y ≠ z.val → t.zoneOf y = s.zoneOf y) ∧ SameBut [.comm, .oap, .nvm, .zone, .out] s t) ∧
    (s.ent (zoneIdx z) 6 ≠ 0 → v = 0 → ∃ t, exec (.zoneRestore z v) s = .next t ∧
      t.zoneOf z = { s.zoneOf z with st := .restoring, restoreAt := s.now, method := s.ent (zoneIdx z) 6, run := 0 } ∧ (∀ y, y ≠ z.val → t.zoneOf y = s.zoneOf y) ∧
      SameBut [.zone, .out] s t)) ∧
  (∀ (z : Fin 4) (s : State), s.boot.st = .running → s.comm.nmt ≠ .stopped → s.writeCheck (zoneIdx z) 7 2 = 0 → s.unusedZone z = false →
    ∃ t, exec (.zoneDisturb z) s = .next t ∧ (t.zoneOf z).st = .disturbed ∧ (t.zoneOf z).cause = (s.zoneOf z).cause ||| 0x10 ∧
      (t.zoneOf z).count = (s.zoneOf z).count ∧ (∀ y, y ≠ z.val → t.zoneOf y = s.zoneOf y) ∧ SameBut [.comm, .oap, .nvm, .zone, .od, .out] s t) ∧
  (∀ (z : Fin 4) (s : State), (s.zoneOf z).st = .restoring →
    ∃ t, exec (.restoreTimeout z) s = .next t ∧ t.now = max s.now ((s.zoneOf z).restoreAt + 1000 * s.ent (zoneIdx z) 11) ∧
      t.zoneOf z = { s.zoneOf z with st := .disturbed, cause := (s.zoneOf z).cause ||| 0x20 } ∧
      (s.nvm.staged.length < 64 → ∃ r, t.nvm.staged = s.nvm.staged ++ [r] ∧ r.code = 0xE701 ∧ r.severity = 1) ∧ (∀ y, y ≠ z.val → t.zoneOf y = s.zoneOf y) ∧
      SameBut [.now, .nvm, .zone] s t) ∧
  (∀ (z : Fin 4) (v : BitVec 64) (s : State), s.boot.st = .running → s.comm.nmt ≠ .stopped → s.writeCheck (zoneIdx z) 10 v.toNat = 0 →
    (weightBad v.toNat = true → exec (.baggingWeightWrite z v) s = .next { s with out := .status 0x06090030 :: s.out }) ∧
    (weightBad v.toNat = false → (s.zoneOf z).st ≠ .restoring →
      ∃ t, exec (.baggingWeightWrite z v) s = .next t ∧ t.ent (zoneIdx z) 10 = v.toNat ∧ SameBut [.od, .out] s t) ∧
    (weightBad v.toNat = false → (s.zoneOf z).st = .restoring → (s.zoneOf z).method = 2 → v.toNat.testBit 32 = true →
        v.toNat.testBit 33 = false → sext 32 v.toNat ≤ s.entI (zoneIdx z) 9 32 → s.zoneBusy z = false →
      ∃ t, exec (.baggingWeightWrite z v) s = .next t ∧ (t.zoneOf z).st = .clear ∧ (t.zoneOf z).count = 0 ∧ (t.zoneOf z).cause = 0 ∧
        t.ent (zoneIdx z) 10 = v.toNat ∧ (∀ y, y ≠ z.val → t.zoneOf y = s.zoneOf y) ∧ SameBut [.comm, .oap, .nvm, .zone, .od, .out] s t))

/-- The belt's sensors are tracked and its speed loop moves: a Hall edge to the next code of the sequence is a forward
edge, to the one before a backward edge, any other counts as invalid; an encoder edge moves the position, the index
latches it; the speed estimate comes from the encoder where there is one and else from the Hall edges, and a
difference of the two is kept with its time; a speed-loop step of a driven belt moves the reference one millisecond
toward its goal and sets the duty from its gains, the error and the integral (in what scale, the spec leaves open, log
entry 16); a limited cycle of an active drive is kept with the time since when they follow each other, and one below
the limit ends the run. Completes: HALL_EDGE (R423, R424), QEP_EDGE, INDEX_LATCH (R425), SPEED_ESTIMATE (R424),
SPEED_LOOP_STEP (R426), CURRENT_LIMIT_CYCLE (R428) -/
def Obligations.BeltSensorsAndLoop : Prop :=
  (∀ (code : Fin 8) (ns : Nat) (s : State), code.val ≠ s.belt.hall → hallNext s.belt.hall = code.val → 
    ∃ t, exec (.hallEdge code ns) s = .next t ∧
      t = (((s.upTo (ns / 1000)).beltSync).onBelt (fun b => Belt.commutate { b with
        hall := code.val, hallBadAt := if hallBad code.val then some (ns / 1000) else none } ns)).onBelt (fun b => { b with hallTrack := b.hallTrack.edge true ns }) ∧
      t.now = max s.now (ns / 1000) ∧ t.belt.hall = code.val ∧
      t.belt.hallBadAt = (if hallBad code.val then some (ns / 1000) else none) ∧
      t.belt.hallTrack = s.belt.hallTrack.edge true ns ∧ SameBut [.now, .belt] s t) ∧
  (∀ (code : Fin 8) (ns : Nat) (s : State), code.val ≠ s.belt.hall → hallNext s.belt.hall ≠ code.val →
      hallNext code.val = s.belt.hall →
    ∃ t, exec (.hallEdge code ns) s = .next t ∧
      t = (((s.upTo (ns / 1000)).beltSync).onBelt (fun b => Belt.commutate { b with
        hall := code.val, hallBadAt := if hallBad code.val then some (ns / 1000) else none } ns)).onBelt (fun b => { b with hallTrack := b.hallTrack.edge false ns }) ∧
      t.now = max s.now (ns / 1000) ∧ t.belt.hall = code.val ∧
      t.belt.hallBadAt = (if hallBad code.val then some (ns / 1000) else none) ∧
      t.belt.hallTrack = s.belt.hallTrack.edge false ns ∧ SameBut [.now, .belt] s t) ∧
  (∀ (code : Fin 8) (ns : Nat) (s : State), code.val ≠ s.belt.hall → hallNext s.belt.hall ≠ code.val →
      hallNext code.val ≠ s.belt.hall →
    ∃ t, exec (.hallEdge code ns) s = .next t ∧
      t = (((s.upTo (ns / 1000)).beltSync).onBelt (fun b => Belt.commutate { b with
        hall := code.val, hallBadAt := if hallBad code.val then some (ns / 1000) else none } ns)).count 0x6200 0x1A 1 ∧
      t.now = max s.now (ns / 1000) ∧ t.belt.hall = code.val ∧
      t.belt.hallBadAt = (if hallBad code.val then some (ns / 1000) else none) ∧ t.belt.hallTrack = s.belt.hallTrack ∧
      t.ent 0x6200 0x1A = satAdd max32 (s.ent 0x6200 0x1A) 1 ∧ SameBut [.now, .belt, .od] s t) ∧
  (∀ (fwd : Bool) (ns : Nat) (s : State),
    exec (.qepEdge fwd ns) s = .next { s with
      now := max s.now (ns / 1000),
      belt := { s.belt with position := (if fwd then s.belt.position + 1 else s.belt.position - 1), qepTrack := s.belt.qepTrack.edge fwd ns } }) ∧
  (∀ s : State, exec .indexLatch s = .next { s with belt := { s.belt with indexPos := s.belt.position } }) ∧
  (∀ (h v : Int) (s : State), h = s.belt.hallTrack.speed s.hallPerM (s.now * 1000) →
      v = (if s.encPerM = 0 then h else s.belt.qepTrack.speed s.encPerM (s.now * 1000)) →
    ∃ t, exec .speedEstimate s = .next t ∧ t.belt.hallSpeed = h ∧ t.belt.speed = v ∧
      t.belt.differAt = (if s.encPerM ≠ 0 ∧ speedsDiffer v h = true then some (s.belt.differAt.getD s.now) else none) ∧
      SameBut [.zone, .belt] s t) ∧
  (∀ (r e : Int) (s : State), s.stoOn = true → s.belt.st.driven = true →
      r = (if s.belt.st = .braking then 0 else stepReference s.belt.reference s.beltGoal (s.ent 0x6200 4) (s.ent 0x6200 5)) →
      e = r.tdiv 1000 - mmPerS s.belt.speed →
    ∃ t, exec .speedLoopStep s = .next t ∧ t.belt.speed = s.belt.speed ∧ SameBut [.belt] s t ∧
      (s.belt.st = .running ∨ s.atRest = false → t.belt.st = s.belt.st ∧ t.belt.reference = r ∧ t.belt.integral = s.belt.integral + e ∧
        t.belt.duty = clampI (-65536) 65536 (Config.loopDuty s.belt.kp s.belt.ki e (s.belt.integral + e)))) ∧
  (∀ (ref goal : Int) (acc dec : Nat), (0 ≤ ref ∧ ref < goal → stepReference ref goal acc dec = min goal (ref + acc)) ∧
    (0 ≤ goal ∧ goal < ref → stepReference ref goal acc dec = max goal (ref - dec)) ∧
    (0 < ref ∧ goal < 0 → stepReference ref goal acc dec = max 0 (ref - dec))) ∧
  (∀ (uv : Nat) (s : State), s.stoOn = true → s.belt.st.active = true →
    (s.ent 0x6200 10 ≤ s.shuntMa uv → exec (.currentLimitCycle uv) s = .next { s with
      belt := { s.belt with current := min 0xFFFF (s.shuntMa uv), limitedSince := some (s.belt.limitedFrom s.now), limitedAt := s.now } }) ∧
    (s.shuntMa uv < s.ent 0x6200 10 → exec (.currentLimitCycle uv) s = .next { s with
      belt := { s.belt with current := min 0xFFFF (s.shuntMa uv), limitedSince := none } }))

/-- The belt drive starts, stops, faults and obeys STO: a run of an OFF drive that nothing refuses observes for 20 ms,
then runs from rest, joins a belt that moves the right way at its speed, or brakes one that does not; a run that is
refused is answered with its code; a stop ramps a running drive down and ends an observing one; each fault of an
active drive leaves FAULT with its cause, no duty and no step, with its error condition or record; the fault is
cleared at rest; STO de-energised leaves STO with no duty before any other row, energised leaves OFF. Completes:
BELT_RUN, BELT_STOP, BELT_FAULT_CLEAR (R429, R431), OBSERVATION_END, BRAKING_TIMEOUT, STOPPING_TIMEOUT (R429),
FAST_TRIP, SUSTAINED_LIMIT (R428), HALL_INVALID (R423), SENSOR_MISMATCH (R425), STO_DE_ENERGISED, STO_ENERGISED (R421,
R429) -/
def Obligations.BeltStatesChange : Prop :=
  (∀ s : State, s.boot.st = .running → s.comm.nmt ≠ .stopped → s.writeCheck 0x6200 2 1 = 0 → (s.belt.st = .sto ↔ s.stoOn = false) →
    (s.runRefused = 0 → s.belt.st = .off → ∃ t, exec .beltRun s = .next t ∧ t.belt = { s.belt with
        st := .observing, timer := s.now, stopPending := false,
        pwmHz := s.ent 0x6200 12, deadNs := s.ent 0x6200 13, kp := s.ent 0x6200 14, ki := s.ent 0x6200 15 } ∧
      t.ent 0x6200 0x17 = satAdd max32 (s.ent 0x6200 0x17) 1 ∧ SameBut [.belt, .od, .out] s t) ∧
    (s.runRefused = 0 → s.belt.st = .stopping →
      exec .beltRun s = .next { s with belt := { s.belt with st := .running }, out := .status 0 :: s.out }) ∧
    (s.runRefused ≠ 0 → exec .beltRun s = .next { s with out := .status s.runRefused :: s.out })) ∧
  (∀ s : State, s.boot.st = .running → s.comm.nmt ≠ .stopped → s.writeCheck 0x6200 2 2 = 0 → s.stoOn = true →
    (s.belt.st = .running → exec .beltStop s = .next { s with
      belt := { s.belt with st := .stopping, stopCause := 1, timer := s.now + s.belt.reference.natAbs * 1000 / s.ent 0x6200 5 + 2000000 },
      out := .status 0 :: s.out }) ∧
    (s.belt.st = .observing → exec .beltStop s = .next { s with
      belt := { s.belt.idle with st := .off, stopCause := 1 }, out := .status 0 :: s.out })) ∧
  (∀ s : State, s.boot.st = .running → s.comm.nmt ≠ .stopped → s.writeCheck 0x6200 2 3 = 0 → s.stoOn = true → s.belt.st = .fault →
      s.atRest = true → (s.belt.fault = 4 → hallBad s.belt.hall = false) → (s.belt.fault = 5 → s.mismatch = false) →
    ∃ t, exec .beltFaultClear s = .next t ∧ t.belt = { s.belt with st := .off, fault := 0 } ∧ t.condOn 0xFF50 0x1B 0 = false ∧
      t.condOn 0xFF51 0x1B 0 = false ∧ SameBut [.comm, .oap, .nvm, .belt, .out] s t) ∧
  (∀ (v target : Int) (s : State), s.stoOn = true → s.belt.st = .observing → v = s.belt.speed → target = s.entI 0x6200 3 16 →
    ∃ t, exec .observationEnd s = .next t ∧ t.now = max s.now (s.belt.timer + 20000) ∧ SameBut [.now, .belt, .od] s t ∧
      (s.atRest = true → t.belt = s.belt.startNormal) ∧
      (s.atRest = false → 0 < v ∧ 0 < target ∨ v < 0 ∧ target < 0 →
        t.belt.st = .running ∧ t.belt.reference = v ∧ t.belt.integral = 0 ∧
        t.belt.duty = (v * 65536).tdiv (s.ent 0x6200 9 * 1000 : Nat) ∧ t.ent 0x6200 0x18 = satAdd max32 (s.ent 0x6200 0x18) 1) ∧
      (s.atRest = false → ¬ (0 < v ∧ 0 < target ∨ v < 0 ∧ target < 0) →
        t.belt.st = .braking ∧ t.belt.timer = t.now ∧ t.belt.reference = 0 ∧ t.ent 0x6200 0x19 = satAdd max32 (s.ent 0x6200 0x19) 1)) ∧
  (∀ (s : State), s.stoOn = true → s.belt.st = .braking → s.atRest = false → 
    ∃ t, exec .brakingTimeout s = .next t ∧ t = (s.upTo (s.belt.timer + 2000000)).beltFault 1 ∧
      t.now = max s.now (s.belt.timer + 2000000) ∧
      t.belt = { (s.belt).idle with st := .fault, fault := 1, stopCause := 6 } ∧
      (s.boot.st = .running → t.condOn 0xFF50 0x1B 0 = true) ∧ SameBut [.now, .comm, .oap, .nvm, .belt, .out] s t) ∧
  (∀ (s : State), s.stoOn = true → s.belt.st = .stopping → s.atRest = false ∨ s.belt.reference ≠ 0 → 
    ∃ t, exec .stoppingTimeout s = .next t ∧ t = (s.upTo s.belt.timer).beltFault 1 ∧ t.now = max s.now s.belt.timer ∧
      t.belt = { (s.belt).idle with st := .fault, fault := 1, stopCause := 6 } ∧
      (s.boot.st = .running → t.condOn 0xFF50 0x1B 0 = true) ∧ SameBut [.now, .comm, .oap, .nvm, .belt, .out] s t) ∧
  (∀ (s : State), s.stoOn = true → s.belt.st = .stopping → s.atRest = true → s.belt.reference = 0 → 
    ∃ t, exec .stoppingTimeout s = .next t ∧ t = s.onBelt (fun b => { b.idle with st := .off }) ∧ SameBut [.belt] s t) ∧
  (∀ (uv : Nat) (node : Bool) (s : State), s.stoOn = true → s.belt.st.active = true →
      node = true ∨ 3 * s.ent 0x6200 10 ≤ 2 * s.shuntMa uv →
    ∃ t, exec (.fastTrip uv node) s = .next t ∧
      t = (s.onBelt (fun b => { b with current := min 0xFFFF (s.shuntMa uv) })).beltFault 2 ∧
      t.belt = { ({ s.belt with current := min 0xFFFF (s.shuntMa uv) }).idle with st := .fault, fault := 2, stopCause := 6 } ∧
      (s.boot.st = .running → t.condOn 0xFF51 0x1B 0 = true) ∧ SameBut [.comm, .oap, .nvm, .belt, .out] s t) ∧
  (∀ (a : Nat) (s : State), s.stoOn = true → s.belt.st.active = true → s.belt.limitedSince = some a →
      s.belt.nextCycle s.belt.limitedAt (max s.now (a + 1000000)) = true →
    ∃ t, exec .sustainedLimit s = .next t ∧ t = (s.upTo (a + 1000000)).beltFault 3 ∧ t.now = max s.now (a + 1000000) ∧
      t.belt = { (s.belt).idle with st := .fault, fault := 3, stopCause := 6 } ∧
      (s.boot.st = .running → t.condOn 0xFF51 0x1B 0 = true) ∧ SameBut [.now, .comm, .oap, .nvm, .belt, .out] s t) ∧
  (∀ (a : Nat) (s : State), s.stoOn = true → s.belt.st.active = true → s.belt.hallBadAt = some a →
      hallBad s.belt.hall = true →
    ∃ t, exec .hallInvalid s = .next t ∧ t = (s.upTo (a + 100)).beltFault 4 ∧ t.now = max s.now (a + 100) ∧
      t.belt = { (s.belt).idle with st := .fault, fault := 4, stopCause := 6 } ∧
      (s.nvm.staged.length < 64 → ∃ r, t.nvm.staged = s.nvm.staged ++ [r] ∧ r.code = 0xE7A0) ∧
      SameBut [.now, .nvm, .belt] s t) ∧
  (∀ (a : Nat) (s : State), s.stoOn = true → s.belt.st.active = true → s.belt.differAt = some a →
      s.mismatch = true →
    ∃ t, exec .sensorMismatch s = .next t ∧ t = (s.upTo (a + 200000)).beltFault 5 ∧ t.now = max s.now (a + 200000) ∧
      t.belt = { (s.belt).idle with st := .fault, fault := 5, stopCause := 6 } ∧
      (s.nvm.staged.length < 64 → ∃ r, t.nvm.staged = s.nvm.staged ++ [r] ∧ r.code = 0xE7A0) ∧
      SameBut [.now, .nvm, .belt] s t) ∧
  (∀ s : State, s.belt.st ≠ .sto → s.stoOn = false →
    exec .stoDeEnergised s = .next { s with belt := { s.belt.idle with st := .sto, stopCause := 4 } } ∧
    (∀ c, (s.beltFault c) = { s with belt := { s.belt.idle with st := .sto, stopCause := 4 } })) ∧
  (∀ s : State, s.belt.st = .sto → s.stoOn = true →
    exec .stoEnergised s = .next { s with belt := { s.belt with st := .off } })

/-- The audio output reads its ring, moves its gain, trips and recovers: ENABLE 1 takes a valid ring with READ at WRITE
and refuses a bad one with CONFIG_ERROR; a write within the ring is taken; a frame tick reads one frame into the
channels that play, at the level its gain and limit give, or counts an underrun; a gain write starts that channel's
move from the gain it has to the one set; a soft start ends in PLAYING; the fourth limited cycle in a row trips the
channel, the fourth trip in 10 s latches it; a tripped channel tries again after 250 ms; a DC fault and a hot stage
stop it; the clear commands let a latched one go on. Completes: AUDIO_ENABLE, AUDIO_WRITE (R436), AUDIO_FRAME_TICK
(R435, R437), AUDIO_MUTE_WRITE (R438), SOFT_START_END (R439), AUDIO_LIMITED_CYCLE (R440), AUDIO_RETRY (R441),
AUDIO_DC_FAULT (R442), STAGE_TEMPERATURE_CHANGE (R443), AUDIO_CLEAR_CH0, AUDIO_CLEAR_CH1 (R441) -/
def Obligations.AudioChannelsPlay : Prop :=
  (∀ s : State, s.hasUnit 6 = true →
    (s.audioRingOk = true → exec .audioEnable s = .next { s with audio := { s.audio with enable := true, rd := s.audio.wr } }) ∧
    (s.audioRingOk = false → exec .audioEnable s = .next { s with audio := { s.audio with configError := true } })) ∧
  (∀ (v : BitVec 32) (s : State), s.hasUnit 6 = true →
    ((v - s.audio.rd).toNat ≤ s.ringFrames → (s.audio.wr - s.audio.rd).toNat ≤ (v - s.audio.rd).toNat →
      exec (.audioWrite v) s = .next { s with audio := { s.audio with wr := v } }) ∧
    (s.ringFrames < (v - s.audio.rd).toNat ∨ (v - s.audio.rd).toNat < (s.audio.wr - s.audio.rd).toNat →
      exec (.audioWrite v) s = .next { s with audio := { s.audio with writeError := true } })) ∧
  (∀ (a b : BitVec 16) (s : State), s.audio.enable = true → s.audio.wr ≠ s.audio.rd →
      a = BitVec.ofNat 16 (s.memNum (s.audio.base % 2 ^ 44 + 4 * (s.audio.rd.toNat % s.ringFrames)) 2) →
      b = BitVec.ofNat 16 (s.memNum (s.audio.base % 2 ^ 44 + 4 * (s.audio.rd.toNat % s.ringFrames) + 2) 2) →
    ∃ t, exec .audioFrameTick s = .next t ∧ t.audio.rd = s.audio.rd + 1 ∧
      (s.audio.ch0.st.plays = true → t.audio.ch0 = { s.audio.ch0 with sample := a, out := s.outLevel 0 a.toInt }) ∧
      (s.audio.ch1.st.plays = true → t.audio.ch1 = { s.audio.ch1 with sample := b, out := s.outLevel 1 b.toInt }) ∧
      (s.audio.ch0.st.plays = false → t.audio.ch0 = { s.audio.ch0 with sample := 0, out := 0 }) ∧
      (s.audio.ch1.st.plays = false → t.audio.ch1 = { s.audio.ch1 with sample := 0, out := 0 }) ∧ SameBut [.audio] s t) ∧
  (∀ s : State, s.audio.enable = true → s.audio.wr = s.audio.rd →
    ∃ t, exec .audioFrameTick s = .next t ∧ t.audio.underrun = true ∧ t.audio.ch0.sample = 0 ∧ t.audio.ch1.sample = 0 ∧
      t.audio.ch0.out = 0 ∧ t.audio.ch1.out = 0 ∧
      t.ent 0x6400 0x0C = satAdd max32 (s.ent 0x6400 0x0C) 1 ∧ SameBut [.audio, .od] s t) ∧
  (∀ (f : AudioField) (v : Nat) (s : State), s.boot.st = .running → s.comm.nmt ≠ .stopped → s.writeCheck 0x6400 (audioSub f) v = 0 →
    ∃ t, exec (.audioMuteWrite f v) s = .next t ∧ t.ent 0x6400 (audioSub f) = v ∧
      (f ≠ .attenuation1 → t.audio.ch0.rampAt = s.now ∧ t.audio.ch0.gainTo = t.gainSet 0 ∧ t.audio.ch0.limitTo = t.peakSet ∧
        t.audio.ch0.gainFrom = moved s.audio.ch0.gainFrom s.audio.ch0.gainTo s.audio.ch0.rampAt 10000 s.now) ∧
      (f = .attenuation1 → t.audio.ch0.rampAt = s.audio.ch0.rampAt ∧ t.audio.ch0.gainTo = s.audio.ch0.gainTo) ∧
      (f ≠ .attenuation0 → t.audio.ch1.rampAt = s.now ∧ t.audio.ch1.gainTo = t.gainSet 1) ∧
      (f = .attenuation0 → t.audio.ch1.rampAt = s.audio.ch1.rampAt ∧ t.audio.ch1.gainTo = s.audio.ch1.gainTo) ∧
      (f = .mute → v = 1 → s.audio.ch0.st = .playing → t.audio.ch0.st = .muted) ∧ SameBut [.audio, .od, .wtime, .out] s t) ∧
  (∀ (ch : Fin 2) (s : State), (s.chan ch).st = .softStart →
    ∃ t, exec (.softStartEnd ch) s = .next t ∧ t.now = max s.now ((s.chan ch).softAt + 20000) ∧
      t.chan ch = { s.chan ch with st := .playing } ∧ (∀ e : Fin 2, e ≠ ch → t.chan e = s.chan e) ∧ SameBut [.now, .audio] s t) ∧
  (∀ (ch : Fin 2) (sides : BitVec 4) (s : State), (s.chan ch).st.switching = true →
    ((s.limitedRow ch).1 < 3 → ∃ t, exec (.audioLimitedCycle ch sides) s = .next t ∧
      t.chan ch = { s.chan ch with
        limited := (s.limitedRow ch).1 + 1, sides := (s.limitedRow ch).2 ||| sides, limitedAt := s.now } ∧ (∀ e : Fin 2, e ≠ ch → t.chan e = s.chan e) ∧
      SameBut [.audio] s t) ∧
    (3 ≤ (s.limitedRow ch).1 → ∃ t, exec (.audioLimitedCycle ch sides) s = .next t ∧
      (t.chan ch).st = (if 3 ≤ (s.recentRetries ch).length then .latched else .tripped) ∧ (t.chan ch).trippedAt = s.now ∧
      (t.chan ch).tripInfo = ((s.limitedRow ch).2 ||| sides).zeroExtend 8 ∧ (t.chan ch).limited = 0 ∧
      (3 ≤ (s.recentRetries ch).length → s.boot.st = .running → t.condOn 0xFF60 0x1C ch = true) ∧ (∀ e : Fin 2, e ≠ ch → t.chan e = s.chan e) ∧
      SameBut [.comm, .oap, .nvm, .audio, .od, .out] s t)) ∧
  (∀ (ch : Fin 2) (s : State), (s.chan ch).st = .tripped →
    ∃ t, exec (.audioRetry ch) s = .next t ∧ t.now = max s.now ((s.chan ch).trippedAt + 250000) ∧
      (t.chan ch).st = (if s.audio.hot then .thermal else if s.chanMuted ch then .muted else .softStart) ∧ t.now ∈ (t.chan ch).retries ∧
      (∀ e : Fin 2, e ≠ ch → t.chan e = s.chan e) ∧ SameBut [.now, .audio] s t) ∧
  (∀ (ch : Fin 2) (mv : BitVec 16) (s : State), (s.chan ch).st.switching = true → 1000 < mv.toInt.natAbs →
    ∃ t, exec (.audioDcFault ch mv) s = .next t ∧ t.chan ch = { s.chan ch with st := .dcFault } ∧ (∀ e : Fin 2, e ≠ ch → t.chan e = s.chan e) ∧ SameBut [.nvm, .audio] s t) ∧
  (∀ (tenths : Int) (s : State),
    ∃ t, exec (.stageTemperatureChange tenths) s = .next t ∧ t.audio.temperature = tenths ∧
      (1300 ≤ tenths → t.audio.lowered = true) ∧ (tenths < 1200 → t.audio.lowered = false ∧ t.audio.hot = false) ∧
      (1500 ≤ tenths → t.audio.hot = true ∧ (s.audio.ch0.st = .playing → t.audio.ch0.st = .thermal ∧
        (s.boot.st = .running → t.condOn 0x4210 0x02 0 = true))) ∧
      (tenths < 1500 → s.audio.ch0.st ≠ .thermal → t.audio.ch0.st = s.audio.ch0.st) ∧
      (tenths < 1200 → s.audio.ch0.st = .thermal → t.audio.ch0.st = if s.chanMuted 0 then .muted else .softStart) ∧
      SameBut [.comm, .oap, .nvm, .audio, .out] s t) ∧
  (∀ s : State, s.boot.st = .running → s.comm.nmt ≠ .stopped → s.writeCheck 0x6400 7 1 = 0 →
    ((s.chan 0).st = .latched ∨ (s.chan 0).st = .dcFault → ∃ t, exec .audioClearCh0 s = .next t ∧
      t = ((((s.onChan 0 (fun c => { c with retries := [] })).chanResume 0).endCond 0xFF60 0x1C 0).answer 0) ∧
      (t.chan 0).st = (if s.audio.hot then .thermal else if s.chanMuted 0 then .muted else .softStart) ∧
      t.chan 1 = s.chan 1 ∧ SameBut [.comm, .oap, .nvm, .audio, .out] s t) ∧
    ((s.chan 0).st ≠ .latched → (s.chan 0).st ≠ .dcFault →
      exec .audioClearCh0 s = .next { s with out := .status 0x08000020 :: s.out })) ∧
  (∀ s : State, s.boot.st = .running → s.comm.nmt ≠ .stopped → s.writeCheck 0x6400 7 2 = 0 →
    ((s.chan 1).st = .latched ∨ (s.chan 1).st = .dcFault → ∃ t, exec .audioClearCh1 s = .next t ∧
      t = ((((s.onChan 1 (fun c => { c with retries := [] })).chanResume 1).endCond 0xFF60 0x1C 1).answer 0) ∧
      (t.chan 1).st = (if s.audio.hot then .thermal else if s.chanMuted 1 then .muted else .softStart) ∧
      t.chan 0 = s.chan 0 ∧ SameBut [.comm, .oap, .nvm, .audio, .out] s t) ∧
    ((s.chan 1).st ≠ .latched → (s.chan 1).st ≠ .dcFault →
      exec .audioClearCh1 s = .next { s with out := .status 0x08000020 :: s.out }))

/-- The island takes its inputs, watches the speed and de-energises STO on a demand: every cycle counts the mirror and
writes it from the state it leaves; a demanded STOP input of an energised island leaves it LOCKED with cause 2 and STO
off, without a demand or a fault it stays ENERGISED; an accepted level is the channel's level; a test pulse missed
twice and one seen on the other channel are channel faults, a split pair and split speeds after their time; the expiry
of the SLS ramp above the limit, of degraded mode and of the feedback time lock with their causes; an accepted reset
request energises where nothing demands, one that is not accepted leaves the state; 24 hours energised set TEST_DUE.
Completes: SAFETY_CYCLE (R449, R457), SAFETY_INPUT_ACCEPTED (R451, R453), TEST_PULSE (R452), DISCREPANCY_TIMEOUT
(R454), SPEED_DISCREPANCY (R456), RESET_REQUEST (R455, R458), SLS_RAMP_EXPIRY (R459), DEGRADED_EXPIRY (R462),
STO_FEEDBACK_TIMEOUT (R460), TEST_DUE_TIMER (R461), all while VDD_SAFE is present (01 R38) -/
def Obligations.SafetyDemandsLockTheIsland : Prop :=
  (∀ (fa fb : Bool) (s : State), s.island.held = false → ∃ t, exec (.safetyCycle fa fb) s = .next t ∧ t.island.fbA = fa ∧ t.island.fbB = fb ∧
    t.island.mirror = s.island.mirror + 1 ∧ t.island.mirrorSt = t.island.st ∧
    t.island.snap = t.mirrorValues ∧ t.island.snapBlock = s.island.block ∧ SameBut [.comm, .oap, .nvm, .island, .fresh, .out] s t) ∧
  (∀ (fa fb : Bool) (n : Fin 4) (s : State), s.island.held = false → s.island.st = .energised → s.scfg.fn n = 1 → (s.sin n).a = false ∨ (s.sin n).b = false →
    ∃ t, exec (.safetyCycle fa fb) s = .next t ∧ t.island.st = .locked ∧ t.island.lockCause = 2 ∧ t.island.stoA = false ∧ t.island.stoB = false ∧
      (s.boot.st = .running → t.condOn 0xFF71 0x1F 0 = true)) ∧
  (∀ (fa fb : Bool) (s : State), s.island.held = false → s.island.st = .energised → (∀ n, n < 4 → s.demandsOf n = false) → s.faultsNow = [] →
    ∃ t, exec (.safetyCycle fa fb) s = .next t ∧ t.island.st = .energised ∧ t.island.lockCause = s.island.lockCause) ∧
  (∀ (n : Fin 4) (b on : Bool) (since : Nat) (s : State), s.island.held = false → 
    ∃ t, exec (.safetyInputAccepted n b on since) s = .next t ∧
      t.now = max s.now (since + s.holdTime n b on since - s.island.epoch) ∧ (if b then (t.sin n).b else (t.sin n).a) = on ∧
      (if b then (t.sin n).a else (t.sin n).b) = (if b then (s.sin n).a else (s.sin n).b) ∧ (∀ m, m ≠ n.val → t.sin m = s.sin m) ∧
      t.island = { s.island with sins := t.island.sins } ∧ SameBut [.now, .island] s t) ∧
  (∀ (tp1 : Bool) (o : PulseSeen) (s : State), s.island.held = false → s.scfg.pulsed o.n = true → s.scfg.fn o.n ≠ 0 →
    ∃ t, exec (.testPulse tp1 [o]) s = .next t ∧ t.now = max s.now (s.island.pulseDue tp1 - s.island.epoch) ∧
      (if tp1 then t.island.tp1At else t.island.tp0At) = some (t.now + s.island.epoch) ∧ SameBut [.now, .nvm, .island] s t ∧
      (o.b = tp1 → o.shown = false → 1 ≤ (if o.b then (s.sin o.n).missB else (s.sin o.n).missA) →
        (if o.b then (s.sin o.n).b else (s.sin o.n).a) = true →
        (if o.b then (t.sin o.n).faultB else (t.sin o.n).faultA).getLsbD 1 = true) ∧
      (o.b = tp1 → o.shown = true → (if o.b then (t.sin o.n).missB else (t.sin o.n).missA) = 0) ∧
      (o.b ≠ tp1 → o.shown = true → (t.sin o.n).faultA.getLsbD 2 = true ∧ (t.sin o.n).faultB.getLsbD 2 = true)) ∧
  (∀ (n : Fin 4) (at' : Nat) (s : State), s.island.held = false → s.scfg.fn n = 1 ∨ s.scfg.fn n = 2 ∨ s.scfg.fn n = 3 → (s.sin n).splitAt = some at' →
    ∃ t, exec (.discrepancyTimeout n) s = .next t ∧ t.now = max s.now (at' + s.scfg.discrepancyMs * 1000 - s.island.epoch) ∧
      (if (s.sin n).lateB then (t.sin n).faultB else (t.sin n).faultA).getLsbD 0 = true ∧ (∀ m, m ≠ n.val → t.sin m = s.sin m) ∧ SameBut [.now, .nvm, .island] s t) ∧
  (∀ (at' : Nat) (s : State), s.island.held = false → s.island.speedSplit = some at' → s.island.speedFault = false →
    ∃ t, exec .speedDiscrepancy s = .next t ∧ t.now = max s.now (at' + s.scfg.speedDiscMs * 1000 - s.island.epoch) ∧
      t.island = { s.island with speedFault := true, speedAgree := none, speedRest := none } ∧ SameBut [.now, .nvm, .island, .fresh] s t) ∧
  (∀ (n : Fin 4) (s : State), s.island.held = false → s.scfg.fn n = 4 → (s.sin n).a = false → (s.sin n).pressAt.isSome = true → (s.resetOk = true →
    ∃ t, exec (.resetRequest n) s = .next t ∧ t.island.st = (if s.fnDemanded 3 then .sls else .energised) ∧ t.island.lockCause = 0 ∧
      (s.island.stopLine = false → t.island.stoA = true ∧ t.island.stoB = true) ∧ (s.island.stopLine = true → t.island.stoA = false ∧ t.island.stoB = false) ∧
      (t.sin n).pressAt = none ∧ t.condOn 0xFF71 0x1F 0 = false ∧ (∀ m, m ≠ n.val → t.sin m = s.sin m) ∧ SameBut [.comm, .oap, .nvm, .island, .out] s t) ∧
   (s.resetOk = false → ∃ t, exec (.resetRequest n) s = .next t ∧ t.island = { s.island with sins := t.island.sins } ∧
      (t.sin n).pressAt = none ∧ (∀ m, m ≠ n.val → t.sin m = s.sin m) ∧ SameBut [.nvm, .island] s t)) ∧
  (∀ (at' : Nat) (s : State), s.island.held = false → s.island.st = .degraded → s.island.degradedAt = some at' →
    ∃ t, exec .degradedExpiry s = .next t ∧ t.now = max s.now (at' + s.scfg.degradedS * 1000000 - s.island.epoch) ∧
      t.island.st = .locked ∧ t.island.lockCause = 7 ∧ t.island.stoA = false ∧ t.island.stoB = false ∧ SameBut [.now, .comm, .oap, .nvm, .island, .out] s t) ∧
  (∀ s : State, s.island.held = false → s.island.st = .sls → s.island.slsBound = false →
    ∃ t, exec .slsRampExpiry s = .next t ∧ t.now = max s.now (s.island.slsAt + s.scfg.slsRamp * 1000 - s.island.epoch) ∧
      (s.slsLimit < s.safeSpeed → t.island.st = .locked ∧ t.island.lockCause = 5 ∧ t.island.stoA = false ∧ t.island.stoB = false) ∧
      (s.safeSpeed ≤ s.slsLimit → t.island = { s.island with slsBound := true }) ∧ SameBut [.now, .comm, .oap, .nvm, .island, .out] s t) ∧
  (∀ (at' : Nat) (s : State), s.island.held = false → s.island.fbSplit = some at' → s.island.st = .energised ∨ s.island.st = .stopped →
    ∃ t, exec .stoFeedbackTimeout s = .next t ∧ t.now = max s.now (at' + 1000 * s.scfg.stoFbMs + 1 - s.island.epoch) ∧
      t.island.st = .locked ∧ t.island.lockCause = 8 ∧ t.island.stoA = false ∧ t.island.stoB = false ∧ t.island.fbSplit = none ∧
      SameBut [.now, .comm, .oap, .nvm, .island, .out] s t) ∧
  (∀ (at' : Nat) (s : State), s.island.held = false → s.island.energisedAt = some at' → s.island.testDue = false →
    ∃ t, exec .testDueTimer s = .next t ∧ t.now = max s.now (at' + 86400000000 - s.island.epoch) ∧
      t.island = { s.island with testDue := true } ∧ SameBut [.now, .nvm, .island] s t)

/-- The island restarts, completes its self-test and takes a parameter block: the ordinary stop line takes STO off, its
release energises an island that may; a lockstep mismatch, the watchdog and a VDD_SAFE fault leave SELFTEST with STO
off and their cause for its end, a failed clock check locks with cause 10; a passed self-test leaves FAULT without a
configuration, LOCKED with the cause of a restart, ENERGISED where power-up reset is configured and nothing demands,
else LOCKED with cause 1; a block in order with the access code is kept with a confirm code (a free value), the right
confirmation starts the write, its completion puts the block in force in both copies and locks with cause 12; 60 s
without confirmation end the transfer; an output in current limit turns off; while VDD_SAFE is lost nothing moves the
island. Completes: ORDINARY_STOP_LINE (R448), LOCKSTEP_MISMATCH, ISLAND_WATCHDOG, CLOCK_CHECK_FAIL (R457, R463),
VDD_SAFE_FAULT, ISLAND_POWER_UP (01 R38), SELFTEST_COMPLETE (R457), SAFETY_PARAM_BLOCK, SAFETY_CONFIRM,
TRANSFER_WRITE_COMPLETE, TRANSFER_TIMEOUT (R467 to R470), STO_CURRENT_LIMIT_OFF (18 R555) -/
def Obligations.TheIslandRestartsAndIsConfigured : Prop :=
  (∀ s : State, exec (.ordinaryStopLine true) s =
    .next { s with island := { s.island with stopLine := true, stoA := false, stoB := false, energisedAt := none } }) ∧
  (∀ s : State, s.boot.st = .running → s.power.st = .idle ∨ s.power.st = .active → s.island.st.on = true → s.island.held = false →
      s.island.fbA = false →
      s.island.fbB = false → s.island.stoA = false →
    exec (.ordinaryStopLine false) s = .next { s with island := { s.island with
      stopLine := false, stoA := true, stoB := true, limitedA := false, limitedB := false, energisedAt := some s.inow } }) ∧
  (∀ s : State, s.island.held = false → 
    ∃ t, exec .lockstepMismatch s = .next t ∧ t.island.st = .selftest ∧ t.island.lockCause = 9 ∧ t.island.restartCause = some 9 ∧ t.island.stoA = false ∧ t.island.stoB = false ∧
      t.island.held = false ∧ (s.boot.st = .running → t.condOn 0xFF71 0x1F 0 = true) ∧ SameBut [.comm, .oap, .nvm, .memu, .choir, .island, .mem, .fresh, .out] s t) ∧
  (∀ s : State, s.island.held = false → 
    ∃ t, exec .islandWatchdog s = .next t ∧ t.island.st = .selftest ∧ t.island.lockCause = 11 ∧ t.island.restartCause = some 11 ∧ t.island.stoA = false ∧ t.island.stoB = false ∧
      t.island.held = false ∧ (s.boot.st = .running → t.condOn 0xFF71 0x1F 0 = true) ∧ SameBut [.comm, .oap, .nvm, .memu, .choir, .island, .mem, .fresh, .out] s t) ∧
  (∀ s : State, s.island.held = false → 
    ∃ t, exec .vddSafeFault s = .next t ∧ t.island.st = .selftest ∧ t.island.lockCause = 1 ∧ t.island.restartCause = some 1 ∧ t.island.stoA = false ∧ t.island.stoB = false ∧
      t.island.held = true ∧ (s.boot.st = .running → t.condOn 0xFF71 0x1F 0 = true) ∧ SameBut [.comm, .oap, .nvm, .memu, .choir, .island, .mem, .fresh, .out] s t) ∧
  (∀ (fa fb b on : Bool) (n : Fin 4) (k : Nat) (l : List PulseSeen) (ppm : Int) (s : State), s.island.held = true →
    exec (.safetyCycle fa fb) s = .next s ∧
    exec (.safetyInputAccepted n b on k) s = .next s ∧
    exec (.testPulse b l) s = .next s ∧
    exec (.discrepancyTimeout n) s = .next s ∧
    exec (.speedDiscrepancy) s = .next s ∧
    exec (.resetRequest n) s = .next s ∧
    exec (.degradedExpiry) s = .next s ∧
    exec (.slsRampExpiry) s = .next s ∧
    exec (.stoFeedbackTimeout) s = .next s ∧
    exec (.testDueTimer) s = .next s ∧
    exec (.selftestComplete b) s = .next s ∧
    exec (.clockCheckFail ppm) s = .next s ∧
    exec (.stoCurrentLimitOff b) s = .next s) ∧
  (∀ (ppm : Int) (s : State), s.island.held = false → s.island.st ≠ .selftest → s.island.st ≠ .locked →
    ∃ t, exec (.clockCheckFail ppm) s = .next t ∧ t.island.st = .locked ∧ t.island.lockCause = 10 ∧ t.island.stoA = false ∧ t.island.stoB = false ∧
      t.island.clockPpm = clampI (-2147483648) 2147483647 ppm ∧ SameBut [.comm, .oap, .nvm, .island, .out] s t) ∧
  (∀ s : State, ∃ t, exec .islandPowerUp s = .next t ∧ t.island.st = .selftest ∧ t.island.stoA = false ∧ t.island.stoB = false ∧ t.island.sins = [] ∧ t.island.held = false ∧
    (s.island.held = false → t.island.lockCause = 0 ∧ t.island.restartCause = none) ∧ SameBut [.comm, .oap, .nvm, .memu, .choir, .island, .mem, .fresh, .out] s t) ∧
  (∀ s : State, s.island.held = false → s.island.st = .selftest →
    (s.island.cfg = none → exec (.selftestComplete true) s =
      .next { s with island := { s.island with restartCause := none, st := .fault } }) ∧
    (∀ c, s.island.cfg ≠ none → s.island.restartCause = some c → exec (.selftestComplete true) s =
      .next { s with island := { s.island with restartCause := none, st := .locked, lockCause := c } }) ∧
    (s.island.cfg ≠ none → s.island.restartCause = none → s.scfg.powerupReset ≠ 1 → exec (.selftestComplete true) s =
      .next { s with island := { s.island with st := .locked, lockCause := 1 } }) ∧
    (s.island.cfg ≠ none → s.island.restartCause = none → s.scfg.powerupReset = 1 → s.faultsNow = [] →
        (∀ n, n < 4 → s.demandsOf n = false) →
      ∃ t, exec (.selftestComplete true) s = .next t ∧ t.island.st = .energised ∧ SameBut [.island] s t) ∧
    (∃ t, exec (.selftestComplete false) s = .next t ∧ t.island.st = .selftest ∧ t.island.restartCause = some 9 ∧ t.island.stoA = false ∧ t.island.stoB = false ∧
      SameBut [.comm, .oap, .nvm, .memu, .choir, .island, .mem, .fresh, .out] s t)) ∧
  (∀ (data : List Byte) (s : State), s.boot.st = .running → s.comm.nmt = .preOperational → data.length = 64 →
      numAt data 8 4 = s.scfg.accessCode → s.island.st = .locked ∨ s.island.st = .fault → s.island.transfer ≠ 2 →
    (blockOk data = true → ∃ t, exec (.safetyParamBlock data) s = .next t ∧
      t.island = { s.island with
        echo := data, confirm := t.island.confirm, transfer := 1, transferAt := s.inow, transferStatus := 0 } ∧
      1 ≤ t.island.confirm ∧ t.island.confirm ≤ 65535 ∧ t.out = .status 0 :: s.out ∧ SameBut [.island, .fresh, .out] s t) ∧
    (blockOk data = false → exec (.safetyParamBlock data) s = .next { s with out := .status 0x06090030 :: s.out })) ∧
  (∀ (data : List Byte) (s : State), s.boot.st = .running → s.comm.nmt = .preOperational → data.length = 8 → s.island.transfer = 1 →
      s.inow ≤ s.island.transferAt + 60000000 →
    (numAt data 0 2 = s.island.confirm → numAt data 2 2 = 0 → numAt data 4 4 = numAt s.island.echo 60 4 →
      exec (.safetyConfirm data) s = .next { s with island := { s.island with transfer := 2, transferFor := .local } }) ∧
    (numAt data 0 2 ≠ s.island.confirm → exec (.safetyConfirm data) s = .next { s with
      island := { s.island with transfer := 4, confirm := 0, echo := [], transferStatus := 0x0F000030 },
      out := .status 0x0F000030 :: s.out })) ∧
  (∀ s : State, s.island.held = false → s.island.transfer = 2 → s.island.echo.length = 64 →
    ∃ t, exec .transferWriteComplete s = .next t ∧ t.island.st = .locked ∧ t.island.lockCause = 12 ∧ t.island.transfer = 3 ∧ t.island.stoA = false ∧ t.island.stoB = false ∧
      t.island.cfg = some (blockCfg s.island.echo) ∧ t.island.generation = (s.island.generation + 1) % 2 ^ 32 ∧
      t.bytesAt (copyBase 0) 64 = s.island.echo ∧ t.bytesAt (copyBase 1) 64 = s.island.echo ∧
      SameBut [.oap, .nvm, .memu, .choir, .island, .mem, .out] s t) ∧
  (∀ s : State, s.island.held = false → s.island.transfer = 1 →
    ∃ t, exec .transferTimeout s = .next t ∧ t.now = max s.now (s.island.transferAt + 60000000 - s.island.epoch) ∧
      t.island = { s.island with transfer := 4, confirm := 0, echo := [], transferStatus := 0 } ∧ SameBut [.now, .island] s t) ∧
  (∀ s : State, s.island.held = false → (s.island.stoA = true → exec (.stoCurrentLimitOff false) s =
      .next { s with island := { s.island with limitedA := true } }) ∧
    (s.island.stoB = true → exec (.stoCurrentLimitOff true) s = .next { s with island := { s.island with limitedB := true } }))

/-- The power manager shuts down, powers on, parks, stands by and changes its operating point: low VIN, a rail fault, a
regulator fault and a junction of 125 °C take a powered device to OFF with their cause, STO off and everything but
MRAM lost; a cooler sample is kept, raising the over-temperature condition from 110 °C; power-on starts time and beat
at 0, and the island keeps its state where its supply stayed up; a brownout parks and stops the belt, its end unparks;
STANDBY keeps the beat number, MRAM and DRAM places, and is refused in OPERATIONAL; a wake leads to a reset with cause
6; a PVID frame is sent again once, 12 µs after it (the 12 µs the model's choice, log entry 77); a point change
commands its voltage first and is complete when it has settled; a tile not needed loses its content and is gated.
Completes: VIN_LOW_SHUTDOWN (R477), RAIL_FAULT, REGULATOR_FAULT (R479, R484), TEMPERATURE_SAMPLE (R493, R494),
BROWNOUT_WARNING, BROWNOUT_END (R482), VCORE_SETTLED, OPERATING_POINT_CHANGE (R481, R490) of a powered device;
POWER_ON (R476) of one that is off and, after an over-temperature, cool; STANDBY_REQUEST (R485) of an idle one outside
OPERATIONAL; WAKE (R485) in STANDBY; PVID_RESEND (R480) while power is on; TILE_GATE (R495) of a tile not needed and
not busy -/
def Obligations.PowerStatesAndOperatingPoints : Prop :=
  (∀ (mv : Nat) (s : State), (s.power.st = .idle ∨ s.power.st = .active) → mv < 14000 → 
    ∃ t, exec (.vinLowShutdown mv) s = .next t ∧ t.power.vin = mv ∧ t.power.st = .off ∧ t.power.offCause = 1 ∧
      t.island.stoA = false ∧ t.island.stoB = false ∧ t.od = [] ∧ t.boot = { fuses := s.boot.fuses } ∧
      (∀ a, inMram a = false → t.byteAt a = 0) ∧
      SameBut [.beat, .comm, .oap, .nvm, .ports, .fabric, .press, .queue, .memu, .trellis, .choir, .zone, .belt, .audio, .island, .power, .video, .boot, .od, .inForce, .wtime, .regs, .mem, .fresh, .out] s t) ∧
  (∀ (s : State), (s.power.st = .idle ∨ s.power.st = .active) → 
    ∃ t, exec .railFault s = .next t ∧ t.power.st = .off ∧ t.power.offCause = 6 ∧ t.island.stoA = false ∧
      t.island.stoB = false ∧ t.od = [] ∧ t.boot = { fuses := s.boot.fuses } ∧ (∀ a, inMram a = false → t.byteAt a = 0) ∧
      SameBut [.beat, .comm, .oap, .nvm, .ports, .fabric, .press, .queue, .memu, .trellis, .choir, .zone, .belt, .audio, .island, .power, .video, .boot, .od, .inForce, .wtime, .regs, .mem, .fresh, .out] s t) ∧
  (∀ (st : BitVec 12) (s : State), (s.power.st = .idle ∨ s.power.st = .active) → 
    ∃ t, exec (.regulatorFault st) s = .next t ∧ t.power.st = .off ∧ t.power.offCause = 5 ∧ t.island.stoA = false ∧
      t.island.stoB = false ∧ t.od = [] ∧ t.boot = { fuses := s.boot.fuses } ∧ (∀ a, inMram a = false → t.byteAt a = 0) ∧
      SameBut [.beat, .comm, .oap, .nvm, .ports, .fabric, .press, .queue, .memu, .trellis, .choir, .zone, .belt, .audio, .island, .power, .video, .boot, .od, .inForce, .wtime, .regs, .mem, .fresh, .out] s t) ∧
  (∀ (hub : Int) (l : List Int) (s : State), (s.power.st = .idle ∨ s.power.st = .active) → 1250 ≤ hub → 
    ∃ t, exec (.temperatureSample hub l) s = .next t ∧ t.power.hubTemp = hub ∧ t.power.st = .off ∧
      t.power.offCause = 4 ∧ t.island.stoA = false ∧ t.island.stoB = false ∧ t.od = [] ∧
      t.boot = { fuses := s.boot.fuses } ∧ (∀ a, inMram a = false → t.byteAt a = 0) ∧
      SameBut [.beat, .comm, .oap, .nvm, .ports, .fabric, .press, .queue, .memu, .trellis, .choir, .zone, .belt, .audio, .island, .power, .video, .boot, .od, .inForce, .wtime, .regs, .mem, .fresh, .out] s t) ∧
  (∀ (hub : Int) (l : List Int) (s : State), (s.power.st = .idle ∨ s.power.st = .active) → hub < 1250 →
      s.power.tileTemp < 1250 → (∀ x, x ∈ l → x < 1250) →
    ∃ t, exec (.temperatureSample hub l) s = .next t ∧ t.power.hubTemp = hub ∧ t.power.st = s.power.st ∧
      (s.boot.st = .running → 1100 ≤ hub → t.condOn 0x4210 0x02 0 = true) ∧
      SameBut [.comm, .oap, .nvm, .power, .out] s t) ∧
  (∀ (c : Bool) (s : State), s.power.st = .off → (s.power.offCause = 4 → s.power.hubTemp < 900) → 
    ∃ t, exec (.powerOn c) s = .next t ∧ t.now = 0 ∧ t.beat = {} ∧ t.power.st = .idle ∧ t.power.offCause = 0 ∧
      (c = true → t.island = { s.island with epoch := s.island.epoch + s.now }) ∧
      (c = false → t.island.st = .selftest ∧ t.island.stoA = false ∧ t.island.stoB = false) ∧
      SameBut [.now, .beat, .comm, .oap, .nvm, .memu, .choir, .belt, .island, .power, .boot, .mem, .fresh, .out] s t) ∧
  (∀ (mv : Nat) (s : State), (s.power.st = .idle ∨ s.power.st = .active) → mv < 16000 → s.power.park = false → 
    ∃ t, exec (.brownoutWarning mv) s = .next t ∧ t.power.park = true ∧ t.power.vin = mv ∧
      (s.boot.st = .running → t.condOn 0x3120 2 0 = true) ∧ t.ent 0x2200 0xB = satAdd max32 (s.ent 0x2200 0xB) 1 ∧
      (s.belt.st = .running → s.stoOn = true → t.belt.st = .stopping ∧ t.belt.stopCause = 5) ∧
      SameBut [.comm, .oap, .nvm, .belt, .audio, .power, .od, .out] s t) ∧
  (∀ (mv : Nat) (s : State), (s.power.st = .idle ∨ s.power.st = .active) → 17000 ≤ mv → s.power.park = true → 
    ∃ t, exec (.brownoutEnd mv) s = .next t ∧ t.power.park = false ∧ t.power.vin = mv ∧ t.condOn 0x3120 2 0 = false ∧
      SameBut [.comm, .oap, .nvm, .audio, .power, .out] s t) ∧
  (∀ (s : State), s.boot.st = .running → s.comm.nmt = .operational → s.writeCheck 0x2200 2 1 = 0 → 
    exec .standbyRequest s = .next ({ s with out := .status 0x08000022 :: s.out })) ∧
  (∀ (s : State), s.boot.st = .running → s.comm.nmt ≠ .operational → s.comm.nmt ≠ .stopped →
      s.writeCheck 0x2200 2 1 = 0 → s.storing = true →
    exec .standbyRequest s = .next ({ s with out := .status 0x0F000020 :: s.out })) ∧
  (∀ (s : State), s.boot.st = .running → s.comm.nmt ≠ .operational → s.comm.nmt ≠ .stopped →
      s.writeCheck 0x2200 2 1 = 0 → s.storing = false → s.power.st = .idle →
    ∃ t, exec .standbyRequest s = .next t ∧ t.power.st = .standby ∧ t.boot.st = .booting ∧
      t.beat.number = s.beat.number ∧ t.beat.start = s.beat.start ∧ t.island.stoA = false ∧ t.island.stoB = false ∧
      t.od = [] ∧ (∀ a, inMram a = false → inDram a = false → t.byteAt a = 0) ∧
      SameBut [.beat, .comm, .oap, .nvm, .ports, .fabric, .press, .queue, .memu, .trellis, .choir, .zone, .belt, .audio, .island, .power, .video, .boot, .od, .inForce, .wtime, .regs, .mem, .fresh, .out] s t) ∧
  (∀ (s : State), s.boot.st = .running → s.comm.nmt ≠ .operational → s.comm.nmt ≠ .stopped →
      s.writeCheck 0x2200 2 1 = 0 → s.storing = false → s.power.st = .active →
    ∃ t, exec .standbyRequest s = .next t ∧ t.ent 0x2200 2 = 1 ∧ t.out = .status 0 :: s.out ∧
      SameBut [.od, .wtime, .out] s t) ∧
  (∀ (src : WakeSrc) (s : State), s.power.st = .standby → s.boot.st = .booting →
      (∀ p, src = .insertion p → p.val < s.portCount ∧ s.power.wakePorts.getLsbD p.val = true) →
    ∃ t, exec (.wake src) s = .next t ∧ t.power.st = .idle ∧ t.power.lastCause = 3 ∧ t.boot.st = .resetting ∧
      t.boot.cause = 6 ∧ t.beat.number = s.beat.number ∧ t.beat.start = s.beat.start ∧ t.now = s.now ∧
      SameBut [.beat, .comm, .oap, .nvm, .ports, .fabric, .press, .queue, .memu, .trellis, .choir, .zone, .belt, .audio, .island, .power, .video, .boot, .od, .inForce, .wtime, .regs, .mem, .fresh, .out] s t) ∧
  (∀ (s : State), s.power.st ≠ .off → s.power.pvidRefused = 0 → 
    exec .pvidResend s = .next ({ s with
      now := max s.now (s.power.pvidAt + 12), power := { s.power with pvidRefused := 1 }, out := .pvid (pvidFrame s.power.pvidCmd s.power.pvidData) :: s.out })) ∧
  (∀ (p : Nat) (s : State), (s.power.st = .idle ∨ s.power.st = .active) → s.power.settling = false →
      s.power.target = some p → p ≠ s.power.point →
    ∃ t, exec .operatingPointChange s = .next t ∧ t.power.commanded = pointMv p ∧ t.power.settling = true ∧
      t.power.point = (if p < s.power.point then p else s.power.point) ∧
      t.out = .pvid (pvidFrame 1 ((pointMv p - 500) / 5)) :: s.out ∧ SameBut [.power, .out] s t) ∧
  (∀ (mv : Nat) (s : State), (s.power.st = .idle ∨ s.power.st = .active) → s.power.commanded ≤ mv + 10 →
      mv ≤ s.power.commanded + 10 → s.power.settling = true →
    ∃ t, exec (.vcoreSettled mv) s = .next t ∧ t.power.vcore = mv ∧ t.power.settling = false ∧
      t.power.point = s.power.commandedPoint ∧ SameBut [.power] s t) ∧
  (∀ (c : Fin 4) (s : State), s.boot.st = .running → s.nvm.loadPending = false → s.tileUp c = true →
      s.tileNeeded c = false → s.sliceBusy c = false →
    ∃ t, exec (.tileGate c) s = .next t ∧ t.power.gated = s.power.gated ||| BitVec.ofNat 4 (2 ^ c.val) ∧
      (∀ a, sliceTile a = some c.val → t.byteAt a = 0) ∧
      (∀ a, sliceTile a ≠ some c.val → a < coreBase (64 * c.val) ∨ coreBase (64 * c.val + 64) ≤ a → t.byteAt a = s.byteAt a) ∧
      SameBut [.fabric, .press, .memu, .power, .regs, .mem] s t)

/-- Video streams wait, encode frames slice by slice and write their packets: STREAM_ENABLE 1 takes a DISABLED stream to
WAITING, 0 forgets it; a due frame starts: it is in encode with the decisions of the rules and the next one is due; a
slice whose lines have arrived and that finds the output buffer empty is coded and counted (its payload is a free
value, the model's choice, log entry 21), a line error conceals the rest of the frame; a frame whose slices are all
coded is done, its length reported; the oldest packet leaves when its queue takes it, waits while it has no credit;
commands merge as the rules say. Completes: STREAM_ENABLE, STREAM_DISABLE (R503), STREAM_IDR, STREAM_RECOVER_NEW,
STREAM_RECOVER_OLD (R518) while the device runs and is not STOPPED; FRAME_ENCODE_START (R506, R520), SLICE_ENCODE
(R510, R522), FRAME_ENCODE_DONE (R524), VIDEO_PACKET_WRITE (R519) -/
def Obligations.StreamsAreEncoded : Prop :=
  (∀ (v : Fin 2) (s : State), s.boot.st = .running → s.comm.nmt ≠ .stopped → s.writeCheck (streamIdx v) 2 1 = 0 →
      (s.stream v).st = .disabled →
    ∃ t, exec (.streamEnable v) s = .next t ∧ (t.stream v).st = .waiting ∧ (t.stream v).waitCause = s.waitCauseOf v ∧
      t.vEnt v 2 = 1 ∧ (∀ w, w ≠ v.val → t.stream w = s.stream w) ∧ SameBut [.nvm, .video, .od, .wtime, .out] s t) ∧
  (∀ (v : Fin 2) (s : State), s.boot.st = .running → s.comm.nmt ≠ .stopped → s.writeCheck (streamIdx v) 2 0 = 0 →
    ∃ t, exec (.streamDisable v) s = .next t ∧ t.stream v = {} ∧ t.vEnt v 2 = 0 ∧
      (∀ w, w ≠ v.val → t.stream w = s.stream w) ∧ SameBut [.nvm, .video, .od, .wtime, .out] s t) ∧
  (∀ (v : Fin 2) (f : Frame) (s : State), (s.stream v).st = .running → (s.stream v).frame = none →
      (s.stream v).due = some f →
    ∃ t, exec (.frameEncodeStart v) s = .next t ∧ (t.stream v).frame = some f ∧ (t.stream v).due = (s.stream v).next ∧
      (t.stream v).next = none ∧ (t.stream v).idr = s.nextIdr v ∧ (t.stream v).slice = 0 ∧
      (t.stream v).codingNo = (s.stream v).frameNo ∧ (t.stream v).frameNo = ((s.stream v).frameNo + 1) % 2 ^ 32 ∧
      (t.stream v).command = 0 ∧
      (t.stream v).sliceCount = (paddedH (s.vEnt v 6) (codedSize (s.vEnt v 7) f.height) + s.vEnt v 0xA - 1) / s.vEnt v 0xA ∧
      (s.vEnt v 0xD = 0 → (t.stream v).qp = (if s.nextIdr v then s.vEnt v 0x11 else s.vEnt v 0x12)) ∧
      (∀ w, w ≠ v.val → t.stream w = s.stream w) ∧ SameBut [.video, .od] s t) ∧
  (∀ (v : Fin 2) (s : State), (s.stream v).frame.isSome = true → (s.stream v).slice < (s.stream v).sliceCount →
      s.linesReady v = true → (s.stream v).buffered = 0 →
    ∃ t, exec (.sliceEncode v false) s = .next t ∧ (t.stream v).slice = (s.stream v).slice + 1 ∧
      (s.stream v).frameBytes < (t.stream v).frameBytes ∧ (t.stream v).frame = (s.stream v).frame ∧
      (t.stream v).concealing = (s.stream v).concealing ∧ (∀ w, w ≠ v.val → t.stream w = s.stream w) ∧
      SameBut [.video] s t) ∧
  (∀ (v : Fin 2) (s : State), (s.stream v).frame.isSome = true → (s.stream v).slice < (s.stream v).sliceCount →
      s.linesReady v = true → (s.stream v).buffered = 0 →
    ∃ t, exec (.sliceEncode v true) s = .next t ∧ (t.stream v).slice = (s.stream v).slice + 1 ∧
      (t.stream v).concealing = true ∧ (t.stream v).idrDue = true ∧ t.ent 0x7000 2 = satAdd max32 (s.ent 0x7000 2) 1 ∧
      (∀ w, w ≠ v.val → t.stream w = s.stream w) ∧ SameBut [.nvm, .video, .od] s t) ∧
  (∀ (v : Fin 2) (s : State), (s.stream v).frame.isSome = true → (s.stream v).slice = (s.stream v).sliceCount → 
    ∃ t, exec (.frameEncodeDone v) s = .next t ∧ (t.stream v).frame = none ∧ t.vEnt v 0x1D = (s.stream v).frameBytes ∧
      t.vEnt v 0x1E = satAdd max32 (s.vEnt v 0x1E) 1 ∧ (∀ w, w ≠ v.val → t.stream w = s.stream w) ∧
      SameBut [.video, .od] s t) ∧
  (∀ (v : Fin 2) (p : List (BitVec 128)) (rest : List (List (BitVec 128))) (s : State),
      (s.stream v).packets = p :: rest → (s.q (s.vEnt v 5)).st = .disabled →
    exec (.videoPacketWrite v) s = .next ((s.count (queueIdx (s.vEnt v 5)) 0x15 p.length).onStream v
      (fun x => { x with packets := rest, buffered := x.buffered - packetBytes p }))) ∧
  (∀ (v : Fin 2) (p : List (BitVec 128)) (rest : List (List (BitVec 128))) (s : State),
      (s.stream v).packets = p :: rest → (s.q (s.vEnt v 5)).st = .enabled →
      p.length ≤ ((s.q (s.vEnt v 5)).level (s.qEnt (s.vEnt v 5) 7)).credits →
    ∃ t, exec (.videoPacketWrite v) s = .next t ∧ (t.stream v).packets = rest ∧
      (t.stream v).buffered = (s.stream v).buffered - packetBytes p ∧
      some t.queue = (s.hwPush (s.vEnt v 5) p).map State.queue ∧ (∀ w, w ≠ v.val → t.stream w = s.stream w) ∧
      SameBut [.nvm, .queue, .video, .od, .mem, .fresh, .out] s t) ∧
  (∀ (v : Fin 2) (p : List (BitVec 128)) (rest : List (List (BitVec 128))) (s : State),
      (s.stream v).packets = p :: rest → (s.q (s.vEnt v 5)).st = .enabled →
      ((s.q (s.vEnt v 5)).level (s.qEnt (s.vEnt v 5) 7)).credits < p.length →
    exec (.videoPacketWrite v) s = .next (s)) ∧
  (∀ (v : Fin 2) (s : State), s.boot.st = .running → s.comm.nmt ≠ .stopped → s.writeCheck (streamIdx v) 0x1A 1 = 0 →
    ∃ t, exec (.streamIdr v) s = .next t ∧ t.stream v = { s.stream v with command := 1 } ∧ t.out = .status 0 :: s.out ∧
      (∀ w, w ≠ v.val → t.stream w = s.stream w) ∧ SameBut [.video, .out] s t) ∧
  (∀ (v : Fin 2) (s : State), s.boot.st = .running → s.comm.nmt ≠ .stopped → s.writeCheck (streamIdx v) 0x1A 2 = 0 →
    ∃ t, exec (.streamRecoverNew v) s = .next t ∧
      t.stream v = { s.stream v with command := (if (s.stream v).command = 1 then 1 else if (s.stream v).command = 3 then 3 else 2) } ∧
      (∀ w, w ≠ v.val → t.stream w = s.stream w) ∧ SameBut [.video, .out] s t) ∧
  (∀ (v : Fin 2) (s : State), s.boot.st = .running → s.comm.nmt ≠ .stopped → s.writeCheck (streamIdx v) 0x1A 3 = 0 →
    ∃ t, exec (.streamRecoverOld v) s = .next t ∧
      t.stream v = { s.stream v with command := (if (s.stream v).command = 1 then 1 else 3) } ∧
      (∀ w, w ≠ v.val → t.stream w = s.stream w) ∧ SameBut [.video, .out] s t)

/-- Resets clear the units, and boot runs the slot that verifies: RESET_N, the software reset and the watchdog of a
powered device begin a reset with their cause: entries and registers are cleared, STO and the belt are off, beat,
tracker and memory go on; the watchdog is kicked by its value alone; a reset ends in booting with a new challenge;
boot without a slot that verifies ends in recovery, and with one in PRE-OPERATIONAL or OPERATIONAL with the watchdog
enabled; a confirmation clears the boot attempts; a verified DFU image is committed to slot 0 and a reset follows,
another is refused; a boot-slot or key-list write empties the target's commit word and its completion sets it, or
FAILED. Completes: RESET_N, SOFTWARE_RESET, WATCHDOG_TIMEOUT (R526, R527, R529) of a powered device not in reset;
WATCHDOG_KICK (R529), BOOT_CONFIRM (R539), BOOT_SLOT_WRITE, KEY_LIST_WRITE (R542) by the running firmware; RESET_END
(R528) in a reset; BOOT_COMPLETE (R538, R541) in boot; DFU_DOWNLOAD (R540) in recovery; BOOT_UPDATE_COMPLETE (R542) of
an update under way -/
def Obligations.ResetsAndBoot : Prop :=
  (∀ (s : State), (s.power.st = .idle ∨ s.power.st = .active) → s.boot.st ≠ .resetting → 
    ∃ t, exec .resetN s = .next t ∧ t.boot.st = .resetting ∧ t.boot.cause = 1 ∧ t.boot.resetAt = s.now ∧
      t.boot.fuses = s.boot.fuses ∧ t.boot.attempts = s.boot.attempts ∧ t.od = [] ∧ t.regs = [] ∧ t.island.stoA = false ∧
      t.island.stoB = false ∧ t.belt.st = .off ∧ t.belt.duty = 0 ∧ t.comm.nmt = .initialisation ∧
      t.beat.number = s.beat.number ∧ t.beat.start = s.beat.start ∧ t.beat.tracker = s.beat.tracker ∧
      SameBut [.beat, .comm, .oap, .nvm, .ports, .fabric, .press, .queue, .memu, .trellis, .choir, .zone, .belt, .audio, .island, .power, .video, .boot, .od, .inForce, .wtime, .regs, .mem, .fresh, .out] s t) ∧
  (∀ (s : State), (s.power.st = .idle ∨ s.power.st = .active) → s.boot.st ≠ .resetting → 
    ∃ t, exec (.softwareReset 0xA5C3) s = .next t ∧ t.boot.st = .resetting ∧ t.boot.cause = 4 ∧
      t.boot.resetAt = s.now ∧ t.boot.fuses = s.boot.fuses ∧ t.boot.attempts = s.boot.attempts ∧ t.od = [] ∧
      t.regs = [] ∧ t.island.stoA = false ∧ t.island.stoB = false ∧ t.belt.st = .off ∧ t.belt.duty = 0 ∧
      t.comm.nmt = .initialisation ∧ t.beat.number = s.beat.number ∧ t.beat.start = s.beat.start ∧
      t.beat.tracker = s.beat.tracker ∧
      SameBut [.beat, .comm, .oap, .nvm, .ports, .fabric, .press, .queue, .memu, .trellis, .choir, .zone, .belt, .audio, .island, .power, .video, .boot, .od, .inForce, .wtime, .regs, .mem, .fresh, .out] s t) ∧
  (∀ (v : BitVec 32) (s : State), v ≠ 0xA5C3 → 
    exec (.softwareReset v) s = .next (s)) ∧
  (∀ (s : State), (s.power.st = .idle ∨ s.power.st = .active) → s.boot.st ≠ .resetting → s.boot.wdEnabled = true →
      s.boot.wdPaused = false →
    ∃ t, exec .watchdogTimeout s = .next t ∧ t.now = max s.now (s.boot.wdAt + 1000 * s.boot.wdTimeout) ∧
      t.boot.st = .resetting ∧ t.boot.cause = 2 ∧ t.boot.wdEnabled = false ∧ t.od = [] ∧ t.beat.number = s.beat.number ∧
      SameBut [.now, .beat, .comm, .oap, .nvm, .ports, .fabric, .press, .queue, .memu, .trellis, .choir, .zone, .belt, .audio, .island, .power, .video, .boot, .od, .inForce, .wtime, .regs, .mem, .fresh, .out] s t) ∧
  (∀ (s : State), (s.power.st = .idle ∨ s.power.st = .active) → s.boot.st ≠ .resetting → 
    exec (.watchdogKick 0x5AC3) s = .next ({ s with boot := { s.boot with wdAt := if s.boot.wdPaused then 0 else s.now } })) ∧
  (∀ (v : BitVec 32) (s : State), (s.power.st = .idle ∨ s.power.st = .active) → s.boot.st ≠ .resetting →
      v ≠ 0x5AC3 →
    exec (.watchdogKick v) s = .next ({ s with boot := { s.boot with kickError := true } })) ∧
  (∀ (s : State), (s.power.st = .idle ∨ s.power.st = .active) → s.boot.st = .resetting → 
    ∃ t, exec .resetEnd s = .next t ∧ t.now = max s.now (s.boot.resetAt + 1000) ∧ t.boot.st = .booting ∧
      t.boot.cause = s.boot.cause ∧ t.boot.challenge.length = 16 ∧ SameBut [.now, .nvm, .memu, .boot, .mem, .fresh] s t) ∧
  (∀ (s : State), (s.power.st = .idle ∨ s.power.st = .active) → s.boot.st = .booting → s.boot.attempts < 3 → 
    ∃ t, exec .bootComplete s = .next t ∧
      ((State.pickBoot s.selectKeys.bootOrder s.selectKeys).1 = none → t.boot.st = .recovery ∧ SameBut [.nvm, .boot] s t) ∧
      (∀ k, (State.pickBoot s.selectKeys.bootOrder s.selectKeys).1 = some k → t.boot.st = .running ∧ t.boot.slot = k ∧ t.boot.attempts = s.boot.attempts + 1 ∧
        t.boot.wdEnabled = true ∧ t.boot.wdTimeout = 2000 ∧ (t.comm.nmt = .preOperational ∨ t.comm.nmt = .operational)) ∧
      SameBut [.beat, .comm, .oap, .nvm, .ports, .fabric, .press, .queue, .memu, .choir, .zone, .belt, .audio, .island, .power, .video, .boot, .od, .inForce, .wtime, .regs, .mem, .fresh, .out] s t) ∧
  (∀ (v : BitVec 32) (s : State), (s.power.st = .idle ∨ s.power.st = .active) → s.boot.st ≠ .resetting →
      v.getLsbD 0 = true →
    exec (.bootConfirm v) s = .next ({ s with boot := { s.boot with attempts := 0 } })) ∧
  (∀ (image : List Byte) (s : State), s.boot.st = .recovery →
      1044480 < image.length ∨ numAt image 12 4 ≠ image.length →
    exec (.dfuDownload image) s = .next ({ s with out := .dfu false :: s.out })) ∧
  (∀ (image : List Byte) (s : State), s.boot.st = .recovery → image.length ≤ 1044480 →
      numAt image 12 4 = image.length → (s.power.st = .idle ∨ s.power.st = .active) → s.memu.late = [] →
    ∃ t, exec (.dfuDownload image) s = .next t ∧
      (s.bootImageCode image ≠ 0 → t = { s with out := .dfu false :: s.out }) ∧
      (s.bootImageCode image = 0 → t.boot.st = .resetting ∧ t.boot.cause = 4 ∧ t.bytesAt (bootBase 0) image.length = image ∧
        t.bytesAt (bootBase 0 + 0xFFFF8) 8 = leBytes 8 (bootCommit ((max (if s.bootCommitted 0 then s.bootGen 0 else 0) (if s.bootCommitted 1 then s.bootGen 1 else 0) + 1) % 2 ^ 32)) ∧ .dfu true ∈ t.out) ∧
      SameBut [.beat, .comm, .oap, .nvm, .ports, .fabric, .press, .queue, .memu, .trellis, .choir, .zone, .belt, .audio, .island, .power, .video, .boot, .od, .inForce, .wtime, .regs, .mem, .fresh, .out] s t) ∧
  (∀ s : State, (s.power.st = .idle ∨ s.power.st = .active) → s.boot.st ≠ .resetting → s.boot.update = none → s.storing = false → s.nvm.installing = none →
    (∃ t j, exec .bootSlotWrite s = .next t ∧ t.boot = { s.boot with update := some j } ∧ j.keyList = false ∧
      j.target = 1 - s.boot.slot ∧ t.bytesAt (bootBase (1 - s.boot.slot) + 0xFFFF8) 8 = leBytes 8 0 ∧
      SameBut [.memu, .boot, .mem] s t) ∧
    (∃ t j, exec .keyListWrite s = .next t ∧ t.boot = { s.boot with update := some j } ∧ j.keyList = true ∧
      j.target = (match s.boot.keyList with | some 0 => 1 | _ => 0) ∧ t.bytesAt (keyListBase j.target + 0xFF8) 8 = leBytes 8 0 ∧
      SameBut [.memu, .boot, .mem] s t)) ∧
  (∀ (s : State), (s.power.st = .idle ∨ s.power.st = .active) → s.boot.st ≠ .resetting → s.boot.update = none →
      s.storing = true ∨ s.nvm.installing.isSome = true →
    ∃ t, exec .bootSlotWrite s = .next t ∧ t.boot = { s.boot with writeFailed := true } ∧
      SameBut [.memu, .boot, .mem] s t) ∧
  (∀ (j : BootUpdate) (s : State), s.boot.update = some j → j.ok = false → 
    exec .bootUpdateComplete s = .next ({ s with boot := { s.boot with update := none, writeFailed := true } })) ∧
  (∀ (j : BootUpdate) (s : State), s.boot.update = some j → j.ok = true → 
    ∃ t, exec .bootUpdateComplete s = .next t ∧ t.boot = { s.boot with update := none } ∧
      (j.keyList = true → t.bytesAt (keyListBase j.target + 0xFF8) 8 = leBytes 8 (keyCommit j.generation)) ∧
      (j.keyList = false → t.bytesAt (bootBase j.target + 0xFFFF8) 8 = leBytes 8 (bootCommit j.generation)) ∧
      SameBut [.memu, .boot, .mem] s t)

/-- Fuses are programmed, debug is unlocked and used, JTAG and the Ethernet link answer: a fuse field is programmed where
it may be, the rollback floor rises, and a request beyond what may be is refused with its flag; a right response
unlocks debug with a new challenge, a wrong one counts; the JTAG identification code is the family's; a link change is
reported; the debug module halts and resumes cantors and reaches memory while debug is unlocked, and does nothing
while it is locked (a cantor's registers are free values, log entry 34). Completes: FUSE_PROGRAM, ROLLBACK_ADVANCE
(R532, R533) by the running firmware; DEBUG_RESPONSE (R544) in PRE-OPERATIONAL; IDCODE, BYPASS (R543); ETH_LINK_CHANGE
(03 R91) while the device runs; DEBUG_MODULE_ACCESS (R545) with debug unlocked -/
def Obligations.FusesDebugAndJtag : Prop :=
  (∀ (i : Nat) (s : State), (s.power.st = .idle ∨ s.power.st = .active) → s.boot.st ≠ .resetting → i < 8 → 
    ∃ t, exec (.fuseProgram 3 i) s = .next t ∧
      t.boot = { s.boot with fuses := { s.boot.fuses with rollback := s.boot.fuses.rollback ||| BitVec.ofNat 64 (2 ^ i) } } ∧
      SameBut [.boot, .fresh] s t) ∧
  (∀ (i : Nat) (s : State), (s.power.st = .idle ∨ s.power.st = .active) → s.boot.st ≠ .resetting → i ≤ 3 →
      s.otherHash i = true →
    ∃ t, exec (.fuseProgram 1 i) s = .next t ∧
      t.boot = { s.boot with fuses := { s.boot.fuses with revoked := s.boot.fuses.revoked ||| BitVec.ofNat 4 (2 ^ i) } } ∧
      SameBut [.boot, .fresh] s t) ∧
  (∀ (i : Nat) (s : State), (s.power.st = .idle ∨ s.power.st = .active) → s.boot.st ≠ .resetting → i ≤ 3 →
      s.otherHash i = false →
    exec (.fuseProgram 1 i) s = .next ({ s with boot := { s.boot with fuseRefused := true } })) ∧
  (∀ (f i : Nat) (s : State), (s.power.st = .idle ∨ s.power.st = .active) → s.boot.st ≠ .resetting →
      f = 0 ∨ f = 2 ∨ f = 4 ∨ (5 ≤ f ∧ f < 16) → s.boot.debug = false →
    exec (.fuseProgram f i) s = .next ({ s with boot := { s.boot with fuseRefused := true } })) ∧
  (∀ (v : BitVec 32) (s : State), (s.power.st = .idle ∨ s.power.st = .active) → s.boot.st ≠ .resetting →
      bits v.toNat 0 7 ≤ s.boot.security →
    exec (.rollbackAdvance v) s = .next ({ s with boot := { s.boot with fuses := { s.boot.fuses with rollback := raiseBits (bits v.toNat 0 7) s.boot.fuses.rollback } } })) ∧
  (∀ (v : BitVec 32) (s : State), (s.power.st = .idle ∨ s.power.st = .active) → s.boot.st ≠ .resetting →
      s.boot.security < bits v.toNat 0 7 →
    exec (.rollbackAdvance v) s = .next ({ s with boot := { s.boot with fuseRefused := true } })) ∧
  (∀ (sig : List Byte) (s : State), s.boot.st = .running → s.comm.nmt = .preOperational → sig.length = 64 →
      s.boot.fuses.debugDisable = false → s.boot.debugFails < 3 →
    ∃ t, exec (.debugResponse sig) s = .next t ∧ t.boot.challenge.length = 16 ∧
      (s.debugOk sig = true → t.boot.debug = true ∧ t.boot.debugFails = s.boot.debugFails ∧ t.out = .status 0 :: s.out) ∧
      (s.debugOk sig = false → t.boot.debug = s.boot.debug ∧ t.boot.debugFails = s.boot.debugFails + 1 ∧ t.out = .status 0x08000020 :: s.out ∧
        SameBut [.boot, .fresh, .out] s t) ∧
      SameBut [.nvm, .boot, .fresh, .out] s t) ∧
  (∀ (s : State), 
    exec .idcode s = .next ({ s with
      boot := { s.boot with jtagId := true }, out := .jtag (0xB * 2 ^ 28 + s.product * 2 ^ 12 + 0x4B5) :: s.out })) ∧
  (∀ (s : State), 
    exec .bypass s = .next ({ s with boot := { s.boot with jtagId := false }, out := .jtag 0 :: s.out })) ∧
  (∀ (p : Fin 2) (st : Fin 3) (s : State), s.boot.st = .running → 
    ∃ t, exec (.ethLinkChange p st) s = .next t ∧ t.ent (ethIdx p) 7 = st.val ∧ SameBut [.od] s t) ∧
  (∀ (op : DebugOp) (s : State), s.boot.debug = false → 
    exec (.debugModuleAccess op) s = .next (s)) ∧
  (∀ (c : Fin 8) (s : State), s.boot.debug = true → 
    ∃ t, exec (.debugModuleAccess (.halt c)) s = .next t ∧
      t.boot.halted = s.boot.halted ||| BitVec.ofNat 8 (2 ^ c.val) ∧ (c.val = 0 → t.boot.wdPaused = true) ∧
      (c.val ≠ 0 → t.boot.wdPaused = s.boot.wdPaused) ∧ SameBut [.boot] s t) ∧
  (∀ (c : Fin 8) (s : State), s.boot.debug = true → 
    ∃ t, exec (.debugModuleAccess (.resume c)) s = .next t ∧ t.boot.halted.getLsbD c.val = false ∧
      (c.val = 0 → t.boot.wdPaused = false) ∧ (c.val ≠ 0 → t.boot.wdPaused = s.boot.wdPaused) ∧ SameBut [.boot] s t) ∧
  (∀ (c : Fin 8) (s : State), s.boot.debug = true → 
    ∃ t, exec (.debugModuleAccess (.hartAccess c)) s = .next t ∧ t.boot = s.boot ∧ SameBut [.fresh, .out] s t) ∧
  (∀ (addr : Addr) (n : Nat) (s : State), s.boot.debug = true → s.isLocal addr.toNat = true →
      areaOf (offsetOf addr.toNat) ≠ .pages → s.rangeKind .cantor false (offsetOf addr.toNat) n = none →
      s.badLine (offsetOf addr.toNat) n = none →
    exec (.debugModuleAccess (.busRead addr n)) s = .next ({ s with out := .data 0xFF (s.bytesAt (offsetOf addr.toNat) n) :: s.out })) ∧
  (∀ (addr : Addr) (data : List Byte) (s : State), s.boot.debug = true → s.isLocal addr.toNat = true →
      areaOf (offsetOf addr.toNat) ≠ .pages → s.rangeKind .cantor true (offsetOf addr.toNat) data.length = none →
      s.badLine (offsetOf addr.toNat) data.length = none →
    exec (.debugModuleAccess (.busWrite addr data)) s = .next (s.ncWrite (offsetOf addr.toNat) data)) ∧
  (∀ (addr : Addr) (n : Nat) (s : State), s.boot.debug = true →
      s.isLocal addr.toNat = false ∨ (s.rangeKind .cantor false (offsetOf addr.toNat) n).isSome = true →
    exec (.debugModuleAccess (.busRead addr n)) s = .next ({ s with out := .data 0xFF [] :: s.out }))

/-- Units present of each variant: where SDO is served, an upload of Units present answers 0x0000_07FF on the ERV-1640,
0x0000_07E3 on the ERV-1620 and 0x0000_0701 on the ERV-1610 -/
def Obligations.UnitsPresentReadsByVariant : Prop :=
  ∀ s : State, s.sdoServed = true → s.comm.sdo = .idle →
    exec (.sdoInitiateUpload 0x2001 0) s = .next { s with out := .sdo 0x2001 0 (leBytes 4
      (match s.variant with | .erv1640 => 0x7FF | .erv1620 => 0x7E3 | .erv1610 => 0x701)) :: s.out }

/-- AUDIO_COMMAND clears a latched or DC-faulted channel: AUDIO_COMMAND 1 clears LATCHED or DC_FAULT of channel 0 and 2
that of channel 1, with the retry history; of a channel in neither state it is refused with 0x0800_0020; any other
value is refused with 0x0609_0030; from a channel whose stage is still hot it goes to THERMAL (R443). Completes:
AUDIO_CLEAR_CH0, AUDIO_CLEAR_CH1 while the device runs, is not STOPPED and has the audio unit -/
def Obligations.AudioCommandClearsAChannel : Prop :=
  (∀ (c : Instr) (ch : Fin 2) (s : State), c = .audioClearCh0 ∧ ch = 0 ∨ c = .audioClearCh1 ∧ ch = 1 → s.boot.st = .running →
      s.comm.nmt ≠ .stopped → s.hasUnit 6 = true →
    ((s.chan ch).st = .latched ∨ (s.chan ch).st = .dcFault →
      ∃ t, exec c s = .next t ∧ (t.chan ch).st = (if s.audio.hot then .thermal else if s.chanMuted ch then .muted else .softStart) ∧ (t.chan ch).retries = [] ∧
        t.condOn 0xFF60 0x1C ch = false ∧ (∀ e : Fin 2, e ≠ ch → t.chan e = s.chan e) ∧
        SameBut [.comm, .oap, .nvm, .audio, .out] s t) ∧
    ((s.chan ch).st ≠ .latched → (s.chan ch).st ≠ .dcFault →
      exec c s = .next { s with out := .status 0x08000020 :: s.out })) ∧
  (∀ (v : Byte) (s : State), v ≠ 1 → v ≠ 2 → s.hasUnit 6 = true → s.sdoServed = true → s.comm.sdo = .idle →
    exec (.sdoInitiateDownload 0x6400 7 true [v]) s = .next { s with out := .sdoAbort 0x6400 7 0x06090030 :: s.out })

/-- The state at power-on: at power-on device time and beat number are 0, no command waits, no entry or register holds
another value than its default, the island is in SELFTEST with STO off, the belt and the audio channels are off,
queues, movers and voice cores are disabled, and memory and stored times are in canonical form; the values the spec
leaves open are the model's (log entry 8) -/
def Obligations.ResetStateIsCanonical : Prop :=
  State.reset.now = 0 ∧ State.reset.beat.number = 0 ∧ State.reset.pending = [] ∧ State.reset.od = [] ∧ State.reset.regs = [] ∧
  State.reset.island.st = .selftest ∧ State.reset.island.stoA = false ∧ State.reset.island.stoB = false ∧
  State.reset.comm.nmt = .initialisation ∧ State.reset.belt.st = .off ∧ State.reset.belt.duty = 0 ∧
  (∀ ch, (State.reset.chan ch).st = .off) ∧ (∀ q, (State.reset.q q).st = .disabled) ∧
  (∀ m, (State.reset.mover m).st = .disabled) ∧ (∀ c, (State.reset.core c).st = .disabled) ∧
  (∀ a, State.reset.byteAt a = 0) ∧ Safety.Canonical State.reset

/-- Every step keeps memory and stored times in canonical form: a step keeps the canonical form of memory and of the
stored times, the variant, and takes nothing from the queue but the command at its front -/
def Obligations.StepKeepsCanonicalForm : Prop :=
  ∀ s t : State, step s = .next t →
    (Safety.Canonical s → Safety.Canonical t) ∧ t.variant = s.variant ∧ t.pending = s.pending.drop 1

/-- Only a power-on sets device time back: a step never sets device time back, but for the power-on command, which may set
it to 0 -/
def Obligations.DeviceTimeNeverRunsBackward : Prop :=
  ∀ s t : State, step s = .next t →
    s.now ≤ t.now ∨ (t.now = 0 ∧ s.power.st = .off ∧ ∃ b rest, s.pending = .powerOn b :: rest)
end

