-- ==== Sys2Proof/Laws/Bytes.lean ====
section
/-! SUPPORT. Lengths and values of byte lists. -/

namespace Sys2Proof.Machine

theorem length_leBytes (n v : Nat) : (leBytes n v).length = n := by
  induction n generalizing v with
  | zero => rfl
  | succ n ih => simp [leBytes, ih]

/-- n bytes spell their number, reduced to n bytes. -/
theorem leNum_leBytes (n v : Nat) : leNum (leBytes n v) = v % 256 ^ n := by
  induction n generalizing v with
  | zero => simp [leBytes, leNum]; omega
  | succ n ih =>
    have h : 256 ^ (n + 1) = 256 * 256 ^ n := by rw [Nat.pow_succ, Nat.mul_comm]
    simp only [leBytes, leNum, ih, BitVec.toNat_ofNat, h]
    rw [Nat.mod_mul]

theorem leNum_lt (l : List Byte) : leNum l < 256 ^ l.length := by
  induction l with
  | nil => simp [leNum]
  | cons b t ih =>
    have h : 256 ^ (t.length + 1) = 256 * 256 ^ t.length := by rw [Nat.pow_succ, Nat.mul_comm]
    have := b.isLt
    simp only [leNum, List.length_cons, h]
    omega

theorem length_slice (l : List Byte) (off n : Nat) : (slice l off n).length = n := by
  simp only [slice, List.length_append, List.length_replicate, List.length_take]; omega

/-- A part that ends within the list is what stands there. -/
theorem slice_of_le (l : List Byte) (off n : Nat) (h : off + n ≤ l.length) : slice l off n = (l.drop off).take n := by
  have : n - ((l.drop off).take n).length = 0 := by rw [List.length_take, List.length_drop]; omega
  simp only [slice, this, List.replicate_zero, List.append_nil]

theorem length_bytesAt (s : State) (a n : Nat) : (s.bytesAt a n).length = n := by
  induction n generalizing a with
  | zero => rfl
  | succ n ih => simp [State.bytesAt, ih]

end Sys2Proof.Machine
end

