-- ==== Sys2Proof/Laws/Frame1.lean ====
section
/-! SUPPORT. The parts of the state that each shared operation leaves alone: the base operations, queues, zones, the belt, audio and the island. Each lemma
names the parts its operation may change; every other part is the same after it. -/

namespace Sys2Proof.Machine

/-! ### Parts under the ways a state is put together -/

/-- A part of a choice. -/
@[simp] theorem State.get_ite (c : Prop) [Decidable c] (s t : State) (p : Part) :
    (if c then s else t).get p = if c then s.get p else t.get p := by split <;> rfl

/-- A part of the second of a pair chosen. -/
@[simp] theorem State.get_snd_ite {α : Type} (c : Prop) [Decidable c] (x y : α × State) (p : Part) :
    (if c then x else y).2.get p = if c then x.2.get p else y.2.get p := by split <;> rfl

/-- A fold whose function leaves a part alone leaves it alone. -/
@[simp] theorem State.get_foldl {α : Type} (f : State → α → State) (l : List α) (s : State) (p : Part)
    (h : ∀ t x, (f t x).get p = t.get p) : (l.foldl f s).get p = s.get p := by
  induction l generalizing s with
  | nil => rfl
  | cons x l ih => simp only [List.foldl_cons, ih, h]

/-! ### One field replaced -/

/-- Only `variant` differs after it is replaced. -/
@[simp] theorem State.get_set_variant (s : State) (x : Variant) (p : Part) (h : p ≠ .variant) :
    State.get { s with variant := x } p = s.get p := by cases p <;> first | rfl | exact absurd rfl h

/-- Only `now` differs after it is replaced. -/
@[simp] theorem State.get_set_now (s : State) (x : Nat) (p : Part) (h : p ≠ .now) :
    State.get { s with now := x } p = s.get p := by cases p <;> first | rfl | exact absurd rfl h

/-- Only `beat` differs after it is replaced. -/
@[simp] theorem State.get_set_beat (s : State) (x : BeatUnit) (p : Part) (h : p ≠ .beat) :
    State.get { s with beat := x } p = s.get p := by cases p <;> first | rfl | exact absurd rfl h

/-- Only `comm` differs after it is replaced. -/
@[simp] theorem State.get_set_comm (s : State) (x : Comm) (p : Part) (h : p ≠ .comm) :
    State.get { s with comm := x } p = s.get p := by cases p <;> first | rfl | exact absurd rfl h

/-- Only `oap` differs after it is replaced. -/
@[simp] theorem State.get_set_oap (s : State) (x : Oap) (p : Part) (h : p ≠ .oap) :
    State.get { s with oap := x } p = s.get p := by cases p <;> first | rfl | exact absurd rfl h

/-- Only `nvm` differs after it is replaced. -/
@[simp] theorem State.get_set_nvm (s : State) (x : Nvm) (p : Part) (h : p ≠ .nvm) :
    State.get { s with nvm := x } p = s.get p := by cases p <;> first | rfl | exact absurd rfl h

/-- Only `ports` differs after it is replaced. -/
@[simp] theorem State.get_set_ports (s : State) (x : Tab Port) (p : Part) (h : p ≠ .ports) :
    State.get { s with ports := x } p = s.get p := by cases p <;> first | rfl | exact absurd rfl h

/-- Only `fabric` differs after it is replaced. -/
@[simp] theorem State.get_set_fabric (s : State) (x : Fabric) (p : Part) (h : p ≠ .fabric) :
    State.get { s with fabric := x } p = s.get p := by cases p <;> first | rfl | exact absurd rfl h

/-- Only `press` differs after it is replaced. -/
@[simp] theorem State.get_set_press (s : State) (x : Press) (p : Part) (h : p ≠ .press) :
    State.get { s with press := x } p = s.get p := by cases p <;> first | rfl | exact absurd rfl h

/-- Only `queue` differs after it is replaced. -/
@[simp] theorem State.get_set_queue (s : State) (x : QueueUnit) (p : Part) (h : p ≠ .queue) :
    State.get { s with queue := x } p = s.get p := by cases p <;> first | rfl | exact absurd rfl h

/-- Only `memu` differs after it is replaced. -/
@[simp] theorem State.get_set_memu (s : State) (x : MemUnit) (p : Part) (h : p ≠ .memu) :
    State.get { s with memu := x } p = s.get p := by cases p <;> first | rfl | exact absurd rfl h

/-- Only `trellis` differs after it is replaced. -/
@[simp] theorem State.get_set_trellis (s : State) (x : Trellis) (p : Part) (h : p ≠ .trellis) :
    State.get { s with trellis := x } p = s.get p := by cases p <;> first | rfl | exact absurd rfl h

/-- Only `choir` differs after it is replaced. -/
@[simp] theorem State.get_set_choir (s : State) (x : Choir) (p : Part) (h : p ≠ .choir) :
    State.get { s with choir := x } p = s.get p := by cases p <;> first | rfl | exact absurd rfl h

/-- Only `zone` differs after it is replaced. -/
@[simp] theorem State.get_set_zone (s : State) (x : ZoneUnit) (p : Part) (h : p ≠ .zone) :
    State.get { s with zone := x } p = s.get p := by cases p <;> first | rfl | exact absurd rfl h

/-- Only `belt` differs after it is replaced. -/
@[simp] theorem State.get_set_belt (s : State) (x : Belt) (p : Part) (h : p ≠ .belt) :
    State.get { s with belt := x } p = s.get p := by cases p <;> first | rfl | exact absurd rfl h

/-- Only `audio` differs after it is replaced. -/
@[simp] theorem State.get_set_audio (s : State) (x : Audio) (p : Part) (h : p ≠ .audio) :
    State.get { s with audio := x } p = s.get p := by cases p <;> first | rfl | exact absurd rfl h

/-- Only `island` differs after it is replaced. -/
@[simp] theorem State.get_set_island (s : State) (x : Island) (p : Part) (h : p ≠ .island) :
    State.get { s with island := x } p = s.get p := by cases p <;> first | rfl | exact absurd rfl h

/-- Only `power` differs after it is replaced. -/
@[simp] theorem State.get_set_power (s : State) (x : Power) (p : Part) (h : p ≠ .power) :
    State.get { s with power := x } p = s.get p := by cases p <;> first | rfl | exact absurd rfl h

/-- Only `video` differs after it is replaced. -/
@[simp] theorem State.get_set_video (s : State) (x : Tab Stream) (p : Part) (h : p ≠ .video) :
    State.get { s with video := x } p = s.get p := by cases p <;> first | rfl | exact absurd rfl h

/-- Only `boot` differs after it is replaced. -/
@[simp] theorem State.get_set_boot (s : State) (x : Boot) (p : Part) (h : p ≠ .boot) :
    State.get { s with boot := x } p = s.get p := by cases p <;> first | rfl | exact absurd rfl h

/-- Only `od` differs after it is replaced. -/
@[simp] theorem State.get_set_od (s : State) (x : Tab Nat) (p : Part) (h : p ≠ .od) :
    State.get { s with od := x } p = s.get p := by cases p <;> first | rfl | exact absurd rfl h

/-- Only `inForce` differs after it is replaced. -/
@[simp] theorem State.get_set_inForce (s : State) (x : Tab Nat) (p : Part) (h : p ≠ .inForce) :
    State.get { s with inForce := x } p = s.get p := by cases p <;> first | rfl | exact absurd rfl h

/-- Only `wtime` differs after it is replaced. -/
@[simp] theorem State.get_set_wtime (s : State) (x : Tab WriteLog) (p : Part) (h : p ≠ .wtime) :
    State.get { s with wtime := x } p = s.get p := by cases p <;> first | rfl | exact absurd rfl h

/-- Only `regs` differs after it is replaced. -/
@[simp] theorem State.get_set_regs (s : State) (x : Tab Word) (p : Part) (h : p ≠ .regs) :
    State.get { s with regs := x } p = s.get p := by cases p <;> first | rfl | exact absurd rfl h

/-- Only `mem` differs after it is replaced. -/
@[simp] theorem State.get_set_mem (s : State) (x : List Host.Cell) (p : Part) (h : p ≠ .mem) :
    State.get { s with mem := x } p = s.get p := by cases p <;> first | rfl | exact absurd rfl h

/-- Only `fresh` differs after it is replaced. -/
@[simp] theorem State.get_set_fresh (s : State) (x : Nat) (p : Part) (h : p ≠ .fresh) :
    State.get { s with fresh := x } p = s.get p := by cases p <;> first | rfl | exact absurd rfl h

/-- Only `out` differs after it is replaced. -/
@[simp] theorem State.get_set_out (s : State) (x : List Out) (p : Part) (h : p ≠ .out) :
    State.get { s with out := x } p = s.get p := by cases p <;> first | rfl | exact absurd rfl h

/-- Only `pending` differs after it is replaced. -/
@[simp] theorem State.get_set_pending (s : State) (x : List Instr) (p : Part) (h : p ≠ .pending) :
    State.get { s with pending := x } p = s.get p := by cases p <;> first | rfl | exact absurd rfl h

/-! ### The shared operations -/

/-- The parts that `State.putBytes` leaves alone. -/
@[simp] theorem State.putBytes_get (s : State) (a : Nat) (l : List Byte) (part : Part) (hpart : part ∉ ([.mem] : List Part)) :
    (State.putBytes s a l).get part = s.get part := by
  simp only [List.mem_cons, List.not_mem_nil, or_false] at hpart
  simp [State.putBytes, hpart]

/-- The parts that `State.emit` leaves alone. -/
@[simp] theorem State.emit_get (o : Out) (s : State) (part : Part) (hpart : part ∉ ([.out] : List Part)) :
    (State.emit o s).get part = s.get part := by
  simp only [List.mem_cons, List.not_mem_nil, or_false] at hpart
  simp [State.emit, hpart]

/-- The parts that `State.emitAll` leaves alone. -/
@[simp] theorem State.emitAll_get (l : List Out) (s : State) (part : Part) (hpart : part ∉ ([.out] : List Part)) :
    (State.emitAll l s).get part = s.get part := by
  simp only [List.mem_cons, List.not_mem_nil, or_false] at hpart
  simp [State.emitAll, hpart]

/-- The parts that `State.draw` leaves alone. -/
@[simp] theorem State.draw_get (s : State) (part : Part) (hpart : part ∉ ([.fresh] : List Part)) :
    (State.draw s).get part = s.get part := by
  simp only [List.mem_cons, List.not_mem_nil, or_false] at hpart
  simp [State.draw, hpart]

/-- The parts that `State.upTo` leaves alone. -/
@[simp] theorem State.upTo_get (t : Nat) (s : State) (part : Part) (hpart : part ∉ ([.now] : List Part)) :
    (State.upTo t s).get part = s.get part := by
  simp only [List.mem_cons, List.not_mem_nil, or_false] at hpart
  simp [State.upTo, hpart]

/-- The parts that `State.onBeat` leaves alone. -/
@[simp] theorem State.onBeat_get (f : BeatUnit → BeatUnit) (s : State) (part : Part) (hpart : part ∉ ([.beat] : List Part)) :
    (State.onBeat f s).get part = s.get part := by
  simp only [List.mem_cons, List.not_mem_nil, or_false] at hpart
  simp [State.onBeat, hpart]

/-- The parts that `State.onComm` leaves alone. -/
@[simp] theorem State.onComm_get (f : Comm → Comm) (s : State) (part : Part) (hpart : part ∉ ([.comm] : List Part)) :
    (State.onComm f s).get part = s.get part := by
  simp only [List.mem_cons, List.not_mem_nil, or_false] at hpart
  simp [State.onComm, hpart]

/-- The parts that `State.onOap` leaves alone. -/
@[simp] theorem State.onOap_get (f : Oap → Oap) (s : State) (part : Part) (hpart : part ∉ ([.oap] : List Part)) :
    (State.onOap f s).get part = s.get part := by
  simp only [List.mem_cons, List.not_mem_nil, or_false] at hpart
  simp [State.onOap, hpart]

/-- The parts that `State.onNvm` leaves alone. -/
@[simp] theorem State.onNvm_get (f : Nvm → Nvm) (s : State) (part : Part) (hpart : part ∉ ([.nvm] : List Part)) :
    (State.onNvm f s).get part = s.get part := by
  simp only [List.mem_cons, List.not_mem_nil, or_false] at hpart
  simp [State.onNvm, hpart]

/-- The parts that `State.onPort` leaves alone. -/
@[simp] theorem State.onPort_get (p : Nat) (f : Port → Port) (s : State) (part : Part) (hpart : part ∉ ([.ports] : List Part)) :
    (State.onPort p f s).get part = s.get part := by
  simp only [List.mem_cons, List.not_mem_nil, or_false] at hpart
  simp [State.onPort, hpart]

/-- The parts that `State.onFabric` leaves alone. -/
@[simp] theorem State.onFabric_get (f : Fabric → Fabric) (s : State) (part : Part) (hpart : part ∉ ([.fabric] : List Part)) :
    (State.onFabric f s).get part = s.get part := by
  simp only [List.mem_cons, List.not_mem_nil, or_false] at hpart
  simp [State.onFabric, hpart]

/-- The parts that `State.onCore` leaves alone. -/
@[simp] theorem State.onCore_get (c : Nat) (f : VCore → VCore) (x2 : State) (part : Part) (hpart : part ∉ ([.fabric] : List Part)) :
    (State.onCore c f x2).get part = x2.get part := by
  simp only [List.mem_cons, List.not_mem_nil, or_false] at hpart
  simp [State.onCore, hpart]

/-- The parts that `State.onRouter` leaves alone. -/
@[simp] theorem State.onRouter_get (r : Nat) (f : Router → Router) (x2 : State) (part : Part) (hpart : part ∉ ([.fabric] : List Part)) :
    (State.onRouter r f x2).get part = x2.get part := by
  simp only [List.mem_cons, List.not_mem_nil, or_false] at hpart
  simp [State.onRouter, hpart]

/-- The parts that `State.onPress` leaves alone. -/
@[simp] theorem State.onPress_get (f : Press → Press) (s : State) (part : Part) (hpart : part ∉ ([.press] : List Part)) :
    (State.onPress f s).get part = s.get part := by
  simp only [List.mem_cons, List.not_mem_nil, or_false] at hpart
  simp [State.onPress, hpart]

/-- The parts that `State.onTask` leaves alone. -/
@[simp] theorem State.onTask_get (k : Nat) (f : Task → Task) (x2 : State) (part : Part) (hpart : part ∉ ([.press] : List Part)) :
    (State.onTask k f x2).get part = x2.get part := by
  simp only [List.mem_cons, List.not_mem_nil, or_false] at hpart
  simp [State.onTask, hpart]

/-- The parts that `State.onSource` leaves alone. -/
@[simp] theorem State.onSource_get (i : Nat) (f : Source → Source) (x2 : State) (part : Part) (hpart : part ∉ ([.press] : List Part)) :
    (State.onSource i f x2).get part = x2.get part := by
  simp only [List.mem_cons, List.not_mem_nil, or_false] at hpart
  simp [State.onSource, hpart]

/-- The parts that `State.onQueues` leaves alone. -/
@[simp] theorem State.onQueues_get (f : QueueUnit → QueueUnit) (s : State) (part : Part) (hpart : part ∉ ([.queue] : List Part)) :
    (State.onQueues f s).get part = s.get part := by
  simp only [List.mem_cons, List.not_mem_nil, or_false] at hpart
  simp [State.onQueues, hpart]

/-- The parts that `State.onQ` leaves alone. -/
@[simp] theorem State.onQ_get (q : Nat) (f : Queue → Queue) (x2 : State) (part : Part) (hpart : part ∉ ([.queue] : List Part)) :
    (State.onQ q f x2).get part = x2.get part := by
  simp only [List.mem_cons, List.not_mem_nil, or_false] at hpart
  simp [State.onQ, hpart]

/-- The parts that `State.onMem` leaves alone. -/
@[simp] theorem State.onMem_get (f : MemUnit → MemUnit) (s : State) (part : Part) (hpart : part ∉ ([.memu] : List Part)) :
    (State.onMem f s).get part = s.get part := by
  simp only [List.mem_cons, List.not_mem_nil, or_false] at hpart
  simp [State.onMem, hpart]

/-- The parts that `State.onMover` leaves alone. -/
@[simp] theorem State.onMover_get (m : Nat) (f : Mover → Mover) (x2 : State) (part : Part) (hpart : part ∉ ([.memu] : List Part)) :
    (State.onMover m f x2).get part = x2.get part := by
  simp only [List.mem_cons, List.not_mem_nil, or_false] at hpart
  simp [State.onMover, hpart]

/-- The parts that `State.onTrellis` leaves alone. -/
@[simp] theorem State.onTrellis_get (f : Trellis → Trellis) (s : State) (part : Part) (hpart : part ∉ ([.trellis] : List Part)) :
    (State.onTrellis f s).get part = s.get part := by
  simp only [List.mem_cons, List.not_mem_nil, or_false] at hpart
  simp [State.onTrellis, hpart]

/-- The parts that `State.onChoir` leaves alone. -/
@[simp] theorem State.onChoir_get (f : Choir → Choir) (s : State) (part : Part) (hpart : part ∉ ([.choir] : List Part)) :
    (State.onChoir f s).get part = s.get part := by
  simp only [List.mem_cons, List.not_mem_nil, or_false] at hpart
  simp [State.onChoir, hpart]

/-- The parts that `State.onClPort` leaves alone. -/
@[simp] theorem State.onClPort_get (p : Nat) (f : ClPortSt → ClPortSt) (x2 : State) (part : Part) (hpart : part ∉ ([.choir] : List Part)) :
    (State.onClPort p f x2).get part = x2.get part := by
  simp only [List.mem_cons, List.not_mem_nil, or_false] at hpart
  simp [State.onClPort, hpart]

/-- The parts that `State.onZones` leaves alone. -/
@[simp] theorem State.onZones_get (f : ZoneUnit → ZoneUnit) (s : State) (part : Part) (hpart : part ∉ ([.zone] : List Part)) :
    (State.onZones f s).get part = s.get part := by
  simp only [List.mem_cons, List.not_mem_nil, or_false] at hpart
  simp [State.onZones, hpart]

/-- The parts that `State.onGate` leaves alone. -/
@[simp] theorem State.onGate_get (g : Nat) (f : Gate → Gate) (x2 : State) (part : Part) (hpart : part ∉ ([.zone] : List Part)) :
    (State.onGate g f x2).get part = x2.get part := by
  simp only [List.mem_cons, List.not_mem_nil, or_false] at hpart
  simp [State.onGate, hpart]

/-- The parts that `State.onRegion` leaves alone. -/
@[simp] theorem State.onRegion_get (r : Nat) (f : Region → Region) (x2 : State) (part : Part) (hpart : part ∉ ([.zone] : List Part)) :
    (State.onRegion r f x2).get part = x2.get part := by
  simp only [List.mem_cons, List.not_mem_nil, or_false] at hpart
  simp [State.onRegion, hpart]

/-- The parts that `State.onZone` leaves alone. -/
@[simp] theorem State.onZone_get (z : Nat) (f : Zone → Zone) (x2 : State) (part : Part) (hpart : part ∉ ([.zone] : List Part)) :
    (State.onZone z f x2).get part = x2.get part := by
  simp only [List.mem_cons, List.not_mem_nil, or_false] at hpart
  simp [State.onZone, hpart]

/-- The parts that `State.onBelt` leaves alone. -/
@[simp] theorem State.onBelt_get (f : Belt → Belt) (s : State) (part : Part) (hpart : part ∉ ([.belt] : List Part)) :
    (State.onBelt f s).get part = s.get part := by
  simp only [List.mem_cons, List.not_mem_nil, or_false] at hpart
  simp [State.onBelt, hpart]

/-- The parts that `State.onAudio` leaves alone. -/
@[simp] theorem State.onAudio_get (f : Audio → Audio) (s : State) (part : Part) (hpart : part ∉ ([.audio] : List Part)) :
    (State.onAudio f s).get part = s.get part := by
  simp only [List.mem_cons, List.not_mem_nil, or_false] at hpart
  simp [State.onAudio, hpart]

/-- The parts that `State.onIsland` leaves alone. -/
@[simp] theorem State.onIsland_get (f : Island → Island) (s : State) (part : Part) (hpart : part ∉ ([.island] : List Part)) :
    (State.onIsland f s).get part = s.get part := by
  simp only [List.mem_cons, List.not_mem_nil, or_false] at hpart
  simp [State.onIsland, hpart]

/-- The parts that `State.onSin` leaves alone. -/
@[simp] theorem State.onSin_get (n : Nat) (f : Sin → Sin) (x2 : State) (part : Part) (hpart : part ∉ ([.island] : List Part)) :
    (State.onSin n f x2).get part = x2.get part := by
  simp only [List.mem_cons, List.not_mem_nil, or_false] at hpart
  simp [State.onSin, hpart]

/-- The parts that `State.onPower` leaves alone. -/
@[simp] theorem State.onPower_get (f : Power → Power) (s : State) (part : Part) (hpart : part ∉ ([.power] : List Part)) :
    (State.onPower f s).get part = s.get part := by
  simp only [List.mem_cons, List.not_mem_nil, or_false] at hpart
  simp [State.onPower, hpart]

/-- The parts that `State.onStream` leaves alone. -/
@[simp] theorem State.onStream_get (v : Nat) (f : Stream → Stream) (s : State) (part : Part) (hpart : part ∉ ([.video] : List Part)) :
    (State.onStream v f s).get part = s.get part := by
  simp only [List.mem_cons, List.not_mem_nil, or_false] at hpart
  simp [State.onStream, hpart]

/-- The parts that `State.onBoot` leaves alone. -/
@[simp] theorem State.onBoot_get (f : Boot → Boot) (s : State) (part : Part) (hpart : part ∉ ([.boot] : List Part)) :
    (State.onBoot f s).get part = s.get part := by
  simp only [List.mem_cons, List.not_mem_nil, or_false] at hpart
  simp [State.onBoot, hpart]

/-- The parts that `State.onPorts` leaves alone. -/
@[simp] theorem State.onPorts_get (f : Tab Port → Tab Port) (s : State) (part : Part) (hpart : part ∉ ([.ports] : List Part)) :
    (State.onPorts f s).get part = s.get part := by
  simp only [List.mem_cons, List.not_mem_nil, or_false] at hpart
  simp [State.onPorts, hpart]

/-- The parts that `State.onEntries` leaves alone. -/
@[simp] theorem State.onEntries_get (f : Tab Nat → Tab Nat) (s : State) (part : Part) (hpart : part ∉ ([.od] : List Part)) :
    (State.onEntries f s).get part = s.get part := by
  simp only [List.mem_cons, List.not_mem_nil, or_false] at hpart
  simp [State.onEntries, hpart]

/-- The parts that `State.onForces` leaves alone. -/
@[simp] theorem State.onForces_get (f : Tab Nat → Tab Nat) (s : State) (part : Part) (hpart : part ∉ ([.inForce] : List Part)) :
    (State.onForces f s).get part = s.get part := by
  simp only [List.mem_cons, List.not_mem_nil, or_false] at hpart
  simp [State.onForces, hpart]

/-- The parts that `State.onWtimes` leaves alone. -/
@[simp] theorem State.onWtimes_get (f : Tab WriteLog → Tab WriteLog) (s : State) (part : Part) (hpart : part ∉ ([.wtime] : List Part)) :
    (State.onWtimes f s).get part = s.get part := by
  simp only [List.mem_cons, List.not_mem_nil, or_false] at hpart
  simp [State.onWtimes, hpart]

/-- The parts that `State.onRegs` leaves alone. -/
@[simp] theorem State.onRegs_get (f : Tab Word → Tab Word) (s : State) (part : Part) (hpart : part ∉ ([.regs] : List Part)) :
    (State.onRegs f s).get part = s.get part := by
  simp only [List.mem_cons, List.not_mem_nil, or_false] at hpart
  simp [State.onRegs, hpart]

/-- The parts that `State.setNow` leaves alone. -/
@[simp] theorem State.setNow_get (t : Nat) (s : State) (part : Part) (hpart : part ∉ ([.now] : List Part)) :
    (State.setNow t s).get part = s.get part := by
  simp only [List.mem_cons, List.not_mem_nil, or_false] at hpart
  simp [State.setNow, hpart]

/-- The parts that `State.uncache` leaves alone. -/
@[simp] theorem State.uncache_get (a : Nat) (n : Nat) (x2 : State) (part : Part) (hpart : part ∉ ([.memu] : List Part)) :
    (State.uncache a n x2).get part = x2.get part := by
  simp only [List.mem_cons, List.not_mem_nil, or_false] at hpart
  simp [State.uncache, hpart]

/-- The parts that `State.nvmPut` leaves alone. -/
@[simp] theorem State.nvmPut_get (a : Nat) (l : List Byte) (s : State) (part : Part) (hpart : part ∉ ([.memu, .mem] : List Part)) :
    (State.nvmPut a l s).get part = s.get part := by
  simp only [List.mem_cons, List.not_mem_nil, or_false, not_or] at hpart
  simp [State.nvmPut, hpart]

/-- The parts that `State.setReg` leaves alone. -/
@[simp] theorem State.setReg_get (page : Nat) (off : Nat) (v : Nat) (s : State) (part : Part) (hpart : part ∉ ([.regs] : List Part)) :
    (State.setReg page off v s).get part = s.get part := by
  simp only [List.mem_cons, List.not_mem_nil, or_false] at hpart
  simp [State.setReg, hpart]

/-- The parts that `State.setEnt` leaves alone. -/
@[simp] theorem State.setEnt_get (idx : Nat) (sub : Nat) (v : Nat) (s : State) (part : Part) (hpart : part ∉ ([.od] : List Part)) :
    (State.setEnt idx sub v s).get part = s.get part := by
  simp only [List.mem_cons, List.not_mem_nil, or_false] at hpart
  simp [State.setEnt, hpart]

/-- The parts that `State.setForce` leaves alone. -/
@[simp] theorem State.setForce_get (idx : Nat) (sub : Nat) (v : Nat) (s : State) (part : Part) (hpart : part ∉ ([.inForce] : List Part)) :
    (State.setForce idx sub v s).get part = s.get part := by
  simp only [List.mem_cons, List.not_mem_nil, or_false] at hpart
  simp [State.setForce, hpart]

/-- The parts that `State.count` leaves alone. -/
@[simp] theorem State.count_get (idx : Nat) (sub : Nat) (n : Nat) (s : State) (part : Part) (hpart : part ∉ ([.od] : List Part)) :
    (State.count idx sub n s).get part = s.get part := by
  simp only [List.mem_cons, List.not_mem_nil, or_false] at hpart
  simp [State.count, hpart]

/-- The parts that `State.book` leaves alone. -/
@[simp] theorem State.book_get (code : Nat) (src : Nat) (sev : Nat) (payload : List Byte) (s : State) (part : Part) (hpart : part ∉ ([.nvm] : List Part)) :
    (State.book code src sev payload s).get part = s.get part := by
  simp only [List.mem_cons, List.not_mem_nil, or_false] at hpart
  simp [State.book, hpart]

/-- The parts that `State.canEmcy` leaves alone. -/
@[simp] theorem State.canEmcy_get (m : Emcy) (s : State) (part : Part) (hpart : part ∉ ([.comm, .out] : List Part)) :
    (State.canEmcy m s).get part = s.get part := by
  simp only [List.mem_cons, List.not_mem_nil, or_false, not_or] at hpart
  simp [State.canEmcy, hpart]

/-- The parts that `State.oapSend` leaves alone. -/
@[simp] theorem State.oapSend_get (dest : OapDest) (type : Nat) (seq : BitVec 32) (token : BitVec 64) (target : Option Nat) (status : BitVec 32) (data : List Byte) (s : State) (part : Part) (hpart : part ∉ ([.out] : List Part)) :
    (State.oapSend dest type seq token target status data s).get part = s.get part := by
  simp only [List.mem_cons, List.not_mem_nil, or_false] at hpart
  simp [State.oapSend, hpart]

/-- The parts that `State.oapEmcy` leaves alone. -/
@[simp] theorem State.oapEmcy_get (m : Emcy) (s : State) (part : Part) (hpart : part ∉ ([.oap, .out] : List Part)) :
    (State.oapEmcy m s).get part = s.get part := by
  simp only [List.mem_cons, List.not_mem_nil, or_false, not_or] at hpart
  simp [State.oapEmcy, hpart]

/-- The parts that `State.sendEmcy` leaves alone. -/
@[simp] theorem State.sendEmcy_get (m : Emcy) (sev : Nat) (extra : List Byte) (s : State) (part : Part) (hpart : part ∉ ([.comm, .oap, .nvm, .out] : List Part)) :
    (State.sendEmcy m sev extra s).get part = s.get part := by
  simp only [List.mem_cons, List.not_mem_nil, or_false, not_or] at hpart
  simp [State.sendEmcy, hpart]

/-- The parts that `State.condHolds` leaves alone. -/
@[simp] theorem State.condHolds_get (code : Nat) (src : Nat) (idx : Nat) (s : State) (part : Part) (hpart : part ∉ ([.comm] : List Part)) :
    (State.condHolds code src idx s).get part = s.get part := by
  simp only [List.mem_cons, List.not_mem_nil, or_false] at hpart
  simp [State.condHolds, hpart]

/-- The parts that `State.raiseCond` leaves alone. -/
@[simp] theorem State.raiseCond_get (code : Nat) (src : Nat) (idx : Nat) (extra : List Byte) (s : State) (part : Part) (hpart : part ∉ ([.comm, .oap, .nvm, .out] : List Part)) :
    (State.raiseCond code src idx extra s).get part = s.get part := by
  simp only [List.mem_cons, List.not_mem_nil, or_false, not_or] at hpart
  simp [State.raiseCond, hpart]

/-- The parts that `State.raiseEach` leaves alone. -/
@[simp] theorem State.raiseEach_get (code : Nat) (src : Nat) (idx : Nat) (extra : List Byte) (s : State) (part : Part) (hpart : part ∉ ([.comm, .oap, .nvm, .out] : List Part)) :
    (State.raiseEach code src idx extra s).get part = s.get part := by
  simp only [List.mem_cons, List.not_mem_nil, or_false, not_or] at hpart
  simp [State.raiseEach, hpart]

/-- The parts that `State.endCond` leaves alone. -/
@[simp] theorem State.endCond_get (code : Nat) (src : Nat) (idx : Nat) (s : State) (part : Part) (hpart : part ∉ ([.comm, .oap, .nvm, .out] : List Part)) :
    (State.endCond code src idx s).get part = s.get part := by
  simp only [List.mem_cons, List.not_mem_nil, or_false, not_or] at hpart
  simp [State.endCond, hpart]

/-- The parts that `State.emcyEvent` leaves alone. -/
@[simp] theorem State.emcyEvent_get (code : Nat) (src : Nat) (extra : List Byte) (s : State) (part : Part) (hpart : part ∉ ([.comm, .oap, .nvm, .out] : List Part)) :
    (State.emcyEvent code src extra s).get part = s.get part := by
  simp only [List.mem_cons, List.not_mem_nil, or_false, not_or] at hpart
  simp [State.emcyEvent, hpart]

/-- The parts that `State.accessError` leaves alone. -/
@[simp] theorem State.accessError_get (src : Nat) (kind : Nat) (addr : Nat) (s : State) (part : Part) (hpart : part ∉ ([.memu] : List Part)) :
    (State.accessError src kind addr s).get part = s.get part := by
  simp only [List.mem_cons, List.not_mem_nil, or_false] at hpart
  simp [State.accessError, hpart]

/-- The parts that `State.answer` leaves alone. -/
@[simp] theorem State.answer_get (code : Nat) (s : State) (part : Part) (hpart : part ∉ ([.out] : List Part)) :
    (State.answer code s).get part = s.get part := by
  simp only [List.mem_cons, List.not_mem_nil, or_false] at hpart
  simp [State.answer, hpart]

/-- The parts that `State.onSession` leaves alone. -/
@[simp] theorem State.onSession_get (token : BitVec 64) (f : OapSession → OapSession) (x2 : State) (part : Part) (hpart : part ∉ ([.oap] : List Part)) :
    (State.onSession token f x2).get part = x2.get part := by
  simp only [List.mem_cons, List.not_mem_nil, or_false] at hpart
  simp [State.onSession, hpart]

/-- The parts that `State.oapAnswer` leaves alone. -/
@[simp] theorem State.oapAnswer_get (host : Nat) (type : Nat) (token : BitVec 64) (seq : BitVec 32) (target : Option Nat) (code : Nat) (data : List Byte) (s : State) (part : Part) (hpart : part ∉ ([.oap, .out] : List Part)) :
    (State.oapAnswer host type token seq target code data s).get part = s.get part := by
  simp only [List.mem_cons, List.not_mem_nil, or_false, not_or] at hpart
  simp [State.oapAnswer, hpart]

/-- The parts that `State.oapRespond` leaves alone. -/
@[simp] theorem State.oapRespond_get (host : Nat) (type : Nat) (token : BitVec 64) (seq : BitVec 32) (code : Nat) (data : List Byte) (x6 : State) (part : Part) (hpart : part ∉ ([.oap, .out] : List Part)) :
    (State.oapRespond host type token seq code data x6).get part = x6.get part := by
  simp only [List.mem_cons, List.not_mem_nil, or_false, not_or] at hpart
  simp [State.oapRespond, hpart]

/-- The parts that `State.onWork` leaves alone. -/
@[simp] theorem State.onWork_get (n : Nat) (f : BeatWork → BeatWork) (x2 : State) (part : Part) (hpart : part ∉ ([.beat] : List Part)) :
    (State.onWork n f x2).get part = x2.get part := by
  simp only [List.mem_cons, List.not_mem_nil, or_false] at hpart
  simp [State.onWork, hpart]

/-- The parts that `State.shedBeat` leaves alone. -/
@[simp] theorem State.shedBeat_get (n : Nat) (s : State) (part : Part) (hpart : part ∉ ([.beat, .comm, .oap, .nvm, .power, .od, .out] : List Part)) :
    (State.shedBeat n s).get part = s.get part := by
  simp only [List.mem_cons, List.not_mem_nil, or_false, not_or] at hpart
  unfold State.shedBeat
  (repeat' split) <;> simp [*]

/-- The parts that `State.shedVoice` leaves alone. -/
@[simp] theorem State.shedVoice_get (n : Nat) (s : State) (part : Part) (hpart : part ∉ ([.beat, .comm, .oap, .nvm, .power, .od, .out] : List Part)) :
    (State.shedVoice n s).get part = s.get part := by
  simp only [List.mem_cons, List.not_mem_nil, or_false, not_or] at hpart
  simp [State.shedVoice, hpart]

/-- The parts that `State.guarded` leaves alone. -/
@[simp] theorem State.guarded_get (idx : Nat) (sub : Nat) (v : Nat) (f : State → Nat × State) (s : State) (part : Part) (hf : ∀ y0, (f y0).2.get part = y0.get part) (hpart : part ∉ ([.out] : List Part)) :
    (State.guarded idx sub v f s).get part = s.get part := by
  simp only [List.mem_cons, List.not_mem_nil, or_false] at hpart
  simp [State.guarded, hpart, *]

/-- The parts that `State.served` leaves alone. -/
@[simp] theorem State.served_get (f : State → State) (s : State) (part : Part) (hf : ∀ y0, (f y0).get part = y0.get part) :
    (State.served f s).get part = s.get part := by
  simp [State.served, *]

/-- The parts that `State.written` leaves alone. -/
@[simp] theorem State.written_get (f : State → State) (s : State) (part : Part) (hf : ∀ y0, (f y0).get part = y0.get part) (hpart : part ∉ ([.out] : List Part)) :
    (State.written f s).get part = s.get part := by
  simp only [List.mem_cons, List.not_mem_nil, or_false] at hpart
  simp [State.written, hpart, *]

/-- The parts that `State.writeEnt` leaves alone. -/
@[simp] theorem State.writeEnt_get (idx : Nat) (sub : Nat) (v : Nat) (s : State) (part : Part) (hpart : part ∉ ([.od, .wtime] : List Part)) :
    (State.writeEnt idx sub v s).get part = s.get part := by
  simp only [List.mem_cons, List.not_mem_nil, or_false, not_or] at hpart
  simp [State.writeEnt, hpart]

/-- The parts that `State.onLink` leaves alone. -/
@[simp] theorem State.onLink_get (t : Nat) (l : Nat) (f : TLink → TLink) (x3 : State) (part : Part) (hpart : part ∉ ([.trellis] : List Part)) :
    (State.onLink t l f x3).get part = x3.get part := by
  simp only [List.mem_cons, List.not_mem_nil, or_false] at hpart
  simp [State.onLink, hpart]

/-- The parts that `State.owe` leaves alone. -/
@[simp] theorem State.owe_get (p : Nat) (cls : Nat) (n : Nat) (x3 : State) (part : Part) (hpart : part ∉ ([.choir] : List Part)) :
    (State.owe p cls n x3).get part = x3.get part := by
  simp only [List.mem_cons, List.not_mem_nil, or_false] at hpart
  simp [State.owe, hpart]

/-- The parts that `State.sendFrame` leaves alone. -/
@[simp] theorem State.sendFrame_get (p : Nat) (f : LinkFrame) (s : State) (part : Part) (hpart : part ∉ ([.choir, .out] : List Part)) :
    (State.sendFrame p f s).get part = s.get part := by
  simp only [List.mem_cons, List.not_mem_nil, or_false, not_or] at hpart
  unfold State.sendFrame
  (repeat' split) <;> simp [*]

/-- The parts that `State.useLinkCredit` leaves alone. -/
@[simp] theorem State.useLinkCredit_get (p : Nat) (cls : Nat) (n : Nat) (x3 : State) (part : Part) (hpart : part ∉ ([.choir] : List Part)) :
    (State.useLinkCredit p cls n x3).get part = x3.get part := by
  simp only [List.mem_cons, List.not_mem_nil, or_false] at hpart
  simp [State.useLinkCredit, hpart]

/-- The parts that `State.pumpOne` leaves alone. -/
theorem State.pumpOne_get (p : Nat) (s : State) (part : Part) (hpart : part ∉ ([.choir, .out] : List Part)) :
    ∀ t, State.pumpOne p s = some t → t.get part = s.get part := by
  simp only [List.mem_cons, List.not_mem_nil, or_false, not_or] at hpart
  intro t ht
  unfold State.pumpOne at ht
  split at ht
  · contradiction
  · obtain ⟨f, _, rfl⟩ := Option.map_eq_some_iff.1 ht
    simp [hpart]

/-- The parts that `State.pumpN` leaves alone. -/
@[simp] theorem State.pumpN_get (p : Nat) (x1 : Nat) (x2 : State) (part : Part) (hpart : part ∉ ([.choir, .out] : List Part)) :
    (State.pumpN p x1 x2).get part = x2.get part := by
  simp only [List.mem_cons, List.not_mem_nil, or_false, not_or] at hpart
  induction x1 generalizing x2 with
  | zero => rfl
  | succ k ih =>
    unfold State.pumpN
    split
    · rfl
    · rename_i u hu
      rw [ih, State.pumpOne_get p x2 part (by simp [hpart]) u hu]

/-- The parts that `State.pump` leaves alone. -/
@[simp] theorem State.pump_get (p : Nat) (s : State) (part : Part) (hpart : part ∉ ([.choir, .out] : List Part)) :
    (State.pump p s).get part = s.get part := by
  simp only [List.mem_cons, List.not_mem_nil, or_false, not_or] at hpart
  simp [State.pump, hpart]

/-- The parts that `State.giveCredit` leaves alone. -/
@[simp] theorem State.giveCredit_get (p : Nat) (s : State) (part : Part) (hpart : part ∉ ([.choir, .out] : List Part)) :
    (State.giveCredit p s).get part = s.get part := by
  simp only [List.mem_cons, List.not_mem_nil, or_false, not_or] at hpart
  simp [State.giveCredit, hpart]

/-- The parts that `State.linkRun` leaves alone. -/
@[simp] theorem State.linkRun_get (s : State) (part : Part) (hpart : part ∉ ([.choir, .out] : List Part)) :
    (State.linkRun s).get part = s.get part := by
  simp only [List.mem_cons, List.not_mem_nil, or_false, not_or] at hpart
  simp [State.linkRun, hpart]

/-- The parts that `State.enqueue` leaves alone. -/
@[simp] theorem State.enqueue_get (p : Nat) (l : List LinkFrame) (s : State) (part : Part) (hpart : part ∉ ([.choir] : List Part)) :
    (State.enqueue p l s).get part = s.get part := by
  simp only [List.mem_cons, List.not_mem_nil, or_false] at hpart
  simp [State.enqueue, hpart]

/-- The parts that `State.sendBy` leaves alone. -/
@[simp] theorem State.sendBy_get (ps : List Nat) (l : List LinkFrame) (s : State) (part : Part) (hpart : part ∉ ([.choir, .out] : List Part)) :
    (State.sendBy ps l s).get part = s.get part := by
  simp only [List.mem_cons, List.not_mem_nil, or_false, not_or] at hpart
  simp [State.sendBy, hpart]

/-- The parts that `State.linkTo` leaves alone. -/
@[simp] theorem State.linkTo_get (kind : Nat) (d : LinkDest) (msg : List Byte) (s : State) (part : Part) (hpart : part ∉ ([.choir, .out] : List Part)) :
    (State.linkTo kind d msg s).get part = s.get part := by
  simp only [List.mem_cons, List.not_mem_nil, or_false, not_or] at hpart
  simp [State.linkTo, hpart]

/-- The parts that `State.linkToPrec` leaves alone. -/
@[simp] theorem State.linkToPrec_get (kind : Nat) (msg : List Byte) (s : State) (part : Part) (hpart : part ∉ ([.choir, .out] : List Part)) :
    (State.linkToPrec kind msg s).get part = s.get part := by
  simp only [List.mem_cons, List.not_mem_nil, or_false, not_or] at hpart
  simp [State.linkToPrec, hpart]

/-- The parts that `State.linkData` leaves alone. -/
@[simp] theorem State.linkData_get (kind : Nat) (cls : Nat) (d : Nat) (field : Nat) (payload : List Byte) (s : State) (part : Part) (hpart : part ∉ ([.choir, .out] : List Part)) :
    (State.linkData kind cls d field payload s).get part = s.get part := by
  simp only [List.mem_cons, List.not_mem_nil, or_false, not_or] at hpart
  simp [State.linkData, hpart]

/-- The parts that `State.forwardReply` leaves alone. -/
@[simp] theorem State.forwardReply_get (src : Nat) (type : Nat) (token : BitVec 64) (seq : BitVec 32) (code : Nat) (data : List Byte) (x6 : State) (part : Part) (hpart : part ∉ ([.choir, .out] : List Part)) :
    (State.forwardReply src type token seq code data x6).get part = x6.get part := by
  simp only [List.mem_cons, List.not_mem_nil, or_false, not_or] at hpart
  simp [State.forwardReply, hpart]

/-- The parts that `State.refreshFc` leaves alone. -/
@[simp] theorem State.refreshFc_get (s : State) (part : Part) (hpart : part ∉ ([.queue] : List Part)) :
    (State.refreshFc s).get part = s.get part := by
  simp only [List.mem_cons, List.not_mem_nil, or_false] at hpart
  simp [State.refreshFc, hpart]

/-- The parts that `State.qIrq` leaves alone. -/
@[simp] theorem State.qIrq_get (q : Nat) (b : Nat) (s : State) (part : Part) (hpart : part ∉ ([.queue, .out] : List Part)) :
    (State.qIrq q b s).get part = s.get part := by
  simp only [List.mem_cons, List.not_mem_nil, or_false, not_or] at hpart
  simp [State.qIrq, hpart]

/-- The parts that `State.watermarks` leaves alone. -/
@[simp] theorem State.watermarks_get (q : Nat) (old : Nat) (s : State) (part : Part) (hpart : part ∉ ([.queue, .out] : List Part)) :
    (State.watermarks q old s).get part = s.get part := by
  simp only [List.mem_cons, List.not_mem_nil, or_false, not_or] at hpart
  simp [State.watermarks, hpart]

/-- The parts that `State.spillOut` leaves alone. -/
@[simp] theorem State.spillOut_get (q : Nat) (l : Nat) (s : State) (part : Part) (hpart : part ∉ ([.queue, .mem] : List Part)) :
    (State.spillOut q l s).get part = s.get part := by
  simp only [List.mem_cons, List.not_mem_nil, or_false, not_or] at hpart
  simp [State.spillOut, hpart]

/-- The parts that `State.spillItem` leaves alone. -/
@[simp] theorem State.spillItem_get (q : Nat) (l : Nat) (bad : BitVec 4) (i : Nat) (s : State) (part : Part) (hpart : part ∉ ([.nvm, .queue, .od, .fresh] : List Part)) :
    (State.spillItem q l bad i s).get part = s.get part := by
  simp only [List.mem_cons, List.not_mem_nil, or_false, not_or] at hpart
  simp [State.spillItem, hpart]

/-- The parts that `State.spillIn` leaves alone. -/
@[simp] theorem State.spillIn_get (q : Nat) (l : Nat) (bad : BitVec 4) (s : State) (part : Part) (hpart : part ∉ ([.nvm, .queue, .od, .fresh] : List Part)) :
    (State.spillIn q l bad s).get part = s.get part := by
  simp only [List.mem_cons, List.not_mem_nil, or_false, not_or] at hpart
  simp [State.spillIn, hpart]

/-- The parts that `State.spillMove` leaves alone. -/
@[simp] theorem State.spillMove_get (q : Nat) (l : Nat) (bad : BitVec 4) (s : State) (part : Part) (hpart : part ∉ ([.nvm, .queue, .od, .mem, .fresh] : List Part)) :
    (State.spillMove q l bad s).get part = s.get part := by
  simp only [List.mem_cons, List.not_mem_nil, or_false, not_or] at hpart
  simp [State.spillMove, hpart]

/-- The parts that `State.spillRoom` leaves alone. -/
@[simp] theorem State.spillRoom_get (q : Nat) (l : Nat) (x2 : Nat) (x3 : State) (part : Part) (hpart : part ∉ ([.nvm, .queue, .od, .mem, .fresh] : List Part)) :
    (State.spillRoom q l x2 x3).get part = x3.get part := by
  simp only [List.mem_cons, List.not_mem_nil, or_false, not_or] at hpart
  induction x2 generalizing x3 <;> simp_all [State.spillRoom]

/-- The parts that `State.qCommit` leaves alone. -/
@[simp] theorem State.qCommit_get (q : Nat) (l : Nat) (items : List (BitVec 128)) (s : State) (part : Part) (hpart : part ∉ ([.nvm, .queue, .od, .mem, .fresh, .out] : List Part)) :
    (State.qCommit q l items s).get part = s.get part := by
  simp only [List.mem_cons, List.not_mem_nil, or_false, not_or] at hpart
  simp [State.qCommit, hpart]

/-- The parts that `State.hwPush` leaves alone. -/
theorem State.hwPush_get (q : Nat) (items : List (BitVec 128)) (s : State) (part : Part) (hpart : part ∉ ([.nvm, .queue, .od, .mem, .fresh, .out] : List Part)) :
    ∀ t, State.hwPush q items s = some t → t.get part = s.get part := by
  simp only [List.mem_cons, List.not_mem_nil, or_false, not_or] at hpart
  intro t ht
  simp only [State.hwPush] at ht
  (repeat' split at ht) <;> simp_all <;> (obtain rfl := ht) <;> simp [hpart]

/-- The parts that `State.qFlushEffect` leaves alone. -/
@[simp] theorem State.qFlushEffect_get (q : Nat) (s : State) (part : Part) (hpart : part ∉ ([.queue, .od, .out] : List Part)) :
    (State.qFlushEffect q s).get part = s.get part := by
  simp only [List.mem_cons, List.not_mem_nil, or_false, not_or] at hpart
  simp [State.qFlushEffect, hpart]

/-- The parts that `State.discardWaiting` leaves alone. -/
@[simp] theorem State.discardWaiting_get (q : Nat) (s : State) (part : Part) (hpart : part ∉ ([.press, .memu, .video, .od, .out] : List Part)) :
    (State.discardWaiting q s).get part = s.get part := by
  simp only [List.mem_cons, List.not_mem_nil, or_false, not_or] at hpart
  simp [State.discardWaiting, hpart]

/-- The parts that `State.qDisableEffect` leaves alone. -/
@[simp] theorem State.qDisableEffect_get (q : Nat) (s : State) (part : Part) (hpart : part ∉ ([.press, .queue, .memu, .video, .od, .out] : List Part)) :
    (State.qDisableEffect q s).get part = s.get part := by
  simp only [List.mem_cons, List.not_mem_nil, or_false, not_or] at hpart
  simp [State.qDisableEffect, hpart]

/-- The parts that `State.qBoundary` leaves alone. -/
@[simp] theorem State.qBoundary_get (q : Nat) (s : State) (part : Part) (hpart : part ∉ ([.press, .queue, .memu, .video, .od, .out] : List Part)) :
    (State.qBoundary q s).get part = s.get part := by
  simp only [List.mem_cons, List.not_mem_nil, or_false, not_or] at hpart
  unfold State.qBoundary
  (repeat' split) <;> simp [*]

/-- The parts that `State.qEnable` leaves alone. -/
@[simp] theorem State.qEnable_get (q : Nat) (s : State) (part : Part) (hpart : part ∉ ([.queue] : List Part)) :
    (State.qEnable q s).get part = s.get part := by
  simp only [List.mem_cons, List.not_mem_nil, or_false] at hpart
  simp [State.qEnable, hpart]

/-- The parts that `State.latch` leaves alone. -/
@[simp] theorem State.latch_get (c : Nat) (q : Nat) (item : BitVec 128) (st : Word) (s : State) (part : Part) (hpart : part ∉ ([.queue, .out] : List Part)) :
    (State.latch c q item st s).get part = s.get part := by
  simp only [List.mem_cons, List.not_mem_nil, or_false, not_or] at hpart
  simp [State.latch, hpart]

/-- The parts that `State.popEmpty` leaves alone. -/
@[simp] theorem State.popEmpty_get (c : Nat) (q : Nat) (s : State) (part : Part) (hpart : part ∉ ([.queue, .od, .out] : List Part)) :
    (State.popEmpty c q s).get part = s.get part := by
  simp only [List.mem_cons, List.not_mem_nil, or_false, not_or] at hpart
  simp [State.popEmpty, hpart]

/-- The parts that `State.popItem` leaves alone. -/
@[simp] theorem State.popItem_get (c : Nat) (q : Nat) (l : Nat) (s : State) (part : Part) (hpart : part ∉ ([.press, .queue, .memu, .video, .od, .out] : List Part)) :
    (State.popItem c q l s).get part = s.get part := by
  simp only [List.mem_cons, List.not_mem_nil, or_false, not_or] at hpart
  unfold State.popItem
  (repeat' split) <;> simp [*]

/-- The parts that `State.popLevel` leaves alone. -/
@[simp] theorem State.popLevel_get (q : Nat) (s : State) (part : Part) (hpart : part ∉ ([.queue] : List Part)) :
    (State.popLevel q s).2.get part = s.get part := by
  simp only [List.mem_cons, List.not_mem_nil, or_false] at hpart
  unfold State.popLevel
  (repeat' split) <;> simp [*]

/-- The parts that `State.popNow` leaves alone. -/
@[simp] theorem State.popNow_get (c : Nat) (q : Nat) (s : State) (part : Part) (hpart : part ∉ ([.press, .queue, .memu, .video, .od, .out] : List Part)) :
    (State.popNow c q s).get part = s.get part := by
  simp only [List.mem_cons, List.not_mem_nil, or_false, not_or] at hpart
  unfold State.popNow
  dsimp only
  (repeat' split) <;> simp [*]

/-- The parts that `State.creditCheckLevel` leaves alone. -/
@[simp] theorem State.creditCheckLevel_get (q : Nat) (l : Nat) (s : State) (part : Part) (hpart : part ∉ ([.nvm, .queue, .od] : List Part)) :
    (State.creditCheckLevel q l s).get part = s.get part := by
  simp only [List.mem_cons, List.not_mem_nil, or_false, not_or] at hpart
  simp [State.creditCheckLevel, hpart]

/-- The parts that `State.creditCheck` leaves alone. -/
@[simp] theorem State.creditCheck_get (s : State) (part : Part) (hpart : part ∉ ([.nvm, .queue, .od] : List Part)) :
    (State.creditCheck s).get part = s.get part := by
  simp only [List.mem_cons, List.not_mem_nil, or_false, not_or] at hpart
  unfold State.creditCheck
  try dsimp only
  repeat' split
  all_goals try simp [hpart]
  all_goals try (rename_i heq; have hv := congrArg Prod.snd heq; dsimp only at hv; subst hv; simp [hpart])
  all_goals try refine (State.get_foldl _ _ _ _ (fun _ _ => ?_)).trans ?_
  all_goals try (repeat' split)
  all_goals try simp [hpart]
  all_goals try refine (State.get_foldl _ _ _ _ (fun _ _ => ?_)).trans ?_
  all_goals try (repeat' split)
  all_goals simp [hpart]

/-- The parts that `State.queuesReset` leaves alone. -/
@[simp] theorem State.queuesReset_get (s : State) (part : Part) (hpart : part ∉ ([.queue] : List Part)) :
    (State.queuesReset s).get part = s.get part := by
  simp only [List.mem_cons, List.not_mem_nil, or_false] at hpart
  simp [State.queuesReset, hpart]

/-- The parts that `State.pushOutcome` leaves alone. -/
@[simp] theorem State.pushOutcome_get (c : Nat) (q : Nat) (cause : Nat) (s : State) (part : Part) (hpart : part ∉ ([.queue] : List Part)) :
    (State.pushOutcome c q cause s).get part = s.get part := by
  simp only [List.mem_cons, List.not_mem_nil, or_false] at hpart
  simp [State.pushOutcome, hpart]

/-- The parts that `State.pushItem` leaves alone. -/
@[simp] theorem State.pushItem_get (c : Nat) (q : Nat) (s : State) (part : Part) (hpart : part ∉ ([.nvm, .queue, .od, .mem, .fresh, .out] : List Part)) :
    (State.pushItem c q s).get part = s.get part := by
  simp only [List.mem_cons, List.not_mem_nil, or_false, not_or] at hpart
  unfold State.pushItem
  (repeat' split) <;> simp [*]

/-- The parts that `State.pushFirst` leaves alone. -/
@[simp] theorem State.pushFirst_get (c : Nat) (q : Nat) (s : State) (part : Part) (hpart : part ∉ ([.nvm, .queue, .od, .mem, .fresh, .out] : List Part)) :
    (State.pushFirst c q s).get part = s.get part := by
  simp only [List.mem_cons, List.not_mem_nil, or_false, not_or] at hpart
  simp [State.pushFirst, hpart]

/-- The parts that `State.pushNext` leaves alone. -/
@[simp] theorem State.pushNext_get (c : Nat) (q : Nat) (s : State) (part : Part) (hpart : part ∉ ([.nvm, .queue, .od, .mem, .fresh, .out] : List Part)) :
    (State.pushNext c q s).get part = s.get part := by
  simp only [List.mem_cons, List.not_mem_nil, or_false, not_or] at hpart
  unfold State.pushNext
  dsimp only
  (repeat' split) <;> simp [*]

/-- The parts that `State.pop` leaves alone. -/
@[simp] theorem State.pop_get (c : Nat) (q : Nat) (s : State) (part : Part) (hpart : part ∉ ([.press, .queue, .memu, .video, .od, .out] : List Part)) :
    (State.pop c q s).get part = s.get part := by
  simp only [List.mem_cons, List.not_mem_nil, or_false, not_or] at hpart
  simp [State.pop, hpart]

/-- The parts that `State.writeEnable1` leaves alone. -/
@[simp] theorem State.writeEnable1_get (q : Nat) (s : State) (part : Part) (hpart : part ∉ ([.queue, .od] : List Part)) :
    (State.writeEnable1 q s).2.get part = s.get part := by
  simp only [List.mem_cons, List.not_mem_nil, or_false, not_or] at hpart
  simp [State.writeEnable1, hpart]

/-- The parts that `State.writeEnable0` leaves alone. -/
@[simp] theorem State.writeEnable0_get (q : Nat) (s : State) (part : Part) (hpart : part ∉ ([.press, .queue, .memu, .video, .od, .out] : List Part)) :
    (State.writeEnable0 q s).get part = s.get part := by
  simp only [List.mem_cons, List.not_mem_nil, or_false, not_or] at hpart
  unfold State.writeEnable0
  dsimp only
  (repeat' split) <;> simp [*]

/-- The parts that `State.qFlush` leaves alone. -/
@[simp] theorem State.qFlush_get (q : Nat) (s : State) (part : Part) (hpart : part ∉ ([.queue, .od, .out] : List Part)) :
    (State.qFlush q s).get part = s.get part := by
  simp only [List.mem_cons, List.not_mem_nil, or_false, not_or] at hpart
  unfold State.qFlush
  (repeat' split) <;> simp [*]

/-- The parts that `State.queueCommand` leaves alone. -/
@[simp] theorem State.queueCommand_get (q : Nat) (v : Nat) (s : State) (part : Part) (hpart : part ∉ ([.queue, .od, .out] : List Part)) :
    (State.queueCommand q v s).2.get part = s.get part := by
  simp only [List.mem_cons, List.not_mem_nil, or_false, not_or] at hpart
  simp [State.queueCommand, hpart]

/-- The parts that `State.dropRest` leaves alone. -/
@[simp] theorem State.dropRest_get (q : Nat) (s : State) (part : Part) (hpart : part ∉ ([.queue, .od, .out] : List Part)) :
    (State.dropRest q s).get part = s.get part := by
  simp only [List.mem_cons, List.not_mem_nil, or_false, not_or] at hpart
  unfold State.dropRest
  (repeat' split) <;> simp [*]

/-- The parts that `State.restoreFailed` leaves alone. -/
@[simp] theorem State.restoreFailed_get (z : Nat) (reason : Nat) (s : State) (part : Part) (hpart : part ∉ ([.nvm] : List Part)) :
    (State.restoreFailed z reason s).get part = s.get part := by
  simp only [List.mem_cons, List.not_mem_nil, or_false] at hpart
  simp [State.restoreFailed, hpart]

/-- The parts that `State.disturb` leaves alone. -/
@[simp] theorem State.disturb_get (z : Nat) (bit : Nat) (s : State) (part : Part) (hpart : part ∉ ([.comm, .oap, .nvm, .zone, .od, .out] : List Part)) :
    (State.disturb z bit s).get part = s.get part := by
  simp only [List.mem_cons, List.not_mem_nil, or_false, not_or] at hpart
  unfold State.disturb
  (repeat' split) <;> simp [*]

/-- The parts that `State.disturbBounded` leaves alone. -/
@[simp] theorem State.disturbBounded_get (g : Nat) (bit : Nat) (s : State) (part : Part) (hpart : part ∉ ([.comm, .oap, .nvm, .zone, .od, .out] : List Part)) :
    (State.disturbBounded g bit s).get part = s.get part := by
  simp only [List.mem_cons, List.not_mem_nil, or_false, not_or] at hpart
  simp [State.disturbBounded, hpart]

/-- The parts that `State.zoneSet` leaves alone. -/
@[simp] theorem State.zoneSet_get (z : Nat) (n : Int) (s : State) (part : Part) (hpart : part ∉ ([.comm, .oap, .nvm, .zone, .out] : List Part)) :
    (State.zoneSet z n s).get part = s.get part := by
  simp only [List.mem_cons, List.not_mem_nil, or_false, not_or] at hpart
  simp [State.zoneSet, hpart]

/-- The parts that `State.zoneRestored` leaves alone. -/
@[simp] theorem State.zoneRestored_get (z : Nat) (method : Nat) (n : Int) (s : State) (part : Part) (hpart : part ∉ ([.comm, .oap, .nvm, .zone, .out] : List Part)) :
    (State.zoneRestored z method n s).get part = s.get part := by
  simp only [List.mem_cons, List.not_mem_nil, or_false, not_or] at hpart
  simp [State.zoneRestored, hpart]

/-- The parts that `State.zoneSettle` leaves alone. -/
@[simp] theorem State.zoneSettle_get (z : Nat) (s : State) (part : Part) (hpart : part ∉ ([.comm, .oap, .nvm, .zone, .out] : List Part)) :
    (State.zoneSettle z s).get part = s.get part := by
  simp only [List.mem_cons, List.not_mem_nil, or_false, not_or] at hpart
  unfold State.zoneSettle
  (repeat' split) <;> simp [*]

/-- The parts that `State.zonesSettle` leaves alone. -/
@[simp] theorem State.zonesSettle_get (s : State) (part : Part) (hpart : part ∉ ([.comm, .oap, .nvm, .zone, .out] : List Part)) :
    (State.zonesSettle s).get part = s.get part := by
  simp only [List.mem_cons, List.not_mem_nil, or_false, not_or] at hpart
  simp [State.zonesSettle, hpart]

/-- The parts that `State.zoneCount` leaves alone. -/
@[simp] theorem State.zoneCount_get (z : Nat) (entering : Bool) (s : State) (part : Part) (hpart : part ∉ ([.comm, .oap, .nvm, .zone, .od, .out] : List Part)) :
    (State.zoneCount z entering s).get part = s.get part := by
  simp only [List.mem_cons, List.not_mem_nil, or_false, not_or] at hpart
  simp [State.zoneCount, hpart]

/-- The parts that `State.gateCount` leaves alone. -/
@[simp] theorem State.gateCount_get (g : Nat) (dir : Nat) (stamp : Nat) (s : State) (part : Part) (hpart : part ∉ ([.comm, .oap, .nvm, .zone, .od, .out] : List Part)) :
    (State.gateCount g dir stamp s).get part = s.get part := by
  simp only [List.mem_cons, List.not_mem_nil, or_false, not_or] at hpart
  simp [State.gateCount, hpart]

/-- The parts that `State.seqEffect` leaves alone. -/
@[simp] theorem State.seqEffect_get (g : Nat) (stamp : Nat) (e : SeqEffect) (s : State) (part : Part) (hpart : part ∉ ([.comm, .oap, .nvm, .zone, .od, .out] : List Part)) :
    (State.seqEffect g stamp e s).get part = s.get part := by
  simp only [List.mem_cons, List.not_mem_nil, or_false, not_or] at hpart
  unfold State.seqEffect
  (repeat' split) <;> simp [*]

/-- The parts that `State.accrueInput` leaves alone. -/
@[simp] theorem State.accrueInput_get (g : Nat) (b : Bool) (s : State) (part : Part) (hpart : part ∉ ([.zone] : List Part)) :
    (State.accrueInput g b s).get part = s.get part := by
  simp only [List.mem_cons, List.not_mem_nil, or_false] at hpart
  simp [State.accrueInput, hpart]

/-- The parts that `State.accrue` leaves alone. -/
@[simp] theorem State.accrue_get (s : State) (part : Part) (hpart : part ∉ ([.zone] : List Part)) :
    (State.accrue s).get part = s.get part := by
  simp only [List.mem_cons, List.not_mem_nil, or_false] at hpart
  simp [State.accrue, hpart]

/-- The parts that `State.gateFault` leaves alone. -/
@[simp] theorem State.gateFault_get (g : Nat) (cause : Nat) (b : Bool) (s : State) (part : Part) (hpart : part ∉ ([.comm, .oap, .nvm, .zone, .od, .out] : List Part)) :
    (State.gateFault g cause b s).get part = s.get part := by
  simp only [List.mem_cons, List.not_mem_nil, or_false, not_or] at hpart
  simp [State.gateFault, hpart]

/-- The parts that `State.rawChange` leaves alone. -/
@[simp] theorem State.rawChange_get (g : Nat) (b : Bool) (level : Bool) (stamp : Nat) (s : State) (part : Part) (hpart : part ∉ ([.comm, .oap, .nvm, .zone, .od, .out] : List Part)) :
    (State.rawChange g b level stamp s).get part = s.get part := by
  simp only [List.mem_cons, List.not_mem_nil, or_false, not_or] at hpart
  simp [State.rawChange, hpart]

/-- The parts that `State.pinFollow` leaves alone. -/
@[simp] theorem State.pinFollow_get (g : Nat) (b : Bool) (stamp : Nat) (s : State) (part : Part) (hpart : part ∉ ([.comm, .oap, .nvm, .zone, .od, .out] : List Part)) :
    (State.pinFollow g b stamp s).get part = s.get part := by
  simp only [List.mem_cons, List.not_mem_nil, or_false, not_or] at hpart
  simp [State.pinFollow, hpart]

/-- The parts that `State.gateStep` leaves alone. -/
@[simp] theorem State.gateStep_get (g : Nat) (stamp : Nat) (s : State) (part : Part) (hpart : part ∉ ([.comm, .oap, .nvm, .zone, .od, .out] : List Part)) :
    (State.gateStep g stamp s).get part = s.get part := by
  simp only [List.mem_cons, List.not_mem_nil, or_false, not_or] at hpart
  simp [State.gateStep, hpart]

/-- The parts that `State.beamEvent` leaves alone. -/
@[simp] theorem State.beamEvent_get (port : Nat) (beam : Nat) (pol : Bool) (stamp : Nat) (s : State) (part : Part) (hpart : part ∉ ([.comm, .oap, .nvm, .zone, .od, .out] : List Part)) :
    (State.beamEvent port beam pol stamp s).get part = s.get part := by
  simp only [List.mem_cons, List.not_mem_nil, or_false, not_or] at hpart
  simp [State.beamEvent, hpart]

/-- The parts that `State.regionEvent` leaves alone. -/
@[simp] theorem State.regionEvent_get (port : Nat) (beat : Nat) (x : Nat) (y : Nat) (s : State) (part : Part) (hpart : part ∉ ([.zone] : List Part)) :
    (State.regionEvent port beat x y s).get part = s.get part := by
  simp only [List.mem_cons, List.not_mem_nil, or_false] at hpart
  simp [State.regionEvent, hpart]

/-- The parts that `State.regionDecide` leaves alone. -/
@[simp] theorem State.regionDecide_get (r : Nat) (n : Nat) (start : Nat) (s : State) (part : Part) (hpart : part ∉ ([.comm, .oap, .nvm, .zone, .od, .out] : List Part)) :
    (State.regionDecide r n start s).get part = s.get part := by
  simp only [List.mem_cons, List.not_mem_nil, or_false, not_or] at hpart
  simp [State.regionDecide, hpart]

/-- The parts that `State.sourceLost` leaves alone. -/
@[simp] theorem State.sourceLost_get (p : Nat) (s : State) (part : Part) (hpart : part ∉ ([.comm, .oap, .nvm, .zone, .od, .out] : List Part)) :
    (State.sourceLost p s).get part = s.get part := by
  simp only [List.mem_cons, List.not_mem_nil, or_false, not_or] at hpart
  simp [State.sourceLost, hpart]

/-- The parts that `State.zonePort` leaves alone. -/
@[simp] theorem State.zonePort_get (p : Nat) (old : PortSt) (new : PortSt) (s : State) (part : Part) (hpart : part ∉ ([.comm, .oap, .nvm, .zone, .od, .out] : List Part)) :
    (State.zonePort p old new s).get part = s.get part := by
  simp only [List.mem_cons, List.not_mem_nil, or_false, not_or] at hpart
  simp [State.zonePort, hpart]

/-- The parts that `State.zoneVerdict` leaves alone. -/
@[simp] theorem State.zoneVerdict_get (z : Nat) (tov : Nat) (empty : BitVec 8) (s : State) (part : Part) (hpart : part ∉ ([.comm, .oap, .nvm, .zone, .out] : List Part)) :
    (State.zoneVerdict z tov empty s).get part = s.get part := by
  simp only [List.mem_cons, List.not_mem_nil, or_false, not_or] at hpart
  simp [State.zoneVerdict, hpart]

/-- The parts that `State.zonesVerdict` leaves alone. -/
@[simp] theorem State.zonesVerdict_get (tov : Nat) (empty : BitVec 8) (s : State) (part : Part) (hpart : part ∉ ([.comm, .oap, .nvm, .zone, .out] : List Part)) :
    (State.zonesVerdict tov empty s).get part = s.get part := by
  simp only [List.mem_cons, List.not_mem_nil, or_false, not_or] at hpart
  simp [State.zonesVerdict, hpart]

/-- The parts that `State.zonesReset` leaves alone. -/
@[simp] theorem State.zonesReset_get (s : State) (part : Part) (hpart : part ∉ ([.zone] : List Part)) :
    (State.zonesReset s).get part = s.get part := by
  simp only [List.mem_cons, List.not_mem_nil, or_false] at hpart
  simp [State.zonesReset, hpart]

/-- The parts that `State.zonesBegin` leaves alone. -/
@[simp] theorem State.zonesBegin_get (s : State) (part : Part) (hpart : part ∉ ([.comm, .oap, .nvm, .zone, .od, .out] : List Part)) :
    (State.zonesBegin s).get part = s.get part := by
  simp only [List.mem_cons, List.not_mem_nil, or_false, not_or] at hpart
  simp [State.zonesBegin, hpart]

/-- The parts that `State.gateEnable` leaves alone. -/
@[simp] theorem State.gateEnable_get (g : Nat) (s : State) (part : Part) (hpart : part ∉ ([.comm, .oap, .nvm, .zone, .od, .out] : List Part)) :
    (State.gateEnable g s).2.get part = s.get part := by
  simp only [List.mem_cons, List.not_mem_nil, or_false, not_or] at hpart
  simp [State.gateEnable, hpart]

/-- The parts that `State.gateDisable` leaves alone. -/
@[simp] theorem State.gateDisable_get (g : Nat) (s : State) (part : Part) (hpart : part ∉ ([.comm, .oap, .nvm, .zone, .od, .out] : List Part)) :
    (State.gateDisable g s).2.get part = s.get part := by
  simp only [List.mem_cons, List.not_mem_nil, or_false, not_or] at hpart
  simp [State.gateDisable, hpart]

/-- The parts that `State.gateClear` leaves alone. -/
@[simp] theorem State.gateClear_get (g : Nat) (s : State) (part : Part) (hpart : part ∉ ([.comm, .oap, .nvm, .zone, .out] : List Part)) :
    (State.gateClear g s).2.get part = s.get part := by
  simp only [List.mem_cons, List.not_mem_nil, or_false, not_or] at hpart
  simp [State.gateClear, hpart]

/-- The parts that `State.sourceWrite` leaves alone. -/
@[simp] theorem State.sourceWrite_get (g : Nat) (b : Bool) (v : Nat) (s : State) (part : Part) (hpart : part ∉ ([.comm, .oap, .nvm, .zone, .od, .out] : List Part)) :
    (State.sourceWrite g b v s).2.get part = s.get part := by
  simp only [List.mem_cons, List.not_mem_nil, or_false, not_or] at hpart
  simp [State.sourceWrite, hpart]

/-- The parts that `State.boundaryWrite` leaves alone. -/
@[simp] theorem State.boundaryWrite_get (z : Nat) (v : Nat) (s : State) (part : Part) (hpart : part ∉ ([.comm, .oap, .nvm, .zone, .od, .out] : List Part)) :
    (State.boundaryWrite z v s).2.get part = s.get part := by
  simp only [List.mem_cons, List.not_mem_nil, or_false, not_or] at hpart
  simp [State.boundaryWrite, hpart]

/-- The parts that `State.stuckWrite` leaves alone. -/
@[simp] theorem State.stuckWrite_get (g : Nat) (sub : Nat) (v : Nat) (s : State) (part : Part) (hpart : part ∉ ([.zone, .od, .wtime] : List Part)) :
    (State.stuckWrite g sub v s).2.get part = s.get part := by
  simp only [List.mem_cons, List.not_mem_nil, or_false, not_or] at hpart
  simp [State.stuckWrite, hpart]

/-- The parts that `State.zoneCommand` leaves alone. -/
@[simp] theorem State.zoneCommand_get (z : Nat) (v : Nat) (s : State) (part : Part) (hpart : part ∉ ([.comm, .oap, .nvm, .zone, .od, .out] : List Part)) :
    (State.zoneCommand z v s).2.get part = s.get part := by
  simp only [List.mem_cons, List.not_mem_nil, or_false, not_or] at hpart
  simp [State.zoneCommand, hpart]

/-- The parts that `State.baggingWeight` leaves alone. -/
@[simp] theorem State.baggingWeight_get (z : Nat) (v : Nat) (s : State) (part : Part) (hpart : part ∉ ([.comm, .oap, .nvm, .zone, .od, .out] : List Part)) :
    (State.baggingWeight z v s).2.get part = s.get part := by
  simp only [List.mem_cons, List.not_mem_nil, or_false, not_or] at hpart
  simp [State.baggingWeight, hpart]

/-- The parts that `State.setPin` leaves alone. -/
@[simp] theorem State.setPin_get (g : Nat) (b : Bool) (high : Bool) (x3 : State) (part : Part) (hpart : part ∉ ([.zone] : List Part)) :
    (State.setPin g b high x3).get part = x3.get part := by
  simp only [List.mem_cons, List.not_mem_nil, or_false] at hpart
  simp [State.setPin, hpart]

/-- The parts that `State.beltSync` leaves alone. -/
@[simp] theorem State.beltSync_get (s : State) (part : Part) (hpart : part ∉ ([.belt] : List Part)) :
    (State.beltSync s).get part = s.get part := by
  simp only [List.mem_cons, List.not_mem_nil, or_false] at hpart
  simp [State.beltSync, hpart]

/-- The parts that `State.beltFault` leaves alone. -/
@[simp] theorem State.beltFault_get (cause : Nat) (s : State) (part : Part) (hpart : part ∉ ([.comm, .oap, .nvm, .belt, .out] : List Part)) :
    (State.beltFault cause s).get part = s.get part := by
  simp only [List.mem_cons, List.not_mem_nil, or_false, not_or] at hpart
  simp [State.beltFault, hpart]

/-- The parts that `State.beltStop` leaves alone. -/
@[simp] theorem State.beltStop_get (cause : Nat) (s : State) (part : Part) (hpart : part ∉ ([.belt] : List Part)) :
    (State.beltStop cause s).get part = s.get part := by
  simp only [List.mem_cons, List.not_mem_nil, or_false] at hpart
  simp [State.beltStop, hpart]

/-- The parts that `State.beltRest` leaves alone. -/
@[simp] theorem State.beltRest_get (s : State) (part : Part) (hpart : part ∉ ([.belt] : List Part)) :
    (State.beltRest s).get part = s.get part := by
  simp only [List.mem_cons, List.not_mem_nil, or_false] at hpart
  simp [State.beltRest, hpart]

/-- The parts that `State.beltRun` leaves alone. -/
@[simp] theorem State.beltRun_get (s : State) (part : Part) (hpart : part ∉ ([.belt, .od] : List Part)) :
    (State.beltRun s).2.get part = s.get part := by
  simp only [List.mem_cons, List.not_mem_nil, or_false, not_or] at hpart
  unfold State.beltRun
  dsimp only
  (repeat' split) <;> simp [*]

/-- The parts that `State.beltClear` leaves alone. -/
@[simp] theorem State.beltClear_get (s : State) (part : Part) (hpart : part ∉ ([.comm, .oap, .nvm, .belt, .out] : List Part)) :
    (State.beltClear s).2.get part = s.get part := by
  simp only [List.mem_cons, List.not_mem_nil, or_false, not_or] at hpart
  simp [State.beltClear, hpart]

/-- The parts that `State.beltCommand` leaves alone. -/
@[simp] theorem State.beltCommand_get (v : Nat) (s : State) (part : Part) (hpart : part ∉ ([.comm, .oap, .nvm, .belt, .od, .out] : List Part)) :
    (State.beltCommand v s).2.get part = s.get part := by
  simp only [List.mem_cons, List.not_mem_nil, or_false, not_or] at hpart
  simp [State.beltCommand, hpart]

/-- The parts that `State.beltReset` leaves alone. -/
@[simp] theorem State.beltReset_get (s : State) (part : Part) (hpart : part ∉ ([.belt] : List Part)) :
    (State.beltReset s).get part = s.get part := by
  simp only [List.mem_cons, List.not_mem_nil, or_false] at hpart
  simp [State.beltReset, hpart]

/-- The parts that `State.beltClock` leaves alone. -/
@[simp] theorem State.beltClock_get (us : Nat) (x1 : State) (part : Part) (hpart : part ∉ ([.belt] : List Part)) :
    (State.beltClock us x1).get part = x1.get part := by
  simp only [List.mem_cons, List.not_mem_nil, or_false] at hpart
  simp [State.beltClock, hpart]

/-- The parts that `State.onChan` leaves alone. -/
@[simp] theorem State.onChan_get (ch : Nat) (f : Channel → Channel) (x2 : State) (part : Part) (hpart : part ∉ ([.audio] : List Part)) :
    (State.onChan ch f x2).get part = x2.get part := by
  simp only [List.mem_cons, List.not_mem_nil, or_false] at hpart
  simp [State.onChan, hpart]

/-- The parts that `State.gainMove` leaves alone. -/
@[simp] theorem State.gainMove_get (ch : Nat) (s : State) (part : Part) (hpart : part ∉ ([.audio] : List Part)) :
    (State.gainMove ch s).get part = s.get part := by
  simp only [List.mem_cons, List.not_mem_nil, or_false] at hpart
  simp [State.gainMove, hpart]

/-- The parts that `State.gainFix` leaves alone. -/
@[simp] theorem State.gainFix_get (ch : Nat) (s : State) (part : Part) (hpart : part ∉ ([.audio] : List Part)) :
    (State.gainFix ch s).get part = s.get part := by
  simp only [List.mem_cons, List.not_mem_nil, or_false] at hpart
  simp [State.gainFix, hpart]

/-- The parts that `State.chanResume` leaves alone. -/
@[simp] theorem State.chanResume_get (ch : Nat) (s : State) (part : Part) (hpart : part ∉ ([.audio] : List Part)) :
    (State.chanResume ch s).get part = s.get part := by
  simp only [List.mem_cons, List.not_mem_nil, or_false] at hpart
  simp [State.chanResume, hpart]

/-- The parts that `State.chanFollow` leaves alone. -/
@[simp] theorem State.chanFollow_get (ch : Nat) (s : State) (part : Part) (hpart : part ∉ ([.audio] : List Part)) :
    (State.chanFollow ch s).get part = s.get part := by
  simp only [List.mem_cons, List.not_mem_nil, or_false] at hpart
  unfold State.chanFollow
  (repeat' split) <;> simp [*]

/-- The parts that `State.audioFollow` leaves alone. -/
@[simp] theorem State.audioFollow_get (s : State) (part : Part) (hpart : part ∉ ([.audio] : List Part)) :
    (State.audioFollow s).get part = s.get part := by
  simp only [List.mem_cons, List.not_mem_nil, or_false] at hpart
  simp [State.audioFollow, hpart]

/-- The parts that `State.audioBegin` leaves alone. -/
@[simp] theorem State.audioBegin_get (s : State) (part : Part) (hpart : part ∉ ([.audio] : List Part)) :
    (State.audioBegin s).get part = s.get part := by
  simp only [List.mem_cons, List.not_mem_nil, or_false] at hpart
  simp [State.audioBegin, hpart]

/-- The parts that `State.audioReset` leaves alone. -/
@[simp] theorem State.audioReset_get (s : State) (part : Part) (hpart : part ∉ ([.audio] : List Part)) :
    (State.audioReset s).get part = s.get part := by
  simp only [List.mem_cons, List.not_mem_nil, or_false] at hpart
  simp [State.audioReset, hpart]

/-- The parts that `State.heatCheck` leaves alone. -/
@[simp] theorem State.heatCheck_get (s : State) (part : Part) (hpart : part ∉ ([.comm, .oap, .nvm, .out] : List Part)) :
    (State.heatCheck s).get part = s.get part := by
  simp only [List.mem_cons, List.not_mem_nil, or_false, not_or] at hpart
  simp [State.heatCheck, hpart]

/-- The parts that `State.audioEnable` leaves alone. -/
@[simp] theorem State.audioEnable_get (s : State) (part : Part) (hpart : part ∉ ([.audio] : List Part)) :
    (State.audioEnable s).get part = s.get part := by
  simp only [List.mem_cons, List.not_mem_nil, or_false] at hpart
  simp [State.audioEnable, hpart]

/-- The parts that `State.audioWrite` leaves alone. -/
@[simp] theorem State.audioWrite_get (v : BitVec 32) (s : State) (part : Part) (hpart : part ∉ ([.audio] : List Part)) :
    (State.audioWrite v s).get part = s.get part := by
  simp only [List.mem_cons, List.not_mem_nil, or_false] at hpart
  simp [State.audioWrite, hpart]

/-- The parts that `State.chanTrip` leaves alone. -/
@[simp] theorem State.chanTrip_get (ch : Nat) (info : BitVec 4) (s : State) (part : Part) (hpart : part ∉ ([.comm, .oap, .nvm, .audio, .od, .out] : List Part)) :
    (State.chanTrip ch info s).get part = s.get part := by
  simp only [List.mem_cons, List.not_mem_nil, or_false, not_or] at hpart
  simp [State.chanTrip, hpart]

/-- The parts that `State.audioClear` leaves alone. -/
@[simp] theorem State.audioClear_get (ch : Nat) (s : State) (part : Part) (hpart : part ∉ ([.comm, .oap, .nvm, .audio, .out] : List Part)) :
    (State.audioClear ch s).2.get part = s.get part := by
  simp only [List.mem_cons, List.not_mem_nil, or_false, not_or] at hpart
  simp [State.audioClear, hpart]

/-- The parts that `State.audioCommand` leaves alone. -/
@[simp] theorem State.audioCommand_get (v : Nat) (s : State) (part : Part) (hpart : part ∉ ([.comm, .oap, .nvm, .audio, .out] : List Part)) :
    (State.audioCommand v s).2.get part = s.get part := by
  simp only [List.mem_cons, List.not_mem_nil, or_false, not_or] at hpart
  simp [State.audioCommand, hpart]

/-- The parts that `State.audioGainWrite` leaves alone. -/
@[simp] theorem State.audioGainWrite_get (sub : Nat) (v : Nat) (s : State) (part : Part) (hpart : part ∉ ([.audio, .od, .wtime] : List Part)) :
    (State.audioGainWrite sub v s).2.get part = s.get part := by
  simp only [List.mem_cons, List.not_mem_nil, or_false, not_or] at hpart
  simp [State.audioGainWrite, hpart]

/-- The parts that `State.playSample` leaves alone. -/
@[simp] theorem State.playSample_get (ch : Nat) (v : BitVec 16) (s : State) (part : Part) (hpart : part ∉ ([.audio] : List Part)) :
    (State.playSample ch v s).get part = s.get part := by
  simp only [List.mem_cons, List.not_mem_nil, or_false] at hpart
  simp [State.playSample, hpart]

/-- The parts that `State.upToIsland` leaves alone. -/
@[simp] theorem State.upToIsland_get (t : Nat) (s : State) (part : Part) (hpart : part ∉ ([.now] : List Part)) :
    (State.upToIsland t s).get part = s.get part := by
  simp only [List.mem_cons, List.not_mem_nil, or_false] at hpart
  simp [State.upToIsland, hpart]

/-- The parts that `State.islandUp` leaves alone. -/
@[simp] theorem State.islandUp_get (f : State → State) (s : State) (part : Part) (hf : ∀ y0, (f y0).get part = y0.get part) :
    (State.islandUp f s).get part = s.get part := by
  simp [State.islandUp, *]

/-- The parts that `State.writeCopy` leaves alone. -/
@[simp] theorem State.writeCopy_get (k : Nat) (b : List Byte) (g : Nat) (s : State) (part : Part) (hpart : part ∉ ([.memu, .mem] : List Part)) :
    (State.writeCopy k b g s).get part = s.get part := by
  simp only [List.mem_cons, List.not_mem_nil, or_false, not_or] at hpart
  simp [State.writeCopy, hpart]

/-- The parts that `State.useCfg` leaves alone. -/
@[simp] theorem State.useCfg_get (b : List Byte) (g : Nat) (x2 : State) (part : Part) (hpart : part ∉ ([.island] : List Part)) :
    (State.useCfg b g x2).get part = x2.get part := by
  simp only [List.mem_cons, List.not_mem_nil, or_false] at hpart
  simp [State.useCfg, hpart]

/-- The parts that `State.loadSafetyCfg` leaves alone. -/
@[simp] theorem State.loadSafetyCfg_get (s : State) (part : Part) (hpart : part ∉ ([.nvm, .memu, .island, .mem] : List Part)) :
    (State.loadSafetyCfg s).get part = s.get part := by
  simp only [List.mem_cons, List.not_mem_nil, or_false, not_or] at hpart
  unfold State.loadSafetyCfg
  (repeat' split) <;> simp [*]

/-- The parts that `State.channelFault` leaves alone. -/
@[simp] theorem State.channelFault_get (n : Nat) (b : Bool) (f : Nat) (s : State) (part : Part) (hpart : part ∉ ([.nvm, .island] : List Part)) :
    (State.channelFault n b f s).get part = s.get part := by
  simp only [List.mem_cons, List.not_mem_nil, or_false, not_or] at hpart
  simp [State.channelFault, hpart]

/-- The parts that `State.islandLock` leaves alone. -/
@[simp] theorem State.islandLock_get (cause : Nat) (s : State) (part : Part) (hpart : part ∉ ([.comm, .oap, .nvm, .island, .out] : List Part)) :
    (State.islandLock cause s).get part = s.get part := by
  simp only [List.mem_cons, List.not_mem_nil, or_false, not_or] at hpart
  simp [State.islandLock, hpart]

/-- The parts that `State.slsEntry` leaves alone. -/
@[simp] theorem State.slsEntry_get (st : IslandSt) (s : State) (part : Part) (hpart : part ∉ ([.island] : List Part)) :
    (State.slsEntry st s).get part = s.get part := by
  simp only [List.mem_cons, List.not_mem_nil, or_false] at hpart
  simp [State.slsEntry, hpart]

/-- The parts that `State.energisedOrSls` leaves alone. -/
@[simp] theorem State.energisedOrSls_get (s : State) (part : Part) (hpart : part ∉ ([.island] : List Part)) :
    (State.energisedOrSls s).get part = s.get part := by
  simp only [List.mem_cons, List.not_mem_nil, or_false] at hpart
  simp [State.energisedOrSls, hpart]

/-- The parts that `State.driveSto` leaves alone. -/
@[simp] theorem State.driveSto_get (s : State) (part : Part) (hpart : part ∉ ([.island] : List Part)) :
    (State.driveSto s).get part = s.get part := by
  simp only [List.mem_cons, List.not_mem_nil, or_false] at hpart
  simp [State.driveSto, hpart]

/-- The parts that `State.setStopLine` leaves alone. -/
@[simp] theorem State.setStopLine_get (a : Bool) (s : State) (part : Part) (hpart : part ∉ ([.island] : List Part)) :
    (State.setStopLine a s).get part = s.get part := by
  simp only [List.mem_cons, List.not_mem_nil, or_false] at hpart
  simp [State.setStopLine, hpart]

/-- The parts that `State.islandRows` leaves alone. -/
@[simp] theorem State.islandRows_get (s : State) (part : Part) (hpart : part ∉ ([.comm, .oap, .nvm, .island, .out] : List Part)) :
    (State.islandRows s).get part = s.get part := by
  simp only [List.mem_cons, List.not_mem_nil, or_false, not_or] at hpart
  unfold State.islandRows
  try dsimp only
  repeat' split
  all_goals try simp [hpart]
  all_goals try (rename_i heq; have hv := congrArg Prod.snd heq; dsimp only at hv; subst hv; simp [hpart])
  all_goals try refine (State.get_foldl _ _ _ _ (fun _ _ => ?_)).trans ?_
  all_goals try (repeat' split)
  all_goals try simp [hpart]
  all_goals try refine (State.get_foldl _ _ _ _ (fun _ _ => ?_)).trans ?_
  all_goals try (repeat' split)
  all_goals simp [hpart]

/-- The parts that `State.islandSpeeds` leaves alone. -/
@[simp] theorem State.islandSpeeds_get (s : State) (part : Part) (hpart : part ∉ ([.island] : List Part)) :
    (State.islandSpeeds s).get part = s.get part := by
  simp only [List.mem_cons, List.not_mem_nil, or_false] at hpart
  simp [State.islandSpeeds, hpart]

/-- The parts that `State.newDemands` leaves alone. -/
@[simp] theorem State.newDemands_get (l : List Nat) (s : State) (part : Part) (hpart : part ∉ ([.nvm, .island, .fresh] : List Part)) :
    (State.newDemands l s).get part = s.get part := by
  simp only [List.mem_cons, List.not_mem_nil, or_false, not_or] at hpart
  simp [State.newDemands, hpart]

/-- The parts that `State.cycleMemory` leaves alone. -/
@[simp] theorem State.cycleMemory_get (s : State) (part : Part) (hpart : part ∉ ([.island] : List Part)) :
    (State.cycleMemory s).get part = s.get part := by
  simp only [List.mem_cons, List.not_mem_nil, or_false] at hpart
  simp [State.cycleMemory, hpart]

/-- The parts that `State.feedbacks` leaves alone. -/
@[simp] theorem State.feedbacks_get (fbA : Bool) (fbB : Bool) (s : State) (part : Part) (hpart : part ∉ ([.island] : List Part)) :
    (State.feedbacks fbA fbB s).get part = s.get part := by
  simp only [List.mem_cons, List.not_mem_nil, or_false] at hpart
  simp [State.feedbacks, hpart]

/-- The parts that `State.writeMirror` leaves alone. -/
@[simp] theorem State.writeMirror_get (s : State) (part : Part) (hpart : part ∉ ([.island] : List Part)) :
    (State.writeMirror s).get part = s.get part := by
  simp only [List.mem_cons, List.not_mem_nil, or_false] at hpart
  simp [State.writeMirror, hpart]

/-- The parts that `State.safetyCycle` leaves alone. -/
@[simp] theorem State.safetyCycle_get (fbA : Bool) (fbB : Bool) (s : State) (part : Part) (hpart : part ∉ ([.comm, .oap, .nvm, .island, .fresh, .out] : List Part)) :
    (State.safetyCycle fbA fbB s).get part = s.get part := by
  simp only [List.mem_cons, List.not_mem_nil, or_false, not_or] at hpart
  simp [State.safetyCycle, hpart]

/-- The parts that `State.inputAccepted` leaves alone. -/
@[simp] theorem State.inputAccepted_get (n : Nat) (b : Bool) (on : Bool) (s : State) (part : Part) (hpart : part ∉ ([.island] : List Part)) :
    (State.inputAccepted n b on s).get part = s.get part := by
  simp only [List.mem_cons, List.not_mem_nil, or_false] at hpart
  simp [State.inputAccepted, hpart]

/-- The parts that `State.pulseSeen` leaves alone. -/
@[simp] theorem State.pulseSeen_get (tp1 : Bool) (o : PulseSeen) (s : State) (part : Part) (hpart : part ∉ ([.nvm, .island] : List Part)) :
    (State.pulseSeen tp1 o s).get part = s.get part := by
  simp only [List.mem_cons, List.not_mem_nil, or_false, not_or] at hpart
  simp [State.pulseSeen, hpart]

/-- The parts that `State.internalRecord` leaves alone. -/
@[simp] theorem State.internalRecord_get (cause : Nat) (x1 : State) (part : Part) (hpart : part ∉ ([.nvm] : List Part)) :
    (State.internalRecord cause x1).get part = x1.get part := by
  simp only [List.mem_cons, List.not_mem_nil, or_false] at hpart
  simp [State.internalRecord, hpart]

/-- The parts that `State.answerTo` leaves alone. -/
@[simp] theorem State.answerTo_get (who : StoreFor) (idx : Nat) (sub : Nat) (code : Nat) (s : State) (part : Part) (hpart : part ∉ ([.oap, .choir, .out] : List Part)) :
    (State.answerTo who idx sub code s).get part = s.get part := by
  simp only [List.mem_cons, List.not_mem_nil, or_false, not_or] at hpart
  unfold State.answerTo
  (repeat' split) <;> simp [*]

/-- The parts that `State.islandStart` leaves alone. -/
@[simp] theorem State.islandStart_get (s : State) (part : Part) (hpart : part ∉ ([.oap, .nvm, .memu, .choir, .island, .mem, .fresh, .out] : List Part)) :
    (State.islandStart s).get part = s.get part := by
  simp only [List.mem_cons, List.not_mem_nil, or_false, not_or] at hpart
  unfold State.islandStart
  (repeat' split) <;> simp [*]

/-- The parts that `State.islandRestart` leaves alone. -/
@[simp] theorem State.islandRestart_get (cause : Nat) (s : State) (part : Part) (hpart : part ∉ ([.comm, .oap, .nvm, .memu, .choir, .island, .mem, .fresh, .out] : List Part)) :
    (State.islandRestart cause s).get part = s.get part := by
  simp only [List.mem_cons, List.not_mem_nil, or_false, not_or] at hpart
  simp [State.islandRestart, hpart]

/-- The parts that `State.islandFresh` leaves alone. -/
@[simp] theorem State.islandFresh_get (s : State) (part : Part) (hpart : part ∉ ([.comm, .oap, .nvm, .memu, .choir, .island, .mem, .fresh, .out] : List Part)) :
    (State.islandFresh s).get part = s.get part := by
  simp only [List.mem_cons, List.not_mem_nil, or_false, not_or] at hpart
  simp [State.islandFresh, hpart]

/-- The parts that `State.paramWrite` leaves alone. -/
@[simp] theorem State.paramWrite_get (data : List Byte) (s : State) (part : Part) (hpart : part ∉ ([.island, .fresh] : List Part)) :
    (State.paramWrite data s).2.get part = s.get part := by
  simp only [List.mem_cons, List.not_mem_nil, or_false, not_or] at hpart
  simp [State.paramWrite, hpart]

/-- The parts that `State.transferEnd` leaves alone. -/
@[simp] theorem State.transferEnd_get (code : Nat) (s : State) (part : Part) (hpart : part ∉ ([.island] : List Part)) :
    (State.transferEnd code s).get part = s.get part := by
  simp only [List.mem_cons, List.not_mem_nil, or_false] at hpart
  simp [State.transferEnd, hpart]

/-- The parts that `State.transferReset` leaves alone. -/
@[simp] theorem State.transferReset_get (s : State) (part : Part) (hpart : part ∉ ([.island] : List Part)) :
    (State.transferReset s).get part = s.get part := by
  simp only [List.mem_cons, List.not_mem_nil, or_false] at hpart
  simp [State.transferReset, hpart]

/-- The parts that `State.confirmWrite` leaves alone. -/
@[simp] theorem State.confirmWrite_get (who : StoreFor) (data : List Byte) (s : State) (part : Part) (hpart : part ∉ ([.island] : List Part)) :
    (State.confirmWrite who data s).2.get part = s.get part := by
  simp only [List.mem_cons, List.not_mem_nil, or_false] at hpart
  simp [State.confirmWrite, hpart]

end Sys2Proof.Machine
end

