-- ==== Sys2Proof/Laws/Frame2.lean ====
section
/-! SUPPORT. The parts of the state that each shared operation leaves alone: memory, video, ports, voice cores, routers, the press and the tracker. Each lemma
names the parts its operation may change; every other part is the same after it. -/

namespace Sys2Proof.Machine

/-- The parts that `State.startStore` leaves alone. -/
@[simp] theorem State.startStore_get (sub : Nat) (restore : Bool) (who : StoreFor) (s : State) (part : Part) (hpart : part ∉ ([.nvm, .memu, .mem] : List Part)) :
    (State.startStore sub restore who s).get part = s.get part := by
  simp only [List.mem_cons, List.not_mem_nil, or_false, not_or] at hpart
  simp [State.startStore, hpart]

/-- The parts that `State.storeWrite` leaves alone. -/
@[simp] theorem State.storeWrite_get (sub : Nat) (restore : Bool) (who : StoreFor) (sig : Nat) (s : State) (part : Part) (hpart : part ∉ ([.nvm, .memu, .mem] : List Part)) :
    (State.storeWrite sub restore who sig s).2.get part = s.get part := by
  simp only [List.mem_cons, List.not_mem_nil, or_false, not_or] at hpart
  simp [State.storeWrite, hpart]

/-- The parts that `State.storeFails` leaves alone. -/
@[simp] theorem State.storeFails_get (j : StoreJob) (s : State) (part : Part) (hpart : part ∉ ([.comm, .oap, .nvm, .choir, .out] : List Part)) :
    (State.storeFails j s).get part = s.get part := by
  simp only [List.mem_cons, List.not_mem_nil, or_false, not_or] at hpart
  simp [State.storeFails, hpart]

/-- The parts that `State.badWord` leaves alone. -/
@[simp] theorem State.badWord_get (a : Nat) (x1 : State) (part : Part) (hpart : part ∉ ([.memu] : List Part)) :
    (State.badWord a x1).get part = x1.get part := by
  simp only [List.mem_cons, List.not_mem_nil, or_false] at hpart
  simp [State.badWord, hpart]

/-- The parts that `State.storeContent` leaves alone. -/
@[simp] theorem State.storeContent_get (j : StoreJob) (s : State) (part : Part) (hpart : part ∉ ([.memu, .mem] : List Part)) :
    (State.storeContent j s).get part = s.get part := by
  simp only [List.mem_cons, List.not_mem_nil, or_false, not_or] at hpart
  simp [State.storeContent, hpart]

/-- The parts that `State.storeCommit` leaves alone. -/
@[simp] theorem State.storeCommit_get (j : StoreJob) (s : State) (part : Part) (hpart : part ∉ ([.memu, .mem] : List Part)) :
    (State.storeCommit j s).get part = s.get part := by
  simp only [List.mem_cons, List.not_mem_nil, or_false, not_or] at hpart
  simp [State.storeCommit, hpart]

/-- The parts that `State.endStore` leaves alone. -/
@[simp] theorem State.endStore_get (r : StoreEnd) (j : StoreJob) (s : State) (part : Part) (hpart : part ∉ ([.comm, .oap, .nvm, .memu, .choir, .mem, .out] : List Part)) :
    (State.endStore r j s).get part = s.get part := by
  simp only [List.mem_cons, List.not_mem_nil, or_false, not_or] at hpart
  unfold State.endStore
  (repeat' split) <;> simp [*]

/-- The parts that `State.takeRec` leaves alone. -/
@[simp] theorem State.takeRec_get (s : State) (r : PRec) (part : Part) (hpart : part ∉ ([.comm, .od] : List Part)) :
    (State.takeRec s r).get part = s.get part := by
  simp only [List.mem_cons, List.not_mem_nil, or_false, not_or] at hpart
  simp [State.takeRec, hpart]

/-- The parts that `State.dropP` leaves alone. -/
@[simp] theorem State.dropP_get (p : Nat → Bool) (s : State) (part : Part) (hpart : part ∉ ([.od] : List Part)) :
    (State.dropP p s).get part = s.get part := by
  simp only [List.mem_cons, List.not_mem_nil, or_false] at hpart
  simp [State.dropP, hpart]

/-- The parts that `State.loadP` leaves alone. -/
@[simp] theorem State.loadP_get (p : Nat → Bool) (s : State) (part : Part) (hpart : part ∉ ([.comm, .od] : List Part)) :
    (State.loadP p s).get part = s.get part := by
  simp only [List.mem_cons, List.not_mem_nil, or_false, not_or] at hpart
  simp [State.loadP, hpart]

/-- The parts that `State.loadVintage` leaves alone. -/
@[simp] theorem State.loadVintage_get (s : State) (part : Part) (hpart : part ∉ ([.comm, .nvm, .od] : List Part)) :
    (State.loadVintage s).get part = s.get part := by
  simp only [List.mem_cons, List.not_mem_nil, or_false, not_or] at hpart
  unfold State.loadVintage
  (repeat' split) <;> simp [*]

/-- The parts that `State.writeRecord` leaves alone. -/
@[simp] theorem State.writeRecord_get (s : State) (part : Part) (hpart : part ∉ ([.nvm, .memu, .mem] : List Part)) :
    (State.writeRecord s).get part = s.get part := by
  simp only [List.mem_cons, List.not_mem_nil, or_false, not_or] at hpart
  unfold State.writeRecord
  dsimp only
  (repeat' split) <;> simp [*]

/-- The parts that `State.flushRecords` leaves alone. -/
@[simp] theorem State.flushRecords_get (x0 : Nat) (x1 : State) (part : Part) (hpart : part ∉ ([.nvm, .memu, .mem] : List Part)) :
    (State.flushRecords x0 x1).get part = x1.get part := by
  simp only [List.mem_cons, List.not_mem_nil, or_false, not_or] at hpart
  induction x0 generalizing x1 <;> simp_all [State.flushRecords]

/-- The parts that `State.flushBook` leaves alone. -/
@[simp] theorem State.flushBook_get (s : State) (part : Part) (hpart : part ∉ ([.nvm, .memu, .mem] : List Part)) :
    (State.flushBook s).get part = s.get part := by
  simp only [List.mem_cons, List.not_mem_nil, or_false, not_or] at hpart
  simp [State.flushBook, hpart]

/-- The parts that `State.bookReadAt` leaves alone. -/
@[simp] theorem State.bookReadAt_get (q : Nat) (s : State) (part : Part) (hpart : part ∉ ([.od] : List Part)) :
    (State.bookReadAt q s).2.get part = s.get part := by
  simp only [List.mem_cons, List.not_mem_nil, or_false] at hpart
  simp [State.bookReadAt, hpart]

/-- The parts that `State.bookRead` leaves alone. -/
@[simp] theorem State.bookRead_get (s : State) (part : Part) (hpart : part ∉ ([.od] : List Part)) :
    (State.bookRead s).2.get part = s.get part := by
  simp only [List.mem_cons, List.not_mem_nil, or_false] at hpart
  simp [State.bookRead, hpart]

/-- The parts that `State.bootBook` leaves alone. -/
@[simp] theorem State.bootBook_get (s : State) (part : Part) (hpart : part ∉ ([.nvm] : List Part)) :
    (State.bootBook s).get part = s.get part := by
  simp only [List.mem_cons, List.not_mem_nil, or_false] at hpart
  unfold State.bootBook
  (repeat' split) <;> simp [*]

/-- The parts that `State.bookAppend` leaves alone. -/
@[simp] theorem State.bookAppend_get (c : Nat) (s : State) (part : Part) (hpart : part ∉ ([.nvm] : List Part)) :
    (State.bookAppend c s).get part = s.get part := by
  simp only [List.mem_cons, List.not_mem_nil, or_false] at hpart
  simp [State.bookAppend, hpart]

/-- The parts that `State.abandonNvm` leaves alone. -/
@[simp] theorem State.abandonNvm_get (s : State) (part : Part) (hpart : part ∉ ([.nvm] : List Part)) :
    (State.abandonNvm s).get part = s.get part := by
  simp only [List.mem_cons, List.not_mem_nil, or_false] at hpart
  simp [State.abandonNvm, hpart]

/-- The parts that `State.streamRecord` leaves alone. -/
@[simp] theorem State.streamRecord_get (v : Nat) (s : State) (part : Part) (hpart : part ∉ ([.nvm] : List Part)) :
    (State.streamRecord v s).get part = s.get part := by
  simp only [List.mem_cons, List.not_mem_nil, or_false] at hpart
  simp [State.streamRecord, hpart]

/-- The parts that `State.streamWait` leaves alone. -/
@[simp] theorem State.streamWait_get (v : Nat) (s : State) (part : Part) (hpart : part ∉ ([.nvm, .video] : List Part)) :
    (State.streamWait v s).get part = s.get part := by
  simp only [List.mem_cons, List.not_mem_nil, or_false, not_or] at hpart
  simp [State.streamWait, hpart]

/-- The parts that `State.streamEnable` leaves alone. -/
@[simp] theorem State.streamEnable_get (v : Nat) (s : State) (part : Part) (hpart : part ∉ ([.nvm, .video, .od, .wtime] : List Part)) :
    (State.streamEnable v s).2.get part = s.get part := by
  simp only [List.mem_cons, List.not_mem_nil, or_false, not_or] at hpart
  simp [State.streamEnable, hpart]

/-- The parts that `State.streamDisable` leaves alone. -/
@[simp] theorem State.streamDisable_get (v : Nat) (s : State) (part : Part) (hpart : part ∉ ([.video, .od, .wtime] : List Part)) :
    (State.streamDisable v s).2.get part = s.get part := by
  simp only [List.mem_cons, List.not_mem_nil, or_false, not_or] at hpart
  simp [State.streamDisable, hpart]

/-- The parts that `State.videoReset` leaves alone. -/
@[simp] theorem State.videoReset_get (s : State) (part : Part) (hpart : part ∉ ([.video] : List Part)) :
    (State.videoReset s).get part = s.get part := by
  simp only [List.mem_cons, List.not_mem_nil, or_false] at hpart
  simp [State.videoReset, hpart]

/-- The parts that `State.videoBoot` leaves alone. -/
@[simp] theorem State.videoBoot_get (s : State) (part : Part) (hpart : part ∉ ([.nvm, .video] : List Part)) :
    (State.videoBoot s).get part = s.get part := by
  simp only [List.mem_cons, List.not_mem_nil, or_false, not_or] at hpart
  simp [State.videoBoot, hpart]

/-- The parts that `State.videoFrameStart` leaves alone. -/
@[simp] theorem State.videoFrameStart_get (p : Nat) (f : Frame) (s : State) (part : Part) (hpart : part ∉ ([.video] : List Part)) :
    (State.videoFrameStart p f s).get part = s.get part := by
  simp only [List.mem_cons, List.not_mem_nil, or_false] at hpart
  simp [State.videoFrameStart, hpart]

/-- The parts that `State.streamAdmit` leaves alone. -/
@[simp] theorem State.streamAdmit_get (v : Nat) (f : Frame) (s : State) (part : Part) (hpart : part ∉ ([.nvm, .video] : List Part)) :
    (State.streamAdmit v f s).get part = s.get part := by
  simp only [List.mem_cons, List.not_mem_nil, or_false, not_or] at hpart
  simp [State.streamAdmit, hpart]

/-- The parts that `State.videoFrameEnd` leaves alone. -/
@[simp] theorem State.videoFrameEnd_get (p : Nat) (f : Frame) (s : State) (part : Part) (hpart : part ∉ ([.nvm, .video, .od] : List Part)) :
    (State.videoFrameEnd p f s).get part = s.get part := by
  simp only [List.mem_cons, List.not_mem_nil, or_false, not_or] at hpart
  unfold State.videoFrameEnd
  try dsimp only
  repeat' split
  all_goals try simp [hpart]
  all_goals try (rename_i heq; have hv := congrArg Prod.snd heq; dsimp only at hv; subst hv; simp [hpart])
  all_goals try refine (State.get_foldl _ _ _ _ (fun _ _ => ?_)).trans ?_
  all_goals try (repeat' split)
  all_goals try simp [hpart]
  all_goals try refine (State.get_foldl _ _ _ _ (fun _ _ => ?_)).trans ?_
  all_goals try (repeat' split)
  all_goals simp [hpart]

/-- The parts that `State.conceal` leaves alone. -/
@[simp] theorem State.conceal_get (v : Nat) (s : State) (part : Part) (hpart : part ∉ ([.video, .od] : List Part)) :
    (State.conceal v s).get part = s.get part := by
  simp only [List.mem_cons, List.not_mem_nil, or_false, not_or] at hpart
  simp [State.conceal, hpart]

/-- The parts that `State.videoFrameDrop` leaves alone. -/
@[simp] theorem State.videoFrameDrop_get (p : Nat) (t : Nat) (s : State) (part : Part) (hpart : part ∉ ([.video, .od] : List Part)) :
    (State.videoFrameDrop p t s).get part = s.get part := by
  simp only [List.mem_cons, List.not_mem_nil, or_false, not_or] at hpart
  simp [State.videoFrameDrop, hpart]

/-- The parts that `State.videoPortGone` leaves alone. -/
@[simp] theorem State.videoPortGone_get (p : Nat) (s : State) (part : Part) (hpart : part ∉ ([.nvm, .video, .od] : List Part)) :
    (State.videoPortGone p s).get part = s.get part := by
  simp only [List.mem_cons, List.not_mem_nil, or_false, not_or] at hpart
  simp [State.videoPortGone, hpart]

/-- The parts that `State.videoPacket` leaves alone. -/
@[simp] theorem State.videoPacket_get (v : Nat) (items : List (BitVec 128)) (bytes : Nat) (s : State) (part : Part) (hpart : part ∉ ([.video] : List Part)) :
    (State.videoPacket v items bytes s).get part = s.get part := by
  simp only [List.mem_cons, List.not_mem_nil, or_false] at hpart
  simp [State.videoPacket, hpart]

/-- The parts that `State.startFrame` leaves alone. -/
@[simp] theorem State.startFrame_get (v : Nat) (f : Frame) (s : State) (part : Part) (hpart : part ∉ ([.video, .od] : List Part)) :
    (State.startFrame v f s).get part = s.get part := by
  simp only [List.mem_cons, List.not_mem_nil, or_false, not_or] at hpart
  simp [State.startFrame, hpart]

/-- The parts that `State.codeSlice` leaves alone. -/
@[simp] theorem State.codeSlice_get (v : Nat) (f : Frame) (s : State) (part : Part) (hpart : part ∉ ([.video] : List Part)) :
    (State.codeSlice v f s).get part = s.get part := by
  simp only [List.mem_cons, List.not_mem_nil, or_false] at hpart
  simp [State.codeSlice, hpart]

/-- The parts that `State.streamCommand` leaves alone. -/
@[simp] theorem State.streamCommand_get (v : Nat) (c : Nat) (s : State) (part : Part) (hpart : part ∉ ([.video] : List Part)) :
    (State.streamCommand v c s).2.get part = s.get part := by
  simp only [List.mem_cons, List.not_mem_nil, or_false] at hpart
  simp [State.streamCommand, hpart]

/-- The parts that `State.videoWrite` leaves alone. -/
@[simp] theorem State.videoWrite_get (v : Nat) (sub : Nat) (val : Nat) (s : State) (part : Part) (hpart : part ∉ ([.nvm, .video, .od, .wtime] : List Part)) :
    (State.videoWrite v sub val s).2.get part = s.get part := by
  simp only [List.mem_cons, List.not_mem_nil, or_false, not_or] at hpart
  simp [State.videoWrite, hpart]

/-- The parts that `State.ungateFor` leaves alone. -/
@[simp] theorem State.ungateFor_get (a : Nat) (s : State) (part : Part) (hpart : part ∉ ([.power] : List Part)) :
    (State.ungateFor a s).get part = s.get part := by
  simp only [List.mem_cons, List.not_mem_nil, or_false] at hpart
  unfold State.ungateFor
  (repeat' split) <;> simp [*]

/-- The parts that `State.portTo` leaves alone. -/
@[simp] theorem State.portTo_get (p : Nat) (new : PortSt) (s : State) (part : Part) (hpart : part ∉ ([.comm, .oap, .nvm, .ports, .zone, .video, .od, .out] : List Part)) :
    (State.portTo p new s).get part = s.get part := by
  simp only [List.mem_cons, List.not_mem_nil, or_false, not_or] at hpart
  simp [State.portTo, hpart]

/-- The parts that `State.portStall` leaves alone. -/
@[simp] theorem State.portStall_get (p : Nat) (cause : Nat) (s : State) (part : Part) (hpart : part ∉ ([.comm, .oap, .nvm, .ports, .zone, .video, .od, .out] : List Part)) :
    (State.portStall p cause s).get part = s.get part := by
  simp only [List.mem_cons, List.not_mem_nil, or_false, not_or] at hpart
  simp [State.portStall, hpart]

/-- The parts that `State.timeAcquired` leaves alone. -/
@[simp] theorem State.timeAcquired_get (p : Nat) (t : Nat) (arrival : Nat) (s : State) (part : Part) (hpart : part ∉ ([.comm, .oap, .nvm, .ports, .zone, .video, .od, .out] : List Part)) :
    (State.timeAcquired p t arrival s).get part = s.get part := by
  simp only [List.mem_cons, List.not_mem_nil, or_false, not_or] at hpart
  simp [State.timeAcquired, hpart]

/-- The parts that `State.acquire` leaves alone. -/
@[simp] theorem State.acquire_get (p : Nat) (t : Nat) (arrival : Nat) (s : State) (part : Part) (hpart : part ∉ ([.comm, .oap, .nvm, .ports, .zone, .video, .od, .out] : List Part)) :
    (State.acquire p t arrival s).get part = s.get part := by
  simp only [List.mem_cons, List.not_mem_nil, or_false, not_or] at hpart
  simp [State.acquire, hpart]

/-- The parts that `State.timeHigh` leaves alone. -/
@[simp] theorem State.timeHigh_get (p : Nat) (t : Nat) (arrival : Nat) (s : State) (part : Part) (hpart : part ∉ ([.comm, .oap, .nvm, .ports, .zone, .video, .od, .out] : List Part)) :
    (State.timeHigh p t arrival s).get part = s.get part := by
  simp only [List.mem_cons, List.not_mem_nil, or_false, not_or] at hpart
  simp [State.timeHigh, hpart]

/-- The parts that `State.pCount` leaves alone. -/
@[simp] theorem State.pCount_get (p : Nat) (sub : Nat) (s : State) (part : Part) (hpart : part ∉ ([.od] : List Part)) :
    (State.pCount p sub s).get part = s.get part := by
  simp only [List.mem_cons, List.not_mem_nil, or_false] at hpart
  simp [State.pCount, hpart]

/-- The parts that `State.injectEvent` leaves alone. -/
@[simp] theorem State.injectEvent_get (p : Nat) (n : Nat) (x : Nat) (y : Nat) (pol : Bool) (graded : Bool) (value : BitVec 8) (s : State) (part : Part) (hpart : part ∉ ([.ports, .od] : List Part)) :
    (State.injectEvent p n x y pol graded value s).get part = s.get part := by
  simp only [List.mem_cons, List.not_mem_nil, or_false, not_or] at hpart
  simp [State.injectEvent, hpart]

/-- The parts that `State.budgetStage` leaves alone. -/
@[simp] theorem State.budgetStage_get (p : Nat) (n : Nat) (x : Nat) (y : Nat) (pol : Bool) (graded : Bool) (value : BitVec 8) (s : State) (part : Part) (hpart : part ∉ ([.ports, .od] : List Part)) :
    (State.budgetStage p n x y pol graded value s).get part = s.get part := by
  simp only [List.mem_cons, List.not_mem_nil, or_false, not_or] at hpart
  simp [State.budgetStage, hpart]

/-- The parts that `State.refractoryStage` leaves alone. -/
@[simp] theorem State.refractoryStage_get (p : Nat) (m : Nat) (n : Nat) (x : Nat) (y : Nat) (pol : Bool) (graded : Bool) (value : BitVec 8) (s : State) (part : Part) (hpart : part ∉ ([.ports, .zone, .od] : List Part)) :
    (State.refractoryStage p m n x y pol graded value s).get part = s.get part := by
  simp only [List.mem_cons, List.not_mem_nil, or_false, not_or] at hpart
  simp [State.refractoryStage, hpart]

/-- The parts that `State.hotStage` leaves alone. -/
@[simp] theorem State.hotStage_get (p : Nat) (e : EarlyEvent) (s : State) (part : Part) (hpart : part ∉ ([.ports, .zone, .od] : List Part)) :
    (State.hotStage p e s).get part = s.get part := by
  simp only [List.mem_cons, List.not_mem_nil, or_false, not_or] at hpart
  simp [State.hotStage, hpart]

/-- The parts that `State.eventPath` leaves alone. -/
@[simp] theorem State.eventPath_get (p : Nat) (x : Nat) (y : Nat) (pol : Bool) (graded : Bool) (value : BitVec 8) (s : State) (part : Part) (hpart : part ∉ ([.ports, .zone, .od] : List Part)) :
    (State.eventPath p x y pol graded value s).get part = s.get part := by
  simp only [List.mem_cons, List.not_mem_nil, or_false, not_or] at hpart
  simp [State.eventPath, hpart]

/-- The parts that `State.beatBegins` leaves alone. -/
@[simp] theorem State.beatBegins_get (p : Nat) (s : State) (part : Part) (hpart : part ∉ ([.ports, .zone, .od] : List Part)) :
    (State.beatBegins p s).get part = s.get part := by
  simp only [List.mem_cons, List.not_mem_nil, or_false, not_or] at hpart
  simp [State.beatBegins, hpart]

/-- The parts that `State.beamPath` leaves alone. -/
@[simp] theorem State.beamPath_get (p : Nat) (x : Nat) (pol : Bool) (graded : Bool) (s : State) (part : Part) (hpart : part ∉ ([.comm, .oap, .nvm, .ports, .zone, .od, .out] : List Part)) :
    (State.beamPath p x pol graded s).get part = s.get part := by
  simp only [List.mem_cons, List.not_mem_nil, or_false, not_or] at hpart
  simp [State.beamPath, hpart]

/-- The parts that `State.decoded` leaves alone. -/
@[simp] theorem State.decoded_get (p : Nat) (x : Nat) (pol : Bool) (graded : Bool) (value : BitVec 8) (s : State) (part : Part) (hpart : part ∉ ([.comm, .oap, .nvm, .ports, .zone, .od, .out] : List Part)) :
    (State.decoded p x pol graded value s).get part = s.get part := by
  simp only [List.mem_cons, List.not_mem_nil, or_false, not_or] at hpart
  simp [State.decoded, hpart]

/-- The parts that `State.vectorEvents` leaves alone. -/
@[simp] theorem State.vectorEvents_get (p : Nat) (v : Nat) (mask : Nat) (s : State) (part : Part) (hpart : part ∉ ([.comm, .oap, .nvm, .ports, .zone, .od, .out] : List Part)) :
    (State.vectorEvents p v mask s).get part = s.get part := by
  simp only [List.mem_cons, List.not_mem_nil, or_false, not_or] at hpart
  simp [State.vectorEvents, hpart]

/-- The parts that `State.hefWord` leaves alone. -/
@[simp] theorem State.hefWord_get (p : Nat) (arrival : Nat) (word : BitVec 32) (s : State) (part : Part) (hpart : part ∉ ([.comm, .oap, .nvm, .ports, .zone, .video, .od, .out] : List Part)) :
    (State.hefWord p arrival word s).get part = s.get part := by
  simp only [List.mem_cons, List.not_mem_nil, or_false, not_or] at hpart
  unfold State.hefWord
  dsimp only
  (repeat' split) <;> simp [*]

/-- The parts that `State.portDrain` leaves alone. -/
@[simp] theorem State.portDrain_get (p : Nat) (s : State) (part : Part) (hpart : part ∉ ([.comm, .oap, .nvm, .ports, .zone, .video, .od, .out] : List Part)) :
    (State.portDrain p s).get part = s.get part := by
  simp only [List.mem_cons, List.not_mem_nil, or_false, not_or] at hpart
  simp [State.portDrain, hpart]

/-- The parts that `State.portEmpty` leaves alone. -/
@[simp] theorem State.portEmpty_get (p : Nat) (s : State) (part : Part) (hpart : part ∉ ([.comm, .oap, .nvm, .ports, .zone, .video, .od, .out] : List Part)) :
    (State.portEmpty p s).get part = s.get part := by
  simp only [List.mem_cons, List.not_mem_nil, or_false, not_or] at hpart
  simp [State.portEmpty, hpart]

/-- The parts that `State.bufferWords` leaves alone. -/
@[simp] theorem State.bufferWords_get (p : Nat) (arrival : Nat) (words : List (BitVec 32)) (s : State) (part : Part) (hpart : part ∉ ([.comm, .oap, .nvm, .ports, .zone, .video, .od, .out] : List Part)) :
    (State.bufferWords p arrival words s).get part = s.get part := by
  simp only [List.mem_cons, List.not_mem_nil, or_false, not_or] at hpart
  simp [State.bufferWords, hpart]

/-- The parts that `State.portFault` leaves alone. -/
@[simp] theorem State.portFault_get (p : Nat) (cause : Nat) (s : State) (part : Part) (hpart : part ∉ ([.comm, .oap, .nvm, .ports, .zone, .video, .od, .out] : List Part)) :
    (State.portFault p cause s).get part = s.get part := by
  simp only [List.mem_cons, List.not_mem_nil, or_false, not_or] at hpart
  simp [State.portFault, hpart]

/-- The parts that `State.portAbsent` leaves alone. -/
@[simp] theorem State.portAbsent_get (p : Nat) (removed : Bool) (s : State) (part : Part) (hpart : part ∉ ([.comm, .oap, .nvm, .ports, .zone, .video, .od, .out] : List Part)) :
    (State.portAbsent p removed s).get part = s.get part := by
  simp only [List.mem_cons, List.not_mem_nil, or_false, not_or] at hpart
  simp [State.portAbsent, hpart]

/-- The parts that `State.portStart` leaves alone. -/
@[simp] theorem State.portStart_get (p : Nat) (s : State) (part : Part) (hpart : part ∉ ([.comm, .oap, .nvm, .ports, .zone, .video, .od, .out] : List Part)) :
    (State.portStart p s).get part = s.get part := by
  simp only [List.mem_cons, List.not_mem_nil, or_false, not_or] at hpart
  simp [State.portStart, hpart]

/-- The parts that `State.portEnable` leaves alone. -/
@[simp] theorem State.portEnable_get (p : Nat) (v : Nat) (s : State) (part : Part) (hpart : part ∉ ([.comm, .oap, .nvm, .ports, .zone, .video, .od, .wtime, .out] : List Part)) :
    (State.portEnable p v s).2.get part = s.get part := by
  simp only [List.mem_cons, List.not_mem_nil, or_false, not_or] at hpart
  simp [State.portEnable, hpart]

/-- The parts that `State.portRescan` leaves alone. -/
@[simp] theorem State.portRescan_get (p : Nat) (s : State) (part : Part) (hpart : part ∉ ([.comm, .oap, .nvm, .ports, .zone, .video, .od, .out] : List Part)) :
    (State.portRescan p s).2.get part = s.get part := by
  simp only [List.mem_cons, List.not_mem_nil, or_false, not_or] at hpart
  simp [State.portRescan, hpart]

/-- The parts that `State.portCommand` leaves alone. -/
@[simp] theorem State.portCommand_get (p : Nat) (v : Nat) (s : State) (part : Part) (hpart : part ∉ ([.comm, .oap, .nvm, .ports, .zone, .video, .od, .out] : List Part)) :
    (State.portCommand p v s).2.get part = s.get part := by
  simp only [List.mem_cons, List.not_mem_nil, or_false, not_or] at hpart
  simp [State.portCommand, hpart]

/-- The parts that `State.portReady` leaves alone. -/
@[simp] theorem State.portReady_get (p : Nat) (r : List Byte) (region : Option (Nat × Nat)) (s : State) (part : Part) (hpart : part ∉ ([.comm, .oap, .nvm, .ports, .zone, .power, .video, .od, .out] : List Part)) :
    (State.portReady p r region s).get part = s.get part := by
  simp only [List.mem_cons, List.not_mem_nil, or_false, not_or] at hpart
  unfold State.portReady
  (repeat' split) <;> simp [*]

/-- The parts that `State.portChecks` leaves alone. -/
@[simp] theorem State.portChecks_get (p : Nat) (r : List Byte) (s : State) (part : Part) (hpart : part ∉ ([.comm, .oap, .nvm, .ports, .zone, .power, .video, .od, .out] : List Part)) :
    (State.portChecks p r s).get part = s.get part := by
  simp only [List.mem_cons, List.not_mem_nil, or_false, not_or] at hpart
  simp [State.portChecks, hpart]

/-- The parts that `State.csiDiscard` leaves alone. -/
@[simp] theorem State.csiDiscard_get (p : Nat) (s : State) (part : Part) (hpart : part ∉ ([.comm, .oap, .nvm, .ports, .zone, .video, .od, .out] : List Part)) :
    (State.csiDiscard p s).get part = s.get part := by
  simp only [List.mem_cons, List.not_mem_nil, or_false, not_or] at hpart
  simp [State.csiDiscard, hpart]

/-- The parts that `State.frameDrop` leaves alone. -/
@[simp] theorem State.frameDrop_get (p : Nat) (s : State) (part : Part) (hpart : part ∉ ([.ports, .video, .od] : List Part)) :
    (State.frameDrop p s).get part = s.get part := by
  simp only [List.mem_cons, List.not_mem_nil, or_false, not_or] at hpart
  unfold State.frameDrop
  (repeat' split) <;> simp [*]

/-- The parts that `State.frameSlot` leaves alone. -/
@[simp] theorem State.frameSlot_get (p : Nat) (s : State) (part : Part) (hpart : part ∉ ([.ports] : List Part)) :
    (State.frameSlot p s).2.get part = s.get part := by
  simp only [List.mem_cons, List.not_mem_nil, or_false] at hpart
  unfold State.frameSlot
  dsimp only
  (repeat' split) <;> simp [*]

/-- The parts that `State.hotPixel` leaves alone. -/
@[simp] theorem State.hotPixel_get (p : Nat) (pix : Nat) (beats : Nat) (s : State) (part : Part) (hpart : part ∉ ([.nvm, .ports, .od] : List Part)) :
    (State.hotPixel p pix beats s).get part = s.get part := by
  simp only [List.mem_cons, List.not_mem_nil, or_false, not_or] at hpart
  simp [State.hotPixel, hpart]

/-- The parts that `State.hotUpdate` leaves alone. -/
@[simp] theorem State.hotUpdate_get (p : Nat) (n : Nat) (s : State) (part : Part) (hpart : part ∉ ([.nvm, .ports, .od] : List Part)) :
    (State.hotUpdate p n s).get part = s.get part := by
  simp only [List.mem_cons, List.not_mem_nil, or_false, not_or] at hpart
  simp [State.hotUpdate, hpart]

/-- The parts that `State.portsReset` leaves alone. -/
@[simp] theorem State.portsReset_get (s : State) (part : Part) (hpart : part ∉ ([.comm, .oap, .nvm, .ports, .zone, .video, .od, .out] : List Part)) :
    (State.portsReset s).get part = s.get part := by
  simp only [List.mem_cons, List.not_mem_nil, or_false, not_or] at hpart
  simp [State.portsReset, hpart]

/-- The parts that `State.portsBegin` leaves alone. -/
@[simp] theorem State.portsBegin_get (s : State) (part : Part) (hpart : part ∉ ([.comm, .oap, .nvm, .ports, .zone, .video, .od, .out] : List Part)) :
    (State.portsBegin s).get part = s.get part := by
  simp only [List.mem_cons, List.not_mem_nil, or_false, not_or] at hpart
  simp [State.portsBegin, hpart]

/-- The parts that `State.moveRegions` leaves alone. -/
@[simp] theorem State.moveRegions_get (claims : List Nat) (s : State) (part : Part) (hpart : part ∉ ([.comm, .oap, .nvm, .ports, .zone, .power, .video, .od, .out] : List Part)) :
    (State.moveRegions claims s).get part = s.get part := by
  simp only [List.mem_cons, List.not_mem_nil, or_false, not_or] at hpart
  unfold State.moveRegions
  try dsimp only
  repeat' split
  all_goals try simp [hpart]
  all_goals try (rename_i heq; have hv := congrArg Prod.snd heq; dsimp only at hv; subst hv; simp [hpart])
  all_goals try refine (State.get_foldl _ _ _ _ (fun _ _ => ?_)).trans ?_
  all_goals try (repeat' split)
  all_goals try simp [hpart]
  all_goals try refine (State.get_foldl _ _ _ _ (fun _ _ => ?_)).trans ?_
  all_goals try (repeat' split)
  all_goals simp [hpart]

/-- The parts that `State.ledger` leaves alone. -/
@[simp] theorem State.ledger_get (target : Nat) (term : Nat) (n : Nat) (x3 : State) (part : Part) (hpart : part ∉ ([.fabric] : List Part)) :
    (State.ledger target term n x3).get part = x3.get part := by
  simp only [List.mem_cons, List.not_mem_nil, or_false] at hpart
  simp [State.ledger, hpart]

/-- The parts that `State.coreFault` leaves alone. -/
@[simp] theorem State.coreFault_get (c : Nat) (s : State) (part : Part) (hpart : part ∉ ([.comm, .oap, .nvm, .fabric, .out] : List Part)) :
    (State.coreFault c s).get part = s.get part := by
  simp only [List.mem_cons, List.not_mem_nil, or_false, not_or] at hpart
  simp [State.coreFault, hpart]

/-- The parts that `State.evalSlot` leaves alone. -/
@[simp] theorem State.evalSlot_get (c : Nat) (k : Nat) (n : Nat) (r : Nat) (s : State) (part : Part) (hpart : part ∉ ([.fabric, .od, .mem] : List Part)) :
    (State.evalSlot c k n r s).get part = s.get part := by
  simp only [List.mem_cons, List.not_mem_nil, or_false, not_or] at hpart
  unfold State.evalSlot
  dsimp only
  (repeat' split) <;> simp [*]

/-- The parts that `State.rankSlot` leaves alone. -/
@[simp] theorem State.rankSlot_get (c : Nat) (n : Nat) (r : Nat) (k : Nat) (s : State) (part : Part) (hpart : part ∉ ([.comm, .oap, .nvm, .fabric, .od, .mem, .out] : List Part)) :
    (State.rankSlot c n r k s).get part = s.get part := by
  simp only [List.mem_cons, List.not_mem_nil, or_false, not_or] at hpart
  simp [State.rankSlot, hpart]

/-- The parts that `State.rankCore` leaves alone. -/
@[simp] theorem State.rankCore_get (n : Nat) (r : Nat) (c : Nat) (s : State) (part : Part) (hpart : part ∉ ([.comm, .oap, .nvm, .fabric, .od, .mem, .out] : List Part)) :
    (State.rankCore n r c s).get part = s.get part := by
  simp only [List.mem_cons, List.not_mem_nil, or_false, not_or] at hpart
  simp [State.rankCore, hpart]

/-- The parts that `State.evalRank` leaves alone. -/
@[simp] theorem State.evalRank_get (n : Nat) (r : Nat) (s : State) (part : Part) (hpart : part ∉ ([.comm, .oap, .nvm, .fabric, .od, .mem, .out] : List Part)) :
    (State.evalRank n r s).get part = s.get part := by
  simp only [List.mem_cons, List.not_mem_nil, or_false, not_or] at hpart
  simp [State.evalRank, hpart]

/-- The parts that `State.clearStaves` leaves alone. -/
@[simp] theorem State.clearStaves_get (n : Nat) (c : Nat) (s : State) (part : Part) (hpart : part ∉ ([.fabric, .mem] : List Part)) :
    (State.clearStaves n c s).get part = s.get part := by
  simp only [List.mem_cons, List.not_mem_nil, or_false, not_or] at hpart
  simp [State.clearStaves, hpart]

/-- The parts that `State.clearAllStaves` leaves alone. -/
@[simp] theorem State.clearAllStaves_get (n : Nat) (s : State) (part : Part) (hpart : part ∉ ([.fabric, .mem] : List Part)) :
    (State.clearAllStaves n s).get part = s.get part := by
  simp only [List.mem_cons, List.not_mem_nil, or_false, not_or] at hpart
  simp [State.clearAllStaves, hpart]

/-- The parts that `State.coresStop` leaves alone. -/
@[simp] theorem State.coresStop_get (s : State) (part : Part) (hpart : part ∉ ([.fabric] : List Part)) :
    (State.coresStop s).get part = s.get part := by
  simp only [List.mem_cons, List.not_mem_nil, or_false] at hpart
  simp [State.coresStop, hpart]

/-- The parts that `State.reinitSlot` leaves alone. -/
@[simp] theorem State.reinitSlot_get (c : Nat) (e : Nat) (k : Nat) (s : State) (part : Part) (hpart : part ∉ ([.mem] : List Part)) :
    (State.reinitSlot c e k s).get part = s.get part := by
  simp only [List.mem_cons, List.not_mem_nil, or_false] at hpart
  simp [State.reinitSlot, hpart]

/-- The parts that `State.reinitCore` leaves alone. -/
@[simp] theorem State.reinitCore_get (e : Nat) (c : Nat) (s : State) (part : Part) (hpart : part ∉ ([.comm, .oap, .nvm, .fabric, .mem, .out] : List Part)) :
    (State.reinitCore e c s).get part = s.get part := by
  simp only [List.mem_cons, List.not_mem_nil, or_false, not_or] at hpart
  simp [State.reinitCore, hpart]

/-- The parts that `State.reinitAll` leaves alone. -/
@[simp] theorem State.reinitAll_get (e : Nat) (s : State) (part : Part) (hpart : part ∉ ([.comm, .oap, .nvm, .fabric, .mem, .out] : List Part)) :
    (State.reinitAll e s).get part = s.get part := by
  simp only [List.mem_cons, List.not_mem_nil, or_false, not_or] at hpart
  simp [State.reinitAll, hpart]

/-- The parts that `State.contribute` leaves alone. -/
@[simp] theorem State.contribute_get (c : Nat) (e : Nat) (payload : Nat) (tap : Nat × Nat × Nat) (s : State) (part : Part) (hpart : part ∉ ([.fabric, .mem] : List Part)) :
    (State.contribute c e payload tap s).get part = s.get part := by
  simp only [List.mem_cons, List.not_mem_nil, or_false, not_or] at hpart
  simp [State.contribute, hpart]

/-- The parts that `State.acceptEvent` leaves alone. -/
@[simp] theorem State.acceptEvent_get (c : Nat) (f : Flit) (s : State) (part : Part) (hpart : part ∉ ([.comm, .oap, .nvm, .fabric, .od, .mem, .out] : List Part)) :
    (State.acceptEvent c f s).get part = s.get part := by
  simp only [List.mem_cons, List.not_mem_nil, or_false, not_or] at hpart
  unfold State.acceptEvent
  (repeat' split) <;> simp [*]

/-- The parts that `State.coreLoadOp` leaves alone. -/
@[simp] theorem State.coreLoadOp_get (c : Nat) (s : State) (part : Part) (hpart : part ∉ ([.fabric, .memu, .mem] : List Part)) :
    (State.coreLoadOp c s).get part = s.get part := by
  simp only [List.mem_cons, List.not_mem_nil, or_false, not_or] at hpart
  unfold State.coreLoadOp
  (repeat' split) <;> simp [*]

/-- The parts that `State.coreCommitOp` leaves alone. -/
@[simp] theorem State.coreCommitOp_get (c : Nat) (s : State) (part : Part) (hpart : part ∉ ([.fabric] : List Part)) :
    (State.coreCommitOp c s).get part = s.get part := by
  simp only [List.mem_cons, List.not_mem_nil, or_false] at hpart
  simp [State.coreCommitOp, hpart]

/-- The parts that `State.coreCommitEnd` leaves alone. -/
@[simp] theorem State.coreCommitEnd_get (c : Nat) (s : State) (part : Part) (hpart : part ∉ ([.comm, .oap, .nvm, .fabric, .out] : List Part)) :
    (State.coreCommitEnd c s).get part = s.get part := by
  simp only [List.mem_cons, List.not_mem_nil, or_false, not_or] at hpart
  simp [State.coreCommitEnd, hpart]

/-- The parts that `State.coreDisableOp` leaves alone. -/
@[simp] theorem State.coreDisableOp_get (c : Nat) (s : State) (part : Part) (hpart : part ∉ ([.fabric] : List Part)) :
    (State.coreDisableOp c s).get part = s.get part := by
  simp only [List.mem_cons, List.not_mem_nil, or_false] at hpart
  simp [State.coreDisableOp, hpart]

/-- The parts that `State.rankWrite` leaves alone. -/
@[simp] theorem State.rankWrite_get (t : Nat) (v : Nat) (s : State) (part : Part) (hpart : part ∉ ([.fabric] : List Part)) :
    (State.rankWrite t v s).get part = s.get part := by
  simp only [List.mem_cons, List.not_mem_nil, or_false] at hpart
  simp [State.rankWrite, hpart]

/-- The parts that `State.useCredit` leaves alone. -/
@[simp] theorem State.useCredit_get (k : Nat) (x1 : State) (part : Part) (hpart : part ∉ ([.fabric] : List Part)) :
    (State.useCredit k x1).get part = x1.get part := by
  simp only [List.mem_cons, List.not_mem_nil, or_false] at hpart
  simp [State.useCredit, hpart]

/-- The parts that `State.giveBack` leaves alone. -/
@[simp] theorem State.giveBack_get (k : Nat) (x1 : State) (part : Part) (hpart : part ∉ ([.fabric] : List Part)) :
    (State.giveBack k x1).get part = x1.get part := by
  simp only [List.mem_cons, List.not_mem_nil, or_false] at hpart
  simp [State.giveBack, hpart]

/-- The parts that `State.freePlace` leaves alone. -/
@[simp] theorem State.freePlace_get (r : Nat) (i : Inp) (vn : Nat) (s : State) (part : Part) (hpart : part ∉ ([.fabric] : List Part)) :
    (State.freePlace r i vn s).get part = s.get part := by
  simp only [List.mem_cons, List.not_mem_nil, or_false] at hpart
  unfold State.freePlace
  (repeat' split) <;> simp [*]

/-- The parts that `State.creditFault` leaves alone. -/
@[simp] theorem State.creditFault_get (r : Nat) (no : Nat) (vn : Nat) (found : Nat) (s : State) (part : Part) (hpart : part ∉ ([.nvm, .fabric, .od] : List Part)) :
    (State.creditFault r no vn found s).get part = s.get part := by
  simp only [List.mem_cons, List.not_mem_nil, or_false, not_or] at hpart
  simp [State.creditFault, hpart]

/-- The parts that `State.vn1Drop` leaves alone. -/
@[simp] theorem State.vn1Drop_get (f : Flit) (s : State) (part : Part) (hpart : part ∉ ([.fabric, .od] : List Part)) :
    (State.vn1Drop f s).get part = s.get part := by
  simp only [List.mem_cons, List.not_mem_nil, or_false, not_or] at hpart
  unfold State.vn1Drop
  (repeat' split) <;> simp [*]

/-- The parts that `State.freeSlot` leaves alone. -/
@[simp] theorem State.freeSlot_get (r : Nat) (i : Inp) (slot : Option Nat) (s : State) (part : Part) (hpart : part ∉ ([.fabric] : List Part)) :
    (State.freeSlot r i slot s).get part = s.get part := by
  simp only [List.mem_cons, List.not_mem_nil, or_false] at hpart
  unfold State.freeSlot
  (repeat' split) <;> simp [*]

/-- The parts that `State.settleOne` leaves alone. -/
theorem State.settleOne_get (r : Nat) (s : State) (part : Part) (hpart : part ∉ ([.fabric] : List Part)) :
    ∀ t, State.settleOne r s = some t → t.get part = s.get part := by
  simp only [List.mem_cons, List.not_mem_nil, or_false] at hpart
  intro t ht
  simp only [State.settleOne] at ht
  (repeat' split at ht) <;> simp_all <;> (obtain rfl := ht) <;> simp [hpart]

/-- The parts that `State.settleN` leaves alone. -/
@[simp] theorem State.settleN_get (x0 : Nat) (x1 : Nat) (x2 : State) (part : Part) (hpart : part ∉ ([.fabric] : List Part)) :
    (State.settleN x0 x1 x2).get part = x2.get part := by
  simp only [List.mem_cons, List.not_mem_nil, or_false] at hpart
  induction x0 generalizing x2 with
  | zero => rfl
  | succ k ih =>
    unfold State.settleN
    split
    · rfl
    · rename_i u hu
      rw [ih, State.settleOne_get _ _ part (by simp [hpart]) _ hu]

/-- The parts that `State.settle` leaves alone. -/
@[simp] theorem State.settle_get (r : Nat) (s : State) (part : Part) (hpart : part ∉ ([.fabric] : List Part)) :
    (State.settle r s).get part = s.get part := by
  simp only [List.mem_cons, List.not_mem_nil, or_false] at hpart
  simp [State.settle, hpart]

/-- The parts that `State.discard` leaves alone. -/
@[simp] theorem State.discard_get (f : Flit) (s : State) (part : Part) (hpart : part ∉ ([.beat, .comm, .oap, .nvm, .fabric, .power, .od, .out] : List Part)) :
    (State.discard f s).get part = s.get part := by
  simp only [List.mem_cons, List.not_mem_nil, or_false, not_or] at hpart
  simp [State.discard, hpart]

/-- The parts that `State.dropCopy` leaves alone. -/
@[simp] theorem State.dropCopy_get (target : Nat) (sub : Nat) (s : State) (part : Part) (hpart : part ∉ ([.fabric, .od] : List Part)) :
    (State.dropCopy target sub s).get part = s.get part := by
  simp only [List.mem_cons, List.not_mem_nil, or_false, not_or] at hpart
  simp [State.dropCopy, hpart]

/-- The parts that `State.routeVn0` leaves alone. -/
@[simp] theorem State.routeVn0_get (r : Nat) (i : Inp) (f : Flit) (s : State) (part : Part) (hpart : part ∉ ([.beat, .comm, .oap, .nvm, .fabric, .power, .od, .out] : List Part)) :
    (State.routeVn0 r i f s).get part = s.get part := by
  simp only [List.mem_cons, List.not_mem_nil, or_false, not_or] at hpart
  unfold State.routeVn0
  try dsimp only
  repeat' split
  all_goals try simp [hpart]
  all_goals try (rename_i heq; have hv := congrArg Prod.snd heq; dsimp only at hv; subst hv; simp [hpart])
  all_goals try refine (State.get_foldl _ _ _ _ (fun _ _ => ?_)).trans ?_
  all_goals try (repeat' split)
  all_goals try simp [hpart]
  all_goals try refine (State.get_foldl _ _ _ _ (fun _ _ => ?_)).trans ?_
  all_goals try (repeat' split)
  all_goals simp [hpart]

/-- The parts that `State.routeVn1` leaves alone. -/
@[simp] theorem State.routeVn1_get (r : Nat) (i : Inp) (f : Flit) (s : State) (part : Part) (hpart : part ∉ ([.beat, .comm, .oap, .nvm, .fabric, .power, .od, .out] : List Part)) :
    (State.routeVn1 r i f s).get part = s.get part := by
  simp only [List.mem_cons, List.not_mem_nil, or_false, not_or] at hpart
  simp [State.routeVn1, hpart]

/-- The parts that `State.arrive` leaves alone. -/
@[simp] theorem State.arrive_get (r : Nat) (i : Inp) (f : Flit) (s : State) (part : Part) (hpart : part ∉ ([.beat, .comm, .oap, .nvm, .fabric, .power, .od, .out] : List Part)) :
    (State.arrive r i f s).get part = s.get part := by
  simp only [List.mem_cons, List.not_mem_nil, or_false, not_or] at hpart
  simp [State.arrive, hpart]

/-- The parts that `State.sendTo` leaves alone. -/
@[simp] theorem State.sendTo_get (r : Nat) (i : Inp) (f : Flit) (x3 : State) (part : Part) (hpart : part ∉ ([.fabric] : List Part)) :
    (State.sendTo r i f x3).get part = x3.get part := by
  simp only [List.mem_cons, List.not_mem_nil, or_false] at hpart
  simp [State.sendTo, hpart]

/-- The parts that `State.sendOut` leaves alone. -/
@[simp] theorem State.sendOut_get (r : Nat) (o : Dir) (f : Flit) (s : State) (part : Part) (hpart : part ∉ ([.fabric, .od] : List Part)) :
    (State.sendOut r o f s).get part = s.get part := by
  simp only [List.mem_cons, List.not_mem_nil, or_false, not_or] at hpart
  unfold State.sendOut
  (repeat' split) <;> simp [*]

/-- The parts that `State.grant` leaves alone. -/
@[simp] theorem State.grant_get (r : Nat) (o : Dir) (s : State) (part : Part) (hpart : part ∉ ([.fabric, .od] : List Part)) :
    (State.grant r o s).get part = s.get part := by
  simp only [List.mem_cons, List.not_mem_nil, or_false, not_or] at hpart
  unfold State.grant
  (repeat' split) <;> simp [*]

/-- The parts that `State.escape` leaves alone. -/
@[simp] theorem State.escape_get (r : Nat) (o : Dir) (i : Inp) (s : State) (part : Part) (hpart : part ∉ ([.fabric, .od] : List Part)) :
    (State.escape r o i s).get part = s.get part := by
  simp only [List.mem_cons, List.not_mem_nil, or_false, not_or] at hpart
  unfold State.escape
  dsimp only
  (repeat' split) <;> simp [*]

/-- The parts that `State.purgeRouter` leaves alone. -/
@[simp] theorem State.purgeRouter_get (p : Flit → Bool) (r : Nat) (s : State) (part : Part) (hpart : part ∉ ([.beat, .comm, .oap, .nvm, .fabric, .power, .od, .out] : List Part)) :
    (State.purgeRouter p r s).get part = s.get part := by
  simp only [List.mem_cons, List.not_mem_nil, or_false, not_or] at hpart
  simp [State.purgeRouter, hpart]

/-- The parts that `State.purgeLink` leaves alone. -/
@[simp] theorem State.purgeLink_get (p : Flit → Bool) (k : Nat) (s : State) (part : Part) (hpart : part ∉ ([.beat, .comm, .oap, .nvm, .fabric, .power, .od, .out] : List Part)) :
    (State.purgeLink p k s).get part = s.get part := by
  simp only [List.mem_cons, List.not_mem_nil, or_false, not_or] at hpart
  simp [State.purgeLink, hpart]

/-- The parts that `State.purgeCore` leaves alone. -/
@[simp] theorem State.purgeCore_get (p : Flit → Bool) (c : Nat) (s : State) (part : Part) (hpart : part ∉ ([.beat, .comm, .oap, .nvm, .fabric, .power, .od, .out] : List Part)) :
    (State.purgeCore p c s).get part = s.get part := by
  simp only [List.mem_cons, List.not_mem_nil, or_false, not_or] at hpart
  simp [State.purgeCore, hpart]

/-- The parts that `State.purgePort` leaves alone. -/
@[simp] theorem State.purgePort_get (n : Nat) (p : Nat) (s : State) (part : Part) (hpart : part ∉ ([.beat, .comm, .oap, .nvm, .ports, .fabric, .power, .od, .out] : List Part)) :
    (State.purgePort n p s).get part = s.get part := by
  simp only [List.mem_cons, List.not_mem_nil, or_false, not_or] at hpart
  simp [State.purgePort, hpart]

/-- The parts that `State.purgeStage` leaves alone. -/
@[simp] theorem State.purgeStage_get (n : Nat) (c : Nat) (s : State) (part : Part) (hpart : part ∉ ([.beat, .comm, .oap, .nvm, .ports, .fabric, .power, .od, .out] : List Part)) :
    (State.purgeStage n c s).get part = s.get part := by
  simp only [List.mem_cons, List.not_mem_nil, or_false, not_or] at hpart
  simp [State.purgeStage, hpart]

/-- The parts that `State.tabNext` leaves alone. -/
@[simp] theorem State.tabNext_get (t : Nat) (s : State) (part : Part) (hpart : part ∉ ([.regs] : List Part)) :
    (State.tabNext t s).get part = s.get part := by
  simp only [List.mem_cons, List.not_mem_nil, or_false] at hpart
  simp [State.tabNext, hpart]

/-- The parts that `State.tabStatus` leaves alone. -/
@[simp] theorem State.tabStatus_get (t : Nat) (v : Nat) (x2 : State) (part : Part) (hpart : part ∉ ([.fabric] : List Part)) :
    (State.tabStatus t v x2).get part = x2.get part := by
  simp only [List.mem_cons, List.not_mem_nil, or_false] at hpart
  simp [State.tabStatus, hpart]

/-- The parts that `State.tabWrite` leaves alone. -/
@[simp] theorem State.tabWrite_get (t : Nat) (v : Nat) (s : State) (part : Part) (hpart : part ∉ ([.fabric, .regs] : List Part)) :
    (State.tabWrite t v s).get part = s.get part := by
  simp only [List.mem_cons, List.not_mem_nil, or_false, not_or] at hpart
  simp [State.tabWrite, hpart]

/-- The parts that `State.eccCorrect` leaves alone. -/
@[simp] theorem State.eccCorrect_get (a : Nat) (s : State) (part : Part) (hpart : part ∉ ([.nvm, .fabric, .memu, .od] : List Part)) :
    (State.eccCorrect a s).get part = s.get part := by
  simp only [List.mem_cons, List.not_mem_nil, or_false, not_or] at hpart
  unfold State.eccCorrect
  (repeat' split) <;> simp [*]

/-- The parts that `State.upset` leaves alone. -/
@[simp] theorem State.upset_get (u : Upset) (a : Nat) (s : State) (part : Part) (hpart : part ∉ ([.nvm, .fabric, .memu, .od] : List Part)) :
    (State.upset u a s).get part = s.get part := by
  simp only [List.mem_cons, List.not_mem_nil, or_false, not_or] at hpart
  unfold State.upset
  (repeat' split) <;> simp [*]

/-- The parts that `State.eccRead` leaves alone. -/
@[simp] theorem State.eccRead_get (src : Nat) (a : Nat) (s : State) (part : Part) (hpart : part ∉ ([.nvm, .fabric, .memu] : List Part)) :
    (State.eccRead src a s).get part = s.get part := by
  simp only [List.mem_cons, List.not_mem_nil, or_false, not_or] at hpart
  unfold State.eccRead
  (repeat' split) <;> simp [*]

/-- The parts that `State.issueMemReq` leaves alone. -/
@[simp] theorem State.issueMemReq_get (who : RemoteFor) (wr : Bool) (addr : Nat) (len : Nat) (data : List Byte) (s : State) (part : Part) (hpart : part ∉ ([.memu, .choir, .out] : List Part)) :
    (State.issueMemReq who wr addr len data s).get part = s.get part := by
  simp only [List.mem_cons, List.not_mem_nil, or_false, not_or] at hpart
  simp [State.issueMemReq, hpart]

/-- The parts that `State.sendMemReq` leaves alone. -/
@[simp] theorem State.sendMemReq_get (who : RemoteFor) (wr : Bool) (addr : Nat) (len : Nat) (data : List Byte) (s : State) (part : Part) (hpart : part ∉ ([.memu, .choir, .out] : List Part)) :
    (State.sendMemReq who wr addr len data s).get part = s.get part := by
  simp only [List.mem_cons, List.not_mem_nil, or_false, not_or] at hpart
  simp [State.sendMemReq, hpart]

/-- The parts that `State.onDir` leaves alone. -/
@[simp] theorem State.onDir_get (l : Nat) (f : DirLine → DirLine) (x2 : State) (part : Part) (hpart : part ∉ ([.memu] : List Part)) :
    (State.onDir l f x2).get part = x2.get part := by
  simp only [List.mem_cons, List.not_mem_nil, or_false] at hpart
  simp [State.onDir, hpart]

/-- The parts that `State.cleanLine` leaves alone. -/
@[simp] theorem State.cleanLine_get (l : Nat) (s : State) (part : Part) (hpart : part ∉ ([.memu, .mem] : List Part)) :
    (State.cleanLine l s).get part = s.get part := by
  simp only [List.mem_cons, List.not_mem_nil, or_false, not_or] at hpart
  unfold State.cleanLine
  (repeat' split) <;> simp [*]

/-- The parts that `State.breakReservations` leaves alone. -/
@[simp] theorem State.breakReservations_get (l : Nat) (but : Option Nat) (x2 : State) (part : Part) (hpart : part ∉ ([.memu] : List Part)) :
    (State.breakReservations l but x2).get part = x2.get part := by
  simp only [List.mem_cons, List.not_mem_nil, or_false] at hpart
  simp [State.breakReservations, hpart]

/-- The parts that `State.evictLine` leaves alone. -/
@[simp] theorem State.evictLine_get (l : Nat) (s : State) (part : Part) (hpart : part ∉ ([.memu, .mem] : List Part)) :
    (State.evictLine l s).get part = s.get part := by
  simp only [List.mem_cons, List.not_mem_nil, or_false, not_or] at hpart
  simp [State.evictLine, hpart]

/-- The parts that `State.install` leaves alone. -/
@[simp] theorem State.install_get (l : Nat) (s : State) (part : Part) (hpart : part ∉ ([.memu, .mem, .fresh] : List Part)) :
    (State.install l s).get part = s.get part := by
  simp only [List.mem_cons, List.not_mem_nil, or_false, not_or] at hpart
  unfold State.install
  dsimp only
  (repeat' split) <;> simp [*]

/-- The parts that `State.fit` leaves alone. -/
@[simp] theorem State.fit_get (c : Nat) (l : Nat) (s : State) (part : Part) (hpart : part ∉ ([.memu, .fresh] : List Part)) :
    (State.fit c l s).get part = s.get part := by
  simp only [List.mem_cons, List.not_mem_nil, or_false, not_or] at hpart
  unfold State.fit
  dsimp only
  (repeat' split) <;> simp [*]

/-- The parts that `State.storePiece` leaves alone. -/
@[simp] theorem State.storePiece_get (c : Nat) (a : Nat) (b : List Byte) (s : State) (part : Part) (hpart : part ∉ ([.memu] : List Part)) :
    (State.storePiece c a b s).get part = s.get part := by
  simp only [List.mem_cons, List.not_mem_nil, or_false] at hpart
  simp [State.storePiece, hpart]

/-- The parts that `State.drainLine` leaves alone. -/
@[simp] theorem State.drainLine_get (c : Nat) (l : Nat) (s : State) (part : Part) (hpart : part ∉ ([.memu] : List Part)) :
    (State.drainLine c l s).get part = s.get part := by
  simp only [List.mem_cons, List.not_mem_nil, or_false] at hpart
  simp [State.drainLine, hpart]

/-- The parts that `State.grantLine` leaves alone. -/
@[simp] theorem State.grantLine_get (c : Nat) (wr : Bool) (l : Nat) (s : State) (part : Part) (hpart : part ∉ ([.memu, .mem, .fresh] : List Part)) :
    (State.grantLine c wr l s).get part = s.get part := by
  simp only [List.mem_cons, List.not_mem_nil, or_false, not_or] at hpart
  simp [State.grantLine, hpart]

/-- The parts that `State.askLine` leaves alone. -/
@[simp] theorem State.askLine_get (r : DirReq) (l : Nat) (s : State) (part : Part) (hpart : part ∉ ([.memu, .mem, .fresh] : List Part)) :
    (State.askLine r l s).get part = s.get part := by
  simp only [List.mem_cons, List.not_mem_nil, or_false, not_or] at hpart
  simp [State.askLine, hpart]

/-- The parts that `State.retryTx` leaves alone. -/
@[simp] theorem State.retryTx_get (w : WaitTx) (s : State) (part : Part) (hpart : part ∉ ([.memu, .choir, .mem, .fresh, .out] : List Part)) :
    (State.retryTx w s).get part = s.get part := by
  simp only [List.mem_cons, List.not_mem_nil, or_false, not_or] at hpart
  unfold State.retryTx
  (repeat' split) <;> simp [*]

/-- The parts that `State.placeWaiting` leaves alone. -/
@[simp] theorem State.placeWaiting_get (s : State) (part : Part) (hpart : part ∉ ([.memu, .choir, .mem, .fresh, .out] : List Part)) :
    (State.placeWaiting s).get part = s.get part := by
  simp only [List.mem_cons, List.not_mem_nil, or_false, not_or] at hpart
  simp [State.placeWaiting, hpart]

/-- The parts that `State.serveLine` leaves alone. -/
@[simp] theorem State.serveLine_get (l : Nat) (s : State) (part : Part) (hpart : part ∉ ([.memu, .choir, .mem, .fresh, .out] : List Part)) :
    (State.serveLine l s).get part = s.get part := by
  simp only [List.mem_cons, List.not_mem_nil, or_false, not_or] at hpart
  simp [State.serveLine, hpart]

/-- The parts that `State.own` leaves alone. -/
@[simp] theorem State.own_get (c : Nat) (wr : Bool) (l : Nat) (s : State) (part : Part) (hpart : part ∉ ([.memu, .choir, .mem, .fresh, .out] : List Part)) :
    (State.own c wr l s).get part = s.get part := by
  simp only [List.mem_cons, List.not_mem_nil, or_false, not_or] at hpart
  simp [State.own, hpart]

/-- The parts that `State.ncPiece` leaves alone. -/
@[simp] theorem State.ncPiece_get (a : Nat) (b : List Byte) (s : State) (part : Part) (hpart : part ∉ ([.memu, .choir, .mem, .fresh, .out] : List Part)) :
    (State.ncPiece a b s).get part = s.get part := by
  simp only [List.mem_cons, List.not_mem_nil, or_false, not_or] at hpart
  simp [State.ncPiece, hpart]

/-- The parts that `State.ncWrite` leaves alone. -/
@[simp] theorem State.ncWrite_get (a : Nat) (b : List Byte) (s : State) (part : Part) (hpart : part ∉ ([.memu, .choir, .mem, .fresh, .out] : List Part)) :
    (State.ncWrite a b s).get part = s.get part := by
  simp only [List.mem_cons, List.not_mem_nil, or_false, not_or] at hpart
  simp [State.ncWrite, hpart]

/-- The parts that `State.bufferPiece` leaves alone. -/
@[simp] theorem State.bufferPiece_get (c : Nat) (a : Nat) (b : List Byte) (s : State) (part : Part) (hpart : part ∉ ([.memu, .choir, .mem, .fresh, .out] : List Part)) :
    (State.bufferPiece c a b s).get part = s.get part := by
  simp only [List.mem_cons, List.not_mem_nil, or_false, not_or] at hpart
  unfold State.bufferPiece
  (repeat' split) <;> simp [*]

/-- The parts that `State.cantorStore` leaves alone. -/
@[simp] theorem State.cantorStore_get (c : Nat) (a : Nat) (b : List Byte) (s : State) (part : Part) (hpart : part ∉ ([.memu, .choir, .mem, .fresh, .out] : List Part)) :
    (State.cantorStore c a b s).get part = s.get part := by
  simp only [List.mem_cons, List.not_mem_nil, or_false, not_or] at hpart
  simp [State.cantorStore, hpart]

/-- The parts that `State.drainStores` leaves alone. -/
@[simp] theorem State.drainStores_get (c : Nat) (s : State) (part : Part) (hpart : part ∉ ([.memu, .choir, .mem, .fresh, .out] : List Part)) :
    (State.drainStores c s).get part = s.get part := by
  simp only [List.mem_cons, List.not_mem_nil, or_false, not_or] at hpart
  simp [State.drainStores, hpart]

/-- The parts that `State.takeLines` leaves alone. -/
@[simp] theorem State.takeLines_get (c : Nat) (a : Nat) (n : Nat) (s : State) (part : Part) (hpart : part ∉ ([.memu, .choir, .mem, .fresh, .out] : List Part)) :
    (State.takeLines c a n s).get part = s.get part := by
  simp only [List.mem_cons, List.not_mem_nil, or_false, not_or] at hpart
  simp [State.takeLines, hpart]

/-- The parts that `State.lateOut` leaves alone. -/
@[simp] theorem State.lateOut_get (m : Nat) (s : State) (part : Part) (hpart : part ∉ ([.memu, .choir, .mem, .fresh, .out] : List Part)) :
    (State.lateOut m s).get part = s.get part := by
  simp only [List.mem_cons, List.not_mem_nil, or_false, not_or] at hpart
  simp [State.lateOut, hpart]

/-- The parts that `State.moverPut` leaves alone. -/
@[simp] theorem State.moverPut_get (m : Nat) (scope : Nat) (a : Nat) (b : List Byte) (s : State) (part : Part) (hpart : part ∉ ([.memu, .choir, .mem, .fresh, .out] : List Part)) :
    (State.moverPut m scope a b s).get part = s.get part := by
  simp only [List.mem_cons, List.not_mem_nil, or_false, not_or] at hpart
  simp [State.moverPut, hpart]

/-- The parts that `State.lateAll` leaves alone. -/
@[simp] theorem State.lateAll_get (s : State) (part : Part) (hpart : part ∉ ([.memu, .choir, .mem, .fresh, .out] : List Part)) :
    (State.lateAll s).get part = s.get part := by
  simp only [List.mem_cons, List.not_mem_nil, or_false, not_or] at hpart
  simp [State.lateAll, hpart]

/-- The parts that `State.drainAll` leaves alone. -/
@[simp] theorem State.drainAll_get (s : State) (part : Part) (hpart : part ∉ ([.memu, .choir, .mem, .fresh, .out] : List Part)) :
    (State.drainAll s).get part = s.get part := by
  simp only [List.mem_cons, List.not_mem_nil, or_false, not_or] at hpart
  simp [State.drainAll, hpart]

/-- The parts that `State.ncFailed` leaves alone. -/
@[simp] theorem State.ncFailed_get (src : Nat) (pkg : Nat) (f : NcFail) (s : State) (part : Part) (hpart : part ∉ ([.nvm, .fabric, .memu] : List Part)) :
    (State.ncFailed src pkg f s).get part = s.get part := by
  simp only [List.mem_cons, List.not_mem_nil, or_false, not_or] at hpart
  unfold State.ncFailed
  (repeat' split) <;> simp [*]

/-- The parts that `State.windowEcc` leaves alone. -/
@[simp] theorem State.windowEcc_get (a : Nat) (n : Nat) (s : State) (part : Part) (hpart : part ∉ ([.nvm, .fabric, .memu] : List Part)) :
    (State.windowEcc a n s).get part = s.get part := by
  simp only [List.mem_cons, List.not_mem_nil, or_false, not_or] at hpart
  unfold State.windowEcc
  (repeat' split) <;> simp [*]

/-- The parts that `State.atomicGuard` leaves alone. -/
theorem State.atomicGuard_get (s : State) (c : Nat) (addr : Nat) (n : Nat) (part : Part) (hpart : part ∉ ([.nvm, .fabric, .memu, .out] : List Part)) :
    ∀ t, State.atomicGuard s c addr n = some t → t.get part = s.get part := by
  simp only [List.mem_cons, List.not_mem_nil, or_false, not_or] at hpart
  intro t ht
  simp only [State.atomicGuard] at ht
  (repeat' split at ht) <;> simp_all <;> (obtain rfl := ht) <;> simp [hpart]

/-- The parts that `State.reserve` leaves alone. -/
@[simp] theorem State.reserve_get (c : Nat) (l : Option Nat) (x2 : State) (part : Part) (hpart : part ∉ ([.memu] : List Part)) :
    (State.reserve c l x2).get part = x2.get part := by
  simp only [List.mem_cons, List.not_mem_nil, or_false] at hpart
  simp [State.reserve, hpart]

/-- The parts that `State.cleanCantor` leaves alone. -/
@[simp] theorem State.cleanCantor_get (c : Nat) (s : State) (part : Part) (hpart : part ∉ ([.memu, .mem] : List Part)) :
    (State.cleanCantor c s).get part = s.get part := by
  simp only [List.mem_cons, List.not_mem_nil, or_false, not_or] at hpart
  simp [State.cleanCantor, hpart]

/-- The parts that `State.fenceEnd` leaves alone. -/
@[simp] theorem State.fenceEnd_get (f : FenceWait) (status : Nat) (s : State) (part : Part) (hpart : part ∉ ([.out] : List Part)) :
    (State.fenceEnd f status s).get part = s.get part := by
  simp only [List.mem_cons, List.not_mem_nil, or_false] at hpart
  unfold State.fenceEnd
  (repeat' split) <;> simp [*]

/-- The parts that `State.fenceWait` leaves alone. -/
@[simp] theorem State.fenceWait_get (f : FenceWait) (s : State) (part : Part) (hpart : part ∉ ([.memu, .out] : List Part)) :
    (State.fenceWait f s).get part = s.get part := by
  simp only [List.mem_cons, List.not_mem_nil, or_false, not_or] at hpart
  simp [State.fenceWait, hpart]

/-- The parts that `State.fencesDone` leaves alone. -/
@[simp] theorem State.fencesDone_get (s : State) (part : Part) (hpart : part ∉ ([.memu, .out] : List Part)) :
    (State.fencesDone s).get part = s.get part := by
  simp only [List.mem_cons, List.not_mem_nil, or_false, not_or] at hpart
  simp [State.fencesDone, hpart]

/-- The parts that `State.fenceS` leaves alone. -/
@[simp] theorem State.fenceS_get (c : Nat) (w : Nat) (s : State) (part : Part) (hpart : part ∉ ([.memu, .choir, .mem, .fresh, .out] : List Part)) :
    (State.fenceS c w s).get part = s.get part := by
  simp only [List.mem_cons, List.not_mem_nil, or_false, not_or] at hpart
  unfold State.fenceS
  (repeat' split) <;> simp [*]

/-- The parts that `State.fenceStd` leaves alone. -/
@[simp] theorem State.fenceStd_get (c : Nat) (loads : Bool) (stores : Bool) (s : State) (part : Part) (hpart : part ∉ ([.memu, .choir, .mem, .fresh, .out] : List Part)) :
    (State.fenceStd c loads stores s).get part = s.get part := by
  simp only [List.mem_cons, List.not_mem_nil, or_false, not_or] at hpart
  simp [State.fenceStd, hpart]

/-- The parts that `State.setRuns` leaves alone. -/
@[simp] theorem State.setRuns_get (u : Nat) (k : Option Nat) (x2 : State) (part : Part) (hpart : part ∉ ([.press] : List Part)) :
    (State.setRuns u k x2).get part = x2.get part := by
  simp only [List.mem_cons, List.not_mem_nil, or_false] at hpart
  simp [State.setRuns, hpart]

/-- The parts that `State.cycle` leaves alone. -/
@[simp] theorem State.cycle_get (s : State) (part : Part) (hpart : part ∉ ([.press] : List Part)) :
    (State.cycle s).get part = s.get part := by
  simp only [List.mem_cons, List.not_mem_nil, or_false] at hpart
  simp [State.cycle, hpart]

/-- The parts that `State.taskTo` leaves alone. -/
@[simp] theorem State.taskTo_get (k : Nat) (st : TaskSt) (cause : Nat) (x3 : State) (part : Part) (hpart : part ∉ ([.press] : List Part)) :
    (State.taskTo k st cause x3).get part = x3.get part := by
  simp only [List.mem_cons, List.not_mem_nil, or_false] at hpart
  simp [State.taskTo, hpart]

/-- The parts that `State.release` leaves alone. -/
@[simp] theorem State.release_get (k : Nat) (x1 : State) (part : Part) (hpart : part ∉ ([.press] : List Part)) :
    (State.release k x1).get part = x1.get part := by
  simp only [List.mem_cons, List.not_mem_nil, or_false] at hpart
  simp [State.release, hpart]

/-- The parts that `State.taskStop` leaves alone. -/
@[simp] theorem State.taskStop_get (k : Nat) (st : TaskSt) (cause : Nat) (s : State) (part : Part) (hpart : part ∉ ([.press, .od] : List Part)) :
    (State.taskStop k st cause s).get part = s.get part := by
  simp only [List.mem_cons, List.not_mem_nil, or_false, not_or] at hpart
  simp [State.taskStop, hpart]

/-- The parts that `State.taskFree` leaves alone. -/
@[simp] theorem State.taskFree_get (k : Nat) (s : State) (part : Part) (hpart : part ∉ ([.press] : List Part)) :
    (State.taskFree k s).get part = s.get part := by
  simp only [List.mem_cons, List.not_mem_nil, or_false] at hpart
  simp [State.taskFree, hpart]

/-- The parts that `State.decrement` leaves alone. -/
@[simp] theorem State.decrement_get (k : Nat) (s : State) (part : Part) (hpart : part ∉ ([.press, .od] : List Part)) :
    (State.decrement k s).get part = s.get part := by
  simp only [List.mem_cons, List.not_mem_nil, or_false, not_or] at hpart
  simp [State.decrement, hpart]

/-- The parts that `State.taskMsg_extra` leaves alone. -/
@[simp] theorem State.taskMsg_get (s : State) (was : State) (m : TaskMsg) (part : Part) (hpart : part ∉ ([.press, .od] : List Part)) :
    (State.taskMsg s was m).get part = s.get part := by
  simp only [List.mem_cons, List.not_mem_nil, or_false, not_or] at hpart
  unfold State.taskMsg
  (repeat' split) <;> simp [*]

/-- The parts that `State.endTask` leaves alone. -/
@[simp] theorem State.endTask_get (e : Nat × TaskSt × Nat) (s : State) (part : Part) (hpart : part ∉ ([.press, .od] : List Part)) :
    (State.endTask e s).get part = s.get part := by
  simp only [List.mem_cons, List.not_mem_nil, or_false, not_or] at hpart
  simp [State.endTask, hpart]

/-- The parts that `State.endCycle` leaves alone. -/
@[simp] theorem State.endCycle_get (ends : List (Nat × TaskSt × Nat)) (msgs : List TaskMsg) (s : State) (part : Part) (hpart : part ∉ ([.press, .od] : List Part)) :
    (State.endCycle ends msgs s).2.get part = s.get part := by
  simp only [List.mem_cons, List.not_mem_nil, or_false, not_or] at hpart
  simp [State.endCycle, hpart]

/-- The parts that `State.endTasks` leaves alone. -/
@[simp] theorem State.endTasks_get (x0 : Nat) (x1 : List (Nat × TaskSt × Nat)) (x2 : List TaskMsg) (x3 : State) (part : Part) (hpart : part ∉ ([.press, .od] : List Part)) :
    (State.endTasks x0 x1 x2 x3).get part = x3.get part := by
  simp only [List.mem_cons, List.not_mem_nil, or_false, not_or] at hpart
  induction x0 generalizing x1 x2 x3 with
  | zero => rfl
  | succ n ih =>
    unfold State.endTasks
    dsimp only
    split
    · simp [hpart]
    · rw [ih]; simp [hpart]

/-- The parts that `State.endAll` leaves alone. -/
@[simp] theorem State.endAll_get (l : List (Nat × TaskSt × Nat)) (s : State) (part : Part) (hpart : part ∉ ([.press, .od] : List Part)) :
    (State.endAll l s).get part = s.get part := by
  simp only [List.mem_cons, List.not_mem_nil, or_false, not_or] at hpart
  simp [State.endAll, hpart]

/-- The parts that `State.startPress` leaves alone. -/
@[simp] theorem State.startPress_get (s : State) (part : Part) (hpart : part ∉ ([.beat, .press] : List Part)) :
    (State.startPress s).get part = s.get part := by
  simp only [List.mem_cons, List.not_mem_nil, or_false, not_or] at hpart
  unfold State.startPress
  (repeat' split) <;> simp [*]

/-- The parts that `State.notePress` leaves alone. -/
@[simp] theorem State.notePress_get (n : Nat) (us : Nat) (x2 : State) (part : Part) (hpart : part ∉ ([.power] : List Part)) :
    (State.notePress n us x2).get part = x2.get part := by
  simp only [List.mem_cons, List.not_mem_nil, or_false] at hpart
  simp [State.notePress, hpart]

/-- The parts that `State.pressCheck` leaves alone. -/
@[simp] theorem State.pressCheck_get (n : Nat) (s : State) (part : Part) (hpart : part ∉ ([.beat, .press, .power] : List Part)) :
    (State.pressCheck n s).get part = s.get part := by
  simp only [List.mem_cons, List.not_mem_nil, or_false, not_or] at hpart
  unfold State.pressCheck
  (repeat' split) <;> simp [*]

/-- The parts that `State.afterEnd` leaves alone. -/
@[simp] theorem State.afterEnd_get (beat : Option Nat) (failed : Bool) (s : State) (part : Part) (hpart : part ∉ ([.beat, .press, .power] : List Part)) :
    (State.afterEnd beat failed s).get part = s.get part := by
  simp only [List.mem_cons, List.not_mem_nil, or_false, not_or] at hpart
  unfold State.afterEnd
  (repeat' split) <;> simp [*]

/-- The parts that `State.finish` leaves alone. -/
@[simp] theorem State.finish_get (k : Nat) (st : TaskSt) (cause : Nat) (s : State) (part : Part) (hpart : part ∉ ([.beat, .press, .power, .od] : List Part)) :
    (State.finish k st cause s).get part = s.get part := by
  simp only [List.mem_cons, List.not_mem_nil, or_false, not_or] at hpart
  simp [State.finish, hpart]

/-- The parts that `State.taskError` leaves alone. -/
@[simp] theorem State.taskError_get (u : Nat) (k : Nat) (cause : Nat) (s : State) (part : Part) (hpart : part ∉ ([.beat, .nvm, .press, .power, .od] : List Part)) :
    (State.taskError u k cause s).get part = s.get part := by
  simp only [List.mem_cons, List.not_mem_nil, or_false, not_or] at hpart
  simp [State.taskError, hpart]

/-- The parts that `State.submitRefuse` leaves alone. -/
@[simp] theorem State.submitRefuse_get (t : Nat) (cause : Nat) (x2 : State) (part : Part) (hpart : part ∉ ([.press] : List Part)) :
    (State.submitRefuse t cause x2).get part = x2.get part := by
  simp only [List.mem_cons, List.not_mem_nil, or_false] at hpart
  simp [State.submitRefuse, hpart]

/-- The parts that `State.place` leaves alone. -/
@[simp] theorem State.place_get (t : Nat) (d : TaskDesc) (beat : Option Nat) (s : State) (part : Part) (hpart : part ∉ ([.press] : List Part)) :
    (State.place t d beat s).get part = s.get part := by
  simp only [List.mem_cons, List.not_mem_nil, or_false] at hpart
  simp [State.place, hpart]

/-- The parts that `State.submit` leaves alone. -/
@[simp] theorem State.submit_get (t : Nat) (s : State) (part : Part) (hpart : part ∉ ([.press] : List Part)) :
    (State.submit t s).get part = s.get part := by
  simp only [List.mem_cons, List.not_mem_nil, or_false] at hpart
  simp [State.submit, hpart]

/-- The parts that `State.cancel` leaves alone. -/
@[simp] theorem State.cancel_get (t : Nat) (slot : Nat) (s : State) (part : Part) (hpart : part ∉ ([.beat, .press, .power, .od] : List Part)) :
    (State.cancel t slot s).get part = s.get part := by
  simp only [List.mem_cons, List.not_mem_nil, or_false, not_or] at hpart
  simp [State.cancel, hpart]

/-- The parts that `State.engineStop` leaves alone. -/
@[simp] theorem State.engineStop_get (e : Nat) (k : Nat) (cause : Nat) (f : Option NcFail) (s : State) (part : Part) (hpart : part ∉ ([.beat, .nvm, .fabric, .press, .memu, .power, .od] : List Part)) :
    (State.engineStop e k cause f s).get part = s.get part := by
  simp only [List.mem_cons, List.not_mem_nil, or_false, not_or] at hpart
  unfold State.engineStop
  (repeat' split) <;> simp [*]

/-- The parts that `State.blendStop` leaves alone. -/
@[simp] theorem State.blendStop_get (k : Nat) (cause : Nat) (f : Option NcFail) (s : State) (part : Part) (hpart : part ∉ ([.beat, .nvm, .fabric, .press, .memu, .power, .od] : List Part)) :
    (State.blendStop k cause f s).get part = s.get part := by
  simp only [List.mem_cons, List.not_mem_nil, or_false, not_or] at hpart
  unfold State.blendStop
  (repeat' split) <;> simp [*]

/-- The parts that `State.unitStop` leaves alone. -/
@[simp] theorem State.unitStop_get (u : Nat) (k : Nat) (cause : Nat) (f : Option NcFail) (s : State) (part : Part) (hpart : part ∉ ([.beat, .nvm, .fabric, .press, .memu, .power, .od] : List Part)) :
    (State.unitStop u k cause f s).get part = s.get part := by
  simp only [List.mem_cons, List.not_mem_nil, or_false, not_or] at hpart
  simp [State.unitStop, hpart]

/-- The parts that `State.engineFault` leaves alone. -/
@[simp] theorem State.engineFault_get (e : Nat) (k : Nat) (s : State) (part : Part) (hpart : part ∉ ([.beat, .comm, .oap, .nvm, .press, .power, .od, .out] : List Part)) :
    (State.engineFault e k s).get part = s.get part := by
  simp only [List.mem_cons, List.not_mem_nil, or_false, not_or] at hpart
  simp [State.engineFault, hpart]

/-- The parts that `State.completeTask` leaves alone. -/
@[simp] theorem State.completeTask_get (u : Nat) (needEnd : Bool) (s : State) (part : Part) (hpart : part ∉ ([.beat, .nvm, .fabric, .press, .memu, .power, .od] : List Part)) :
    (State.completeTask u needEnd s).get part = s.get part := by
  simp only [List.mem_cons, List.not_mem_nil, or_false, not_or] at hpart
  unfold State.completeTask
  (repeat' split) <;> simp [*]

/-- The parts that `State.fetchCmd_extra` leaves alone. -/
theorem State.fetchCmd_get (s : State) (e op : Nat) (bad : Bool) (part : Part)
    (hpart : part ∉ ([.beat, .comm, .oap, .nvm, .fabric, .press, .memu, .power, .od, .out] : List Part)) :
    ∀ u, s.fetchCmd e op bad = .inl u → u.get part = s.get part := by
  intro u hu
  unfold State.fetchCmd at hu
  (repeat' split at hu) <;> first | contradiction | (simp only [Sum.inl.injEq] at hu; subst hu; simp_all)

/-- The parts that `State.nextCmd` leaves alone. -/
@[simp] theorem State.nextCmd_get (k : Nat) (x1 : State) (part : Part) (hpart : part ∉ ([.press] : List Part)) :
    (State.nextCmd k x1).get part = x1.get part := by
  simp only [List.mem_cons, List.not_mem_nil, or_false] at hpart
  simp [State.nextCmd, hpart]

/-- The parts that `State.runCmd` leaves alone. -/
@[simp] theorem State.runCmd_get (e : Nat) (op : Nat) (bad : Bool) (acc : PCmd → List (Nat × Nat × Bool)) (out : State → PCmd → List Byte) (s : State) (part : Part) (hpart : part ∉ ([.beat, .comm, .oap, .nvm, .fabric, .press, .memu, .choir, .power, .od, .mem, .fresh, .out] : List Part)) :
    (State.runCmd e op bad acc out s).get part = s.get part := by
  simp only [List.mem_cons, List.not_mem_nil, or_false, not_or] at hpart
  unfold State.runCmd
  split
  · exact State.fetchCmd_get _ _ _ _ part (by simp [hpart]) _ ‹_›
  · (try dsimp only)
    (repeat' split) <;> simp [hpart]

/-- The parts that `State.frameLoad` leaves alone. -/
@[simp] theorem State.frameLoad_get (e : Nat) (bad : Bool) (s : State) (part : Part) (hpart : part ∉ ([.beat, .comm, .oap, .nvm, .fabric, .press, .memu, .choir, .power, .od, .mem, .fresh, .out] : List Part)) :
    (State.frameLoad e bad s).get part = s.get part := by
  simp only [List.mem_cons, List.not_mem_nil, or_false, not_or] at hpart
  unfold State.frameLoad
  split
  · exact State.fetchCmd_get _ _ _ _ part (by simp [hpart]) _ ‹_›
  · (try dsimp only)
    (repeat' split) <;> simp [hpart]

/-- The parts that `State.instantiate` leaves alone. -/
@[simp] theorem State.instantiate_get (n : Nat) (s : State) (part : Part) (hpart : part ∉ ([.beat, .press] : List Part)) :
    (State.instantiate n s).get part = s.get part := by
  simp only [List.mem_cons, List.not_mem_nil, or_false, not_or] at hpart
  unfold State.instantiate
  try dsimp only
  repeat' split
  all_goals try simp [hpart]
  all_goals try (rename_i heq; have hv := congrArg Prod.snd heq; dsimp only at hv; subst hv; simp [hpart])
  all_goals try refine (State.get_foldl _ _ _ _ (fun _ _ => ?_)).trans ?_
  all_goals try (repeat' split)
  all_goals try simp [hpart]
  all_goals try refine (State.get_foldl _ _ _ _ (fun _ _ => ?_)).trans ?_
  all_goals try (repeat' split)
  all_goals simp [hpart]

/-- The parts that `State.shedTasks` leaves alone. -/
@[simp] theorem State.shedTasks_get (n : Nat) (s : State) (part : Part) (hpart : part ∉ ([.press, .od] : List Part)) :
    (State.shedTasks n s).get part = s.get part := by
  simp only [List.mem_cons, List.not_mem_nil, or_false, not_or] at hpart
  simp [State.shedTasks, hpart]

/-- The parts that `State.pressReset` leaves alone. -/
@[simp] theorem State.pressReset_get (s : State) (part : Part) (hpart : part ∉ ([.press] : List Part)) :
    (State.pressReset s).get part = s.get part := by
  simp only [List.mem_cons, List.not_mem_nil, or_false] at hpart
  simp [State.pressReset, hpart]

/-- The parts that `State.commitSlate` leaves alone. -/
@[simp] theorem State.commitSlate_get (i : Nat) (tov : Nat) (valid : Bool) (data : List Byte) (weight : BitVec 64) (s : State) (part : Part) (hpart : part ∉ ([.press, .memu, .choir, .od, .mem, .fresh, .out] : List Part)) :
    (State.commitSlate i tov valid data weight s).get part = s.get part := by
  simp only [List.mem_cons, List.not_mem_nil, or_false, not_or] at hpart
  simp [State.commitSlate, hpart]

/-- The parts that `State.slateCommit` leaves alone. -/
@[simp] theorem State.slateCommit_get (e : Nat) (bad : Bool) (s : State) (part : Part) (hpart : part ∉ ([.beat, .comm, .oap, .nvm, .fabric, .press, .memu, .choir, .power, .od, .mem, .fresh, .out] : List Part)) :
    (State.slateCommit e bad s).get part = s.get part := by
  simp only [List.mem_cons, List.not_mem_nil, or_false, not_or] at hpart
  unfold State.slateCommit
  split
  · exact State.fetchCmd_get _ _ _ _ part (by simp [hpart]) _ ‹_›
  · (try dsimp only)
    (repeat' split) <;> simp [hpart]

/-- The parts that `State.captureAll` leaves alone. -/
@[simp] theorem State.captureAll_get (n : Nat) (shedding : Bool) (s : State) (part : Part) (hpart : part ∉ ([.beat, .press, .memu, .choir, .od, .mem, .fresh, .out] : List Part)) :
    (State.captureAll n shedding s).get part = s.get part := by
  simp only [List.mem_cons, List.not_mem_nil, or_false, not_or] at hpart
  simp [State.captureAll, hpart]

/-- The parts that `State.slatesReinit` leaves alone. -/
@[simp] theorem State.slatesReinit_get (s : State) (part : Part) (hpart : part ∉ ([.press] : List Part)) :
    (State.slatesReinit s).get part = s.get part := by
  simp only [List.mem_cons, List.not_mem_nil, or_false] at hpart
  simp [State.slatesReinit, hpart]

/-- The parts that `State.weightWrite` leaves alone. -/
@[simp] theorem State.weightWrite_get (v : Nat) (s : State) (part : Part) (hpart : part ∉ ([.press, .memu, .choir, .od, .wtime, .mem, .fresh, .out] : List Part)) :
    (State.weightWrite v s).2.get part = s.get part := by
  simp only [List.mem_cons, List.not_mem_nil, or_false, not_or] at hpart
  simp [State.weightWrite, hpart]

/-- The parts that `State.noteReplaced` leaves alone. -/
@[simp] theorem State.noteReplaced_get (i : Nat) (t : Taken) (s : State) (part : Part) (hpart : part ∉ ([.nvm, .press, .od, .fresh] : List Part)) :
    (State.noteReplaced i t s).get part = s.get part := by
  simp only [List.mem_cons, List.not_mem_nil, or_false, not_or] at hpart
  unfold State.noteReplaced
  (repeat' split) <;> simp [*]

/-- The parts that `State.gatherBeat` leaves alone. -/
@[simp] theorem State.gatherBeat_get (n : Nat) (s : State) (part : Part) (hpart : part ∉ ([.nvm, .press, .memu, .choir, .od, .mem, .fresh, .out] : List Part)) :
    (State.gatherBeat n s).get part = s.get part := by
  simp only [List.mem_cons, List.not_mem_nil, or_false, not_or] at hpart
  simp [State.gatherBeat, hpart]

/-- The parts that `State.moverEnable` leaves alone. -/
@[simp] theorem State.moverEnable_get (m : Nat) (s : State) (part : Part) (hpart : part ∉ ([.memu] : List Part)) :
    (State.moverEnable m s).get part = s.get part := by
  simp only [List.mem_cons, List.not_mem_nil, or_false] at hpart
  simp [State.moverEnable, hpart]

/-- The parts that `State.moverDisable` leaves alone. -/
@[simp] theorem State.moverDisable_get (m : Nat) (s : State) (part : Part) (hpart : part ∉ ([.memu] : List Part)) :
    (State.moverDisable m s).get part = s.get part := by
  simp only [List.mem_cons, List.not_mem_nil, or_false] at hpart
  simp [State.moverDisable, hpart]

/-- The parts that `State.moverAbort` leaves alone. -/
@[simp] theorem State.moverAbort_get (m : Nat) (s : State) (part : Part) (hpart : part ∉ ([.memu] : List Part)) :
    (State.moverAbort m s).get part = s.get part := by
  simp only [List.mem_cons, List.not_mem_nil, or_false] at hpart
  simp [State.moverAbort, hpart]

/-- The parts that `State.tailWrite` leaves alone. -/
@[simp] theorem State.tailWrite_get (m : Nat) (tail : Nat) (s : State) (part : Part) (hpart : part ∉ ([.memu] : List Part)) :
    (State.tailWrite m tail s).get part = s.get part := by
  simp only [List.mem_cons, List.not_mem_nil, or_false] at hpart
  simp [State.tailWrite, hpart]

/-- The parts that `State.onDesc` leaves alone. -/
@[simp] theorem State.onDesc_get (m : Nat) (i : Nat) (f : DescRun → DescRun) (x3 : State) (part : Part) (hpart : part ∉ ([.memu] : List Part)) :
    (State.onDesc m i f x3).get part = x3.get part := by
  simp only [List.mem_cons, List.not_mem_nil, or_false] at hpart
  simp [State.onDesc, hpart]

/-- The parts that `State.descFail` leaves alone. -/
@[simp] theorem State.descFail_get (m : Nat) (i : Nat) (goal : Nat) (result : Nat) (kind : Nat) (x5 : State) (part : Part) (hpart : part ∉ ([.memu] : List Part)) :
    (State.descFail m i goal result kind x5).get part = x5.get part := by
  simp only [List.mem_cons, List.not_mem_nil, or_false] at hpart
  simp [State.descFail, hpart]

/-- The parts that `State.moverFail` leaves alone. -/
@[simp] theorem State.moverFail_get (m : Nat) (i : Nat) (goal : Nat) (f : NcFail) (s : State) (part : Part) (hpart : part ∉ ([.nvm, .fabric, .memu] : List Part)) :
    (State.moverFail m i goal f s).get part = s.get part := by
  simp only [List.mem_cons, List.not_mem_nil, or_false, not_or] at hpart
  unfold State.moverFail
  (repeat' split) <;> simp [*]

/-- The parts that `State.moverNoMember` leaves alone. -/
@[simp] theorem State.moverNoMember_get (m : Nat) (i : Nat) (goal : Nat) (addr : Nat) (s : State) (part : Part) (hpart : part ∉ ([.memu] : List Part)) :
    (State.moverNoMember m i goal addr s).get part = s.get part := by
  simp only [List.mem_cons, List.not_mem_nil, or_false] at hpart
  simp [State.moverNoMember, hpart]

/-- The parts that `State.descPiece` leaves alone. -/
@[simp] theorem State.descPiece_get (m : Nat) (d : DescRun) (s : State) (part : Part) (hpart : part ∉ ([.nvm, .fabric, .memu, .choir, .mem, .fresh, .out] : List Part)) :
    (State.descPiece m d s).get part = s.get part := by
  simp only [List.mem_cons, List.not_mem_nil, or_false, not_or] at hpart
  unfold State.descPiece
  dsimp only
  (repeat' split) <;> simp [*]

/-- The parts that `State.runDesc` leaves alone. -/
@[simp] theorem State.runDesc_get (x0 : Nat) (x1 : Nat) (x2 : Nat) (x3 : State) (part : Part) (hpart : part ∉ ([.nvm, .fabric, .memu, .choir, .mem, .fresh, .out] : List Part)) :
    (State.runDesc x0 x1 x2 x3).get part = x3.get part := by
  simp only [List.mem_cons, List.not_mem_nil, or_false, not_or] at hpart
  induction x0 generalizing x3 <;> unfold State.runDesc <;> (try dsimp only) <;> (repeat' split) <;> simp_all

/-- The parts that `State.startDesc` leaves alone. -/
@[simp] theorem State.startDesc_get (m : Nat) (i : Nat) (a : Nat) (b : List Byte) (s : State) (part : Part) (hpart : part ∉ ([.nvm, .fabric, .memu, .choir, .mem, .fresh, .out] : List Part)) :
    (State.startDesc m i a b s).get part = s.get part := by
  simp only [List.mem_cons, List.not_mem_nil, or_false, not_or] at hpart
  simp [State.startDesc, hpart]

/-- The parts that `State.moverIrq` leaves alone. -/
@[simp] theorem State.moverIrq_get (m : Nat) (s : State) (part : Part) (hpart : part ∉ ([.memu, .out] : List Part)) :
    (State.moverIrq m s).get part = s.get part := by
  simp only [List.mem_cons, List.not_mem_nil, or_false, not_or] at hpart
  simp [State.moverIrq, hpart]

/-- The parts that `State.moverPost` leaves alone. -/
@[simp] theorem State.moverPost_get (m : Nat) (s : State) (part : Part) (hpart : part ∉ ([.nvm, .queue, .memu, .od, .mem, .fresh, .out] : List Part)) :
    (State.moverPost m s).get part = s.get part := by
  simp only [List.mem_cons, List.not_mem_nil, or_false, not_or] at hpart
  unfold State.moverPost
  split
  · rfl
  · split
    · rfl
    · rename_i hu
      have h := State.hwPush_get _ _ _ part (by simp [hpart]) _ hu
      dsimp only
      split <;> simp [hpart, h]

/-- The parts that `State.completeDesc` leaves alone. -/
@[simp] theorem State.completeDesc_get (m : Nat) (d : DescRun) (result : Nat) (kind : Nat) (s : State) (part : Part) (hpart : part ∉ ([.nvm, .queue, .memu, .choir, .od, .mem, .fresh, .out] : List Part)) :
    (State.completeDesc m d result kind s).get part = s.get part := by
  simp only [List.mem_cons, List.not_mem_nil, or_false, not_or] at hpart
  simp [State.completeDesc, hpart]

/-- The parts that `State.moverIdle` leaves alone. -/
@[simp] theorem State.moverIdle_get (m : Nat) (s : State) (part : Part) (hpart : part ∉ ([.memu] : List Part)) :
    (State.moverIdle m s).get part = s.get part := by
  simp only [List.mem_cons, List.not_mem_nil, or_false] at hpart
  simp [State.moverIdle, hpart]

/-- The parts that `State.abortAll` leaves alone. -/
@[simp] theorem State.abortAll_get (x0 : Nat) (x1 : Nat) (x2 : State) (part : Part) (hpart : part ∉ ([.nvm, .queue, .memu, .choir, .od, .mem, .fresh, .out] : List Part)) :
    (State.abortAll x0 x1 x2).get part = x2.get part := by
  simp only [List.mem_cons, List.not_mem_nil, or_false, not_or] at hpart
  induction x0 generalizing x2 <;> simp_all [State.abortAll]

/-- The parts that `State.readTimeLo` leaves alone. -/
@[simp] theorem State.readTimeLo_get (req : Nat) (s : State) (part : Part) (hpart : part ∉ ([.beat] : List Part)) :
    (State.readTimeLo req s).2.get part = s.get part := by
  simp only [List.mem_cons, List.not_mem_nil, or_false] at hpart
  simp [State.readTimeLo, hpart]

/-- The parts that `State.readBeatLo` leaves alone. -/
@[simp] theorem State.readBeatLo_get (req : Nat) (s : State) (part : Part) (hpart : part ∉ ([.beat] : List Part)) :
    (State.readBeatLo req s).2.get part = s.get part := by
  simp only [List.mem_cons, List.not_mem_nil, or_false] at hpart
  simp [State.readBeatLo, hpart]

/-- The parts that `State.endHoldover` leaves alone. -/
@[simp] theorem State.endHoldover_get (s : State) (part : Part) (hpart : part ∉ ([.comm, .oap, .nvm, .out] : List Part)) :
    (State.endHoldover s).get part = s.get part := by
  simp only [List.mem_cons, List.not_mem_nil, or_false, not_or] at hpart
  simp [State.endHoldover, hpart]

/-- The parts that `State.wantIngest` leaves alone. -/
@[simp] theorem State.wantIngest_get (s : State) (part : Part) (hpart : part ∉ ([.beat] : List Part)) :
    (State.wantIngest s).get part = s.get part := by
  simp only [List.mem_cons, List.not_mem_nil, or_false] at hpart
  simp [State.wantIngest, hpart]

/-- The parts that `State.stopIngest` leaves alone. -/
@[simp] theorem State.stopIngest_get (s : State) (part : Part) (hpart : part ∉ ([.beat] : List Part)) :
    (State.stopIngest s).get part = s.get part := by
  simp only [List.mem_cons, List.not_mem_nil, or_false] at hpart
  simp [State.stopIngest, hpart]

/-- The parts that `State.idled` leaves alone. -/
@[simp] theorem State.idled_get (s : State) (part : Part) (hpart : part ∉ ([.power] : List Part)) :
    (State.idled s).get part = s.get part := by
  simp only [List.mem_cons, List.not_mem_nil, or_false] at hpart
  simp [State.idled, hpart]

/-- The parts that `State.haltIngest` leaves alone. -/
@[simp] theorem State.haltIngest_get (s : State) (part : Part) (hpart : part ∉ ([.beat] : List Part)) :
    (State.haltIngest s).get part = s.get part := by
  simp only [List.mem_cons, List.not_mem_nil, or_false] at hpart
  simp [State.haltIngest, hpart]

/-- The parts that `State.lock` leaves alone. -/
@[simp] theorem State.lock_get (slew : Bool) (s : State) (part : Part) (hpart : part ∉ ([.beat, .comm, .oap, .nvm, .out] : List Part)) :
    (State.lock slew s).get part = s.get part := by
  simp only [List.mem_cons, List.not_mem_nil, or_false, not_or] at hpart
  simp [State.lock, hpart]

/-- The parts that `State.toHoldover` leaves alone. -/
@[simp] theorem State.toHoldover_get (run : List Nat) (s : State) (part : Part) (hpart : part ∉ ([.beat, .comm, .oap, .nvm, .od, .out] : List Part)) :
    (State.toHoldover run s).get part = s.get part := by
  simp only [List.mem_cons, List.not_mem_nil, or_false, not_or] at hpart
  simp [State.toHoldover, hpart]

/-- The parts that `State.limitReached` leaves alone. -/
@[simp] theorem State.limitReached_get (s : State) (part : Part) (hpart : part ∉ ([.beat, .comm, .oap, .nvm, .out] : List Part)) :
    (State.limitReached s).get part = s.get part := by
  simp only [List.mem_cons, List.not_mem_nil, or_false, not_or] at hpart
  simp [State.limitReached, hpart]

/-- The parts that `State.measure` leaves alone. -/
@[simp] theorem State.measure_get (stamp : Nat) (s : State) (part : Part) (hpart : part ∉ ([.beat] : List Part)) :
    (State.measure stamp s).get part = s.get part := by
  simp only [List.mem_cons, List.not_mem_nil, or_false] at hpart
  simp [State.measure, hpart]

/-- The parts that `State.adoptRate` leaves alone. -/
@[simp] theorem State.adoptRate_get (s : State) (part : Part) (hpart : part ∉ ([.beat, .comm, .oap, .nvm, .od, .out] : List Part)) :
    (State.adoptRate s).get part = s.get part := by
  simp only [List.mem_cons, List.not_mem_nil, or_false, not_or] at hpart
  simp [State.adoptRate, hpart]

/-- The parts that `State.edgeActs` leaves alone. -/
@[simp] theorem State.edgeActs_get (stamp : Nat) (i : Nat) (s : State) (part : Part) (hpart : part ∉ ([.beat, .comm, .oap, .nvm, .od, .out] : List Part)) :
    (State.edgeActs stamp i s).get part = s.get part := by
  simp only [List.mem_cons, List.not_mem_nil, or_false, not_or] at hpart
  simp [State.edgeActs, hpart]

/-- The parts that `State.syncEdge` leaves alone. -/
@[simp] theorem State.syncEdge_get (stamp : Nat) (s : State) (part : Part) (hpart : part ∉ ([.beat, .comm, .oap, .nvm, .od, .out] : List Part)) :
    (State.syncEdge stamp s).get part = s.get part := by
  simp only [List.mem_cons, List.not_mem_nil, or_false, not_or] at hpart
  unfold State.syncEdge
  (repeat' split) <;> simp [*]

/-- The parts that `State.limitBefore` leaves alone. -/
@[simp] theorem State.limitBefore_get (stamp : Nat) (s : State) (part : Part) (hpart : part ∉ ([.beat, .comm, .oap, .nvm, .out] : List Part)) :
    (State.limitBefore stamp s).get part = s.get part := by
  simp only [List.mem_cons, List.not_mem_nil, or_false, not_or] at hpart
  unfold State.limitBefore
  (repeat' split) <;> simp [*]

/-- The parts that `State.sourceTo` leaves alone. -/
@[simp] theorem State.sourceTo_get (src : BeatSource) (s : State) (part : Part) (hpart : part ∉ ([.beat, .comm, .oap, .nvm, .out] : List Part)) :
    (State.sourceTo src s).get part = s.get part := by
  simp only [List.mem_cons, List.not_mem_nil, or_false, not_or] at hpart
  unfold State.sourceTo
  (repeat' split) <;> simp [*]

/-- The parts that `State.periodInForce` leaves alone. -/
@[simp] theorem State.periodInForce_get (s : State) (part : Part) (hpart : part ∉ ([.beat] : List Part)) :
    (State.periodInForce s).get part = s.get part := by
  simp only [List.mem_cons, List.not_mem_nil, or_false] at hpart
  unfold State.periodInForce
  (repeat' split) <;> simp [*]

end Sys2Proof.Machine
end

