-- ==== Sys2Proof/Laws/Frame3.lean ====
section
/-! SUPPORT. The parts of the state that each shared operation leaves alone: images, Choir Link, the networks, boot, power and the registers. Each lemma
names the parts its operation may change; every other part is the same after it. -/

namespace Sys2Proof.Machine

/-- The parts that `State.setSlot` leaves alone. -/
@[simp] theorem State.setSlot_get (k : Nat) (v : SlotSt) (x2 : State) (part : Part) (hpart : part ∉ ([.nvm] : List Part)) :
    (State.setSlot k v x2).get part = x2.get part := by
  simp only [List.mem_cons, List.not_mem_nil, or_false] at hpart
  simp [State.setSlot, hpart]

/-- The parts that `State.loadCore` leaves alone. -/
@[simp] theorem State.loadCore_get (c : Nat) (l : List Byte) (s : State) (part : Part) (hpart : part ∉ ([.comm, .oap, .nvm, .fabric, .memu, .regs, .mem, .out] : List Part)) :
    (State.loadCore c l s).get part = s.get part := by
  simp only [List.mem_cons, List.not_mem_nil, or_false, not_or] at hpart
  simp [State.loadCore, hpart]

/-- The parts that `State.loadRouter` leaves alone. -/
@[simp] theorem State.loadRouter_get (t : Nat) (l : List Byte) (s : State) (i : Nat) (part : Part) (hpart : part ∉ ([.fabric] : List Part)) :
    (State.loadRouter t l s i).get part = s.get part := by
  simp only [List.mem_cons, List.not_mem_nil, or_false] at hpart
  simp [State.loadRouter, hpart]

/-- The parts that `State.loadRouters` leaves alone. -/
@[simp] theorem State.loadRouters_get (t : Nat) (l : List Byte) (s : State) (part : Part) (hpart : part ∉ ([.fabric] : List Part)) :
    (State.loadRouters t l s).get part = s.get part := by
  simp only [List.mem_cons, List.not_mem_nil, or_false] at hpart
  simp [State.loadRouters, hpart]

/-- The parts that `State.loadPress` leaves alone. -/
@[simp] theorem State.loadPress_get (t : Nat) (l : List Byte) (s : State) (part : Part) (hpart : part ∉ ([.press] : List Part)) :
    (State.loadPress t l s).get part = s.get part := by
  simp only [List.mem_cons, List.not_mem_nil, or_false] at hpart
  simp [State.loadPress, hpart]

/-- The parts that `State.loadBlend` leaves alone. -/
@[simp] theorem State.loadBlend_get (l : List Byte) (s : State) (part : Part) (hpart : part ∉ ([.press] : List Part)) :
    (State.loadBlend l s).get part = s.get part := by
  simp only [List.mem_cons, List.not_mem_nil, or_false] at hpart
  simp [State.loadBlend, hpart]

/-- The parts that `State.loadUnits` leaves alone. -/
@[simp] theorem State.loadUnits_get (b : List Byte) (s : State) (part : Part) (hpart : part ∉ ([.comm, .oap, .nvm, .fabric, .press, .memu, .regs, .mem, .out] : List Part)) :
    (State.loadUnits b s).get part = s.get part := by
  simp only [List.mem_cons, List.not_mem_nil, or_false, not_or] at hpart
  simp [State.loadUnits, hpart]

/-- The parts that `State.loadCellar` leaves alone. -/
@[simp] theorem State.loadCellar_get (b : List Byte) (s : State) (part : Part) (hpart : part ∉ ([.memu, .choir, .mem, .fresh, .out] : List Part)) :
    (State.loadCellar b s).get part = s.get part := by
  simp only [List.mem_cons, List.not_mem_nil, or_false, not_or] at hpart
  simp [State.loadCellar, hpart]

/-- The parts that `State.ungateNamed` leaves alone. -/
@[simp] theorem State.ungateNamed_get (b : List Byte) (s : State) (part : Part) (hpart : part ∉ ([.power] : List Part)) :
    (State.ungateNamed b s).get part = s.get part := by
  simp only [List.mem_cons, List.not_mem_nil, or_false] at hpart
  simp [State.ungateNamed, hpart]

/-- The parts that `State.loadImage` leaves alone. -/
@[simp] theorem State.loadImage_get (b : List Byte) (s : State) (part : Part) (hpart : part ∉ ([.comm, .oap, .nvm, .fabric, .press, .memu, .choir, .power, .regs, .mem, .fresh, .out] : List Part)) :
    (State.loadImage b s).get part = s.get part := by
  simp only [List.mem_cons, List.not_mem_nil, or_false, not_or] at hpart
  simp [State.loadImage, hpart]

/-- The parts that `State.trial` leaves alone. -/
@[simp] theorem State.trial_get (b : List Byte) (s : State) (part : Part) (hpart : part ∉ ([.fabric, .power] : List Part)) :
    (State.trial b s).get part = s.get part := by
  simp only [List.mem_cons, List.not_mem_nil, or_false, not_or] at hpart
  simp [State.trial, hpart]

/-- The parts that `State.installFail` leaves alone. -/
@[simp] theorem State.installFail_get (code : Nat) (s : State) (part : Part) (hpart : part ∉ ([.nvm] : List Part)) :
    (State.installFail code s).get part = s.get part := by
  simp only [List.mem_cons, List.not_mem_nil, or_false] at hpart
  unfold State.installFail
  (repeat' split) <;> simp [*]

/-- The parts that `State.installBegin` leaves alone. -/
@[simp] theorem State.installBegin_get (s : State) (part : Part) (hpart : part ∉ ([.nvm, .memu, .od, .mem] : List Part)) :
    (State.installBegin s).2.get part = s.get part := by
  simp only [List.mem_cons, List.not_mem_nil, or_false, not_or] at hpart
  simp [State.installBegin, hpart]

/-- The parts that `State.installData` leaves alone. -/
@[simp] theorem State.installData_get (data : List Byte) (s : State) (part : Part) (hpart : part ∉ ([.nvm, .memu, .od, .mem] : List Part)) :
    (State.installData data s).2.get part = s.get part := by
  simp only [List.mem_cons, List.not_mem_nil, or_false, not_or] at hpart
  unfold State.installData
  (repeat' split) <;> simp [*]

/-- The parts that `State.installCommit` leaves alone. -/
@[simp] theorem State.installCommit_get (who : StoreFor) (s : State) (part : Part) (hpart : part ∉ ([.nvm] : List Part)) :
    (State.installCommit who s).2.get part = s.get part := by
  simp only [List.mem_cons, List.not_mem_nil, or_false] at hpart
  unfold State.installCommit
  (repeat' split) <;> simp [*]

/-- The parts that `State.writeTrailer` leaves alone. -/
@[simp] theorem State.writeTrailer_get (k : Nat) (s : State) (part : Part) (hpart : part ∉ ([.memu, .mem] : List Part)) :
    (State.writeTrailer k s).get part = s.get part := by
  simp only [List.mem_cons, List.not_mem_nil, or_false, not_or] at hpart
  simp [State.writeTrailer, hpart]

/-- The parts that `State.commitFail` leaves alone. -/
@[simp] theorem State.commitFail_get (code : Nat) (s : State) (part : Part) (hpart : part ∉ ([.oap, .nvm, .choir, .out] : List Part)) :
    (State.commitFail code s).get part = s.get part := by
  simp only [List.mem_cons, List.not_mem_nil, or_false, not_or] at hpart
  simp [State.commitFail, hpart]

/-- The parts that `State.commitEnd` leaves alone. -/
@[simp] theorem State.commitEnd_get (ok : Bool) (s : State) (part : Part) (hpart : part ∉ ([.oap, .nvm, .memu, .choir, .mem, .out] : List Part)) :
    (State.commitEnd ok s).get part = s.get part := by
  simp only [List.mem_cons, List.not_mem_nil, or_false, not_or] at hpart
  unfold State.commitEnd
  (repeat' split) <;> simp [*]

/-- The parts that `State.installAbort` leaves alone. -/
@[simp] theorem State.installAbort_get (s : State) (part : Part) (hpart : part ∉ ([.oap, .nvm, .choir, .out] : List Part)) :
    (State.installAbort s).2.get part = s.get part := by
  simp only [List.mem_cons, List.not_mem_nil, or_false, not_or] at hpart
  unfold State.installAbort
  dsimp only
  (repeat' split) <;> simp [*]

/-- The parts that `State.switchPend` leaves alone. -/
@[simp] theorem State.switchPend_get (era : Option Nat) (s : State) (part : Part) (hpart : part ∉ ([.nvm, .choir] : List Part)) :
    (State.switchPend era s).get part = s.get part := by
  simp only [List.mem_cons, List.not_mem_nil, or_false, not_or] at hpart
  simp [State.switchPend, hpart]

/-- The parts that `State.installActivate` leaves alone. -/
@[simp] theorem State.installActivate_get (who : StoreFor) (s : State) (part : Part) (hpart : part ∉ ([.nvm, .choir, .out] : List Part)) :
    (State.installActivate who s).2.get part = s.get part := by
  simp only [List.mem_cons, List.not_mem_nil, or_false, not_or] at hpart
  simp [State.installActivate, hpart]

/-- The parts that `State.switchTo` leaves alone. -/
@[simp] theorem State.switchTo_get (k : Nat) (ok : Bool) (s : State) (part : Part) (hpart : part ∉ ([.beat, .comm, .oap, .nvm, .memu, .choir, .power, .mem, .out] : List Part)) :
    (State.switchTo k ok s).get part = s.get part := by
  simp only [List.mem_cons, List.not_mem_nil, or_false, not_or] at hpart
  unfold State.switchTo
  dsimp only
  (repeat' split) <;> simp [*]

/-- The parts that `State.imageLoad` leaves alone. -/
@[simp] theorem State.imageLoad_get (s : State) (part : Part) (hpart : part ∉ ([.beat, .comm, .oap, .nvm, .ports, .fabric, .press, .memu, .choir, .zone, .power, .video, .od, .regs, .mem, .fresh, .out] : List Part)) :
    (State.imageLoad s).get part = s.get part := by
  simp only [List.mem_cons, List.not_mem_nil, or_false, not_or] at hpart
  unfold State.imageLoad
  (repeat' split) <;> simp [*]

/-- The parts that `State.pickSlot` leaves alone. -/
@[simp] theorem State.pickSlot_get (x0 : List Nat) (x1 : State) (part : Part) (hpart : part ∉ ([.nvm] : List Part)) :
    (State.pickSlot x0 x1).2.get part = x1.get part := by
  simp only [List.mem_cons, List.not_mem_nil, or_false] at hpart
  induction x0 generalizing x1 <;> simp_all [State.pickSlot]

/-- The parts that `State.bootImage` leaves alone. -/
@[simp] theorem State.bootImage_get (s : State) (part : Part) (hpart : part ∉ ([.comm, .oap, .nvm, .fabric, .press, .memu, .choir, .power, .regs, .mem, .fresh, .out] : List Part)) :
    (State.bootImage s).get part = s.get part := by
  simp only [List.mem_cons, List.not_mem_nil, or_false, not_or] at hpart
  unfold State.bootImage
  try dsimp only
  repeat' split
  all_goals try simp [hpart]
  all_goals try (rename_i heq; have hv := congrArg Prod.snd heq; dsimp only at hv; subst hv; simp [hpart])
  all_goals try refine (State.get_foldl _ _ _ _ (fun _ _ => ?_)).trans ?_
  all_goals try (repeat' split)
  all_goals try simp [hpart]
  all_goals try refine (State.get_foldl _ _ _ _ (fun _ _ => ?_)).trans ?_
  all_goals try (repeat' split)
  all_goals simp [hpart]

/-- The parts that `State.announceTo` leaves alone. -/
@[simp] theorem State.announceTo_get (p : Nat) (dest : OapDest) (s : State) (part : Part) (hpart : part ∉ ([.fresh, .out] : List Part)) :
    (State.announceTo p dest s).get part = s.get part := by
  simp only [List.mem_cons, List.not_mem_nil, or_false, not_or] at hpart
  simp [State.announceTo, hpart]

/-- The parts that `State.announceOn` leaves alone. -/
@[simp] theorem State.announceOn_get (p : Nat) (s : State) (part : Part) (hpart : part ∉ ([.fresh, .out] : List Part)) :
    (State.announceOn p s).get part = s.get part := by
  simp only [List.mem_cons, List.not_mem_nil, or_false, not_or] at hpart
  simp [State.announceOn, hpart]

/-- The parts that `State.announceAll` leaves alone. -/
@[simp] theorem State.announceAll_get (s : State) (part : Part) (hpart : part ∉ ([.fresh, .out] : List Part)) :
    (State.announceAll s).get part = s.get part := by
  simp only [List.mem_cons, List.not_mem_nil, or_false, not_or] at hpart
  simp [State.announceAll, hpart]

/-- The parts that `State.sendHello` leaves alone. -/
@[simp] theorem State.sendHello_get (p : Nat) (s : State) (part : Part) (hpart : part ∉ ([.choir, .out] : List Part)) :
    (State.sendHello p s).get part = s.get part := by
  simp only [List.mem_cons, List.not_mem_nil, or_false, not_or] at hpart
  simp [State.sendHello, hpart]

/-- The parts that `State.replay` leaves alone. -/
@[simp] theorem State.replay_get (p : Nat) (s : State) (part : Part) (hpart : part ∉ ([.out] : List Part)) :
    (State.replay p s).get part = s.get part := by
  simp only [List.mem_cons, List.not_mem_nil, or_false] at hpart
  simp [State.replay, hpart]

/-- The parts that `State.clDown` leaves alone. -/
@[simp] theorem State.clDown_get (p : Nat) (s : State) (part : Part) (hpart : part ∉ ([.choir, .out] : List Part)) :
    (State.clDown p s).get part = s.get part := by
  simp only [List.mem_cons, List.not_mem_nil, or_false, not_or] at hpart
  simp [State.clDown, hpart]

/-- The parts that `State.sendNak` leaves alone. -/
@[simp] theorem State.sendNak_get (p : Nat) (s : State) (part : Part) (hpart : part ∉ ([.out] : List Part)) :
    (State.sendNak p s).get part = s.get part := by
  simp only [List.mem_cons, List.not_mem_nil, or_false] at hpart
  simp [State.sendNak, hpart]

/-- The parts that `State.linkTerm` leaves alone. -/
@[simp] theorem State.linkTerm_get (target : Nat) (f : LinkTerms → LinkTerms) (x2 : State) (part : Part) (hpart : part ∉ ([.choir] : List Part)) :
    (State.linkTerm target f x2).get part = x2.get part := by
  simp only [List.mem_cons, List.not_mem_nil, or_false] at hpart
  simp [State.linkTerm, hpart]

/-- The parts that `State.linkDropped` leaves alone. -/
@[simp] theorem State.linkDropped_get (target : Nat) (n : Nat) (x2 : State) (part : Part) (hpart : part ∉ ([.choir] : List Part)) :
    (State.linkDropped target n x2).get part = x2.get part := by
  simp only [List.mem_cons, List.not_mem_nil, or_false] at hpart
  simp [State.linkDropped, hpart]

/-- The parts that `State.linkShedTerm` leaves alone. -/
@[simp] theorem State.linkShedTerm_get (target : Nat) (n : Nat) (x2 : State) (part : Part) (hpart : part ∉ ([.choir] : List Part)) :
    (State.linkShedTerm target n x2).get part = x2.get part := by
  simp only [List.mem_cons, List.not_mem_nil, or_false] at hpart
  simp [State.linkShedTerm, hpart]

/-- The parts that `State.exportDone` leaves alone. -/
@[simp] theorem State.exportDone_get (last : Bool) (f : Flit) (s : State) (part : Part) (hpart : part ∉ ([.fabric] : List Part)) :
    (State.exportDone last f s).get part = s.get part := by
  simp only [List.mem_cons, List.not_mem_nil, or_false] at hpart
  simp [State.exportDone, hpart]

/-- The parts that `State.drainOne` leaves alone. -/
theorem State.drainOne_get (s : State) (part : Part) (hpart : part ∉ ([.fabric, .choir, .out] : List Part)) :
    ∀ t, State.drainOne s = some t → t.get part = s.get part := by
  simp only [List.mem_cons, List.not_mem_nil, or_false, not_or] at hpart
  intro t ht
  simp only [State.drainOne] at ht
  (repeat' split at ht) <;> simp_all <;> (obtain rfl := ht) <;> simp [hpart]

/-- The parts that `State.drainN` leaves alone. -/
@[simp] theorem State.drainN_get (x0 : Nat) (x1 : State) (part : Part) (hpart : part ∉ ([.fabric, .choir, .out] : List Part)) :
    (State.drainN x0 x1).get part = x1.get part := by
  simp only [List.mem_cons, List.not_mem_nil, or_false, not_or] at hpart
  induction x0 generalizing x1 with
  | zero => rfl
  | succ k ih =>
    unfold State.drainN
    split
    · rfl
    · rename_i u hu
      rw [ih, State.drainOne_get _ part (by simp [hpart]) _ hu]

/-- The parts that `State.drainExports` leaves alone. -/
@[simp] theorem State.drainExports_get (s : State) (part : Part) (hpart : part ∉ ([.fabric, .choir, .out] : List Part)) :
    (State.drainExports s).get part = s.get part := by
  simp only [List.mem_cons, List.not_mem_nil, or_false, not_or] at hpart
  simp [State.drainExports, hpart]

/-- The parts that `State.gatewayCopies` leaves alone. -/
@[simp] theorem State.gatewayCopies_get (f : Flit) (ds : List Nat) (s : State) (part : Part) (hpart : part ∉ ([.fabric, .choir, .od] : List Part)) :
    (State.gatewayCopies f ds s).get part = s.get part := by
  simp only [List.mem_cons, List.not_mem_nil, or_false, not_or] at hpart
  simp [State.gatewayCopies, hpart]

/-- The parts that `State.gatewayAccept` leaves alone. -/
@[simp] theorem State.gatewayAccept_get (f : Flit) (s : State) (part : Part) (hpart : part ∉ ([.fabric, .choir, .od] : List Part)) :
    (State.gatewayAccept f s).get part = s.get part := by
  simp only [List.mem_cons, List.not_mem_nil, or_false, not_or] at hpart
  unfold State.gatewayAccept
  (repeat' split) <;> simp [*]

/-- The parts that `State.gatewayStep` leaves alone. -/
@[simp] theorem State.gatewayStep_get (before : Nat) (s : State) (part : Part) (hpart : part ∉ ([.fabric, .choir, .od, .out] : List Part)) :
    (State.gatewayStep before s).get part = s.get part := by
  simp only [List.mem_cons, List.not_mem_nil, or_false, not_or] at hpart
  simp [State.gatewayStep, hpart]

/-- The parts that `State.linkTaken` leaves alone. -/
@[simp] theorem State.linkTaken_get (v : LinkVia) (s : State) (part : Part) (hpart : part ∉ ([.choir] : List Part)) :
    (State.linkTaken v s).get part = s.get part := by
  simp only [List.mem_cons, List.not_mem_nil, or_false] at hpart
  simp [State.linkTaken, hpart]

/-- The parts that `State.partialsOff` leaves alone. -/
@[simp] theorem State.partialsOff_get (v : LinkVia) (s : State) (part : Part) (hpart : part ∉ ([.choir] : List Part)) :
    (State.partialsOff v s).get part = s.get part := by
  simp only [List.mem_cons, List.not_mem_nil, or_false] at hpart
  simp [State.partialsOff, hpart]

/-- The parts that `State.segmentIn` leaves alone. -/
@[simp] theorem State.segmentIn_get (v : LinkVia) (segs : Nat) (act : State → State) (s : State) (part : Part) (hact : ∀ y0, (act y0).get part = y0.get part) (hpart : part ∉ ([.choir, .od] : List Part)) :
    (State.segmentIn v segs act s).get part = s.get part := by
  simp only [List.mem_cons, List.not_mem_nil, or_false, not_or] at hpart
  unfold State.segmentIn
  dsimp only
  (repeat' split) <;> simp [*]

/-- The parts that `State.passOn` leaves alone. -/
@[simp] theorem State.passOn_get (f : LinkFrame) (p : Nat) (s : State) (part : Part) (hpart : part ∉ ([.choir] : List Part)) :
    (State.passOn f p s).get part = s.get part := by
  simp only [List.mem_cons, List.not_mem_nil, or_false] at hpart
  simp [State.passOn, hpart]

/-- The parts that `State.bcastNote` leaves alone. -/
@[simp] theorem State.bcastNote_get (v : LinkVia) (s : State) (part : Part) (hpart : part ∉ ([.choir] : List Part)) :
    (State.bcastNote v s).get part = s.get part := by
  simp only [List.mem_cons, List.not_mem_nil, or_false] at hpart
  unfold State.bcastNote
  split <;> simp [hpart]

/-- The parts that `State.linkDeliver` leaves alone. -/
@[simp] theorem State.linkDeliver_get (v : LinkVia) (cls : Nat) (segs : Nat) (act : State → State) (s : State) (part : Part) (hact : ∀ y0, (act y0).get part = y0.get part) (hpart : part ∉ ([.choir, .od] : List Part)) :
    (State.linkDeliver v cls segs act s).get part = s.get part := by
  simp only [List.mem_cons, List.not_mem_nil, or_false, not_or] at hpart
  unfold State.linkDeliver
  (repeat' split) <;> simp [hpart, *]

/-- The parts that `State.linkPassed` leaves alone. -/
@[simp] theorem State.linkPassed_get (v : LinkVia) (f : LinkFrame) (s : State) (part : Part) (hpart : part ∉ ([.choir] : List Part)) :
    (State.linkPassed v f s).get part = s.get part := by
  simp only [List.mem_cons, List.not_mem_nil, or_false] at hpart
  unfold State.linkPassed
  dsimp only
  (repeat' split) <;> simp [hpart]

/-- The parts that `State.linkFrame` leaves alone. -/
@[simp] theorem State.linkFrame_get (v : LinkVia) (f : LinkFrame) (segs : Nat) (act : State → State) (s : State) (part : Part) (hact : ∀ y0, (act y0).get part = y0.get part) (hpart : part ∉ ([.fabric, .choir, .od, .out] : List Part)) :
    (State.linkFrame v f segs act s).get part = s.get part := by
  simp only [List.mem_cons, List.not_mem_nil, or_false, not_or] at hpart
  simp [State.linkFrame, hpart, *]

/-- The parts that `State.linkIn` leaves alone. -/
@[simp] theorem State.linkIn_get (v : LinkVia) (kind : Nat) (msg : List Byte) (act : State → State) (x4 : State) (part : Part) (hact : ∀ y0, (act y0).get part = y0.get part) (hpart : part ∉ ([.fabric, .choir, .od, .out] : List Part)) :
    (State.linkIn v kind msg act x4).get part = x4.get part := by
  simp only [List.mem_cons, List.not_mem_nil, or_false, not_or] at hpart
  simp [State.linkIn, hpart, *]

/-- The parts that `State.importDone` leaves alone. -/
@[simp] theorem State.importDone_get (e : Import) (s : State) (part : Part) (hpart : part ∉ ([.choir] : List Part)) :
    (State.importDone e s).get part = s.get part := by
  simp only [List.mem_cons, List.not_mem_nil, or_false] at hpart
  unfold State.importDone
  (repeat' split) <;> simp [*]

/-- The parts that `State.dropImports` leaves alone. -/
@[simp] theorem State.dropImports_get (s : State) (part : Part) (hpart : part ∉ ([.choir, .out] : List Part)) :
    (State.dropImports s).get part = s.get part := by
  simp only [List.mem_cons, List.not_mem_nil, or_false, not_or] at hpart
  simp [State.dropImports, hpart]

/-- The parts that `State.purgeGateway` leaves alone. -/
@[simp] theorem State.purgeGateway_get (n : Nat) (c : Nat) (s : State) (part : Part) (hpart : part ∉ ([.beat, .comm, .oap, .nvm, .fabric, .choir, .power, .od, .out] : List Part)) :
    (State.purgeGateway n c s).get part = s.get part := by
  simp only [List.mem_cons, List.not_mem_nil, or_false, not_or] at hpart
  simp [State.purgeGateway, hpart]

/-- The parts that `State.dropExports` leaves alone. -/
@[simp] theorem State.dropExports_get (id : Nat) (s : State) (part : Part) (hpart : part ∉ ([.fabric, .choir, .od] : List Part)) :
    (State.dropExports id s).get part = s.get part := by
  simp only [List.mem_cons, List.not_mem_nil, or_false, not_or] at hpart
  simp [State.dropExports, hpart]

/-- The parts that `State.requestLost` leaves alone. -/
@[simp] theorem State.requestLost_get (r : RemoteReq) (s : State) (part : Part) (hpart : part ∉ ([.memu, .out] : List Part)) :
    (State.requestLost r s).get part = s.get part := by
  simp only [List.mem_cons, List.not_mem_nil, or_false, not_or] at hpart
  unfold State.requestLost
  (repeat' split) <;> simp [*]

/-- The parts that `State.fencesPartial` leaves alone. -/
@[simp] theorem State.fencesPartial_get (cs : List Nat) (s : State) (part : Part) (hpart : part ∉ ([.memu, .out] : List Part)) :
    (State.fencesPartial cs s).get part = s.get part := by
  simp only [List.mem_cons, List.not_mem_nil, or_false, not_or] at hpart
  simp [State.fencesPartial, hpart]

/-- The parts that `State.descsPartial` leaves alone. -/
@[simp] theorem State.descsPartial_get (id : Nat) (s : State) (part : Part) (hpart : part ∉ ([.memu] : List Part)) :
    (State.descsPartial id s).get part = s.get part := by
  simp only [List.mem_cons, List.not_mem_nil, or_false] at hpart
  simp [State.descsPartial, hpart]

/-- The parts that `State.viaRespond` leaves alone. -/
@[simp] theorem State.viaRespond_get (f : Nat × Nat × BitVec 64 × BitVec 32 × Nat) (code : Nat) (data : List Byte) (s : State) (part : Part) (hpart : part ∉ ([.oap, .out] : List Part)) :
    (State.viaRespond f code data s).get part = s.get part := by
  simp only [List.mem_cons, List.not_mem_nil, or_false, not_or] at hpart
  simp [State.viaRespond, hpart]

/-- The parts that `State.failForwards` leaves alone. -/
@[simp] theorem State.failForwards_get (id : Nat) (s : State) (part : Part) (hpart : part ∉ ([.oap, .out] : List Part)) :
    (State.failForwards id s).get part = s.get part := by
  simp only [List.mem_cons, List.not_mem_nil, or_false, not_or] at hpart
  simp [State.failForwards, hpart]

/-- The parts that `State.cutOff` leaves alone. -/
@[simp] theorem State.cutOff_get (id : Nat) (s : State) (part : Part) (hpart : part ∉ ([.oap, .fabric, .memu, .choir, .od, .mem, .fresh, .out] : List Part)) :
    (State.cutOff id s).get part = s.get part := by
  simp only [List.mem_cons, List.not_mem_nil, or_false, not_or] at hpart
  simp [State.cutOff, hpart]

/-- The parts that `State.sendMembership` leaves alone. -/
@[simp] theorem State.sendMembership_get (c : MemberChange) (s : State) (part : Part) (hpart : part ∉ ([.choir, .out] : List Part)) :
    (State.sendMembership c s).get part = s.get part := by
  simp only [List.mem_cons, List.not_mem_nil, or_false, not_or] at hpart
  simp [State.sendMembership, hpart]

/-- The parts that `State.announceChange` leaves alone. -/
@[simp] theorem State.announceChange_get (serials : List Nat) (offsets : List Int) (s : State) (part : Part) (hpart : part ∉ ([.choir, .out] : List Part)) :
    (State.announceChange serials offsets s).get part = s.get part := by
  simp only [List.mem_cons, List.not_mem_nil, or_false, not_or] at hpart
  simp [State.announceChange, hpart]

/-- The parts that `State.followerHoldover` leaves alone. -/
@[simp] theorem State.followerHoldover_get (s : State) (part : Part) (hpart : part ∉ ([.beat, .comm, .oap, .nvm, .choir, .out] : List Part)) :
    (State.followerHoldover s).get part = s.get part := by
  simp only [List.mem_cons, List.not_mem_nil, or_false, not_or] at hpart
  simp [State.followerHoldover, hpart]

/-- The parts that `State.takeOver` leaves alone. -/
@[simp] theorem State.takeOver_get (s : State) (part : Part) (hpart : part ∉ ([.nvm, .choir, .fresh, .out] : List Part)) :
    (State.takeOver s).get part = s.get part := by
  simp only [List.mem_cons, List.not_mem_nil, or_false, not_or] at hpart
  simp [State.takeOver, hpart]

/-- The parts that `State.departs` leaves alone. -/
@[simp] theorem State.departs_get (id : Nat) (cause : Nat) (s : State) (part : Part) (hpart : part ∉ ([.beat, .comm, .oap, .nvm, .fabric, .memu, .choir, .od, .mem, .fresh, .out] : List Part)) :
    (State.departs id cause s).get part = s.get part := by
  simp only [List.mem_cons, List.not_mem_nil, or_false, not_or] at hpart
  simp [State.departs, hpart]

/-- The parts that `State.formChoir` leaves alone. -/
@[simp] theorem State.formChoir_get (s : State) (part : Part) (hpart : part ∉ ([.choir, .fresh, .out] : List Part)) :
    (State.formChoir s).get part = s.get part := by
  simp only [List.mem_cons, List.not_mem_nil, or_false, not_or] at hpart
  simp [State.formChoir, hpart]

/-- The parts that `State.dropForwarded` leaves alone. -/
@[simp] theorem State.dropForwarded_get (s : State) (part : Part) (hpart : part ∉ ([.oap] : List Part)) :
    (State.dropForwarded s).get part = s.get part := by
  simp only [List.mem_cons, List.not_mem_nil, or_false] at hpart
  simp [State.dropForwarded, hpart]

/-- The parts that `State.leaveFor` leaves alone. -/
@[simp] theorem State.leaveFor_get (prec : Nat) (s : State) (part : Part) (hpart : part ∉ ([.comm, .oap, .nvm, .fabric, .memu, .choir, .od, .mem, .fresh, .out] : List Part)) :
    (State.leaveFor prec s).get part = s.get part := by
  simp only [List.mem_cons, List.not_mem_nil, or_false, not_or] at hpart
  simp [State.leaveFor, hpart]

/-- The parts that `State.meet` leaves alone. -/
@[simp] theorem State.meet_get (h : HelloMsg) (s : State) (part : Part) (hpart : part ∉ ([.comm, .oap, .nvm, .fabric, .memu, .choir, .od, .mem, .fresh, .out] : List Part)) :
    (State.meet h s).get part = s.get part := by
  simp only [List.mem_cons, List.not_mem_nil, or_false, not_or] at hpart
  simp [State.meet, hpart]

/-- The parts that `State.takeHello` leaves alone. -/
@[simp] theorem State.takeHello_get (p : Nat) (h : HelloMsg) (s : State) (part : Part) (hpart : part ∉ ([.comm, .oap, .nvm, .fabric, .memu, .choir, .od, .mem, .fresh, .out] : List Part)) :
    (State.takeHello p h s).get part = s.get part := by
  simp only [List.mem_cons, List.not_mem_nil, or_false, not_or] at hpart
  simp [State.takeHello, hpart]

/-- The parts that `State.helloPort` leaves alone. -/
@[simp] theorem State.helloPort_get (p : Nat) (s : State) (part : Part) (hpart : part ∉ ([.choir, .od, .out] : List Part)) :
    (State.helloPort p s).get part = s.get part := by
  simp only [List.mem_cons, List.not_mem_nil, or_false, not_or] at hpart
  unfold State.helloPort
  (repeat' split) <;> simp [*]

/-- The parts that `State.chase` leaves alone. -/
@[simp] theorem State.chase_get (p : Nat) (e : Int) (r : Int) (s : State) (part : Part) (hpart : part ∉ ([.beat, .choir] : List Part)) :
    (State.chase p e r s).get part = s.get part := by
  simp only [List.mem_cons, List.not_mem_nil, or_false, not_or] at hpart
  simp [State.chase, hpart]

/-- The parts that `State.takeFrame` leaves alone. -/
@[simp] theorem State.takeFrame_get (b : BeatMsg) (s : State) (part : Part) (hpart : part ∉ ([.choir] : List Part)) :
    (State.takeFrame b s).get part = s.get part := by
  simp only [List.mem_cons, List.not_mem_nil, or_false] at hpart
  simp [State.takeFrame, hpart]

/-- The parts that `State.alignFrame` leaves alone. -/
@[simp] theorem State.alignFrame_get (b : BeatMsg) (s : State) (part : Part) (hpart : part ∉ ([.beat, .choir, .out] : List Part)) :
    (State.alignFrame b s).get part = s.get part := by
  simp only [List.mem_cons, List.not_mem_nil, or_false, not_or] at hpart
  simp [State.alignFrame, hpart]

/-- The parts that `State.refollow` leaves alone. -/
@[simp] theorem State.refollow_get (s : State) (part : Part) (hpart : part ∉ ([.beat, .comm, .oap, .nvm, .choir, .out] : List Part)) :
    (State.refollow s).get part = s.get part := by
  simp only [List.mem_cons, List.not_mem_nil, or_false, not_or] at hpart
  simp [State.refollow, hpart]

/-- The parts that `State.followFrame` leaves alone. -/
@[simp] theorem State.followFrame_get (b : BeatMsg) (s : State) (part : Part) (hpart : part ∉ ([.beat, .comm, .oap, .nvm, .choir, .out] : List Part)) :
    (State.followFrame b s).get part = s.get part := by
  simp only [List.mem_cons, List.not_mem_nil, or_false, not_or] at hpart
  simp [State.followFrame, hpart]

/-- The parts that `State.fabricFlag` leaves alone. -/
@[simp] theorem State.fabricFlag_get (b : BeatMsg) (s : State) (part : Part) (hpart : part ∉ ([.beat, .comm, .oap, .nvm, .ports, .fabric, .choir, .power, .od, .out] : List Part)) :
    (State.fabricFlag b s).get part = s.get part := by
  simp only [List.mem_cons, List.not_mem_nil, or_false, not_or] at hpart
  unfold State.fabricFlag
  (repeat' split) <;> simp [*]

/-- The parts that `State.ledgerFail` leaves alone. -/
@[simp] theorem State.ledgerFail_get (m : Nat) (s : State) (part : Part) (hpart : part ∉ ([.beat] : List Part)) :
    (State.ledgerFail m s).get part = s.get part := by
  simp only [List.mem_cons, List.not_mem_nil, or_false] at hpart
  simp [State.ledgerFail, hpart]

/-- The parts that `State.takeBeat` leaves alone. -/
@[simp] theorem State.takeBeat_get (b : BeatMsg) (u : State) (part : Part) (hpart : part ∉ ([.beat, .comm, .oap, .nvm, .ports, .fabric, .choir, .power, .od, .out] : List Part)) :
    (State.takeBeat b u).get part = u.get part := by
  simp only [List.mem_cons, List.not_mem_nil, or_false, not_or] at hpart
  simp [State.takeBeat, hpart]

/-- The parts that `State.choirLimit` leaves alone. -/
@[simp] theorem State.choirLimit_get (s : State) (part : Part) (hpart : part ∉ ([.beat, .comm, .oap, .nvm, .choir, .out] : List Part)) :
    (State.choirLimit s).get part = s.get part := by
  simp only [List.mem_cons, List.not_mem_nil, or_false, not_or] at hpart
  simp [State.choirLimit, hpart]

/-- The parts that `State.takePing` leaves alone. -/
@[simp] theorem State.takePing_get (v : LinkVia) (time : BitVec 64) (s : State) (part : Part) (hpart : part ∉ ([.choir, .fresh, .out] : List Part)) :
    (State.takePing v time s).get part = s.get part := by
  simp only [List.mem_cons, List.not_mem_nil, or_false, not_or] at hpart
  simp [State.takePing, hpart]

/-- The parts that `State.takePong` leaves alone. -/
@[simp] theorem State.takePong_get (time : BitVec 64) (turn : BitVec 32) (arrivalNs : Nat) (s : State) (part : Part) (hpart : part ∉ ([.choir] : List Part)) :
    (State.takePong time turn arrivalNs s).get part = s.get part := by
  simp only [List.mem_cons, List.not_mem_nil, or_false] at hpart
  simp [State.takePong, hpart]

/-- The parts that `State.sendPing` leaves alone. -/
@[simp] theorem State.sendPing_get (s : State) (part : Part) (hpart : part ∉ ([.choir, .out] : List Part)) :
    (State.sendPing s).get part = s.get part := by
  simp only [List.mem_cons, List.not_mem_nil, or_false, not_or] at hpart
  simp [State.sendPing, hpart]

/-- The parts that `State.admitMember` leaves alone. -/
@[simp] theorem State.admitMember_get (serial : Nat) (s : State) (part : Part) (hpart : part ∉ ([.choir, .fresh, .out] : List Part)) :
    (State.admitMember serial s).get part = s.get part := by
  simp only [List.mem_cons, List.not_mem_nil, or_false, not_or] at hpart
  unfold State.admitMember
  (repeat' split) <;> simp [*]

/-- The parts that `State.takeJoin` leaves alone. -/
@[simp] theorem State.takeJoin_get (serial : Nat) (state : Nat) (s : State) (part : Part) (hpart : part ∉ ([.choir, .fresh, .out] : List Part)) :
    (State.takeJoin serial state s).get part = s.get part := by
  simp only [List.mem_cons, List.not_mem_nil, or_false, not_or] at hpart
  simp [State.takeJoin, hpart]

/-- The parts that `State.takeMembership` leaves alone. -/
@[simp] theorem State.takeMembership_get (m : MemberMsg) (s : State) (part : Part) (hpart : part ∉ ([.beat, .comm, .oap, .nvm, .fabric, .memu, .choir, .od, .mem, .fresh, .out] : List Part)) :
    (State.takeMembership m s).get part = s.get part := by
  simp only [List.mem_cons, List.not_mem_nil, or_false, not_or] at hpart
  simp [State.takeMembership, hpart]

/-- The parts that `State.takeHeartbeat` leaves alone. -/
@[simp] theorem State.takeHeartbeat_get (src : Nat) (generation : Nat) (beat : Nat) (s : State) (part : Part) (hpart : part ∉ ([.choir, .out] : List Part)) :
    (State.takeHeartbeat src generation beat s).get part = s.get part := by
  simp only [List.mem_cons, List.not_mem_nil, or_false, not_or] at hpart
  simp [State.takeHeartbeat, hpart]

/-- The parts that `State.closeSessions` leaves alone. -/
@[simp] theorem State.closeSessions_get (s : State) (part : Part) (hpart : part ∉ ([.oap] : List Part)) :
    (State.closeSessions s).get part = s.get part := by
  simp only [List.mem_cons, List.not_mem_nil, or_false] at hpart
  simp [State.closeSessions, hpart]

/-- The parts that `State.recordAdmitted` leaves alone. -/
@[simp] theorem State.recordAdmitted_get (c : MemberChange) (s : State) (part : Part) (hpart : part ∉ ([.nvm] : List Part)) :
    (State.recordAdmitted c s).get part = s.get part := by
  simp only [List.mem_cons, List.not_mem_nil, or_false] at hpart
  simp [State.recordAdmitted, hpart]

/-- The parts that `State.standAlone` leaves alone. -/
@[simp] theorem State.standAlone_get (s : State) (part : Part) (hpart : part ∉ ([.comm, .oap, .nvm, .fabric, .memu, .choir, .od, .mem, .fresh, .out] : List Part)) :
    (State.standAlone s).get part = s.get part := by
  simp only [List.mem_cons, List.not_mem_nil, or_false, not_or] at hpart
  simp [State.standAlone, hpart]

/-- The parts that `State.admitted` leaves alone. -/
@[simp] theorem State.admitted_get (s : State) (part : Part) (hpart : part ∉ ([.beat, .oap, .choir] : List Part)) :
    (State.admitted s).get part = s.get part := by
  simp only [List.mem_cons, List.not_mem_nil, or_false, not_or] at hpart
  simp [State.admitted, hpart]

/-- The parts that `State.takeEffect` leaves alone. -/
@[simp] theorem State.takeEffect_get (c : MemberChange) (i : Nat) (s : State) (part : Part) (hpart : part ∉ ([.beat, .oap, .nvm, .choir, .fresh, .out] : List Part)) :
    (State.takeEffect c i s).get part = s.get part := by
  simp only [List.mem_cons, List.not_mem_nil, or_false, not_or] at hpart
  simp [State.takeEffect, hpart]

/-- The parts that `State.membershipEffect` leaves alone. -/
@[simp] theorem State.membershipEffect_get (s : State) (part : Part) (hpart : part ∉ ([.beat, .comm, .oap, .nvm, .fabric, .memu, .choir, .od, .mem, .fresh, .out] : List Part)) :
    (State.membershipEffect s).get part = s.get part := by
  simp only [List.mem_cons, List.not_mem_nil, or_false, not_or] at hpart
  unfold State.membershipEffect
  (repeat' split) <;> simp [*]

/-- The parts that `State.expelStale` leaves alone. -/
@[simp] theorem State.expelStale_get (s : State) (part : Part) (hpart : part ∉ ([.beat, .comm, .oap, .nvm, .fabric, .memu, .choir, .od, .mem, .fresh, .out] : List Part)) :
    (State.expelStale s).get part = s.get part := by
  simp only [List.mem_cons, List.not_mem_nil, or_false, not_or] at hpart
  simp [State.expelStale, hpart]

/-- The parts that `State.joinStart` leaves alone. -/
@[simp] theorem State.joinStart_get (s : State) (part : Part) (hpart : part ∉ ([.beat, .choir, .out] : List Part)) :
    (State.joinStart s).get part = s.get part := by
  simp only [List.mem_cons, List.not_mem_nil, or_false, not_or] at hpart
  unfold State.joinStart
  (repeat' split) <;> simp [*]

/-- The parts that `State.leadAlone` leaves alone. -/
@[simp] theorem State.leadAlone_get (s : State) (part : Part) (hpart : part ∉ ([.comm, .oap, .nvm, .choir, .out] : List Part)) :
    (State.leadAlone s).get part = s.get part := by
  simp only [List.mem_cons, List.not_mem_nil, or_false, not_or] at hpart
  simp [State.leadAlone, hpart]

/-- The parts that `State.choirEraWork` leaves alone. -/
@[simp] theorem State.choirEraWork_get (s : State) (part : Part) (hpart : part ∉ ([.beat, .comm, .oap, .nvm, .fabric, .memu, .choir, .od, .mem, .fresh, .out] : List Part)) :
    (State.choirEraWork s).get part = s.get part := by
  simp only [List.mem_cons, List.not_mem_nil, or_false, not_or] at hpart
  simp [State.choirEraWork, hpart]

/-- The parts that `State.choirFrames` leaves alone. -/
@[simp] theorem State.choirFrames_get (s : State) (part : Part) (hpart : part ∉ ([.choir, .out] : List Part)) :
    (State.choirFrames s).get part = s.get part := by
  simp only [List.mem_cons, List.not_mem_nil, or_false, not_or] at hpart
  simp [State.choirFrames, hpart]

/-- The parts that `State.switchAnswer` leaves alone. -/
@[simp] theorem State.switchAnswer_get (era : Nat) (s : State) (part : Part) (hpart : part ∉ ([.choir, .out] : List Part)) :
    (State.switchAnswer era s).get part = s.get part := by
  simp only [List.mem_cons, List.not_mem_nil, or_false, not_or] at hpart
  simp [State.switchAnswer, hpart]

/-- The parts that `State.switchCancel` leaves alone. -/
@[simp] theorem State.switchCancel_get (code : Nat) (s : State) (part : Part) (hpart : part ∉ ([.oap, .choir, .out] : List Part)) :
    (State.switchCancel code s).get part = s.get part := by
  simp only [List.mem_cons, List.not_mem_nil, or_false, not_or] at hpart
  unfold State.switchCancel
  (repeat' split) <;> simp [*]

/-- The parts that `State.switchCommit` leaves alone. -/
@[simp] theorem State.switchCommit_get (j : SwitchJob) (s : State) (part : Part) (hpart : part ∉ ([.oap, .nvm, .choir, .out] : List Part)) :
    (State.switchCommit j s).get part = s.get part := by
  simp only [List.mem_cons, List.not_mem_nil, or_false, not_or] at hpart
  simp [State.switchCommit, hpart]

/-- The parts that `State.switchAccepted` leaves alone. -/
@[simp] theorem State.switchAccepted_get (src : Nat) (era : Nat) (s : State) (part : Part) (hpart : part ∉ ([.oap, .nvm, .choir, .out] : List Part)) :
    (State.switchAccepted src era s).get part = s.get part := by
  simp only [List.mem_cons, List.not_mem_nil, or_false, not_or] at hpart
  unfold State.switchAccepted
  (repeat' split) <;> simp [*]

/-- The parts that `State.switchRefused` leaves alone. -/
@[simp] theorem State.switchRefused_get (era : Nat) (status : Nat) (s : State) (part : Part) (hpart : part ∉ ([.oap, .nvm, .choir, .out] : List Part)) :
    (State.switchRefused era status s).get part = s.get part := by
  simp only [List.mem_cons, List.not_mem_nil, or_false, not_or] at hpart
  unfold State.switchRefused
  (repeat' split) <;> simp [*]

/-- The parts that `State.switchTaken` leaves alone. -/
@[simp] theorem State.switchTaken_get (era : Nat) (s : State) (part : Part) (hpart : part ∉ ([.nvm, .choir] : List Part)) :
    (State.switchTaken era s).get part = s.get part := by
  simp only [List.mem_cons, List.not_mem_nil, or_false, not_or] at hpart
  simp [State.switchTaken, hpart]

/-- The parts that `State.switchDropped` leaves alone. -/
@[simp] theorem State.switchDropped_get (era : Nat) (s : State) (part : Part) (hpart : part ∉ ([.nvm, .choir] : List Part)) :
    (State.switchDropped era s).get part = s.get part := by
  simp only [List.mem_cons, List.not_mem_nil, or_false, not_or] at hpart
  simp [State.switchDropped, hpart]

/-- The parts that `State.resetRequestTo` leaves alone. -/
@[simp] theorem State.resetRequestTo_get (id : Nat) (s : State) (part : Part) (hpart : part ∉ ([.choir, .out] : List Part)) :
    (State.resetRequestTo id s).get part = s.get part := by
  simp only [List.mem_cons, List.not_mem_nil, or_false, not_or] at hpart
  simp [State.resetRequestTo, hpart]

/-- The parts that `State.linkCheck` leaves alone. -/
@[simp] theorem State.linkCheck_get (key : Report) (l : List Report) (s : State) (part : Part) (hpart : part ∉ ([.beat, .comm, .oap, .nvm, .choir, .od, .out] : List Part)) :
    (State.linkCheck key l s).get part = s.get part := by
  simp only [List.mem_cons, List.not_mem_nil, or_false, not_or] at hpart
  simp [State.linkCheck, hpart]

/-- The parts that `State.checkReports` leaves alone. -/
@[simp] theorem State.checkReports_get (s : State) (part : Part) (hpart : part ∉ ([.beat, .comm, .oap, .nvm, .choir, .od, .out] : List Part)) :
    (State.checkReports s).get part = s.get part := by
  simp only [List.mem_cons, List.not_mem_nil, or_false, not_or] at hpart
  unfold State.checkReports
  (repeat' split) <;> simp [*]

/-- The parts that `State.takeReport` leaves alone. -/
@[simp] theorem State.takeReport_get (r : Report) (s : State) (part : Part) (hpart : part ∉ ([.beat, .comm, .oap, .nvm, .choir, .od, .out] : List Part)) :
    (State.takeReport r s).get part = s.get part := by
  simp only [List.mem_cons, List.not_mem_nil, or_false, not_or] at hpart
  simp [State.takeReport, hpart]

/-- The parts that `State.sendReport` leaves alone. -/
@[simp] theorem State.sendReport_get (n : Nat) (rank : Option Nat) (s : State) (part : Part) (hpart : part ∉ ([.beat, .comm, .oap, .nvm, .choir, .od, .out] : List Part)) :
    (State.sendReport n rank s).get part = s.get part := by
  simp only [List.mem_cons, List.not_mem_nil, or_false, not_or] at hpart
  simp [State.sendReport, hpart]

/-- The parts that `State.takeGrant` leaves alone. -/
@[simp] theorem State.takeGrant_get (beat : Nat) (rank : Option Nat) (s : State) (part : Part) (hpart : part ∉ ([.choir] : List Part)) :
    (State.takeGrant beat rank s).get part = s.get part := by
  simp only [List.mem_cons, List.not_mem_nil, or_false] at hpart
  simp [State.takeGrant, hpart]

/-- The parts that `State.takeStage` leaves alone. -/
@[simp] theorem State.takeStage_get (v : LinkVia) (r : Report) (s : State) (part : Part) (hpart : part ∉ ([.beat, .comm, .oap, .nvm, .choir, .od, .out] : List Part)) :
    (State.takeStage v r s).get part = s.get part := by
  simp only [List.mem_cons, List.not_mem_nil, or_false, not_or] at hpart
  simp [State.takeStage, hpart]

/-- The parts that `State.takeSlot` leaves alone. -/
@[simp] theorem State.takeSlot_get (v : LinkVia) (cls : Nat) (flit : Nat) (vn1 : Bool) (p : Packet) (s : State) (part : Part) (hpart : part ∉ ([.beat, .comm, .oap, .nvm, .choir, .power, .od, .out] : List Part)) :
    (State.takeSlot v cls flit vn1 p s).get part = s.get part := by
  simp only [List.mem_cons, List.not_mem_nil, or_false, not_or] at hpart
  simp [State.takeSlot, hpart]

/-- The parts that `State.takeFlit` leaves alone. -/
@[simp] theorem State.takeFlit_get (v : LinkVia) (cls : Nat) (slots : List (Bool × Packet)) (s : State) (part : Part) (hpart : part ∉ ([.beat, .comm, .oap, .nvm, .choir, .power, .od, .out] : List Part)) :
    (State.takeFlit v cls slots s).get part = s.get part := by
  simp only [List.mem_cons, List.not_mem_nil, or_false, not_or] at hpart
  simp [State.takeFlit, hpart]

/-- The parts that `State.takeFlits_extra` leaves alone. -/
@[simp] theorem State.takeFlits_get (v : LinkVia) (cls : Nat) (l : List (Bool × Packet)) (s : State) (part : Part) (hpart : part ∉ ([.beat, .comm, .oap, .nvm, .choir, .power, .od, .out] : List Part)) :
    (State.takeFlits v cls l s).get part = s.get part := by
  simp only [List.mem_cons, List.not_mem_nil, or_false, not_or] at hpart
  fun_induction State.takeFlits v cls l s <;> (try split) <;> simp_all <;> split <;> simp_all

/-- The parts that `State.memRespond` leaves alone. -/
@[simp] theorem State.memRespond_get (src : Nat) (tag : Nat) (wr : Bool) (addr : Nat) (status : Nat) (data : List Byte) (s : State) (part : Part) (hpart : part ∉ ([.choir, .out] : List Part)) :
    (State.memRespond src tag wr addr status data s).get part = s.get part := by
  simp only [List.mem_cons, List.not_mem_nil, or_false, not_or] at hpart
  simp [State.memRespond, hpart]

/-- The parts that `State.takeMemReq` leaves alone. -/
@[simp] theorem State.takeMemReq_get (src : Nat) (tag : Nat) (wr : Bool) (addr : Nat) (len : Nat) (data : List Byte) (s : State) (part : Part) (hpart : part ∉ ([.nvm, .fabric, .memu, .choir, .mem, .fresh, .out] : List Part)) :
    (State.takeMemReq src tag wr addr len data s).get part = s.get part := by
  simp only [List.mem_cons, List.not_mem_nil, or_false, not_or] at hpart
  unfold State.takeMemReq
  dsimp only
  (repeat' split) <;> simp [*]

/-- The parts that `State.requestFailed` leaves alone. -/
@[simp] theorem State.requestFailed_get (r : RemoteReq) (status : Nat) (s : State) (part : Part) (hpart : part ∉ ([.memu, .out] : List Part)) :
    (State.requestFailed r status s).get part = s.get part := by
  simp only [List.mem_cons, List.not_mem_nil, or_false, not_or] at hpart
  unfold State.requestFailed
  (repeat' split) <;> simp [*]

/-- The parts that `State.requestServed` leaves alone. -/
@[simp] theorem State.requestServed_get (r : RemoteReq) (data : List Byte) (s : State) (part : Part) (hpart : part ∉ ([.memu, .out] : List Part)) :
    (State.requestServed r data s).get part = s.get part := by
  simp only [List.mem_cons, List.not_mem_nil, or_false, not_or] at hpart
  unfold State.requestServed
  (repeat' split) <;> simp [*]

/-- The parts that `State.runOn` leaves alone. -/
@[simp] theorem State.runOn_get (m : Nat) (i : Nat) (s : State) (part : Part) (hpart : part ∉ ([.nvm, .fabric, .memu, .choir, .mem, .fresh, .out] : List Part)) :
    (State.runOn m i s).get part = s.get part := by
  simp only [List.mem_cons, List.not_mem_nil, or_false, not_or] at hpart
  simp [State.runOn, hpart]

/-- The parts that `State.requestNext` leaves alone. -/
@[simp] theorem State.requestNext_get (r : RemoteReq) (s : State) (part : Part) (hpart : part ∉ ([.nvm, .fabric, .memu, .choir, .mem, .fresh, .out] : List Part)) :
    (State.requestNext r s).get part = s.get part := by
  simp only [List.mem_cons, List.not_mem_nil, or_false, not_or] at hpart
  unfold State.requestNext
  (repeat' split) <;> simp [*]

/-- The parts that `State.takeMemRsp` leaves alone. -/
@[simp] theorem State.takeMemRsp_get (tag : Nat) (status : Nat) (data : List Byte) (s : State) (part : Part) (hpart : part ∉ ([.nvm, .fabric, .memu, .choir, .mem, .fresh, .out] : List Part)) :
    (State.takeMemRsp tag status data s).get part = s.get part := by
  simp only [List.mem_cons, List.not_mem_nil, or_false, not_or] at hpart
  unfold State.takeMemRsp
  split
  · rfl
  · rename_i r u hu
    simp only [State.takeRequest, Option.map_eq_some_iff, Prod.mk.injEq] at hu
    obtain ⟨_, _, rfl, rfl⟩ := hu
    split <;> simp [hpart]

/-- The parts that `State.closeWindow` leaves alone. -/
@[simp] theorem State.closeWindow_get (n : Nat) (s : State) (part : Part) (hpart : part ∉ ([.beat, .comm, .oap, .nvm, .ports, .zone, .od, .out] : List Part)) :
    (State.closeWindow n s).get part = s.get part := by
  simp only [List.mem_cons, List.not_mem_nil, or_false, not_or] at hpart
  simp [State.closeWindow, hpart]

/-- The parts that `State.portsDrain` leaves alone. -/
@[simp] theorem State.portsDrain_get (s : State) (part : Part) (hpart : part ∉ ([.comm, .oap, .nvm, .ports, .zone, .video, .od, .out] : List Part)) :
    (State.portsDrain s).get part = s.get part := by
  simp only [List.mem_cons, List.not_mem_nil, or_false, not_or] at hpart
  simp [State.portsDrain, hpart]

/-- The parts that `State.openRank` leaves alone. -/
@[simp] theorem State.openRank_get (n : Nat) (r : Nat) (s : State) (part : Part) (hpart : part ∉ ([.beat, .comm, .oap, .nvm, .fabric, .od, .mem, .out] : List Part)) :
    (State.openRank n r s).get part = s.get part := by
  simp only [List.mem_cons, List.not_mem_nil, or_false, not_or] at hpart
  simp [State.openRank, hpart]

/-- The parts that `State.whenGranted` leaves alone. -/
@[simp] theorem State.whenGranted_get (n : Nat) (rank : Option Nat) (f : State → State) (s : State) (part : Part) (hf : ∀ y0, (f y0).get part = y0.get part) (hpart : part ∉ ([.beat, .comm, .oap, .nvm, .choir, .od, .out] : List Part)) :
    (State.whenGranted n rank f s).get part = s.get part := by
  simp only [List.mem_cons, List.not_mem_nil, or_false, not_or] at hpart
  simp [State.whenGranted, hpart, *]

/-- The parts that `State.addTotal` leaves alone. -/
@[simp] theorem State.addTotal_get (sub : Nat) (n : Nat) (s : State) (part : Part) (hpart : part ∉ ([.od] : List Part)) :
    (State.addTotal sub n s).get part = s.get part := by
  simp only [List.mem_cons, List.not_mem_nil, or_false] at hpart
  simp [State.addTotal, hpart]

/-- The parts that `State.ledgerCheck` leaves alone. -/
@[simp] theorem State.ledgerCheck_get (n : Nat) (s : State) (part : Part) (hpart : part ∉ ([.beat, .comm, .oap, .nvm, .fabric, .od, .out] : List Part)) :
    (State.ledgerCheck n s).get part = s.get part := by
  simp only [List.mem_cons, List.not_mem_nil, or_false, not_or] at hpart
  simp [State.ledgerCheck, hpart]

/-- The parts that `State.voiceEnd` leaves alone. -/
@[simp] theorem State.voiceEnd_get (w : BeatWork) (st : StageSt) (s : State) (part : Part) (hpart : part ∉ ([.beat, .comm, .oap, .nvm, .fabric, .press, .memu, .choir, .od, .mem, .fresh, .out] : List Part)) :
    (State.voiceEnd w st s).get part = s.get part := by
  simp only [List.mem_cons, List.not_mem_nil, or_false, not_or] at hpart
  simp [State.voiceEnd, hpart]

/-- The parts that `State.voiceShedAll` leaves alone. -/
@[simp] theorem State.voiceShedAll_get (w : BeatWork) (s : State) (part : Part) (hpart : part ∉ ([.beat, .comm, .oap, .nvm, .ports, .fabric, .press, .memu, .choir, .power, .od, .mem, .fresh, .out] : List Part)) :
    (State.voiceShedAll w s).get part = s.get part := by
  simp only [List.mem_cons, List.not_mem_nil, or_false, not_or] at hpart
  simp [State.voiceShedAll, hpart]

/-- The parts that `State.ingestStart` leaves alone. -/
@[simp] theorem State.ingestStart_get (n : Nat) (s : State) (part : Part) (hpart : part ∉ ([.beat, .comm, .oap, .nvm, .fabric, .press, .power, .mem, .out] : List Part)) :
    (State.ingestStart n s).get part = s.get part := by
  simp only [List.mem_cons, List.not_mem_nil, or_false, not_or] at hpart
  simp [State.ingestStart, hpart]

/-- The parts that `State.onTpdo` leaves alone. -/
@[simp] theorem State.onTpdo_get (n : Nat) (f : TpdoSt → TpdoSt) (x2 : State) (part : Part) (hpart : part ∉ ([.comm] : List Part)) :
    (State.onTpdo n f x2).get part = x2.get part := by
  simp only [List.mem_cons, List.not_mem_nil, or_false] at hpart
  simp [State.onTpdo, hpart]

/-- The parts that `State.tpdoEmit` leaves alone. -/
@[simp] theorem State.tpdoEmit_get (n : Nat) (data : List Byte) (s : State) (part : Part) (hpart : part ∉ ([.comm, .out] : List Part)) :
    (State.tpdoEmit n data s).get part = s.get part := by
  simp only [List.mem_cons, List.not_mem_nil, or_false, not_or] at hpart
  simp [State.tpdoEmit, hpart]

/-- The parts that `State.tpdoDue` leaves alone. -/
@[simp] theorem State.tpdoDue_get (n : Nat) (data : List Byte) (s : State) (part : Part) (hpart : part ∉ ([.comm, .out] : List Part)) :
    (State.tpdoDue n data s).get part = s.get part := by
  simp only [List.mem_cons, List.not_mem_nil, or_false, not_or] at hpart
  simp [State.tpdoDue, hpart]

/-- The parts that `State.tpdoVerdict` leaves alone. -/
@[simp] theorem State.tpdoVerdict_get (s : State) (part : Part) (hpart : part ∉ ([.comm, .out] : List Part)) :
    (State.tpdoVerdict s).get part = s.get part := by
  simp only [List.mem_cons, List.not_mem_nil, or_false, not_or] at hpart
  simp [State.tpdoVerdict, hpart]

/-- The parts that `State.tpdoLook` leaves alone. -/
@[simp] theorem State.tpdoLook_get (n : Nat) (s : State) (part : Part) (hpart : part ∉ ([.comm, .out] : List Part)) :
    (State.tpdoLook n s).get part = s.get part := by
  simp only [List.mem_cons, List.not_mem_nil, or_false, not_or] at hpart
  simp [State.tpdoLook, hpart]

/-- The parts that `State.tpdoBase` leaves alone. -/
@[simp] theorem State.tpdoBase_get (n : Nat) (s : State) (part : Part) (hpart : part ∉ ([.comm] : List Part)) :
    (State.tpdoBase n s).get part = s.get part := by
  simp only [List.mem_cons, List.not_mem_nil, or_false] at hpart
  simp [State.tpdoBase, hpart]

/-- The parts that `State.tpdoStart` leaves alone. -/
@[simp] theorem State.tpdoStart_get (s : State) (part : Part) (hpart : part ∉ ([.comm] : List Part)) :
    (State.tpdoStart s).get part = s.get part := by
  simp only [List.mem_cons, List.not_mem_nil, or_false] at hpart
  simp [State.tpdoStart, hpart]

/-- The parts that `State.tpdoScan` leaves alone. -/
@[simp] theorem State.tpdoScan_get (s : State) (part : Part) (hpart : part ∉ ([.comm, .out] : List Part)) :
    (State.tpdoScan s).get part = s.get part := by
  simp only [List.mem_cons, List.not_mem_nil, or_false, not_or] at hpart
  simp [State.tpdoScan, hpart]

/-- The parts that `State.tick` leaves alone. -/
@[simp] theorem State.tick_get (s : State) (part : Part) (hpart : part ∉ ([.now, .comm, .out] : List Part)) :
    (State.tick s).get part = s.get part := by
  simp only [List.mem_cons, List.not_mem_nil, or_false, not_or] at hpart
  simp [State.tick, hpart]

/-- The parts that `State.enterOperational` leaves alone. -/
@[simp] theorem State.enterOperational_get (s : State) (part : Part) (hpart : part ∉ ([.beat, .comm, .audio, .fresh, .out] : List Part)) :
    (State.enterOperational s).get part = s.get part := by
  simp only [List.mem_cons, List.not_mem_nil, or_false, not_or] at hpart
  simp [State.enterOperational, hpart]

/-- The parts that `State.enterNmt` leaves alone. -/
@[simp] theorem State.enterNmt_get (n : Nmt) (s : State) (part : Part) (hpart : part ∉ ([.beat, .comm, .belt, .audio, .fresh, .out] : List Part)) :
    (State.enterNmt n s).get part = s.get part := by
  simp only [List.mem_cons, List.not_mem_nil, or_false, not_or] at hpart
  simp [State.enterNmt, hpart]

/-- The parts that `State.bootUp` leaves alone. -/
@[simp] theorem State.bootUp_get (s : State) (part : Part) (hpart : part ∉ ([.beat, .comm, .belt, .audio, .fresh, .out] : List Part)) :
    (State.bootUp s).get part = s.get part := by
  simp only [List.mem_cons, List.not_mem_nil, or_false, not_or] at hpart
  unfold State.bootUp
  dsimp only
  (repeat' split) <;> simp [*]

/-- The parts that `State.nmtStartup` leaves alone. -/
@[simp] theorem State.nmtStartup_get (s : State) (part : Part) (hpart : part ∉ ([.beat, .comm, .audio, .fresh, .out] : List Part)) :
    (State.nmtStartup s).get part = s.get part := by
  simp only [List.mem_cons, List.not_mem_nil, or_false, not_or] at hpart
  simp [State.nmtStartup, hpart]

/-- The parts that `State.clearUnits` leaves alone. -/
@[simp] theorem State.clearUnits_get (s : State) (part : Part) (hpart : part ∉ ([.beat, .comm, .oap, .nvm, .ports, .fabric, .press, .queue, .memu, .trellis, .choir, .zone, .belt, .audio, .island, .power, .video, .od, .inForce, .wtime, .regs, .mem, .fresh, .out] : List Part)) :
    (State.clearUnits s).get part = s.get part := by
  simp only [List.mem_cons, List.not_mem_nil, or_false, not_or] at hpart
  simp [State.clearUnits, hpart]

/-- The parts that `State.pvid` leaves alone. -/
@[simp] theorem State.pvid_get (cmd : Nat) (data : Nat) (s : State) (part : Part) (hpart : part ∉ ([.power, .out] : List Part)) :
    (State.pvid cmd data s).get part = s.get part := by
  simp only [List.mem_cons, List.not_mem_nil, or_false, not_or] at hpart
  simp [State.pvid, hpart]

/-- The parts that `State.resetRecord` leaves alone. -/
@[simp] theorem State.resetRecord_get (s : State) (part : Part) (hpart : part ∉ ([.nvm] : List Part)) :
    (State.resetRecord s).get part = s.get part := by
  simp only [List.mem_cons, List.not_mem_nil, or_false] at hpart
  simp [State.resetRecord, hpart]

/-- The parts that `State.resetStart` leaves alone. -/
@[simp] theorem State.resetStart_get (cause : Nat) (s : State) (part : Part) (hpart : part ∉ ([.beat, .comm, .oap, .nvm, .ports, .fabric, .press, .queue, .memu, .trellis, .choir, .zone, .belt, .audio, .island, .power, .video, .boot, .od, .inForce, .wtime, .regs, .mem, .fresh, .out] : List Part)) :
    (State.resetStart cause s).get part = s.get part := by
  simp only [List.mem_cons, List.not_mem_nil, or_false, not_or] at hpart
  simp [State.resetStart, hpart]

/-- The parts that `State.wake` leaves alone. -/
@[simp] theorem State.wake_get (s : State) (part : Part) (hpart : part ∉ ([.beat, .comm, .oap, .nvm, .ports, .fabric, .press, .queue, .memu, .trellis, .choir, .zone, .belt, .audio, .island, .power, .video, .boot, .od, .inForce, .wtime, .regs, .mem, .fresh, .out] : List Part)) :
    (State.wake s).get part = s.get part := by
  simp only [List.mem_cons, List.not_mem_nil, or_false, not_or] at hpart
  simp [State.wake, hpart]

/-- The parts that `State.kick` leaves alone. -/
@[simp] theorem State.kick_get (v : Nat) (s : State) (part : Part) (hpart : part ∉ ([.boot] : List Part)) :
    (State.kick v s).get part = s.get part := by
  simp only [List.mem_cons, List.not_mem_nil, or_false] at hpart
  simp [State.kick, hpart]

/-- The parts that `State.byFirmware` leaves alone. -/
@[simp] theorem State.byFirmware_get (f : State → State) (s : State) (part : Part) (hf : ∀ y0, (f y0).get part = y0.get part) :
    (State.byFirmware f s).get part = s.get part := by
  simp [State.byFirmware, *]

/-- The parts that `State.newChallenge` leaves alone. -/
@[simp] theorem State.newChallenge_get (s : State) (part : Part) (hpart : part ∉ ([.boot, .fresh] : List Part)) :
    (State.newChallenge s).get part = s.get part := by
  simp only [List.mem_cons, List.not_mem_nil, or_false, not_or] at hpart
  simp [State.newChallenge, hpart]

/-- The parts that `State.selectKeys` leaves alone. -/
@[simp] theorem State.selectKeys_get (s : State) (part : Part) (hpart : part ∉ ([.boot] : List Part)) :
    (State.selectKeys s).get part = s.get part := by
  simp only [List.mem_cons, List.not_mem_nil, or_false] at hpart
  simp [State.selectKeys, hpart]

/-- The parts that `State.pickBoot` leaves alone. -/
@[simp] theorem State.pickBoot_get (x0 : List Nat) (x1 : State) (part : Part) (hpart : part ∉ ([.nvm] : List Part)) :
    (State.pickBoot x0 x1).2.get part = x1.get part := by
  simp only [List.mem_cons, List.not_mem_nil, or_false] at hpart
  induction x0 generalizing x1 <;> simp_all [State.pickBoot]

/-- The parts that `State.abandonSlot` leaves alone. -/
@[simp] theorem State.abandonSlot_get (s : State) (part : Part) (hpart : part ∉ ([.nvm, .memu, .boot, .mem] : List Part)) :
    (State.abandonSlot s).get part = s.get part := by
  simp only [List.mem_cons, List.not_mem_nil, or_false, not_or] at hpart
  simp [State.abandonSlot, hpart]

/-- The parts that `State.enterFirmware` leaves alone. -/
@[simp] theorem State.enterFirmware_get (k : Nat) (s : State) (part : Part) (hpart : part ∉ ([.memu, .boot, .mem] : List Part)) :
    (State.enterFirmware k s).get part = s.get part := by
  simp only [List.mem_cons, List.not_mem_nil, or_false, not_or] at hpart
  simp [State.enterFirmware, hpart]

/-- The parts that `State.bootNode` leaves alone. -/
@[simp] theorem State.bootNode_get (s : State) (part : Part) (hpart : part ∉ ([.comm] : List Part)) :
    (State.bootNode s).get part = s.get part := by
  simp only [List.mem_cons, List.not_mem_nil, or_false] at hpart
  simp [State.bootNode, hpart]

/-- The parts that `State.commInForce` leaves alone. -/
@[simp] theorem State.commInForce_get (s : State) (part : Part) (hpart : part ∉ ([.inForce] : List Part)) :
    (State.commInForce s).get part = s.get part := by
  simp only [List.mem_cons, List.not_mem_nil, or_false] at hpart
  simp [State.commInForce, hpart]

/-- The parts that `State.bootQueue` leaves alone. -/
@[simp] theorem State.bootQueue_get (q : Nat) (s : State) (part : Part) (hpart : part ∉ ([.nvm, .queue] : List Part)) :
    (State.bootQueue q s).get part = s.get part := by
  simp only [List.mem_cons, List.not_mem_nil, or_false, not_or] at hpart
  simp [State.bootQueue, hpart]

/-- The parts that `State.condAnew` leaves alone. -/
@[simp] theorem State.condAnew_get (c : Cond) (s : State) (part : Part) (hpart : part ∉ ([.comm, .oap, .nvm, .out] : List Part)) :
    (State.condAnew c s).get part = s.get part := by
  simp only [List.mem_cons, List.not_mem_nil, or_false, not_or] at hpart
  simp [State.condAnew, hpart]

/-- The parts that `State.conditionsAnew` leaves alone. -/
@[simp] theorem State.conditionsAnew_get (s : State) (part : Part) (hpart : part ∉ ([.comm, .oap, .nvm, .out] : List Part)) :
    (State.conditionsAnew s).get part = s.get part := by
  simp only [List.mem_cons, List.not_mem_nil, or_false, not_or] at hpart
  unfold State.conditionsAnew
  simp only [State.heatCheck_get _ part (by simp [hpart])]
  refine (State.get_foldl _ _ _ _ (fun _ _ => ?_)).trans ?_ <;> simp [hpart]

/-- The parts that `State.stampBoundaries` leaves alone. -/
@[simp] theorem State.stampBoundaries_get (s : State) (part : Part) (hpart : part ∉ ([.wtime] : List Part)) :
    (State.stampBoundaries s).get part = s.get part := by
  simp only [List.mem_cons, List.not_mem_nil, or_false] at hpart
  simp [State.stampBoundaries, hpart]

/-- The parts that `State.bootUnits` leaves alone. -/
@[simp] theorem State.bootUnits_get (s : State) (part : Part) (hpart : part ∉ ([.beat, .comm, .oap, .nvm, .ports, .fabric, .press, .queue, .memu, .choir, .zone, .belt, .audio, .island, .power, .video, .boot, .od, .inForce, .wtime, .regs, .mem, .fresh, .out] : List Part)) :
    (State.bootUnits s).get part = s.get part := by
  simp only [List.mem_cons, List.not_mem_nil, or_false, not_or] at hpart
  simp [State.bootUnits, hpart]

/-- The parts that `State.bootWrite` leaves alone. -/
@[simp] theorem State.bootWrite_get (keyList : Bool) (s : State) (part : Part) (hpart : part ∉ ([.memu, .boot, .mem] : List Part)) :
    (State.bootWrite keyList s).get part = s.get part := by
  simp only [List.mem_cons, List.not_mem_nil, or_false, not_or] at hpart
  simp [State.bootWrite, hpart]

/-- The parts that `State.fuseProgram` leaves alone. -/
@[simp] theorem State.fuseProgram_get (field : Nat) (index : Nat) (s : State) (part : Part) (hpart : part ∉ ([.boot, .fresh] : List Part)) :
    (State.fuseProgram field index s).get part = s.get part := by
  simp only [List.mem_cons, List.not_mem_nil, or_false, not_or] at hpart
  unfold State.fuseProgram
  (repeat' split) <;> simp [*]

/-- The parts that `State.rollbackAdvance` leaves alone. -/
@[simp] theorem State.rollbackAdvance_get (v : Nat) (s : State) (part : Part) (hpart : part ∉ ([.boot] : List Part)) :
    (State.rollbackAdvance v s).get part = s.get part := by
  simp only [List.mem_cons, List.not_mem_nil, or_false] at hpart
  simp [State.rollbackAdvance, hpart]

/-- The parts that `State.debugResponse` leaves alone. -/
@[simp] theorem State.debugResponse_get (sig : List Byte) (s : State) (part : Part) (hpart : part ∉ ([.nvm, .boot, .fresh] : List Part)) :
    (State.debugResponse sig s).2.get part = s.get part := by
  simp only [List.mem_cons, List.not_mem_nil, or_false, not_or] at hpart
  simp [State.debugResponse, hpart]

/-- The parts that `State.debugHalt` leaves alone. -/
@[simp] theorem State.debugHalt_get (c : Nat) (on : Bool) (s : State) (part : Part) (hpart : part ∉ ([.boot] : List Part)) :
    (State.debugHalt c on s).get part = s.get part := by
  simp only [List.mem_cons, List.not_mem_nil, or_false] at hpart
  simp [State.debugHalt, hpart]

/-- The parts that `State.keepMem` leaves alone. -/
@[simp] theorem State.keepMem_get (p : Nat → Bool) (s : State) (part : Part) (hpart : part ∉ ([.mem] : List Part)) :
    (State.keepMem p s).get part = s.get part := by
  simp only [List.mem_cons, List.not_mem_nil, or_false] at hpart
  simp [State.keepMem, hpart]

/-- The parts that `State.putAway` leaves alone. -/
@[simp] theorem State.putAway_get (cause : Nat) (sev : Nat) (s : State) (part : Part) (hpart : part ∉ ([.oap, .nvm, .memu, .island, .mem] : List Part)) :
    (State.putAway cause sev s).get part = s.get part := by
  simp only [List.mem_cons, List.not_mem_nil, or_false, not_or] at hpart
  simp [State.putAway, hpart]

/-- The parts that `State.shutdown` leaves alone. -/
@[simp] theorem State.shutdown_get (cause : Nat) (s : State) (part : Part) (hpart : part ∉ ([.beat, .comm, .oap, .nvm, .ports, .fabric, .press, .queue, .memu, .trellis, .choir, .zone, .belt, .audio, .island, .power, .video, .boot, .od, .inForce, .wtime, .regs, .mem, .fresh, .out] : List Part)) :
    (State.shutdown cause s).get part = s.get part := by
  simp only [List.mem_cons, List.not_mem_nil, or_false, not_or] at hpart
  simp [State.shutdown, hpart]

/-- The parts that `State.turnOn` leaves alone. -/
@[simp] theorem State.turnOn_get (contiguousSafe : Bool) (s : State) (part : Part) (hpart : part ∉ ([.now, .beat, .comm, .oap, .nvm, .memu, .choir, .belt, .island, .power, .boot, .mem, .fresh, .out] : List Part)) :
    (State.turnOn contiguousSafe s).get part = s.get part := by
  simp only [List.mem_cons, List.not_mem_nil, or_false, not_or] at hpart
  simp [State.turnOn, hpart]

/-- The parts that `State.followLimits` leaves alone. -/
@[simp] theorem State.followLimits_get (s : State) (part : Part) (hpart : part ∉ ([.power] : List Part)) :
    (State.followLimits s).get part = s.get part := by
  simp only [List.mem_cons, List.not_mem_nil, or_false] at hpart
  simp [State.followLimits, hpart]

/-- The parts that `State.capStep` leaves alone. -/
@[simp] theorem State.capStep_get (s : State) (part : Part) (hpart : part ∉ ([.power] : List Part)) :
    (State.capStep s).get part = s.get part := by
  simp only [List.mem_cons, List.not_mem_nil, or_false] at hpart
  simp [State.capStep, hpart]

/-- The parts that `State.decidePoint` leaves alone. -/
@[simp] theorem State.decidePoint_get (n : Nat) (s : State) (part : Part) (hpart : part ∉ ([.power] : List Part)) :
    (State.decidePoint n s).get part = s.get part := by
  simp only [List.mem_cons, List.not_mem_nil, or_false] at hpart
  simp [State.decidePoint, hpart]

/-- The parts that `State.enterStandby` leaves alone. -/
@[simp] theorem State.enterStandby_get (s : State) (part : Part) (hpart : part ∉ ([.beat, .comm, .oap, .nvm, .ports, .fabric, .press, .queue, .memu, .trellis, .choir, .zone, .belt, .audio, .island, .power, .video, .boot, .od, .inForce, .wtime, .regs, .mem, .fresh, .out] : List Part)) :
    (State.enterStandby s).get part = s.get part := by
  simp only [List.mem_cons, List.not_mem_nil, or_false, not_or] at hpart
  simp [State.enterStandby, hpart]

/-- The parts that `State.standbyDue` leaves alone. -/
@[simp] theorem State.standbyDue_get (s : State) (part : Part) (hpart : part ∉ ([.beat, .comm, .oap, .nvm, .ports, .fabric, .press, .queue, .memu, .trellis, .choir, .zone, .belt, .audio, .island, .power, .video, .boot, .od, .inForce, .wtime, .regs, .mem, .fresh, .out] : List Part)) :
    (State.standbyDue s).get part = s.get part := by
  simp only [List.mem_cons, List.not_mem_nil, or_false, not_or] at hpart
  simp [State.standbyDue, hpart]

/-- The parts that `State.powerRequest` leaves alone. -/
@[simp] theorem State.powerRequest_get (v : Nat) (s : State) (part : Part) (hpart : part ∉ ([.beat, .comm, .oap, .nvm, .ports, .fabric, .press, .queue, .memu, .trellis, .choir, .zone, .belt, .audio, .island, .power, .video, .boot, .od, .inForce, .wtime, .regs, .mem, .fresh, .out] : List Part)) :
    (State.powerRequest v s).2.get part = s.get part := by
  simp only [List.mem_cons, List.not_mem_nil, or_false, not_or] at hpart
  simp [State.powerRequest, hpart]

/-- The parts that `State.gateTile` leaves alone. -/
@[simp] theorem State.gateTile_get (t : Nat) (s : State) (part : Part) (hpart : part ∉ ([.fabric, .press, .memu, .power, .regs, .mem] : List Part)) :
    (State.gateTile t s).get part = s.get part := by
  simp only [List.mem_cons, List.not_mem_nil, or_false, not_or] at hpart
  simp [State.gateTile, hpart]

/-- The parts that `State.pdoAnew` leaves alone. -/
@[simp] theorem State.pdoAnew_get (idx : Nat) (s : State) (part : Part) (hpart : part ∉ ([.comm] : List Part)) :
    (State.pdoAnew idx s).get part = s.get part := by
  simp only [List.mem_cons, List.not_mem_nil, or_false] at hpart
  simp [State.pdoAnew, hpart]

/-- The parts that `State.pdoWrite` leaves alone. -/
@[simp] theorem State.pdoWrite_get (idx : Nat) (sub : Nat) (v : Nat) (s : State) (part : Part) (hpart : part ∉ ([.comm, .od, .wtime] : List Part)) :
    (State.pdoWrite idx sub v s).2.get part = s.get part := by
  simp only [List.mem_cons, List.not_mem_nil, or_false, not_or] at hpart
  simp [State.pdoWrite, hpart]

/-- The parts that `State.consumerWrite` leaves alone. -/
@[simp] theorem State.consumerWrite_get (sub : Nat) (v : Nat) (s : State) (part : Part) (hpart : part ∉ ([.comm, .oap, .nvm, .od, .wtime, .out] : List Part)) :
    (State.consumerWrite sub v s).get part = s.get part := by
  simp only [List.mem_cons, List.not_mem_nil, or_false, not_or] at hpart
  simp [State.consumerWrite, hpart]

/-- The parts that `State.hookComm` leaves alone. -/
@[simp] theorem State.hookComm_get (idx : Nat) (sub : Nat) (v : Nat) (who : StoreFor) (s : State) (part : Part) (hpart : part ∉ ([.comm, .oap, .nvm, .memu, .od, .wtime, .mem, .out] : List Part)) :
    (State.hookComm idx sub v who s).2.get part = s.get part := by
  simp only [List.mem_cons, List.not_mem_nil, or_false, not_or] at hpart
  unfold State.hookComm
  simp only [waits, done]
  (repeat' split) <;> simp [hpart]

/-- The parts that `State.hookBeat` leaves alone. -/
@[simp] theorem State.hookBeat_get (sub : Nat) (v : Nat) (s : State) (part : Part) (hpart : part ∉ ([.od, .inForce, .wtime] : List Part)) :
    (State.hookBeat sub v s).2.get part = s.get part := by
  simp only [List.mem_cons, List.not_mem_nil, or_false, not_or] at hpart
  simp [State.hookBeat, hpart]

/-- The parts that `State.hookInstall` leaves alone. -/
@[simp] theorem State.hookInstall_get (sub : Nat) (v : Nat) (data : List Byte) (who : StoreFor) (s : State) (part : Part) (hpart : part ∉ ([.oap, .nvm, .memu, .choir, .od, .wtime, .mem, .out] : List Part)) :
    (State.hookInstall sub v data who s).2.get part = s.get part := by
  simp only [List.mem_cons, List.not_mem_nil, or_false, not_or] at hpart
  unfold State.hookInstall
  simp only [waits, done]
  (repeat' split) <;> simp [hpart]

/-- The parts that `State.hookDevice` leaves alone. -/
@[simp] theorem State.hookDevice_get (idx : Nat) (sub : Nat) (v : Nat) (data : List Byte) (who : StoreFor) (s : State) (part : Part) (hpart : part ∉ ([.beat, .comm, .oap, .nvm, .ports, .fabric, .press, .queue, .memu, .trellis, .choir, .zone, .belt, .audio, .island, .power, .video, .boot, .od, .inForce, .wtime, .regs, .mem, .fresh, .out] : List Part)) :
    (State.hookDevice idx sub v data who s).2.get part = s.get part := by
  simp only [List.mem_cons, List.not_mem_nil, or_false, not_or] at hpart
  unfold State.hookDevice
  simp only [done]
  (repeat' split) <;> simp [hpart]

/-- The parts that `State.hookPort` leaves alone. -/
@[simp] theorem State.hookPort_get (p : Nat) (sub : Nat) (v : Nat) (s : State) (part : Part) (hpart : part ∉ ([.comm, .oap, .nvm, .ports, .zone, .video, .od, .wtime, .out] : List Part)) :
    (State.hookPort p sub v s).2.get part = s.get part := by
  simp only [List.mem_cons, List.not_mem_nil, or_false, not_or] at hpart
  simp [State.hookPort, hpart]

/-- The parts that `State.hookLedger` leaves alone. -/
@[simp] theorem State.hookLedger_get (sub : Nat) (v : Nat) (s : State) (part : Part) (hpart : part ∉ ([.od, .wtime] : List Part)) :
    (State.hookLedger sub v s).2.get part = s.get part := by
  simp only [List.mem_cons, List.not_mem_nil, or_false, not_or] at hpart
  simp [State.hookLedger, hpart]

/-- The parts that `State.hookQueue` leaves alone. -/
@[simp] theorem State.hookQueue_get (q : Nat) (sub : Nat) (v : Nat) (s : State) (part : Part) (hpart : part ∉ ([.press, .queue, .memu, .video, .od, .wtime, .out] : List Part)) :
    (State.hookQueue q sub v s).2.get part = s.get part := by
  simp only [List.mem_cons, List.not_mem_nil, or_false, not_or] at hpart
  simp [State.hookQueue, hpart]

/-- The parts that `State.hookGate` leaves alone. -/
@[simp] theorem State.hookGate_get (g : Nat) (sub : Nat) (v : Nat) (s : State) (part : Part) (hpart : part ∉ ([.comm, .oap, .nvm, .zone, .od, .wtime, .out] : List Part)) :
    (State.hookGate g sub v s).2.get part = s.get part := by
  simp only [List.mem_cons, List.not_mem_nil, or_false, not_or] at hpart
  simp [State.hookGate, hpart]

/-- The parts that `State.hookRegion` leaves alone. -/
@[simp] theorem State.hookRegion_get (r : Nat) (sub : Nat) (v : Nat) (s : State) (part : Part) (hpart : part ∉ ([.od, .wtime] : List Part)) :
    (State.hookRegion r sub v s).2.get part = s.get part := by
  simp only [List.mem_cons, List.not_mem_nil, or_false, not_or] at hpart
  simp [State.hookRegion, hpart]

/-- The parts that `State.hookZone` leaves alone. -/
@[simp] theorem State.hookZone_get (z : Nat) (sub : Nat) (v : Nat) (s : State) (part : Part) (hpart : part ∉ ([.comm, .oap, .nvm, .zone, .od, .wtime, .out] : List Part)) :
    (State.hookZone z sub v s).2.get part = s.get part := by
  simp only [List.mem_cons, List.not_mem_nil, or_false, not_or] at hpart
  simp [State.hookZone, hpart]

/-- The parts that `State.hookDrive` leaves alone. -/
@[simp] theorem State.hookDrive_get (idx : Nat) (sub : Nat) (v : Nat) (s : State) (part : Part) (hpart : part ∉ ([.comm, .oap, .nvm, .belt, .audio, .od, .wtime, .out] : List Part)) :
    (State.hookDrive idx sub v s).2.get part = s.get part := by
  simp only [List.mem_cons, List.not_mem_nil, or_false, not_or] at hpart
  simp [State.hookDrive, hpart]

/-- The parts that `State.hookSafety` leaves alone. -/
@[simp] theorem State.hookSafety_get (sub : Nat) (data : List Byte) (who : StoreFor) (s : State) (part : Part) (hpart : part ∉ ([.island, .fresh] : List Part)) :
    (State.hookSafety sub data who s).2.get part = s.get part := by
  simp only [List.mem_cons, List.not_mem_nil, or_false, not_or] at hpart
  unfold State.hookSafety
  simp only [waits, done]
  split <;> simp [hpart]

/-- The parts that `State.hookChoir` leaves alone. -/
@[simp] theorem State.hookChoir_get (idx : Nat) (sub : Nat) (v : Nat) (s : State) (part : Part) (hpart : part ∉ ([.comm, .oap, .nvm, .fabric, .memu, .choir, .od, .wtime, .mem, .fresh, .out] : List Part)) :
    (State.hookChoir idx sub v s).2.get part = s.get part := by
  simp only [List.mem_cons, List.not_mem_nil, or_false, not_or] at hpart
  simp [State.hookChoir, hpart]

/-- The parts that `State.hook` leaves alone. -/
@[simp] theorem State.hook_get (idx : Nat) (sub : Nat) (v : Nat) (data : List Byte) (who : StoreFor) (s : State) (part : Part) (hpart : part ∉ ([.beat, .comm, .oap, .nvm, .ports, .fabric, .press, .queue, .memu, .trellis, .choir, .zone, .belt, .audio, .island, .power, .video, .boot, .od, .inForce, .wtime, .regs, .mem, .fresh, .out] : List Part)) :
    (State.hook idx sub v data who s).2.get part = s.get part := by
  simp only [List.mem_cons, List.not_mem_nil, or_false, not_or] at hpart
  unfold State.hook
  simp only [done]
  (repeat' split) <;> simp [hpart]

/-- The parts that `State.writeEntry` leaves alone. -/
@[simp] theorem State.writeEntry_get (idx : Nat) (sub : Nat) (data : List Byte) (who : StoreFor) (s : State) (part : Part) (hpart : part ∉ ([.beat, .comm, .oap, .nvm, .ports, .fabric, .press, .queue, .memu, .trellis, .choir, .zone, .belt, .audio, .island, .power, .video, .boot, .od, .inForce, .wtime, .regs, .mem, .fresh, .out] : List Part)) :
    (State.writeEntry idx sub data who s).2.get part = s.get part := by
  simp only [List.mem_cons, List.not_mem_nil, or_false, not_or] at hpart
  unfold State.writeEntry
  split
  · rfl
  · rfl
  · simp [hpart]

/-- The parts that `State.afterWrite` leaves alone. -/
@[simp] theorem State.afterWrite_get (idx : Nat) (sub : Nat) (code : Nat) (s : State) (part : Part) (hpart : part ∉ ([.oap] : List Part)) :
    (State.afterWrite idx sub code s).get part = s.get part := by
  simp only [List.mem_cons, List.not_mem_nil, or_false] at hpart
  simp [State.afterWrite, hpart]

/-- The parts that `State.readEntry` leaves alone. -/
@[simp] theorem State.readEntry_get (idx : Nat) (sub : Nat) (s : State) (part : Part) (hpart : part ∉ ([.od] : List Part)) :
    (State.readEntry idx sub s).2.get part = s.get part := by
  simp only [List.mem_cons, List.not_mem_nil, or_false] at hpart
  simp [State.readEntry, hpart]

/-- The parts that `State.setSdo` leaves alone. -/
@[simp] theorem State.setSdo_get (x : SdoXfer) (x1 : State) (part : Part) (hpart : part ∉ ([.comm] : List Part)) :
    (State.setSdo x x1).get part = x1.get part := by
  simp only [List.mem_cons, List.not_mem_nil, or_false] at hpart
  simp [State.setSdo, hpart]

/-- The parts that `State.sdoStop` leaves alone. -/
@[simp] theorem State.sdoStop_get (code : Nat) (s : State) (part : Part) (hpart : part ∉ ([.comm, .out] : List Part)) :
    (State.sdoStop code s).get part = s.get part := by
  simp only [List.mem_cons, List.not_mem_nil, or_false, not_or] at hpart
  unfold State.sdoStop
  (repeat' split) <;> simp [*]

/-- The parts that `State.sdoWrite` leaves alone. -/
@[simp] theorem State.sdoWrite_get (idx : Nat) (sub : Nat) (data : List Byte) (s : State) (part : Part) (hpart : part ∉ ([.beat, .comm, .oap, .nvm, .ports, .fabric, .press, .queue, .memu, .trellis, .choir, .zone, .belt, .audio, .island, .power, .video, .boot, .od, .inForce, .wtime, .regs, .mem, .fresh, .out] : List Part)) :
    (State.sdoWrite idx sub data s).get part = s.get part := by
  simp only [List.mem_cons, List.not_mem_nil, or_false, not_or] at hpart
  have hw := State.writeEntry_get idx sub data .sdo s part (by simp [hpart])
  unfold State.sdoWrite
  split <;> rename_i heq <;> rw [heq] at hw <;> simp [hpart, hw]

/-- The parts that `State.onRpdo` leaves alone. -/
@[simp] theorem State.onRpdo_get (n : Nat) (f : RpdoSt → RpdoSt) (x2 : State) (part : Part) (hpart : part ∉ ([.comm] : List Part)) :
    (State.onRpdo n f x2).get part = x2.get part := by
  simp only [List.mem_cons, List.not_mem_nil, or_false] at hpart
  simp [State.onRpdo, hpart]

/-- The parts that `State.putMapped` leaves alone. -/
@[simp] theorem State.putMapped_get (x0 : List (Nat × Nat × Nat)) (x1 : List Byte) (x2 : State) (part : Part) (hpart : part ∉ ([.beat, .comm, .oap, .nvm, .ports, .fabric, .press, .queue, .memu, .trellis, .choir, .zone, .belt, .audio, .island, .power, .video, .boot, .od, .inForce, .wtime, .regs, .mem, .fresh, .out] : List Part)) :
    (State.putMapped x0 x1 x2).get part = x2.get part := by
  simp only [List.mem_cons, List.not_mem_nil, or_false, not_or] at hpart
  induction x0 generalizing x1 x2 with
  | nil => rfl
  | cons m t ih =>
    unfold State.putMapped
    rw [ih]
    exact State.writeEntry_get _ _ _ _ _ part (by simp [hpart])

/-- The parts that `State.rpdoApply` leaves alone. -/
@[simp] theorem State.rpdoApply_get (n : Nat) (data : List Byte) (s : State) (part : Part) (hpart : part ∉ ([.beat, .comm, .oap, .nvm, .ports, .fabric, .press, .queue, .memu, .trellis, .choir, .zone, .belt, .audio, .island, .power, .video, .boot, .od, .inForce, .wtime, .regs, .mem, .fresh, .out] : List Part)) :
    (State.rpdoApply n data s).get part = s.get part := by
  simp only [List.mem_cons, List.not_mem_nil, or_false, not_or] at hpart
  simp [State.rpdoApply, hpart]

/-- The parts that `State.tpdoSync` leaves alone. -/
@[simp] theorem State.tpdoSync_get (n : Nat) (s : State) (part : Part) (hpart : part ∉ ([.comm, .out] : List Part)) :
    (State.tpdoSync n s).get part = s.get part := by
  simp only [List.mem_cons, List.not_mem_nil, or_false, not_or] at hpart
  simp [State.tpdoSync, hpart]

/-- The parts that `State.rpdoSync` leaves alone. -/
@[simp] theorem State.rpdoSync_get (n : Nat) (s : State) (part : Part) (hpart : part ∉ ([.beat, .comm, .oap, .nvm, .ports, .fabric, .press, .queue, .memu, .trellis, .choir, .zone, .belt, .audio, .island, .power, .video, .boot, .od, .inForce, .wtime, .regs, .mem, .fresh, .out] : List Part)) :
    (State.rpdoSync n s).get part = s.get part := by
  simp only [List.mem_cons, List.not_mem_nil, or_false, not_or] at hpart
  unfold State.rpdoSync
  split
  · rfl
  · simp [hpart]

/-- The parts that `State.ethRestart` leaves alone. -/
@[simp] theorem State.ethRestart_get (p : Nat) (s : State) (part : Part) (hpart : part ∉ ([.oap, .od] : List Part)) :
    (State.ethRestart p s).get part = s.get part := by
  simp only [List.mem_cons, List.not_mem_nil, or_false, not_or] at hpart
  simp [State.ethRestart, hpart]

/-- The parts that `State.resetCommunication` leaves alone. -/
@[simp] theorem State.resetCommunication_get (s : State) (part : Part) (hpart : part ∉ ([.beat, .comm, .oap, .nvm, .belt, .audio, .od, .inForce, .fresh, .out] : List Part)) :
    (State.resetCommunication s).get part = s.get part := by
  simp only [List.mem_cons, List.not_mem_nil, or_false, not_or] at hpart
  simp [State.resetCommunication, hpart]

/-- The parts that `State.onLss` leaves alone. -/
@[simp] theorem State.onLss_get (f : Lss → Lss) (x1 : State) (part : Part) (hpart : part ∉ ([.comm] : List Part)) :
    (State.onLss f x1).get part = x1.get part := by
  simp only [List.mem_cons, List.not_mem_nil, or_false] at hpart
  simp [State.onLss, hpart]

/-- The parts that `State.lssDo` leaves alone. -/
@[simp] theorem State.lssDo_get (s : State) (f : State → State) (part : Part) (hf : ∀ y0, (f y0).get part = y0.get part) :
    (State.lssDo s f).get part = s.get part := by
  simp [State.lssDo, *]

/-- The parts that `State.lssLeave` leaves alone. -/
@[simp] theorem State.lssLeave_get (s : State) (part : Part) (hpart : part ∉ ([.beat, .comm, .belt, .audio, .fresh, .out] : List Part)) :
    (State.lssLeave s).get part = s.get part := by
  simp only [List.mem_cons, List.not_mem_nil, or_false, not_or] at hpart
  simp [State.lssLeave, hpart]

/-- The parts that `State.oapTake` leaves alone. -/
@[simp] theorem State.oapTake_get (h : OapHdr) (type : Nat) (index : Nat) (count : Nat) (data : List Byte) (f : State → State) (s : State) (part : Part) (hf : ∀ y0, (f y0).get part = y0.get part) (hpart : part ∉ ([.od, .out] : List Part)) :
    (State.oapTake h type index count data f s).get part = s.get part := by
  simp only [List.mem_cons, List.not_mem_nil, or_false, not_or] at hpart
  simp [State.oapTake, hpart, *]

/-- The parts that `State.oapMessage` leaves alone. -/
@[simp] theorem State.oapMessage_get (h : OapHdr) (type : Nat) (data : List Byte) (f : State → State) (x4 : State) (part : Part) (hf : ∀ y0, (f y0).get part = y0.get part) (hpart : part ∉ ([.od, .out] : List Part)) :
    (State.oapMessage h type data f x4).get part = x4.get part := by
  simp only [List.mem_cons, List.not_mem_nil, or_false, not_or] at hpart
  simp [State.oapMessage, hpart, *]

/-- The parts that `State.respond` leaves alone. -/
@[simp] theorem State.respond_get (h : OapHdr) (type : Nat) (code : Nat) (data : List Byte) (x4 : State) (part : Part) (hpart : part ∉ ([.oap, .out] : List Part)) :
    (State.respond h type code data x4).get part = x4.get part := by
  simp only [List.mem_cons, List.not_mem_nil, or_false, not_or] at hpart
  simp [State.respond, hpart]

/-- The parts that `State.seenBy` leaves alone. -/
@[simp] theorem State.seenBy_get (s : State) (h : OapHdr) (part : Part) (hpart : part ∉ ([.oap] : List Part)) :
    (State.seenBy s h).get part = s.get part := by
  simp only [List.mem_cons, List.not_mem_nil, or_false] at hpart
  simp [State.seenBy, hpart]

/-- The parts that `State.inSession` leaves alone. -/
@[simp] theorem State.inSession_get (h : OapHdr) (type : Nat) (f : OapSession → State → State) (s : State) (part : Part) (hf : ∀ y0 y1, (f y0 y1).get part = y1.get part) (hpart : part ∉ ([.oap, .out] : List Part)) :
    (State.inSession h type f s).get part = s.get part := by
  simp only [List.mem_cons, List.not_mem_nil, or_false, not_or] at hpart
  unfold State.inSession
  (repeat' split) <;> simp [*]

/-- The parts that `State.forwardTo` leaves alone. -/
@[simp] theorem State.forwardTo_get (h : OapHdr) (type : Nat) (data : List Byte) (s : State) (part : Part) (hpart : part ∉ ([.oap, .choir, .out] : List Part)) :
    (State.forwardTo h type data s).get part = s.get part := by
  simp only [List.mem_cons, List.not_mem_nil, or_false, not_or] at hpart
  simp [State.forwardTo, hpart]

/-- The parts that `State.atTarget` leaves alone. -/
@[simp] theorem State.atTarget_get (h : OapHdr) (type : Nat) (data : List Byte) (f : State → State) (s : State) (part : Part) (hf : ∀ y0, (f y0).get part = y0.get part) (hpart : part ∉ ([.oap, .choir, .out] : List Part)) :
    (State.atTarget h type data f s).get part = s.get part := by
  simp only [List.mem_cons, List.not_mem_nil, or_false, not_or] at hpart
  simp [State.atTarget, hpart, *]

/-- The parts that `State.openSession` leaves alone. -/
@[simp] theorem State.openSession_get (h : OapHdr) (rights : Nat) (code : BitVec 32) (s : State) (part : Part) (hpart : part ∉ ([.oap, .fresh, .out] : List Part)) :
    (State.openSession h rights code s).get part = s.get part := by
  simp only [List.mem_cons, List.not_mem_nil, or_false, not_or] at hpart
  simp [State.openSession, hpart]

/-- The parts that `State.reqOpen` leaves alone. -/
@[simp] theorem State.reqOpen_get (h : OapHdr) (rights : Nat) (code : BitVec 32) (x3 : State) (part : Part) (hpart : part ∉ ([.oap, .choir, .fresh, .out] : List Part)) :
    (State.reqOpen h rights code x3).get part = x3.get part := by
  simp only [List.mem_cons, List.not_mem_nil, or_false, not_or] at hpart
  simp [State.reqOpen, hpart]

/-- The parts that `State.endSession` leaves alone. -/
@[simp] theorem State.endSession_get (token : BitVec 64) (x1 : State) (part : Part) (hpart : part ∉ ([.oap] : List Part)) :
    (State.endSession token x1).get part = x1.get part := by
  simp only [List.mem_cons, List.not_mem_nil, or_false] at hpart
  simp [State.endSession, hpart]

/-- The parts that `State.reqClose` leaves alone. -/
@[simp] theorem State.reqClose_get (h : OapHdr) (x1 : State) (part : Part) (hpart : part ∉ ([.oap, .choir, .out] : List Part)) :
    (State.reqClose h x1).get part = x1.get part := by
  simp only [List.mem_cons, List.not_mem_nil, or_false, not_or] at hpart
  unfold State.reqClose
  refine State.inSession_get _ _ _ _ part (fun y t => State.atTarget_get _ _ _ _ t part (fun u => ?_) (by simp [hpart])) (by simp [hpart])
  simp [hpart]

/-- The parts that `State.reqKeepalive` leaves alone. -/
@[simp] theorem State.reqKeepalive_get (h : OapHdr) (x1 : State) (part : Part) (hpart : part ∉ ([.oap, .choir, .out] : List Part)) :
    (State.reqKeepalive h x1).get part = x1.get part := by
  simp only [List.mem_cons, List.not_mem_nil, or_false, not_or] at hpart
  unfold State.reqKeepalive
  refine State.inSession_get _ _ _ _ part (fun y t => State.atTarget_get _ _ _ _ t part (fun u => ?_) (by simp [hpart])) (by simp [hpart])
  simp [hpart]

/-- The parts that `State.readAll` leaves alone. -/
@[simp] theorem State.readAll_get (x0 : List (Nat × Nat)) (x1 : State) (part : Part) (hpart : part ∉ ([.od] : List Part)) :
    (State.readAll x0 x1).2.get part = x1.get part := by
  simp only [List.mem_cons, List.not_mem_nil, or_false] at hpart
  induction x0 generalizing x1 with
  | nil => rfl
  | cons r t ih =>
    unfold State.readAll
    dsimp only
    rw [ih]
    exact State.readEntry_get _ _ _ part (by simp [hpart])

/-- The parts that `State.serveRead_extra` leaves alone. -/
@[simp] theorem State.serveRead_get (idx : Nat) (sub : Nat) (s : State) (part : Part) (hpart : part ∉ ([.od] : List Part)) :
    (State.serveRead idx sub s).2.2.get part = s.get part := by
  have hw := State.readEntry_get idx sub s part hpart
  unfold State.serveRead
  split <;> rename_i heq <;> rw [heq] at hw <;> exact hw

/-- The parts that `State.serveMulti_extra` leaves alone. -/
@[simp] theorem State.serveMulti_get (refs : List (Nat × Nat)) (s : State) (part : Part) (hpart : part ∉ ([.od] : List Part)) :
    (State.serveMulti refs s).2.2.get part = s.get part := by
  unfold State.serveMulti
  split
  · rfl
  · exact State.readAll_get refs s part hpart

/-- The parts that `State.serveWrite` leaves alone. -/
@[simp] theorem State.serveWrite_get (idx : Nat) (sub : Nat) (type : Nat) (data : List Byte) (who : StoreFor) (s : State) (part : Part) (hpart : part ∉ ([.beat, .comm, .oap, .nvm, .ports, .fabric, .press, .queue, .memu, .trellis, .choir, .zone, .belt, .audio, .island, .power, .video, .boot, .od, .inForce, .wtime, .regs, .mem, .fresh, .out] : List Part)) :
    (State.serveWrite idx sub type data who s).2.get part = s.get part := by
  simp only [List.mem_cons, List.not_mem_nil, or_false, not_or] at hpart
  simp [State.serveWrite, hpart]

/-- The parts that `State.reqRead` leaves alone. -/
@[simp] theorem State.reqRead_get (h : OapHdr) (idx : Nat) (sub : Nat) (x3 : State) (part : Part) (hpart : part ∉ ([.oap, .choir, .od, .out] : List Part)) :
    (State.reqRead h idx sub x3).get part = x3.get part := by
  simp only [List.mem_cons, List.not_mem_nil, or_false, not_or] at hpart
  unfold State.reqRead
  refine State.inSession_get _ _ _ _ part (fun y t => State.atTarget_get _ _ _ _ t part (fun u => ?_) (by simp [hpart])) (by simp [hpart])
  simp [hpart]

/-- The parts that `State.reqWrite` leaves alone. -/
@[simp] theorem State.reqWrite_get (h : OapHdr) (idx : Nat) (sub : Nat) (type : Nat) (data : List Byte) (x5 : State) (part : Part) (hpart : part ∉ ([.beat, .comm, .oap, .nvm, .ports, .fabric, .press, .queue, .memu, .trellis, .choir, .zone, .belt, .audio, .island, .power, .video, .boot, .od, .inForce, .wtime, .regs, .mem, .fresh, .out] : List Part)) :
    (State.reqWrite h idx sub type data x5).get part = x5.get part := by
  simp only [List.mem_cons, List.not_mem_nil, or_false, not_or] at hpart
  unfold State.reqWrite
  refine State.inSession_get _ _ _ _ part (fun y t => ?_) (by simp [hpart])
  rw [State.get_ite]
  split
  · simp [hpart]
  · refine State.atTarget_get _ _ _ _ t part (fun u => ?_) (by simp [hpart])
    have hw := State.serveWrite_get idx sub type data (.oap h.host h.token h.seq) u part (by simp [hpart])
    split <;> rename_i heq <;> rw [heq] at hw <;> first | exact hw | (simp [hpart]; exact hw)

/-- The parts that `State.reqMulti` leaves alone. -/
@[simp] theorem State.reqMulti_get (h : OapHdr) (refs : List (Nat × Nat)) (x2 : State) (part : Part) (hpart : part ∉ ([.oap, .choir, .od, .out] : List Part)) :
    (State.reqMulti h refs x2).get part = x2.get part := by
  simp only [List.mem_cons, List.not_mem_nil, or_false, not_or] at hpart
  unfold State.reqMulti
  refine State.inSession_get _ _ _ _ part (fun y t => State.atTarget_get _ _ _ _ t part (fun u => ?_) (by simp [hpart])) (by simp [hpart])
  simp [hpart]

/-- The parts that `State.serveSubscribe_extra` leaves alone. -/
@[simp] theorem State.serveSubscribe_get (token : BitVec 64) (x : OapSession) (period : Nat) (refs : List (Nat × Nat)) (s : State) (part : Part) (hpart : part ∉ ([.oap] : List Part)) :
    (State.serveSubscribe token x period refs s).2.2.get part = s.get part := by
  simp only [List.mem_cons, List.not_mem_nil, or_false] at hpart
  unfold State.serveSubscribe
  split
  · rfl
  · split
    · rfl
    · simp [hpart]

/-- The parts that `State.serveUnsubscribe` leaves alone. -/
@[simp] theorem State.serveUnsubscribe_get (token : BitVec 64) (x : OapSession) (id : Nat) (s : State) (part : Part) (hpart : part ∉ ([.oap] : List Part)) :
    (State.serveUnsubscribe token x id s).2.get part = s.get part := by
  simp only [List.mem_cons, List.not_mem_nil, or_false] at hpart
  simp [State.serveUnsubscribe, hpart]

/-- The parts that `State.serveStream` leaves alone. -/
@[simp] theorem State.serveStream_get (token : BitVec 64) (enable : Bool) (decimate : Nat) (s : State) (part : Part) (hpart : part ∉ ([.oap] : List Part)) :
    (State.serveStream token enable decimate s).2.get part = s.get part := by
  simp only [List.mem_cons, List.not_mem_nil, or_false] at hpart
  simp [State.serveStream, hpart]

/-- The parts that `State.reqSubscribe` leaves alone. -/
@[simp] theorem State.reqSubscribe_get (h : OapHdr) (period : Nat) (refs : List (Nat × Nat)) (x3 : State) (part : Part) (hpart : part ∉ ([.oap, .choir, .out] : List Part)) :
    (State.reqSubscribe h period refs x3).get part = x3.get part := by
  simp only [List.mem_cons, List.not_mem_nil, or_false, not_or] at hpart
  unfold State.reqSubscribe
  refine State.inSession_get _ _ _ _ part (fun y t => State.atTarget_get _ _ _ _ t part (fun u => ?_) (by simp [hpart])) (by simp [hpart])
  simp [hpart]

/-- The parts that `State.reqUnsubscribe` leaves alone. -/
@[simp] theorem State.reqUnsubscribe_get (h : OapHdr) (id : Nat) (x2 : State) (part : Part) (hpart : part ∉ ([.oap, .choir, .out] : List Part)) :
    (State.reqUnsubscribe h id x2).get part = x2.get part := by
  simp only [List.mem_cons, List.not_mem_nil, or_false, not_or] at hpart
  unfold State.reqUnsubscribe
  refine State.inSession_get _ _ _ _ part (fun y t => State.atTarget_get _ _ _ _ t part (fun u => ?_) (by simp [hpart])) (by simp [hpart])
  simp [hpart]

/-- The parts that `State.reqStream` leaves alone. -/
@[simp] theorem State.reqStream_get (h : OapHdr) (enable : Bool) (decimate : Nat) (x3 : State) (part : Part) (hpart : part ∉ ([.oap, .choir, .out] : List Part)) :
    (State.reqStream h enable decimate x3).get part = x3.get part := by
  simp only [List.mem_cons, List.not_mem_nil, or_false, not_or] at hpart
  unfold State.reqStream
  refine State.inSession_get _ _ _ _ part (fun y t => State.atTarget_get _ _ _ _ t part (fun u => ?_) (by simp [hpart])) (by simp [hpart])
  simp [hpart]

/-- The parts that `State.reqUnknown` leaves alone. -/
@[simp] theorem State.reqUnknown_get (h : OapHdr) (type : Nat) (s : State) (part : Part) (hpart : part ∉ ([.oap, .out] : List Part)) :
    (State.reqUnknown h type s).get part = s.get part := by
  simp only [List.mem_cons, List.not_mem_nil, or_false, not_or] at hpart
  simp [State.reqUnknown, hpart]

/-- The parts that `State.reqWhole` leaves alone. -/
@[simp] theorem State.reqWhole_get (h : OapHdr) (type : Nat) (l : List Byte) (s : State) (part : Part) (hpart : part ∉ ([.beat, .comm, .oap, .nvm, .ports, .fabric, .press, .queue, .memu, .trellis, .choir, .zone, .belt, .audio, .island, .power, .video, .boot, .od, .inForce, .wtime, .regs, .mem, .fresh, .out] : List Part)) :
    (State.reqWhole h type l s).get part = s.get part := by
  simp only [List.mem_cons, List.not_mem_nil, or_false, not_or] at hpart
  have hb : ∀ t, (State.inSession h type (fun _ t => t.respond h type 0x08000000 []) t).get part = t.get part := fun t =>
    State.inSession_get _ _ _ _ part (fun _ _ => by simp [hpart]) (by simp [hpart])
  unfold State.reqWhole
  dsimp only
  split <;> (try split) <;> first | exact hb _ | simp [hpart]

/-- The parts that `State.takeFrag` leaves alone. -/
@[simp] theorem State.takeFrag_get (h : OapHdr) (type : Nat) (index : Nat) (count : Nat) (data : List Byte) (s : State) (part : Part) (hpart : part ∉ ([.beat, .comm, .oap, .nvm, .ports, .fabric, .press, .queue, .memu, .trellis, .choir, .zone, .belt, .audio, .island, .power, .video, .boot, .od, .inForce, .wtime, .regs, .mem, .fresh, .out] : List Part)) :
    (State.takeFrag h type index count data s).get part = s.get part := by
  simp only [List.mem_cons, List.not_mem_nil, or_false, not_or] at hpart
  simp [State.takeFrag, hpart]

/-- The parts that `State.announceGain` leaves alone. -/
@[simp] theorem State.announceGain_get (p : Nat) (v6 : Bool) (s : State) (part : Part) (hpart : part ∉ ([.oap, .fresh, .out] : List Part)) :
    (State.announceGain p v6 s).get part = s.get part := by
  simp only [List.mem_cons, List.not_mem_nil, or_false, not_or] at hpart
  simp [State.announceGain, hpart]

/-- The parts that `State.forwardAnswer` leaves alone. -/
@[simp] theorem State.forwardAnswer_get (src : Nat) (h : OapHdr) (type : Nat) (code : Nat) (data : List Byte) (x5 : State) (part : Part) (hpart : part ∉ ([.choir, .out] : List Part)) :
    (State.forwardAnswer src h type code data x5).get part = x5.get part := by
  simp only [List.mem_cons, List.not_mem_nil, or_false, not_or] at hpart
  simp [State.forwardAnswer, hpart]

/-- The parts that `State.keepVia` leaves alone. -/
@[simp] theorem State.keepVia_get (src : Nat) (h : OapHdr) (s : State) (part : Part) (hpart : part ∉ ([.oap] : List Part)) :
    (State.keepVia src h s).get part = s.get part := by
  simp only [List.mem_cons, List.not_mem_nil, or_false] at hpart
  simp [State.keepVia, hpart]

/-- The parts that `State.serveForward` leaves alone. -/
@[simp] theorem State.serveForward_get (src : Nat) (h : OapHdr) (type : Nat) (l : List Byte) (s : State) (part : Part) (hpart : part ∉ ([.beat, .comm, .oap, .nvm, .ports, .fabric, .press, .queue, .memu, .trellis, .choir, .zone, .belt, .audio, .island, .power, .video, .boot, .od, .inForce, .wtime, .regs, .mem, .fresh, .out] : List Part)) :
    (State.serveForward src h type l s).get part = s.get part := by
  simp only [List.mem_cons, List.not_mem_nil, or_false, not_or] at hpart
  have hw := State.serveWrite_get (numAt l 0 2) (numAt l 2 1) (numAt l 4 2) (l.drop 8) (.fwd src h.host h.token h.seq) s part (by simp [hpart])
  unfold State.serveForward
  dsimp only
  split
  · simp [hpart]
  · simp [hpart]
  · simp [hpart]
  · split <;> simp [hpart]
  · split
    · split <;> rename_i heq <;> rw [heq] at hw <;> first | exact hw | (simp [hpart]; exact hw)
    · simp [hpart]
  · split <;> simp [hpart]
  · split <;> simp [hpart]
  · split <;> simp [hpart]
  · split <;> simp [hpart]
  · simp [hpart]

/-- The parts that `State.toHost` leaves alone. -/
@[simp] theorem State.toHost_get (x : OapSession) (type : Nat) (data : List Byte) (s : State) (part : Part) (hpart : part ∉ ([.oap, .choir, .out] : List Part)) :
    (State.toHost x type data s).get part = s.get part := by
  simp only [List.mem_cons, List.not_mem_nil, or_false, not_or] at hpart
  unfold State.toHost
  (repeat' split) <;> simp [*]

/-- The parts that `State.takeForward` leaves alone. -/
@[simp] theorem State.takeForward_get (src : Nat) (m : ForwardMsg) (s : State) (part : Part) (hpart : part ∉ ([.beat, .comm, .oap, .nvm, .ports, .fabric, .press, .queue, .memu, .trellis, .choir, .zone, .belt, .audio, .island, .power, .video, .boot, .od, .inForce, .wtime, .regs, .mem, .fresh, .out] : List Part)) :
    (State.takeForward src m s).get part = s.get part := by
  simp only [List.mem_cons, List.not_mem_nil, or_false, not_or] at hpart
  unfold State.takeForward
  (repeat' split) <;> simp [*]

/-- The parts that `State.notify` leaves alone. -/
@[simp] theorem State.notify_get (x : OapSession) (u : OapSub) (s : State) (part : Part) (hpart : part ∉ ([.oap, .choir, .out] : List Part)) :
    (State.notify x u s).get part = s.get part := by
  simp only [List.mem_cons, List.not_mem_nil, or_false, not_or] at hpart
  simp [State.notify, hpart]

/-- The parts that `State.notifyAll` leaves alone. -/
@[simp] theorem State.notifyAll_get (s : State) (part : Part) (hpart : part ∉ ([.oap, .choir, .out] : List Part)) :
    (State.notifyAll s).get part = s.get part := by
  simp only [List.mem_cons, List.not_mem_nil, or_false, not_or] at hpart
  unfold State.notifyAll
  try dsimp only
  repeat' split
  all_goals try simp [hpart]
  all_goals try (rename_i heq; have hv := congrArg Prod.snd heq; dsimp only at hv; subst hv; simp [hpart])
  all_goals try refine (State.get_foldl _ _ _ _ (fun _ _ => ?_)).trans ?_
  all_goals try (repeat' split)
  all_goals try simp [hpart]
  all_goals try refine (State.get_foldl _ _ _ _ (fun _ _ => ?_)).trans ?_
  all_goals try (repeat' split)
  all_goals simp [hpart]

/-- The parts that `State.verdictOut` leaves alone. -/
@[simp] theorem State.verdictOut_get (bytes : List Byte) (s : State) (part : Part) (hpart : part ∉ ([.oap, .choir, .out] : List Part)) :
    (State.verdictOut bytes s).get part = s.get part := by
  simp only [List.mem_cons, List.not_mem_nil, or_false, not_or] at hpart
  simp [State.verdictOut, hpart]

/-- The parts that `State.takeForce` leaves alone. -/
@[simp] theorem State.takeForce_get (idx : Nat) (sub : Nat) (s : State) (part : Part) (hpart : part ∉ ([.inForce, .wtime] : List Part)) :
    (State.takeForce idx sub s).get part = s.get part := by
  simp only [List.mem_cons, List.not_mem_nil, or_false, not_or] at hpart
  unfold State.takeForce
  (repeat' split) <;> simp [*]

/-- The parts that `State.beatForces` leaves alone. -/
@[simp] theorem State.beatForces_get (s : State) (part : Part) (hpart : part ∉ ([.beat, .inForce, .wtime] : List Part)) :
    (State.beatForces s).get part = s.get part := by
  simp only [List.mem_cons, List.not_mem_nil, or_false, not_or] at hpart
  unfold State.beatForces
  dsimp only
  have h1 : ∀ (l : List Nat) (i : Nat) (t : State), (l.foldl (fun a k => a.takeForce i k) t).get part = t.get part :=
    fun l i t => State.get_foldl _ _ _ _ (fun _ _ => by simp [hpart])
  have h2 : ∀ (l : List Nat) (t : State),
      (l.foldl (fun a n => portBoundarySubs.foldl (fun b k => b.takeForce (portIdx n) k) a) t).get part = t.get part :=
    fun l t => State.get_foldl _ _ _ _ (fun _ _ => h1 _ _ _)
  (repeat' split) <;> simp [hpart, h1, h2]

/-- The parts that `State.eraForces` leaves alone. -/
@[simp] theorem State.eraForces_get (s : State) (part : Part) (hpart : part ∉ ([.inForce, .wtime] : List Part)) :
    (State.eraForces s).get part = s.get part := by
  simp only [List.mem_cons, List.not_mem_nil, or_false, not_or] at hpart
  simp [State.eraForces, hpart]

/-- The parts that `State.endEpisode` leaves alone. -/
@[simp] theorem State.endEpisode_get (s : State) (part : Part) (hpart : part ∉ ([.beat, .comm, .oap, .nvm, .out] : List Part)) :
    (State.endEpisode s).get part = s.get part := by
  simp only [List.mem_cons, List.not_mem_nil, or_false, not_or] at hpart
  simp [State.endEpisode, hpart]

/-- The parts that `State.eraWork` leaves alone. -/
@[simp] theorem State.eraWork_get (s : State) (part : Part) (hpart : part ∉ ([.beat, .comm, .oap, .nvm, .fabric, .memu, .choir, .od, .inForce, .wtime, .mem, .fresh, .out] : List Part)) :
    (State.eraWork s).get part = s.get part := by
  simp only [List.mem_cons, List.not_mem_nil, or_false, not_or] at hpart
  simp [State.eraWork, hpart]

/-- The parts that `State.hardHaltDue` leaves alone. -/
@[simp] theorem State.hardHaltDue_get (s : State) (part : Part) (hpart : part ∉ ([.beat, .comm, .oap, .nvm, .trellis, .power, .out] : List Part)) :
    (State.hardHaltDue s).get part = s.get part := by
  simp only [List.mem_cons, List.not_mem_nil, or_false, not_or] at hpart
  unfold State.hardHaltDue
  (repeat' split) <;> simp [*]

/-- The parts that `State.ingestNext` leaves alone. -/
@[simp] theorem State.ingestNext_get (s : State) (part : Part) (hpart : part ∉ ([.beat] : List Part)) :
    (State.ingestNext s).get part = s.get part := by
  simp only [List.mem_cons, List.not_mem_nil, or_false] at hpart
  simp [State.ingestNext, hpart]

/-- The parts that `State.ingestTurn` leaves alone. -/
@[simp] theorem State.ingestTurn_get (s : State) (part : Part) (hpart : part ∉ ([.beat, .power] : List Part)) :
    (State.ingestTurn s).get part = s.get part := by
  simp only [List.mem_cons, List.not_mem_nil, or_false, not_or] at hpart
  unfold State.ingestTurn
  (repeat' split) <;> simp [*]

/-- The parts that `State.noteLagged` leaves alone. -/
@[simp] theorem State.noteLagged_get (l : List BeatWork) (x1 : State) (part : Part) (hpart : part ∉ ([.power] : List Part)) :
    (State.noteLagged l x1).get part = x1.get part := by
  simp only [List.mem_cons, List.not_mem_nil, or_false] at hpart
  simp [State.noteLagged, hpart]

/-- The parts that `State.pressShed` leaves alone. -/
@[simp] theorem State.pressShed_get (n : Nat) (s : State) (part : Part) (hpart : part ∉ ([.beat, .comm, .oap, .nvm, .press, .power, .od, .out] : List Part)) :
    (State.pressShed n s).get part = s.get part := by
  simp only [List.mem_cons, List.not_mem_nil, or_false, not_or] at hpart
  simp [State.pressShed, hpart]

/-- The parts that `State.voiceLagWork` leaves alone. -/
@[simp] theorem State.voiceLagWork_get (s : State) (part : Part) (hpart : part ∉ ([.beat, .comm, .oap, .nvm, .ports, .fabric, .press, .memu, .choir, .power, .od, .mem, .fresh, .out] : List Part)) :
    (State.voiceLagWork s).get part = s.get part := by
  simp only [List.mem_cons, List.not_mem_nil, or_false, not_or] at hpart
  simp [State.voiceLagWork, hpart]

/-- The parts that `State.pressLagWork` leaves alone. -/
@[simp] theorem State.pressLagWork_get (s : State) (part : Part) (hpart : part ∉ ([.beat, .comm, .oap, .nvm, .press, .power, .od, .out] : List Part)) :
    (State.pressLagWork s).get part = s.get part := by
  simp only [List.mem_cons, List.not_mem_nil, or_false, not_or] at hpart
  simp [State.pressLagWork, hpart]

/-- The parts that `State.policies` leaves alone. -/
@[simp] theorem State.policies_get (s : State) (part : Part) (hpart : part ∉ ([.beat] : List Part)) :
    (State.policies s).get part = s.get part := by
  simp only [List.mem_cons, List.not_mem_nil, or_false] at hpart
  simp [State.policies, hpart]

/-- The parts that `State.lagWork` leaves alone. -/
@[simp] theorem State.lagWork_get (s : State) (part : Part) (hpart : part ∉ ([.beat, .comm, .oap, .nvm, .ports, .fabric, .press, .memu, .choir, .power, .od, .mem, .fresh, .out] : List Part)) :
    (State.lagWork s).get part = s.get part := by
  simp only [List.mem_cons, List.not_mem_nil, or_false, not_or] at hpart
  simp [State.lagWork, hpart]

/-- The parts that `State.countVerdict` leaves alone. -/
@[simp] theorem State.countVerdict_get (v : Verdict) (s : State) (part : Part) (hpart : part ∉ ([.od] : List Part)) :
    (State.countVerdict v s).get part = s.get part := by
  simp only [List.mem_cons, List.not_mem_nil, or_false] at hpart
  simp [State.countVerdict, hpart]

/-- The parts that `State.publish` leaves alone. -/
@[simp] theorem State.publish_get (w : BeatWork) (v : Verdict) (s : State) (part : Part) (hpart : part ∉ ([.beat, .comm, .oap, .nvm, .press, .choir, .zone, .belt, .od, .out] : List Part)) :
    (State.publish w v s).get part = s.get part := by
  simp only [List.mem_cons, List.not_mem_nil, or_false, not_or] at hpart
  simp [State.publish, hpart]

/-- The parts that `State.publishList` leaves alone. -/
@[simp] theorem State.publishList_get (x0 : List BeatWork) (x1 : State) (part : Part) (hpart : part ∉ ([.beat, .comm, .oap, .nvm, .press, .choir, .zone, .belt, .od, .out] : List Part)) :
    (State.publishList x0 x1).get part = x1.get part := by
  simp only [List.mem_cons, List.not_mem_nil, or_false, not_or] at hpart
  induction x0 generalizing x1 <;> unfold State.publishList <;> (try dsimp only) <;> (repeat' split) <;> simp_all

/-- The parts that `State.retire` leaves alone. -/
@[simp] theorem State.retire_get (s : State) (part : Part) (hpart : part ∉ ([.beat] : List Part)) :
    (State.retire s).get part = s.get part := by
  simp only [List.mem_cons, List.not_mem_nil, or_false] at hpart
  simp [State.retire, hpart]

/-- The parts that `State.publishAll` leaves alone. -/
@[simp] theorem State.publishAll_get (s : State) (part : Part) (hpart : part ∉ ([.beat, .comm, .oap, .nvm, .press, .choir, .zone, .belt, .od, .out] : List Part)) :
    (State.publishAll s).get part = s.get part := by
  simp only [List.mem_cons, List.not_mem_nil, or_false, not_or] at hpart
  simp [State.publishAll, hpart]

/-- The parts that `State.syncOutTurn` leaves alone. -/
@[simp] theorem State.syncOutTurn_get (s : State) (part : Part) (hpart : part ∉ ([.beat] : List Part)) :
    (State.syncOutTurn s).get part = s.get part := by
  simp only [List.mem_cons, List.not_mem_nil, or_false] at hpart
  simp [State.syncOutTurn, hpart]

/-- The parts that `State.beatInterrupt` leaves alone. -/
@[simp] theorem State.beatInterrupt_get (s : State) (part : Part) (hpart : part ∉ ([.out] : List Part)) :
    (State.beatInterrupt s).get part = s.get part := by
  simp only [List.mem_cons, List.not_mem_nil, or_false] at hpart
  simp [State.beatInterrupt, hpart]

/-- The parts that `State.beatIrq` leaves alone. -/
@[simp] theorem State.beatIrq_get (s : State) (part : Part) (hpart : part ∉ ([.beat, .out] : List Part)) :
    (State.beatIrq s).get part = s.get part := by
  simp only [List.mem_cons, List.not_mem_nil, or_false, not_or] at hpart
  simp [State.beatIrq, hpart]

/-- The parts that `State.snapZones` leaves alone. -/
@[simp] theorem State.snapZones_get (s : State) (part : Part) (hpart : part ∉ ([.press] : List Part)) :
    (State.snapZones s).get part = s.get part := by
  simp only [List.mem_cons, List.not_mem_nil, or_false] at hpart
  simp [State.snapZones, hpart]

/-- The parts that `State.boundaryUp` leaves alone. -/
@[simp] theorem State.boundaryUp_get (s : State) (part : Part) (hpart : part ∉ ([.beat, .comm, .oap, .nvm, .ports, .fabric, .press, .queue, .memu, .trellis, .choir, .zone, .belt, .audio, .island, .power, .video, .boot, .od, .inForce, .wtime, .regs, .mem, .fresh, .out] : List Part)) :
    (State.boundaryUp s).get part = s.get part := by
  simp only [List.mem_cons, List.not_mem_nil, or_false, not_or] at hpart
  simp [State.boundaryUp, hpart]

/-- The parts that `State.writeBeatIrq` leaves alone. -/
@[simp] theorem State.writeBeatIrq_get (v : Nat) (s : State) (part : Part) (hpart : part ∉ ([.beat, .out] : List Part)) :
    (State.writeBeatIrq v s).get part = s.get part := by
  simp only [List.mem_cons, List.not_mem_nil, or_false, not_or] at hpart
  simp [State.writeBeatIrq, hpart]

/-- The parts that `State.writeNvm` leaves alone. -/
@[simp] theorem State.writeNvm_get (c : Nat) (off : Nat) (v : Nat) (s : State) (part : Part) (hpart : part ∉ ([.nvm] : List Part)) :
    (State.writeNvm c off v s).get part = s.get part := by
  simp only [List.mem_cons, List.not_mem_nil, or_false] at hpart
  simp [State.writeNvm, hpart]

/-- The parts that `State.writeBootControl` leaves alone. -/
@[simp] theorem State.writeBootControl_get (v : Nat) (s : State) (part : Part) (hpart : part ∉ ([.memu, .boot, .regs, .mem] : List Part)) :
    (State.writeBootControl v s).get part = s.get part := by
  simp only [List.mem_cons, List.not_mem_nil, or_false, not_or] at hpart
  unfold State.writeBootControl
  (repeat' split) <;> simp [*]

/-- The parts that `State.writeSecurity` leaves alone. -/
@[simp] theorem State.writeSecurity_get (off : Nat) (v : Nat) (s : State) (part : Part) (hpart : part ∉ ([.beat, .comm, .oap, .nvm, .ports, .fabric, .press, .queue, .memu, .trellis, .choir, .zone, .belt, .audio, .island, .power, .video, .boot, .od, .inForce, .wtime, .regs, .mem, .fresh, .out] : List Part)) :
    (State.writeSecurity off v s).get part = s.get part := by
  simp only [List.mem_cons, List.not_mem_nil, or_false, not_or] at hpart
  unfold State.writeSecurity
  split <;> (try dsimp only) <;> (repeat' split) <;> simp [hpart]

/-- The parts that `State.writeDispatch` leaves alone. -/
@[simp] theorem State.writeDispatch_get (t : Nat) (off : Nat) (v : Nat) (s : State) (part : Part) (hpart : part ∉ ([.beat, .press, .power, .od, .regs] : List Part)) :
    (State.writeDispatch t off v s).get part = s.get part := by
  simp only [List.mem_cons, List.not_mem_nil, or_false, not_or] at hpart
  unfold State.writeDispatch
  (repeat' split) <;> simp [*]

/-- The parts that `State.writeRing` leaves alone. -/
@[simp] theorem State.writeRing_get (m : Nat) (v : Nat) (s : State) (part : Part) (hpart : part ∉ ([.memu] : List Part)) :
    (State.writeRing m v s).get part = s.get part := by
  simp only [List.mem_cons, List.not_mem_nil, or_false] at hpart
  simp [State.writeRing, hpart]

/-- The parts that `State.writeMover` leaves alone. -/
@[simp] theorem State.writeMover_get (m : Nat) (off : Nat) (v : Nat) (s : State) (part : Part) (hpart : part ∉ ([.memu] : List Part)) :
    (State.writeMover m off v s).get part = s.get part := by
  simp only [List.mem_cons, List.not_mem_nil, or_false] at hpart
  unfold State.writeMover
  (repeat' split) <;> simp [*]

/-- The parts that `State.writeMovers` leaves alone. -/
@[simp] theorem State.writeMovers_get (off : Nat) (v : Nat) (s : State) (part : Part) (hpart : part ∉ ([.memu, .regs] : List Part)) :
    (State.writeMovers off v s).get part = s.get part := by
  simp only [List.mem_cons, List.not_mem_nil, or_false, not_or] at hpart
  simp [State.writeMovers, hpart]

/-- The parts that `State.writeQIrq` leaves alone. -/
@[simp] theorem State.writeQIrq_get (q : Nat) (v : Nat) (s : State) (part : Part) (hpart : part ∉ ([.queue, .out] : List Part)) :
    (State.writeQIrq q v s).get part = s.get part := by
  simp only [List.mem_cons, List.not_mem_nil, or_false, not_or] at hpart
  simp [State.writeQIrq, hpart]

/-- The parts that `State.writePush` leaves alone. -/
@[simp] theorem State.writePush_get (c : Nat) (q : Nat) (v : Nat) (s : State) (part : Part) (hpart : part ∉ ([.nvm, .queue, .od, .mem, .fresh, .out] : List Part)) :
    (State.writePush c q v s).get part = s.get part := by
  simp only [List.mem_cons, List.not_mem_nil, or_false, not_or] at hpart
  simp [State.writePush, hpart]

/-- The parts that `State.writeQueue` leaves alone. -/
@[simp] theorem State.writeQueue_get (c : Nat) (q : Nat) (off : Nat) (v : Nat) (s : State) (part : Part) (hpart : part ∉ ([.nvm, .queue, .od, .mem, .fresh, .out] : List Part)) :
    (State.writeQueue c q off v s).get part = s.get part := by
  simp only [List.mem_cons, List.not_mem_nil, or_false, not_or] at hpart
  simp [State.writeQueue, hpart]

/-- The parts that `State.writeQueues` leaves alone. -/
@[simp] theorem State.writeQueues_get (c : Nat) (off : Nat) (v : Nat) (s : State) (part : Part) (hpart : part ∉ ([.nvm, .queue, .od, .regs, .mem, .fresh, .out] : List Part)) :
    (State.writeQueues c off v s).get part = s.get part := by
  simp only [List.mem_cons, List.not_mem_nil, or_false, not_or] at hpart
  simp [State.writeQueues, hpart]

/-- The parts that `State.writeAudio` leaves alone. -/
@[simp] theorem State.writeAudio_get (off : Nat) (v : Nat) (s : State) (part : Part) (hpart : part ∉ ([.audio] : List Part)) :
    (State.writeAudio off v s).get part = s.get part := by
  simp only [List.mem_cons, List.not_mem_nil, or_false] at hpart
  unfold State.writeAudio
  (repeat' split) <;> simp [*]

/-- The parts that `State.coreControl` leaves alone. -/
@[simp] theorem State.coreControl_get (c : Nat) (v : Nat) (s : State) (part : Part) (hpart : part ∉ ([.fabric, .memu, .mem] : List Part)) :
    (State.coreControl c v s).get part = s.get part := by
  simp only [List.mem_cons, List.not_mem_nil, or_false, not_or] at hpart
  simp [State.coreControl, hpart]

/-- The parts that `State.writeCore` leaves alone. -/
@[simp] theorem State.writeCore_get (c : Nat) (off : Nat) (v : Nat) (s : State) (part : Part) (hpart : part ∉ ([.fabric, .memu, .regs, .mem] : List Part)) :
    (State.writeCore c off v s).get part = s.get part := by
  simp only [List.mem_cons, List.not_mem_nil, or_false, not_or] at hpart
  simp [State.writeCore, hpart]

/-- The parts that `State.writeFabric` leaves alone. -/
@[simp] theorem State.writeFabric_get (t : Nat) (off : Nat) (v : Nat) (s : State) (part : Part) (hpart : part ∉ ([.fabric, .memu, .regs, .mem] : List Part)) :
    (State.writeFabric t off v s).get part = s.get part := by
  simp only [List.mem_cons, List.not_mem_nil, or_false, not_or] at hpart
  simp [State.writeFabric, hpart]

/-- The parts that `State.readReg` leaves alone. -/
@[simp] theorem State.readReg_get (c : Nat) (p : Nat) (off : Nat) (s : State) (part : Part) (hpart : part ∉ ([.beat, .regs] : List Part)) :
    (State.readReg c p off s).2.get part = s.get part := by
  simp only [List.mem_cons, List.not_mem_nil, or_false, not_or] at hpart
  simp [State.readReg, hpart]

/-- The parts that `State.writeReg` leaves alone. -/
@[simp] theorem State.writeReg_get (c : Nat) (p : Nat) (off : Nat) (v : Nat) (s : State) (part : Part) (hpart : part ∉ ([.beat, .comm, .oap, .nvm, .ports, .fabric, .press, .queue, .memu, .trellis, .choir, .zone, .belt, .audio, .island, .power, .video, .boot, .od, .inForce, .wtime, .regs, .mem, .fresh, .out] : List Part)) :
    (State.writeReg c p off v s).get part = s.get part := by
  simp only [List.mem_cons, List.not_mem_nil, or_false, not_or] at hpart
  simp [State.writeReg, hpart]

/-- The parts that `State.cantorFault` leaves alone. -/
@[simp] theorem State.cantorFault_get (c : Nat) (kind : Nat) (addr : Nat) (trap : Nat) (s : State) (part : Part) (hpart : part ∉ ([.memu, .out] : List Part)) :
    (State.cantorFault c kind addr trap s).get part = s.get part := by
  simp only [List.mem_cons, List.not_mem_nil, or_false, not_or] at hpart
  simp [State.cantorFault, hpart]

/-- The parts that `State.loadWords` leaves alone. -/
@[simp] theorem State.loadWords_get (x0 : Nat) (x1 : Nat) (x2 : Nat) (x3 : State) (part : Part) (hpart : part ∉ ([.beat, .regs] : List Part)) :
    (State.loadWords x0 x1 x2 x3).2.get part = x3.get part := by
  simp only [List.mem_cons, List.not_mem_nil, or_false, not_or] at hpart
  induction x0 generalizing x1 x2 x3 with
  | zero => rfl
  | succ k ih =>
    unfold State.loadWords
    dsimp only
    rw [ih]
    exact State.readReg_get _ _ _ _ part (by simp [hpart])

/-- The parts that `State.loadPage` leaves alone. -/
@[simp] theorem State.loadPage_get (c : Nat) (addr : Nat) (a : Nat) (n : Nat) (s : State) (part : Part) (hpart : part ∉ ([.beat, .press, .queue, .memu, .video, .od, .regs, .out] : List Part)) :
    (State.loadPage c addr a n s).get part = s.get part := by
  simp only [List.mem_cons, List.not_mem_nil, or_false, not_or] at hpart
  unfold State.loadPage
  (repeat' split) <;> simp [*]

/-- The parts that `State.storeWords` leaves alone. -/
@[simp] theorem State.storeWords_get (x0 : Nat) (x1 : Nat) (x2 : Nat) (x3 : Nat) (x4 : List Byte) (x5 : State) (part : Part) (hpart : part ∉ ([.beat, .comm, .oap, .nvm, .ports, .fabric, .press, .queue, .memu, .trellis, .choir, .zone, .belt, .audio, .island, .power, .video, .boot, .od, .inForce, .wtime, .regs, .mem, .fresh, .out] : List Part)) :
    (State.storeWords x0 x1 x2 x3 x4 x5).get part = x5.get part := by
  simp only [List.mem_cons, List.not_mem_nil, or_false, not_or] at hpart
  induction x0 generalizing x3 x5 with
  | zero => rfl
  | succ k ih =>
    unfold State.storeWords
    dsimp only
    rw [ih, State.writeReg_get _ _ _ _ _ part (by simp [hpart])]
    split <;> simp [hpart]

/-- The parts that `State.storePage` leaves alone. -/
@[simp] theorem State.storePage_get (c : Nat) (addr : Nat) (a : Nat) (l : List Byte) (s : State) (part : Part) (hpart : part ∉ ([.beat, .comm, .oap, .nvm, .ports, .fabric, .press, .queue, .memu, .trellis, .choir, .zone, .belt, .audio, .island, .power, .video, .boot, .od, .inForce, .wtime, .regs, .mem, .fresh, .out] : List Part)) :
    (State.storePage c addr a l s).get part = s.get part := by
  simp only [List.mem_cons, List.not_mem_nil, or_false, not_or] at hpart
  simp [State.storePage, hpart]

/-- The parts that `State.loadLocal` leaves alone. -/
@[simp] theorem State.loadLocal_get (c : Nat) (addr : Nat) (n : Nat) (upset : Upset) (s : State) (part : Part) (hpart : part ∉ ([.beat, .nvm, .fabric, .press, .queue, .memu, .choir, .video, .od, .regs, .mem, .fresh, .out] : List Part)) :
    (State.loadLocal c addr n upset s).get part = s.get part := by
  simp only [List.mem_cons, List.not_mem_nil, or_false, not_or] at hpart
  unfold State.loadLocal
  dsimp only
  (repeat' split) <;> simp [*]

/-- The parts that `State.storeLocal` leaves alone. -/
@[simp] theorem State.storeLocal_get (c : Nat) (addr : Nat) (l : List Byte) (s : State) (part : Part) (hpart : part ∉ ([.beat, .comm, .oap, .nvm, .ports, .fabric, .press, .queue, .memu, .trellis, .choir, .zone, .belt, .audio, .island, .power, .video, .boot, .od, .inForce, .wtime, .regs, .mem, .fresh, .out] : List Part)) :
    (State.storeLocal c addr l s).get part = s.get part := by
  simp only [List.mem_cons, List.not_mem_nil, or_false, not_or] at hpart
  unfold State.storeLocal
  dsimp only
  (repeat' split) <;> simp [*]

/-- The parts that `State.debugBus` leaves alone. -/
@[simp] theorem State.debugBus_get (wr : Bool) (addr : Nat) (n : Nat) (data : List Byte) (s : State) (part : Part) (hpart : part ∉ ([.beat, .comm, .oap, .nvm, .ports, .fabric, .press, .queue, .memu, .trellis, .choir, .zone, .belt, .audio, .island, .power, .video, .boot, .od, .inForce, .wtime, .regs, .mem, .fresh, .out] : List Part)) :
    (State.debugBus wr addr n data s).get part = s.get part := by
  simp only [List.mem_cons, List.not_mem_nil, or_false, not_or] at hpart
  unfold State.debugBus
  dsimp only
  (repeat' split) <;> simp [*]

end Sys2Proof.Machine
end

