-- ==== Sys2Proof/Laws/State.lean ====
section
/-! SUPPORT. What each update of the state does to each of its fields, one lemma per field and update, so that no proof
unfolds a record update. -/

namespace Sys2Proof.Machine

/-! ### onBeat -/

@[simp] theorem State.onBeat_variant (f : BeatUnit → BeatUnit) (s : State) : (s.onBeat f).variant = s.variant := rfl
@[simp] theorem State.onBeat_now (f : BeatUnit → BeatUnit) (s : State) : (s.onBeat f).now = s.now := rfl
@[simp] theorem State.onBeat_beat (f : BeatUnit → BeatUnit) (s : State) : (s.onBeat f).beat = f s.beat := rfl
@[simp] theorem State.onBeat_comm (f : BeatUnit → BeatUnit) (s : State) : (s.onBeat f).comm = s.comm := rfl
@[simp] theorem State.onBeat_oap (f : BeatUnit → BeatUnit) (s : State) : (s.onBeat f).oap = s.oap := rfl
@[simp] theorem State.onBeat_nvm (f : BeatUnit → BeatUnit) (s : State) : (s.onBeat f).nvm = s.nvm := rfl
@[simp] theorem State.onBeat_ports (f : BeatUnit → BeatUnit) (s : State) : (s.onBeat f).ports = s.ports := rfl
@[simp] theorem State.onBeat_fabric (f : BeatUnit → BeatUnit) (s : State) : (s.onBeat f).fabric = s.fabric := rfl
@[simp] theorem State.onBeat_press (f : BeatUnit → BeatUnit) (s : State) : (s.onBeat f).press = s.press := rfl
@[simp] theorem State.onBeat_queue (f : BeatUnit → BeatUnit) (s : State) : (s.onBeat f).queue = s.queue := rfl
@[simp] theorem State.onBeat_memu (f : BeatUnit → BeatUnit) (s : State) : (s.onBeat f).memu = s.memu := rfl
@[simp] theorem State.onBeat_trellis (f : BeatUnit → BeatUnit) (s : State) : (s.onBeat f).trellis = s.trellis := rfl
@[simp] theorem State.onBeat_choir (f : BeatUnit → BeatUnit) (s : State) : (s.onBeat f).choir = s.choir := rfl
@[simp] theorem State.onBeat_zone (f : BeatUnit → BeatUnit) (s : State) : (s.onBeat f).zone = s.zone := rfl
@[simp] theorem State.onBeat_belt (f : BeatUnit → BeatUnit) (s : State) : (s.onBeat f).belt = s.belt := rfl
@[simp] theorem State.onBeat_audio (f : BeatUnit → BeatUnit) (s : State) : (s.onBeat f).audio = s.audio := rfl
@[simp] theorem State.onBeat_island (f : BeatUnit → BeatUnit) (s : State) : (s.onBeat f).island = s.island := rfl
@[simp] theorem State.onBeat_power (f : BeatUnit → BeatUnit) (s : State) : (s.onBeat f).power = s.power := rfl
@[simp] theorem State.onBeat_video (f : BeatUnit → BeatUnit) (s : State) : (s.onBeat f).video = s.video := rfl
@[simp] theorem State.onBeat_boot (f : BeatUnit → BeatUnit) (s : State) : (s.onBeat f).boot = s.boot := rfl
@[simp] theorem State.onBeat_od (f : BeatUnit → BeatUnit) (s : State) : (s.onBeat f).od = s.od := rfl
@[simp] theorem State.onBeat_inForce (f : BeatUnit → BeatUnit) (s : State) : (s.onBeat f).inForce = s.inForce := rfl
@[simp] theorem State.onBeat_wtime (f : BeatUnit → BeatUnit) (s : State) : (s.onBeat f).wtime = s.wtime := rfl
@[simp] theorem State.onBeat_regs (f : BeatUnit → BeatUnit) (s : State) : (s.onBeat f).regs = s.regs := rfl
@[simp] theorem State.onBeat_mem (f : BeatUnit → BeatUnit) (s : State) : (s.onBeat f).mem = s.mem := rfl
@[simp] theorem State.onBeat_fresh (f : BeatUnit → BeatUnit) (s : State) : (s.onBeat f).fresh = s.fresh := rfl
@[simp] theorem State.onBeat_out (f : BeatUnit → BeatUnit) (s : State) : (s.onBeat f).out = s.out := rfl
@[simp] theorem State.onBeat_pending (f : BeatUnit → BeatUnit) (s : State) : (s.onBeat f).pending = s.pending := rfl

/-! ### onComm -/

@[simp] theorem State.onComm_variant (f : Comm → Comm) (s : State) : (s.onComm f).variant = s.variant := rfl
@[simp] theorem State.onComm_now (f : Comm → Comm) (s : State) : (s.onComm f).now = s.now := rfl
@[simp] theorem State.onComm_beat (f : Comm → Comm) (s : State) : (s.onComm f).beat = s.beat := rfl
@[simp] theorem State.onComm_comm (f : Comm → Comm) (s : State) : (s.onComm f).comm = f s.comm := rfl
@[simp] theorem State.onComm_oap (f : Comm → Comm) (s : State) : (s.onComm f).oap = s.oap := rfl
@[simp] theorem State.onComm_nvm (f : Comm → Comm) (s : State) : (s.onComm f).nvm = s.nvm := rfl
@[simp] theorem State.onComm_ports (f : Comm → Comm) (s : State) : (s.onComm f).ports = s.ports := rfl
@[simp] theorem State.onComm_fabric (f : Comm → Comm) (s : State) : (s.onComm f).fabric = s.fabric := rfl
@[simp] theorem State.onComm_press (f : Comm → Comm) (s : State) : (s.onComm f).press = s.press := rfl
@[simp] theorem State.onComm_queue (f : Comm → Comm) (s : State) : (s.onComm f).queue = s.queue := rfl
@[simp] theorem State.onComm_memu (f : Comm → Comm) (s : State) : (s.onComm f).memu = s.memu := rfl
@[simp] theorem State.onComm_trellis (f : Comm → Comm) (s : State) : (s.onComm f).trellis = s.trellis := rfl
@[simp] theorem State.onComm_choir (f : Comm → Comm) (s : State) : (s.onComm f).choir = s.choir := rfl
@[simp] theorem State.onComm_zone (f : Comm → Comm) (s : State) : (s.onComm f).zone = s.zone := rfl
@[simp] theorem State.onComm_belt (f : Comm → Comm) (s : State) : (s.onComm f).belt = s.belt := rfl
@[simp] theorem State.onComm_audio (f : Comm → Comm) (s : State) : (s.onComm f).audio = s.audio := rfl
@[simp] theorem State.onComm_island (f : Comm → Comm) (s : State) : (s.onComm f).island = s.island := rfl
@[simp] theorem State.onComm_power (f : Comm → Comm) (s : State) : (s.onComm f).power = s.power := rfl
@[simp] theorem State.onComm_video (f : Comm → Comm) (s : State) : (s.onComm f).video = s.video := rfl
@[simp] theorem State.onComm_boot (f : Comm → Comm) (s : State) : (s.onComm f).boot = s.boot := rfl
@[simp] theorem State.onComm_od (f : Comm → Comm) (s : State) : (s.onComm f).od = s.od := rfl
@[simp] theorem State.onComm_inForce (f : Comm → Comm) (s : State) : (s.onComm f).inForce = s.inForce := rfl
@[simp] theorem State.onComm_wtime (f : Comm → Comm) (s : State) : (s.onComm f).wtime = s.wtime := rfl
@[simp] theorem State.onComm_regs (f : Comm → Comm) (s : State) : (s.onComm f).regs = s.regs := rfl
@[simp] theorem State.onComm_mem (f : Comm → Comm) (s : State) : (s.onComm f).mem = s.mem := rfl
@[simp] theorem State.onComm_fresh (f : Comm → Comm) (s : State) : (s.onComm f).fresh = s.fresh := rfl
@[simp] theorem State.onComm_out (f : Comm → Comm) (s : State) : (s.onComm f).out = s.out := rfl
@[simp] theorem State.onComm_pending (f : Comm → Comm) (s : State) : (s.onComm f).pending = s.pending := rfl

/-! ### onOap -/

@[simp] theorem State.onOap_variant (f : Oap → Oap) (s : State) : (s.onOap f).variant = s.variant := rfl
@[simp] theorem State.onOap_now (f : Oap → Oap) (s : State) : (s.onOap f).now = s.now := rfl
@[simp] theorem State.onOap_beat (f : Oap → Oap) (s : State) : (s.onOap f).beat = s.beat := rfl
@[simp] theorem State.onOap_comm (f : Oap → Oap) (s : State) : (s.onOap f).comm = s.comm := rfl
@[simp] theorem State.onOap_oap (f : Oap → Oap) (s : State) : (s.onOap f).oap = f s.oap := rfl
@[simp] theorem State.onOap_nvm (f : Oap → Oap) (s : State) : (s.onOap f).nvm = s.nvm := rfl
@[simp] theorem State.onOap_ports (f : Oap → Oap) (s : State) : (s.onOap f).ports = s.ports := rfl
@[simp] theorem State.onOap_fabric (f : Oap → Oap) (s : State) : (s.onOap f).fabric = s.fabric := rfl
@[simp] theorem State.onOap_press (f : Oap → Oap) (s : State) : (s.onOap f).press = s.press := rfl
@[simp] theorem State.onOap_queue (f : Oap → Oap) (s : State) : (s.onOap f).queue = s.queue := rfl
@[simp] theorem State.onOap_memu (f : Oap → Oap) (s : State) : (s.onOap f).memu = s.memu := rfl
@[simp] theorem State.onOap_trellis (f : Oap → Oap) (s : State) : (s.onOap f).trellis = s.trellis := rfl
@[simp] theorem State.onOap_choir (f : Oap → Oap) (s : State) : (s.onOap f).choir = s.choir := rfl
@[simp] theorem State.onOap_zone (f : Oap → Oap) (s : State) : (s.onOap f).zone = s.zone := rfl
@[simp] theorem State.onOap_belt (f : Oap → Oap) (s : State) : (s.onOap f).belt = s.belt := rfl
@[simp] theorem State.onOap_audio (f : Oap → Oap) (s : State) : (s.onOap f).audio = s.audio := rfl
@[simp] theorem State.onOap_island (f : Oap → Oap) (s : State) : (s.onOap f).island = s.island := rfl
@[simp] theorem State.onOap_power (f : Oap → Oap) (s : State) : (s.onOap f).power = s.power := rfl
@[simp] theorem State.onOap_video (f : Oap → Oap) (s : State) : (s.onOap f).video = s.video := rfl
@[simp] theorem State.onOap_boot (f : Oap → Oap) (s : State) : (s.onOap f).boot = s.boot := rfl
@[simp] theorem State.onOap_od (f : Oap → Oap) (s : State) : (s.onOap f).od = s.od := rfl
@[simp] theorem State.onOap_inForce (f : Oap → Oap) (s : State) : (s.onOap f).inForce = s.inForce := rfl
@[simp] theorem State.onOap_wtime (f : Oap → Oap) (s : State) : (s.onOap f).wtime = s.wtime := rfl
@[simp] theorem State.onOap_regs (f : Oap → Oap) (s : State) : (s.onOap f).regs = s.regs := rfl
@[simp] theorem State.onOap_mem (f : Oap → Oap) (s : State) : (s.onOap f).mem = s.mem := rfl
@[simp] theorem State.onOap_fresh (f : Oap → Oap) (s : State) : (s.onOap f).fresh = s.fresh := rfl
@[simp] theorem State.onOap_out (f : Oap → Oap) (s : State) : (s.onOap f).out = s.out := rfl
@[simp] theorem State.onOap_pending (f : Oap → Oap) (s : State) : (s.onOap f).pending = s.pending := rfl

/-! ### onNvm -/

@[simp] theorem State.onNvm_variant (f : Nvm → Nvm) (s : State) : (s.onNvm f).variant = s.variant := rfl
@[simp] theorem State.onNvm_now (f : Nvm → Nvm) (s : State) : (s.onNvm f).now = s.now := rfl
@[simp] theorem State.onNvm_beat (f : Nvm → Nvm) (s : State) : (s.onNvm f).beat = s.beat := rfl
@[simp] theorem State.onNvm_comm (f : Nvm → Nvm) (s : State) : (s.onNvm f).comm = s.comm := rfl
@[simp] theorem State.onNvm_oap (f : Nvm → Nvm) (s : State) : (s.onNvm f).oap = s.oap := rfl
@[simp] theorem State.onNvm_nvm (f : Nvm → Nvm) (s : State) : (s.onNvm f).nvm = f s.nvm := rfl
@[simp] theorem State.onNvm_ports (f : Nvm → Nvm) (s : State) : (s.onNvm f).ports = s.ports := rfl
@[simp] theorem State.onNvm_fabric (f : Nvm → Nvm) (s : State) : (s.onNvm f).fabric = s.fabric := rfl
@[simp] theorem State.onNvm_press (f : Nvm → Nvm) (s : State) : (s.onNvm f).press = s.press := rfl
@[simp] theorem State.onNvm_queue (f : Nvm → Nvm) (s : State) : (s.onNvm f).queue = s.queue := rfl
@[simp] theorem State.onNvm_memu (f : Nvm → Nvm) (s : State) : (s.onNvm f).memu = s.memu := rfl
@[simp] theorem State.onNvm_trellis (f : Nvm → Nvm) (s : State) : (s.onNvm f).trellis = s.trellis := rfl
@[simp] theorem State.onNvm_choir (f : Nvm → Nvm) (s : State) : (s.onNvm f).choir = s.choir := rfl
@[simp] theorem State.onNvm_zone (f : Nvm → Nvm) (s : State) : (s.onNvm f).zone = s.zone := rfl
@[simp] theorem State.onNvm_belt (f : Nvm → Nvm) (s : State) : (s.onNvm f).belt = s.belt := rfl
@[simp] theorem State.onNvm_audio (f : Nvm → Nvm) (s : State) : (s.onNvm f).audio = s.audio := rfl
@[simp] theorem State.onNvm_island (f : Nvm → Nvm) (s : State) : (s.onNvm f).island = s.island := rfl
@[simp] theorem State.onNvm_power (f : Nvm → Nvm) (s : State) : (s.onNvm f).power = s.power := rfl
@[simp] theorem State.onNvm_video (f : Nvm → Nvm) (s : State) : (s.onNvm f).video = s.video := rfl
@[simp] theorem State.onNvm_boot (f : Nvm → Nvm) (s : State) : (s.onNvm f).boot = s.boot := rfl
@[simp] theorem State.onNvm_od (f : Nvm → Nvm) (s : State) : (s.onNvm f).od = s.od := rfl
@[simp] theorem State.onNvm_inForce (f : Nvm → Nvm) (s : State) : (s.onNvm f).inForce = s.inForce := rfl
@[simp] theorem State.onNvm_wtime (f : Nvm → Nvm) (s : State) : (s.onNvm f).wtime = s.wtime := rfl
@[simp] theorem State.onNvm_regs (f : Nvm → Nvm) (s : State) : (s.onNvm f).regs = s.regs := rfl
@[simp] theorem State.onNvm_mem (f : Nvm → Nvm) (s : State) : (s.onNvm f).mem = s.mem := rfl
@[simp] theorem State.onNvm_fresh (f : Nvm → Nvm) (s : State) : (s.onNvm f).fresh = s.fresh := rfl
@[simp] theorem State.onNvm_out (f : Nvm → Nvm) (s : State) : (s.onNvm f).out = s.out := rfl
@[simp] theorem State.onNvm_pending (f : Nvm → Nvm) (s : State) : (s.onNvm f).pending = s.pending := rfl

/-! ### onFabric -/

@[simp] theorem State.onFabric_variant (f : Fabric → Fabric) (s : State) : (s.onFabric f).variant = s.variant := rfl
@[simp] theorem State.onFabric_now (f : Fabric → Fabric) (s : State) : (s.onFabric f).now = s.now := rfl
@[simp] theorem State.onFabric_beat (f : Fabric → Fabric) (s : State) : (s.onFabric f).beat = s.beat := rfl
@[simp] theorem State.onFabric_comm (f : Fabric → Fabric) (s : State) : (s.onFabric f).comm = s.comm := rfl
@[simp] theorem State.onFabric_oap (f : Fabric → Fabric) (s : State) : (s.onFabric f).oap = s.oap := rfl
@[simp] theorem State.onFabric_nvm (f : Fabric → Fabric) (s : State) : (s.onFabric f).nvm = s.nvm := rfl
@[simp] theorem State.onFabric_ports (f : Fabric → Fabric) (s : State) : (s.onFabric f).ports = s.ports := rfl
@[simp] theorem State.onFabric_fabric (f : Fabric → Fabric) (s : State) : (s.onFabric f).fabric = f s.fabric := rfl
@[simp] theorem State.onFabric_press (f : Fabric → Fabric) (s : State) : (s.onFabric f).press = s.press := rfl
@[simp] theorem State.onFabric_queue (f : Fabric → Fabric) (s : State) : (s.onFabric f).queue = s.queue := rfl
@[simp] theorem State.onFabric_memu (f : Fabric → Fabric) (s : State) : (s.onFabric f).memu = s.memu := rfl
@[simp] theorem State.onFabric_trellis (f : Fabric → Fabric) (s : State) : (s.onFabric f).trellis = s.trellis := rfl
@[simp] theorem State.onFabric_choir (f : Fabric → Fabric) (s : State) : (s.onFabric f).choir = s.choir := rfl
@[simp] theorem State.onFabric_zone (f : Fabric → Fabric) (s : State) : (s.onFabric f).zone = s.zone := rfl
@[simp] theorem State.onFabric_belt (f : Fabric → Fabric) (s : State) : (s.onFabric f).belt = s.belt := rfl
@[simp] theorem State.onFabric_audio (f : Fabric → Fabric) (s : State) : (s.onFabric f).audio = s.audio := rfl
@[simp] theorem State.onFabric_island (f : Fabric → Fabric) (s : State) : (s.onFabric f).island = s.island := rfl
@[simp] theorem State.onFabric_power (f : Fabric → Fabric) (s : State) : (s.onFabric f).power = s.power := rfl
@[simp] theorem State.onFabric_video (f : Fabric → Fabric) (s : State) : (s.onFabric f).video = s.video := rfl
@[simp] theorem State.onFabric_boot (f : Fabric → Fabric) (s : State) : (s.onFabric f).boot = s.boot := rfl
@[simp] theorem State.onFabric_od (f : Fabric → Fabric) (s : State) : (s.onFabric f).od = s.od := rfl
@[simp] theorem State.onFabric_inForce (f : Fabric → Fabric) (s : State) : (s.onFabric f).inForce = s.inForce := rfl
@[simp] theorem State.onFabric_wtime (f : Fabric → Fabric) (s : State) : (s.onFabric f).wtime = s.wtime := rfl
@[simp] theorem State.onFabric_regs (f : Fabric → Fabric) (s : State) : (s.onFabric f).regs = s.regs := rfl
@[simp] theorem State.onFabric_mem (f : Fabric → Fabric) (s : State) : (s.onFabric f).mem = s.mem := rfl
@[simp] theorem State.onFabric_fresh (f : Fabric → Fabric) (s : State) : (s.onFabric f).fresh = s.fresh := rfl
@[simp] theorem State.onFabric_out (f : Fabric → Fabric) (s : State) : (s.onFabric f).out = s.out := rfl
@[simp] theorem State.onFabric_pending (f : Fabric → Fabric) (s : State) : (s.onFabric f).pending = s.pending := rfl

/-! ### onPress -/

@[simp] theorem State.onPress_variant (f : Press → Press) (s : State) : (s.onPress f).variant = s.variant := rfl
@[simp] theorem State.onPress_now (f : Press → Press) (s : State) : (s.onPress f).now = s.now := rfl
@[simp] theorem State.onPress_beat (f : Press → Press) (s : State) : (s.onPress f).beat = s.beat := rfl
@[simp] theorem State.onPress_comm (f : Press → Press) (s : State) : (s.onPress f).comm = s.comm := rfl
@[simp] theorem State.onPress_oap (f : Press → Press) (s : State) : (s.onPress f).oap = s.oap := rfl
@[simp] theorem State.onPress_nvm (f : Press → Press) (s : State) : (s.onPress f).nvm = s.nvm := rfl
@[simp] theorem State.onPress_ports (f : Press → Press) (s : State) : (s.onPress f).ports = s.ports := rfl
@[simp] theorem State.onPress_fabric (f : Press → Press) (s : State) : (s.onPress f).fabric = s.fabric := rfl
@[simp] theorem State.onPress_press (f : Press → Press) (s : State) : (s.onPress f).press = f s.press := rfl
@[simp] theorem State.onPress_queue (f : Press → Press) (s : State) : (s.onPress f).queue = s.queue := rfl
@[simp] theorem State.onPress_memu (f : Press → Press) (s : State) : (s.onPress f).memu = s.memu := rfl
@[simp] theorem State.onPress_trellis (f : Press → Press) (s : State) : (s.onPress f).trellis = s.trellis := rfl
@[simp] theorem State.onPress_choir (f : Press → Press) (s : State) : (s.onPress f).choir = s.choir := rfl
@[simp] theorem State.onPress_zone (f : Press → Press) (s : State) : (s.onPress f).zone = s.zone := rfl
@[simp] theorem State.onPress_belt (f : Press → Press) (s : State) : (s.onPress f).belt = s.belt := rfl
@[simp] theorem State.onPress_audio (f : Press → Press) (s : State) : (s.onPress f).audio = s.audio := rfl
@[simp] theorem State.onPress_island (f : Press → Press) (s : State) : (s.onPress f).island = s.island := rfl
@[simp] theorem State.onPress_power (f : Press → Press) (s : State) : (s.onPress f).power = s.power := rfl
@[simp] theorem State.onPress_video (f : Press → Press) (s : State) : (s.onPress f).video = s.video := rfl
@[simp] theorem State.onPress_boot (f : Press → Press) (s : State) : (s.onPress f).boot = s.boot := rfl
@[simp] theorem State.onPress_od (f : Press → Press) (s : State) : (s.onPress f).od = s.od := rfl
@[simp] theorem State.onPress_inForce (f : Press → Press) (s : State) : (s.onPress f).inForce = s.inForce := rfl
@[simp] theorem State.onPress_wtime (f : Press → Press) (s : State) : (s.onPress f).wtime = s.wtime := rfl
@[simp] theorem State.onPress_regs (f : Press → Press) (s : State) : (s.onPress f).regs = s.regs := rfl
@[simp] theorem State.onPress_mem (f : Press → Press) (s : State) : (s.onPress f).mem = s.mem := rfl
@[simp] theorem State.onPress_fresh (f : Press → Press) (s : State) : (s.onPress f).fresh = s.fresh := rfl
@[simp] theorem State.onPress_out (f : Press → Press) (s : State) : (s.onPress f).out = s.out := rfl
@[simp] theorem State.onPress_pending (f : Press → Press) (s : State) : (s.onPress f).pending = s.pending := rfl

/-! ### onQueues -/

@[simp] theorem State.onQueues_variant (f : QueueUnit → QueueUnit) (s : State) : (s.onQueues f).variant = s.variant := rfl
@[simp] theorem State.onQueues_now (f : QueueUnit → QueueUnit) (s : State) : (s.onQueues f).now = s.now := rfl
@[simp] theorem State.onQueues_beat (f : QueueUnit → QueueUnit) (s : State) : (s.onQueues f).beat = s.beat := rfl
@[simp] theorem State.onQueues_comm (f : QueueUnit → QueueUnit) (s : State) : (s.onQueues f).comm = s.comm := rfl
@[simp] theorem State.onQueues_oap (f : QueueUnit → QueueUnit) (s : State) : (s.onQueues f).oap = s.oap := rfl
@[simp] theorem State.onQueues_nvm (f : QueueUnit → QueueUnit) (s : State) : (s.onQueues f).nvm = s.nvm := rfl
@[simp] theorem State.onQueues_ports (f : QueueUnit → QueueUnit) (s : State) : (s.onQueues f).ports = s.ports := rfl
@[simp] theorem State.onQueues_fabric (f : QueueUnit → QueueUnit) (s : State) : (s.onQueues f).fabric = s.fabric := rfl
@[simp] theorem State.onQueues_press (f : QueueUnit → QueueUnit) (s : State) : (s.onQueues f).press = s.press := rfl
@[simp] theorem State.onQueues_queue (f : QueueUnit → QueueUnit) (s : State) : (s.onQueues f).queue = f s.queue := rfl
@[simp] theorem State.onQueues_memu (f : QueueUnit → QueueUnit) (s : State) : (s.onQueues f).memu = s.memu := rfl
@[simp] theorem State.onQueues_trellis (f : QueueUnit → QueueUnit) (s : State) : (s.onQueues f).trellis = s.trellis := rfl
@[simp] theorem State.onQueues_choir (f : QueueUnit → QueueUnit) (s : State) : (s.onQueues f).choir = s.choir := rfl
@[simp] theorem State.onQueues_zone (f : QueueUnit → QueueUnit) (s : State) : (s.onQueues f).zone = s.zone := rfl
@[simp] theorem State.onQueues_belt (f : QueueUnit → QueueUnit) (s : State) : (s.onQueues f).belt = s.belt := rfl
@[simp] theorem State.onQueues_audio (f : QueueUnit → QueueUnit) (s : State) : (s.onQueues f).audio = s.audio := rfl
@[simp] theorem State.onQueues_island (f : QueueUnit → QueueUnit) (s : State) : (s.onQueues f).island = s.island := rfl
@[simp] theorem State.onQueues_power (f : QueueUnit → QueueUnit) (s : State) : (s.onQueues f).power = s.power := rfl
@[simp] theorem State.onQueues_video (f : QueueUnit → QueueUnit) (s : State) : (s.onQueues f).video = s.video := rfl
@[simp] theorem State.onQueues_boot (f : QueueUnit → QueueUnit) (s : State) : (s.onQueues f).boot = s.boot := rfl
@[simp] theorem State.onQueues_od (f : QueueUnit → QueueUnit) (s : State) : (s.onQueues f).od = s.od := rfl
@[simp] theorem State.onQueues_inForce (f : QueueUnit → QueueUnit) (s : State) : (s.onQueues f).inForce = s.inForce := rfl
@[simp] theorem State.onQueues_wtime (f : QueueUnit → QueueUnit) (s : State) : (s.onQueues f).wtime = s.wtime := rfl
@[simp] theorem State.onQueues_regs (f : QueueUnit → QueueUnit) (s : State) : (s.onQueues f).regs = s.regs := rfl
@[simp] theorem State.onQueues_mem (f : QueueUnit → QueueUnit) (s : State) : (s.onQueues f).mem = s.mem := rfl
@[simp] theorem State.onQueues_fresh (f : QueueUnit → QueueUnit) (s : State) : (s.onQueues f).fresh = s.fresh := rfl
@[simp] theorem State.onQueues_out (f : QueueUnit → QueueUnit) (s : State) : (s.onQueues f).out = s.out := rfl
@[simp] theorem State.onQueues_pending (f : QueueUnit → QueueUnit) (s : State) : (s.onQueues f).pending = s.pending := rfl

/-! ### onMem -/

@[simp] theorem State.onMem_variant (f : MemUnit → MemUnit) (s : State) : (s.onMem f).variant = s.variant := rfl
@[simp] theorem State.onMem_now (f : MemUnit → MemUnit) (s : State) : (s.onMem f).now = s.now := rfl
@[simp] theorem State.onMem_beat (f : MemUnit → MemUnit) (s : State) : (s.onMem f).beat = s.beat := rfl
@[simp] theorem State.onMem_comm (f : MemUnit → MemUnit) (s : State) : (s.onMem f).comm = s.comm := rfl
@[simp] theorem State.onMem_oap (f : MemUnit → MemUnit) (s : State) : (s.onMem f).oap = s.oap := rfl
@[simp] theorem State.onMem_nvm (f : MemUnit → MemUnit) (s : State) : (s.onMem f).nvm = s.nvm := rfl
@[simp] theorem State.onMem_ports (f : MemUnit → MemUnit) (s : State) : (s.onMem f).ports = s.ports := rfl
@[simp] theorem State.onMem_fabric (f : MemUnit → MemUnit) (s : State) : (s.onMem f).fabric = s.fabric := rfl
@[simp] theorem State.onMem_press (f : MemUnit → MemUnit) (s : State) : (s.onMem f).press = s.press := rfl
@[simp] theorem State.onMem_queue (f : MemUnit → MemUnit) (s : State) : (s.onMem f).queue = s.queue := rfl
@[simp] theorem State.onMem_memu (f : MemUnit → MemUnit) (s : State) : (s.onMem f).memu = f s.memu := rfl
@[simp] theorem State.onMem_trellis (f : MemUnit → MemUnit) (s : State) : (s.onMem f).trellis = s.trellis := rfl
@[simp] theorem State.onMem_choir (f : MemUnit → MemUnit) (s : State) : (s.onMem f).choir = s.choir := rfl
@[simp] theorem State.onMem_zone (f : MemUnit → MemUnit) (s : State) : (s.onMem f).zone = s.zone := rfl
@[simp] theorem State.onMem_belt (f : MemUnit → MemUnit) (s : State) : (s.onMem f).belt = s.belt := rfl
@[simp] theorem State.onMem_audio (f : MemUnit → MemUnit) (s : State) : (s.onMem f).audio = s.audio := rfl
@[simp] theorem State.onMem_island (f : MemUnit → MemUnit) (s : State) : (s.onMem f).island = s.island := rfl
@[simp] theorem State.onMem_power (f : MemUnit → MemUnit) (s : State) : (s.onMem f).power = s.power := rfl
@[simp] theorem State.onMem_video (f : MemUnit → MemUnit) (s : State) : (s.onMem f).video = s.video := rfl
@[simp] theorem State.onMem_boot (f : MemUnit → MemUnit) (s : State) : (s.onMem f).boot = s.boot := rfl
@[simp] theorem State.onMem_od (f : MemUnit → MemUnit) (s : State) : (s.onMem f).od = s.od := rfl
@[simp] theorem State.onMem_inForce (f : MemUnit → MemUnit) (s : State) : (s.onMem f).inForce = s.inForce := rfl
@[simp] theorem State.onMem_wtime (f : MemUnit → MemUnit) (s : State) : (s.onMem f).wtime = s.wtime := rfl
@[simp] theorem State.onMem_regs (f : MemUnit → MemUnit) (s : State) : (s.onMem f).regs = s.regs := rfl
@[simp] theorem State.onMem_mem (f : MemUnit → MemUnit) (s : State) : (s.onMem f).mem = s.mem := rfl
@[simp] theorem State.onMem_fresh (f : MemUnit → MemUnit) (s : State) : (s.onMem f).fresh = s.fresh := rfl
@[simp] theorem State.onMem_out (f : MemUnit → MemUnit) (s : State) : (s.onMem f).out = s.out := rfl
@[simp] theorem State.onMem_pending (f : MemUnit → MemUnit) (s : State) : (s.onMem f).pending = s.pending := rfl

/-! ### onTrellis -/

@[simp] theorem State.onTrellis_variant (f : Trellis → Trellis) (s : State) : (s.onTrellis f).variant = s.variant := rfl
@[simp] theorem State.onTrellis_now (f : Trellis → Trellis) (s : State) : (s.onTrellis f).now = s.now := rfl
@[simp] theorem State.onTrellis_beat (f : Trellis → Trellis) (s : State) : (s.onTrellis f).beat = s.beat := rfl
@[simp] theorem State.onTrellis_comm (f : Trellis → Trellis) (s : State) : (s.onTrellis f).comm = s.comm := rfl
@[simp] theorem State.onTrellis_oap (f : Trellis → Trellis) (s : State) : (s.onTrellis f).oap = s.oap := rfl
@[simp] theorem State.onTrellis_nvm (f : Trellis → Trellis) (s : State) : (s.onTrellis f).nvm = s.nvm := rfl
@[simp] theorem State.onTrellis_ports (f : Trellis → Trellis) (s : State) : (s.onTrellis f).ports = s.ports := rfl
@[simp] theorem State.onTrellis_fabric (f : Trellis → Trellis) (s : State) : (s.onTrellis f).fabric = s.fabric := rfl
@[simp] theorem State.onTrellis_press (f : Trellis → Trellis) (s : State) : (s.onTrellis f).press = s.press := rfl
@[simp] theorem State.onTrellis_queue (f : Trellis → Trellis) (s : State) : (s.onTrellis f).queue = s.queue := rfl
@[simp] theorem State.onTrellis_memu (f : Trellis → Trellis) (s : State) : (s.onTrellis f).memu = s.memu := rfl
@[simp] theorem State.onTrellis_trellis (f : Trellis → Trellis) (s : State) : (s.onTrellis f).trellis = f s.trellis := rfl
@[simp] theorem State.onTrellis_choir (f : Trellis → Trellis) (s : State) : (s.onTrellis f).choir = s.choir := rfl
@[simp] theorem State.onTrellis_zone (f : Trellis → Trellis) (s : State) : (s.onTrellis f).zone = s.zone := rfl
@[simp] theorem State.onTrellis_belt (f : Trellis → Trellis) (s : State) : (s.onTrellis f).belt = s.belt := rfl
@[simp] theorem State.onTrellis_audio (f : Trellis → Trellis) (s : State) : (s.onTrellis f).audio = s.audio := rfl
@[simp] theorem State.onTrellis_island (f : Trellis → Trellis) (s : State) : (s.onTrellis f).island = s.island := rfl
@[simp] theorem State.onTrellis_power (f : Trellis → Trellis) (s : State) : (s.onTrellis f).power = s.power := rfl
@[simp] theorem State.onTrellis_video (f : Trellis → Trellis) (s : State) : (s.onTrellis f).video = s.video := rfl
@[simp] theorem State.onTrellis_boot (f : Trellis → Trellis) (s : State) : (s.onTrellis f).boot = s.boot := rfl
@[simp] theorem State.onTrellis_od (f : Trellis → Trellis) (s : State) : (s.onTrellis f).od = s.od := rfl
@[simp] theorem State.onTrellis_inForce (f : Trellis → Trellis) (s : State) : (s.onTrellis f).inForce = s.inForce := rfl
@[simp] theorem State.onTrellis_wtime (f : Trellis → Trellis) (s : State) : (s.onTrellis f).wtime = s.wtime := rfl
@[simp] theorem State.onTrellis_regs (f : Trellis → Trellis) (s : State) : (s.onTrellis f).regs = s.regs := rfl
@[simp] theorem State.onTrellis_mem (f : Trellis → Trellis) (s : State) : (s.onTrellis f).mem = s.mem := rfl
@[simp] theorem State.onTrellis_fresh (f : Trellis → Trellis) (s : State) : (s.onTrellis f).fresh = s.fresh := rfl
@[simp] theorem State.onTrellis_out (f : Trellis → Trellis) (s : State) : (s.onTrellis f).out = s.out := rfl
@[simp] theorem State.onTrellis_pending (f : Trellis → Trellis) (s : State) : (s.onTrellis f).pending = s.pending := rfl

/-! ### onChoir -/

@[simp] theorem State.onChoir_variant (f : Choir → Choir) (s : State) : (s.onChoir f).variant = s.variant := rfl
@[simp] theorem State.onChoir_now (f : Choir → Choir) (s : State) : (s.onChoir f).now = s.now := rfl
@[simp] theorem State.onChoir_beat (f : Choir → Choir) (s : State) : (s.onChoir f).beat = s.beat := rfl
@[simp] theorem State.onChoir_comm (f : Choir → Choir) (s : State) : (s.onChoir f).comm = s.comm := rfl
@[simp] theorem State.onChoir_oap (f : Choir → Choir) (s : State) : (s.onChoir f).oap = s.oap := rfl
@[simp] theorem State.onChoir_nvm (f : Choir → Choir) (s : State) : (s.onChoir f).nvm = s.nvm := rfl
@[simp] theorem State.onChoir_ports (f : Choir → Choir) (s : State) : (s.onChoir f).ports = s.ports := rfl
@[simp] theorem State.onChoir_fabric (f : Choir → Choir) (s : State) : (s.onChoir f).fabric = s.fabric := rfl
@[simp] theorem State.onChoir_press (f : Choir → Choir) (s : State) : (s.onChoir f).press = s.press := rfl
@[simp] theorem State.onChoir_queue (f : Choir → Choir) (s : State) : (s.onChoir f).queue = s.queue := rfl
@[simp] theorem State.onChoir_memu (f : Choir → Choir) (s : State) : (s.onChoir f).memu = s.memu := rfl
@[simp] theorem State.onChoir_trellis (f : Choir → Choir) (s : State) : (s.onChoir f).trellis = s.trellis := rfl
@[simp] theorem State.onChoir_choir (f : Choir → Choir) (s : State) : (s.onChoir f).choir = f s.choir := rfl
@[simp] theorem State.onChoir_zone (f : Choir → Choir) (s : State) : (s.onChoir f).zone = s.zone := rfl
@[simp] theorem State.onChoir_belt (f : Choir → Choir) (s : State) : (s.onChoir f).belt = s.belt := rfl
@[simp] theorem State.onChoir_audio (f : Choir → Choir) (s : State) : (s.onChoir f).audio = s.audio := rfl
@[simp] theorem State.onChoir_island (f : Choir → Choir) (s : State) : (s.onChoir f).island = s.island := rfl
@[simp] theorem State.onChoir_power (f : Choir → Choir) (s : State) : (s.onChoir f).power = s.power := rfl
@[simp] theorem State.onChoir_video (f : Choir → Choir) (s : State) : (s.onChoir f).video = s.video := rfl
@[simp] theorem State.onChoir_boot (f : Choir → Choir) (s : State) : (s.onChoir f).boot = s.boot := rfl
@[simp] theorem State.onChoir_od (f : Choir → Choir) (s : State) : (s.onChoir f).od = s.od := rfl
@[simp] theorem State.onChoir_inForce (f : Choir → Choir) (s : State) : (s.onChoir f).inForce = s.inForce := rfl
@[simp] theorem State.onChoir_wtime (f : Choir → Choir) (s : State) : (s.onChoir f).wtime = s.wtime := rfl
@[simp] theorem State.onChoir_regs (f : Choir → Choir) (s : State) : (s.onChoir f).regs = s.regs := rfl
@[simp] theorem State.onChoir_mem (f : Choir → Choir) (s : State) : (s.onChoir f).mem = s.mem := rfl
@[simp] theorem State.onChoir_fresh (f : Choir → Choir) (s : State) : (s.onChoir f).fresh = s.fresh := rfl
@[simp] theorem State.onChoir_out (f : Choir → Choir) (s : State) : (s.onChoir f).out = s.out := rfl
@[simp] theorem State.onChoir_pending (f : Choir → Choir) (s : State) : (s.onChoir f).pending = s.pending := rfl

/-! ### onZones -/

@[simp] theorem State.onZones_variant (f : ZoneUnit → ZoneUnit) (s : State) : (s.onZones f).variant = s.variant := rfl
@[simp] theorem State.onZones_now (f : ZoneUnit → ZoneUnit) (s : State) : (s.onZones f).now = s.now := rfl
@[simp] theorem State.onZones_beat (f : ZoneUnit → ZoneUnit) (s : State) : (s.onZones f).beat = s.beat := rfl
@[simp] theorem State.onZones_comm (f : ZoneUnit → ZoneUnit) (s : State) : (s.onZones f).comm = s.comm := rfl
@[simp] theorem State.onZones_oap (f : ZoneUnit → ZoneUnit) (s : State) : (s.onZones f).oap = s.oap := rfl
@[simp] theorem State.onZones_nvm (f : ZoneUnit → ZoneUnit) (s : State) : (s.onZones f).nvm = s.nvm := rfl
@[simp] theorem State.onZones_ports (f : ZoneUnit → ZoneUnit) (s : State) : (s.onZones f).ports = s.ports := rfl
@[simp] theorem State.onZones_fabric (f : ZoneUnit → ZoneUnit) (s : State) : (s.onZones f).fabric = s.fabric := rfl
@[simp] theorem State.onZones_press (f : ZoneUnit → ZoneUnit) (s : State) : (s.onZones f).press = s.press := rfl
@[simp] theorem State.onZones_queue (f : ZoneUnit → ZoneUnit) (s : State) : (s.onZones f).queue = s.queue := rfl
@[simp] theorem State.onZones_memu (f : ZoneUnit → ZoneUnit) (s : State) : (s.onZones f).memu = s.memu := rfl
@[simp] theorem State.onZones_trellis (f : ZoneUnit → ZoneUnit) (s : State) : (s.onZones f).trellis = s.trellis := rfl
@[simp] theorem State.onZones_choir (f : ZoneUnit → ZoneUnit) (s : State) : (s.onZones f).choir = s.choir := rfl
@[simp] theorem State.onZones_zone (f : ZoneUnit → ZoneUnit) (s : State) : (s.onZones f).zone = f s.zone := rfl
@[simp] theorem State.onZones_belt (f : ZoneUnit → ZoneUnit) (s : State) : (s.onZones f).belt = s.belt := rfl
@[simp] theorem State.onZones_audio (f : ZoneUnit → ZoneUnit) (s : State) : (s.onZones f).audio = s.audio := rfl
@[simp] theorem State.onZones_island (f : ZoneUnit → ZoneUnit) (s : State) : (s.onZones f).island = s.island := rfl
@[simp] theorem State.onZones_power (f : ZoneUnit → ZoneUnit) (s : State) : (s.onZones f).power = s.power := rfl
@[simp] theorem State.onZones_video (f : ZoneUnit → ZoneUnit) (s : State) : (s.onZones f).video = s.video := rfl
@[simp] theorem State.onZones_boot (f : ZoneUnit → ZoneUnit) (s : State) : (s.onZones f).boot = s.boot := rfl
@[simp] theorem State.onZones_od (f : ZoneUnit → ZoneUnit) (s : State) : (s.onZones f).od = s.od := rfl
@[simp] theorem State.onZones_inForce (f : ZoneUnit → ZoneUnit) (s : State) : (s.onZones f).inForce = s.inForce := rfl
@[simp] theorem State.onZones_wtime (f : ZoneUnit → ZoneUnit) (s : State) : (s.onZones f).wtime = s.wtime := rfl
@[simp] theorem State.onZones_regs (f : ZoneUnit → ZoneUnit) (s : State) : (s.onZones f).regs = s.regs := rfl
@[simp] theorem State.onZones_mem (f : ZoneUnit → ZoneUnit) (s : State) : (s.onZones f).mem = s.mem := rfl
@[simp] theorem State.onZones_fresh (f : ZoneUnit → ZoneUnit) (s : State) : (s.onZones f).fresh = s.fresh := rfl
@[simp] theorem State.onZones_out (f : ZoneUnit → ZoneUnit) (s : State) : (s.onZones f).out = s.out := rfl
@[simp] theorem State.onZones_pending (f : ZoneUnit → ZoneUnit) (s : State) : (s.onZones f).pending = s.pending := rfl

/-! ### onBelt -/

@[simp] theorem State.onBelt_variant (f : Belt → Belt) (s : State) : (s.onBelt f).variant = s.variant := rfl
@[simp] theorem State.onBelt_now (f : Belt → Belt) (s : State) : (s.onBelt f).now = s.now := rfl
@[simp] theorem State.onBelt_beat (f : Belt → Belt) (s : State) : (s.onBelt f).beat = s.beat := rfl
@[simp] theorem State.onBelt_comm (f : Belt → Belt) (s : State) : (s.onBelt f).comm = s.comm := rfl
@[simp] theorem State.onBelt_oap (f : Belt → Belt) (s : State) : (s.onBelt f).oap = s.oap := rfl
@[simp] theorem State.onBelt_nvm (f : Belt → Belt) (s : State) : (s.onBelt f).nvm = s.nvm := rfl
@[simp] theorem State.onBelt_ports (f : Belt → Belt) (s : State) : (s.onBelt f).ports = s.ports := rfl
@[simp] theorem State.onBelt_fabric (f : Belt → Belt) (s : State) : (s.onBelt f).fabric = s.fabric := rfl
@[simp] theorem State.onBelt_press (f : Belt → Belt) (s : State) : (s.onBelt f).press = s.press := rfl
@[simp] theorem State.onBelt_queue (f : Belt → Belt) (s : State) : (s.onBelt f).queue = s.queue := rfl
@[simp] theorem State.onBelt_memu (f : Belt → Belt) (s : State) : (s.onBelt f).memu = s.memu := rfl
@[simp] theorem State.onBelt_trellis (f : Belt → Belt) (s : State) : (s.onBelt f).trellis = s.trellis := rfl
@[simp] theorem State.onBelt_choir (f : Belt → Belt) (s : State) : (s.onBelt f).choir = s.choir := rfl
@[simp] theorem State.onBelt_zone (f : Belt → Belt) (s : State) : (s.onBelt f).zone = s.zone := rfl
@[simp] theorem State.onBelt_belt (f : Belt → Belt) (s : State) : (s.onBelt f).belt = f s.belt := rfl
@[simp] theorem State.onBelt_audio (f : Belt → Belt) (s : State) : (s.onBelt f).audio = s.audio := rfl
@[simp] theorem State.onBelt_island (f : Belt → Belt) (s : State) : (s.onBelt f).island = s.island := rfl
@[simp] theorem State.onBelt_power (f : Belt → Belt) (s : State) : (s.onBelt f).power = s.power := rfl
@[simp] theorem State.onBelt_video (f : Belt → Belt) (s : State) : (s.onBelt f).video = s.video := rfl
@[simp] theorem State.onBelt_boot (f : Belt → Belt) (s : State) : (s.onBelt f).boot = s.boot := rfl
@[simp] theorem State.onBelt_od (f : Belt → Belt) (s : State) : (s.onBelt f).od = s.od := rfl
@[simp] theorem State.onBelt_inForce (f : Belt → Belt) (s : State) : (s.onBelt f).inForce = s.inForce := rfl
@[simp] theorem State.onBelt_wtime (f : Belt → Belt) (s : State) : (s.onBelt f).wtime = s.wtime := rfl
@[simp] theorem State.onBelt_regs (f : Belt → Belt) (s : State) : (s.onBelt f).regs = s.regs := rfl
@[simp] theorem State.onBelt_mem (f : Belt → Belt) (s : State) : (s.onBelt f).mem = s.mem := rfl
@[simp] theorem State.onBelt_fresh (f : Belt → Belt) (s : State) : (s.onBelt f).fresh = s.fresh := rfl
@[simp] theorem State.onBelt_out (f : Belt → Belt) (s : State) : (s.onBelt f).out = s.out := rfl
@[simp] theorem State.onBelt_pending (f : Belt → Belt) (s : State) : (s.onBelt f).pending = s.pending := rfl

/-! ### onAudio -/

@[simp] theorem State.onAudio_variant (f : Audio → Audio) (s : State) : (s.onAudio f).variant = s.variant := rfl
@[simp] theorem State.onAudio_now (f : Audio → Audio) (s : State) : (s.onAudio f).now = s.now := rfl
@[simp] theorem State.onAudio_beat (f : Audio → Audio) (s : State) : (s.onAudio f).beat = s.beat := rfl
@[simp] theorem State.onAudio_comm (f : Audio → Audio) (s : State) : (s.onAudio f).comm = s.comm := rfl
@[simp] theorem State.onAudio_oap (f : Audio → Audio) (s : State) : (s.onAudio f).oap = s.oap := rfl
@[simp] theorem State.onAudio_nvm (f : Audio → Audio) (s : State) : (s.onAudio f).nvm = s.nvm := rfl
@[simp] theorem State.onAudio_ports (f : Audio → Audio) (s : State) : (s.onAudio f).ports = s.ports := rfl
@[simp] theorem State.onAudio_fabric (f : Audio → Audio) (s : State) : (s.onAudio f).fabric = s.fabric := rfl
@[simp] theorem State.onAudio_press (f : Audio → Audio) (s : State) : (s.onAudio f).press = s.press := rfl
@[simp] theorem State.onAudio_queue (f : Audio → Audio) (s : State) : (s.onAudio f).queue = s.queue := rfl
@[simp] theorem State.onAudio_memu (f : Audio → Audio) (s : State) : (s.onAudio f).memu = s.memu := rfl
@[simp] theorem State.onAudio_trellis (f : Audio → Audio) (s : State) : (s.onAudio f).trellis = s.trellis := rfl
@[simp] theorem State.onAudio_choir (f : Audio → Audio) (s : State) : (s.onAudio f).choir = s.choir := rfl
@[simp] theorem State.onAudio_zone (f : Audio → Audio) (s : State) : (s.onAudio f).zone = s.zone := rfl
@[simp] theorem State.onAudio_belt (f : Audio → Audio) (s : State) : (s.onAudio f).belt = s.belt := rfl
@[simp] theorem State.onAudio_audio (f : Audio → Audio) (s : State) : (s.onAudio f).audio = f s.audio := rfl
@[simp] theorem State.onAudio_island (f : Audio → Audio) (s : State) : (s.onAudio f).island = s.island := rfl
@[simp] theorem State.onAudio_power (f : Audio → Audio) (s : State) : (s.onAudio f).power = s.power := rfl
@[simp] theorem State.onAudio_video (f : Audio → Audio) (s : State) : (s.onAudio f).video = s.video := rfl
@[simp] theorem State.onAudio_boot (f : Audio → Audio) (s : State) : (s.onAudio f).boot = s.boot := rfl
@[simp] theorem State.onAudio_od (f : Audio → Audio) (s : State) : (s.onAudio f).od = s.od := rfl
@[simp] theorem State.onAudio_inForce (f : Audio → Audio) (s : State) : (s.onAudio f).inForce = s.inForce := rfl
@[simp] theorem State.onAudio_wtime (f : Audio → Audio) (s : State) : (s.onAudio f).wtime = s.wtime := rfl
@[simp] theorem State.onAudio_regs (f : Audio → Audio) (s : State) : (s.onAudio f).regs = s.regs := rfl
@[simp] theorem State.onAudio_mem (f : Audio → Audio) (s : State) : (s.onAudio f).mem = s.mem := rfl
@[simp] theorem State.onAudio_fresh (f : Audio → Audio) (s : State) : (s.onAudio f).fresh = s.fresh := rfl
@[simp] theorem State.onAudio_out (f : Audio → Audio) (s : State) : (s.onAudio f).out = s.out := rfl
@[simp] theorem State.onAudio_pending (f : Audio → Audio) (s : State) : (s.onAudio f).pending = s.pending := rfl

/-! ### onIsland -/

@[simp] theorem State.onIsland_variant (f : Island → Island) (s : State) : (s.onIsland f).variant = s.variant := rfl
@[simp] theorem State.onIsland_now (f : Island → Island) (s : State) : (s.onIsland f).now = s.now := rfl
@[simp] theorem State.onIsland_beat (f : Island → Island) (s : State) : (s.onIsland f).beat = s.beat := rfl
@[simp] theorem State.onIsland_comm (f : Island → Island) (s : State) : (s.onIsland f).comm = s.comm := rfl
@[simp] theorem State.onIsland_oap (f : Island → Island) (s : State) : (s.onIsland f).oap = s.oap := rfl
@[simp] theorem State.onIsland_nvm (f : Island → Island) (s : State) : (s.onIsland f).nvm = s.nvm := rfl
@[simp] theorem State.onIsland_ports (f : Island → Island) (s : State) : (s.onIsland f).ports = s.ports := rfl
@[simp] theorem State.onIsland_fabric (f : Island → Island) (s : State) : (s.onIsland f).fabric = s.fabric := rfl
@[simp] theorem State.onIsland_press (f : Island → Island) (s : State) : (s.onIsland f).press = s.press := rfl
@[simp] theorem State.onIsland_queue (f : Island → Island) (s : State) : (s.onIsland f).queue = s.queue := rfl
@[simp] theorem State.onIsland_memu (f : Island → Island) (s : State) : (s.onIsland f).memu = s.memu := rfl
@[simp] theorem State.onIsland_trellis (f : Island → Island) (s : State) : (s.onIsland f).trellis = s.trellis := rfl
@[simp] theorem State.onIsland_choir (f : Island → Island) (s : State) : (s.onIsland f).choir = s.choir := rfl
@[simp] theorem State.onIsland_zone (f : Island → Island) (s : State) : (s.onIsland f).zone = s.zone := rfl
@[simp] theorem State.onIsland_belt (f : Island → Island) (s : State) : (s.onIsland f).belt = s.belt := rfl
@[simp] theorem State.onIsland_audio (f : Island → Island) (s : State) : (s.onIsland f).audio = s.audio := rfl
@[simp] theorem State.onIsland_island (f : Island → Island) (s : State) : (s.onIsland f).island = f s.island := rfl
@[simp] theorem State.onIsland_power (f : Island → Island) (s : State) : (s.onIsland f).power = s.power := rfl
@[simp] theorem State.onIsland_video (f : Island → Island) (s : State) : (s.onIsland f).video = s.video := rfl
@[simp] theorem State.onIsland_boot (f : Island → Island) (s : State) : (s.onIsland f).boot = s.boot := rfl
@[simp] theorem State.onIsland_od (f : Island → Island) (s : State) : (s.onIsland f).od = s.od := rfl
@[simp] theorem State.onIsland_inForce (f : Island → Island) (s : State) : (s.onIsland f).inForce = s.inForce := rfl
@[simp] theorem State.onIsland_wtime (f : Island → Island) (s : State) : (s.onIsland f).wtime = s.wtime := rfl
@[simp] theorem State.onIsland_regs (f : Island → Island) (s : State) : (s.onIsland f).regs = s.regs := rfl
@[simp] theorem State.onIsland_mem (f : Island → Island) (s : State) : (s.onIsland f).mem = s.mem := rfl
@[simp] theorem State.onIsland_fresh (f : Island → Island) (s : State) : (s.onIsland f).fresh = s.fresh := rfl
@[simp] theorem State.onIsland_out (f : Island → Island) (s : State) : (s.onIsland f).out = s.out := rfl
@[simp] theorem State.onIsland_pending (f : Island → Island) (s : State) : (s.onIsland f).pending = s.pending := rfl

/-! ### onPower -/

@[simp] theorem State.onPower_variant (f : Power → Power) (s : State) : (s.onPower f).variant = s.variant := rfl
@[simp] theorem State.onPower_now (f : Power → Power) (s : State) : (s.onPower f).now = s.now := rfl
@[simp] theorem State.onPower_beat (f : Power → Power) (s : State) : (s.onPower f).beat = s.beat := rfl
@[simp] theorem State.onPower_comm (f : Power → Power) (s : State) : (s.onPower f).comm = s.comm := rfl
@[simp] theorem State.onPower_oap (f : Power → Power) (s : State) : (s.onPower f).oap = s.oap := rfl
@[simp] theorem State.onPower_nvm (f : Power → Power) (s : State) : (s.onPower f).nvm = s.nvm := rfl
@[simp] theorem State.onPower_ports (f : Power → Power) (s : State) : (s.onPower f).ports = s.ports := rfl
@[simp] theorem State.onPower_fabric (f : Power → Power) (s : State) : (s.onPower f).fabric = s.fabric := rfl
@[simp] theorem State.onPower_press (f : Power → Power) (s : State) : (s.onPower f).press = s.press := rfl
@[simp] theorem State.onPower_queue (f : Power → Power) (s : State) : (s.onPower f).queue = s.queue := rfl
@[simp] theorem State.onPower_memu (f : Power → Power) (s : State) : (s.onPower f).memu = s.memu := rfl
@[simp] theorem State.onPower_trellis (f : Power → Power) (s : State) : (s.onPower f).trellis = s.trellis := rfl
@[simp] theorem State.onPower_choir (f : Power → Power) (s : State) : (s.onPower f).choir = s.choir := rfl
@[simp] theorem State.onPower_zone (f : Power → Power) (s : State) : (s.onPower f).zone = s.zone := rfl
@[simp] theorem State.onPower_belt (f : Power → Power) (s : State) : (s.onPower f).belt = s.belt := rfl
@[simp] theorem State.onPower_audio (f : Power → Power) (s : State) : (s.onPower f).audio = s.audio := rfl
@[simp] theorem State.onPower_island (f : Power → Power) (s : State) : (s.onPower f).island = s.island := rfl
@[simp] theorem State.onPower_power (f : Power → Power) (s : State) : (s.onPower f).power = f s.power := rfl
@[simp] theorem State.onPower_video (f : Power → Power) (s : State) : (s.onPower f).video = s.video := rfl
@[simp] theorem State.onPower_boot (f : Power → Power) (s : State) : (s.onPower f).boot = s.boot := rfl
@[simp] theorem State.onPower_od (f : Power → Power) (s : State) : (s.onPower f).od = s.od := rfl
@[simp] theorem State.onPower_inForce (f : Power → Power) (s : State) : (s.onPower f).inForce = s.inForce := rfl
@[simp] theorem State.onPower_wtime (f : Power → Power) (s : State) : (s.onPower f).wtime = s.wtime := rfl
@[simp] theorem State.onPower_regs (f : Power → Power) (s : State) : (s.onPower f).regs = s.regs := rfl
@[simp] theorem State.onPower_mem (f : Power → Power) (s : State) : (s.onPower f).mem = s.mem := rfl
@[simp] theorem State.onPower_fresh (f : Power → Power) (s : State) : (s.onPower f).fresh = s.fresh := rfl
@[simp] theorem State.onPower_out (f : Power → Power) (s : State) : (s.onPower f).out = s.out := rfl
@[simp] theorem State.onPower_pending (f : Power → Power) (s : State) : (s.onPower f).pending = s.pending := rfl

/-! ### onBoot -/

@[simp] theorem State.onBoot_variant (f : Boot → Boot) (s : State) : (s.onBoot f).variant = s.variant := rfl
@[simp] theorem State.onBoot_now (f : Boot → Boot) (s : State) : (s.onBoot f).now = s.now := rfl
@[simp] theorem State.onBoot_beat (f : Boot → Boot) (s : State) : (s.onBoot f).beat = s.beat := rfl
@[simp] theorem State.onBoot_comm (f : Boot → Boot) (s : State) : (s.onBoot f).comm = s.comm := rfl
@[simp] theorem State.onBoot_oap (f : Boot → Boot) (s : State) : (s.onBoot f).oap = s.oap := rfl
@[simp] theorem State.onBoot_nvm (f : Boot → Boot) (s : State) : (s.onBoot f).nvm = s.nvm := rfl
@[simp] theorem State.onBoot_ports (f : Boot → Boot) (s : State) : (s.onBoot f).ports = s.ports := rfl
@[simp] theorem State.onBoot_fabric (f : Boot → Boot) (s : State) : (s.onBoot f).fabric = s.fabric := rfl
@[simp] theorem State.onBoot_press (f : Boot → Boot) (s : State) : (s.onBoot f).press = s.press := rfl
@[simp] theorem State.onBoot_queue (f : Boot → Boot) (s : State) : (s.onBoot f).queue = s.queue := rfl
@[simp] theorem State.onBoot_memu (f : Boot → Boot) (s : State) : (s.onBoot f).memu = s.memu := rfl
@[simp] theorem State.onBoot_trellis (f : Boot → Boot) (s : State) : (s.onBoot f).trellis = s.trellis := rfl
@[simp] theorem State.onBoot_choir (f : Boot → Boot) (s : State) : (s.onBoot f).choir = s.choir := rfl
@[simp] theorem State.onBoot_zone (f : Boot → Boot) (s : State) : (s.onBoot f).zone = s.zone := rfl
@[simp] theorem State.onBoot_belt (f : Boot → Boot) (s : State) : (s.onBoot f).belt = s.belt := rfl
@[simp] theorem State.onBoot_audio (f : Boot → Boot) (s : State) : (s.onBoot f).audio = s.audio := rfl
@[simp] theorem State.onBoot_island (f : Boot → Boot) (s : State) : (s.onBoot f).island = s.island := rfl
@[simp] theorem State.onBoot_power (f : Boot → Boot) (s : State) : (s.onBoot f).power = s.power := rfl
@[simp] theorem State.onBoot_video (f : Boot → Boot) (s : State) : (s.onBoot f).video = s.video := rfl
@[simp] theorem State.onBoot_boot (f : Boot → Boot) (s : State) : (s.onBoot f).boot = f s.boot := rfl
@[simp] theorem State.onBoot_od (f : Boot → Boot) (s : State) : (s.onBoot f).od = s.od := rfl
@[simp] theorem State.onBoot_inForce (f : Boot → Boot) (s : State) : (s.onBoot f).inForce = s.inForce := rfl
@[simp] theorem State.onBoot_wtime (f : Boot → Boot) (s : State) : (s.onBoot f).wtime = s.wtime := rfl
@[simp] theorem State.onBoot_regs (f : Boot → Boot) (s : State) : (s.onBoot f).regs = s.regs := rfl
@[simp] theorem State.onBoot_mem (f : Boot → Boot) (s : State) : (s.onBoot f).mem = s.mem := rfl
@[simp] theorem State.onBoot_fresh (f : Boot → Boot) (s : State) : (s.onBoot f).fresh = s.fresh := rfl
@[simp] theorem State.onBoot_out (f : Boot → Boot) (s : State) : (s.onBoot f).out = s.out := rfl
@[simp] theorem State.onBoot_pending (f : Boot → Boot) (s : State) : (s.onBoot f).pending = s.pending := rfl

/-! ### onPorts -/

@[simp] theorem State.onPorts_variant (f : Tab Port → Tab Port) (s : State) : (s.onPorts f).variant = s.variant := rfl
@[simp] theorem State.onPorts_now (f : Tab Port → Tab Port) (s : State) : (s.onPorts f).now = s.now := rfl
@[simp] theorem State.onPorts_beat (f : Tab Port → Tab Port) (s : State) : (s.onPorts f).beat = s.beat := rfl
@[simp] theorem State.onPorts_comm (f : Tab Port → Tab Port) (s : State) : (s.onPorts f).comm = s.comm := rfl
@[simp] theorem State.onPorts_oap (f : Tab Port → Tab Port) (s : State) : (s.onPorts f).oap = s.oap := rfl
@[simp] theorem State.onPorts_nvm (f : Tab Port → Tab Port) (s : State) : (s.onPorts f).nvm = s.nvm := rfl
@[simp] theorem State.onPorts_ports (f : Tab Port → Tab Port) (s : State) : (s.onPorts f).ports = f s.ports := rfl
@[simp] theorem State.onPorts_fabric (f : Tab Port → Tab Port) (s : State) : (s.onPorts f).fabric = s.fabric := rfl
@[simp] theorem State.onPorts_press (f : Tab Port → Tab Port) (s : State) : (s.onPorts f).press = s.press := rfl
@[simp] theorem State.onPorts_queue (f : Tab Port → Tab Port) (s : State) : (s.onPorts f).queue = s.queue := rfl
@[simp] theorem State.onPorts_memu (f : Tab Port → Tab Port) (s : State) : (s.onPorts f).memu = s.memu := rfl
@[simp] theorem State.onPorts_trellis (f : Tab Port → Tab Port) (s : State) : (s.onPorts f).trellis = s.trellis := rfl
@[simp] theorem State.onPorts_choir (f : Tab Port → Tab Port) (s : State) : (s.onPorts f).choir = s.choir := rfl
@[simp] theorem State.onPorts_zone (f : Tab Port → Tab Port) (s : State) : (s.onPorts f).zone = s.zone := rfl
@[simp] theorem State.onPorts_belt (f : Tab Port → Tab Port) (s : State) : (s.onPorts f).belt = s.belt := rfl
@[simp] theorem State.onPorts_audio (f : Tab Port → Tab Port) (s : State) : (s.onPorts f).audio = s.audio := rfl
@[simp] theorem State.onPorts_island (f : Tab Port → Tab Port) (s : State) : (s.onPorts f).island = s.island := rfl
@[simp] theorem State.onPorts_power (f : Tab Port → Tab Port) (s : State) : (s.onPorts f).power = s.power := rfl
@[simp] theorem State.onPorts_video (f : Tab Port → Tab Port) (s : State) : (s.onPorts f).video = s.video := rfl
@[simp] theorem State.onPorts_boot (f : Tab Port → Tab Port) (s : State) : (s.onPorts f).boot = s.boot := rfl
@[simp] theorem State.onPorts_od (f : Tab Port → Tab Port) (s : State) : (s.onPorts f).od = s.od := rfl
@[simp] theorem State.onPorts_inForce (f : Tab Port → Tab Port) (s : State) : (s.onPorts f).inForce = s.inForce := rfl
@[simp] theorem State.onPorts_wtime (f : Tab Port → Tab Port) (s : State) : (s.onPorts f).wtime = s.wtime := rfl
@[simp] theorem State.onPorts_regs (f : Tab Port → Tab Port) (s : State) : (s.onPorts f).regs = s.regs := rfl
@[simp] theorem State.onPorts_mem (f : Tab Port → Tab Port) (s : State) : (s.onPorts f).mem = s.mem := rfl
@[simp] theorem State.onPorts_fresh (f : Tab Port → Tab Port) (s : State) : (s.onPorts f).fresh = s.fresh := rfl
@[simp] theorem State.onPorts_out (f : Tab Port → Tab Port) (s : State) : (s.onPorts f).out = s.out := rfl
@[simp] theorem State.onPorts_pending (f : Tab Port → Tab Port) (s : State) : (s.onPorts f).pending = s.pending := rfl

/-! ### onEntries -/

@[simp] theorem State.onEntries_variant (f : Tab Nat → Tab Nat) (s : State) : (s.onEntries f).variant = s.variant := rfl
@[simp] theorem State.onEntries_now (f : Tab Nat → Tab Nat) (s : State) : (s.onEntries f).now = s.now := rfl
@[simp] theorem State.onEntries_beat (f : Tab Nat → Tab Nat) (s : State) : (s.onEntries f).beat = s.beat := rfl
@[simp] theorem State.onEntries_comm (f : Tab Nat → Tab Nat) (s : State) : (s.onEntries f).comm = s.comm := rfl
@[simp] theorem State.onEntries_oap (f : Tab Nat → Tab Nat) (s : State) : (s.onEntries f).oap = s.oap := rfl
@[simp] theorem State.onEntries_nvm (f : Tab Nat → Tab Nat) (s : State) : (s.onEntries f).nvm = s.nvm := rfl
@[simp] theorem State.onEntries_ports (f : Tab Nat → Tab Nat) (s : State) : (s.onEntries f).ports = s.ports := rfl
@[simp] theorem State.onEntries_fabric (f : Tab Nat → Tab Nat) (s : State) : (s.onEntries f).fabric = s.fabric := rfl
@[simp] theorem State.onEntries_press (f : Tab Nat → Tab Nat) (s : State) : (s.onEntries f).press = s.press := rfl
@[simp] theorem State.onEntries_queue (f : Tab Nat → Tab Nat) (s : State) : (s.onEntries f).queue = s.queue := rfl
@[simp] theorem State.onEntries_memu (f : Tab Nat → Tab Nat) (s : State) : (s.onEntries f).memu = s.memu := rfl
@[simp] theorem State.onEntries_trellis (f : Tab Nat → Tab Nat) (s : State) : (s.onEntries f).trellis = s.trellis := rfl
@[simp] theorem State.onEntries_choir (f : Tab Nat → Tab Nat) (s : State) : (s.onEntries f).choir = s.choir := rfl
@[simp] theorem State.onEntries_zone (f : Tab Nat → Tab Nat) (s : State) : (s.onEntries f).zone = s.zone := rfl
@[simp] theorem State.onEntries_belt (f : Tab Nat → Tab Nat) (s : State) : (s.onEntries f).belt = s.belt := rfl
@[simp] theorem State.onEntries_audio (f : Tab Nat → Tab Nat) (s : State) : (s.onEntries f).audio = s.audio := rfl
@[simp] theorem State.onEntries_island (f : Tab Nat → Tab Nat) (s : State) : (s.onEntries f).island = s.island := rfl
@[simp] theorem State.onEntries_power (f : Tab Nat → Tab Nat) (s : State) : (s.onEntries f).power = s.power := rfl
@[simp] theorem State.onEntries_video (f : Tab Nat → Tab Nat) (s : State) : (s.onEntries f).video = s.video := rfl
@[simp] theorem State.onEntries_boot (f : Tab Nat → Tab Nat) (s : State) : (s.onEntries f).boot = s.boot := rfl
@[simp] theorem State.onEntries_od (f : Tab Nat → Tab Nat) (s : State) : (s.onEntries f).od = f s.od := rfl
@[simp] theorem State.onEntries_inForce (f : Tab Nat → Tab Nat) (s : State) : (s.onEntries f).inForce = s.inForce := rfl
@[simp] theorem State.onEntries_wtime (f : Tab Nat → Tab Nat) (s : State) : (s.onEntries f).wtime = s.wtime := rfl
@[simp] theorem State.onEntries_regs (f : Tab Nat → Tab Nat) (s : State) : (s.onEntries f).regs = s.regs := rfl
@[simp] theorem State.onEntries_mem (f : Tab Nat → Tab Nat) (s : State) : (s.onEntries f).mem = s.mem := rfl
@[simp] theorem State.onEntries_fresh (f : Tab Nat → Tab Nat) (s : State) : (s.onEntries f).fresh = s.fresh := rfl
@[simp] theorem State.onEntries_out (f : Tab Nat → Tab Nat) (s : State) : (s.onEntries f).out = s.out := rfl
@[simp] theorem State.onEntries_pending (f : Tab Nat → Tab Nat) (s : State) : (s.onEntries f).pending = s.pending := rfl

/-! ### onForces -/

@[simp] theorem State.onForces_variant (f : Tab Nat → Tab Nat) (s : State) : (s.onForces f).variant = s.variant := rfl
@[simp] theorem State.onForces_now (f : Tab Nat → Tab Nat) (s : State) : (s.onForces f).now = s.now := rfl
@[simp] theorem State.onForces_beat (f : Tab Nat → Tab Nat) (s : State) : (s.onForces f).beat = s.beat := rfl
@[simp] theorem State.onForces_comm (f : Tab Nat → Tab Nat) (s : State) : (s.onForces f).comm = s.comm := rfl
@[simp] theorem State.onForces_oap (f : Tab Nat → Tab Nat) (s : State) : (s.onForces f).oap = s.oap := rfl
@[simp] theorem State.onForces_nvm (f : Tab Nat → Tab Nat) (s : State) : (s.onForces f).nvm = s.nvm := rfl
@[simp] theorem State.onForces_ports (f : Tab Nat → Tab Nat) (s : State) : (s.onForces f).ports = s.ports := rfl
@[simp] theorem State.onForces_fabric (f : Tab Nat → Tab Nat) (s : State) : (s.onForces f).fabric = s.fabric := rfl
@[simp] theorem State.onForces_press (f : Tab Nat → Tab Nat) (s : State) : (s.onForces f).press = s.press := rfl
@[simp] theorem State.onForces_queue (f : Tab Nat → Tab Nat) (s : State) : (s.onForces f).queue = s.queue := rfl
@[simp] theorem State.onForces_memu (f : Tab Nat → Tab Nat) (s : State) : (s.onForces f).memu = s.memu := rfl
@[simp] theorem State.onForces_trellis (f : Tab Nat → Tab Nat) (s : State) : (s.onForces f).trellis = s.trellis := rfl
@[simp] theorem State.onForces_choir (f : Tab Nat → Tab Nat) (s : State) : (s.onForces f).choir = s.choir := rfl
@[simp] theorem State.onForces_zone (f : Tab Nat → Tab Nat) (s : State) : (s.onForces f).zone = s.zone := rfl
@[simp] theorem State.onForces_belt (f : Tab Nat → Tab Nat) (s : State) : (s.onForces f).belt = s.belt := rfl
@[simp] theorem State.onForces_audio (f : Tab Nat → Tab Nat) (s : State) : (s.onForces f).audio = s.audio := rfl
@[simp] theorem State.onForces_island (f : Tab Nat → Tab Nat) (s : State) : (s.onForces f).island = s.island := rfl
@[simp] theorem State.onForces_power (f : Tab Nat → Tab Nat) (s : State) : (s.onForces f).power = s.power := rfl
@[simp] theorem State.onForces_video (f : Tab Nat → Tab Nat) (s : State) : (s.onForces f).video = s.video := rfl
@[simp] theorem State.onForces_boot (f : Tab Nat → Tab Nat) (s : State) : (s.onForces f).boot = s.boot := rfl
@[simp] theorem State.onForces_od (f : Tab Nat → Tab Nat) (s : State) : (s.onForces f).od = s.od := rfl
@[simp] theorem State.onForces_inForce (f : Tab Nat → Tab Nat) (s : State) : (s.onForces f).inForce = f s.inForce := rfl
@[simp] theorem State.onForces_wtime (f : Tab Nat → Tab Nat) (s : State) : (s.onForces f).wtime = s.wtime := rfl
@[simp] theorem State.onForces_regs (f : Tab Nat → Tab Nat) (s : State) : (s.onForces f).regs = s.regs := rfl
@[simp] theorem State.onForces_mem (f : Tab Nat → Tab Nat) (s : State) : (s.onForces f).mem = s.mem := rfl
@[simp] theorem State.onForces_fresh (f : Tab Nat → Tab Nat) (s : State) : (s.onForces f).fresh = s.fresh := rfl
@[simp] theorem State.onForces_out (f : Tab Nat → Tab Nat) (s : State) : (s.onForces f).out = s.out := rfl
@[simp] theorem State.onForces_pending (f : Tab Nat → Tab Nat) (s : State) : (s.onForces f).pending = s.pending := rfl

/-! ### onWtimes -/

@[simp] theorem State.onWtimes_variant (f : Tab WriteLog → Tab WriteLog) (s : State) : (s.onWtimes f).variant = s.variant := rfl
@[simp] theorem State.onWtimes_now (f : Tab WriteLog → Tab WriteLog) (s : State) : (s.onWtimes f).now = s.now := rfl
@[simp] theorem State.onWtimes_beat (f : Tab WriteLog → Tab WriteLog) (s : State) : (s.onWtimes f).beat = s.beat := rfl
@[simp] theorem State.onWtimes_comm (f : Tab WriteLog → Tab WriteLog) (s : State) : (s.onWtimes f).comm = s.comm := rfl
@[simp] theorem State.onWtimes_oap (f : Tab WriteLog → Tab WriteLog) (s : State) : (s.onWtimes f).oap = s.oap := rfl
@[simp] theorem State.onWtimes_nvm (f : Tab WriteLog → Tab WriteLog) (s : State) : (s.onWtimes f).nvm = s.nvm := rfl
@[simp] theorem State.onWtimes_ports (f : Tab WriteLog → Tab WriteLog) (s : State) : (s.onWtimes f).ports = s.ports := rfl
@[simp] theorem State.onWtimes_fabric (f : Tab WriteLog → Tab WriteLog) (s : State) : (s.onWtimes f).fabric = s.fabric := rfl
@[simp] theorem State.onWtimes_press (f : Tab WriteLog → Tab WriteLog) (s : State) : (s.onWtimes f).press = s.press := rfl
@[simp] theorem State.onWtimes_queue (f : Tab WriteLog → Tab WriteLog) (s : State) : (s.onWtimes f).queue = s.queue := rfl
@[simp] theorem State.onWtimes_memu (f : Tab WriteLog → Tab WriteLog) (s : State) : (s.onWtimes f).memu = s.memu := rfl
@[simp] theorem State.onWtimes_trellis (f : Tab WriteLog → Tab WriteLog) (s : State) : (s.onWtimes f).trellis = s.trellis := rfl
@[simp] theorem State.onWtimes_choir (f : Tab WriteLog → Tab WriteLog) (s : State) : (s.onWtimes f).choir = s.choir := rfl
@[simp] theorem State.onWtimes_zone (f : Tab WriteLog → Tab WriteLog) (s : State) : (s.onWtimes f).zone = s.zone := rfl
@[simp] theorem State.onWtimes_belt (f : Tab WriteLog → Tab WriteLog) (s : State) : (s.onWtimes f).belt = s.belt := rfl
@[simp] theorem State.onWtimes_audio (f : Tab WriteLog → Tab WriteLog) (s : State) : (s.onWtimes f).audio = s.audio := rfl
@[simp] theorem State.onWtimes_island (f : Tab WriteLog → Tab WriteLog) (s : State) : (s.onWtimes f).island = s.island := rfl
@[simp] theorem State.onWtimes_power (f : Tab WriteLog → Tab WriteLog) (s : State) : (s.onWtimes f).power = s.power := rfl
@[simp] theorem State.onWtimes_video (f : Tab WriteLog → Tab WriteLog) (s : State) : (s.onWtimes f).video = s.video := rfl
@[simp] theorem State.onWtimes_boot (f : Tab WriteLog → Tab WriteLog) (s : State) : (s.onWtimes f).boot = s.boot := rfl
@[simp] theorem State.onWtimes_od (f : Tab WriteLog → Tab WriteLog) (s : State) : (s.onWtimes f).od = s.od := rfl
@[simp] theorem State.onWtimes_inForce (f : Tab WriteLog → Tab WriteLog) (s : State) : (s.onWtimes f).inForce = s.inForce := rfl
@[simp] theorem State.onWtimes_wtime (f : Tab WriteLog → Tab WriteLog) (s : State) : (s.onWtimes f).wtime = f s.wtime := rfl
@[simp] theorem State.onWtimes_regs (f : Tab WriteLog → Tab WriteLog) (s : State) : (s.onWtimes f).regs = s.regs := rfl
@[simp] theorem State.onWtimes_mem (f : Tab WriteLog → Tab WriteLog) (s : State) : (s.onWtimes f).mem = s.mem := rfl
@[simp] theorem State.onWtimes_fresh (f : Tab WriteLog → Tab WriteLog) (s : State) : (s.onWtimes f).fresh = s.fresh := rfl
@[simp] theorem State.onWtimes_out (f : Tab WriteLog → Tab WriteLog) (s : State) : (s.onWtimes f).out = s.out := rfl
@[simp] theorem State.onWtimes_pending (f : Tab WriteLog → Tab WriteLog) (s : State) : (s.onWtimes f).pending = s.pending := rfl

/-! ### onRegs -/

@[simp] theorem State.onRegs_variant (f : Tab Word → Tab Word) (s : State) : (s.onRegs f).variant = s.variant := rfl
@[simp] theorem State.onRegs_now (f : Tab Word → Tab Word) (s : State) : (s.onRegs f).now = s.now := rfl
@[simp] theorem State.onRegs_beat (f : Tab Word → Tab Word) (s : State) : (s.onRegs f).beat = s.beat := rfl
@[simp] theorem State.onRegs_comm (f : Tab Word → Tab Word) (s : State) : (s.onRegs f).comm = s.comm := rfl
@[simp] theorem State.onRegs_oap (f : Tab Word → Tab Word) (s : State) : (s.onRegs f).oap = s.oap := rfl
@[simp] theorem State.onRegs_nvm (f : Tab Word → Tab Word) (s : State) : (s.onRegs f).nvm = s.nvm := rfl
@[simp] theorem State.onRegs_ports (f : Tab Word → Tab Word) (s : State) : (s.onRegs f).ports = s.ports := rfl
@[simp] theorem State.onRegs_fabric (f : Tab Word → Tab Word) (s : State) : (s.onRegs f).fabric = s.fabric := rfl
@[simp] theorem State.onRegs_press (f : Tab Word → Tab Word) (s : State) : (s.onRegs f).press = s.press := rfl
@[simp] theorem State.onRegs_queue (f : Tab Word → Tab Word) (s : State) : (s.onRegs f).queue = s.queue := rfl
@[simp] theorem State.onRegs_memu (f : Tab Word → Tab Word) (s : State) : (s.onRegs f).memu = s.memu := rfl
@[simp] theorem State.onRegs_trellis (f : Tab Word → Tab Word) (s : State) : (s.onRegs f).trellis = s.trellis := rfl
@[simp] theorem State.onRegs_choir (f : Tab Word → Tab Word) (s : State) : (s.onRegs f).choir = s.choir := rfl
@[simp] theorem State.onRegs_zone (f : Tab Word → Tab Word) (s : State) : (s.onRegs f).zone = s.zone := rfl
@[simp] theorem State.onRegs_belt (f : Tab Word → Tab Word) (s : State) : (s.onRegs f).belt = s.belt := rfl
@[simp] theorem State.onRegs_audio (f : Tab Word → Tab Word) (s : State) : (s.onRegs f).audio = s.audio := rfl
@[simp] theorem State.onRegs_island (f : Tab Word → Tab Word) (s : State) : (s.onRegs f).island = s.island := rfl
@[simp] theorem State.onRegs_power (f : Tab Word → Tab Word) (s : State) : (s.onRegs f).power = s.power := rfl
@[simp] theorem State.onRegs_video (f : Tab Word → Tab Word) (s : State) : (s.onRegs f).video = s.video := rfl
@[simp] theorem State.onRegs_boot (f : Tab Word → Tab Word) (s : State) : (s.onRegs f).boot = s.boot := rfl
@[simp] theorem State.onRegs_od (f : Tab Word → Tab Word) (s : State) : (s.onRegs f).od = s.od := rfl
@[simp] theorem State.onRegs_inForce (f : Tab Word → Tab Word) (s : State) : (s.onRegs f).inForce = s.inForce := rfl
@[simp] theorem State.onRegs_wtime (f : Tab Word → Tab Word) (s : State) : (s.onRegs f).wtime = s.wtime := rfl
@[simp] theorem State.onRegs_regs (f : Tab Word → Tab Word) (s : State) : (s.onRegs f).regs = f s.regs := rfl
@[simp] theorem State.onRegs_mem (f : Tab Word → Tab Word) (s : State) : (s.onRegs f).mem = s.mem := rfl
@[simp] theorem State.onRegs_fresh (f : Tab Word → Tab Word) (s : State) : (s.onRegs f).fresh = s.fresh := rfl
@[simp] theorem State.onRegs_out (f : Tab Word → Tab Word) (s : State) : (s.onRegs f).out = s.out := rfl
@[simp] theorem State.onRegs_pending (f : Tab Word → Tab Word) (s : State) : (s.onRegs f).pending = s.pending := rfl

/-! ### onPort -/

@[simp] theorem State.onPort_variant (k : Nat) (f : Port → Port) (s : State) : (s.onPort k f).variant = s.variant := rfl
@[simp] theorem State.onPort_now (k : Nat) (f : Port → Port) (s : State) : (s.onPort k f).now = s.now := rfl
@[simp] theorem State.onPort_beat (k : Nat) (f : Port → Port) (s : State) : (s.onPort k f).beat = s.beat := rfl
@[simp] theorem State.onPort_comm (k : Nat) (f : Port → Port) (s : State) : (s.onPort k f).comm = s.comm := rfl
@[simp] theorem State.onPort_oap (k : Nat) (f : Port → Port) (s : State) : (s.onPort k f).oap = s.oap := rfl
@[simp] theorem State.onPort_nvm (k : Nat) (f : Port → Port) (s : State) : (s.onPort k f).nvm = s.nvm := rfl
@[simp] theorem State.onPort_ports (k : Nat) (f : Port → Port) (s : State) : (s.onPort k f).ports = tabMod {} s.ports k f := rfl
@[simp] theorem State.onPort_fabric (k : Nat) (f : Port → Port) (s : State) : (s.onPort k f).fabric = s.fabric := rfl
@[simp] theorem State.onPort_press (k : Nat) (f : Port → Port) (s : State) : (s.onPort k f).press = s.press := rfl
@[simp] theorem State.onPort_queue (k : Nat) (f : Port → Port) (s : State) : (s.onPort k f).queue = s.queue := rfl
@[simp] theorem State.onPort_memu (k : Nat) (f : Port → Port) (s : State) : (s.onPort k f).memu = s.memu := rfl
@[simp] theorem State.onPort_trellis (k : Nat) (f : Port → Port) (s : State) : (s.onPort k f).trellis = s.trellis := rfl
@[simp] theorem State.onPort_choir (k : Nat) (f : Port → Port) (s : State) : (s.onPort k f).choir = s.choir := rfl
@[simp] theorem State.onPort_zone (k : Nat) (f : Port → Port) (s : State) : (s.onPort k f).zone = s.zone := rfl
@[simp] theorem State.onPort_belt (k : Nat) (f : Port → Port) (s : State) : (s.onPort k f).belt = s.belt := rfl
@[simp] theorem State.onPort_audio (k : Nat) (f : Port → Port) (s : State) : (s.onPort k f).audio = s.audio := rfl
@[simp] theorem State.onPort_island (k : Nat) (f : Port → Port) (s : State) : (s.onPort k f).island = s.island := rfl
@[simp] theorem State.onPort_power (k : Nat) (f : Port → Port) (s : State) : (s.onPort k f).power = s.power := rfl
@[simp] theorem State.onPort_video (k : Nat) (f : Port → Port) (s : State) : (s.onPort k f).video = s.video := rfl
@[simp] theorem State.onPort_boot (k : Nat) (f : Port → Port) (s : State) : (s.onPort k f).boot = s.boot := rfl
@[simp] theorem State.onPort_od (k : Nat) (f : Port → Port) (s : State) : (s.onPort k f).od = s.od := rfl
@[simp] theorem State.onPort_inForce (k : Nat) (f : Port → Port) (s : State) : (s.onPort k f).inForce = s.inForce := rfl
@[simp] theorem State.onPort_wtime (k : Nat) (f : Port → Port) (s : State) : (s.onPort k f).wtime = s.wtime := rfl
@[simp] theorem State.onPort_regs (k : Nat) (f : Port → Port) (s : State) : (s.onPort k f).regs = s.regs := rfl
@[simp] theorem State.onPort_mem (k : Nat) (f : Port → Port) (s : State) : (s.onPort k f).mem = s.mem := rfl
@[simp] theorem State.onPort_fresh (k : Nat) (f : Port → Port) (s : State) : (s.onPort k f).fresh = s.fresh := rfl
@[simp] theorem State.onPort_out (k : Nat) (f : Port → Port) (s : State) : (s.onPort k f).out = s.out := rfl
@[simp] theorem State.onPort_pending (k : Nat) (f : Port → Port) (s : State) : (s.onPort k f).pending = s.pending := rfl

/-! ### onStream -/

@[simp] theorem State.onStream_variant (k : Nat) (f : Stream → Stream) (s : State) : (s.onStream k f).variant = s.variant := rfl
@[simp] theorem State.onStream_now (k : Nat) (f : Stream → Stream) (s : State) : (s.onStream k f).now = s.now := rfl
@[simp] theorem State.onStream_beat (k : Nat) (f : Stream → Stream) (s : State) : (s.onStream k f).beat = s.beat := rfl
@[simp] theorem State.onStream_comm (k : Nat) (f : Stream → Stream) (s : State) : (s.onStream k f).comm = s.comm := rfl
@[simp] theorem State.onStream_oap (k : Nat) (f : Stream → Stream) (s : State) : (s.onStream k f).oap = s.oap := rfl
@[simp] theorem State.onStream_nvm (k : Nat) (f : Stream → Stream) (s : State) : (s.onStream k f).nvm = s.nvm := rfl
@[simp] theorem State.onStream_ports (k : Nat) (f : Stream → Stream) (s : State) : (s.onStream k f).ports = s.ports := rfl
@[simp] theorem State.onStream_fabric (k : Nat) (f : Stream → Stream) (s : State) : (s.onStream k f).fabric = s.fabric := rfl
@[simp] theorem State.onStream_press (k : Nat) (f : Stream → Stream) (s : State) : (s.onStream k f).press = s.press := rfl
@[simp] theorem State.onStream_queue (k : Nat) (f : Stream → Stream) (s : State) : (s.onStream k f).queue = s.queue := rfl
@[simp] theorem State.onStream_memu (k : Nat) (f : Stream → Stream) (s : State) : (s.onStream k f).memu = s.memu := rfl
@[simp] theorem State.onStream_trellis (k : Nat) (f : Stream → Stream) (s : State) : (s.onStream k f).trellis = s.trellis := rfl
@[simp] theorem State.onStream_choir (k : Nat) (f : Stream → Stream) (s : State) : (s.onStream k f).choir = s.choir := rfl
@[simp] theorem State.onStream_zone (k : Nat) (f : Stream → Stream) (s : State) : (s.onStream k f).zone = s.zone := rfl
@[simp] theorem State.onStream_belt (k : Nat) (f : Stream → Stream) (s : State) : (s.onStream k f).belt = s.belt := rfl
@[simp] theorem State.onStream_audio (k : Nat) (f : Stream → Stream) (s : State) : (s.onStream k f).audio = s.audio := rfl
@[simp] theorem State.onStream_island (k : Nat) (f : Stream → Stream) (s : State) : (s.onStream k f).island = s.island := rfl
@[simp] theorem State.onStream_power (k : Nat) (f : Stream → Stream) (s : State) : (s.onStream k f).power = s.power := rfl
@[simp] theorem State.onStream_video (k : Nat) (f : Stream → Stream) (s : State) : (s.onStream k f).video = tabMod {} s.video k f := rfl
@[simp] theorem State.onStream_boot (k : Nat) (f : Stream → Stream) (s : State) : (s.onStream k f).boot = s.boot := rfl
@[simp] theorem State.onStream_od (k : Nat) (f : Stream → Stream) (s : State) : (s.onStream k f).od = s.od := rfl
@[simp] theorem State.onStream_inForce (k : Nat) (f : Stream → Stream) (s : State) : (s.onStream k f).inForce = s.inForce := rfl
@[simp] theorem State.onStream_wtime (k : Nat) (f : Stream → Stream) (s : State) : (s.onStream k f).wtime = s.wtime := rfl
@[simp] theorem State.onStream_regs (k : Nat) (f : Stream → Stream) (s : State) : (s.onStream k f).regs = s.regs := rfl
@[simp] theorem State.onStream_mem (k : Nat) (f : Stream → Stream) (s : State) : (s.onStream k f).mem = s.mem := rfl
@[simp] theorem State.onStream_fresh (k : Nat) (f : Stream → Stream) (s : State) : (s.onStream k f).fresh = s.fresh := rfl
@[simp] theorem State.onStream_out (k : Nat) (f : Stream → Stream) (s : State) : (s.onStream k f).out = s.out := rfl
@[simp] theorem State.onStream_pending (k : Nat) (f : Stream → Stream) (s : State) : (s.onStream k f).pending = s.pending := rfl

/-! ### onCore -/

@[simp] theorem State.onCore_variant (k : Nat) (f : VCore → VCore) (s : State) : (s.onCore k f).variant = s.variant := rfl
@[simp] theorem State.onCore_now (k : Nat) (f : VCore → VCore) (s : State) : (s.onCore k f).now = s.now := rfl
@[simp] theorem State.onCore_beat (k : Nat) (f : VCore → VCore) (s : State) : (s.onCore k f).beat = s.beat := rfl
@[simp] theorem State.onCore_comm (k : Nat) (f : VCore → VCore) (s : State) : (s.onCore k f).comm = s.comm := rfl
@[simp] theorem State.onCore_oap (k : Nat) (f : VCore → VCore) (s : State) : (s.onCore k f).oap = s.oap := rfl
@[simp] theorem State.onCore_nvm (k : Nat) (f : VCore → VCore) (s : State) : (s.onCore k f).nvm = s.nvm := rfl
@[simp] theorem State.onCore_ports (k : Nat) (f : VCore → VCore) (s : State) : (s.onCore k f).ports = s.ports := rfl
@[simp] theorem State.onCore_fabric (k : Nat) (f : VCore → VCore) (s : State) : (s.onCore k f).fabric = { s.fabric with cores := tabMod {} s.fabric.cores k f } := rfl
@[simp] theorem State.onCore_press (k : Nat) (f : VCore → VCore) (s : State) : (s.onCore k f).press = s.press := rfl
@[simp] theorem State.onCore_queue (k : Nat) (f : VCore → VCore) (s : State) : (s.onCore k f).queue = s.queue := rfl
@[simp] theorem State.onCore_memu (k : Nat) (f : VCore → VCore) (s : State) : (s.onCore k f).memu = s.memu := rfl
@[simp] theorem State.onCore_trellis (k : Nat) (f : VCore → VCore) (s : State) : (s.onCore k f).trellis = s.trellis := rfl
@[simp] theorem State.onCore_choir (k : Nat) (f : VCore → VCore) (s : State) : (s.onCore k f).choir = s.choir := rfl
@[simp] theorem State.onCore_zone (k : Nat) (f : VCore → VCore) (s : State) : (s.onCore k f).zone = s.zone := rfl
@[simp] theorem State.onCore_belt (k : Nat) (f : VCore → VCore) (s : State) : (s.onCore k f).belt = s.belt := rfl
@[simp] theorem State.onCore_audio (k : Nat) (f : VCore → VCore) (s : State) : (s.onCore k f).audio = s.audio := rfl
@[simp] theorem State.onCore_island (k : Nat) (f : VCore → VCore) (s : State) : (s.onCore k f).island = s.island := rfl
@[simp] theorem State.onCore_power (k : Nat) (f : VCore → VCore) (s : State) : (s.onCore k f).power = s.power := rfl
@[simp] theorem State.onCore_video (k : Nat) (f : VCore → VCore) (s : State) : (s.onCore k f).video = s.video := rfl
@[simp] theorem State.onCore_boot (k : Nat) (f : VCore → VCore) (s : State) : (s.onCore k f).boot = s.boot := rfl
@[simp] theorem State.onCore_od (k : Nat) (f : VCore → VCore) (s : State) : (s.onCore k f).od = s.od := rfl
@[simp] theorem State.onCore_inForce (k : Nat) (f : VCore → VCore) (s : State) : (s.onCore k f).inForce = s.inForce := rfl
@[simp] theorem State.onCore_wtime (k : Nat) (f : VCore → VCore) (s : State) : (s.onCore k f).wtime = s.wtime := rfl
@[simp] theorem State.onCore_regs (k : Nat) (f : VCore → VCore) (s : State) : (s.onCore k f).regs = s.regs := rfl
@[simp] theorem State.onCore_mem (k : Nat) (f : VCore → VCore) (s : State) : (s.onCore k f).mem = s.mem := rfl
@[simp] theorem State.onCore_fresh (k : Nat) (f : VCore → VCore) (s : State) : (s.onCore k f).fresh = s.fresh := rfl
@[simp] theorem State.onCore_out (k : Nat) (f : VCore → VCore) (s : State) : (s.onCore k f).out = s.out := rfl
@[simp] theorem State.onCore_pending (k : Nat) (f : VCore → VCore) (s : State) : (s.onCore k f).pending = s.pending := rfl

/-! ### onRouter -/

@[simp] theorem State.onRouter_variant (k : Nat) (f : Router → Router) (s : State) : (s.onRouter k f).variant = s.variant := rfl
@[simp] theorem State.onRouter_now (k : Nat) (f : Router → Router) (s : State) : (s.onRouter k f).now = s.now := rfl
@[simp] theorem State.onRouter_beat (k : Nat) (f : Router → Router) (s : State) : (s.onRouter k f).beat = s.beat := rfl
@[simp] theorem State.onRouter_comm (k : Nat) (f : Router → Router) (s : State) : (s.onRouter k f).comm = s.comm := rfl
@[simp] theorem State.onRouter_oap (k : Nat) (f : Router → Router) (s : State) : (s.onRouter k f).oap = s.oap := rfl
@[simp] theorem State.onRouter_nvm (k : Nat) (f : Router → Router) (s : State) : (s.onRouter k f).nvm = s.nvm := rfl
@[simp] theorem State.onRouter_ports (k : Nat) (f : Router → Router) (s : State) : (s.onRouter k f).ports = s.ports := rfl
@[simp] theorem State.onRouter_fabric (k : Nat) (f : Router → Router) (s : State) : (s.onRouter k f).fabric = { s.fabric with routers := tabMod {} s.fabric.routers k f } := rfl
@[simp] theorem State.onRouter_press (k : Nat) (f : Router → Router) (s : State) : (s.onRouter k f).press = s.press := rfl
@[simp] theorem State.onRouter_queue (k : Nat) (f : Router → Router) (s : State) : (s.onRouter k f).queue = s.queue := rfl
@[simp] theorem State.onRouter_memu (k : Nat) (f : Router → Router) (s : State) : (s.onRouter k f).memu = s.memu := rfl
@[simp] theorem State.onRouter_trellis (k : Nat) (f : Router → Router) (s : State) : (s.onRouter k f).trellis = s.trellis := rfl
@[simp] theorem State.onRouter_choir (k : Nat) (f : Router → Router) (s : State) : (s.onRouter k f).choir = s.choir := rfl
@[simp] theorem State.onRouter_zone (k : Nat) (f : Router → Router) (s : State) : (s.onRouter k f).zone = s.zone := rfl
@[simp] theorem State.onRouter_belt (k : Nat) (f : Router → Router) (s : State) : (s.onRouter k f).belt = s.belt := rfl
@[simp] theorem State.onRouter_audio (k : Nat) (f : Router → Router) (s : State) : (s.onRouter k f).audio = s.audio := rfl
@[simp] theorem State.onRouter_island (k : Nat) (f : Router → Router) (s : State) : (s.onRouter k f).island = s.island := rfl
@[simp] theorem State.onRouter_power (k : Nat) (f : Router → Router) (s : State) : (s.onRouter k f).power = s.power := rfl
@[simp] theorem State.onRouter_video (k : Nat) (f : Router → Router) (s : State) : (s.onRouter k f).video = s.video := rfl
@[simp] theorem State.onRouter_boot (k : Nat) (f : Router → Router) (s : State) : (s.onRouter k f).boot = s.boot := rfl
@[simp] theorem State.onRouter_od (k : Nat) (f : Router → Router) (s : State) : (s.onRouter k f).od = s.od := rfl
@[simp] theorem State.onRouter_inForce (k : Nat) (f : Router → Router) (s : State) : (s.onRouter k f).inForce = s.inForce := rfl
@[simp] theorem State.onRouter_wtime (k : Nat) (f : Router → Router) (s : State) : (s.onRouter k f).wtime = s.wtime := rfl
@[simp] theorem State.onRouter_regs (k : Nat) (f : Router → Router) (s : State) : (s.onRouter k f).regs = s.regs := rfl
@[simp] theorem State.onRouter_mem (k : Nat) (f : Router → Router) (s : State) : (s.onRouter k f).mem = s.mem := rfl
@[simp] theorem State.onRouter_fresh (k : Nat) (f : Router → Router) (s : State) : (s.onRouter k f).fresh = s.fresh := rfl
@[simp] theorem State.onRouter_out (k : Nat) (f : Router → Router) (s : State) : (s.onRouter k f).out = s.out := rfl
@[simp] theorem State.onRouter_pending (k : Nat) (f : Router → Router) (s : State) : (s.onRouter k f).pending = s.pending := rfl

/-! ### onTask -/

@[simp] theorem State.onTask_variant (k : Nat) (f : Task → Task) (s : State) : (s.onTask k f).variant = s.variant := rfl
@[simp] theorem State.onTask_now (k : Nat) (f : Task → Task) (s : State) : (s.onTask k f).now = s.now := rfl
@[simp] theorem State.onTask_beat (k : Nat) (f : Task → Task) (s : State) : (s.onTask k f).beat = s.beat := rfl
@[simp] theorem State.onTask_comm (k : Nat) (f : Task → Task) (s : State) : (s.onTask k f).comm = s.comm := rfl
@[simp] theorem State.onTask_oap (k : Nat) (f : Task → Task) (s : State) : (s.onTask k f).oap = s.oap := rfl
@[simp] theorem State.onTask_nvm (k : Nat) (f : Task → Task) (s : State) : (s.onTask k f).nvm = s.nvm := rfl
@[simp] theorem State.onTask_ports (k : Nat) (f : Task → Task) (s : State) : (s.onTask k f).ports = s.ports := rfl
@[simp] theorem State.onTask_fabric (k : Nat) (f : Task → Task) (s : State) : (s.onTask k f).fabric = s.fabric := rfl
@[simp] theorem State.onTask_press (k : Nat) (f : Task → Task) (s : State) : (s.onTask k f).press = { s.press with tasks := tabMod {} s.press.tasks k f } := rfl
@[simp] theorem State.onTask_queue (k : Nat) (f : Task → Task) (s : State) : (s.onTask k f).queue = s.queue := rfl
@[simp] theorem State.onTask_memu (k : Nat) (f : Task → Task) (s : State) : (s.onTask k f).memu = s.memu := rfl
@[simp] theorem State.onTask_trellis (k : Nat) (f : Task → Task) (s : State) : (s.onTask k f).trellis = s.trellis := rfl
@[simp] theorem State.onTask_choir (k : Nat) (f : Task → Task) (s : State) : (s.onTask k f).choir = s.choir := rfl
@[simp] theorem State.onTask_zone (k : Nat) (f : Task → Task) (s : State) : (s.onTask k f).zone = s.zone := rfl
@[simp] theorem State.onTask_belt (k : Nat) (f : Task → Task) (s : State) : (s.onTask k f).belt = s.belt := rfl
@[simp] theorem State.onTask_audio (k : Nat) (f : Task → Task) (s : State) : (s.onTask k f).audio = s.audio := rfl
@[simp] theorem State.onTask_island (k : Nat) (f : Task → Task) (s : State) : (s.onTask k f).island = s.island := rfl
@[simp] theorem State.onTask_power (k : Nat) (f : Task → Task) (s : State) : (s.onTask k f).power = s.power := rfl
@[simp] theorem State.onTask_video (k : Nat) (f : Task → Task) (s : State) : (s.onTask k f).video = s.video := rfl
@[simp] theorem State.onTask_boot (k : Nat) (f : Task → Task) (s : State) : (s.onTask k f).boot = s.boot := rfl
@[simp] theorem State.onTask_od (k : Nat) (f : Task → Task) (s : State) : (s.onTask k f).od = s.od := rfl
@[simp] theorem State.onTask_inForce (k : Nat) (f : Task → Task) (s : State) : (s.onTask k f).inForce = s.inForce := rfl
@[simp] theorem State.onTask_wtime (k : Nat) (f : Task → Task) (s : State) : (s.onTask k f).wtime = s.wtime := rfl
@[simp] theorem State.onTask_regs (k : Nat) (f : Task → Task) (s : State) : (s.onTask k f).regs = s.regs := rfl
@[simp] theorem State.onTask_mem (k : Nat) (f : Task → Task) (s : State) : (s.onTask k f).mem = s.mem := rfl
@[simp] theorem State.onTask_fresh (k : Nat) (f : Task → Task) (s : State) : (s.onTask k f).fresh = s.fresh := rfl
@[simp] theorem State.onTask_out (k : Nat) (f : Task → Task) (s : State) : (s.onTask k f).out = s.out := rfl
@[simp] theorem State.onTask_pending (k : Nat) (f : Task → Task) (s : State) : (s.onTask k f).pending = s.pending := rfl

/-! ### onSource -/

@[simp] theorem State.onSource_variant (k : Nat) (f : Source → Source) (s : State) : (s.onSource k f).variant = s.variant := rfl
@[simp] theorem State.onSource_now (k : Nat) (f : Source → Source) (s : State) : (s.onSource k f).now = s.now := rfl
@[simp] theorem State.onSource_beat (k : Nat) (f : Source → Source) (s : State) : (s.onSource k f).beat = s.beat := rfl
@[simp] theorem State.onSource_comm (k : Nat) (f : Source → Source) (s : State) : (s.onSource k f).comm = s.comm := rfl
@[simp] theorem State.onSource_oap (k : Nat) (f : Source → Source) (s : State) : (s.onSource k f).oap = s.oap := rfl
@[simp] theorem State.onSource_nvm (k : Nat) (f : Source → Source) (s : State) : (s.onSource k f).nvm = s.nvm := rfl
@[simp] theorem State.onSource_ports (k : Nat) (f : Source → Source) (s : State) : (s.onSource k f).ports = s.ports := rfl
@[simp] theorem State.onSource_fabric (k : Nat) (f : Source → Source) (s : State) : (s.onSource k f).fabric = s.fabric := rfl
@[simp] theorem State.onSource_press (k : Nat) (f : Source → Source) (s : State) : (s.onSource k f).press = { s.press with sources := tabMod {} s.press.sources k f } := rfl
@[simp] theorem State.onSource_queue (k : Nat) (f : Source → Source) (s : State) : (s.onSource k f).queue = s.queue := rfl
@[simp] theorem State.onSource_memu (k : Nat) (f : Source → Source) (s : State) : (s.onSource k f).memu = s.memu := rfl
@[simp] theorem State.onSource_trellis (k : Nat) (f : Source → Source) (s : State) : (s.onSource k f).trellis = s.trellis := rfl
@[simp] theorem State.onSource_choir (k : Nat) (f : Source → Source) (s : State) : (s.onSource k f).choir = s.choir := rfl
@[simp] theorem State.onSource_zone (k : Nat) (f : Source → Source) (s : State) : (s.onSource k f).zone = s.zone := rfl
@[simp] theorem State.onSource_belt (k : Nat) (f : Source → Source) (s : State) : (s.onSource k f).belt = s.belt := rfl
@[simp] theorem State.onSource_audio (k : Nat) (f : Source → Source) (s : State) : (s.onSource k f).audio = s.audio := rfl
@[simp] theorem State.onSource_island (k : Nat) (f : Source → Source) (s : State) : (s.onSource k f).island = s.island := rfl
@[simp] theorem State.onSource_power (k : Nat) (f : Source → Source) (s : State) : (s.onSource k f).power = s.power := rfl
@[simp] theorem State.onSource_video (k : Nat) (f : Source → Source) (s : State) : (s.onSource k f).video = s.video := rfl
@[simp] theorem State.onSource_boot (k : Nat) (f : Source → Source) (s : State) : (s.onSource k f).boot = s.boot := rfl
@[simp] theorem State.onSource_od (k : Nat) (f : Source → Source) (s : State) : (s.onSource k f).od = s.od := rfl
@[simp] theorem State.onSource_inForce (k : Nat) (f : Source → Source) (s : State) : (s.onSource k f).inForce = s.inForce := rfl
@[simp] theorem State.onSource_wtime (k : Nat) (f : Source → Source) (s : State) : (s.onSource k f).wtime = s.wtime := rfl
@[simp] theorem State.onSource_regs (k : Nat) (f : Source → Source) (s : State) : (s.onSource k f).regs = s.regs := rfl
@[simp] theorem State.onSource_mem (k : Nat) (f : Source → Source) (s : State) : (s.onSource k f).mem = s.mem := rfl
@[simp] theorem State.onSource_fresh (k : Nat) (f : Source → Source) (s : State) : (s.onSource k f).fresh = s.fresh := rfl
@[simp] theorem State.onSource_out (k : Nat) (f : Source → Source) (s : State) : (s.onSource k f).out = s.out := rfl
@[simp] theorem State.onSource_pending (k : Nat) (f : Source → Source) (s : State) : (s.onSource k f).pending = s.pending := rfl

/-! ### onQ -/

@[simp] theorem State.onQ_variant (k : Nat) (f : Queue → Queue) (s : State) : (s.onQ k f).variant = s.variant := rfl
@[simp] theorem State.onQ_now (k : Nat) (f : Queue → Queue) (s : State) : (s.onQ k f).now = s.now := rfl
@[simp] theorem State.onQ_beat (k : Nat) (f : Queue → Queue) (s : State) : (s.onQ k f).beat = s.beat := rfl
@[simp] theorem State.onQ_comm (k : Nat) (f : Queue → Queue) (s : State) : (s.onQ k f).comm = s.comm := rfl
@[simp] theorem State.onQ_oap (k : Nat) (f : Queue → Queue) (s : State) : (s.onQ k f).oap = s.oap := rfl
@[simp] theorem State.onQ_nvm (k : Nat) (f : Queue → Queue) (s : State) : (s.onQ k f).nvm = s.nvm := rfl
@[simp] theorem State.onQ_ports (k : Nat) (f : Queue → Queue) (s : State) : (s.onQ k f).ports = s.ports := rfl
@[simp] theorem State.onQ_fabric (k : Nat) (f : Queue → Queue) (s : State) : (s.onQ k f).fabric = s.fabric := rfl
@[simp] theorem State.onQ_press (k : Nat) (f : Queue → Queue) (s : State) : (s.onQ k f).press = s.press := rfl
@[simp] theorem State.onQ_queue (k : Nat) (f : Queue → Queue) (s : State) : (s.onQ k f).queue = { s.queue with queues := tabMod {} s.queue.queues k f } := rfl
@[simp] theorem State.onQ_memu (k : Nat) (f : Queue → Queue) (s : State) : (s.onQ k f).memu = s.memu := rfl
@[simp] theorem State.onQ_trellis (k : Nat) (f : Queue → Queue) (s : State) : (s.onQ k f).trellis = s.trellis := rfl
@[simp] theorem State.onQ_choir (k : Nat) (f : Queue → Queue) (s : State) : (s.onQ k f).choir = s.choir := rfl
@[simp] theorem State.onQ_zone (k : Nat) (f : Queue → Queue) (s : State) : (s.onQ k f).zone = s.zone := rfl
@[simp] theorem State.onQ_belt (k : Nat) (f : Queue → Queue) (s : State) : (s.onQ k f).belt = s.belt := rfl
@[simp] theorem State.onQ_audio (k : Nat) (f : Queue → Queue) (s : State) : (s.onQ k f).audio = s.audio := rfl
@[simp] theorem State.onQ_island (k : Nat) (f : Queue → Queue) (s : State) : (s.onQ k f).island = s.island := rfl
@[simp] theorem State.onQ_power (k : Nat) (f : Queue → Queue) (s : State) : (s.onQ k f).power = s.power := rfl
@[simp] theorem State.onQ_video (k : Nat) (f : Queue → Queue) (s : State) : (s.onQ k f).video = s.video := rfl
@[simp] theorem State.onQ_boot (k : Nat) (f : Queue → Queue) (s : State) : (s.onQ k f).boot = s.boot := rfl
@[simp] theorem State.onQ_od (k : Nat) (f : Queue → Queue) (s : State) : (s.onQ k f).od = s.od := rfl
@[simp] theorem State.onQ_inForce (k : Nat) (f : Queue → Queue) (s : State) : (s.onQ k f).inForce = s.inForce := rfl
@[simp] theorem State.onQ_wtime (k : Nat) (f : Queue → Queue) (s : State) : (s.onQ k f).wtime = s.wtime := rfl
@[simp] theorem State.onQ_regs (k : Nat) (f : Queue → Queue) (s : State) : (s.onQ k f).regs = s.regs := rfl
@[simp] theorem State.onQ_mem (k : Nat) (f : Queue → Queue) (s : State) : (s.onQ k f).mem = s.mem := rfl
@[simp] theorem State.onQ_fresh (k : Nat) (f : Queue → Queue) (s : State) : (s.onQ k f).fresh = s.fresh := rfl
@[simp] theorem State.onQ_out (k : Nat) (f : Queue → Queue) (s : State) : (s.onQ k f).out = s.out := rfl
@[simp] theorem State.onQ_pending (k : Nat) (f : Queue → Queue) (s : State) : (s.onQ k f).pending = s.pending := rfl

/-! ### onMover -/

@[simp] theorem State.onMover_variant (k : Nat) (f : Mover → Mover) (s : State) : (s.onMover k f).variant = s.variant := rfl
@[simp] theorem State.onMover_now (k : Nat) (f : Mover → Mover) (s : State) : (s.onMover k f).now = s.now := rfl
@[simp] theorem State.onMover_beat (k : Nat) (f : Mover → Mover) (s : State) : (s.onMover k f).beat = s.beat := rfl
@[simp] theorem State.onMover_comm (k : Nat) (f : Mover → Mover) (s : State) : (s.onMover k f).comm = s.comm := rfl
@[simp] theorem State.onMover_oap (k : Nat) (f : Mover → Mover) (s : State) : (s.onMover k f).oap = s.oap := rfl
@[simp] theorem State.onMover_nvm (k : Nat) (f : Mover → Mover) (s : State) : (s.onMover k f).nvm = s.nvm := rfl
@[simp] theorem State.onMover_ports (k : Nat) (f : Mover → Mover) (s : State) : (s.onMover k f).ports = s.ports := rfl
@[simp] theorem State.onMover_fabric (k : Nat) (f : Mover → Mover) (s : State) : (s.onMover k f).fabric = s.fabric := rfl
@[simp] theorem State.onMover_press (k : Nat) (f : Mover → Mover) (s : State) : (s.onMover k f).press = s.press := rfl
@[simp] theorem State.onMover_queue (k : Nat) (f : Mover → Mover) (s : State) : (s.onMover k f).queue = s.queue := rfl
@[simp] theorem State.onMover_memu (k : Nat) (f : Mover → Mover) (s : State) : (s.onMover k f).memu = { s.memu with movers := tabMod {} s.memu.movers k f } := rfl
@[simp] theorem State.onMover_trellis (k : Nat) (f : Mover → Mover) (s : State) : (s.onMover k f).trellis = s.trellis := rfl
@[simp] theorem State.onMover_choir (k : Nat) (f : Mover → Mover) (s : State) : (s.onMover k f).choir = s.choir := rfl
@[simp] theorem State.onMover_zone (k : Nat) (f : Mover → Mover) (s : State) : (s.onMover k f).zone = s.zone := rfl
@[simp] theorem State.onMover_belt (k : Nat) (f : Mover → Mover) (s : State) : (s.onMover k f).belt = s.belt := rfl
@[simp] theorem State.onMover_audio (k : Nat) (f : Mover → Mover) (s : State) : (s.onMover k f).audio = s.audio := rfl
@[simp] theorem State.onMover_island (k : Nat) (f : Mover → Mover) (s : State) : (s.onMover k f).island = s.island := rfl
@[simp] theorem State.onMover_power (k : Nat) (f : Mover → Mover) (s : State) : (s.onMover k f).power = s.power := rfl
@[simp] theorem State.onMover_video (k : Nat) (f : Mover → Mover) (s : State) : (s.onMover k f).video = s.video := rfl
@[simp] theorem State.onMover_boot (k : Nat) (f : Mover → Mover) (s : State) : (s.onMover k f).boot = s.boot := rfl
@[simp] theorem State.onMover_od (k : Nat) (f : Mover → Mover) (s : State) : (s.onMover k f).od = s.od := rfl
@[simp] theorem State.onMover_inForce (k : Nat) (f : Mover → Mover) (s : State) : (s.onMover k f).inForce = s.inForce := rfl
@[simp] theorem State.onMover_wtime (k : Nat) (f : Mover → Mover) (s : State) : (s.onMover k f).wtime = s.wtime := rfl
@[simp] theorem State.onMover_regs (k : Nat) (f : Mover → Mover) (s : State) : (s.onMover k f).regs = s.regs := rfl
@[simp] theorem State.onMover_mem (k : Nat) (f : Mover → Mover) (s : State) : (s.onMover k f).mem = s.mem := rfl
@[simp] theorem State.onMover_fresh (k : Nat) (f : Mover → Mover) (s : State) : (s.onMover k f).fresh = s.fresh := rfl
@[simp] theorem State.onMover_out (k : Nat) (f : Mover → Mover) (s : State) : (s.onMover k f).out = s.out := rfl
@[simp] theorem State.onMover_pending (k : Nat) (f : Mover → Mover) (s : State) : (s.onMover k f).pending = s.pending := rfl

/-! ### onClPort -/

@[simp] theorem State.onClPort_variant (k : Nat) (f : ClPortSt → ClPortSt) (s : State) : (s.onClPort k f).variant = s.variant := rfl
@[simp] theorem State.onClPort_now (k : Nat) (f : ClPortSt → ClPortSt) (s : State) : (s.onClPort k f).now = s.now := rfl
@[simp] theorem State.onClPort_beat (k : Nat) (f : ClPortSt → ClPortSt) (s : State) : (s.onClPort k f).beat = s.beat := rfl
@[simp] theorem State.onClPort_comm (k : Nat) (f : ClPortSt → ClPortSt) (s : State) : (s.onClPort k f).comm = s.comm := rfl
@[simp] theorem State.onClPort_oap (k : Nat) (f : ClPortSt → ClPortSt) (s : State) : (s.onClPort k f).oap = s.oap := rfl
@[simp] theorem State.onClPort_nvm (k : Nat) (f : ClPortSt → ClPortSt) (s : State) : (s.onClPort k f).nvm = s.nvm := rfl
@[simp] theorem State.onClPort_ports (k : Nat) (f : ClPortSt → ClPortSt) (s : State) : (s.onClPort k f).ports = s.ports := rfl
@[simp] theorem State.onClPort_fabric (k : Nat) (f : ClPortSt → ClPortSt) (s : State) : (s.onClPort k f).fabric = s.fabric := rfl
@[simp] theorem State.onClPort_press (k : Nat) (f : ClPortSt → ClPortSt) (s : State) : (s.onClPort k f).press = s.press := rfl
@[simp] theorem State.onClPort_queue (k : Nat) (f : ClPortSt → ClPortSt) (s : State) : (s.onClPort k f).queue = s.queue := rfl
@[simp] theorem State.onClPort_memu (k : Nat) (f : ClPortSt → ClPortSt) (s : State) : (s.onClPort k f).memu = s.memu := rfl
@[simp] theorem State.onClPort_trellis (k : Nat) (f : ClPortSt → ClPortSt) (s : State) : (s.onClPort k f).trellis = s.trellis := rfl
@[simp] theorem State.onClPort_choir (k : Nat) (f : ClPortSt → ClPortSt) (s : State) : (s.onClPort k f).choir = { s.choir with ports := tabMod {} s.choir.ports k f } := rfl
@[simp] theorem State.onClPort_zone (k : Nat) (f : ClPortSt → ClPortSt) (s : State) : (s.onClPort k f).zone = s.zone := rfl
@[simp] theorem State.onClPort_belt (k : Nat) (f : ClPortSt → ClPortSt) (s : State) : (s.onClPort k f).belt = s.belt := rfl
@[simp] theorem State.onClPort_audio (k : Nat) (f : ClPortSt → ClPortSt) (s : State) : (s.onClPort k f).audio = s.audio := rfl
@[simp] theorem State.onClPort_island (k : Nat) (f : ClPortSt → ClPortSt) (s : State) : (s.onClPort k f).island = s.island := rfl
@[simp] theorem State.onClPort_power (k : Nat) (f : ClPortSt → ClPortSt) (s : State) : (s.onClPort k f).power = s.power := rfl
@[simp] theorem State.onClPort_video (k : Nat) (f : ClPortSt → ClPortSt) (s : State) : (s.onClPort k f).video = s.video := rfl
@[simp] theorem State.onClPort_boot (k : Nat) (f : ClPortSt → ClPortSt) (s : State) : (s.onClPort k f).boot = s.boot := rfl
@[simp] theorem State.onClPort_od (k : Nat) (f : ClPortSt → ClPortSt) (s : State) : (s.onClPort k f).od = s.od := rfl
@[simp] theorem State.onClPort_inForce (k : Nat) (f : ClPortSt → ClPortSt) (s : State) : (s.onClPort k f).inForce = s.inForce := rfl
@[simp] theorem State.onClPort_wtime (k : Nat) (f : ClPortSt → ClPortSt) (s : State) : (s.onClPort k f).wtime = s.wtime := rfl
@[simp] theorem State.onClPort_regs (k : Nat) (f : ClPortSt → ClPortSt) (s : State) : (s.onClPort k f).regs = s.regs := rfl
@[simp] theorem State.onClPort_mem (k : Nat) (f : ClPortSt → ClPortSt) (s : State) : (s.onClPort k f).mem = s.mem := rfl
@[simp] theorem State.onClPort_fresh (k : Nat) (f : ClPortSt → ClPortSt) (s : State) : (s.onClPort k f).fresh = s.fresh := rfl
@[simp] theorem State.onClPort_out (k : Nat) (f : ClPortSt → ClPortSt) (s : State) : (s.onClPort k f).out = s.out := rfl
@[simp] theorem State.onClPort_pending (k : Nat) (f : ClPortSt → ClPortSt) (s : State) : (s.onClPort k f).pending = s.pending := rfl

/-! ### onGate -/

@[simp] theorem State.onGate_variant (k : Nat) (f : Gate → Gate) (s : State) : (s.onGate k f).variant = s.variant := rfl
@[simp] theorem State.onGate_now (k : Nat) (f : Gate → Gate) (s : State) : (s.onGate k f).now = s.now := rfl
@[simp] theorem State.onGate_beat (k : Nat) (f : Gate → Gate) (s : State) : (s.onGate k f).beat = s.beat := rfl
@[simp] theorem State.onGate_comm (k : Nat) (f : Gate → Gate) (s : State) : (s.onGate k f).comm = s.comm := rfl
@[simp] theorem State.onGate_oap (k : Nat) (f : Gate → Gate) (s : State) : (s.onGate k f).oap = s.oap := rfl
@[simp] theorem State.onGate_nvm (k : Nat) (f : Gate → Gate) (s : State) : (s.onGate k f).nvm = s.nvm := rfl
@[simp] theorem State.onGate_ports (k : Nat) (f : Gate → Gate) (s : State) : (s.onGate k f).ports = s.ports := rfl
@[simp] theorem State.onGate_fabric (k : Nat) (f : Gate → Gate) (s : State) : (s.onGate k f).fabric = s.fabric := rfl
@[simp] theorem State.onGate_press (k : Nat) (f : Gate → Gate) (s : State) : (s.onGate k f).press = s.press := rfl
@[simp] theorem State.onGate_queue (k : Nat) (f : Gate → Gate) (s : State) : (s.onGate k f).queue = s.queue := rfl
@[simp] theorem State.onGate_memu (k : Nat) (f : Gate → Gate) (s : State) : (s.onGate k f).memu = s.memu := rfl
@[simp] theorem State.onGate_trellis (k : Nat) (f : Gate → Gate) (s : State) : (s.onGate k f).trellis = s.trellis := rfl
@[simp] theorem State.onGate_choir (k : Nat) (f : Gate → Gate) (s : State) : (s.onGate k f).choir = s.choir := rfl
@[simp] theorem State.onGate_zone (k : Nat) (f : Gate → Gate) (s : State) : (s.onGate k f).zone = { s.zone with gates := tabMod {} s.zone.gates k f } := rfl
@[simp] theorem State.onGate_belt (k : Nat) (f : Gate → Gate) (s : State) : (s.onGate k f).belt = s.belt := rfl
@[simp] theorem State.onGate_audio (k : Nat) (f : Gate → Gate) (s : State) : (s.onGate k f).audio = s.audio := rfl
@[simp] theorem State.onGate_island (k : Nat) (f : Gate → Gate) (s : State) : (s.onGate k f).island = s.island := rfl
@[simp] theorem State.onGate_power (k : Nat) (f : Gate → Gate) (s : State) : (s.onGate k f).power = s.power := rfl
@[simp] theorem State.onGate_video (k : Nat) (f : Gate → Gate) (s : State) : (s.onGate k f).video = s.video := rfl
@[simp] theorem State.onGate_boot (k : Nat) (f : Gate → Gate) (s : State) : (s.onGate k f).boot = s.boot := rfl
@[simp] theorem State.onGate_od (k : Nat) (f : Gate → Gate) (s : State) : (s.onGate k f).od = s.od := rfl
@[simp] theorem State.onGate_inForce (k : Nat) (f : Gate → Gate) (s : State) : (s.onGate k f).inForce = s.inForce := rfl
@[simp] theorem State.onGate_wtime (k : Nat) (f : Gate → Gate) (s : State) : (s.onGate k f).wtime = s.wtime := rfl
@[simp] theorem State.onGate_regs (k : Nat) (f : Gate → Gate) (s : State) : (s.onGate k f).regs = s.regs := rfl
@[simp] theorem State.onGate_mem (k : Nat) (f : Gate → Gate) (s : State) : (s.onGate k f).mem = s.mem := rfl
@[simp] theorem State.onGate_fresh (k : Nat) (f : Gate → Gate) (s : State) : (s.onGate k f).fresh = s.fresh := rfl
@[simp] theorem State.onGate_out (k : Nat) (f : Gate → Gate) (s : State) : (s.onGate k f).out = s.out := rfl
@[simp] theorem State.onGate_pending (k : Nat) (f : Gate → Gate) (s : State) : (s.onGate k f).pending = s.pending := rfl

/-! ### onRegion -/

@[simp] theorem State.onRegion_variant (k : Nat) (f : Region → Region) (s : State) : (s.onRegion k f).variant = s.variant := rfl
@[simp] theorem State.onRegion_now (k : Nat) (f : Region → Region) (s : State) : (s.onRegion k f).now = s.now := rfl
@[simp] theorem State.onRegion_beat (k : Nat) (f : Region → Region) (s : State) : (s.onRegion k f).beat = s.beat := rfl
@[simp] theorem State.onRegion_comm (k : Nat) (f : Region → Region) (s : State) : (s.onRegion k f).comm = s.comm := rfl
@[simp] theorem State.onRegion_oap (k : Nat) (f : Region → Region) (s : State) : (s.onRegion k f).oap = s.oap := rfl
@[simp] theorem State.onRegion_nvm (k : Nat) (f : Region → Region) (s : State) : (s.onRegion k f).nvm = s.nvm := rfl
@[simp] theorem State.onRegion_ports (k : Nat) (f : Region → Region) (s : State) : (s.onRegion k f).ports = s.ports := rfl
@[simp] theorem State.onRegion_fabric (k : Nat) (f : Region → Region) (s : State) : (s.onRegion k f).fabric = s.fabric := rfl
@[simp] theorem State.onRegion_press (k : Nat) (f : Region → Region) (s : State) : (s.onRegion k f).press = s.press := rfl
@[simp] theorem State.onRegion_queue (k : Nat) (f : Region → Region) (s : State) : (s.onRegion k f).queue = s.queue := rfl
@[simp] theorem State.onRegion_memu (k : Nat) (f : Region → Region) (s : State) : (s.onRegion k f).memu = s.memu := rfl
@[simp] theorem State.onRegion_trellis (k : Nat) (f : Region → Region) (s : State) : (s.onRegion k f).trellis = s.trellis := rfl
@[simp] theorem State.onRegion_choir (k : Nat) (f : Region → Region) (s : State) : (s.onRegion k f).choir = s.choir := rfl
@[simp] theorem State.onRegion_zone (k : Nat) (f : Region → Region) (s : State) : (s.onRegion k f).zone = { s.zone with regions := tabMod {} s.zone.regions k f } := rfl
@[simp] theorem State.onRegion_belt (k : Nat) (f : Region → Region) (s : State) : (s.onRegion k f).belt = s.belt := rfl
@[simp] theorem State.onRegion_audio (k : Nat) (f : Region → Region) (s : State) : (s.onRegion k f).audio = s.audio := rfl
@[simp] theorem State.onRegion_island (k : Nat) (f : Region → Region) (s : State) : (s.onRegion k f).island = s.island := rfl
@[simp] theorem State.onRegion_power (k : Nat) (f : Region → Region) (s : State) : (s.onRegion k f).power = s.power := rfl
@[simp] theorem State.onRegion_video (k : Nat) (f : Region → Region) (s : State) : (s.onRegion k f).video = s.video := rfl
@[simp] theorem State.onRegion_boot (k : Nat) (f : Region → Region) (s : State) : (s.onRegion k f).boot = s.boot := rfl
@[simp] theorem State.onRegion_od (k : Nat) (f : Region → Region) (s : State) : (s.onRegion k f).od = s.od := rfl
@[simp] theorem State.onRegion_inForce (k : Nat) (f : Region → Region) (s : State) : (s.onRegion k f).inForce = s.inForce := rfl
@[simp] theorem State.onRegion_wtime (k : Nat) (f : Region → Region) (s : State) : (s.onRegion k f).wtime = s.wtime := rfl
@[simp] theorem State.onRegion_regs (k : Nat) (f : Region → Region) (s : State) : (s.onRegion k f).regs = s.regs := rfl
@[simp] theorem State.onRegion_mem (k : Nat) (f : Region → Region) (s : State) : (s.onRegion k f).mem = s.mem := rfl
@[simp] theorem State.onRegion_fresh (k : Nat) (f : Region → Region) (s : State) : (s.onRegion k f).fresh = s.fresh := rfl
@[simp] theorem State.onRegion_out (k : Nat) (f : Region → Region) (s : State) : (s.onRegion k f).out = s.out := rfl
@[simp] theorem State.onRegion_pending (k : Nat) (f : Region → Region) (s : State) : (s.onRegion k f).pending = s.pending := rfl

/-! ### onZone -/

@[simp] theorem State.onZone_variant (k : Nat) (f : Zone → Zone) (s : State) : (s.onZone k f).variant = s.variant := rfl
@[simp] theorem State.onZone_now (k : Nat) (f : Zone → Zone) (s : State) : (s.onZone k f).now = s.now := rfl
@[simp] theorem State.onZone_beat (k : Nat) (f : Zone → Zone) (s : State) : (s.onZone k f).beat = s.beat := rfl
@[simp] theorem State.onZone_comm (k : Nat) (f : Zone → Zone) (s : State) : (s.onZone k f).comm = s.comm := rfl
@[simp] theorem State.onZone_oap (k : Nat) (f : Zone → Zone) (s : State) : (s.onZone k f).oap = s.oap := rfl
@[simp] theorem State.onZone_nvm (k : Nat) (f : Zone → Zone) (s : State) : (s.onZone k f).nvm = s.nvm := rfl
@[simp] theorem State.onZone_ports (k : Nat) (f : Zone → Zone) (s : State) : (s.onZone k f).ports = s.ports := rfl
@[simp] theorem State.onZone_fabric (k : Nat) (f : Zone → Zone) (s : State) : (s.onZone k f).fabric = s.fabric := rfl
@[simp] theorem State.onZone_press (k : Nat) (f : Zone → Zone) (s : State) : (s.onZone k f).press = s.press := rfl
@[simp] theorem State.onZone_queue (k : Nat) (f : Zone → Zone) (s : State) : (s.onZone k f).queue = s.queue := rfl
@[simp] theorem State.onZone_memu (k : Nat) (f : Zone → Zone) (s : State) : (s.onZone k f).memu = s.memu := rfl
@[simp] theorem State.onZone_trellis (k : Nat) (f : Zone → Zone) (s : State) : (s.onZone k f).trellis = s.trellis := rfl
@[simp] theorem State.onZone_choir (k : Nat) (f : Zone → Zone) (s : State) : (s.onZone k f).choir = s.choir := rfl
@[simp] theorem State.onZone_zone (k : Nat) (f : Zone → Zone) (s : State) : (s.onZone k f).zone = { s.zone with zones := tabMod {} s.zone.zones k f } := rfl
@[simp] theorem State.onZone_belt (k : Nat) (f : Zone → Zone) (s : State) : (s.onZone k f).belt = s.belt := rfl
@[simp] theorem State.onZone_audio (k : Nat) (f : Zone → Zone) (s : State) : (s.onZone k f).audio = s.audio := rfl
@[simp] theorem State.onZone_island (k : Nat) (f : Zone → Zone) (s : State) : (s.onZone k f).island = s.island := rfl
@[simp] theorem State.onZone_power (k : Nat) (f : Zone → Zone) (s : State) : (s.onZone k f).power = s.power := rfl
@[simp] theorem State.onZone_video (k : Nat) (f : Zone → Zone) (s : State) : (s.onZone k f).video = s.video := rfl
@[simp] theorem State.onZone_boot (k : Nat) (f : Zone → Zone) (s : State) : (s.onZone k f).boot = s.boot := rfl
@[simp] theorem State.onZone_od (k : Nat) (f : Zone → Zone) (s : State) : (s.onZone k f).od = s.od := rfl
@[simp] theorem State.onZone_inForce (k : Nat) (f : Zone → Zone) (s : State) : (s.onZone k f).inForce = s.inForce := rfl
@[simp] theorem State.onZone_wtime (k : Nat) (f : Zone → Zone) (s : State) : (s.onZone k f).wtime = s.wtime := rfl
@[simp] theorem State.onZone_regs (k : Nat) (f : Zone → Zone) (s : State) : (s.onZone k f).regs = s.regs := rfl
@[simp] theorem State.onZone_mem (k : Nat) (f : Zone → Zone) (s : State) : (s.onZone k f).mem = s.mem := rfl
@[simp] theorem State.onZone_fresh (k : Nat) (f : Zone → Zone) (s : State) : (s.onZone k f).fresh = s.fresh := rfl
@[simp] theorem State.onZone_out (k : Nat) (f : Zone → Zone) (s : State) : (s.onZone k f).out = s.out := rfl
@[simp] theorem State.onZone_pending (k : Nat) (f : Zone → Zone) (s : State) : (s.onZone k f).pending = s.pending := rfl

/-! ### onSin -/

@[simp] theorem State.onSin_variant (k : Nat) (f : Sin → Sin) (s : State) : (s.onSin k f).variant = s.variant := rfl
@[simp] theorem State.onSin_now (k : Nat) (f : Sin → Sin) (s : State) : (s.onSin k f).now = s.now := rfl
@[simp] theorem State.onSin_beat (k : Nat) (f : Sin → Sin) (s : State) : (s.onSin k f).beat = s.beat := rfl
@[simp] theorem State.onSin_comm (k : Nat) (f : Sin → Sin) (s : State) : (s.onSin k f).comm = s.comm := rfl
@[simp] theorem State.onSin_oap (k : Nat) (f : Sin → Sin) (s : State) : (s.onSin k f).oap = s.oap := rfl
@[simp] theorem State.onSin_nvm (k : Nat) (f : Sin → Sin) (s : State) : (s.onSin k f).nvm = s.nvm := rfl
@[simp] theorem State.onSin_ports (k : Nat) (f : Sin → Sin) (s : State) : (s.onSin k f).ports = s.ports := rfl
@[simp] theorem State.onSin_fabric (k : Nat) (f : Sin → Sin) (s : State) : (s.onSin k f).fabric = s.fabric := rfl
@[simp] theorem State.onSin_press (k : Nat) (f : Sin → Sin) (s : State) : (s.onSin k f).press = s.press := rfl
@[simp] theorem State.onSin_queue (k : Nat) (f : Sin → Sin) (s : State) : (s.onSin k f).queue = s.queue := rfl
@[simp] theorem State.onSin_memu (k : Nat) (f : Sin → Sin) (s : State) : (s.onSin k f).memu = s.memu := rfl
@[simp] theorem State.onSin_trellis (k : Nat) (f : Sin → Sin) (s : State) : (s.onSin k f).trellis = s.trellis := rfl
@[simp] theorem State.onSin_choir (k : Nat) (f : Sin → Sin) (s : State) : (s.onSin k f).choir = s.choir := rfl
@[simp] theorem State.onSin_zone (k : Nat) (f : Sin → Sin) (s : State) : (s.onSin k f).zone = s.zone := rfl
@[simp] theorem State.onSin_belt (k : Nat) (f : Sin → Sin) (s : State) : (s.onSin k f).belt = s.belt := rfl
@[simp] theorem State.onSin_audio (k : Nat) (f : Sin → Sin) (s : State) : (s.onSin k f).audio = s.audio := rfl
@[simp] theorem State.onSin_island (k : Nat) (f : Sin → Sin) (s : State) : (s.onSin k f).island = { s.island with sins := tabMod {} s.island.sins k f } := rfl
@[simp] theorem State.onSin_power (k : Nat) (f : Sin → Sin) (s : State) : (s.onSin k f).power = s.power := rfl
@[simp] theorem State.onSin_video (k : Nat) (f : Sin → Sin) (s : State) : (s.onSin k f).video = s.video := rfl
@[simp] theorem State.onSin_boot (k : Nat) (f : Sin → Sin) (s : State) : (s.onSin k f).boot = s.boot := rfl
@[simp] theorem State.onSin_od (k : Nat) (f : Sin → Sin) (s : State) : (s.onSin k f).od = s.od := rfl
@[simp] theorem State.onSin_inForce (k : Nat) (f : Sin → Sin) (s : State) : (s.onSin k f).inForce = s.inForce := rfl
@[simp] theorem State.onSin_wtime (k : Nat) (f : Sin → Sin) (s : State) : (s.onSin k f).wtime = s.wtime := rfl
@[simp] theorem State.onSin_regs (k : Nat) (f : Sin → Sin) (s : State) : (s.onSin k f).regs = s.regs := rfl
@[simp] theorem State.onSin_mem (k : Nat) (f : Sin → Sin) (s : State) : (s.onSin k f).mem = s.mem := rfl
@[simp] theorem State.onSin_fresh (k : Nat) (f : Sin → Sin) (s : State) : (s.onSin k f).fresh = s.fresh := rfl
@[simp] theorem State.onSin_out (k : Nat) (f : Sin → Sin) (s : State) : (s.onSin k f).out = s.out := rfl
@[simp] theorem State.onSin_pending (k : Nat) (f : Sin → Sin) (s : State) : (s.onSin k f).pending = s.pending := rfl

/-! ### emit -/

@[simp] theorem State.emit_variant (o : Out) (s : State) : (s.emit o).variant = s.variant := rfl
@[simp] theorem State.emit_now (o : Out) (s : State) : (s.emit o).now = s.now := rfl
@[simp] theorem State.emit_beat (o : Out) (s : State) : (s.emit o).beat = s.beat := rfl
@[simp] theorem State.emit_comm (o : Out) (s : State) : (s.emit o).comm = s.comm := rfl
@[simp] theorem State.emit_oap (o : Out) (s : State) : (s.emit o).oap = s.oap := rfl
@[simp] theorem State.emit_nvm (o : Out) (s : State) : (s.emit o).nvm = s.nvm := rfl
@[simp] theorem State.emit_ports (o : Out) (s : State) : (s.emit o).ports = s.ports := rfl
@[simp] theorem State.emit_fabric (o : Out) (s : State) : (s.emit o).fabric = s.fabric := rfl
@[simp] theorem State.emit_press (o : Out) (s : State) : (s.emit o).press = s.press := rfl
@[simp] theorem State.emit_queue (o : Out) (s : State) : (s.emit o).queue = s.queue := rfl
@[simp] theorem State.emit_memu (o : Out) (s : State) : (s.emit o).memu = s.memu := rfl
@[simp] theorem State.emit_trellis (o : Out) (s : State) : (s.emit o).trellis = s.trellis := rfl
@[simp] theorem State.emit_choir (o : Out) (s : State) : (s.emit o).choir = s.choir := rfl
@[simp] theorem State.emit_zone (o : Out) (s : State) : (s.emit o).zone = s.zone := rfl
@[simp] theorem State.emit_belt (o : Out) (s : State) : (s.emit o).belt = s.belt := rfl
@[simp] theorem State.emit_audio (o : Out) (s : State) : (s.emit o).audio = s.audio := rfl
@[simp] theorem State.emit_island (o : Out) (s : State) : (s.emit o).island = s.island := rfl
@[simp] theorem State.emit_power (o : Out) (s : State) : (s.emit o).power = s.power := rfl
@[simp] theorem State.emit_video (o : Out) (s : State) : (s.emit o).video = s.video := rfl
@[simp] theorem State.emit_boot (o : Out) (s : State) : (s.emit o).boot = s.boot := rfl
@[simp] theorem State.emit_od (o : Out) (s : State) : (s.emit o).od = s.od := rfl
@[simp] theorem State.emit_inForce (o : Out) (s : State) : (s.emit o).inForce = s.inForce := rfl
@[simp] theorem State.emit_wtime (o : Out) (s : State) : (s.emit o).wtime = s.wtime := rfl
@[simp] theorem State.emit_regs (o : Out) (s : State) : (s.emit o).regs = s.regs := rfl
@[simp] theorem State.emit_mem (o : Out) (s : State) : (s.emit o).mem = s.mem := rfl
@[simp] theorem State.emit_fresh (o : Out) (s : State) : (s.emit o).fresh = s.fresh := rfl
@[simp] theorem State.emit_out (o : Out) (s : State) : (s.emit o).out = o :: s.out := rfl
@[simp] theorem State.emit_pending (o : Out) (s : State) : (s.emit o).pending = s.pending := rfl

/-! ### emitAll -/

@[simp] theorem State.emitAll_variant (l : List Out) (s : State) : (s.emitAll l).variant = s.variant := rfl
@[simp] theorem State.emitAll_now (l : List Out) (s : State) : (s.emitAll l).now = s.now := rfl
@[simp] theorem State.emitAll_beat (l : List Out) (s : State) : (s.emitAll l).beat = s.beat := rfl
@[simp] theorem State.emitAll_comm (l : List Out) (s : State) : (s.emitAll l).comm = s.comm := rfl
@[simp] theorem State.emitAll_oap (l : List Out) (s : State) : (s.emitAll l).oap = s.oap := rfl
@[simp] theorem State.emitAll_nvm (l : List Out) (s : State) : (s.emitAll l).nvm = s.nvm := rfl
@[simp] theorem State.emitAll_ports (l : List Out) (s : State) : (s.emitAll l).ports = s.ports := rfl
@[simp] theorem State.emitAll_fabric (l : List Out) (s : State) : (s.emitAll l).fabric = s.fabric := rfl
@[simp] theorem State.emitAll_press (l : List Out) (s : State) : (s.emitAll l).press = s.press := rfl
@[simp] theorem State.emitAll_queue (l : List Out) (s : State) : (s.emitAll l).queue = s.queue := rfl
@[simp] theorem State.emitAll_memu (l : List Out) (s : State) : (s.emitAll l).memu = s.memu := rfl
@[simp] theorem State.emitAll_trellis (l : List Out) (s : State) : (s.emitAll l).trellis = s.trellis := rfl
@[simp] theorem State.emitAll_choir (l : List Out) (s : State) : (s.emitAll l).choir = s.choir := rfl
@[simp] theorem State.emitAll_zone (l : List Out) (s : State) : (s.emitAll l).zone = s.zone := rfl
@[simp] theorem State.emitAll_belt (l : List Out) (s : State) : (s.emitAll l).belt = s.belt := rfl
@[simp] theorem State.emitAll_audio (l : List Out) (s : State) : (s.emitAll l).audio = s.audio := rfl
@[simp] theorem State.emitAll_island (l : List Out) (s : State) : (s.emitAll l).island = s.island := rfl
@[simp] theorem State.emitAll_power (l : List Out) (s : State) : (s.emitAll l).power = s.power := rfl
@[simp] theorem State.emitAll_video (l : List Out) (s : State) : (s.emitAll l).video = s.video := rfl
@[simp] theorem State.emitAll_boot (l : List Out) (s : State) : (s.emitAll l).boot = s.boot := rfl
@[simp] theorem State.emitAll_od (l : List Out) (s : State) : (s.emitAll l).od = s.od := rfl
@[simp] theorem State.emitAll_inForce (l : List Out) (s : State) : (s.emitAll l).inForce = s.inForce := rfl
@[simp] theorem State.emitAll_wtime (l : List Out) (s : State) : (s.emitAll l).wtime = s.wtime := rfl
@[simp] theorem State.emitAll_regs (l : List Out) (s : State) : (s.emitAll l).regs = s.regs := rfl
@[simp] theorem State.emitAll_mem (l : List Out) (s : State) : (s.emitAll l).mem = s.mem := rfl
@[simp] theorem State.emitAll_fresh (l : List Out) (s : State) : (s.emitAll l).fresh = s.fresh := rfl
@[simp] theorem State.emitAll_out (l : List Out) (s : State) : (s.emitAll l).out = l.reverse ++ s.out := rfl
@[simp] theorem State.emitAll_pending (l : List Out) (s : State) : (s.emitAll l).pending = s.pending := rfl

/-! ### draw -/

@[simp] theorem State.draw_variant (s : State) : s.draw.variant = s.variant := rfl
@[simp] theorem State.draw_now (s : State) : s.draw.now = s.now := rfl
@[simp] theorem State.draw_beat (s : State) : s.draw.beat = s.beat := rfl
@[simp] theorem State.draw_comm (s : State) : s.draw.comm = s.comm := rfl
@[simp] theorem State.draw_oap (s : State) : s.draw.oap = s.oap := rfl
@[simp] theorem State.draw_nvm (s : State) : s.draw.nvm = s.nvm := rfl
@[simp] theorem State.draw_ports (s : State) : s.draw.ports = s.ports := rfl
@[simp] theorem State.draw_fabric (s : State) : s.draw.fabric = s.fabric := rfl
@[simp] theorem State.draw_press (s : State) : s.draw.press = s.press := rfl
@[simp] theorem State.draw_queue (s : State) : s.draw.queue = s.queue := rfl
@[simp] theorem State.draw_memu (s : State) : s.draw.memu = s.memu := rfl
@[simp] theorem State.draw_trellis (s : State) : s.draw.trellis = s.trellis := rfl
@[simp] theorem State.draw_choir (s : State) : s.draw.choir = s.choir := rfl
@[simp] theorem State.draw_zone (s : State) : s.draw.zone = s.zone := rfl
@[simp] theorem State.draw_belt (s : State) : s.draw.belt = s.belt := rfl
@[simp] theorem State.draw_audio (s : State) : s.draw.audio = s.audio := rfl
@[simp] theorem State.draw_island (s : State) : s.draw.island = s.island := rfl
@[simp] theorem State.draw_power (s : State) : s.draw.power = s.power := rfl
@[simp] theorem State.draw_video (s : State) : s.draw.video = s.video := rfl
@[simp] theorem State.draw_boot (s : State) : s.draw.boot = s.boot := rfl
@[simp] theorem State.draw_od (s : State) : s.draw.od = s.od := rfl
@[simp] theorem State.draw_inForce (s : State) : s.draw.inForce = s.inForce := rfl
@[simp] theorem State.draw_wtime (s : State) : s.draw.wtime = s.wtime := rfl
@[simp] theorem State.draw_regs (s : State) : s.draw.regs = s.regs := rfl
@[simp] theorem State.draw_mem (s : State) : s.draw.mem = s.mem := rfl
@[simp] theorem State.draw_fresh (s : State) : s.draw.fresh = s.fresh + 1 := rfl
@[simp] theorem State.draw_out (s : State) : s.draw.out = s.out := rfl
@[simp] theorem State.draw_pending (s : State) : s.draw.pending = s.pending := rfl

/-! ### upTo -/

@[simp] theorem State.upTo_variant (t : Nat) (s : State) : (s.upTo t).variant = s.variant := rfl
@[simp] theorem State.upTo_now (t : Nat) (s : State) : (s.upTo t).now = max s.now t := rfl
@[simp] theorem State.upTo_beat (t : Nat) (s : State) : (s.upTo t).beat = s.beat := rfl
@[simp] theorem State.upTo_comm (t : Nat) (s : State) : (s.upTo t).comm = s.comm := rfl
@[simp] theorem State.upTo_oap (t : Nat) (s : State) : (s.upTo t).oap = s.oap := rfl
@[simp] theorem State.upTo_nvm (t : Nat) (s : State) : (s.upTo t).nvm = s.nvm := rfl
@[simp] theorem State.upTo_ports (t : Nat) (s : State) : (s.upTo t).ports = s.ports := rfl
@[simp] theorem State.upTo_fabric (t : Nat) (s : State) : (s.upTo t).fabric = s.fabric := rfl
@[simp] theorem State.upTo_press (t : Nat) (s : State) : (s.upTo t).press = s.press := rfl
@[simp] theorem State.upTo_queue (t : Nat) (s : State) : (s.upTo t).queue = s.queue := rfl
@[simp] theorem State.upTo_memu (t : Nat) (s : State) : (s.upTo t).memu = s.memu := rfl
@[simp] theorem State.upTo_trellis (t : Nat) (s : State) : (s.upTo t).trellis = s.trellis := rfl
@[simp] theorem State.upTo_choir (t : Nat) (s : State) : (s.upTo t).choir = s.choir := rfl
@[simp] theorem State.upTo_zone (t : Nat) (s : State) : (s.upTo t).zone = s.zone := rfl
@[simp] theorem State.upTo_belt (t : Nat) (s : State) : (s.upTo t).belt = s.belt := rfl
@[simp] theorem State.upTo_audio (t : Nat) (s : State) : (s.upTo t).audio = s.audio := rfl
@[simp] theorem State.upTo_island (t : Nat) (s : State) : (s.upTo t).island = s.island := rfl
@[simp] theorem State.upTo_power (t : Nat) (s : State) : (s.upTo t).power = s.power := rfl
@[simp] theorem State.upTo_video (t : Nat) (s : State) : (s.upTo t).video = s.video := rfl
@[simp] theorem State.upTo_boot (t : Nat) (s : State) : (s.upTo t).boot = s.boot := rfl
@[simp] theorem State.upTo_od (t : Nat) (s : State) : (s.upTo t).od = s.od := rfl
@[simp] theorem State.upTo_inForce (t : Nat) (s : State) : (s.upTo t).inForce = s.inForce := rfl
@[simp] theorem State.upTo_wtime (t : Nat) (s : State) : (s.upTo t).wtime = s.wtime := rfl
@[simp] theorem State.upTo_regs (t : Nat) (s : State) : (s.upTo t).regs = s.regs := rfl
@[simp] theorem State.upTo_mem (t : Nat) (s : State) : (s.upTo t).mem = s.mem := rfl
@[simp] theorem State.upTo_fresh (t : Nat) (s : State) : (s.upTo t).fresh = s.fresh := rfl
@[simp] theorem State.upTo_out (t : Nat) (s : State) : (s.upTo t).out = s.out := rfl
@[simp] theorem State.upTo_pending (t : Nat) (s : State) : (s.upTo t).pending = s.pending := rfl

/-! ### setNow -/

@[simp] theorem State.setNow_variant (t : Nat) (s : State) : (s.setNow t).variant = s.variant := rfl
@[simp] theorem State.setNow_now (t : Nat) (s : State) : (s.setNow t).now = t := rfl
@[simp] theorem State.setNow_beat (t : Nat) (s : State) : (s.setNow t).beat = s.beat := rfl
@[simp] theorem State.setNow_comm (t : Nat) (s : State) : (s.setNow t).comm = s.comm := rfl
@[simp] theorem State.setNow_oap (t : Nat) (s : State) : (s.setNow t).oap = s.oap := rfl
@[simp] theorem State.setNow_nvm (t : Nat) (s : State) : (s.setNow t).nvm = s.nvm := rfl
@[simp] theorem State.setNow_ports (t : Nat) (s : State) : (s.setNow t).ports = s.ports := rfl
@[simp] theorem State.setNow_fabric (t : Nat) (s : State) : (s.setNow t).fabric = s.fabric := rfl
@[simp] theorem State.setNow_press (t : Nat) (s : State) : (s.setNow t).press = s.press := rfl
@[simp] theorem State.setNow_queue (t : Nat) (s : State) : (s.setNow t).queue = s.queue := rfl
@[simp] theorem State.setNow_memu (t : Nat) (s : State) : (s.setNow t).memu = s.memu := rfl
@[simp] theorem State.setNow_trellis (t : Nat) (s : State) : (s.setNow t).trellis = s.trellis := rfl
@[simp] theorem State.setNow_choir (t : Nat) (s : State) : (s.setNow t).choir = s.choir := rfl
@[simp] theorem State.setNow_zone (t : Nat) (s : State) : (s.setNow t).zone = s.zone := rfl
@[simp] theorem State.setNow_belt (t : Nat) (s : State) : (s.setNow t).belt = s.belt := rfl
@[simp] theorem State.setNow_audio (t : Nat) (s : State) : (s.setNow t).audio = s.audio := rfl
@[simp] theorem State.setNow_island (t : Nat) (s : State) : (s.setNow t).island = s.island := rfl
@[simp] theorem State.setNow_power (t : Nat) (s : State) : (s.setNow t).power = s.power := rfl
@[simp] theorem State.setNow_video (t : Nat) (s : State) : (s.setNow t).video = s.video := rfl
@[simp] theorem State.setNow_boot (t : Nat) (s : State) : (s.setNow t).boot = s.boot := rfl
@[simp] theorem State.setNow_od (t : Nat) (s : State) : (s.setNow t).od = s.od := rfl
@[simp] theorem State.setNow_inForce (t : Nat) (s : State) : (s.setNow t).inForce = s.inForce := rfl
@[simp] theorem State.setNow_wtime (t : Nat) (s : State) : (s.setNow t).wtime = s.wtime := rfl
@[simp] theorem State.setNow_regs (t : Nat) (s : State) : (s.setNow t).regs = s.regs := rfl
@[simp] theorem State.setNow_mem (t : Nat) (s : State) : (s.setNow t).mem = s.mem := rfl
@[simp] theorem State.setNow_fresh (t : Nat) (s : State) : (s.setNow t).fresh = s.fresh := rfl
@[simp] theorem State.setNow_out (t : Nat) (s : State) : (s.setNow t).out = s.out := rfl
@[simp] theorem State.setNow_pending (t : Nat) (s : State) : (s.setNow t).pending = s.pending := rfl

/-! ### putBytes -/

@[simp] theorem State.putBytes_variant (a : Nat) (l : List Byte) (s : State) : (s.putBytes a l).variant = s.variant := rfl
@[simp] theorem State.putBytes_now (a : Nat) (l : List Byte) (s : State) : (s.putBytes a l).now = s.now := rfl
@[simp] theorem State.putBytes_beat (a : Nat) (l : List Byte) (s : State) : (s.putBytes a l).beat = s.beat := rfl
@[simp] theorem State.putBytes_comm (a : Nat) (l : List Byte) (s : State) : (s.putBytes a l).comm = s.comm := rfl
@[simp] theorem State.putBytes_oap (a : Nat) (l : List Byte) (s : State) : (s.putBytes a l).oap = s.oap := rfl
@[simp] theorem State.putBytes_nvm (a : Nat) (l : List Byte) (s : State) : (s.putBytes a l).nvm = s.nvm := rfl
@[simp] theorem State.putBytes_ports (a : Nat) (l : List Byte) (s : State) : (s.putBytes a l).ports = s.ports := rfl
@[simp] theorem State.putBytes_fabric (a : Nat) (l : List Byte) (s : State) : (s.putBytes a l).fabric = s.fabric := rfl
@[simp] theorem State.putBytes_press (a : Nat) (l : List Byte) (s : State) : (s.putBytes a l).press = s.press := rfl
@[simp] theorem State.putBytes_queue (a : Nat) (l : List Byte) (s : State) : (s.putBytes a l).queue = s.queue := rfl
@[simp] theorem State.putBytes_memu (a : Nat) (l : List Byte) (s : State) : (s.putBytes a l).memu = s.memu := rfl
@[simp] theorem State.putBytes_trellis (a : Nat) (l : List Byte) (s : State) : (s.putBytes a l).trellis = s.trellis := rfl
@[simp] theorem State.putBytes_choir (a : Nat) (l : List Byte) (s : State) : (s.putBytes a l).choir = s.choir := rfl
@[simp] theorem State.putBytes_zone (a : Nat) (l : List Byte) (s : State) : (s.putBytes a l).zone = s.zone := rfl
@[simp] theorem State.putBytes_belt (a : Nat) (l : List Byte) (s : State) : (s.putBytes a l).belt = s.belt := rfl
@[simp] theorem State.putBytes_audio (a : Nat) (l : List Byte) (s : State) : (s.putBytes a l).audio = s.audio := rfl
@[simp] theorem State.putBytes_island (a : Nat) (l : List Byte) (s : State) : (s.putBytes a l).island = s.island := rfl
@[simp] theorem State.putBytes_power (a : Nat) (l : List Byte) (s : State) : (s.putBytes a l).power = s.power := rfl
@[simp] theorem State.putBytes_video (a : Nat) (l : List Byte) (s : State) : (s.putBytes a l).video = s.video := rfl
@[simp] theorem State.putBytes_boot (a : Nat) (l : List Byte) (s : State) : (s.putBytes a l).boot = s.boot := rfl
@[simp] theorem State.putBytes_od (a : Nat) (l : List Byte) (s : State) : (s.putBytes a l).od = s.od := rfl
@[simp] theorem State.putBytes_inForce (a : Nat) (l : List Byte) (s : State) : (s.putBytes a l).inForce = s.inForce := rfl
@[simp] theorem State.putBytes_wtime (a : Nat) (l : List Byte) (s : State) : (s.putBytes a l).wtime = s.wtime := rfl
@[simp] theorem State.putBytes_regs (a : Nat) (l : List Byte) (s : State) : (s.putBytes a l).regs = s.regs := rfl
@[simp] theorem State.putBytes_mem (a : Nat) (l : List Byte) (s : State) : (s.putBytes a l).mem = memPut s.mem a l := rfl
@[simp] theorem State.putBytes_fresh (a : Nat) (l : List Byte) (s : State) : (s.putBytes a l).fresh = s.fresh := rfl
@[simp] theorem State.putBytes_out (a : Nat) (l : List Byte) (s : State) : (s.putBytes a l).out = s.out := rfl
@[simp] theorem State.putBytes_pending (a : Nat) (l : List Byte) (s : State) : (s.putBytes a l).pending = s.pending := rfl

/-! ### setReg -/

@[simp] theorem State.setReg_variant (page off v : Nat) (s : State) : (s.setReg page off v).variant = s.variant := rfl
@[simp] theorem State.setReg_now (page off v : Nat) (s : State) : (s.setReg page off v).now = s.now := rfl
@[simp] theorem State.setReg_beat (page off v : Nat) (s : State) : (s.setReg page off v).beat = s.beat := rfl
@[simp] theorem State.setReg_comm (page off v : Nat) (s : State) : (s.setReg page off v).comm = s.comm := rfl
@[simp] theorem State.setReg_oap (page off v : Nat) (s : State) : (s.setReg page off v).oap = s.oap := rfl
@[simp] theorem State.setReg_nvm (page off v : Nat) (s : State) : (s.setReg page off v).nvm = s.nvm := rfl
@[simp] theorem State.setReg_ports (page off v : Nat) (s : State) : (s.setReg page off v).ports = s.ports := rfl
@[simp] theorem State.setReg_fabric (page off v : Nat) (s : State) : (s.setReg page off v).fabric = s.fabric := rfl
@[simp] theorem State.setReg_press (page off v : Nat) (s : State) : (s.setReg page off v).press = s.press := rfl
@[simp] theorem State.setReg_queue (page off v : Nat) (s : State) : (s.setReg page off v).queue = s.queue := rfl
@[simp] theorem State.setReg_memu (page off v : Nat) (s : State) : (s.setReg page off v).memu = s.memu := rfl
@[simp] theorem State.setReg_trellis (page off v : Nat) (s : State) : (s.setReg page off v).trellis = s.trellis := rfl
@[simp] theorem State.setReg_choir (page off v : Nat) (s : State) : (s.setReg page off v).choir = s.choir := rfl
@[simp] theorem State.setReg_zone (page off v : Nat) (s : State) : (s.setReg page off v).zone = s.zone := rfl
@[simp] theorem State.setReg_belt (page off v : Nat) (s : State) : (s.setReg page off v).belt = s.belt := rfl
@[simp] theorem State.setReg_audio (page off v : Nat) (s : State) : (s.setReg page off v).audio = s.audio := rfl
@[simp] theorem State.setReg_island (page off v : Nat) (s : State) : (s.setReg page off v).island = s.island := rfl
@[simp] theorem State.setReg_power (page off v : Nat) (s : State) : (s.setReg page off v).power = s.power := rfl
@[simp] theorem State.setReg_video (page off v : Nat) (s : State) : (s.setReg page off v).video = s.video := rfl
@[simp] theorem State.setReg_boot (page off v : Nat) (s : State) : (s.setReg page off v).boot = s.boot := rfl
@[simp] theorem State.setReg_od (page off v : Nat) (s : State) : (s.setReg page off v).od = s.od := rfl
@[simp] theorem State.setReg_inForce (page off v : Nat) (s : State) : (s.setReg page off v).inForce = s.inForce := rfl
@[simp] theorem State.setReg_wtime (page off v : Nat) (s : State) : (s.setReg page off v).wtime = s.wtime := rfl
@[simp] theorem State.setReg_regs (page off v : Nat) (s : State) : (s.setReg page off v).regs = tabPut 0 s.regs (page * 65536 + off) (BitVec.ofNat 32 v) := rfl
@[simp] theorem State.setReg_mem (page off v : Nat) (s : State) : (s.setReg page off v).mem = s.mem := rfl
@[simp] theorem State.setReg_fresh (page off v : Nat) (s : State) : (s.setReg page off v).fresh = s.fresh := rfl
@[simp] theorem State.setReg_out (page off v : Nat) (s : State) : (s.setReg page off v).out = s.out := rfl
@[simp] theorem State.setReg_pending (page off v : Nat) (s : State) : (s.setReg page off v).pending = s.pending := rfl

/-! ### A field from its part -/

theorem State.variant_of_get {s t : State} (h : t.get .variant = s.get .variant) : t.variant = s.variant := PartVal.variant.inj h
theorem State.now_of_get {s t : State} (h : t.get .now = s.get .now) : t.now = s.now := PartVal.now.inj h
theorem State.beat_of_get {s t : State} (h : t.get .beat = s.get .beat) : t.beat = s.beat := PartVal.beat.inj h
theorem State.comm_of_get {s t : State} (h : t.get .comm = s.get .comm) : t.comm = s.comm := PartVal.comm.inj h
theorem State.oap_of_get {s t : State} (h : t.get .oap = s.get .oap) : t.oap = s.oap := PartVal.oap.inj h
theorem State.nvm_of_get {s t : State} (h : t.get .nvm = s.get .nvm) : t.nvm = s.nvm := PartVal.nvm.inj h
theorem State.ports_of_get {s t : State} (h : t.get .ports = s.get .ports) : t.ports = s.ports := PartVal.ports.inj h
theorem State.fabric_of_get {s t : State} (h : t.get .fabric = s.get .fabric) : t.fabric = s.fabric := PartVal.fabric.inj h
theorem State.press_of_get {s t : State} (h : t.get .press = s.get .press) : t.press = s.press := PartVal.press.inj h
theorem State.queue_of_get {s t : State} (h : t.get .queue = s.get .queue) : t.queue = s.queue := PartVal.queue.inj h
theorem State.memu_of_get {s t : State} (h : t.get .memu = s.get .memu) : t.memu = s.memu := PartVal.memu.inj h
theorem State.trellis_of_get {s t : State} (h : t.get .trellis = s.get .trellis) : t.trellis = s.trellis := PartVal.trellis.inj h
theorem State.choir_of_get {s t : State} (h : t.get .choir = s.get .choir) : t.choir = s.choir := PartVal.choir.inj h
theorem State.zone_of_get {s t : State} (h : t.get .zone = s.get .zone) : t.zone = s.zone := PartVal.zone.inj h
theorem State.belt_of_get {s t : State} (h : t.get .belt = s.get .belt) : t.belt = s.belt := PartVal.belt.inj h
theorem State.audio_of_get {s t : State} (h : t.get .audio = s.get .audio) : t.audio = s.audio := PartVal.audio.inj h
theorem State.island_of_get {s t : State} (h : t.get .island = s.get .island) : t.island = s.island := PartVal.island.inj h
theorem State.power_of_get {s t : State} (h : t.get .power = s.get .power) : t.power = s.power := PartVal.power.inj h
theorem State.video_of_get {s t : State} (h : t.get .video = s.get .video) : t.video = s.video := PartVal.video.inj h
theorem State.boot_of_get {s t : State} (h : t.get .boot = s.get .boot) : t.boot = s.boot := PartVal.boot.inj h
theorem State.od_of_get {s t : State} (h : t.get .od = s.get .od) : t.od = s.od := PartVal.od.inj h
theorem State.inForce_of_get {s t : State} (h : t.get .inForce = s.get .inForce) : t.inForce = s.inForce := PartVal.inForce.inj h
theorem State.wtime_of_get {s t : State} (h : t.get .wtime = s.get .wtime) : t.wtime = s.wtime := PartVal.wtime.inj h
theorem State.regs_of_get {s t : State} (h : t.get .regs = s.get .regs) : t.regs = s.regs := PartVal.regs.inj h
theorem State.mem_of_get {s t : State} (h : t.get .mem = s.get .mem) : t.mem = s.mem := PartVal.mem.inj h
theorem State.fresh_of_get {s t : State} (h : t.get .fresh = s.get .fresh) : t.fresh = s.fresh := PartVal.fresh.inj h
theorem State.out_of_get {s t : State} (h : t.get .out = s.get .out) : t.out = s.out := PartVal.out.inj h
theorem State.pending_of_get {s t : State} (h : t.get .pending = s.get .pending) : t.pending = s.pending := PartVal.pending.inj h

end Sys2Proof.Machine
end

