-- ==== Sys2Proof/Laws/Tables.lean ====
section
/-! SUPPORT. The laws of sparse tables and of memory: a read after a write, and the canonical form that every operation
keeps. -/

namespace Sys2Proof.Machine

section Tables

variable {α : Type} [DecidableEq α] (d : α)

/-- A weaker bound on the lowest key. -/
theorem tabWfFrom_mono (t : Tab α) (lo lo' : Nat) (h : tabWfFrom d lo t = true) (hl : lo' ≤ lo) :
    tabWfFrom d lo' t = true := by
  cases t with
  | nil => rfl
  | cons e t =>
    obtain ⟨k, v⟩ := e
    simp only [tabWfFrom, Bool.and_eq_true, decide_eq_true_eq] at h ⊢
    exact ⟨⟨by omega, h.1.2⟩, h.2⟩

/-- A filter keeps the canonical form. -/
theorem filter_wfFrom (p : Nat × α → Bool) (t : Tab α) (lo : Nat) (h : tabWfFrom d lo t = true) :
    tabWfFrom d lo (t.filter p) = true := by
  induction t generalizing lo with
  | nil => rfl
  | cons e t ih =>
    obtain ⟨k, v⟩ := e
    simp only [tabWfFrom, Bool.and_eq_true, decide_eq_true_eq] at h
    have hr := ih (k + 1) h.2
    by_cases hp : p (k, v) = true
    · simp only [List.filter_cons_of_pos hp, tabWfFrom, Bool.and_eq_true, decide_eq_true_eq]
      exact ⟨h.1, hr⟩
    · rw [List.filter_cons_of_neg hp]
      exact tabWfFrom_mono d _ (k + 1) lo hr (by omega)

/-- An insertion of a key that is not listed keeps the canonical form. -/
theorem tabInsert_wfFrom (t : Tab α) (lo k : Nat) (v : α) (h : tabWfFrom d lo t = true) (hk : lo ≤ k) (hv : v ≠ d)
    (hn : ∀ e ∈ t, e.1 ≠ k) : tabWfFrom d lo (tabInsert t k v) = true := by
  induction t generalizing lo with
  | nil => simp [tabInsert, tabWfFrom, hk, hv]
  | cons e t ih =>
    obtain ⟨k', v'⟩ := e
    have hne : k' ≠ k := hn _ (List.mem_cons_self ..)
    have h' := h
    simp only [tabWfFrom, Bool.and_eq_true, decide_eq_true_eq] at h'
    unfold tabInsert
    by_cases hlt : k < k'
    · simp only [hlt, if_true, tabWfFrom, Bool.and_eq_true, decide_eq_true_eq]
      exact ⟨⟨hk, by simpa using hv⟩, ⟨by omega, h'.1.2⟩, h'.2⟩
    · simp only [hlt, if_false, tabWfFrom, Bool.and_eq_true, decide_eq_true_eq]
      exact ⟨h'.1, ih (k' + 1) h'.2 (by omega) (fun e he => hn e (List.mem_cons_of_mem _ he))⟩

/-- A write keeps the canonical form of a table. -/
theorem tabPut_wf (t : Tab α) (k : Nat) (v : α) (h : tabWf d t = true) : tabWf d (tabPut d t k v) = true := by
  unfold tabPut
  split
  · exact filter_wfFrom d _ t 0 h
  · exact tabInsert_wfFrom d _ 0 k v (filter_wfFrom d _ t 0 h) (Nat.zero_le k) ‹_› (by simp)

/-- A change keeps the canonical form of a table. -/
theorem tabMod_wf (t : Tab α) (k : Nat) (f : α → α) (h : tabWf d t = true) : tabWf d (tabMod d t k f) = true :=
  tabPut_wf d t k _ h

/-- Dropping keys keeps the canonical form. -/
theorem tabDrop_wf (t : Tab α) (p : Nat → Bool) (h : tabWf d t = true) : tabWf d (tabDrop t p) = true :=
  filter_wfFrom d _ t 0 h

omit [DecidableEq α] in
/-- A table without a key, read at any key. -/
theorem tabGet_filter (t : Tab α) (k j : Nat) :
    tabGet d (t.filter (fun e => decide (e.1 ≠ k))) j = if j = k then d else tabGet d t j := by
  induction t with
  | nil => simp [tabGet]
  | cons e t ih =>
    obtain ⟨k', v'⟩ := e
    by_cases hk : k' = k
    · subst hk
      by_cases hj : j = k' <;> simp_all [tabGet]
    · by_cases hj : j = k'
      · subst hj; simp [tabGet, hk]
      · simp only [ne_eq, hk, not_false_iff, decide_true, List.filter_cons_of_pos, tabGet, if_neg hj]
        exact ih

omit [DecidableEq α] in
/-- An insertion of a key that is not listed, read at any key. -/
theorem tabGet_tabInsert (t : Tab α) (k j : Nat) (v : α) (hn : ∀ e ∈ t, e.1 ≠ k) :
    tabGet d (tabInsert t k v) j = if j = k then v else tabGet d t j := by
  induction t with
  | nil => simp [tabInsert, tabGet]
  | cons e t ih =>
    obtain ⟨k', v'⟩ := e
    have hne : k' ≠ k := hn _ (List.mem_cons_self ..)
    unfold tabInsert
    by_cases hlt : k < k'
    · simp only [hlt, if_true, tabGet]
    · simp only [hlt, if_false, tabGet]
      by_cases hj : j = k'
      · subst hj; simp [hne]
      · simp only [hj, if_false]
        exact ih (fun e he => hn e (List.mem_cons_of_mem _ he))

/-- Read after write: the key written gives the value written, another key what it gave before. -/
theorem tabGet_tabPut (t : Tab α) (k j : Nat) (v : α) : tabGet d (tabPut d t k v) j = if j = k then v else tabGet d t j := by
  unfold tabPut
  split
  · rw [tabGet_filter, ‹v = d›]
  · rw [tabGet_tabInsert d _ k j v (by simp), tabGet_filter]
    by_cases hj : j = k <;> simp [hj]

/-- A read of the key written. -/
@[simp] theorem tabGet_tabPut_self (t : Tab α) (k : Nat) (v : α) : tabGet d (tabPut d t k v) k = v := by simp [tabGet_tabPut]

/-- A change of one key, read at any key. -/
theorem tabGet_tabMod (t : Tab α) (k j : Nat) (f : α → α) :
    tabGet d (tabMod d t k f) j = if j = k then f (tabGet d t k) else tabGet d t j := tabGet_tabPut d t k j _

/-- A read of the key changed. -/
@[simp] theorem tabGet_tabMod_self (t : Tab α) (k : Nat) (f : α → α) : tabGet d (tabMod d t k f) k = f (tabGet d t k) := by
  simp [tabGet_tabMod]

end Tables

/-! ### Memory -/

/-- A store keeps the canonical form of memory. -/
theorem memPut_wf (m : List Host.Cell) (a : Nat) (l : List Byte) (h : Memory.wf m = true) : Memory.wf (memPut m a l) = true := by
  induction l generalizing m a with
  | nil => exact h
  | cons b t ih => exact ih _ _ (tabPut_wf 0 m a b h)

/-- Clearing a region keeps the canonical form of memory. -/
theorem memClear_wf (m : List Host.Cell) (a n : Nat) (h : Memory.wf m = true) : Memory.wf (memClear m a n) = true :=
  filter_wfFrom 0 _ m 0 h

/-- A store keeps the canonical form of a state's memory. -/
theorem putBytes_wf (s : State) (a : Nat) (l : List Byte) (h : Memory.wf s.mem = true) :
    Memory.wf (s.putBytes a l).mem = true := memPut_wf s.mem a l h

/-- A byte outside the bytes stored reads as before. -/
theorem memPut_outside (m : List Host.Cell) (a x : Nat) (l : List Byte)
    (hx : x < a ∨ a + l.length ≤ x) : tabGet 0 (memPut m a l) x = tabGet 0 m x := by
  induction l generalizing m a with
  | nil => rfl
  | cons b t ih =>
    have hlen : (b :: t).length = t.length + 1 := rfl
    rw [hlen] at hx
    have h1 := ih (tabPut 0 m a b) (a + 1) (by omega)
    rw [memPut, h1, tabGet_tabPut 0 m a x b, if_neg (by omega)]

/-- A byte of the bytes stored reads as stored. -/
theorem memPut_inside (m : List Host.Cell) (a i : Nat) (l : List Byte) (hi : i < l.length) :
    tabGet 0 (memPut m a l) (a + i) = l[i] := by
  induction l generalizing m a i with
  | nil => exact absurd hi (Nat.not_lt_zero i)
  | cons b t ih =>
    cases i with
    | zero =>
      have hout := memPut_outside (tabPut 0 m a b) (a + 1) a t (Or.inl (by omega))
      exact hout.trans ((tabGet_tabPut (0 : Byte) m a a b).trans (if_pos rfl))
    | succ i =>
      have hi' : i < t.length := Nat.lt_of_succ_lt_succ hi
      have := ih (tabPut 0 m a b) (a + 1) i hi'
      rw [memPut, show a + (i + 1) = a + 1 + i by omega, this]
      rfl

end Sys2Proof.Machine
end

