-- ==== Sys2Proof/Laws/Flags.lean ====
section
/-! SUPPORT. What an EMCY message and a Cellar Book record leave alone within the units they write, and what a condition
raised or ended leaves. -/

namespace Sys2Proof.Machine

/-- An EMCY message to CAN0 writes what waits for the inhibit time, and nothing else of the unit. -/
theorem State.canEmcy_comm (m : Emcy) (s : State) : ∃ q u, (s.canEmcy m).comm = { s.comm with emcyQ := q, emcyUntil := u } := by
  unfold State.canEmcy
  (repeat' split) <;> exact ⟨_, _, rfl⟩

/-- An EMCY message writes the error history and what waits for the inhibit time, and nothing else of the unit. -/
theorem State.sendEmcy_comm (m : Emcy) (sev : Nat) (x : List Byte) (s : State) :
    ∃ q u, (s.sendEmcy m sev x).comm =
      { s.comm with errHist := (m.histWord :: s.comm.errHist).take 8, emcyQ := q, emcyUntil := u } := by
  unfold State.sendEmcy
  obtain ⟨q, u, h⟩ := State.canEmcy_comm m ((((s.onComm (fun c => { c with errHist := (m.histWord :: c.errHist).take 8 })).book
    m.code m.source sev (m.bytes ++ x)).oapEmcy m))
  refine ⟨q, u, ?_⟩
  rw [h, State.comm_of_get (State.oapEmcy_get m _ .comm (by simp)), State.comm_of_get (State.book_get _ _ _ _ _ .comm (by simp))]
  rfl

/-- Of the non-volatile unit an EMCY message writes its record and nothing else. -/
theorem State.sendEmcy_nvm (m : Emcy) (sev : Nat) (x : List Byte) (s : State) :
    (s.sendEmcy m sev x).nvm = (s.book m.code m.source sev (m.bytes ++ x)).nvm := by
  unfold State.sendEmcy
  rw [State.nvm_of_get (State.canEmcy_get m _ .nvm (by simp)), State.nvm_of_get (State.oapEmcy_get m _ .nvm (by simp))]
  rfl

/-- The active conditions are not an EMCY message's to change. -/
@[simp] theorem State.sendEmcy_comm_conds (m : Emcy) (sev : Nat) (x : List Byte) (s : State) :
    (s.sendEmcy m sev x).comm.conds = s.comm.conds := by
  obtain ⟨q, u, h⟩ := s.sendEmcy_comm m sev x
  rw [h]

/-- While the device runs a condition raised is active. -/
theorem State.raiseCond_on (code src idx : Nat) (x : List Byte) (s : State) (h : s.boot.st = .running) :
    (s.raiseCond code src idx x).condOn code src idx = true := by
  unfold State.raiseCond State.condOn
  simp only [h]
  split
  · rename_i hn; exact absurd rfl hn
  · split <;> simp [*]

/-- A condition ended is not active. -/
theorem State.endCond_off (code src idx : Nat) (s : State) : (s.endCond code src idx).condOn code src idx = false := by
  unfold State.endCond State.condOn
  dsimp only
  split
  · split <;> simp
  · rename_i h
    simpa using h

@[simp] theorem State.sendEmcy_comm_latent (m : Emcy) (sev : Nat) (x : List Byte) (s : State) :
    (s.sendEmcy m sev x).comm.latent = s.comm.latent := by
  obtain ⟨q, u, h⟩ := s.sendEmcy_comm m sev x
  rw [h]

@[simp] theorem State.emcyEvent_comm_latent (code src : Nat) (x : List Byte) (s : State) :
    (s.emcyEvent code src x).comm.latent = s.comm.latent := by
  simp [State.emcyEvent]

@[simp] theorem State.sendEmcy_comm_nmt (m : Emcy) (sev : Nat) (x : List Byte) (s : State) :
    (s.sendEmcy m sev x).comm.nmt = s.comm.nmt := by
  obtain ⟨q, u, h⟩ := s.sendEmcy_comm m sev x
  rw [h]

@[simp] theorem State.emcyEvent_comm_nmt (code src : Nat) (x : List Byte) (s : State) :
    (s.emcyEvent code src x).comm.nmt = s.comm.nmt := by
  simp [State.emcyEvent]

@[simp] theorem State.raiseCond_comm_nmt (code src idx : Nat) (x : List Byte) (s : State) :
    (s.raiseCond code src idx x).comm.nmt = s.comm.nmt := by
  unfold State.raiseCond State.condHolds
  dsimp only
  (repeat' split) <;> simp

@[simp] theorem State.endCond_comm_nmt (code src idx : Nat) (s : State) :
    (s.endCond code src idx).comm.nmt = s.comm.nmt := by
  unfold State.endCond
  dsimp only
  (repeat' split) <;> simp

@[simp] theorem State.sendEmcy_comm_node (m : Emcy) (sev : Nat) (x : List Byte) (s : State) :
    (s.sendEmcy m sev x).comm.node = s.comm.node := by
  obtain ⟨q, u, h⟩ := s.sendEmcy_comm m sev x
  rw [h]

@[simp] theorem State.emcyEvent_comm_node (code src : Nat) (x : List Byte) (s : State) :
    (s.emcyEvent code src x).comm.node = s.comm.node := by
  simp [State.emcyEvent]

@[simp] theorem State.raiseCond_comm_node (code src idx : Nat) (x : List Byte) (s : State) :
    (s.raiseCond code src idx x).comm.node = s.comm.node := by
  unfold State.raiseCond State.condHolds
  dsimp only
  (repeat' split) <;> simp

@[simp] theorem State.endCond_comm_node (code src idx : Nat) (s : State) :
    (s.endCond code src idx).comm.node = s.comm.node := by
  unfold State.endCond
  dsimp only
  (repeat' split) <;> simp

@[simp] theorem State.sendEmcy_comm_rate (m : Emcy) (sev : Nat) (x : List Byte) (s : State) :
    (s.sendEmcy m sev x).comm.rate = s.comm.rate := by
  obtain ⟨q, u, h⟩ := s.sendEmcy_comm m sev x
  rw [h]

@[simp] theorem State.emcyEvent_comm_rate (code src : Nat) (x : List Byte) (s : State) :
    (s.emcyEvent code src x).comm.rate = s.comm.rate := by
  simp [State.emcyEvent]

@[simp] theorem State.raiseCond_comm_rate (code src idx : Nat) (x : List Byte) (s : State) :
    (s.raiseCond code src idx x).comm.rate = s.comm.rate := by
  unfold State.raiseCond State.condHolds
  dsimp only
  (repeat' split) <;> simp

@[simp] theorem State.endCond_comm_rate (code src idx : Nat) (s : State) :
    (s.endCond code src idx).comm.rate = s.comm.rate := by
  unfold State.endCond
  dsimp only
  (repeat' split) <;> simp

@[simp] theorem State.sendEmcy_comm_lss (m : Emcy) (sev : Nat) (x : List Byte) (s : State) :
    (s.sendEmcy m sev x).comm.lss = s.comm.lss := by
  obtain ⟨q, u, h⟩ := s.sendEmcy_comm m sev x
  rw [h]

@[simp] theorem State.emcyEvent_comm_lss (code src : Nat) (x : List Byte) (s : State) :
    (s.emcyEvent code src x).comm.lss = s.comm.lss := by
  simp [State.emcyEvent]

@[simp] theorem State.raiseCond_comm_lss (code src idx : Nat) (x : List Byte) (s : State) :
    (s.raiseCond code src idx x).comm.lss = s.comm.lss := by
  unfold State.raiseCond State.condHolds
  dsimp only
  (repeat' split) <;> simp

@[simp] theorem State.endCond_comm_lss (code src idx : Nat) (s : State) :
    (s.endCond code src idx).comm.lss = s.comm.lss := by
  unfold State.endCond
  dsimp only
  (repeat' split) <;> simp

@[simp] theorem State.sendEmcy_comm_sdo (m : Emcy) (sev : Nat) (x : List Byte) (s : State) :
    (s.sendEmcy m sev x).comm.sdo = s.comm.sdo := by
  obtain ⟨q, u, h⟩ := s.sendEmcy_comm m sev x
  rw [h]

@[simp] theorem State.emcyEvent_comm_sdo (code src : Nat) (x : List Byte) (s : State) :
    (s.emcyEvent code src x).comm.sdo = s.comm.sdo := by
  simp [State.emcyEvent]

@[simp] theorem State.raiseCond_comm_sdo (code src idx : Nat) (x : List Byte) (s : State) :
    (s.raiseCond code src idx x).comm.sdo = s.comm.sdo := by
  unfold State.raiseCond State.condHolds
  dsimp only
  (repeat' split) <;> simp

@[simp] theorem State.endCond_comm_sdo (code src idx : Nat) (s : State) :
    (s.endCond code src idx).comm.sdo = s.comm.sdo := by
  unfold State.endCond
  dsimp only
  (repeat' split) <;> simp

@[simp] theorem State.sendEmcy_comm_tpdo (m : Emcy) (sev : Nat) (x : List Byte) (s : State) :
    (s.sendEmcy m sev x).comm.tpdo = s.comm.tpdo := by
  obtain ⟨q, u, h⟩ := s.sendEmcy_comm m sev x
  rw [h]

@[simp] theorem State.emcyEvent_comm_tpdo (code src : Nat) (x : List Byte) (s : State) :
    (s.emcyEvent code src x).comm.tpdo = s.comm.tpdo := by
  simp [State.emcyEvent]

@[simp] theorem State.raiseCond_comm_tpdo (code src idx : Nat) (x : List Byte) (s : State) :
    (s.raiseCond code src idx x).comm.tpdo = s.comm.tpdo := by
  unfold State.raiseCond State.condHolds
  dsimp only
  (repeat' split) <;> simp

@[simp] theorem State.endCond_comm_tpdo (code src idx : Nat) (s : State) :
    (s.endCond code src idx).comm.tpdo = s.comm.tpdo := by
  unfold State.endCond
  dsimp only
  (repeat' split) <;> simp

@[simp] theorem State.sendEmcy_comm_rpdo (m : Emcy) (sev : Nat) (x : List Byte) (s : State) :
    (s.sendEmcy m sev x).comm.rpdo = s.comm.rpdo := by
  obtain ⟨q, u, h⟩ := s.sendEmcy_comm m sev x
  rw [h]

@[simp] theorem State.emcyEvent_comm_rpdo (code src : Nat) (x : List Byte) (s : State) :
    (s.emcyEvent code src x).comm.rpdo = s.comm.rpdo := by
  simp [State.emcyEvent]

@[simp] theorem State.raiseCond_comm_rpdo (code src idx : Nat) (x : List Byte) (s : State) :
    (s.raiseCond code src idx x).comm.rpdo = s.comm.rpdo := by
  unfold State.raiseCond State.condHolds
  dsimp only
  (repeat' split) <;> simp

@[simp] theorem State.endCond_comm_rpdo (code src idx : Nat) (s : State) :
    (s.endCond code src idx).comm.rpdo = s.comm.rpdo := by
  unfold State.endCond
  dsimp only
  (repeat' split) <;> simp

@[simp] theorem State.sendEmcy_comm_hbSeen (m : Emcy) (sev : Nat) (x : List Byte) (s : State) :
    (s.sendEmcy m sev x).comm.hbSeen = s.comm.hbSeen := by
  obtain ⟨q, u, h⟩ := s.sendEmcy_comm m sev x
  rw [h]

@[simp] theorem State.emcyEvent_comm_hbSeen (code src : Nat) (x : List Byte) (s : State) :
    (s.emcyEvent code src x).comm.hbSeen = s.comm.hbSeen := by
  simp [State.emcyEvent]

@[simp] theorem State.raiseCond_comm_hbSeen (code src idx : Nat) (x : List Byte) (s : State) :
    (s.raiseCond code src idx x).comm.hbSeen = s.comm.hbSeen := by
  unfold State.raiseCond State.condHolds
  dsimp only
  (repeat' split) <;> simp

@[simp] theorem State.endCond_comm_hbSeen (code src idx : Nat) (s : State) :
    (s.endCond code src idx).comm.hbSeen = s.comm.hbSeen := by
  unfold State.endCond
  dsimp only
  (repeat' split) <;> simp

@[simp] theorem State.sendEmcy_comm_hbLast (m : Emcy) (sev : Nat) (x : List Byte) (s : State) :
    (s.sendEmcy m sev x).comm.hbLast = s.comm.hbLast := by
  obtain ⟨q, u, h⟩ := s.sendEmcy_comm m sev x
  rw [h]

@[simp] theorem State.emcyEvent_comm_hbLast (code src : Nat) (x : List Byte) (s : State) :
    (s.emcyEvent code src x).comm.hbLast = s.comm.hbLast := by
  simp [State.emcyEvent]

@[simp] theorem State.raiseCond_comm_hbLast (code src idx : Nat) (x : List Byte) (s : State) :
    (s.raiseCond code src idx x).comm.hbLast = s.comm.hbLast := by
  unfold State.raiseCond State.condHolds
  dsimp only
  (repeat' split) <;> simp

@[simp] theorem State.endCond_comm_hbLast (code src idx : Nat) (s : State) :
    (s.endCond code src idx).comm.hbLast = s.comm.hbLast := by
  unfold State.endCond
  dsimp only
  (repeat' split) <;> simp

@[simp] theorem State.book_nvm_storeState (code src sev : Nat) (l : List Byte) (s : State) :
    (s.book code src sev l).nvm.storeState = s.nvm.storeState := by
  simp only [State.book, State.onNvm]
  split <;> rfl

@[simp] theorem State.sendEmcy_nvm_storeState (m : Emcy) (sev : Nat) (x : List Byte) (s : State) :
    (s.sendEmcy m sev x).nvm.storeState = s.nvm.storeState := by
  simp [State.sendEmcy_nvm]

@[simp] theorem State.emcyEvent_nvm_storeState (code src : Nat) (x : List Byte) (s : State) :
    (s.emcyEvent code src x).nvm.storeState = s.nvm.storeState := by
  simp [State.emcyEvent]

@[simp] theorem State.raiseCond_nvm_storeState (code src idx : Nat) (x : List Byte) (s : State) :
    (s.raiseCond code src idx x).nvm.storeState = s.nvm.storeState := by
  unfold State.raiseCond State.condHolds
  dsimp only
  (repeat' split) <;> simp

@[simp] theorem State.endCond_nvm_storeState (code src idx : Nat) (s : State) :
    (s.endCond code src idx).nvm.storeState = s.nvm.storeState := by
  unfold State.endCond
  dsimp only
  (repeat' split) <;> simp

@[simp] theorem State.book_nvm_job (code src sev : Nat) (l : List Byte) (s : State) :
    (s.book code src sev l).nvm.job = s.nvm.job := by
  simp only [State.book, State.onNvm]
  split <;> rfl

@[simp] theorem State.sendEmcy_nvm_job (m : Emcy) (sev : Nat) (x : List Byte) (s : State) :
    (s.sendEmcy m sev x).nvm.job = s.nvm.job := by
  simp [State.sendEmcy_nvm]

@[simp] theorem State.emcyEvent_nvm_job (code src : Nat) (x : List Byte) (s : State) :
    (s.emcyEvent code src x).nvm.job = s.nvm.job := by
  simp [State.emcyEvent]

@[simp] theorem State.raiseCond_nvm_job (code src idx : Nat) (x : List Byte) (s : State) :
    (s.raiseCond code src idx x).nvm.job = s.nvm.job := by
  unfold State.raiseCond State.condHolds
  dsimp only
  (repeat' split) <;> simp

@[simp] theorem State.endCond_nvm_job (code src idx : Nat) (s : State) :
    (s.endCond code src idx).nvm.job = s.nvm.job := by
  unfold State.endCond
  dsimp only
  (repeat' split) <;> simp

@[simp] theorem State.book_nvm_inUse (code src sev : Nat) (l : List Byte) (s : State) :
    (s.book code src sev l).nvm.inUse = s.nvm.inUse := by
  simp only [State.book, State.onNvm]
  split <;> rfl

@[simp] theorem State.sendEmcy_nvm_inUse (m : Emcy) (sev : Nat) (x : List Byte) (s : State) :
    (s.sendEmcy m sev x).nvm.inUse = s.nvm.inUse := by
  simp [State.sendEmcy_nvm]

@[simp] theorem State.emcyEvent_nvm_inUse (code src : Nat) (x : List Byte) (s : State) :
    (s.emcyEvent code src x).nvm.inUse = s.nvm.inUse := by
  simp [State.emcyEvent]

@[simp] theorem State.raiseCond_nvm_inUse (code src idx : Nat) (x : List Byte) (s : State) :
    (s.raiseCond code src idx x).nvm.inUse = s.nvm.inUse := by
  unfold State.raiseCond State.condHolds
  dsimp only
  (repeat' split) <;> simp

@[simp] theorem State.endCond_nvm_inUse (code src idx : Nat) (s : State) :
    (s.endCond code src idx).nvm.inUse = s.nvm.inUse := by
  unfold State.endCond
  dsimp only
  (repeat' split) <;> simp

@[simp] theorem State.book_nvm_gen (code src sev : Nat) (l : List Byte) (s : State) :
    (s.book code src sev l).nvm.gen = s.nvm.gen := by
  simp only [State.book, State.onNvm]
  split <;> rfl

@[simp] theorem State.sendEmcy_nvm_gen (m : Emcy) (sev : Nat) (x : List Byte) (s : State) :
    (s.sendEmcy m sev x).nvm.gen = s.nvm.gen := by
  simp [State.sendEmcy_nvm]

@[simp] theorem State.emcyEvent_nvm_gen (code src : Nat) (x : List Byte) (s : State) :
    (s.emcyEvent code src x).nvm.gen = s.nvm.gen := by
  simp [State.emcyEvent]

@[simp] theorem State.raiseCond_nvm_gen (code src idx : Nat) (x : List Byte) (s : State) :
    (s.raiseCond code src idx x).nvm.gen = s.nvm.gen := by
  unfold State.raiseCond State.condHolds
  dsimp only
  (repeat' split) <;> simp

@[simp] theorem State.endCond_nvm_gen (code src idx : Nat) (s : State) :
    (s.endCond code src idx).nvm.gen = s.nvm.gen := by
  unfold State.endCond
  dsimp only
  (repeat' split) <;> simp

@[simp] theorem State.book_nvm_activeSlot (code src sev : Nat) (l : List Byte) (s : State) :
    (s.book code src sev l).nvm.activeSlot = s.nvm.activeSlot := by
  simp only [State.book, State.onNvm]
  split <;> rfl

@[simp] theorem State.sendEmcy_nvm_activeSlot (m : Emcy) (sev : Nat) (x : List Byte) (s : State) :
    (s.sendEmcy m sev x).nvm.activeSlot = s.nvm.activeSlot := by
  simp [State.sendEmcy_nvm]

@[simp] theorem State.emcyEvent_nvm_activeSlot (code src : Nat) (x : List Byte) (s : State) :
    (s.emcyEvent code src x).nvm.activeSlot = s.nvm.activeSlot := by
  simp [State.emcyEvent]

@[simp] theorem State.raiseCond_nvm_activeSlot (code src idx : Nat) (x : List Byte) (s : State) :
    (s.raiseCond code src idx x).nvm.activeSlot = s.nvm.activeSlot := by
  unfold State.raiseCond State.condHolds
  dsimp only
  (repeat' split) <;> simp

@[simp] theorem State.endCond_nvm_activeSlot (code src idx : Nat) (s : State) :
    (s.endCond code src idx).nvm.activeSlot = s.nvm.activeSlot := by
  unfold State.endCond
  dsimp only
  (repeat' split) <;> simp

@[simp] theorem State.book_nvm_slot0 (code src sev : Nat) (l : List Byte) (s : State) :
    (s.book code src sev l).nvm.slot0 = s.nvm.slot0 := by
  simp only [State.book, State.onNvm]
  split <;> rfl

@[simp] theorem State.sendEmcy_nvm_slot0 (m : Emcy) (sev : Nat) (x : List Byte) (s : State) :
    (s.sendEmcy m sev x).nvm.slot0 = s.nvm.slot0 := by
  simp [State.sendEmcy_nvm]

@[simp] theorem State.emcyEvent_nvm_slot0 (code src : Nat) (x : List Byte) (s : State) :
    (s.emcyEvent code src x).nvm.slot0 = s.nvm.slot0 := by
  simp [State.emcyEvent]

@[simp] theorem State.raiseCond_nvm_slot0 (code src idx : Nat) (x : List Byte) (s : State) :
    (s.raiseCond code src idx x).nvm.slot0 = s.nvm.slot0 := by
  unfold State.raiseCond State.condHolds
  dsimp only
  (repeat' split) <;> simp

@[simp] theorem State.endCond_nvm_slot0 (code src idx : Nat) (s : State) :
    (s.endCond code src idx).nvm.slot0 = s.nvm.slot0 := by
  unfold State.endCond
  dsimp only
  (repeat' split) <;> simp

@[simp] theorem State.book_nvm_slot1 (code src sev : Nat) (l : List Byte) (s : State) :
    (s.book code src sev l).nvm.slot1 = s.nvm.slot1 := by
  simp only [State.book, State.onNvm]
  split <;> rfl

@[simp] theorem State.sendEmcy_nvm_slot1 (m : Emcy) (sev : Nat) (x : List Byte) (s : State) :
    (s.sendEmcy m sev x).nvm.slot1 = s.nvm.slot1 := by
  simp [State.sendEmcy_nvm]

@[simp] theorem State.emcyEvent_nvm_slot1 (code src : Nat) (x : List Byte) (s : State) :
    (s.emcyEvent code src x).nvm.slot1 = s.nvm.slot1 := by
  simp [State.emcyEvent]

@[simp] theorem State.raiseCond_nvm_slot1 (code src idx : Nat) (x : List Byte) (s : State) :
    (s.raiseCond code src idx x).nvm.slot1 = s.nvm.slot1 := by
  unfold State.raiseCond State.condHolds
  dsimp only
  (repeat' split) <;> simp

@[simp] theorem State.endCond_nvm_slot1 (code src idx : Nat) (s : State) :
    (s.endCond code src idx).nvm.slot1 = s.nvm.slot1 := by
  unfold State.endCond
  dsimp only
  (repeat' split) <;> simp

@[simp] theorem State.book_nvm_pendingSwitch (code src sev : Nat) (l : List Byte) (s : State) :
    (s.book code src sev l).nvm.pendingSwitch = s.nvm.pendingSwitch := by
  simp only [State.book, State.onNvm]
  split <;> rfl

@[simp] theorem State.sendEmcy_nvm_pendingSwitch (m : Emcy) (sev : Nat) (x : List Byte) (s : State) :
    (s.sendEmcy m sev x).nvm.pendingSwitch = s.nvm.pendingSwitch := by
  simp [State.sendEmcy_nvm]

@[simp] theorem State.emcyEvent_nvm_pendingSwitch (code src : Nat) (x : List Byte) (s : State) :
    (s.emcyEvent code src x).nvm.pendingSwitch = s.nvm.pendingSwitch := by
  simp [State.emcyEvent]

@[simp] theorem State.raiseCond_nvm_pendingSwitch (code src idx : Nat) (x : List Byte) (s : State) :
    (s.raiseCond code src idx x).nvm.pendingSwitch = s.nvm.pendingSwitch := by
  unfold State.raiseCond State.condHolds
  dsimp only
  (repeat' split) <;> simp

@[simp] theorem State.endCond_nvm_pendingSwitch (code src idx : Nat) (s : State) :
    (s.endCond code src idx).nvm.pendingSwitch = s.nvm.pendingSwitch := by
  unfold State.endCond
  dsimp only
  (repeat' split) <;> simp

@[simp] theorem State.book_nvm_switchHeld (code src sev : Nat) (l : List Byte) (s : State) :
    (s.book code src sev l).nvm.switchHeld = s.nvm.switchHeld := by
  simp only [State.book, State.onNvm]
  split <;> rfl

@[simp] theorem State.sendEmcy_nvm_switchHeld (m : Emcy) (sev : Nat) (x : List Byte) (s : State) :
    (s.sendEmcy m sev x).nvm.switchHeld = s.nvm.switchHeld := by
  simp [State.sendEmcy_nvm]

@[simp] theorem State.emcyEvent_nvm_switchHeld (code src : Nat) (x : List Byte) (s : State) :
    (s.emcyEvent code src x).nvm.switchHeld = s.nvm.switchHeld := by
  simp [State.emcyEvent]

@[simp] theorem State.raiseCond_nvm_switchHeld (code src idx : Nat) (x : List Byte) (s : State) :
    (s.raiseCond code src idx x).nvm.switchHeld = s.nvm.switchHeld := by
  unfold State.raiseCond State.condHolds
  dsimp only
  (repeat' split) <;> simp

@[simp] theorem State.endCond_nvm_switchHeld (code src idx : Nat) (s : State) :
    (s.endCond code src idx).nvm.switchHeld = s.nvm.switchHeld := by
  unfold State.endCond
  dsimp only
  (repeat' split) <;> simp

@[simp] theorem State.book_nvm_switchAt (code src sev : Nat) (l : List Byte) (s : State) :
    (s.book code src sev l).nvm.switchAt = s.nvm.switchAt := by
  simp only [State.book, State.onNvm]
  split <;> rfl

@[simp] theorem State.sendEmcy_nvm_switchAt (m : Emcy) (sev : Nat) (x : List Byte) (s : State) :
    (s.sendEmcy m sev x).nvm.switchAt = s.nvm.switchAt := by
  simp [State.sendEmcy_nvm]

@[simp] theorem State.emcyEvent_nvm_switchAt (code src : Nat) (x : List Byte) (s : State) :
    (s.emcyEvent code src x).nvm.switchAt = s.nvm.switchAt := by
  simp [State.emcyEvent]

@[simp] theorem State.raiseCond_nvm_switchAt (code src idx : Nat) (x : List Byte) (s : State) :
    (s.raiseCond code src idx x).nvm.switchAt = s.nvm.switchAt := by
  unfold State.raiseCond State.condHolds
  dsimp only
  (repeat' split) <;> simp

@[simp] theorem State.endCond_nvm_switchAt (code src idx : Nat) (s : State) :
    (s.endCond code src idx).nvm.switchAt = s.nvm.switchAt := by
  unfold State.endCond
  dsimp only
  (repeat' split) <;> simp

@[simp] theorem State.book_nvm_installing (code src sev : Nat) (l : List Byte) (s : State) :
    (s.book code src sev l).nvm.installing = s.nvm.installing := by
  simp only [State.book, State.onNvm]
  split <;> rfl

@[simp] theorem State.sendEmcy_nvm_installing (m : Emcy) (sev : Nat) (x : List Byte) (s : State) :
    (s.sendEmcy m sev x).nvm.installing = s.nvm.installing := by
  simp [State.sendEmcy_nvm]

@[simp] theorem State.emcyEvent_nvm_installing (code src : Nat) (x : List Byte) (s : State) :
    (s.emcyEvent code src x).nvm.installing = s.nvm.installing := by
  simp [State.emcyEvent]

@[simp] theorem State.raiseCond_nvm_installing (code src idx : Nat) (x : List Byte) (s : State) :
    (s.raiseCond code src idx x).nvm.installing = s.nvm.installing := by
  unfold State.raiseCond State.condHolds
  dsimp only
  (repeat' split) <;> simp

@[simp] theorem State.endCond_nvm_installing (code src idx : Nat) (s : State) :
    (s.endCond code src idx).nvm.installing = s.nvm.installing := by
  unfold State.endCond
  dsimp only
  (repeat' split) <;> simp

@[simp] theorem State.book_nvm_committing (code src sev : Nat) (l : List Byte) (s : State) :
    (s.book code src sev l).nvm.committing = s.nvm.committing := by
  simp only [State.book, State.onNvm]
  split <;> rfl

@[simp] theorem State.sendEmcy_nvm_committing (m : Emcy) (sev : Nat) (x : List Byte) (s : State) :
    (s.sendEmcy m sev x).nvm.committing = s.nvm.committing := by
  simp [State.sendEmcy_nvm]

@[simp] theorem State.emcyEvent_nvm_committing (code src : Nat) (x : List Byte) (s : State) :
    (s.emcyEvent code src x).nvm.committing = s.nvm.committing := by
  simp [State.emcyEvent]

@[simp] theorem State.raiseCond_nvm_committing (code src idx : Nat) (x : List Byte) (s : State) :
    (s.raiseCond code src idx x).nvm.committing = s.nvm.committing := by
  unfold State.raiseCond State.condHolds
  dsimp only
  (repeat' split) <;> simp

@[simp] theorem State.endCond_nvm_committing (code src idx : Nat) (s : State) :
    (s.endCond code src idx).nvm.committing = s.nvm.committing := by
  unfold State.endCond
  dsimp only
  (repeat' split) <;> simp

@[simp] theorem State.book_nvm_received (code src sev : Nat) (l : List Byte) (s : State) :
    (s.book code src sev l).nvm.received = s.nvm.received := by
  simp only [State.book, State.onNvm]
  split <;> rfl

@[simp] theorem State.sendEmcy_nvm_received (m : Emcy) (sev : Nat) (x : List Byte) (s : State) :
    (s.sendEmcy m sev x).nvm.received = s.nvm.received := by
  simp [State.sendEmcy_nvm]

@[simp] theorem State.emcyEvent_nvm_received (code src : Nat) (x : List Byte) (s : State) :
    (s.emcyEvent code src x).nvm.received = s.nvm.received := by
  simp [State.emcyEvent]

@[simp] theorem State.raiseCond_nvm_received (code src idx : Nat) (x : List Byte) (s : State) :
    (s.raiseCond code src idx x).nvm.received = s.nvm.received := by
  unfold State.raiseCond State.condHolds
  dsimp only
  (repeat' split) <;> simp

@[simp] theorem State.endCond_nvm_received (code src idx : Nat) (s : State) :
    (s.endCond code src idx).nvm.received = s.nvm.received := by
  unfold State.endCond
  dsimp only
  (repeat' split) <;> simp

@[simp] theorem State.book_nvm_installStatus (code src sev : Nat) (l : List Byte) (s : State) :
    (s.book code src sev l).nvm.installStatus = s.nvm.installStatus := by
  simp only [State.book, State.onNvm]
  split <;> rfl

@[simp] theorem State.sendEmcy_nvm_installStatus (m : Emcy) (sev : Nat) (x : List Byte) (s : State) :
    (s.sendEmcy m sev x).nvm.installStatus = s.nvm.installStatus := by
  simp [State.sendEmcy_nvm]

@[simp] theorem State.emcyEvent_nvm_installStatus (code src : Nat) (x : List Byte) (s : State) :
    (s.emcyEvent code src x).nvm.installStatus = s.nvm.installStatus := by
  simp [State.emcyEvent]

@[simp] theorem State.raiseCond_nvm_installStatus (code src idx : Nat) (x : List Byte) (s : State) :
    (s.raiseCond code src idx x).nvm.installStatus = s.nvm.installStatus := by
  unfold State.raiseCond State.condHolds
  dsimp only
  (repeat' split) <;> simp

@[simp] theorem State.endCond_nvm_installStatus (code src idx : Nat) (s : State) :
    (s.endCond code src idx).nvm.installStatus = s.nvm.installStatus := by
  unfold State.endCond
  dsimp only
  (repeat' split) <;> simp

@[simp] theorem State.book_nvm_commitFor (code src sev : Nat) (l : List Byte) (s : State) :
    (s.book code src sev l).nvm.commitFor = s.nvm.commitFor := by
  simp only [State.book, State.onNvm]
  split <;> rfl

@[simp] theorem State.sendEmcy_nvm_commitFor (m : Emcy) (sev : Nat) (x : List Byte) (s : State) :
    (s.sendEmcy m sev x).nvm.commitFor = s.nvm.commitFor := by
  simp [State.sendEmcy_nvm]

@[simp] theorem State.emcyEvent_nvm_commitFor (code src : Nat) (x : List Byte) (s : State) :
    (s.emcyEvent code src x).nvm.commitFor = s.nvm.commitFor := by
  simp [State.emcyEvent]

@[simp] theorem State.raiseCond_nvm_commitFor (code src idx : Nat) (x : List Byte) (s : State) :
    (s.raiseCond code src idx x).nvm.commitFor = s.nvm.commitFor := by
  unfold State.raiseCond State.condHolds
  dsimp only
  (repeat' split) <;> simp

@[simp] theorem State.endCond_nvm_commitFor (code src idx : Nat) (s : State) :
    (s.endCond code src idx).nvm.commitFor = s.nvm.commitFor := by
  unfold State.endCond
  dsimp only
  (repeat' split) <;> simp

@[simp] theorem State.book_nvm_imageId (code src sev : Nat) (l : List Byte) (s : State) :
    (s.book code src sev l).nvm.imageId = s.nvm.imageId := by
  simp only [State.book, State.onNvm]
  split <;> rfl

@[simp] theorem State.sendEmcy_nvm_imageId (m : Emcy) (sev : Nat) (x : List Byte) (s : State) :
    (s.sendEmcy m sev x).nvm.imageId = s.nvm.imageId := by
  simp [State.sendEmcy_nvm]

@[simp] theorem State.emcyEvent_nvm_imageId (code src : Nat) (x : List Byte) (s : State) :
    (s.emcyEvent code src x).nvm.imageId = s.nvm.imageId := by
  simp [State.emcyEvent]

@[simp] theorem State.raiseCond_nvm_imageId (code src idx : Nat) (x : List Byte) (s : State) :
    (s.raiseCond code src idx x).nvm.imageId = s.nvm.imageId := by
  unfold State.raiseCond State.condHolds
  dsimp only
  (repeat' split) <;> simp

@[simp] theorem State.endCond_nvm_imageId (code src idx : Nat) (s : State) :
    (s.endCond code src idx).nvm.imageId = s.nvm.imageId := by
  unfold State.endCond
  dsimp only
  (repeat' split) <;> simp

@[simp] theorem State.book_nvm_imageVersion (code src sev : Nat) (l : List Byte) (s : State) :
    (s.book code src sev l).nvm.imageVersion = s.nvm.imageVersion := by
  simp only [State.book, State.onNvm]
  split <;> rfl

@[simp] theorem State.sendEmcy_nvm_imageVersion (m : Emcy) (sev : Nat) (x : List Byte) (s : State) :
    (s.sendEmcy m sev x).nvm.imageVersion = s.nvm.imageVersion := by
  simp [State.sendEmcy_nvm]

@[simp] theorem State.emcyEvent_nvm_imageVersion (code src : Nat) (x : List Byte) (s : State) :
    (s.emcyEvent code src x).nvm.imageVersion = s.nvm.imageVersion := by
  simp [State.emcyEvent]

@[simp] theorem State.raiseCond_nvm_imageVersion (code src idx : Nat) (x : List Byte) (s : State) :
    (s.raiseCond code src idx x).nvm.imageVersion = s.nvm.imageVersion := by
  unfold State.raiseCond State.condHolds
  dsimp only
  (repeat' split) <;> simp

@[simp] theorem State.endCond_nvm_imageVersion (code src idx : Nat) (s : State) :
    (s.endCond code src idx).nvm.imageVersion = s.nvm.imageVersion := by
  unfold State.endCond
  dsimp only
  (repeat' split) <;> simp

@[simp] theorem State.book_nvm_loadPending (code src sev : Nat) (l : List Byte) (s : State) :
    (s.book code src sev l).nvm.loadPending = s.nvm.loadPending := by
  simp only [State.book, State.onNvm]
  split <;> rfl

@[simp] theorem State.sendEmcy_nvm_loadPending (m : Emcy) (sev : Nat) (x : List Byte) (s : State) :
    (s.sendEmcy m sev x).nvm.loadPending = s.nvm.loadPending := by
  simp [State.sendEmcy_nvm]

@[simp] theorem State.emcyEvent_nvm_loadPending (code src : Nat) (x : List Byte) (s : State) :
    (s.emcyEvent code src x).nvm.loadPending = s.nvm.loadPending := by
  simp [State.emcyEvent]

@[simp] theorem State.raiseCond_nvm_loadPending (code src idx : Nat) (x : List Byte) (s : State) :
    (s.raiseCond code src idx x).nvm.loadPending = s.nvm.loadPending := by
  unfold State.raiseCond State.condHolds
  dsimp only
  (repeat' split) <;> simp

@[simp] theorem State.endCond_nvm_loadPending (code src idx : Nat) (s : State) :
    (s.endCond code src idx).nvm.loadPending = s.nvm.loadPending := by
  unfold State.endCond
  dsimp only
  (repeat' split) <;> simp

@[simp] theorem State.book_nvm_unitsNeeded (code src sev : Nat) (l : List Byte) (s : State) :
    (s.book code src sev l).nvm.unitsNeeded = s.nvm.unitsNeeded := by
  simp only [State.book, State.onNvm]
  split <;> rfl

@[simp] theorem State.sendEmcy_nvm_unitsNeeded (m : Emcy) (sev : Nat) (x : List Byte) (s : State) :
    (s.sendEmcy m sev x).nvm.unitsNeeded = s.nvm.unitsNeeded := by
  simp [State.sendEmcy_nvm]

@[simp] theorem State.emcyEvent_nvm_unitsNeeded (code src : Nat) (x : List Byte) (s : State) :
    (s.emcyEvent code src x).nvm.unitsNeeded = s.nvm.unitsNeeded := by
  simp [State.emcyEvent]

@[simp] theorem State.raiseCond_nvm_unitsNeeded (code src idx : Nat) (x : List Byte) (s : State) :
    (s.raiseCond code src idx x).nvm.unitsNeeded = s.nvm.unitsNeeded := by
  unfold State.raiseCond State.condHolds
  dsimp only
  (repeat' split) <;> simp

@[simp] theorem State.endCond_nvm_unitsNeeded (code src idx : Nat) (s : State) :
    (s.endCond code src idx).nvm.unitsNeeded = s.nvm.unitsNeeded := by
  unfold State.endCond
  dsimp only
  (repeat' split) <;> simp

@[simp] theorem State.book_nvm_claims (code src sev : Nat) (l : List Byte) (s : State) :
    (s.book code src sev l).nvm.claims = s.nvm.claims := by
  simp only [State.book, State.onNvm]
  split <;> rfl

@[simp] theorem State.sendEmcy_nvm_claims (m : Emcy) (sev : Nat) (x : List Byte) (s : State) :
    (s.sendEmcy m sev x).nvm.claims = s.nvm.claims := by
  simp [State.sendEmcy_nvm]

@[simp] theorem State.emcyEvent_nvm_claims (code src : Nat) (x : List Byte) (s : State) :
    (s.emcyEvent code src x).nvm.claims = s.nvm.claims := by
  simp [State.emcyEvent]

@[simp] theorem State.raiseCond_nvm_claims (code src idx : Nat) (x : List Byte) (s : State) :
    (s.raiseCond code src idx x).nvm.claims = s.nvm.claims := by
  unfold State.raiseCond State.condHolds
  dsimp only
  (repeat' split) <;> simp

@[simp] theorem State.endCond_nvm_claims (code src idx : Nat) (s : State) :
    (s.endCond code src idx).nvm.claims = s.nvm.claims := by
  unfold State.endCond
  dsimp only
  (repeat' split) <;> simp

end Sys2Proof.Machine
end

