-- ==== Sys2Proof/Laws/Link.lean ====
section
/-! SUPPORT. What receiving a link frame does: out of its order nothing; in its order, and for this package, what the frame
stands for, on the state that has taken its number and credit. -/

namespace Sys2Proof.Machine

/-- A frame out of its order, or at a port that is not up, changes nothing (11 R365). -/
theorem State.linkFrame_drops (v : LinkVia) (f : LinkFrame) (segs : Nat) (act : State → State) (s : State)
    (h : s.clUp v.port = false ∨ v.seq ≠ (s.clPort v.port).lastGood + 1) : s.linkFrame v f segs act = s := if_pos h

@[simp] theorem State.onClPort_partials (p : Nat) (f : ClPortSt → ClPortSt) (s : State) :
    (s.onClPort p f).choir.partials = s.choir.partials := rfl

@[simp] theorem State.linkTaken_partials (v : LinkVia) (s : State) : (s.linkTaken v).choir.partials = s.choir.partials := by
  unfold State.linkTaken
  dsimp only
  split <;> rfl

@[simp] theorem State.linkPassed_partials (v : LinkVia) (f : LinkFrame) (s : State) :
    (s.linkPassed v f).choir.partials = s.choir.partials := by
  unfold State.linkPassed State.passOn State.enqueue State.owe
  dsimp only
  (repeat' split) <;> simp

@[simp] theorem State.bcastNote_partials (v : LinkVia) (s : State) : (s.bcastNote v).choir.partials = s.choir.partials := by
  unfold State.bcastNote
  split <;> rfl

@[simp] theorem State.linkPassed_boot (v : LinkVia) (f : LinkFrame) (s : State) : (s.linkPassed v f).boot = s.boot :=
  State.boot_of_get (State.linkPassed_get v f s .boot (by decide))

/-- A frame in its order and for this package acts on the state that has taken it (11 R363 to R367). -/
theorem State.linkFrame_takes (v : LinkVia) (f : LinkFrame) (segs : Nat) (act : State → State) (s : State)
    (h : s.linkTakes v f segs = true) :
    s.linkFrame v f segs act = ((act (s.linkGot v f)).linkRun.drainExports) := by
  unfold State.linkTakes at h
  simp only [Bool.and_eq_true, decide_eq_true_eq, Bool.not_eq_true'] at h
  obtain ⟨⟨⟨⟨⟨⟨hup, hseq⟩, hmine⟩, hown⟩, hrun⟩, hold⟩, hseg⟩ := h
  by_cases hc : f.cls = 0
  · simp only [hc, ne_eq, not_true_eq_false, decide_false, Bool.false_or, Bool.and_eq_true, decide_eq_true_eq] at hseg
    obtain ⟨hlast, hpart⟩ := hseg
    cases hp : s.choir.partials.find? (Partial.meets v) with
    | none =>
      rw [hp] at hpart
      simp only [decide_eq_true_eq] at hpart
      simp [State.linkFrame, State.linkDeliver, State.segmentIn, State.linkGot, *]
      simp [← hlast, hpart]
    | some q =>
      rw [hp] at hpart
      simp only [Bool.and_eq_true, Bool.not_eq_true', decide_eq_true_eq] at hpart
      obtain ⟨hd, hq⟩ := hpart
      simp [State.linkFrame, State.linkDeliver, State.segmentIn, State.linkGot, hup, hseq, hmine, hown, hrun, hold, hc, hp, hd]
      simp [← hlast, hq]
  · simp [State.linkFrame, State.linkDeliver, State.linkGot, hup, hseq, hmine, hown, hrun, hold, hc]

end Sys2Proof.Machine
end

