-- ==== Sys2Proof/Tests/Slice0.lean ====
section
/-! SUPPORT. Tests: an ill-formed term for each check of WellFormed, values from the worked examples and tables of the
spec, and for every obligation with hypotheses a witness: operands and a state that meet the hypotheses of each of its
clauses together. -/

namespace Sys2Proof.Tests

set_option Elab.async false

open Sys2Proof Sys2Proof.Machine

/-- A device in OPERATIONAL, with nothing staged. -/
def up : State := { State.reset with boot := { st := .running }, comm := { nmt := .operational }, nvm := {} }

/-- The same in PRE-OPERATIONAL. -/
def preOp : State := up.onComm (fun c => { c with nmt := .preOperational })

/-- The same in STOPPED. -/
def stopUp : State := up.onComm (fun c => { c with nmt := .stopped })

/-- A beat whose ingest window is closed. -/
def w1 : BeatWork := { beat := 1, start := 1000, closed := true }

/-- A device with that beat before its voice stage. -/
def work1 : State := up.onBeat (fun b => { b with number := 2, start := 2000, work := [w1] })

/-- A device locked to SYNC_IN. -/
def tracked : State := up.onBeat (fun b => { b with source := .syncIn, tracker := .locked, refEdge := some 0 })

/-- A device whose RPDO 15 maps one byte and has a transmission type and a deadline. -/
def rp15 (type : Nat) : State :=
  ((((((up.setEnt 0x140F 1 0x77).setEnt 0x140F 2 type).setEnt 0x140F 5 1).setEnt 0x160F 0 1).setEnt 0x160F 1 0x64000308)).onRpdo 15
    (fun r => { r with lastGot := 1 })

/-- A device whose TPDO 15 maps one byte and has a transmission type and an event timer, with a byte held back. -/
def tp15 (type : Nat) : State :=
  ((((((up.setEnt 0x180F 1 0x78).setEnt 0x180F 2 type).setEnt 0x180F 5 1).setEnt 0x1A0F 0 1).setEnt 0x1A0F 1 0x64000308)).onTpdo 15
    (fun r => { r with held := some [0] })

/-- A device in the LSS configuration state. -/
def lssUp : State := up.onComm (fun c => { c with lss := { c.lss with config := true } })

/-- A device without a node-ID. -/
def noNode : State := up.onComm (fun c => { c with node := 0xFF })

/-- A store in progress. -/
def aJob : StoreJob := ⟨0, 1, [], 1, false, .local, false⟩

/-- A device in a store. -/
def storeUp : State := up.onNvm (fun n => { n with storeState := 1, job := some aJob })

/-- A datagram's header for a fragment of a message of a type, with its CRC. -/
def hdrAs (type index count : Nat) (data : List Byte) : OapHdr :=
  let h : OapHdr := ⟨1, 0x4B4F, 1, 9, 7, 0, 0, 0, BitVec.ofNat 16 data.length, 0, 0⟩
  { h with crc := BitVec.ofNat 32 (crc32 (hdrBytes h type index count data)) }

/-- That of a message in one datagram. -/
def hdr (type : Nat) (data : List Byte) : OapHdr := hdrAs type 0 1 data

theorem hdrAs_ok (type index count : Nat) (data : List Byte) (hl : data.length ≤ 1368) :
    hdrOk (hdrAs type index count data) type index count data = true := by
  have hc : ∀ l, crc32 l < 4294967296 := fun l => BitVec.isLt _
  simp [hdrOk, hdrAs, hdrBytes, bits, Nat.mod_eq_of_lt (hc _), hl]
  omega

/-- Its session. -/
def sess : OapSession := { host := 1, token := 7, write := true, lastReq := 0, newest := some 24 }

/-- A device with that session. -/
def sessUp : State := up.onOap (fun o => { o with sessions := [sess] })

/-- A subscription. -/
def aSub : OapSub := ⟨7, 10, [(0x1000, 0)], 0, [[]]⟩

/-- A device at the start of beat 256 with an image switch due. -/
def switchUp : State :=
  ((up.onBeat (fun b => { b with number := 256, start := 256000 })).setNow 256000).onNvm (fun n => { n with
    slot1 := .valid, pendingSwitch := some 1 })

/-- A device with one record in the Cellar Book. -/
def bookUp : State := State.writeRecord (up.onNvm (fun n => { n with staged := [⟨0xE001, 4, 0, 0, 0, List.replicate 34 0⟩] }))

theorem serial_word : (BitVec.ofNat 32 Config.serial).toNat = up.identity 3 := by
  have : Config.serialSeed % 0xFFFFFFFF < 0xFFFFFFFF := Nat.mod_lt _ (by omega)
  show Config.serial % 2 ^ 32 = Config.serial
  unfold Config.serial; omega

theorem serial_le : up.identity 3 ≤ (0xFFFFFFFF#32).toNat := by
  have : Config.serialSeed % 0xFFFFFFFF < 0xFFFFFFFF := Nat.mod_lt _ (by omega)
  show Config.serial ≤ 0xFFFFFFFF
  unfold Config.serial; omega

/-- A device with sensor port p in a state. -/
def portUp (p : Nat) (x : Port) : State := up.onPort p (fun _ => x)

/-- A head's record with its CRC. -/
def headRec (l : List Byte) : List Byte := slice l 0 252 ++ leBytes 4 (crc32 (slice l 0 252))

theorem headRec_crc (l : List Byte) : recCrcOk (slice (headRec l) 0 256) = true := by
  have h := length_slice l 0 252
  have hl := length_leBytes 4 (crc32 (slice l 0 252))
  have hc : crc32 (slice l 0 252) < 256 ^ 4 := BitVec.isLt _
  have e : ∀ (a b : List Byte), a.length = 252 → b.length = 4 → slice (a ++ b) 0 256 = a ++ b := by
    intro a b ha hb; simp [slice, ha, hb, List.take_of_length_le]
  have e2 : ∀ (a b : List Byte), a.length = 252 → slice (a ++ b) 0 252 = a := by
    intro a b ha; simp [slice, ha]
  have e3 : ∀ (a b : List Byte), a.length = 252 → b.length = 4 → slice (a ++ b) 252 4 = b := by
    intro a b ha hb; simp [slice, ha, hb, List.take_of_length_le]
  simp only [recCrcOk, headRec, numAt, e _ _ h hl, e2 _ _ h, e3 _ _ h hl, leNum_leBytes, decide_eq_true_eq]
  omega

/-- A head's record with a CRC that is not its own. -/
def headBad (l : List Byte) : List Byte := slice l 0 252 ++ leBytes 4 ((crc32 (slice l 0 252) + 1) % 256 ^ 4)

theorem headBad_crc (l : List Byte) : recCrcOk (slice (headBad l) 0 256) = false := by
  have h := length_slice l 0 252
  have hl := length_leBytes 4 ((crc32 (slice l 0 252) + 1) % 256 ^ 4)
  have hc : crc32 (slice l 0 252) < 256 ^ 4 := BitVec.isLt _
  have e : ∀ (a b : List Byte), a.length = 252 → b.length = 4 → slice (a ++ b) 0 256 = a ++ b := by
    intro a b ha hb; simp [slice, ha, hb, List.take_of_length_le]
  have e2 : ∀ (a b : List Byte), a.length = 252 → slice (a ++ b) 0 252 = a := by
    intro a b ha; simp [slice, ha]
  have e3 : ∀ (a b : List Byte), a.length = 252 → b.length = 4 → slice (a ++ b) 252 4 = b := by
    intro a b ha hb; simp [slice, ha, hb, List.take_of_length_le]
  simp only [recCrcOk, headBad, numAt, e _ _ h hl, e2 _ _ h, e3 _ _ h hl, leNum_leBytes, decide_eq_false_iff_not]
  omega

/-- A frame camera at the largest size and pixel rate. -/
def frameRec : List Byte := headRec (leBytes 4 0x5249484B ++ [1, 2, 4, 3] ++ leBytes 2 1500 ++ [0x2A, 0] ++ leBytes 2 3840
  ++ leBytes 2 2160 ++ leBytes 4 30000 ++ leBytes 2 12000 ++ leBytes 2 24000)

/-- An event camera. -/
def eventRec : List Byte := headRec (leBytes 4 0x5249484B ++ [1, 1, 1, 3] ++ leBytes 2 80 ++ [0x30, 0] ++ leBytes 2 1
  ++ leBytes 2 1 ++ leBytes 4 0 ++ leBytes 2 0 ++ leBytes 2 5000 ++ leBytes 4 1000000)

/-- An identification in progress. -/
def idPort : Port := { st := .identifying, present := true, reading := true, acked := true }

/-- An event camera that streams. -/
def eventPort : Port := { st := .streaming, present := true, efuse := true, record := eventRec, region := some (0x40000000, 0x50000) }

/-- A frame camera that streams. -/
def framePort : Port := { st := .streaming, present := true, efuse := true, record := frameRec }

/-- A frame in progress. -/
def aFrame : Frame := ⟨0, 0, 3840, 2160, 0x2A, [], 0, true⟩

/-- A device with voice core c in a state. -/
def coreUp (c : Nat) (x : VCore) : State := up.onCore c (fun _ => x)

/-- A packet of a type. -/
def pkt (type : BitVec 4) : Packet := ⟨5, 0, 0, 0, type, 0, 0⟩

/-- A flit on VN0. -/
def flit : Flit := { pkt := pkt 0, target := 0, stage := 0, rank := 0 }

/-- A copy of it for an output. -/
def rcopy (o : Dir) : RCopy := { flit := flit, inp := .w, out := o, slot := some 0 }

/-- A router with that copy. -/
def routed (o : Dir) : State := up.onRouter 255 (fun r => { r with copies := [rcopy o], nextSlot := 1 })

/-- The 32 bytes of an engine command with its first operand at an address. -/
def cmdFrom (a : Nat) (op types : Byte) (m n k param h : Nat) : List Byte :=
  [op, types, 0, 0] ++ leBytes 6 a ++ leBytes 6 0x40002000 ++ leBytes 6 0x40003000
  ++ leBytes 2 m ++ leBytes 2 n ++ leBytes 2 k ++ leBytes 2 param ++ leBytes 2 h

/-- The same at an address that can be read. -/
def cmd (op types : Byte) (m n k param h : Nat) : List Byte := cmdFrom 0x40001000 op types m n k param h

/-- A device whose unit u runs a task of one command. -/
def task (u : Nat) (l : List Byte) : State := (up.putBytes 0x40000000 l).onPress (fun p => { p with
  tasks := [(0, { st := .running, desc := { addr := 0x40000000, count := 1 }, beat := some 0 })], running := [(u, some 0)] })

/-- A device with task slot 3072 + 1023 in a state. -/
def slotUp (x : Task) : State := up.onTask 4095 (fun _ => x)

/-- A queue with two levels and credits. -/
def aQueue : Queue := { st := .enabled, levelCount := 2, levelCap := 64, levels := [(0, { credits := 64 }), (1, { credits := 64 })] }

/-- A device with that queue as queue 31, changed, and cantor 7's push control at a length on level 1. -/
def queueUp (n : Nat) (f : Queue → Queue) : State :=
  (up.onQ 31 (fun _ => f aQueue)).onQueues (fun x => { x with pushControl := [(latchKey 7 31, n * 256 + 1)] })

/-- A queue that holds a packet of some items at level 1. -/
def holding (l : List (BitVec 128)) : Queue := aQueue.onLevel 1 (fun v => { v with pkts := [⟨l.length, 0, l⟩], credits := 64 - l.length })

/-- A mover with an enabled ring of 16 descriptors. -/
def aMover : Mover := { st := .active, base := 0x40001000, size := 0, enable := true, tail := 16 }

/-- A device with mover 15 in a state. -/
def moverUp (x : Mover) : State := up.onMover 15 (fun _ => x)

/-- A fill of 64 bytes as a descriptor. -/
def fillDesc : List Byte := slice (leBytes 8 0 ++ leBytes 8 0x40000FC0 ++ leBytes 4 64 ++ [0x20, 0xFF] ++ leBytes 2 1) 0 32

/-- A task descriptor with a TASK_ID. -/
def aDesc (n : Nat) : List Byte := slice (leBytes 8 0x40001000 ++ leBytes 2 4096 ++ [2, 0] ++ leBytes 2 n) 0 32

/-- A device with queue 31 disabled and validly configured. -/
def qOff : State := up

/-- A device with Choir Link enabled and port p in a state. -/
def clUp (p : Nat) (st : ClPort) : State := (up.setEnt 0x8000 1 1).onClPort p (fun x => { x with st := st, lastGood := 5, replays := 14 })

/-- A Choir of packages 0 and 3, seen from one of them. -/
def choirUp (role : Role) (own : Nat) : State := (up.setEnt 0x8000 1 1).onChoir (fun c => { c with
  role := role, ownId := own, serials := [(0, 100), (3, 300)], beat := if own = 0 then .notFollowing else .following })

/-- The same with its port 1 up, where the last good frame was frame 5. -/
def linked (role : Role) (own : Nat) : State := (choirUp role own).onClPort 1 (fun x => { x with st := .up, lastGood := 5 })

/-- The next frame there, from package src to one package or to all. -/
def via (src : Fin 16) (dst : Option (Fin 16)) : LinkVia := ⟨1, 6, 0, 0, 0, src, dst, false, 15, 0, 1⟩

/-- A frame sent as frame 6. -/
def sent6 : LinkFrame := { kind := 8, cls := 1, src := 0, dst := 3, flags := 0, seq := 6 }

/-- A HELLO from a package of stepping B0 with Choir Link. -/
def helloOf (role members prec : Nat) : HelloMsg := ⟨0, 0x10, 0xB0, role, 0, prec, members, 0⟩

/-- A BEAT frame. -/
def beatMsg (ns : Nat) : BeatMsg := ⟨1, 1000, 2000, 0, false, false, false, 0, ns⟩

/-- A report of package 0 for rank 0 of beat 5. -/
def aReport : Report := ⟨0, 5, some 0, [(3, 1, 2)], {}⟩

/-- A device with gate 7 enabled and in a state, counting into zone 3. -/
def gateUp (x : Gate) : State := (((preOp.setEnt 0x6017 1 1).setEnt 0x6103 3 0x4000).setEnt 0x6103 4 1).onGate 7 (fun _ => x)

/-- The same with zone 3 in a state. -/
def zoneUp (x : Zone) : State := (gateUp { seq := .idle }).onZone 3 (fun _ => x)

/-- A device with STO energised and the belt in a state. -/
def beltUp (st : BeltSt) : State :=
  (up.onIsland (fun i => { i with stoA := true, stoB := true })).onBelt (fun b => { b with st := st })

/-- A device with audio channel 1 in a state. -/
def chanUp (st : ChanSt) : State := up.onAudio (fun a => { a with ch1 := { st := st } })

/-- A safety configuration: SIN0 the reset, SIN1 an emergency stop with test pulses, SIN2 a guard, SIN3 a speed limit. -/
def aCfg : SafetyCfg := { sin0 := 4, sin1 := 9, sin2 := 2, sin3 := 3, discrepancyMs := 500, degradedS := 10 }

/-- A device whose island is in a state with its inputs closed. -/
def islandUp (st : IslandSt) : State := preOp.onIsland (fun i => { i with
  st := st, cfg := some aCfg, sins := [(1, { a := true, b := true }), (2, { a := true, b := true }), (3, { a := true, b := true })] })

/-- The first 60 bytes of a block of safety parameters, at the upper ends of its ranges. -/
def block60 : List Byte := leBytes 4 0x4250534B ++ [1, 0, 0, 0] ++ leBytes 4 0 ++ leBytes 4 5 ++ [4, 1, 0, 0] ++ leBytes 2 500 ++ [6, 10]
  ++ leBytes 2 250 ++ leBytes 2 2000 ++ leBytes 4 1000000 ++ leBytes 4 0 ++ leBytes 2 1000 ++ leBytes 2 0 ++ [1, 50]
  ++ List.replicate 18 0

/-- The block. -/
def aBlock : List Byte := block60 ++ leBytes 4 (crc32 block60)

/-- A gate in its last step of a passage inward, with the change that ends it waiting. -/
def leaveIn : Gate := { seq := .leaveIn, b := { raw := false, since := some 5, accepted := true } }

theorem aBlock_crc : numAt aBlock 60 4 = crc32 (aBlock.take 60) := by
  have hl := length_leBytes 4 (crc32 block60)
  have hc : crc32 block60 < 256 ^ 4 := BitVec.isLt _
  have h : block60.length = 60 := by decide +kernel
  have e : ∀ (a b : List Byte), a.length = 60 → b.length = 4 → slice (a ++ b) 60 4 = b := by
    intro a b ha hb; simp [slice, ha, hb, List.take_of_length_le]
  simp only [aBlock, numAt, e _ _ h hl, leNum_leBytes, List.take_left' h]
  omega

theorem aBlock_ok : blockOk aBlock = true := by
  have h1 : (decide (aBlock.length = 64) && decide (numAt aBlock 0 4 = 0x4250534B) && decide (numAt aBlock 4 1 = 1)
    && decide (numAt aBlock 5 3 = 0) && decide (numAt aBlock 42 18 = 0)) = true := by decide +kernel
  have h2 : ((blockCfg aBlock).ranges && (blockCfg aBlock).consistent) = true := by decide +kernel
  simp only [Bool.and_eq_true] at h1 h2
  simp only [blockOk, h1, h2, aBlock_crc, decide_true, Bool.and_self]

/-- A device with stream 1 in a state. -/
def streamUp (x : Stream) : State := up.onStream 1 (fun _ => x)

/-- A device with debug unlocked. -/
def debugUp : State := up.onBoot (fun b => { b with debug := true })

/-- The header of a datagram. -/
def aHdr : OapHdr := hdr 0 []

/-- One with a host number out of range. -/
def badHdr : OapHdr := { aHdr with host := 2 ^ 48 }

/-- The way of a frame. -/
def aVia : LinkVia := via 0 none

/-- One that passed no link. -/
def badVia : LinkVia := { aVia with hops := 0 }

/-- A HELLO. -/
def helloMsg : HelloMsg := helloOf 0 0 0

/-- A MEMBERSHIP. -/
def memMsg : MemberMsg := ⟨0, 0, List.replicate 16 0, List.replicate 16 0⟩

/-! ### The checks of WellFormed: an ill-formed term for each conjunct of each check -/

theorem test_wf_refuses_time : ([
    .deviceTimeLoRead 64,
    .beatNumberLoRead 64,
    .syncInEdge (2 ^ 64)] : List Instr).all (fun i => !i.wf) = true := by decide +kernel

theorem test_wf_refuses_coherence : ([
    .getS 0 (2 ^ 38) 0,
    .getM 0 (2 ^ 38) 0,
    .putS 0 (2 ^ 38),
    .putE 0 (2 ^ 38),
    .putM 0 (2 ^ 38),
    .putMData (2 ^ 38),
    .ncRead 64 0 4 .clean,
    .ncRead 0 0 0 .clean,
    .ncRead 0 0 257 .clean,
    .ncWrite 64 0 [1],
    .ncWrite 0 0 [],
    .ncWrite 0 0 (List.replicate 257 0),
    .registerWrite 0 64 0 0,
    .registerWrite 0 0 65536 0,
    .registerWrite 0 0 2 0] : List Instr).all (fun i => !i.wf) = true := by decide +kernel

theorem test_wf_refuses_sdo : ([
    .sdoInitiateDownload 65536 0 false [],
    .sdoInitiateDownload 0 256 false [],
    .sdoInitiateDownload 0 0 true [],
    .sdoInitiateDownload 0 0 true [1, 2, 3, 4, 5],
    .sdoDownloadSegment false false (List.replicate 8 0),
    .sdoInitiateUpload 0x10000 0,
    .sdoInitiateUpload 0 256,
    .rpdoReceive 0 (List.replicate 65 0),
    .heartbeatConsume 0,
    .heartbeatConsume 128,
    .lssConfigureNodeId 256,
    .lssConfigureBitTiming 256 0,
    .lssConfigureBitTiming 0 256,
    .lssFastscan 0 256 0 0] : List Instr).all (fun i => !i.wf) = true := by decide +kernel

theorem test_wf_refuses_oap : ([
    .oapFragment badHdr 0 0 0 [],
    .oapFragment aHdr 256 0 0 [],
    .oapFragment aHdr 0 256 0 [],
    .oapFragment aHdr 0 0 256 [],
    .oapFragment aHdr 0 0 0 (List.replicate 1369 0),
    .oapOpen badHdr 0 0,
    .oapOpen aHdr 256 0,
    .oapClose badHdr,
    .oapKeepalive badHdr,
    .oapRead badHdr 0 0,
    .oapRead aHdr 65536 0,
    .oapRead aHdr 0 256,
    .oapWrite badHdr 0 0 0 [],
    .oapWrite aHdr 65536 0 0 [],
    .oapWrite aHdr 0 256 0 [],
    .oapWrite aHdr 0 0 65536 [],
    .oapWrite aHdr 0 0 0 (List.replicate 65536 0),
    .oapMultiRead badHdr [],
    .oapMultiRead aHdr [(0, 256)],
    .oapSubscribe badHdr 1 [],
    .oapSubscribe aHdr 65536 [],
    .oapSubscribe aHdr 1 [(65536, 0)],
    .oapUnsubscribe badHdr 0,
    .oapVerdictStream badHdr true 1,
    .oapVerdictStream aHdr true 65536,
    .discover badHdr,
    .discoverReply (2 ^ 48),
    .oapUnknownType badHdr 0 [],
    .oapUnknownType aHdr 256 [],
    .oapUnknownType aHdr 0 (List.replicate 1369 0)] : List Instr).all (fun i => !i.wf) = true := by decide +kernel

theorem test_wf_refuses_ports : ([
    .identityReadComplete 0 true [],
    .csi2Packet 0 ⟨0, 16, 0, false, false, 0, []⟩,
    .csi2Packet 0 ⟨0, 0, 64, false, false, 0, []⟩,
    .csi2Packet 0 ⟨2 ^ 64, 0, 0, false, false, 0, []⟩,
    .csi2Packet 0 ⟨0, 0, 0, false, false, 65536, List.replicate 16384 0⟩,
    .csi2Packet 0 ⟨0, 0, 0, false, false, 5, [0]⟩,
    .frameStart 0 (2 ^ 64)] : List Instr).all (fun i => !i.wf) = true := by decide +kernel

theorem test_wf_refuses_link_header : ([
    .linkFrameCrcError 0 (List.replicate 129 0),
    .ping { aVia with credCount := 65 } 0,
    .ping { aVia with seg := 2048 } 0,
    .ping { aVia with hops := 0 } 0,
    .ping { aVia with hops := 16 } 0,
    .hello badVia helloMsg,
    .membership badVia memMsg,
    .memberHeartbeat badVia 0 0,
    .beatFrame badVia (beatMsg 0),
    .pong badVia 0 0 0,
    .join badVia 0 0 0,
    .events badVia false [(true, pkt 0)],
    .memReq badVia 0 false 0 1 [],
    .memRsp badVia 0 false 0 0 [],
    .barrier badVia 0 0 [],
    .stageEnd badVia 0 {} [],
    .forward badVia (.reset 0),
    .switchPrepare badVia 0,
    .switchAccept badVia 0,
    .switchRefuse badVia 0 0,
    .switchCommit badVia 0,
    .switchCancel badVia 0,
    .credit badVia] : List Instr).all (fun i => !i.wf) = true := by decide +kernel

theorem test_wf_refuses_choir_control : ([
    .hello aVia { helloMsg with serial := 2 ^ 32 },
    .hello aVia { helloMsg with role := 8 },
    .hello aVia { helloMsg with ownId := 256 },
    .hello aVia { helloMsg with precSerial := 2 ^ 32 },
    .hello aVia { helloMsg with members := 65536 },
    .hello aVia { helloMsg with generation := 2 ^ 32 },
    .membership aVia { memMsg with generation := 2 ^ 32 },
    .membership aVia { memMsg with serials := [] },
    .membership aVia { memMsg with offsets := [] },
    .membership aVia { memMsg with serials := List.replicate 16 (2 ^ 32) },
    .memberHeartbeat aVia (2 ^ 32) 0,
    .memberHeartbeat aVia 0 (2 ^ 48),
    .pong aVia 0 0 (2 ^ 74),
    .join aVia 0 256 0,
    .join aVia 0 0 (-2147483649),
    .join aVia 0 0 2147483648] : List Instr).all (fun i => !i.wf) = true := by decide +kernel

theorem test_wf_refuses_choir_beat : ([
    .beatFrame aVia { beatMsg 0 with beat := 2 ^ 48 },
    .beatFrame aVia { beatMsg 0 with period := 65536 },
    .beatFrame aVia { beatMsg 0 with limit := 65536 },
    .beatFrame aVia { beatMsg 0 with policy := 256 },
    .beatFrame aVia { beatMsg 0 with failBeat := 2 ^ 48 },
    .beatFrame aVia (beatMsg (2 ^ 74))] : List Instr).all (fun i => !i.wf) = true := by decide +kernel

theorem test_wf_refuses_choir_traffic : ([
    .events aVia false [],
    .events aVia false (List.replicate 3 (true, pkt 0)),
    .memReq aVia 65536 false 0 1 [],
    .memReq aVia 0 false 0 0 [],
    .memReq aVia 0 false 0 257 [],
    .memReq aVia 0 true 0 2 [1],
    .memReq aVia 0 false 0 1 [1],
    .memRsp aVia 65536 false 0 0 [],
    .memRsp aVia 0 false 0 256 [],
    .memRsp aVia 0 false 0 0 (List.replicate 257 0),
    .remoteRequestTimeout 65536,
    .barrier aVia (2 ^ 48) 0 [],
    .barrier aVia 0 8 [],
    .barrier aVia 0 0 [(16, 0, 0)],
    .barrier aVia 0 0 [(0, 2 ^ 32, 0)],
    .barrier aVia 0 0 [(0, 0, 2 ^ 32)],
    .stageEnd aVia (2 ^ 48) {} [],
    .stageEnd aVia 0 {} [(16, 0, 0)],
    .switchPrepare aVia (2 ^ 40),
    .switchAccept aVia (2 ^ 40),
    .switchRefuse aVia (2 ^ 40) 0,
    .switchCommit aVia (2 ^ 40),
    .switchCancel aVia (2 ^ 40)] : List Instr).all (fun i => !i.wf) = true := by decide +kernel

theorem test_wf_refuses_machine_units : ([
    .gateRawChange 0 true true (2 ^ 64),
    .hallEdge 0 (2 ^ 74),
    .qepEdge true (2 ^ 74),
    .currentLimitCycle 200001,
    .fastTrip 200001 true,
    .audioMuteWrite .mute 256,
    .audioMuteWrite .powerLimit 65536,
    .stageTemperatureChange 32768,
    .stageTemperatureChange (-32769),
    .safetyInputAccepted 0 false true (2 ^ 64),
    .testPulse true (List.replicate 9 ⟨0, true, true⟩),
    .safetyParamBlock (List.replicate 65536 0),
    .safetyConfirm (List.replicate 65536 0)] : List Instr).all (fun i => !i.wf) = true := by decide +kernel

theorem test_wf_refuses_power_and_boot : ([
    .brownoutWarning 65536,
    .brownoutEnd 65536,
    .vinLowShutdown 65536,
    .vcoreSettled 65536,
    .temperatureSample 32768 [0, 0, 0, 0],
    .temperatureSample (-32769) [0, 0, 0, 0],
    .temperatureSample 0 [0, 0, 0],
    .temperatureSample 0 [0, 0, 0, 32768],
    .fuseProgram 16 0,
    .fuseProgram 0 8,
    .debugResponse (List.replicate 65536 0),
    .installData (List.replicate 65536 0)] : List Instr).all (fun i => !i.wf) = true := by decide +kernel

theorem test_wf_accepts : ([
    .deviceTimeLoRead 63,
    .getM 7 (2 ^ 38 - 1) 0,
    .ncRead 63 0 256 .two,
    .registerWrite 7 63 65532 5,
    .sdoInitiateDownload 65535 255 true [1, 2, 3, 4],
    .heartbeatConsume 127,
    .oapFragment aHdr 255 1 1 [],
    .oapSubscribe aHdr 65535 [(65535, 255)],
    .identityReadComplete 0 false [],
    .csi2Packet 0 ⟨0, 15, 63, false, false, 5, [0, 0]⟩,
    .linkFrameCrcError 0 (List.replicate 128 0),
    .ping { aVia with credCount := 64, seg := 2047, hops := 15 } 0,
    .hello aVia helloMsg,
    .membership aVia memMsg,
    .beatFrame aVia (beatMsg 0),
    .events aVia true [(true, pkt 0)],
    .memReq aVia 65535 true 0 2 [1, 2],
    .barrier aVia 0 7 [(15, 1, 1)],
    .gateRawChange 7 true true 5,
    .fastTrip 200000 true,
    .temperatureSample (-400) [0, 0, 0, 32767],
    .fuseProgram 15 7,
    .beatBoundary] : List Instr).all Instr.wf = true := by decide +kernel

/-! ### Worked examples and tables of the spec -/

/-- A next state's property, as a test reads it. -/
def after (o : Host.Outcome State Fault Refusal) (p : State → Bool) : Bool :=
  match o with
  | .next t => p t
  | .fault _ => false
  | .refused _ => false

/-- 01, worked example: variable s2 of slot 37 on core 154 lies on tile 2, at 0x8268_012C. -/
theorem test_neuron_address : tileOf 154 = 2 ∧ slotState 154 37 + 4 = 0x8268012C := by decide

/-- 06, worked example: program 0. -/
def leaky : List Nat := [0x22000000E0000000, 0x0800400000000000, 0x1600050003E80000, 0x2A00000000010000, 0x2C00A00000000000, 0]

/-- 06, worked example: in beat 1003 the neuron reads DT 3, s0 640 and IN 500, and ends at 929 with no fire. -/
theorem test_leaky_beat_1003 :
    leakFactor 17 65536 0xE000 3 = 43904 ∧
    (runDyn leaky { regs := [640, 0, 0, 0, 500, 3, 0, 0, 0, 0, 0], dt := 3 }).regs.head? = some 929 ∧
    (runDyn leaky { regs := [640, 0, 0, 0, 500, 3, 0, 0, 0, 0, 0], dt := 3 }).fired = none := by decide +kernel

/-- 06, worked example: in beat 1004 it fires with payload 1 and s0 becomes 0. -/
theorem test_leaky_beat_1004 :
    (runDyn leaky { regs := [929, 0, 0, 0, 300, 1, 0, 0, 0, 0, 0], dt := 1 }).regs.head? = some 0 ∧
    (runDyn leaky { regs := [929, 0, 0, 0, 300, 1, 0, 0, 0, 0, 0], dt := 1 }).fired = some 1 := by decide +kernel

/-- 16, worked example: 250 mm/s over 33 333 µs at 2400 pixels per metre is 80 quarter pixels. -/
theorem test_global_vector : globalVector 0 250 38400 33333 32 = 80 := by decide

/-- 16, worked example: the marks after frame 8, a refresh, and after frame 9. -/
theorem test_buffer_marks :
    Stream.finishMarks { marks := [(0, 3), (1, 2), (2, 1)], refresh := true } = [(0, 4), (2, 5)] ∧
    Stream.finishMarks { marks := [(0, 4), (1, 1), (2, 5)] } = [(0, 4), (1, 2), (2, 3)] := by decide +kernel

/-- 08, worked example: the five confidences with source 1 replaced, of ABSENT_FACTOR 0xC0. -/
theorem test_confidences :
    [0xD2F0, 0x1A40, 0x0610, 0x0200, 0x00F0].map ((up.onSource 1 (fun x => { x with absentFactor := 0xC0 })).scaled 2) =
      [157, 19, 4, 1, 0] := by decide +kernel

/-- 03, worked example: a read of BEAT_NUMBER in beat 5326 answers type BEAT48 and its six bytes. -/
theorem test_read_beat_number :
    ((up.onBeat (fun b => { b with number := 5326 })).readEntry 0x2100 1).1 = (0, .beat48, [0xCE, 0x14, 0, 0, 0, 0]) := by
  decide +kernel

/-- 02, worked example: in HOLDOVER with three in-tolerance edges, the fourth locks again, with a residual of 412 µs. -/
theorem test_sync_relock :
    after (Sys2Proof.Machine.execSyncInEdge 5304412 ((up.onBeat (fun b => { b with
        number := 5304, start := 5304000, source := .syncIn, tracker := .holdover, inRun := 3, refEdge := some 5303412 })).setNow 5304412))
      (fun t => t.beat.tracker == .locked && t.beat.residual == some 412) = true := by decide +kernel

/-- 02, worked example: the beat that then starts lasts 1020 µs; with a residual of 12 it lasts 1012 µs. -/
theorem test_slewed_length :
    ({ residual := some 412 } : BeatUnit).nextLength = 1020 ∧ ({ residual := some 12 } : BeatUnit).nextLength = 1012 := by decide

/-- 05, worked example: an event head of 1280 by 720 needs a region of 2112 KiB. -/
theorem test_event_region :
    regionNeed (leBytes 4 0x5249484B ++ [1, 1, 1, 3] ++ leBytes 2 4500 ++ [0x30, 0] ++ leBytes 2 1280 ++ leBytes 2 720) = 2112 * 1024 := by
  decide +kernel

/-- 05, worked example: it does not fit above 6144 KiB of the hub slice, and takes the top of an empty slice of CT0. -/
theorem test_region_place :
    regionTop (2112 * 1024) 0x40000000 (6144 * 1024) (8192 * 1024) [] = none ∧
    (regionTop (2112 * 1024) 0x40800000 0 (8192 * 1024) []).isSome = true := by decide +kernel

/-- 10, worked example: while cantor 5 writes its line back, the requests of cantors 2 and 6 wait, the lower number first. -/
theorem test_writeback_queue :
    after (Sys2Proof.Machine.execGetM 2 0x1000000 102 (up.onDir 0x1000000 (fun d => { d with st := .wbPending, queue := [⟨6, true, 102⟩] })))
      (fun t => (t.dirLine 0x1000000).st == .wbPending && (t.dirLine 0x1000000).queue.map (fun r => r.cantor) == [2, 6]) = true := by decide +kernel

/-- 13, worked example: the fourth limited cycle in a row trips channel 1. -/
theorem test_audio_trip :
    after (Sys2Proof.Machine.execAudioLimitedCycle 1 4 (up.onChan 1 (fun _ => { st := .playing, limited := 3, sides := 4 })))
      (fun t => (t.chan 1).st == .tripped) = true := by decide +kernel

/-- 13 R435, R438: 40 steps of 0.5 dB are a tenth, and 10 W into 4 Ω has a peak of 8.944271 V. -/
theorem test_audio_levels : gainOf 40 = 2 ^ 24 / 10 ∧ (up.setEnt 0x6400 6 10).peakSet = 8944271 := by decide +kernel

/-- 13, worked example: 20 ms after the run was accepted, a belt that moves opposite to the target is braked. -/
theorem test_belt_brakes :
    after (Sys2Proof.Machine.execObservationEnd (((beltUp .observing).setEnt 0x6200 3 250).onBelt (fun b => { b with
        speed := -60000, hallSpeed := -60000 })))
      (fun t => t.belt.st == .braking && t.ent 0x6200 0x19 == 1) = true := by decide +kernel

/-- 14, worked example: SLS_LIMIT_MMS 100 gives a cap of 90 mm/s in DEGRADED. -/
theorem test_sls_cap :
    (up.onIsland (fun i => { i with st := .degraded, cfg := some { aCfg with slsLimit := 100 } })).slsCapNow = 90 := by decide +kernel

/-! ### The queue and reset -/

/-- On an empty queue the clock ticks. -/
theorem test_step_ticks : step State.reset = .next State.reset.tick := by rfl

/-- A command at the front leaves the queue. -/
theorem test_step_takes_the_front :
    after (step { up with pending := [.watchdogKick 0, .sync] }) (fun t => t.pending == [.sync] && t.boot.kickError) = true := by
  decide +kernel

/-- The table spells no command by a word. -/
theorem test_no_word : decodeTableWord 8 0 = none := by rfl

/-- 17: what reset leaves. -/
theorem test_reset :
    State.reset.boot.st = .booting ∧ State.reset.comm.nmt = .initialisation ∧ State.reset.beat.number = 0 ∧ State.reset.pending = [] := by
  decide

/-! ### Witnesses: the hypotheses of each clause of each obligation, met together -/

theorem witness_StepRunsTheFrontCommand :
    ∃ (c : Instr) (s : State) (rest : List Instr),
      s.pending = c :: rest :=
  ⟨.beatBoundary, { up with pending := [.beatBoundary] }, [], by decide +kernel⟩

theorem witness_EmptyQueuePassesOneMicrosecond :
    ∃ (s : State),
      s.pending = [] :=
  ⟨up, by decide +kernel⟩

theorem witness_TrellisLinks :
    (∃ (t : Fin 4) (l : Fin 4) (s : State),
      s.linkUp t l = true) ∧
    (∃ (flit : Nat) (x : TLink),
      x.flit = flit) ∧
    (∃ (flit : Nat) (x : TLink),
      x.flit ≠ flit) ∧
    (∃ (t : Fin 4) (l : Fin 4) (s : State),
      s.linkUp t l = true ∧ (s.tlink t l).replays = 16 ∧ (s.tlink t l).failed = false) ∧
    (∃ (t : Fin 4) (l : Fin 4) (s : State),
      s.linkUp t l = true ∧ (s.tlink t l).failed = true) :=
  ⟨⟨3, 3, up, by decide +kernel⟩,
   ⟨5, { flit := 5, replays := 16 }, by decide +kernel⟩,
   ⟨5, { flit := 4, replays := 16 }, by decide +kernel⟩,
   ⟨0, 3, up.onLink 0 3 (fun x => { x with replays := 16 }), by decide +kernel⟩,
   ⟨0, 3, up.onLink 0 3 (fun x => { x with replays := 16, failed := true }), by decide +kernel⟩⟩

theorem witness_CantorLoadsAndStores :
    (∃ (c : Fin 8) (addr : Addr) (size : Fin 4) (upset : Upset) (s : State) (u : State),
      s.cantorUp c = true ∧ s.isLocal addr.toNat = true ∧ s.rangeKind .cantor false (offsetOf addr.toNat) (2 ^ size.val) = none ∧ areaOf (offsetOf addr.toNat) ≠ .pages ∧ (∀ k, areaOf (offsetOf addr.toNat) ≠ .window k) ∧ u = (if s.reachesMemory (offsetOf addr.toNat) = true then s.upset upset (offsetOf addr.toNat) else s) ∧ u.cantorBadLine (offsetOf addr.toNat) (2 ^ size.val) = none) ∧
    (∃ (k : Nat) (c : Fin 8) (addr : Addr) (size : Fin 4) (s : State),
      s.cantorUp c = true ∧ s.isLocal addr.toNat = true ∧ s.rangeKind .cantor false (offsetOf addr.toNat) (2 ^ size.val) = none ∧ areaOf (offsetOf addr.toNat) = .window k) ∧
    (∃ (c : Fin 8) (addr : Addr) (size : Fin 4) (s : State),
      s.cantorUp c = true ∧ s.isLocal addr.toNat = true ∧ s.rangeKind .cantor false (offsetOf addr.toNat) (2 ^ size.val) = none ∧ areaOf (offsetOf addr.toNat) = .pages) ∧
    (∃ (c : Fin 8) (addr : Addr) (size : Fin 4) (k : Nat) (b : Nat) (s : State),
      s.cantorUp c = true ∧ s.isLocal addr.toNat = true ∧ s.rangeKind .cantor false (offsetOf addr.toNat) (2 ^ size.val) = some (k, b)) ∧
    (∃ (c : Fin 8) (addr : Addr) (s : State),
      s.cantorUp c = true ∧ s.isLocal addr.toNat = false ∧ s.reachable (packageOf addr.toNat) = true) ∧
    (∃ (c : Fin 8) (addr : Addr) (size : Fin 4) (s : State),
      s.cantorUp c = true ∧ s.isLocal addr.toNat = true ∧ s.rangeKind .cantor true (offsetOf addr.toNat) (2 ^ size.val) = none ∧ areaOf (offsetOf addr.toNat) ≠ .pages ∧ (∀ k, areaOf (offsetOf addr.toNat) ≠ .window k) ∧ s.cantorBadLine (offsetOf addr.toNat) (2 ^ size.val) = none) ∧
    (∃ (k : Nat) (c : Fin 8) (addr : Addr) (size : Fin 4) (s : State),
      s.cantorUp c = true ∧ s.isLocal addr.toNat = true ∧ s.rangeKind .cantor true (offsetOf addr.toNat) (2 ^ size.val) = none ∧ areaOf (offsetOf addr.toNat) = .window k) ∧
    (∃ (c : Fin 8) (addr : Addr) (size : Fin 4) (s : State),
      s.cantorUp c = true ∧ s.isLocal addr.toNat = true ∧ s.rangeKind .cantor true (offsetOf addr.toNat) (2 ^ size.val) = none ∧ areaOf (offsetOf addr.toNat) = .pages) ∧
    (∃ (c : Fin 8) (addr : Addr) (size : Fin 4) (k : Nat) (b : Nat) (s : State),
      s.cantorUp c = true ∧ s.isLocal addr.toNat = true ∧ s.rangeKind .cantor true (offsetOf addr.toNat) (2 ^ size.val) = some (k, b)) ∧
    (∃ (c : Fin 8) (addr : Addr) (s : State),
      s.cantorUp c = true ∧ s.isLocal addr.toNat = false ∧ s.reachable (packageOf addr.toNat) = true) ∧
    (∃ (c : Fin 8) (addr : Addr) (s : State),
      s.cantorUp c = true ∧ s.isLocal addr.toNat = false ∧ s.reachable (packageOf addr.toNat) = false) :=
  ⟨⟨7, 0x407FFFFF, 0, .one, up, up.eccCorrect 0x407FFFFF, by decide +kernel, by decide +kernel, by decide +kernel, by decide +kernel, (by intro k h; cases h), by decide +kernel, by decide +kernel⟩,
   ⟨255, 7, 0x83FEFFFC, 2, up, by decide +kernel⟩,
   ⟨7, 0x10000000, 2, up, by decide +kernel⟩,
   ⟨7, 0x407FFFFF, 1, 1, 0x40800000, up, by decide +kernel⟩,
   ⟨7, 0x300040000000, choirUp .precentor 0, by decide +kernel⟩,
   ⟨7, 0x407FFFFC, 2, up, by decide +kernel, by decide +kernel, by decide +kernel, by decide +kernel, (by intro k h; cases h), by decide +kernel⟩,
   ⟨255, 7, 0x83FEFFFC, 2, coreUp 255 { st := .loading }, by decide +kernel⟩,
   ⟨7, 0x10000000, 2, up, by decide +kernel⟩,
   ⟨7, 0x407FFFFF, 1, 1, 0x40800000, up, by decide +kernel⟩,
   ⟨7, 0x300040000000, choirUp .precentor 0, by decide +kernel⟩,
   ⟨7, 0x300040000000, up, by decide +kernel⟩⟩

theorem witness_FirstAccessErrorIsCaptured :
    (∃ (s : State),
      s.memu.errValid = false) ∧
    (∃ (s : State),
      s.memu.errValid = true) :=
  ⟨⟨up, by decide +kernel⟩,
   ⟨up.accessError 7 1 4, by decide +kernel⟩⟩

theorem witness_AtomicsActOnTheLine :
    (∃ (c : Fin 8) (addr : Addr) (dbl : Bool) (s : State),
      s.cantorUp c = true ∧ s.atomicGuard c addr.toNat (atomSize dbl) = none) ∧
    (∃ (c : Fin 8) (addr : Addr) (dbl : Bool) (s : State),
      s.cantorUp c = true ∧ s.atomicGuard c addr.toNat (atomSize dbl) = none ∧ tabGet none (s.own c true (offsetOf addr.toNat / 64)).memu.reservation c = some (offsetOf addr.toNat / 64)) ∧
    (∃ (c : Fin 8) (addr : Addr) (dbl : Bool) (s : State),
      s.cantorUp c = true ∧ s.atomicGuard c addr.toNat (atomSize dbl) = none ∧ tabGet none (s.own c true (offsetOf addr.toNat / 64)).memu.reservation c ≠ some (offsetOf addr.toNat / 64)) ∧
    (∃ (c : Fin 8) (addr : Addr) (dbl : Bool) (s : State),
      s.cantorUp c = true ∧ s.atomicGuard c addr.toNat (atomSize dbl) = none) ∧
    (∃ (c : Fin 8) (addr : Addr) (dbl : Bool) (s : State),
      s.cantorUp c = true ∧ s.atomicOk addr.toNat (atomSize dbl) = false) :=
  ⟨⟨7, 0x407FFFFC, false, up, by decide +kernel⟩,
   ⟨7, 0x407FFFFC, false, up.reserve 7 (some 0x101FFFF), by decide +kernel⟩,
   ⟨7, 0x407FFFFC, false, up, by decide +kernel⟩,
   ⟨0, 0x407FFFF8, true, up, by decide +kernel⟩,
   ⟨0, 0x407FFFF4, true, up, by decide +kernel⟩⟩

theorem witness_FencesMakeStoresVisible :
    (∃ (c : Fin 8) (s : State),
      s.cantorUp c = true) ∧
    (∃ (c : Fin 8) (w : BitVec 32) (s : State),
      s.cantorUp c = true ∧ fenceScope w.toNat = some 0) ∧
    (∃ (c : Fin 8) (w : BitVec 32) (s : State),
      s.cantorUp c = true ∧ fenceScope w.toNat = some 1) ∧
    (∃ (c : Fin 8) (w : BitVec 32) (s : State),
      s.cantorUp c = true ∧ fenceScope w.toNat = some 2) ∧
    (∃ (c : Fin 8) (w : BitVec 32) (s : State),
      s.cantorUp c = true ∧ fenceScope w.toNat = none) ∧
    (∃ (f : FenceWait) (s : State),
      s.fenceMet f = true) ∧
    (∃ (f : FenceWait) (s : State),
      s.fenceMet f = false) :=
  ⟨⟨7, up, by decide +kernel⟩,
   ⟨7, 0x0000000B, up, by decide +kernel⟩,
   ⟨7, 0x00001F8B, up, by decide +kernel⟩,
   ⟨7, 0x0000208B, up, by decide +kernel⟩,
   ⟨7, 5, up, by decide +kernel⟩,
   ⟨⟨7, true, none⟩, up, by decide +kernel⟩,
   ⟨⟨7, true, some 31⟩, up.onMem (fun m => { m with remote := [⟨65535, .cantorStore 7, 0x40000000, 8, 3, 0⟩] }), by decide +kernel⟩⟩

theorem witness_DirectoryRequests :
    (∃ (line : Nat) (s : State),
      cacheable (line * 64) = true ∧ (s.dirLine line).st ≠ .wbPending) ∧
    (∃ (line : Nat) (s : State),
      lockable (line * 64) = true ∧ (s.dirLine line).st ≠ .wbPending) ∧
    (∃ (line : Nat) (s : State),
      cacheable (line * 64) = true ∧ (s.dirLine line).st = .wbPending ∧ s.hasLinePlace line = true) ∧
    (∃ (line : Nat) (s : State),
      lockable (line * 64) = true ∧ (s.dirLine line).st = .wbPending ∧ s.hasLinePlace line = true) ∧
    (∃ (line : Nat) (s : State),
      (s.dirLine line).st = .s) ∧
    (∃ (line : Nat) (s : State),
      (s.dirLine line).st = .e) ∧
    (∃ (c : Fin 8) (line : Nat) (s : State),
      (s.dirLine line).st = .m ∧ (s.dirLine line).holders.contains (c : Nat) = true) ∧
    (∃ (line : Nat) (s : State),
      (s.dirLine line).st = .wbPending) :=
  ⟨⟨0, up, by decide +kernel⟩,
   ⟨0x101FFFF, up, by decide +kernel⟩,
   ⟨0x101FFFF, up.onDir 0x101FFFF (fun _ => ⟨.wbPending, [7], []⟩), by decide +kernel⟩,
   ⟨0x101FFFF, up.onDir 0x101FFFF (fun _ => ⟨.wbPending, [7], []⟩), by decide +kernel⟩,
   ⟨0x1000000, up.onDir 0x1000000 (fun _ => ⟨.s, [7], []⟩), by decide +kernel⟩,
   ⟨0x1000000, up.onDir 0x1000000 (fun _ => ⟨.e, [7], []⟩), by decide +kernel⟩,
   ⟨7, 0x1000000, up.onDir 0x1000000 (fun _ => ⟨.m, [7], []⟩), by decide +kernel⟩,
   ⟨0x1000000, up.onDir 0x1000000 (fun _ => ⟨.wbPending, [], [⟨7, true, 0⟩]⟩), by decide +kernel⟩⟩

theorem witness_NonCantorAccesses :
    (∃ (req : Nat) (addr : Addr) (len : Nat) (upset : Upset) (s : State),
      ¬ (s.isLocal addr.toNat = false ∧ ¬ (req < 0x28 ∧ 0x20 ≤ req ∧ packageOf addr.toNat = 0)) ∧ s.rangeKind (reqOf req) false (offsetOf addr.toNat) len = none ∧ (s.upset upset (offsetOf addr.toNat)).badLine (offsetOf addr.toNat) len = none) ∧
    (∃ (req : Nat) (addr : Addr) (len : Nat) (b : Nat) (upset : Upset) (s : State),
      ¬ (s.isLocal addr.toNat = false ∧ ¬ (req < 0x28 ∧ 0x20 ≤ req ∧ packageOf addr.toNat = 0)) ∧ s.rangeKind (reqOf req) false (offsetOf addr.toNat) len = none ∧ (s.upset upset (offsetOf addr.toNat)).badLine (offsetOf addr.toNat) len = some b) ∧
    (∃ (req : Nat) (addr : Addr) (data : List Byte) (s : State),
      ¬ (s.isLocal addr.toNat = false ∧ ¬ (req < 0x28 ∧ 0x20 ≤ req ∧ packageOf addr.toNat = 0)) ∧ s.rangeKind (reqOf req) true (offsetOf addr.toNat) data.length = none) ∧
    (∃ (a : Nat) (data : List Byte) (s : State),
      1 ≤ data.length ∧ a % 64 + data.length ≤ 64 ∧ tabGet none s.memu.cluster (a / 64) = none ∧ (s.dirLine (a / 64)).st ≠ .wbPending) ∧
    (∃ (a : Nat) (data : List Byte) (s : State),
      1 ≤ data.length ∧ a % 64 + data.length ≤ 64 ∧ tabGet none s.memu.cluster (a / 64) = none ∧ (s.dirLine (a / 64)).st ≠ .wbPending) ∧
    (∃ (req : Nat) (addr : Addr) (data : List Byte) (s : State) (k : Nat) (b : Nat),
      ¬ (s.isLocal addr.toNat = false ∧ ¬ (req < 0x28 ∧ 0x20 ≤ req ∧ packageOf addr.toNat = 0)) ∧ s.rangeKind (reqOf req) true (offsetOf addr.toNat) data.length = some (k, b)) ∧
    (∃ (req : Nat) (addr : Addr) (len : Nat) (s : State) (k : Nat) (b : Nat),
      ¬ (s.isLocal addr.toNat = false ∧ ¬ (req < 0x28 ∧ 0x20 ≤ req ∧ packageOf addr.toNat = 0)) ∧ s.rangeKind (reqOf req) false (offsetOf addr.toNat) len = some (k, b)) ∧
    (∃ (req : Nat) (addr : Addr) (s : State),
      s.isLocal addr.toNat = false ∧ ¬ (req < 0x28 ∧ 0x20 ≤ req ∧ packageOf addr.toNat = 0)) :=
  ⟨⟨0x10, 0x407FFFFF, 1, .one, up, by decide +kernel⟩,
   ⟨0x10, 0x407FFFFF, 1, 0x407FFFFF, .two, up, by decide +kernel⟩,
   ⟨0x30, 0x407FFFFF, [1], up, by decide +kernel⟩,
   ⟨0x30, [1], up, by decide +kernel⟩,
   ⟨0x30, [1], up, by decide +kernel⟩,
   ⟨0x10, 0x10000, [1], up, 1, 0x10000, by decide +kernel⟩,
   ⟨0x10, 0x407FFFFF, 2, up, 1, 0x40800000, by decide +kernel⟩,
   ⟨0x10, 0x300040000000, up, by decide +kernel⟩⟩

theorem witness_RegisterWritesReachTheirPage :
    (∃ (c : Fin 8) (page : Nat) (s : State),
      s.cantorUp c = true ∧ pageAssigned page = true) ∧
    (∃ (c : Fin 8) (page : Nat) (s : State),
      s.cantorUp c = true ∧ pageAssigned page = false) ∧
    (∃ (p : Nat) (s : State),
      s.pageUp p = false) ∧
    (∃ (s : State),
      s.pageUp 1 = true) ∧
    (∃ (s : State),
      s.pageUp 2 = true) ∧
    (∃ (s : State),
      s.pageUp 3 = true) ∧
    (∃ (s : State),
      s.pageUp 4 = true) ∧
    (∃ (p : Nat) (s : State),
      0x10 ≤ p ∧ p ≤ 0x13 ∧ s.pageUp p = true) ∧
    (∃ (p : Nat) (s : State),
      0x20 ≤ p ∧ p ≤ 0x23 ∧ s.pageUp p = true) ∧
    (∃ (s : State),
      s.pageUp 0x14 = true) ∧
    (∃ (s : State),
      s.pageUp 0x18 = true) ∧
    (∃ (s : State),
      s.pageUp 0x1C = true) :=
  ⟨⟨7, 0x30, up, by decide +kernel⟩,
   ⟨7, 0x31, up, by decide +kernel⟩,
   ⟨0x31, up, by decide +kernel⟩,
   ⟨up, by decide +kernel⟩,
   ⟨up, by decide +kernel⟩,
   ⟨up, by decide +kernel⟩,
   ⟨up, by decide +kernel⟩,
   ⟨0x13, up, by decide +kernel⟩,
   ⟨0x23, up, by decide +kernel⟩,
   ⟨up, by decide +kernel⟩,
   ⟨up, by decide +kernel⟩,
   ⟨up, by decide +kernel⟩⟩

theorem witness_BeatBoundaryStartsTheNextBeat :
    (∃ (s : State),
      s.power.st ≠ .off) ∧
    (∃ (s : State),
      s.power.st ≠ .off ∧ s.boot.st = .running) ∧
    (∃ (s : State),
      s.power.st ≠ .off ∧ s.boot.st ≠ .running) :=
  ⟨⟨up, by decide +kernel⟩,
   ⟨up, by decide +kernel⟩,
   ⟨State.reset, by decide +kernel⟩⟩

theorem witness_TimeReadsAndSyncOut :
    ∃ (s : State),
      s.beat.syncOut = true :=
  ⟨up.onBeat (fun b => { b with syncOut := true, syncOutFall := 500 }), by decide +kernel⟩

theorem witness_IngestWindowAndStages :
    (∃ (s : State),
      s.beat.closing < s.beat.number) ∧
    (∃ (w : BeatWork) (s : State),
      s.voiceFront = some w ∧ w.voice = .waiting ∧ w.closed = true ∧ s.ingestDrained w.beat = true ∧ s.beat.hardHalt = false) ∧
    (∃ (w : BeatWork) (s : State),
      s.voiceRunning = some w ∧ w.rank + 1 < s.fabric.rankCount ∧ s.rankQuiet w.beat w.rank = true ∧ s.beat.hardHalt = false ∧ s.isGranted w.beat (some w.rank) = true) ∧
    (∃ (w : BeatWork) (s : State),
      s.voiceRunning = some w ∧ w.rank + 1 < s.fabric.rankCount ∧ s.rankQuiet w.beat w.rank = true ∧ s.beat.hardHalt = false ∧ s.isGranted w.beat (some w.rank) = false ∧ s.choir.ownReport = none ∧ (s.sendReport w.beat (some w.rank)).isGranted w.beat (some w.rank) = false) ∧
    (∃ (w : BeatWork) (s : State),
      s.voiceRunning = some w ∧ s.fabric.rankCount ≤ w.rank + 1 ∧ s.rankQuiet w.beat w.rank = true ∧ s.stageQuiet w.beat = true ∧ s.beat.hardHalt = false ∧ s.isGranted w.beat none = true) ∧
    (∃ (w : BeatWork) (s : State),
      s.voiceRunning = some w ∧ s.fabric.rankCount ≤ w.rank + 1 ∧ s.rankQuiet w.beat w.rank = true ∧ s.stageQuiet w.beat = true ∧ s.beat.hardHalt = false ∧ s.isGranted w.beat none = false ∧ s.choir.ownReport = none ∧ (s.sendReport w.beat none).isGranted w.beat none = false) ∧
    (∃ (s : State),
      s.ingestDue = true) :=
  ⟨⟨up.onBeat (fun b => { b with number := 1 }), by decide +kernel⟩,
   ⟨w1, work1, by decide +kernel⟩,
   ⟨{ w1 with voice := .running }, (up.onBeat (fun b => { b with number := 2, work := [{ w1 with voice := .running }] })).onFabric (fun f => { f with rankCount := 2 }), by decide +kernel⟩,
   ⟨{ w1 with voice := .running }, ((choirUp .follower 3).onBeat (fun b => { b with number := 2, work := [{ w1 with voice := .running }] })).onFabric (fun f => { f with rankCount := 2 }), by decide +kernel⟩,
   ⟨{ w1 with voice := .running }, up.onBeat (fun b => { b with number := 2, work := [{ w1 with voice := .running }] }), by decide +kernel⟩,
   ⟨{ w1 with voice := .running }, (choirUp .follower 3).onBeat (fun b => { b with number := 2, work := [{ w1 with voice := .running }] }), by decide +kernel⟩,
   ⟨((up.onBeat (fun b => { b with number := 256, start := 256000, ingestWanted := some 255999 })).setNow 256000).onNvm (fun v => { v with activeSlot := some 1 }), by decide +kernel⟩⟩

theorem witness_DeadlinesUnderHoldAndShed :
    (∃ (w : BeatWork) (s : State),
      s.voiceFront = some w ∧ w.beat + 2 ≤ s.beat.number ∧ s.beat.hardHalt = false ∧ s.beat.voiceShedding = false) ∧
    (∃ (w : BeatWork) (s : State),
      s.voiceFront = some w ∧ w.beat + 2 ≤ s.beat.number ∧ s.beat.hardHalt = false ∧ s.beat.voiceShedding = true) ∧
    (∃ (w : BeatWork) (l : List BeatWork) (s : State),
      s.pressOverdue = w :: l ∧ s.beat.hardHalt = false ∧ s.beat.pressShedding = false) ∧
    (∃ (w : BeatWork) (l : List BeatWork) (s : State),
      s.pressOverdue = w :: l ∧ s.beat.hardHalt = false ∧ s.beat.pressShedding = true) ∧
    (∃ (w : BeatWork) (s : State),
      s.voiceFront = some w ∧ s.beat.voiceShedding = true ∧ w.beat + 2 ≤ s.beat.number + 1 ∧ s.beat.hardHalt = false) ∧
    (∃ (s : State),
      s.beat.voiceRaised = true ∧ 16 ≤ s.beat.voiceMet) ∧
    (∃ (s : State),
      s.beat.pressRaised = true ∧ 16 ≤ s.beat.pressMet) :=
  ⟨⟨w1, work1.onBeat (fun b => { b with number := 3 }), by decide +kernel⟩,
   ⟨w1, work1.onBeat (fun b => { b with number := 3, voiceShedding := true }), by decide +kernel⟩,
   ⟨w1, [], work1.onBeat (fun b => { b with number := 4 }), by decide +kernel⟩,
   ⟨w1, [], work1.onBeat (fun b => { b with number := 4, pressShedding := true }), by decide +kernel⟩,
   ⟨w1, work1.onBeat (fun b => { b with voiceShedding := true }), by decide +kernel⟩,
   ⟨up.onBeat (fun b => { b with voiceRaised := true, voiceMet := 16 }), by decide +kernel⟩,
   ⟨up.onBeat (fun b => { b with pressRaised := true, pressMet := 16 }), by decide +kernel⟩⟩

theorem witness_SyncInTracker :
    (∃ (s : State),
      s.beat.source = .syncIn) ∧
    (∃ (s : State),
      s.beat.source ≠ .syncIn) ∧
    (∃ (s : State),
      s.beat.source = .syncIn ∧ s.beat.holdStart = none ∧ s.beat.refEdge = none) ∧
    (∃ (stamp : Nat) (r : Nat) (s : State),
      s.beat.source = .syncIn ∧ s.beat.holdStart = none ∧ s.beat.refEdge = some r ∧ 2 * (stamp - r) < s.beat.tracked) ∧
    (∃ (s : State),
      s.beat.source = .syncIn) ∧
    (∃ (stamp : Nat) (r : Nat) (s : State),
      s.beat.source = .syncIn ∧ s.beat.holdStart = none ∧ s.beat.refEdge = some r ∧ s.beat.tracker = .locked ∧ s.beat.tracked ≤ 2 * (stamp - r) ∧ inTolerance s.beat.tracked (stamp - r) = true ∧ s.beat.meanRun.length ≤ 8) ∧
    (∃ (r : Nat) (s : State),
      s.beat.refEdge = some r ∧ s.beat.tracker = .locked) ∧
    (∃ (l : Nat) (s : State),
      s.limitAt = some l) ∧
    (∃ (l : Nat) (s : State),
      s.limitAt = none ∧ s.choirLimitAt = some l ∧ s.choir.role = .follower ∧ s.choir.beat = .holdover) :=
  ⟨⟨tracked, by decide +kernel⟩,
   ⟨up, by decide +kernel⟩,
   ⟨tracked.onBeat (fun b => { b with refEdge := none }), by decide +kernel⟩,
   ⟨499, 0, tracked, by decide +kernel⟩,
   ⟨tracked.onBeat (fun b => { b with refEdge := none }), by decide +kernel⟩,
   ⟨1020, 0, tracked, by decide +kernel⟩,
   ⟨0, tracked, by decide +kernel⟩,
   ⟨2000000, tracked.onBeat (fun b => { b with holdStart := some 0 }), by decide +kernel⟩,
   ⟨2000000, (choirUp .follower 3).onChoir (fun c => { c with beat := .holdover, holdStart := some 0, limit := 2000 }), by decide +kernel⟩⟩

theorem witness_SdoDownloads :
    (∃ (idx : Nat) (sub : Nat) (data : List Byte) (s : State) (u : State) (code : Nat),
      s.sdoServed = true ∧ s.comm.sdo = .idle ∧ idx ≠ 0x2500 ∧ s.writeEntry idx sub (data.take 4) .sdo = (some code, u)) ∧
    (∃ (idx : Nat) (sub : Nat) (data : List Byte) (s : State) (u : State),
      s.sdoServed = true ∧ s.comm.sdo = .idle ∧ s.writeEntry idx sub (data.take 4) .sdo = (none, u)) ∧
    (∃ (s : State),
      s.sdoServed = true ∧ s.comm.sdo = .idle) ∧
    (∃ (i : Nat) (b : Nat) (at' : Nat) (got : List Byte) (tog : Bool) (s : State),
      s.sdoServed = true ∧ s.comm.sdo = .download i b got tog at') ∧
    (∃ (i : Nat) (b : Nat) (at' : Nat) (got : List Byte) (data : List Byte) (tog : Bool) (s : State) (u : State) (code : Nat),
      s.sdoServed = true ∧ s.comm.sdo = .download i b got tog at' ∧ i ≠ 0x2500 ∧ State.writeEntry i b (got ++ data.take 7) .sdo { s with comm := { s.comm with sdo := .idle } } = (some code, u)) ∧
    (∃ (i : Nat) (b : Nat) (at' : Nat) (got : List Byte) (tog : Bool) (s : State),
      s.sdoServed = true ∧ s.comm.sdo = .download i b got tog at') :=
  ⟨⟨0x1017, 0, [1, 0], up, (up.writeEntry 0x1017 0 [1, 0] .sdo).2, 0, by decide +kernel⟩,
   ⟨0x1010, 1, leBytes 4 0x65766173, up, (up.writeEntry 0x1010 1 (leBytes 4 0x65766173) .sdo).2, by decide +kernel, by decide +kernel, Prod.ext (by decide +kernel) rfl⟩,
   ⟨up, by decide +kernel⟩,
   ⟨0x1017, 0, 0, [], true, up.setSdo (.download 0x1017 0 [] true 0), by decide +kernel⟩,
   ⟨0x1017, 0, 0, [], [1, 0], true, up.setSdo (.download 0x1017 0 [] true 0), (up.writeEntry 0x1017 0 [1, 0] .sdo).2, 0, by decide +kernel⟩,
   ⟨0x1017, 0, 0, [], true, up.setSdo (.download 0x1017 0 [] true 0), by decide +kernel⟩⟩

theorem witness_SdoUploadsAndEnds :
    (∃ (idx : Nat) (sub : Nat) (s : State) (u : State) (ty : Ty) (l : List Byte),
      s.sdoServed = true ∧ s.comm.sdo = .idle ∧ s.readEntry idx sub = ((0, ty, l), u) ∧ l.length ≤ 4) ∧
    (∃ (idx : Nat) (sub : Nat) (s : State) (u : State) (ty : Ty) (l : List Byte),
      s.sdoServed = true ∧ s.comm.sdo = .idle ∧ s.readEntry idx sub = ((0, ty, l), u) ∧ 4 < l.length) ∧
    (∃ (idx : Nat) (sub : Nat) (code : Nat) (s : State) (u : State) (ty : Ty) (l : List Byte),
      s.sdoServed = true ∧ s.comm.sdo = .idle ∧ code ≠ 0 ∧ s.readEntry idx sub = ((code, ty, l), u)) ∧
    (∃ (i : Nat) (b : Nat) (at' : Nat) (rest : List Byte) (tog : Bool) (s : State),
      s.sdoServed = true ∧ s.comm.sdo = .upload i b rest tog at') ∧
    (∃ (i : Nat) (b : Nat) (at' : Nat) (rest : List Byte) (tog : Bool) (s : State),
      s.sdoServed = true ∧ s.comm.sdo = .upload i b rest tog at') ∧
    (∃ (s : State),
      s.sdoServed = true ∧ s.comm.sdo = .idle) ∧
    (∃ (s : State),
      s.sdoServed = true) ∧
    (∃ (s : State) (i : Nat) (b : Nat) (at' : Nat) (got : List Byte) (tog : Bool),
      s.sdoServed = true ∧ s.comm.sdo = .download i b got tog at') :=
  ⟨⟨0x1000, 0, up, up, .u32, leBytes 4 0, by decide +kernel⟩,
   ⟨0x1008, 0, up, up, .vstr, textBytes "ERV-1640", by decide +kernel⟩,
   ⟨0x1FFF, 0, 0x06020000, up, up, .u8, [], by decide +kernel⟩,
   ⟨0x1008, 0, 0, textBytes "ERV-1640", false, up.setSdo (.upload 0x1008 0 (textBytes "ERV-1640") false 0), by decide +kernel⟩,
   ⟨0x1008, 0, 0, textBytes "ERV-1640", false, up.setSdo (.upload 0x1008 0 (textBytes "ERV-1640") false 0), by decide +kernel⟩,
   ⟨up, by decide +kernel⟩,
   ⟨up, by decide +kernel⟩,
   ⟨up.setSdo (.download 0x1017 0 [] true 0), 0x1017, 0, 0, [], true, by decide +kernel⟩⟩

theorem witness_PdosAndSync :
    (∃ (n : Fin 16) (data : List Byte) (s : State),
      s.pdoServed = true ∧ s.pdoActive 0x1400 0x1600 n = true ∧ data.length < s.rpdoNeed n) ∧
    (∃ (n : Fin 16) (data : List Byte) (s : State),
      s.pdoServed = true ∧ s.pdoActive 0x1400 0x1600 n = true ∧ s.rpdoNeed n ≤ data.length ∧ s.ent (0x1400 + n) 2 ≤ 240) ∧
    (∃ (n : Fin 16) (data : List Byte) (s : State),
      s.pdoServed = true ∧ s.pdoActive 0x1400 0x1600 n = true ∧ s.rpdoNeed n ≤ data.length ∧ 240 < s.ent (0x1400 + n) 2 ∧ s.condOn 0x8250 0x2A n = false ∧ (⟨0x8250, 0x2A, n⟩ : Cond) ∉ s.comm.latent) ∧
    (∃ (n : Fin 16) (data : List Byte) (s : State),
      s.pdoServed = true ∧ s.pdoActive 0x1400 0x1600 n = true ∧ s.rpdoNeed n ≤ data.length ∧ 240 < ((s.onRpdo n (fun r => { r with lastGot := s.now })).endCond 0x8250 0x2A n).ent (0x1400 + n) 2) ∧
    (∃ (n : Fin 16) (s : State),
      s.pdoServed = true ∧ s.pdoActive 0x1400 0x1600 n = true ∧ s.ent (0x1400 + n) 5 ≠ 0 ∧ (s.rpdo n).lastGot ≠ 0) ∧
    (∃ (s : State),
      s.pdoServed = true ∧ (∀ n < 16, s.pdoActive 0x1800 0x1A00 n = false) ∧ (∀ n < 16, (s.rpdo n).waiting = none)) ∧
    (∃ (s : State),
      s.pdoServed = true) ∧
    (∃ (n : Fin 16) (s : State),
      s.pdoServed = true ∧ s.pdoActive 0x1800 0x1A00 n = true ∧ s.tpdoType n = 255 ∧ s.ent (0x1800 + n) 5 ≠ 0 ∧ (s.tpdo n).inhibitUntil ≤ s.now) ∧
    (∃ (n : Fin 16) (s : State),
      s.pdoServed = true ∧ s.pdoActive 0x1800 0x1A00 n = true ∧ s.tpdoType n = 255 ∧ s.ent (0x1800 + n) 5 ≠ 0) ∧
    (∃ (n : Fin 16) (d : List Byte) (s : State),
      s.pdoServed = true ∧ s.pdoActive 0x1800 0x1A00 n = true ∧ (s.tpdo n).held = some d) ∧
    (∃ (n : Fin 16) (d : List Byte) (s : State),
      s.pdoServed = true ∧ s.pdoActive 0x1800 0x1A00 n = true ∧ s.tpdoType n = 254 ∧ (s.tpdo n).held = some d) ∧
    (∃ (s : State),
      s.pdoServed = false) :=
  ⟨⟨15, [], rp15 240, by decide +kernel⟩,
   ⟨15, [1], rp15 240, by decide +kernel⟩,
   ⟨15, [1], rp15 255, by decide +kernel⟩,
   ⟨15, [1], rp15 241, by decide +kernel⟩,
   ⟨15, rp15 255, by decide +kernel⟩,
   ⟨up, by decide +kernel⟩,
   ⟨up, by decide +kernel⟩,
   ⟨15, tp15 255, by decide +kernel⟩,
   ⟨15, tp15 255, by decide +kernel⟩,
   ⟨15, [0], tp15 254, by decide +kernel⟩,
   ⟨15, [0], tp15 254, by decide +kernel⟩,
   ⟨preOp, by decide +kernel⟩⟩

theorem witness_NmtCommandsMoveTheNode :
    (∃ (s : State),
      s.canUp = true) ∧
    (∃ (s : State),
      s.canUp = true) ∧
    (∃ (s : State),
      s.canUp = true) ∧
    (∃ (s : State),
      s.canUp = true ∧ s.comm.nmt = .operational) ∧
    (∃ (s : State),
      s.canUp = true ∧ s.comm.nmt = .stopped) ∧
    (∃ (s : State),
      s.canUp = true) ∧
    (∃ (s : State),
      s.canUp = true) :=
  ⟨⟨preOp, by decide +kernel⟩,
   ⟨up, by decide +kernel⟩,
   ⟨up, by decide +kernel⟩,
   ⟨up, by decide +kernel⟩,
   ⟨up.onComm (fun c => { c with nmt := .stopped }), by decide +kernel⟩,
   ⟨up, by decide +kernel⟩,
   ⟨up, by decide +kernel⟩⟩

theorem witness_HeartbeatsAndLss :
    (∃ (s : State),
      s.canUp = true ∧ s.ent 0x1017 0 ≠ 0) ∧
    (∃ (node : Nat) (i : Fin 4) (s : State),
      s.canUp = true ∧ (s.monitors i).1 = node ∧ (s.monitors i).2 ≠ 0) ∧
    (∃ (i : Fin 4) (e : Nat × Nat) (s : State),
      s.canUp = true ∧ (s.monitors i).2 ≠ 0 ∧ s.comm.hbSeen.find? (fun e => decide (e.1 = (s.monitors i).1)) = some e) ∧
    (∃ (s : State),
      s.boot.st = .running) ∧
    (∃ (s : State),
      s.boot.st = .running ∧ s.comm.node ≠ 0xFF) ∧
    (∃ (s : State),
      s.boot.st = .running) ∧
    (∃ (s : State),
      s.comm.lss.config = true ∧ s.comm.node = 0xFF ∧ s.comm.lss.pendingNode ≠ 0xFF) ∧
    (∃ (id : LssId) (s : State),
      s.boot.st = .running ∧ id.vendor.toNat = s.identity 0 ∧ id.product.toNat = s.identity 1 ∧ id.revision.toNat = s.identity 2 ∧ id.serial.toNat = s.identity 3) ∧
    (∃ (node : Nat) (s : State),
      s.boot.st = .running ∧ s.comm.lss.config = true ∧ 1 ≤ node ∧ node ≤ 127) ∧
    (∃ (node : Nat) (s : State),
      s.boot.st = .running ∧ s.comm.lss.config = true ∧ 127 < node ∧ node ≠ 0xFF) ∧
    (∃ (index : Nat) (r : Nat) (s : State),
      s.boot.st = .running ∧ s.comm.lss.config = true ∧ (index, r) ∈ [(0, 1000), (2, 500), (3, 250), (4, 125)]) ∧
    (∃ (s : State),
      s.boot.st = .running ∧ s.comm.lss.config = true) ∧
    (∃ (s : State),
      s.boot.st = .running ∧ s.comm.lss.config = true ∧ s.storing = false) ∧
    (∃ (s : State),
      s.boot.st = .running ∧ s.comm.lss.config = true) ∧
    (∃ (v : BitVec 32) (p : BitVec 32) (rl : BitVec 32) (rh : BitVec 32) (sl : BitVec 32) (sh : BitVec 32) (s : State),
      s.boot.st = .running ∧ v.toNat = s.identity 0 ∧ p.toNat = s.identity 1 ∧ rl.toNat ≤ s.identity 2 ∧ s.identity 2 ≤ rh.toNat ∧ sl.toNat ≤ s.identity 3 ∧ s.identity 3 ≤ sh.toNat) ∧
    (∃ (s : State),
      s.boot.st = .running ∧ s.comm.node = 0xFF) ∧
    (∃ (s : State),
      s.boot.st = .running ∧ s.comm.node = 0xFF ∧ s.comm.lss.config = false) ∧
    (∃ (idn : BitVec 32) (bc : Nat) (a : Fin 4) (s : State),
      s.boot.st = .running ∧ s.comm.node = 0xFF ∧ s.comm.lss.config = false ∧ a.val = s.comm.lss.fastscanSub ∧ 1 ≤ bc ∧ bc < 32 ∧ idn.toNat / 2 ^ bc = s.identity a / 2 ^ bc) ∧
    (∃ (idn : BitVec 32) (a : Fin 4) (s : State),
      s.boot.st = .running ∧ s.comm.node = 0xFF ∧ s.comm.lss.config = false ∧ a.val = s.comm.lss.fastscanSub ∧ idn.toNat = s.identity a) ∧
    (∃ (node : Nat) (s : State),
      s.boot.st = .running ∧ s.comm.lss.config = true ∧ node = 0xFF) ∧
    (∃ (s : State),
      s.comm.lss.config = false) :=
  ⟨⟨up.setEnt 0x1017 0 1, by decide +kernel⟩,
   ⟨5, 3, up.setEnt 0x1016 4 0x50001, by decide +kernel⟩,
   ⟨3, (5, 0), (up.setEnt 0x1016 4 0x50001).onComm (fun c => { c with hbSeen := [(5, 0)] }), by decide +kernel⟩,
   ⟨up, by decide +kernel⟩,
   ⟨up, by decide +kernel⟩,
   ⟨up, by decide +kernel⟩,
   ⟨noNode.onComm (fun c => { c with lss := { c.lss with config := true, pendingNode := 1 } }), by decide +kernel⟩,
   ⟨⟨0x4B5, BitVec.ofNat 32 (up.identity 1), BitVec.ofNat 32 (up.identity 2), BitVec.ofNat 32 Config.serial⟩, up, by decide +kernel, by decide +kernel, by decide +kernel, by decide +kernel, serial_word⟩,
   ⟨127, lssUp, by decide +kernel⟩,
   ⟨254, lssUp, by decide +kernel⟩,
   ⟨4, 125, lssUp, by decide +kernel⟩,
   ⟨lssUp, by decide +kernel⟩,
   ⟨lssUp, by decide +kernel⟩,
   ⟨lssUp, by decide +kernel⟩,
   ⟨0x4B5, BitVec.ofNat 32 (up.identity 1), 0, 0xFFFFFFFF, 0, 0xFFFFFFFF, up, by decide +kernel, by decide +kernel, by decide +kernel, by decide +kernel, by decide +kernel, Nat.zero_le _, serial_le⟩,
   ⟨noNode, by decide +kernel⟩,
   ⟨noNode, by decide +kernel⟩,
   ⟨0x4B5, 1, 0, noNode, by decide +kernel⟩,
   ⟨0x4B5, 0, noNode, by decide +kernel⟩,
   ⟨255, lssUp, by decide +kernel⟩,
   ⟨up, by decide +kernel⟩⟩

theorem witness_CanErrorsAndEmcy :
    (∃ (s : State),
      s.boot.st = .running) ∧
    (∃ (s : State),
      s.boot.st = .running) ∧
    (∃ (s : State),
      s.boot.st = .running) ∧
    (∃ (s : State),
      s.boot.st = .running) ∧
    (∃ (m : Emcy) (rest : List Emcy) (s : State),
      s.sdoServed = true ∧ s.comm.emcyQ = m :: rest) :=
  ⟨⟨up, by decide +kernel⟩,
   ⟨up, by decide +kernel⟩,
   ⟨up, by decide +kernel⟩,
   ⟨up, by decide +kernel⟩,
   ⟨⟨0x8110, 0x11, 0x2A, 0⟩, [], up.onComm (fun c => { c with emcyQ := [⟨0x8110, 0x11, 0x2A, 0⟩] }), by decide +kernel⟩⟩

theorem witness_StoresAndRestores :
    (∃ (s : State),
      s.boot.st = .running ∧ s.comm.nmt ≠ .stopped ∧ s.nvm.job = none) ∧
    (∃ (s : State),
      s.boot.st = .running ∧ s.comm.nmt ≠ .stopped ∧ s.nvm.job = none) ∧
    (∃ (sig : BitVec 32) (s : State),
      s.boot.st = .running ∧ s.comm.nmt ≠ .stopped ∧ sig ≠ 0x65766173) ∧
    (∃ (sig : BitVec 32) (s : State),
      s.boot.st = .running ∧ s.comm.nmt ≠ .stopped ∧ sig ≠ 0x64616F6C) ∧
    (∃ (s : State),
      s.boot.st = .running ∧ s.comm.nmt ≠ .stopped ∧ s.nvm.job ≠ none) ∧
    (∃ (s : State),
      s.boot.st = .running ∧ s.comm.nmt = .stopped) ∧
    (∃ (j : StoreJob) (s : State),
      s.nvm.job = some j ∧ j.fails = false) ∧
    (∃ (j : StoreJob) (r : StoreEnd) (s : State),
      s.nvm.job = some j ∧ (j.fails = true ∨ r ≠ .ok)) :=
  ⟨⟨up, by decide +kernel⟩,
   ⟨up, by decide +kernel⟩,
   ⟨0x65766172, up, by decide +kernel⟩,
   ⟨0, up, by decide +kernel⟩,
   ⟨storeUp, by decide +kernel⟩,
   ⟨stopUp, by decide +kernel⟩,
   ⟨aJob, storeUp, by decide +kernel⟩,
   ⟨aJob, .badCommit, storeUp, by decide +kernel⟩⟩

theorem witness_OapSessionsOpenAndClose :
    (∃ (h : OapHdr) (rights : Nat) (code : BitVec 32) (s : State),
      s.boot.st = .running ∧ hdrOk h 1 0 1 (openData rights code) = true ∧ s.choir.role ≠ .follower ∧ reqTargeted h = false) ∧
    (∃ (rights : Nat) (code : BitVec 32) (s : State),
      s.openCode rights code = 0) ∧
    (∃ (rights : Nat) (code : BitVec 32) (s : State),
      s.openCode rights code ≠ 0) ∧
    (∃ (h : OapHdr) (x : OapSession) (s : State),
      s.boot.st = .running ∧ hdrOk h 2 0 1 [] = true ∧ s.choir.role ≠ .follower ∧ s.session h.token = some x ∧ x.cache.find? (fun c => decide (c.seq = h.seq)) = none ∧ s.stillRuns x h.seq = false ∧ (behind x h.seq).getD 0 < 16 ∧ reqTargeted h = false) ∧
    (∃ (h : OapHdr) (x : OapSession) (s : State),
      s.boot.st = .running ∧ hdrOk h 3 0 1 [] = true ∧ s.choir.role ≠ .follower ∧ s.session h.token = some x ∧ x.cache.find? (fun c => decide (c.seq = h.seq)) = none ∧ s.stillRuns x h.seq = false ∧ (behind x h.seq).getD 0 < 16 ∧ reqTargeted h = false) ∧
    (∃ (h : OapHdr) (x : OapSession) (s : State),
      s.session h.token = some x) ∧
    (∃ (h : OapHdr) (s : State),
      s.boot.st = .running ∧ hdrOk h 3 0 1 [] = true ∧ s.choir.role ≠ .follower ∧ s.session h.token = none) ∧
    (∃ (h : OapHdr) (s : State),
      s.boot.st = .running ∧ hdrOk h 2 0 1 [] = true ∧ s.choir.role ≠ .follower ∧ s.session h.token = none) ∧
    (∃ (i : Fin 4) (x : OapSession) (s : State),
      s.oap.sessions[i.val]? = some x) ∧
    (∃ (code : Bool) (val : BitVec 32) (s : State),
      s.boot.st = .running ∧ s.comm.nmt ≠ .stopped ∧ s.writeCheck 0x2500 (if code then 8 else 7) val.toNat = 0) ∧
    (∃ (h : OapHdr) (s : State),
      s.boot.st = .running ∧ hdrOk h 3 0 1 [] = false) :=
  ⟨⟨hdr 1 (openData 1 0), 1, 0, up.setEnt 0x2500 7 1, by decide +kernel⟩,
   ⟨1, 0, up.setEnt 0x2500 7 1, by decide +kernel⟩,
   ⟨3, 0, up.setEnt 0x2500 7 1, by decide +kernel⟩,
   ⟨hdr 2 [], sess, sessUp, by decide +kernel⟩,
   ⟨hdr 3 [], sess, sessUp, by decide +kernel⟩,
   ⟨hdr 3 [], sess, sessUp, by decide +kernel⟩,
   ⟨hdr 3 [], up, by decide +kernel⟩,
   ⟨hdr 2 [], up, by decide +kernel⟩,
   ⟨0, sess, sessUp, by decide +kernel⟩,
   ⟨true, 0xFFFFFFFF, up, by decide +kernel⟩,
   ⟨{ hdr 3 [] with version := 2 }, up, by decide +kernel⟩⟩

theorem witness_OapAccessMessages :
    (∃ (h : OapHdr) (idx : Nat) (sub : Nat) (x : OapSession) (s : State),
      s.boot.st = .running ∧ hdrOk h 0x10 0 1 (refBytes [(idx, sub)]) = true ∧ s.choir.role ≠ .follower ∧ s.session h.token = some x ∧ x.cache.find? (fun c => decide (c.seq = h.seq)) = none ∧ s.stillRuns x h.seq = false ∧ (behind x h.seq).getD 0 < 16 ∧ reqTargeted h = false) ∧
    (∃ (h : OapHdr) (refs : List (Nat × Nat)) (x : OapSession) (s : State),
      s.boot.st = .running ∧ hdrOk h 0x12 0 1 (multiData refs) = true ∧ s.choir.role ≠ .follower ∧ s.session h.token = some x ∧ x.cache.find? (fun c => decide (c.seq = h.seq)) = none ∧ s.stillRuns x h.seq = false ∧ (behind x h.seq).getD 0 < 16 ∧ reqTargeted h = false) ∧
    (∃ (refs : List (Nat × Nat)),
      1 ≤ refs.length ∧ refs.length ≤ 64) ∧
    (∃ (h : OapHdr) (idx : Nat) (sub : Nat) (type : Nat) (data : List Byte) (x : OapSession) (s : State),
      s.boot.st = .running ∧ hdrOk h 0x11 0 1 (writeData idx sub type data) = true ∧ s.choir.role ≠ .follower ∧ s.session h.token = some x ∧ x.cache.find? (fun c => decide (c.seq = h.seq)) = none ∧ s.stillRuns x h.seq = false ∧ (behind x h.seq).getD 0 < 16 ∧ reqTargeted h = false ∧ x.write = false) ∧
    (∃ (h : OapHdr) (idx : Nat) (sub : Nat) (type : Nat) (code : Nat) (data : List Byte) (v : State) (x : OapSession) (s : State),
      s.boot.st = .running ∧ hdrOk h 0x11 0 1 (writeData idx sub type data) = true ∧ s.choir.role ≠ .follower ∧ s.session h.token = some x ∧ x.cache.find? (fun c => decide (c.seq = h.seq)) = none ∧ s.stillRuns x h.seq = false ∧ (behind x h.seq).getD 0 < 16 ∧ reqTargeted h = false ∧ x.write = true ∧ (s.seenBy h).serveWrite idx sub type data (.oap h.host h.token h.seq) = (some code, v)) ∧
    (∃ (h : OapHdr) (idx : Nat) (sub : Nat) (type : Nat) (data : List Byte) (v : State) (x : OapSession) (s : State),
      s.boot.st = .running ∧ hdrOk h 0x11 0 1 (writeData idx sub type data) = true ∧ s.choir.role ≠ .follower ∧ s.session h.token = some x ∧ x.cache.find? (fun c => decide (c.seq = h.seq)) = none ∧ s.stillRuns x h.seq = false ∧ (behind x h.seq).getD 0 < 16 ∧ reqTargeted h = false ∧ x.write = true ∧ (s.seenBy h).serveWrite idx sub type data (.oap h.host h.token h.seq) = (none, v)) ∧
    (∃ (h : OapHdr) (period : Nat) (refs : List (Nat × Nat)) (x : OapSession) (s : State),
      s.boot.st = .running ∧ hdrOk h 0x20 0 1 (subscribeData period refs) = true ∧ s.choir.role ≠ .follower ∧ s.session h.token = some x ∧ x.cache.find? (fun c => decide (c.seq = h.seq)) = none ∧ s.stillRuns x h.seq = false ∧ (behind x h.seq).getD 0 < 16 ∧ reqTargeted h = false) ∧
    (∃ (h : OapHdr) (refs : List (Nat × Nat)) (x : OapSession) (s : State),
      s.session h.token = some x ∧ 1 ≤ refs.length ∧ refs.length ≤ 32 ∧ x.subs.length < 8) ∧
    (∃ (h : OapHdr) (id : Fin 8) (x : OapSession) (s : State),
      s.boot.st = .running ∧ hdrOk h 0x21 0 1 (leBytes 1 id.val) = true ∧ s.choir.role ≠ .follower ∧ s.session h.token = some x ∧ x.cache.find? (fun c => decide (c.seq = h.seq)) = none ∧ s.stillRuns x h.seq = false ∧ (behind x h.seq).getD 0 < 16 ∧ reqTargeted h = false) ∧
    (∃ (h : OapHdr) (id : Nat) (x : OapSession) (u : OapSub) (s : State),
      s.session h.token = some x ∧ u ∈ x.subs ∧ u.id = id) ∧
    (∃ (h : OapHdr) (enable : Bool) (decimate : Nat) (x : OapSession) (s : State),
      s.boot.st = .running ∧ hdrOk h 0x30 0 1 (streamData enable decimate) = true ∧ s.choir.role ≠ .follower ∧ s.session h.token = some x ∧ x.cache.find? (fun c => decide (c.seq = h.seq)) = none ∧ s.stillRuns x h.seq = false ∧ (behind x h.seq).getD 0 < 16 ∧ reqTargeted h = false ∧ 1 ≤ decimate ∧ decimate ≤ 255) ∧
    (∃ (h : OapHdr) (type : Nat) (data : List Byte) (x : OapSession) (s : State),
      s.boot.st = .running ∧ hdrOk h type 0 1 data = true ∧ s.choir.role ≠ .follower ∧ s.session h.token = some x ∧ x.cache.find? (fun c => decide (c.seq = h.seq)) = none ∧ s.stillRuns x h.seq = false ∧ (behind x h.seq).getD 0 < 16 ∧ reqTargeted h = false ∧ neverAnswered type = false) ∧
    (∃ (h : OapHdr) (type : Nat) (data : List Byte) (s : State),
      s.boot.st = .running ∧ hdrOk h type 0 1 data = true ∧ s.choir.role ≠ .follower ∧ neverAnswered type = true) :=
  ⟨⟨hdr 0x10 (refBytes [(0x1000, 0)]), 0x1000, 0, sess, sessUp, by decide +kernel⟩,
   ⟨hdr 0x12 (multiData [(0x1000, 0)]), [(0x1000, 0)], sess, sessUp, by decide +kernel⟩,
   ⟨[(0x1000, 0)], by decide +kernel⟩,
   ⟨hdr 0x11 (writeData 0x1017 0 0 [1, 0]), 0x1017, 0, 0, [1, 0], { sess with write := false }, up.onOap (fun o => { o with sessions := [{ sess with write := false }] }), by decide +kernel⟩,
   ⟨hdr 0x11 (writeData 0x1017 0 0 [1, 0]), 0x1017, 0, 0, 0, [1, 0], (State.serveWrite 0x1017 0 0 [1, 0] (.oap 1 7 9) (sessUp.seenBy (hdr 0x11 (writeData 0x1017 0 0 [1, 0])))).2, sess, sessUp, by decide +kernel⟩,
   ⟨hdr 0x11 (writeData 0x1010 1 0 [0x73, 0x61, 0x76, 0x65]), 0x1010, 1, 0, [0x73, 0x61, 0x76, 0x65], (State.serveWrite 0x1010 1 0 [0x73, 0x61, 0x76, 0x65] (.oap 1 7 9) (sessUp.seenBy (hdr 0x11 (writeData 0x1010 1 0 [0x73, 0x61, 0x76, 0x65])))).2, sess, sessUp, by decide +kernel, hdrAs_ok _ _ _ _ (by decide +kernel), by decide +kernel, by decide +kernel, by decide +kernel, by decide +kernel, by decide +kernel, by decide +kernel, by decide +kernel, Prod.ext (by decide +kernel) rfl⟩,
   ⟨hdr 0x20 (subscribeData 0 (List.replicate 32 (0x1000, 0))), 0, List.replicate 32 (0x1000, 0), sess, sessUp, by decide +kernel, hdrAs_ok _ _ _ _ (by decide +kernel), by decide +kernel, by decide +kernel, by decide +kernel, by decide +kernel, by decide +kernel, by decide +kernel⟩,
   ⟨hdr 0x20 [], List.replicate 32 (0x1000, 0), sess, sessUp, by decide +kernel⟩,
   ⟨hdr 0x21 [7], 7, { sess with subs := [aSub] }, up.onOap (fun o => { o with sessions := [{ sess with subs := [aSub] }] }), by decide +kernel⟩,
   ⟨hdr 0x21 [7], 7, { sess with subs := [aSub] }, aSub, up.onOap (fun o => { o with sessions := [{ sess with subs := [aSub] }] }), by decide +kernel⟩,
   ⟨hdr 0x30 (streamData true 255), true, 255, sess, sessUp, by decide +kernel⟩,
   ⟨hdr 0x55 [1, 2], 0x55, [1, 2], sess, sessUp, by decide +kernel⟩,
   ⟨hdr 0x40 [1, 2], 0x40, [1, 2], sessUp, by decide +kernel⟩⟩

theorem witness_OapFragmentsAndDiscovery :
    (∃ (h : OapHdr) (type : Nat) (count : Nat) (data : List Byte) (s : State),
      s.boot.st = .running ∧ hdrOk h type 0 count data = true ∧ s.choir.role ≠ .follower ∧ 2 ≤ count ∧ count ≤ 64 ∧ data.length = 1368 ∧ (s.oap.frags.any (fun f => f.holds h type count)) = false) ∧
    (∃ (h : OapHdr) (type : Nat) (index : Nat) (count : Nat) (data : List Byte) (s : State),
      s.boot.st = .running ∧ hdrOk h type index count data = true ∧ s.choir.role ≠ .follower ∧ fragOk index count data.length = true) ∧
    (∃ (f : OapFrags) (rest : List OapFrags) (s : State),
      s.oap.frags = f :: rest) ∧
    (∃ (h : OapHdr) (s : State),
      s.boot.st = .running ∧ hdrOk h 0x41 0 1 [] = true ∧ s.choir.role ≠ .follower) ∧
    (∃ (host : Nat) (k : Nat × BitVec 32) (s : State),
      s.oap.discovers.find? (fun k => decide (k.1 = host)) = some k ∧ s.choir.role ≠ .follower) ∧
    (∃ (p : Fin 2) (addr : BitVec 32) (s : State),
      s.boot.st = .running ∧ s.addressOf p addr ≠ 0) ∧
    (∃ (p : Fin 2) (s : State),
      s.boot.st = .running ∧ s.takesV6 p = true) ∧
    (∃ (p : Fin 2) (s : State),
      s.boot.st = .running ∧ (s.announcer p).due ≠ 0) ∧
    (∃ (p : Nat) (s : State),
      s.choir.role ≠ .follower ∧ s.ent (ethIdx p) 5 ≠ 0 ∧ (s.announcer p).v6 = false) ∧
    (∃ (p : Nat) (s : State),
      s.choir.role ≠ .follower ∧ s.ent (ethIdx p) 5 = 0 ∧ (s.announcer p).v6 = true) ∧
    (∃ (s : State),
      s.boot.st = .running) :=
  ⟨⟨hdrAs 0x11 0 64 (List.replicate 1368 0), 0x11, 64, List.replicate 1368 0, up, by decide +kernel, hdrAs_ok _ _ _ _ (by decide +kernel), by decide +kernel, by decide +kernel, by decide +kernel, by decide +kernel, by decide +kernel⟩,
   ⟨hdrAs 0x11 63 64 [1, 2], 0x11, 63, 64, [1, 2], up, by decide +kernel⟩,
   ⟨⟨1, 7, 9, 0x11, 2, 0, []⟩, [], up.onOap (fun o => { o with frags := [⟨1, 7, 9, 0x11, 2, 0, []⟩] }), by decide +kernel⟩,
   ⟨hdr 0x41 [], up, by decide +kernel⟩,
   ⟨5, (5, 9), (up.setEnt 0x2021 5 1).onOap (fun o => { o with discovers := [(5, 9)] }), by decide +kernel⟩,
   ⟨1, 1, up, by decide +kernel⟩,
   ⟨1, up, by decide +kernel⟩,
   ⟨1, up.onOap (fun o => { o with announces := [(1, { due := 5 })] }), by decide +kernel⟩,
   ⟨1, up.setEnt 0x2022 5 1, by decide +kernel⟩,
   ⟨1, up.onOap (fun o => { o with announces := [(1, { v6 := true })] }), by decide +kernel⟩,
   ⟨up, by decide +kernel⟩⟩

theorem witness_InstallsAndSwitches :
    (∃ (s : State),
      s.boot.st = .running ∧ s.comm.nmt ≠ .stopped ∧ s.writeCheck 0x2300 8 1 = 0 ∧ s.nvm.job = none ∧ s.nvm.installing = none ∧ s.nvm.pendingSwitch = none) ∧
    (∃ (s : State),
      s.boot.st = .running ∧ s.comm.nmt ≠ .stopped) ∧
    (∃ (data : List Byte) (k : Nat) (s : State),
      s.boot.st = .running ∧ s.comm.nmt ≠ .stopped ∧ s.nvm.job = none ∧ s.nvm.installing = some k ∧ s.nvm.received = s.ent 0x2300 9 ∧ 1 ≤ data.length ∧ data.length ≤ 4096 ∧ 128 ≤ s.nvm.received ∧ s.nvm.received + data.length ≤ s.memNum (slotBase k + 16) 4) ∧
    (∃ (k : Nat) (s : State),
      s.boot.st = .running ∧ s.comm.nmt ≠ .stopped ∧ s.nvm.installing = some k ∧ s.nvm.committing = false ∧ 128 ≤ s.nvm.received ∧ s.nvm.received = s.memNum (slotBase k + 16) 4) ∧
    (∃ (k : Fin 2) (s : State),
      s.nvm.installing = some k.val ∧ s.nvm.committing = true) ∧
    (∃ (k : Fin 2) (s : State),
      s.boot.st = .running ∧ s.comm.nmt ≠ .stopped ∧ s.writeCheck 0x2300 8 3 = 0 ∧ s.nvm.installing = some k.val) ∧
    (∃ (s : State),
      s.boot.st = .running ∧ s.comm.nmt ≠ .stopped ∧ s.activateCode = 0 ∧ s.choir.role ≠ .precentor) ∧
    (∃ (k : Nat) (s : State),
      s.switchDue = some k) ∧
    (∃ (k : Nat) (s : State),
      s.switchDue = some k) ∧
    (∃ (k : Nat) (s : State),
      s.nvm.activeSlot = some k ∧ s.nvm.loadPending = true ∧ s.pressIdle = true) :=
  ⟨⟨up, by decide +kernel⟩,
   ⟨((up.onNvm (fun n => { n with installing := some 1, received := 128 })).setEnt 0x2300 9 128).putBytes (slotBase 1 + 16) (leBytes 4 4096), by decide +kernel⟩,
   ⟨List.replicate 3968 0, 1, ((up.onNvm (fun n => { n with installing := some 1, received := 128 })).setEnt 0x2300 9 128).putBytes (slotBase 1 + 16) (leBytes 4 4096), by decide +kernel⟩,
   ⟨1, (up.onNvm (fun n => { n with installing := some 1, received := 128 })).putBytes (slotBase 1 + 16) (leBytes 4 128), by decide +kernel⟩,
   ⟨1, up.onNvm (fun n => { n with installing := some 1, committing := true }), by decide +kernel⟩,
   ⟨1, up.onNvm (fun n => { n with installing := some 1 }), by decide +kernel⟩,
   ⟨up.onNvm (fun n => { n with slot1 := .valid }), by decide +kernel⟩,
   ⟨1, switchUp, by decide +kernel⟩,
   ⟨1, switchUp, by decide +kernel⟩,
   ⟨0, up.onNvm (fun n => { n with activeSlot := some 0, loadPending := true }), by decide +kernel⟩⟩

theorem witness_CellarBookRecords :
    (∃ (r : Rec) (rest : List Rec) (s : State),
      s.nvm.staged = r :: rest) ∧
    (∃ (b : List Byte) (s : State),
      s.boot.st = .running ∧ s.ringRecord (s.ent 0x2400 3) = some b) ∧
    (∃ (s : State),
      s.boot.st = .running ∧ s.ringRecord (s.ent 0x2400 3) = none) ∧
    (∃ (c : Fin 8) (code : Nat) (s : State),
      code = bits (tabGet 0 s.nvm.appendControl c).toNat 0 16 ∧ 0xE800 ≤ code ∧ code ≤ 0xEFFF ∧ s.nvm.staged.length < 64) ∧
    (∃ (c : Fin 8) (code : Nat) (s : State),
      code = bits (tabGet 0 s.nvm.appendControl c).toNat 0 16 ∧ (code < 0xE800 ∨ 0xEFFF < code)) ∧
    (∃ (s : State),
      64 ≤ s.nvm.staged.length) :=
  ⟨⟨⟨0xE001, 4, 0, 0, 0, []⟩, [], up.onNvm (fun n => { n with staged := [⟨0xE001, 4, 0, 0, 0, []⟩] }), by decide +kernel⟩,
   ⟨bookUp.bytesAt (bookBase 0) 64, bookUp, by decide +kernel⟩,
   ⟨up, by decide +kernel⟩,
   ⟨7, 0xEFFF, up.onNvm (fun n => { n with appendControl := [(7, 0xEFFF)] }), by decide +kernel⟩,
   ⟨7, 0xF000, up.onNvm (fun n => { n with appendControl := [(7, 0xF000)] }), by decide +kernel⟩,
   ⟨up.onNvm (fun n => { n with staged := List.replicate 64 ⟨0xE001, 4, 0, 0, 0, []⟩ }), by decide +kernel⟩⟩

theorem witness_PortsComeAndGo :
    (∃ (p : Fin 6) (s : State),
      p.val < s.portCount ∧ (s.port p).present = false ∧ s.boot.st = .running ∧ (s.port p).st = .absent ∧ s.pEnt p 2 = 1) ∧
    (∃ (p : Fin 6) (s : State),
      p.val < s.portCount ∧ (s.port p).present = false ∧ s.boot.st = .running ∧ s.pEnt p 2 ≠ 1) ∧
    (∃ (p : Fin 6) (s : State),
      p.val < s.portCount ∧ (s.port p).present = true ∧ (s.port p).st ≠ .absent) ∧
    (∃ (p : Fin 6) (s : State),
      p.val < s.portCount ∧ (s.port p).present = true ∧ (s.port p).st = .absent) ∧
    (∃ (p : Fin 6) (s : State),
      (s.port p).st = .streaming ∨ (s.port p).st = .stalled) ∧
    (∃ (p : Fin 6) (s : State),
      s.boot.st = .running ∧ s.comm.nmt ≠ .stopped ∧ s.writeCheck (portIdx p) 2 0 = 0 ∧ (s.port p).st ≠ .absent) ∧
    (∃ (p : Fin 6) (s : State),
      s.boot.st = .running ∧ s.comm.nmt ≠ .stopped ∧ s.writeCheck (portIdx p) 2 1 = 0 ∧ s.pEnt p 2 = 0 ∧ (s.port p).st = .absent ∧ (s.port p).present = true) ∧
    (∃ (p : Fin 6) (s : State),
      s.boot.st = .running ∧ s.comm.nmt ≠ .stopped ∧ s.writeCheck (portIdx p) 3 1 = 0 ∧ s.pEnt p 2 ≠ 0 ∧ (s.port p).st ≠ .absent) ∧
    (∃ (p : Fin 6) (s : State),
      s.boot.st = .running ∧ s.comm.nmt ≠ .stopped ∧ s.writeCheck (portIdx p) 3 2 = 0) ∧
    (∃ (s : State),
      s.boot.st = .running ∧ s.comm.nmt = .stopped) :=
  ⟨⟨5, up.setEnt 0x3500 2 1, by decide +kernel⟩,
   ⟨5, up.setEnt 0x3500 2 0, by decide +kernel⟩,
   ⟨5, portUp 5 framePort, by decide +kernel⟩,
   ⟨5, portUp 5 { present := true }, by decide +kernel⟩,
   ⟨5, portUp 5 framePort, by decide +kernel⟩,
   ⟨5, portUp 5 framePort, by decide +kernel⟩,
   ⟨5, (portUp 5 { present := true }).setEnt 0x3500 2 0, by decide +kernel⟩,
   ⟨5, portUp 5 framePort, by decide +kernel⟩,
   ⟨5, up, by decide +kernel⟩,
   ⟨stopUp, by decide +kernel⟩⟩

theorem witness_PortsAreIdentified :
    (∃ (p : Fin 6) (e : Nat) (s : State),
      (s.port p).st = .powering ∧ (s.port p).efuse = false ∧ (s.port p).efuseAt = some e) ∧
    (∃ (p : Fin 6) (s : State),
      (s.port p).st = .powering ∧ (s.port p).efuse = false ∧ (s.port p).efuseAt = none) ∧
    (∃ (p : Fin 6) (e : Nat) (s : State),
      (s.port p).st = .powering ∧ (s.port p).efuse = true ∧ (s.port p).efuseAt = some e) ∧
    (∃ (p : Fin 6) (s : State),
      (s.port p).st = .identifying ∧ (s.port p).reading = false) ∧
    (∃ (p : Fin 6) (rec : List Byte) (s : State),
      (s.port p).st = .identifying ∧ (s.port p).reading = true ∧ recCrcOk (slice rec 0 256) = true) ∧
    (∃ (p : Fin 6) (rec : List Byte) (s : State),
      (s.port p).st = .identifying ∧ (s.port p).reading = true ∧ recCrcOk (slice rec 0 256) = false ∧ (s.port p).attempts < 3) ∧
    (∃ (p : Fin 6) (rec : List Byte) (s : State),
      (s.port p).st = .identifying ∧ (s.port p).reading = true ∧ recCrcOk (slice rec 0 256) = true ∧ recFieldsOk (slice rec 0 256) s.power.vport = true ∧ numAt (slice rec 0 256) 22 2 ≤ s.power.vport ∧ streamOk (slice rec 0 256) = true ∧ s.committedMw - s.portPower p + numAt (slice rec 0 256) 20 2 ≤ s.ent 0x2200 0xD ∧ regionNeed (slice rec 0 256) = 0 ∧ s.rateInUse p + pixelRate (slice rec 0 256) ≤ 248832000 * 1000) ∧
    (∃ (p : Fin 6) (rec : List Byte) (s : State),
      (s.port p).st = .identifying ∧ (s.port p).reading = true ∧ recCrcOk (slice rec 0 256) = true ∧ recFieldsOk (slice rec 0 256) s.power.vport = false) ∧
    (∃ (p : Fin 6) (s : State),
      (s.port p).st = .identifying ∧ (s.port p).reading = true ∧ 3 ≤ (s.port p).attempts ∧ (s.port p).acked = false) ∧
    (∃ (p : Fin 6) (s : State),
      (s.port p).st = .ready) ∧
    (∃ (p : Fin 6) (s : State),
      (s.port p).st = .stalled) ∧
    (∃ (p : Fin 6) (reason : Fin 6) (s : State),
      (s.port p).efuse = true ∧ reason.val ≠ 0) :=
  ⟨⟨5, 5, portUp 5 { st := .powering, present := true, efuseAt := some 5 }, by decide +kernel⟩,
   ⟨5, portUp 5 { st := .powering, present := true }, by decide +kernel⟩,
   ⟨5, 5, portUp 5 { st := .powering, present := true, efuse := true, efuseAt := some 5 }, by decide +kernel⟩,
   ⟨5, portUp 5 { idPort with reading := false }, by decide +kernel⟩,
   ⟨5, headRec [], portUp 5 idPort, by decide +kernel, by decide +kernel, headRec_crc _⟩,
   ⟨5, headBad [], portUp 5 idPort, by decide +kernel, by decide +kernel, headBad_crc _, by decide +kernel⟩,
   ⟨5, frameRec, portUp 5 idPort, by decide +kernel, by decide +kernel, headRec_crc _, by decide +kernel⟩,
   ⟨5, headRec [], portUp 5 idPort, by decide +kernel, by decide +kernel, headRec_crc _, by decide +kernel⟩,
   ⟨5, portUp 5 { idPort with attempts := 3, acked := false }, by decide +kernel⟩,
   ⟨5, portUp 5 { framePort with st := .ready }, by decide +kernel⟩,
   ⟨5, portUp 5 { framePort with st := .stalled }, by decide +kernel⟩,
   ⟨5, 1, portUp 5 framePort, by decide +kernel⟩⟩

theorem witness_PortsTakeData :
    (∃ (p : Fin 6) (k : CsiPacket) (s : State),
      s.headType p ≠ 0 ∧ (k.eccBad = true ∨ k.crcBad = true ∨ k.vc ≠ s.headField p 7 1 ∨ k.dt ≠ s.headField p 10 1)) ∧
    (∃ (p : Fin 6) (k : CsiPacket) (s : State),
      (s.headType p = 1 ∨ s.headType p = 4) ∧ k.eccBad = false ∧ k.crcBad = false ∧ k.vc = s.headField p 7 1 ∧ k.dt = s.headField p 10 1) ∧
    (∃ (p : Nat) (ws : List (BitVec 32)) (s : State),
      (s.portDrain p).port p = s.port p ∧ s.portDrain p = s ∧ (s.port p).fill + ws.length ≤ 65536 ∧ (s.port p).skipping = false) ∧
    (∃ (p : Nat) (w : BitVec 32) (s : State),
      (s.port p).vector = none ∧ bits w.toNat 28 4 = 1 ∧ bits w.toNat 11 17 = 0) ∧
    (∃ (p : Fin 6) (k : CsiPacket) (s : State),
      (s.headType p = 2 ∨ s.headType p = 3) ∧ k.eccBad = false ∧ k.crcBad = false ∧ k.vc = s.headField p 7 1 ∧ k.dt = s.headField p 10 1 ∧ (s.port p).frameAt.isSome = true) ∧
    (∃ (p : Fin 6) (s : State),
      (s.port p).st = .streaming ∧ (s.headType p = 1 ∨ s.headType p = 4)) ∧
    (∃ (p : Fin 6) (s : State),
      (s.headType p = 2 ∨ s.headType p = 3) ∧ (s.port p).frameAt = none ∧ (s.port p).frames.length < 4 ∧ (s.port p).st = .ready) ∧
    (∃ (p : Fin 6) (f : Frame) (s : State),
      (s.port p).frameAt = some f ∧ (s.port p).frameBad = false ∧ (s.port p).frameLines.length = f.height) ∧
    (∃ (p : Fin 6) (f : Frame) (s : State),
      (s.port p).frameAt = some f ∧ (s.port p).frameBad = true ∨ (s.port p).frameLines.length ≠ f.height) ∧
    (∃ (p : Fin 6) (e : InjEvent) (rest : List InjEvent) (m : IngestMap) (s : State) (u : State),
      s.beat.hardHalt = false ∧ u = s.portDrain p ∧ (u.port p).injq = e :: rest ∧ tabGet none u.fabric.ingestMaps p = some m ∧ State.flitShed ((u.onPort p (fun x => { x with injq := rest })).ledger (ingestFlit u.choir.ownId p m e).target 0 1) (ingestFlit u.choir.ownId p m e) = false ∧ State.credit ((u.onPort p (fun x => { x with injq := rest })).ledger (ingestFlit u.choir.ownId p m e).target 0 1) (credKey m.entryCore 6 0) ≠ 0) :=
  ⟨⟨5, ⟨0, 0, 0x2A, true, false, 1920, []⟩, portUp 5 { framePort with csiDiscards := List.replicate 999 0 }, by decide +kernel⟩,
   ⟨5, ⟨0, 3, 0x30, false, false, 4, [0x10000000]⟩, portUp 5 eventPort, by decide +kernel⟩,
   ⟨5, [0x10000000, 0x10000001], portUp 5 { st := .streaming, bufUsed := 300 }, by decide +kernel⟩,
   ⟨5, 0x10000000, portUp 5 eventPort, by decide +kernel⟩,
   ⟨5, ⟨0, 3, 0x2A, false, false, 1920, []⟩, portUp 5 { framePort with frameAt := some aFrame }, by decide +kernel⟩,
   ⟨5, portUp 5 eventPort, by decide +kernel⟩,
   ⟨5, portUp 5 { framePort with st := .ready, frames := List.replicate 3 aFrame }, by decide +kernel⟩,
   ⟨5, { aFrame with height := 0 }, portUp 5 { framePort with frameAt := some { aFrame with height := 0 } }, by decide +kernel⟩,
   ⟨5, aFrame, portUp 5 { framePort with frameAt := some aFrame }, by decide +kernel⟩,
   ⟨5, ⟨0, 0, 0, true, false, 0⟩, [], ⟨31, 0, 1, 2, 0, 1, 0⟩, (portUp 5 { st := .streaming, bufUsed := 300, injq := [⟨0, 0, 0, true, false, 0⟩] }).onFabric (fun f => { f with ingestMaps := [(5, some ⟨31, 0, 1, 2, 0, 1, 0⟩)] }), (portUp 5 { st := .streaming, bufUsed := 300, injq := [⟨0, 0, 0, true, false, 0⟩] }).onFabric (fun f => { f with ingestMaps := [(5, some ⟨31, 0, 1, 2, 0, 1, 0⟩)] }), by decide +kernel⟩⟩

theorem witness_VoiceCoresAreLoaded :
    (∃ (c : Fin 256) (s : State),
      s.coreUp c = true ∧ (s.core c).st = .disabled ∨ (s.core c).st = .loaded) ∧
    (∃ (c : Fin 256) (s : State),
      s.coreUp c = true ∧ (s.core c).st = .running ∨ (s.core c).st = .fault) ∧
    (∃ (c : Fin 256) (s : State),
      s.coreUp c = true ∧ (s.core c).st = .loading) ∧
    (∃ (c : Fin 256) (s : State),
      s.coreUp c = true ∧ (s.core c).st = .loading ∧ (s.core c).committing = true ∧ s.commitBad c = false ∧ s.commitCode c = 0) ∧
    (∃ (c : Fin 256) (s : State),
      s.coreUp c = true ∧ (s.core c).st = .loading ∧ (s.core c).committing = true ∧ s.commitBad c = false ∧ s.commitCode c ≠ 0) ∧
    (∃ (c : Fin 256) (s : State),
      s.coreUp c = true ∧ (s.core c).st = .loading ∧ (s.core c).committing = true ∧ s.commitBad c = true) ∧
    (∃ (c : Fin 256) (s : State),
      s.coreUp c = true ∧ (s.core c).st = .loading ∨ (s.core c).st = .loaded) ∧
    (∃ (t : Fin 4) (val : BitVec 32) (s : State),
      s.tileUp t = true ∧ s.anyRunning = false ∧ 1 ≤ bits val.toNat 0 4 ∧ bits val.toNat 0 4 ≤ 8) ∧
    (∃ (c : Fin 256) (f : Flit) (rest : List Flit) (s : State),
      s.beat.hardHalt = false ∧ (s.core c).inbox = f :: rest ∧ (s.core c).st = .fault) ∧
    (∃ (c : Fin 256) (f : Flit) (rest : List Flit) (s : State),
      s.beat.hardHalt = false ∧ (s.core c).inbox = f :: rest ∧ (s.core c).st ≠ .fault ∧ s.eventTaps c f.pkt.key.toNat = none) ∧
    (∃ (c : Fin 256) (f : Flit) (rest : List Flit) (taps : List (Nat × Nat × Nat)) (s : State),
      s.beat.hardHalt = false ∧ (s.core c).inbox = f :: rest ∧ (s.core c).st ≠ .fault ∧ (s.core c).st ≠ .running ∧ s.eventTaps c f.pkt.key.toNat = some taps) ∧
    (∃ (c : Fin 256) (f : Flit) (rest : List Flit) (s : State),
      s.beat.hardHalt = false ∧ (s.core c).inbox = f :: rest ∧ (s.core c).st = .running) ∧
    (∃ (c : Fin 256) (f : Flit) (rest : List Flit) (s : State),
      s.beat.hardHalt = false ∧ (s.core c).outbox = f :: rest ∧ s.flitShed f = false ∧ s.credit (credKey c 5 0) ≠ 0) ∧
    (∃ (c : Fin 256) (f : Flit) (rest : List Flit) (s : State),
      s.beat.hardHalt = false ∧ (s.core c).outbox = f :: rest ∧ s.flitShed f = true) :=
  ⟨⟨255, coreUp 255 { st := .loaded }, by decide +kernel⟩,
   ⟨255, coreUp 255 { st := .fault }, by decide +kernel⟩,
   ⟨255, coreUp 255 { st := .loading }, by decide +kernel⟩,
   ⟨255, coreUp 255 { st := .loading, committing := true }, by decide +kernel⟩,
   ⟨255, (coreUp 255 { st := .loading, committing := true }).setReg 0x23 0xBF08 0xFFC00000, by decide +kernel⟩,
   ⟨255, (coreUp 255 { st := .loading, committing := true }).onMem (fun m => { m with poison := [(progWord 255 0 0 / 64, true)] }), by decide +kernel⟩,
   ⟨255, coreUp 255 { st := .loaded }, by decide +kernel⟩,
   ⟨3, 8, up, by decide +kernel⟩,
   ⟨255, flit, [], coreUp 255 { st := .fault, inbox := [flit] }, by decide +kernel⟩,
   ⟨255, flit, [], coreUp 255 { st := .running, inbox := [flit] }, by decide +kernel⟩,
   ⟨255, flit, [], [(0, 5, 0)], ((coreUp 255 { st := .loaded, inbox := [flit] }).setReg 0x23 0xBF18 0xA0000000).setReg 0x23 0xBF20 0x10008, by decide +kernel⟩,
   ⟨255, flit, [], coreUp 255 { st := .running, inbox := [flit] }, by decide +kernel⟩,
   ⟨255, flit, [], coreUp 255 { st := .running, outbox := [flit] }, by decide +kernel⟩,
   ⟨255, flit, [], (coreUp 255 { st := .running, outbox := [flit] }).onFabric (fun f => { f with shedFrom := some (0, 4) }), by decide +kernel⟩⟩

theorem witness_RoutersMovePackets :
    (∃ (r : Fin 256) (i : Inp) (vn : Bool) (f : Flit) (rest : List Flit) (s : State),
      s.beat.hardHalt = false ∧ tabGet [] s.fabric.onLink (linkInKey r i vn) = f :: rest ∧ f.pkt.type ≠ 0 ∧ f.pkt.type ≠ 1) ∧
    (∃ (r : Fin 256) (i : Inp) (vn : Bool) (f : Flit) (rest : List Flit) (s : State),
      s.beat.hardHalt = false ∧ tabGet [] s.fabric.onLink (linkInKey r i vn) = f :: rest ∧ f.pkt.type = 0 ∧ f.vn1 = true ∧ s.flitShed f = false ∧ s.vn1Ends r f.dest = false) ∧
    (∃ (r : Fin 256) (i : Inp) (vn : Bool) (f : Flit) (rest : List Flit) (s : State),
      s.beat.hardHalt = false ∧ tabGet [] s.fabric.onLink (linkInKey r i vn) = f :: rest ∧ f.pkt.type = 0 ∧ f.vn1 = false ∧ s.fabric.shedFrom = none ∧ s.lookup r f.pkt.key = none ∧ tabGet 0 s.fabric.defaultRoute r = 0) ∧
    (∃ (r : Fin 256) (o : Dir) (s : State),
      s.beat.hardHalt = false ∧ s.arbitrate r o = none ∧ s.isGateway r o = false) ∧
    (∃ (r : Fin 256) (k : RCopy) (b : Bool) (s : State),
      s.beat.hardHalt = false ∧ s.arbitrate r .loc = some (k, b) ∧ s.credit (credKey r 0 (b2n k.flit.vn1)) ≠ 0) ∧
    (∃ (r : Fin 256) (o : Dir) (s : State),
      s.beat.hardHalt = false ∧ s.isGateway r o = false) ∧
    (∃ (r : Fin 256) (o : Dir) (s : State),
      s.beat.hardHalt = false ∧ s.isGateway r o = true) ∧
    (∃ (r : Fin 256) (o : Dir) (i : Inp) (n : Nat) (k : RCopy) (s : State),
      s.beat.hardHalt = false ∧ o ≠ .loc ∧ findAt ((s.router r).asks o i) (s.router r).copies = some (n, k)) ∧
    (∃ (s : State),
      s.beat.hardHalt = false) ∧
    (∃ (r : Fin 256) (o : LinkDir) (vn : Bool) (s : State),
      s.linkThere r o = true ∧ s.credit (credKey r (linkNo o) (b2n vn)) ≠ 8 ∧ tabGet 0 s.fabric.creditsBack (credKey r (linkNo o) (b2n vn)) ≠ 0) ∧
    (∃ (r : Fin 256) (o : LinkDir) (vn : Bool) (s : State),
      s.linkThere r o = true ∧ s.credit (credKey r (linkNo o) (b2n vn)) = 8) ∧
    (∃ (r : Fin 256) (o : LinkDir) (vn : Bool) (s : State),
      s.linkThere r o = true ∧ s.linkQuiet r o vn = true ∧ s.credit (credKey r (linkNo o) (b2n vn)) ≠ 8) :=
  ⟨⟨255, .w, false, { flit with pkt := pkt 2 }, [], up.onFabric (fun f => { f with onLink := [(linkInKey 255 .w false, [{ flit with pkt := pkt 2 }])] }), by decide +kernel⟩,
   ⟨255, .w, true, { flit with vn1 := true, dest := .core 255 }, [], up.onFabric (fun f => { f with onLink := [(linkInKey 255 .w true, [{ flit with vn1 := true, dest := .core 255 }])] }), by decide +kernel⟩,
   ⟨255, .w, false, flit, [], up.onFabric (fun f => { f with onLink := [(linkInKey 255 .w false, [flit])] }), by decide +kernel⟩,
   ⟨255, .e, up, by decide +kernel⟩,
   ⟨255, rcopy .loc, false, routed .loc, by decide +kernel⟩,
   ⟨255, .e, up, by decide +kernel⟩,
   ⟨0, .w, choirUp .precentor 0, by decide +kernel⟩,
   ⟨255, .n, .w, 0, rcopy .n, routed .n, by decide +kernel⟩,
   ⟨routed .n, by decide +kernel⟩,
   ⟨255, .fromCore, false, up.onFabric (fun f => { f with credits := [(credKey 255 5 0, 7)], creditsBack := [(credKey 255 5 0, 1)] }), by decide +kernel⟩,
   ⟨255, .fromInj, false, up, by decide +kernel⟩,
   ⟨255, .fromCore, false, up.onFabric (fun f => { f with credits := [(credKey 255 5 0, 7)] }), by decide +kernel⟩⟩

theorem witness_RoutingTablesAreLoaded :
    (∃ (t : Fin 4) (v : BitVec 32) (s : State) (r : Nat) (i : Nat),
      s.tileUp t = true ∧ s.tabSelect t = (r, 0, i) ∧ s.tileRunning t = false ∧ i < 1024 ∧ entryBad (s.reg (0x20 + t) 0x1C) v.toNat = false) ∧
    (∃ (t : Fin 4) (v : BitVec 32) (s : State) (r : Nat) (i : Nat),
      s.tileUp t = true ∧ s.tabSelect t = (r, 0, i) ∧ s.tileRunning t = false ∧ entryBad (s.reg (0x20 + t) 0x1C) v.toNat = true) ∧
    (∃ (t : Fin 4) (s : State),
      s.tileUp t = true ∧ s.tileRunning t = true) ∧
    (∃ (t : Fin 4) (s : State),
      s.tileUp t = true) ∧
    (∃ (t : Fin 4) (s : State),
      s.tileUp t = false) :=
  ⟨⟨3, 0, up.setReg 0x23 0x10 (63 * 65536 + 1023), 255, 1023, by decide +kernel⟩,
   ⟨3, 2049, up.setReg 0x23 0x10 (63 * 65536 + 1023), 255, 1023, by decide +kernel⟩,
   ⟨3, coreUp 255 { st := .running }, by decide +kernel⟩,
   ⟨3, up, by decide +kernel⟩,
   ⟨3, { up with variant := .erv1620 }, by decide +kernel⟩⟩

theorem witness_PressTasks :
    (∃ (t : Fin 4) (d : TaskDesc) (addr : Nat) (b : List Byte) (s : State),
      s.tileUp t = true ∧ addr = s.reg (0x10 + t) 0x10 + 2 ^ 32 * s.reg (0x10 + t) 0x14 ∧ (s.isLocal addr = true ∨ packageOf addr = 0) ∧ s.ncReadFail .press (offsetOf addr) 32 = none ∧ b = s.bytesAt (offsetOf addr) 32 ∧ d = parseDesc b ∧ (s.task (t * 1024 + d.taskId)).st = .free ∧ tabGet 0 s.press.templateCount t ≤ d.taskId ∧ descOk t b = true) ∧
    (∃ (t : Fin 4) (d : TaskDesc) (addr : Nat) (b : List Byte) (s : State),
      s.tileUp t = true ∧ addr = s.reg (0x10 + t) 0x10 + 2 ^ 32 * s.reg (0x10 + t) 0x14 ∧ (s.isLocal addr = true ∨ packageOf addr = 0) ∧ s.ncReadFail .press (offsetOf addr) 32 = none ∧ b = s.bytesAt (offsetOf addr) 32 ∧ d = parseDesc b ∧ (s.task (t * 1024 + d.taskId)).st ≠ .free) ∧
    (∃ (t : Fin 4) (slot : Fin 1024) (k : Nat) (s : State),
      k = t.val * 1024 + slot.val ∧ s.tileUp t = true ∧ (s.task k).st.live = true) ∧
    (∃ (t : Fin 4) (slot : Fin 1024) (k : Nat) (s : State),
      k = t.val * 1024 + slot.val ∧ s.tileUp t = true ∧ (s.task k).st.live = false) ∧
    (∃ (t : Fin 4) (v : Unit3) (k : Nat) (s : State),
      (unitOf t v ≠ 8 ∨ t = 0) ∧ s.unitFree (unitOf t v) = true ∧ s.nextTask (unitOf t v) = some k) ∧
    (∃ (t : Fin 4) (v : Unit3) (k : Nat) (s : State),
      s.beat.hardHalt = false ∧ (unitOf t v ≠ 8 ∨ t = 0) ∧ s.runs (unitOf t v) = some k ∧ (s.task k).desc.count ≤ (s.task k).pc ∧ (s.task k).st.live = true) ∧
    (∃ (e : Fin 8) (k : Nat) (c : PCmd) (s : State),
      s.beat.hardHalt = false ∧ s.runs e = some k ∧ (s.task k).pc < (s.task k).desc.count ∧ s.dueCmd k = .inr c ∧ c.op = 0 ∧ c.bareOk = true ∧ (s.task k).st.live = true) ∧
    (∃ (e : Fin 8) (k : Nat) (c : PCmd) (s : State),
      s.beat.hardHalt = false ∧ s.runs e = some k ∧ (s.task k).pc < (s.task k).desc.count ∧ s.dueCmd k = .inr c ∧ c.op = 0 ∧ c.bareOk = false) ∧
    (∃ (t : Fin 4) (slot : Fin 1024) (k : Nat) (s : State),
      k = t.val * 1024 + slot.val ∧ (s.task k).st = .done ∨ (s.task k).st = .cancelled ∧ s.mustPost k = false) ∧
    (∃ (t : Fin 4) (slot : Fin 1024) (k : Nat) (s : State) (v : State),
      k = t.val * 1024 + slot.val ∧ (s.task k).st = .done ∨ (s.task k).st = .cancelled ∧ s.mustPost k = true ∧ s.postFirst k = true ∧ s.hwPush (s.ent 0x5000 8) [s.taskItem k] = some v) ∧
    (∃ (t : Fin 4) (slot : Fin 1024) (k : Nat) (s : State),
      k = t.val * 1024 + slot.val ∧ s.mustPost k = true ∧ s.postFirst k = false) ∧
    (∃ (s : State) (w : BeatWork),
      s.beat.hardHalt = false ∧ s.pressRunning = some w ∧ w.instantiated = false ∧ w.captured = true ∧ s.templateFree = true) ∧
    (∃ (s : State) (u : State) (l : List Byte) (rest : List (List Byte)),
      s.press.verdictQ = l :: rest ∧ s.ent 0x5200 3 ≠ 0xFF ∧ s.hwPush (s.ent 0x5200 3) (itemsOf 4 l) = some u) :=
  ⟨⟨3, parseDesc (aDesc 1023), 0x40000000, aDesc 1023, (up.putBytes 0x40000000 (aDesc 1023)).setReg 0x13 0x10 0x40000000, by decide +kernel⟩,
   ⟨3, parseDesc (aDesc 1023), 0x40000000, aDesc 1023, ((slotUp { st := .waiting }).putBytes 0x40000000 (aDesc 1023)).setReg 0x13 0x10 0x40000000, by decide +kernel⟩,
   ⟨3, 1023, 4095, slotUp { st := .waiting }, by decide +kernel⟩,
   ⟨3, 1023, 4095, slotUp { st := .done }, by decide +kernel⟩,
   ⟨3, .odd, 4095, slotUp { st := .ready, desc := { addr := 0x40000000, count := 1, engine := 1 } }, by decide +kernel⟩,
   ⟨0, .blend, 0, (task 8 []).onTask 0 (fun t => { t with pc := 1 }), by decide +kernel⟩,
   ⟨7, 0, parseCmd (List.replicate 32 0), task 7 [], by decide +kernel⟩,
   ⟨7, 0, parseCmd ([0, 0, 4] ++ List.replicate 29 0), task 7 [0, 0, 4], by decide +kernel⟩,
   ⟨3, 1023, 4095, slotUp { st := .cancelled }, by decide +kernel⟩,
   ⟨3, 1023, 4095, (slotUp { st := .done, desc := { post := true } }).setEnt 0x5000 8 0, ((slotUp { st := .done, desc := { post := true } }).setEnt 0x5000 8 0).count (queueIdx 0) 0x15 1, by decide +kernel⟩,
   ⟨3, 1023, 4095, ((slotUp { st := .done, desc := { post := true }, endNo := 1 }).onTask 4094 (fun _ => { st := .done, desc := { post := true } })).setEnt 0x5000 8 0, by decide +kernel⟩,
   ⟨up.onBeat (fun b => { b with work := [{ w1 with press := .running, captured := true }] }), { w1 with press := .running, captured := true }, by decide +kernel⟩,
   ⟨(up.setEnt 0x5200 3 0).onPress (fun p => { p with verdictQ := [[1]] }), ((up.setEnt 0x5200 3 0).onPress (fun p => { p with verdictQ := [[1]] })).count (queueIdx 0) 0x15 4, [1], [], by decide +kernel⟩⟩

theorem witness_PressCommands :
    (∃ (e : Fin 8) (k : Nat) (c : PCmd) (s : State),
      s.fetchCmd e 1 false = .inr (k, c) ∧ s.engineFails (c.accesses (tensorBytes c.inT (c.m * c.k)) (tensorBytes c.inT (c.k * c.n)) (tensorBytes c.outT (c.m * c.n))) = none) ∧
    (∃ (e : Fin 8) (k : Nat) (cause : Nat) (c : PCmd) (f : NcFail) (s : State),
      s.fetchCmd e 1 false = .inr (k, c) ∧ s.engineFails (c.accesses (tensorBytes c.inT (c.m * c.k)) (tensorBytes c.inT (c.k * c.n)) (tensorBytes c.outT (c.m * c.n))) = some (cause, f)) ∧
    (∃ (e : Fin 8) (k : Nat) (c : PCmd) (s : State),
      s.fetchCmd e 2 false = .inr (k, c) ∧ s.engineFails (c.accesses (tensorBytes c.inT (c.h * c.m * c.k)) (tensorBytes c.inT (c.shape.1 * c.shape.1 * c.k * c.n)) (tensorBytes c.outT (c.shape.2.2.2.1 * c.shape.2.2.2.2 * c.n))) = none) ∧
    (∃ (e : Fin 8) (k : Nat) (cause : Nat) (c : PCmd) (f : NcFail) (s : State),
      s.fetchCmd e 2 false = .inr (k, c) ∧ s.engineFails (c.accesses (tensorBytes c.inT (c.h * c.m * c.k)) (tensorBytes c.inT (c.shape.1 * c.shape.1 * c.k * c.n)) (tensorBytes c.outT (c.shape.2.2.2.1 * c.shape.2.2.2.2 * c.n))) = some (cause, f)) ∧
    (∃ (e : Fin 8) (k : Nat) (c : PCmd) (s : State),
      s.fetchCmd e 3 false = .inr (k, c) ∧ s.engineFails (c.accesses (tensorBytes c.inT (c.m * c.n)) (tensorBytes c.inT (c.m * c.n)) (tensorBytes c.outT (c.m * c.n))) = none) ∧
    (∃ (e : Fin 8) (k : Nat) (cause : Nat) (c : PCmd) (f : NcFail) (s : State),
      s.fetchCmd e 3 false = .inr (k, c) ∧ s.engineFails (c.accesses (tensorBytes c.inT (c.m * c.n)) (tensorBytes c.inT (c.m * c.n)) (tensorBytes c.outT (c.m * c.n))) = some (cause, f)) ∧
    (∃ (e : Fin 8) (k : Nat) (c : PCmd) (s : State),
      s.fetchCmd e 4 false = .inr (k, c) ∧ s.engineFails (c.accesses (tensorBytes c.inT (c.h * c.m * c.k)) 0 (tensorBytes c.outT (c.shape.2.2.2.1 * c.shape.2.2.2.2 * c.k))) = none) ∧
    (∃ (e : Fin 8) (k : Nat) (cause : Nat) (c : PCmd) (f : NcFail) (s : State),
      s.fetchCmd e 4 false = .inr (k, c) ∧ s.engineFails (c.accesses (tensorBytes c.inT (c.h * c.m * c.k)) 0 (tensorBytes c.outT (c.shape.2.2.2.1 * c.shape.2.2.2.2 * c.k))) = some (cause, f)) ∧
    (∃ (e : Fin 8) (k : Nat) (c : PCmd) (s : State),
      s.fetchCmd e 5 false = .inr (k, c) ∧ s.engineFails ([(c.a, c.m * c.n, false), (c.b, 256, false), (c.dst, c.m * c.n, true)]) = none) ∧
    (∃ (e : Fin 8) (k : Nat) (cause : Nat) (c : PCmd) (f : NcFail) (s : State),
      s.fetchCmd e 5 false = .inr (k, c) ∧ s.engineFails ([(c.a, c.m * c.n, false), (c.b, 256, false), (c.dst, c.m * c.n, true)]) = some (cause, f)) ∧
    (∃ (e : Fin 8) (k : Nat) (c : PCmd) (s : State),
      s.fetchCmd e 6 false = .inr (k, c) ∧ s.engineFails ([(c.a, c.m * c.n, false), (c.dst, c.m * c.n, true)]) = none) ∧
    (∃ (e : Fin 8) (k : Nat) (cause : Nat) (c : PCmd) (f : NcFail) (s : State),
      s.fetchCmd e 6 false = .inr (k, c) ∧ s.engineFails ([(c.a, c.m * c.n, false), (c.dst, c.m * c.n, true)]) = some (cause, f)) ∧
    (∃ (e : Fin 8) (k : Nat) (c : PCmd) (s : State),
      s.beat.hardHalt = false ∧ s.runs e = some k ∧ (s.task k).pc < (s.task k).desc.count ∧ s.dueCmd k = .inr c ∧ 8 < c.op) ∧
    (∃ (e : Fin 8) (k : Nat) (s : State),
      s.beat.hardHalt = false ∧ s.runs e = some k ∧ (s.task k).pc < (s.task k).desc.count) ∧
    (∃ (s : State),
      s.beat.hardHalt = true) :=
  ⟨⟨7, 0, parseCmd (cmd 1 0x40 1 1 1 0 0), task 7 (cmd 1 0x40 1 1 1 0 0), by decide +kernel⟩,
   ⟨7, 0, 4, parseCmd (cmdFrom 0x40800000 1 0x40 1 1 1 0 0), .kind 1 0x40800000, task 7 (cmdFrom 0x40800000 1 0x40 1 1 1 0 0), by decide +kernel⟩,
   ⟨7, 0, parseCmd (cmd 2 0x40 1 1 1 0x11 1), task 7 (cmd 2 0x40 1 1 1 0x11 1), by decide +kernel⟩,
   ⟨7, 0, 4, parseCmd (cmdFrom 0x40800000 2 0x40 1 1 1 0x11 1), .kind 1 0x40800000, task 7 (cmdFrom 0x40800000 2 0x40 1 1 1 0x11 1), by decide +kernel⟩,
   ⟨7, 0, parseCmd (cmd 3 0x40 1 1 1 0 0), task 7 (cmd 3 0x40 1 1 1 0 0), by decide +kernel⟩,
   ⟨7, 0, 4, parseCmd (cmdFrom 0x40800000 3 0x40 1 1 1 0 0), .kind 1 0x40800000, task 7 (cmdFrom 0x40800000 3 0x40 1 1 1 0 0), by decide +kernel⟩,
   ⟨7, 0, parseCmd (cmd 4 0x40 1 1 1 0x11 1), task 7 (cmd 4 0x40 1 1 1 0x11 1), by decide +kernel⟩,
   ⟨7, 0, 4, parseCmd (cmdFrom 0x40800000 4 0x40 1 1 1 0x11 1), .kind 1 0x40800000, task 7 (cmdFrom 0x40800000 4 0x40 1 1 1 0x11 1), by decide +kernel⟩,
   ⟨7, 0, parseCmd (cmd 5 0 1 1 1 0 0), task 7 (cmd 5 0 1 1 1 0 0), by decide +kernel⟩,
   ⟨7, 0, 4, parseCmd (cmdFrom 0x40800000 5 0 1 1 1 0 0), .kind 1 0x40800000, task 7 (cmdFrom 0x40800000 5 0 1 1 1 0 0), by decide +kernel⟩,
   ⟨7, 0, parseCmd (cmd 6 0 1 1 1 0 0), task 7 (cmd 6 0 1 1 1 0 0), by decide +kernel⟩,
   ⟨7, 0, 4, parseCmd (cmdFrom 0x40800000 6 0 1 1 1 0 0), .kind 1 0x40800000, task 7 (cmdFrom 0x40800000 6 0 1 1 1 0 0), by decide +kernel⟩,
   ⟨7, 0, parseCmd (cmd 9 0 1 1 1 0 0), task 7 (cmd 9 0 1 1 1 0 0), by decide +kernel⟩,
   ⟨7, 0, task 7 (cmd 1 0x40 1 1 1 0 0), by decide +kernel⟩,
   ⟨(task 7 []).onBeat (fun b => { b with hardHalt := true }), by decide +kernel⟩⟩

theorem witness_FramesSlatesAndVerdicts :
    (∃ (e : Fin 8) (k : Nat) (c : PCmd) (f : Frame) (s : State),
      s.fetchCmd e 7 false = .inr (k, c) ∧ s.loadShapeOk c = true ∧ s.loadFrame c.param (s.task k).beat = some f ∧ s.engineFails [(c.dst, c.m * c.h * c.n, true)] = none) ∧
    (∃ (e : Fin 8) (k : Nat) (c : PCmd) (s : State),
      s.fetchCmd e 7 false = .inr (k, c) ∧ s.loadShapeOk c = true ∧ s.loadFrame c.param (s.task k).beat = none) ∧
    (∃ (e : Fin 8) (k : Nat) (c : PCmd) (s : State),
      s.fetchCmd e 8 false = .inr (k, c) ∧ s.engineFails [(c.a, (s.source c.n).slateSize, false)] = none ∧ s.portStreams (s.source c.n) = true ∧ (s.source c.n).kind = 2) ∧
    (∃ (k : Nat) (s : State),
      s.blendFetch 0x10 = .inr k) ∧
    (∃ (k : Nat) (n : Nat) (s : State),
      s.blendFetch 0x11 = .inr k ∧ (s.task k).beat = some n) ∧
    (∃ (k : Nat) (s : State),
      s.blendFetch 0x11 = .inr k ∧ (s.task k).beat = none) ∧
    (∃ (val : BitVec 64) (s : State),
      s.boot.st = .running ∧ s.comm.nmt ≠ .stopped ∧ s.writeCheck 0x5300 1 val.toNat = 0 ∧ (2 ^ 34 ≤ val.toNat ∨ val.toNat % 2 ^ 32 = 0x80000000)) ∧
    (∃ (val : BitVec 64) (s : State),
      s.boot.st = .running ∧ s.comm.nmt ≠ .stopped ∧ s.writeCheck 0x5300 1 val.toNat = 0 ∧ val.toNat < 2 ^ 34 ∧ val.toNat % 2 ^ 32 ≠ 0x80000000 ∧ (∀ i, i < 8 → (s.source i).kind ≠ 3)) ∧
    (∃ (val : BitVec 64) (s : State),
      s.boot.st = .running ∧ s.comm.nmt ≠ .stopped ∧ s.writeCheck 0x5300 1 val.toNat = 0 ∧ val.toNat < 2 ^ 34 ∧ val.toNat % 2 ^ 32 ≠ 0x80000000 ∧ (∀ i, i < 8 → ((s.source i).kind = 3 ↔ i = 0)) ∧ (s.source 0).port = 0xFF) :=
  ⟨⟨7, 0, parseCmd (cmd 7 0 1 1 1 5 1), aFrame, (task 7 (cmd 7 0 1 1 1 5 1)).onPort 5 (fun _ => { framePort with frames := [aFrame] }), by decide +kernel⟩,
   ⟨7, 0, parseCmd (cmd 7 0 1 1 1 5 1), (task 7 (cmd 7 0 1 1 1 5 1)).onPort 5 (fun _ => framePort), by decide +kernel⟩,
   ⟨7, 0, parseCmd (cmd 8 0 1 7 1 0 0), (task 7 (cmd 8 0 1 7 1 0 0)).onSource 7 (fun x => { x with kind := 2, chCount := 1 }), by decide +kernel⟩,
   ⟨0, task 8 [0x10], by decide +kernel⟩,
   ⟨0, 0, task 8 [0x11], by decide +kernel⟩,
   ⟨0, (task 8 [0x11]).onTask 0 (fun t => { t with beat := none }), by decide +kernel⟩,
   ⟨0x80000000, up, by decide +kernel⟩,
   ⟨0x3FFFFFFFF, up, by decide +kernel⟩,
   ⟨0x3FFFFFFFF, up.onSource 0 (fun x => { x with kind := 3 }), by decide +kernel⟩⟩

theorem witness_PushesFormPackets :
    (∃ (c : Fin 8) (q : Fin 32) (s : State),
      (s.q q).st = .enabled ∨ (s.q q).st = .flushPending ∧ 1 < s.pushLen c q ∧ s.pushLen c q ≤ 64 ∧ s.pushLev c q < (s.q q).levelCount ∧ (s.q q).opened = none ∧ s.pushLen c q ≤ ((s.q q).level (s.pushLev c q)).credits) ∧
    (∃ (c : Fin 8) (q : Fin 32) (s : State),
      (s.q q).st = .enabled ∨ (s.q q).st = .flushPending ∧ s.pushLen c q = 1 ∧ s.pushLev c q < (s.q q).levelCount ∧ (s.q q).opened = none ∧ 1 ≤ ((s.q q).level (s.pushLev c q)).credits) ∧
    (∃ (c : Fin 8) (q : Fin 32) (n : Nat) (s : State),
      s.firstCause c q (s.pushLen c q) (s.pushLev c q) = n ∧ n ≠ 0) ∧
    (∃ (q : Nat) (s : State),
      (s.q q).st = .disabled ∨ (s.q q).st = .disablePending) ∧
    (∃ (q : Nat) (len : Nat) (lev : Nat) (s : State),
      (s.q q).st = .enabled ∨ (s.q q).st = .flushPending ∧ (len = 0 ∨ 64 < len ∨ (s.q q).levelCount ≤ lev)) ∧
    (∃ (q : Nat) (len : Nat) (lev : Nat) (s : State),
      (s.q q).st = .enabled ∨ (s.q q).st = .flushPending ∧ 1 ≤ len ∧ len ≤ 64 ∧ lev < (s.q q).levelCount) ∧
    (∃ (q : Nat) (len : Nat) (lev : Nat) (s : State),
      (s.q q).st = .enabled ∨ (s.q q).st = .flushPending ∧ 1 ≤ len ∧ len ≤ 64 ∧ lev < (s.q q).levelCount ∧ (s.q q).opened = none ∧ ((s.q q).level lev).credits < len) ∧
    (∃ (q : Nat) (len : Nat) (lev : Nat) (s : State),
      (s.q q).st = .enabled ∨ (s.q q).st = .flushPending ∧ 1 ≤ len ∧ len ≤ 64 ∧ lev < (s.q q).levelCount ∧ (s.q q).opened = none ∧ len ≤ ((s.q q).level lev).credits) ∧
    (∃ (c : Fin 8) (q : Fin 32) (lev : Nat) (len : Nat) (since : Nat) (s : State),
      (s.q q).st = .enabled ∨ (s.q q).st = .flushPending ∧ (s.q q).opened = some (c.val, lev, len, since) ∧ (s.q q).assembly.length + 1 < len) ∧
    (∃ (c : Fin 8) (q : Fin 32) (lev : Nat) (len : Nat) (since : Nat) (s : State),
      (s.q q).st = .enabled ∨ (s.q q).st = .flushPending ∧ (s.q q).opened = some (c.val, lev, len, since) ∧ (s.q q).assembly.length + 1 = len) ∧
    (∃ (c : Fin 8) (q : Fin 32) (d : Nat) (lev : Nat) (len : Nat) (since : Nat) (s : State),
      (s.q q).st = .enabled ∨ (s.q q).st = .flushPending ∧ (s.q q).opened = some (d, lev, len, since) ∧ d ≠ c) ∧
    (∃ (q : Fin 32) (l : Fin 8) (s : State),
      0 < ((s.q q).level l).returning) ∧
    (∃ (q : Fin 32) (c : Nat) (lev : Nat) (len : Nat) (since : Nat) (s : State),
      (s.q q).opened = some (c, lev, len, since)) :=
  ⟨⟨7, 31, queueUp 64 id, by decide +kernel⟩,
   ⟨7, 31, queueUp 1 id, by decide +kernel⟩,
   ⟨7, 31, 4, queueUp 65 id, by decide +kernel⟩,
   ⟨31, up, by decide +kernel⟩,
   ⟨31, 65, 0, queueUp 1 id, by decide +kernel⟩,
   ⟨31, 64, 1, queueUp 1 (fun x => { x with opened := some (6, 0, 2, 0) }), by decide +kernel⟩,
   ⟨31, 64, 1, queueUp 1 (fun x => x.onLevel 1 (fun v => { v with credits := 63 })), by decide +kernel⟩,
   ⟨31, 64, 1, queueUp 1 id, by decide +kernel⟩,
   ⟨7, 31, 1, 3, 0, queueUp 3 (fun x => { x with opened := some (7, 1, 3, 0), assembly := [1] }), by decide +kernel⟩,
   ⟨7, 31, 1, 2, 0, queueUp 3 (fun x => { x with opened := some (7, 1, 2, 0), assembly := [1] }), by decide +kernel⟩,
   ⟨7, 31, 6, 1, 2, 0, queueUp 3 (fun x => { x with opened := some (6, 1, 2, 0), assembly := [1] }), by decide +kernel⟩,
   ⟨31, 7, queueUp 1 (fun x => x.onLevel 7 (fun v => { v with returning := 1 })), by decide +kernel⟩,
   ⟨31, 6, 1, 2, 0, queueUp 3 (fun x => { x with opened := some (6, 1, 2, 0), assembly := [1] }), by decide +kernel⟩⟩

theorem witness_PopsReadPackets :
    (∃ (q : Fin 32) (l : Nat) (p : QPkt) (rest : List QPkt) (it : BitVec 128) (more : List (BitVec 128)) (s : State),
      (s.q q).waiting = [] ∧ (s.q q).st ≠ .disabled ∧ (s.q q).spill = false ∧ ((s.q q).stream = some l ∨ (s.q q).stream = none ∧ (s.q q).chosen = none ∧ (s.q q).highest 8 = some l ∧ s.qEnt q 12 ≠ 1) ∧ ((s.q q).level l).pkts = p :: rest ∧ p.items = it :: more ∧ more ≠ []) ∧
    (∃ (q : Fin 32) (l : Nat) (p : QPkt) (rest : List QPkt) (it : BitVec 128) (s : State),
      (s.q q).waiting = [] ∧ (s.q q).st = .enabled ∧ (s.q q).spill = false ∧ (s.q q).stream = some l ∧ ((s.q q).level l).pkts = p :: rest ∧ p.items = [it]) ∧
    (∃ (q : Fin 32) (s : State),
      (s.q q).waiting = [] ∧ (s.q q).st ≠ .disabled ∧ (s.q q).stream = none ∧ (s.q q).chosen = none ∧ (s.q q).highest 8 = none ∧ s.qEnt q 10 = 0) ∧
    (∃ (q : Fin 32) (s : State),
      (s.q q).waiting = [] ∧ (s.q q).st ≠ .disabled ∧ (s.q q).stream = none ∧ (s.q q).chosen = none ∧ (s.q q).highest 8 = none ∧ s.qEnt q 10 ≠ 0) ∧
    (∃ (q : Fin 32) (l : Nat) (s : State),
      (s.q q).waiting = [] ∧ (s.q q).st ≠ .disabled ∧ (s.q q).spill = true ∧ (s.q q).stream = some l ∧ ((s.q q).level l).headN = 0 ∧ ((s.q q).level l).midN ≠ 0) ∧
    (∃ (c : Fin 8) (q : Fin 32) (w : List Nat) (l : Nat) (p : QPkt) (rest : List QPkt) (it : BitVec 128) (more : List (BitVec 128)) (s : State),
      (s.q q).waiting = c.val :: w ∧ (s.q q).stream = some l ∨ (s.q q).stream = none ∧ (s.q q).chosen = some l ∧ ((s.q q).level l).headN ≠ 0 ∧ ((s.q q).level l).pkts = p :: rest ∧ p.items = it :: more ∧ more ≠ []) ∧
    (∃ (c : Fin 8) (q : Fin 32) (w : List Nat) (l : Nat) (s : State),
      (s.q q).waiting = c.val :: w ∧ (s.q q).stream = some l ∧ ((s.q q).level l).headN = 0 ∧ ((s.q q).level l).midN ≠ 0) ∧
    (∃ (q : Fin 32) (s : State),
      (s.q q).st ≠ .disabled ∧ (s.q q).spill = true) ∧
    (∃ (q : Fin 32) (l : Fin 2) (s : State),
      (s.q q).st ≠ .disabled ∧ (s.q q).spill = true ∧ ((s.q q).level l).midN = 0 ∧ ((s.q q).level l).headN < 16) ∧
    (∃ (q : Fin 32) (l : Fin 2) (s : State),
      (s.q q).st ≠ .disabled ∧ (s.q q).spill = true ∧ ((s.q q).level l).inDue = false ∧ (s.q q).outDue l = true ∧ ((s.q q).level l).midN ≠ 0) ∧
    (∃ (q : Fin 32) (l : Fin 2) (s : State),
      (s.q q).st ≠ .disabled ∧ (s.q q).spill = true ∧ 4 ≤ ((s.q q).level l).midN ∧ ((s.q q).level l).headN + 4 ≤ 16) :=
  ⟨⟨31, 1, ⟨2, 0, [1, 2]⟩, [], 1, [2], queueUp 1 (fun _ => holding [1, 2]), by decide +kernel⟩,
   ⟨31, 1, ⟨1, 0, [1]⟩, [], 1, queueUp 1 (fun _ => { holding [1] with stream := some 1 }), by decide +kernel⟩,
   ⟨31, (queueUp 1 (fun x => { x with emptyMode := 1 })).setEnt (queueIdx 31) 10 0, by decide +kernel⟩,
   ⟨31, (queueUp 1 id).setEnt (queueIdx 31) 10 1, by decide +kernel⟩,
   ⟨31, 1, queueUp 1 (fun x => { x.onLevel 1 (fun v => { v with midN := 1 }) with spill := true, stream := some 1 }), by decide +kernel⟩,
   ⟨7, 31, [6], 1, ⟨2, 0, [1, 2]⟩, [], 1, [2], queueUp 1 (fun _ => { (holding [1, 2]).onLevel 1 (fun v => { v with headN := 2 }) with spill := true, stream := some 1, waiting := [7, 6] }), by decide +kernel⟩,
   ⟨7, 31, [6], 1, queueUp 1 (fun _ => { (holding [1, 2]).onLevel 1 (fun v => { v with midN := 1 }) with spill := true, stream := some 1, waiting := [7, 6] }), by decide +kernel⟩,
   ⟨31, queueUp 1 (fun _ => { holding [1, 2] with spill := true }), by decide +kernel⟩,
   ⟨31, 1, queueUp 1 (fun _ => { holding [1, 2] with spill := true }), by decide +kernel⟩,
   ⟨31, 1, queueUp 1 (fun _ => { (holding [1, 2, 3, 4, 5, 6]).onLevel 1 (fun v => { v with midN := 1 }) with spill := true }), by decide +kernel⟩,
   ⟨31, 1, queueUp 1 (fun x => { x.onLevel 1 (fun v => { v with midN := 4, headN := 12 }) with spill := true }), by decide +kernel⟩⟩

theorem witness_QueuesAreEnabledAndFlushed :
    (∃ (q : Fin 32) (s : State),
      s.boot.st = .running ∧ s.comm.nmt ≠ .stopped ∧ s.writeCheck (queueIdx q) 2 1 = 0 ∧ (s.q q).st = .disabled ∧ s.qConfigOk q = true ∧ s.qBlocked q = false) ∧
    (∃ (q : Fin 32) (s : State),
      s.boot.st = .running ∧ s.comm.nmt ≠ .stopped ∧ s.writeCheck (queueIdx q) 2 1 = 0 ∧ (s.q q).st = .disabled ∧ s.qConfigOk q = false) ∧
    (∃ (q : Fin 32) (s : State),
      s.boot.st = .running ∧ s.comm.nmt ≠ .stopped ∧ s.writeCheck (queueIdx q) 2 1 = 0 ∧ (s.q q).st = .disabled ∧ s.qConfigOk q = true ∧ s.qBlocked q = true) ∧
    (∃ (q : Fin 32) (s : State),
      s.boot.st = .running ∧ s.comm.nmt ≠ .stopped ∧ s.writeCheck (queueIdx q) 2 0 = 0 ∧ (s.q q).st = .enabled ∨ (s.q q).st = .flushPending ∧ (s.q q).stream = none) ∧
    (∃ (q : Fin 32) (l : Nat) (s : State),
      s.boot.st = .running ∧ s.comm.nmt ≠ .stopped ∧ s.writeCheck (queueIdx q) 2 0 = 0 ∧ (s.q q).st = .enabled ∨ (s.q q).st = .flushPending ∧ (s.q q).stream = some l) ∧
    (∃ (q : Fin 32) (s : State),
      s.boot.st = .running ∧ s.comm.nmt ≠ .stopped ∧ s.writeCheck (queueIdx q) 0x10 1 = 0 ∧ (s.q q).st = .enabled ∧ (s.q q).stream = none) ∧
    (∃ (q : Fin 32) (l : Nat) (s : State),
      s.boot.st = .running ∧ s.comm.nmt ≠ .stopped ∧ s.writeCheck (queueIdx q) 0x10 1 = 0 ∧ (s.q q).st = .enabled ∧ (s.q q).stream = some l) ∧
    (∃ (q : Fin 32) (s : State),
      s.boot.st = .running ∧ s.comm.nmt ≠ .stopped ∧ s.writeCheck (queueIdx q) 0x10 2 = 0) ∧
    (∃ (q : Fin 32) (s : State),
      (s.q q).st = .flushPending) ∧
    (∃ (q : Fin 32) (s : State),
      (s.q q).st = .disablePending) :=
  ⟨⟨31, qOff, by decide +kernel⟩,
   ⟨31, qOff.setEnt (queueIdx 31) 7 8, by decide +kernel⟩,
   ⟨31, qOff.onQ 30 (fun _ => aQueue), by decide +kernel⟩,
   ⟨31, queueUp 1 id, by decide +kernel⟩,
   ⟨31, 1, queueUp 1 (fun _ => { holding [1] with stream := some 1 }), by decide +kernel⟩,
   ⟨31, queueUp 1 (fun _ => holding [1]), by decide +kernel⟩,
   ⟨31, 1, queueUp 1 (fun _ => { holding [1] with stream := some 1 }), by decide +kernel⟩,
   ⟨31, queueUp 1 (fun x => { x with underrun := true }), by decide +kernel⟩,
   ⟨31, queueUp 1 (fun _ => { holding [1] with stream := some 1, st := .flushPending }), by decide +kernel⟩,
   ⟨31, queueUp 1 (fun _ => { holding [1] with stream := some 1, st := .disablePending }), by decide +kernel⟩⟩

theorem witness_MoversRun :
    (∃ (m : Fin 16) (tail : BitVec 16) (s : State),
      (s.mover m).st ≠ .disabled ∧ (tail.toNat + 65536 - (s.mover m).head) % 65536 ≤ (s.mover m).ringSize ∧ (s.mover m).pending ≤ (tail.toNat + 65536 - (s.mover m).head) % 65536) ∧
    (∃ (m : Fin 16) (tail : BitVec 16) (s : State),
      (s.mover m).st ≠ .disabled ∧ ((s.mover m).ringSize < (tail.toNat + 65536 - (s.mover m).head) % 65536 ∨ (tail.toNat + 65536 - (s.mover m).head) % 65536 < (s.mover m).pending)) ∧
    (∃ (m : Fin 16) (s : State),
      (s.mover m).st = .disabled ∧ s.ringOk (s.mover m) = true) ∧
    (∃ (m : Fin 16) (s : State),
      (s.mover m).st = .disabled ∧ s.ringOk (s.mover m) = false) ∧
    (∃ (m : Fin 16) (s : State),
      (s.mover m).st = .active) ∧
    (∃ (m : Fin 16) (i : Nat) (a : Nat) (b : List Byte) (s : State),
      (s.mover m).st = .active ∧ (s.mover m).flight.length < (s.mover m).pending ∧ (s.mover m).flight.length < 128 ∧ s.inFlightDescs < 2048 ∧ i = ((s.mover m).head + (s.mover m).flight.length) % 65536 ∧ a = (s.mover m).descAddr i ∧ s.ncReadFail .mover a 32 = none ∧ b = s.moverBytes m a 32 ∧ (numAt b 20 1).testBit 2 = false ∨ (s.mover m).flight = [] ∧ s.descMalformed b = true) ∧
    (∃ (m : Fin 16) (i : Nat) (a : Nat) (b : List Byte) (d : DescRun) (s : State),
      (s.mover m).st = .active ∧ (s.mover m).flight = [] ∧ 0 < (s.mover m).pending ∧ s.inFlightDescs < 2048 ∧ i = (s.mover m).head % 65536 ∧ a = (s.mover m).descAddr i ∧ s.ncReadFail .mover a 32 = none ∧ b = s.moverBytes m a 32 ∧ s.descMalformed b = false ∧ d = descOf i a b ∧ d.fill = true ∧ (numAt b 20 1).testBit 2 = false ∧ d.dst % 64 + d.len ≤ 64 ∧ s.isLocal d.dst = true ∧ s.rangeKind .mover true (offsetOf d.dst) d.len = none) ∧
    (∃ (m : Fin 16) (i : Nat) (a : Nat) (b : List Byte) (s : State),
      (s.mover m).st = .active ∧ (s.mover m).flight ≠ [] ∧ i = ((s.mover m).head + (s.mover m).flight.length) % 65536 ∧ a = (s.mover m).descAddr i ∧ s.ncReadFail .mover a 32 = none ∧ b = s.moverBytes m a 32 ∧ (numAt b 20 1).testBit 2 = true) ∧
    (∃ (m : Fin 16) (d : DescRun) (rest : List DescRun) (s : State),
      (s.mover m).flight = d :: rest ∧ (s.mover m).item = none ∧ d.waiting = false ∧ d.moveDone = true ∧ (s.mover m).st = .active) ∧
    (∃ (m : Fin 16) (s : State),
      (s.mover m).st = .aborting ∧ (s.mover m).flight = [] ∧ (s.mover m).pending = 0 ∧ (s.mover m).item = none) ∧
    (∃ (m : Fin 16) (s : State) (u : State),
      (s.mover m).st = .aborting ∧ (s.mover m).flight.all (fun d => !d.waiting) = true ∧ u = s.abortAll 65536 m ∧ (u.mover m).pending = 0 ∧ (u.mover m).item = none) ∧
    (∃ (m : Fin 16) (s : State),
      (s.mover m).st = .aborting) ∧
    (∃ (m : Fin 16) (q : Nat) (it : BitVec 128) (s : State) (u : State),
      (s.mover m).item = some (q, it) ∧ s.hwPush q [it] = some u) :=
  ⟨⟨15, 16, moverUp { aMover with tail := 15 }, by decide +kernel⟩,
   ⟨15, 17, moverUp aMover, by decide +kernel⟩,
   ⟨15, moverUp { aMover with st := .disabled, size := 4, base := 0x40002000 }, by decide +kernel⟩,
   ⟨15, moverUp { aMover with st := .disabled, size := 5 }, by decide +kernel⟩,
   ⟨15, moverUp aMover, by decide +kernel⟩,
   ⟨15, 0, 0x40001000, List.replicate 32 0, moverUp aMover, by decide +kernel⟩,
   ⟨15, 0, 0x40001000, fillDesc, descOf 0 0x40001000 fillDesc, (moverUp aMover).putBytes 0x40001000 fillDesc, by decide +kernel⟩,
   ⟨15, 1, 0x40001020, slice (List.replicate 20 0 ++ [4]) 0 32, (moverUp { aMover with flight := [⟨0, 0x40001000, 0, false, false, 0, 0, 0, 0, 0, 0, 0, 0, false, [], 0, false⟩] }).putBytes 0x40001020 (List.replicate 20 0 ++ [4]), by decide +kernel⟩,
   ⟨15, { descOf 0 0x40001000 fillDesc with moved := 64 }, [], moverUp { aMover with flight := [{ descOf 0 0x40001000 fillDesc with moved := 64 }] }, by decide +kernel⟩,
   ⟨15, moverUp { aMover with st := .aborting, tail := 0 }, by decide +kernel⟩,
   ⟨15, moverUp { aMover with st := .aborting, tail := 0 }, moverUp { aMover with st := .aborting, tail := 0 }, by decide +kernel⟩,
   ⟨15, moverUp { aMover with st := .aborting }, by decide +kernel⟩,
   ⟨15, 31, 5, moverUp { aMover with item := some (31, 5) }, (moverUp { aMover with item := some (31, 5) }).count (queueIdx 31) 0x15 1, by decide +kernel⟩⟩

theorem witness_ChoirPortsTrainAndFail :
    (∃ (p : Fin 2) (s : State),
      s.choirOn = true ∧ (s.clPort p).st = .training ∧ (s.clPort p).retraining = false) ∧
    (∃ (p : Fin 2) (s : State),
      s.choirOn = true ∧ (s.clPort p).st = .training ∧ (s.clPort p).retraining = true) ∧
    (∃ (p : Fin 2) (s : State),
      s.choirOn = true ∧ (s.clPort p).st = .down) ∧
    (∃ (v : LinkVia) (s : State),
      (s.clUp v.port = false ∨ v.seq ≠ (s.clPort v.port).lastGood + 1)) ∧
    (∃ (p : Fin 2) (bytes : List Byte) (s : State),
      s.clUp p = true ∧ frameCrcOk bytes = false) ∧
    (∃ (p : Fin 2) (bytes : List Byte) (s : State),
      s.clUp p = true ∧ frameCrcOk bytes = true ∧ frameFormOk bytes = false) ∧
    (∃ (p : Fin 2) (a : BitVec 16) (s : State),
      s.clUp p = true ∧ unacked a (s.clPort p).sent = []) ∧
    (∃ (p : Fin 2) (a : BitVec 16) (f : LinkFrame) (l : List LinkFrame) (s : State),
      s.clUp p = true ∧ unacked a (s.clPort p).sent = f :: l ∧ ((((s.onClPort p (fun x => { x with sent := unacked a x.sent })).count 0x8000 0xF 1).onClPort p (ClPortSt.replayed f)).clPort p).replays < 16) ∧
    (∃ (p : Fin 2) (a : BitVec 16) (f : LinkFrame) (l : List LinkFrame) (s : State),
      s.clUp p = true ∧ unacked a (s.clPort p).sent = f :: l ∧ 16 ≤ ((((s.onClPort p (fun x => { x with sent := unacked a x.sent })).count 0x8000 0xF 1).onClPort p (ClPortSt.replayed f)).clPort p).replays) ∧
    (∃ (a : BitVec 16) (p : Nat) (f : LinkFrame) (l : List LinkFrame) (s : State),
      unacked a (s.clPort p).sent = f :: l) ∧
    (∃ (p : Fin 2) (s : State),
      (s.clPort p).st = .training ∧ (s.clPort p).retraining = false) ∧
    (∃ (p : Fin 2) (s : State),
      (s.clPort p).st = .training ∧ (s.clPort p).retraining = true) ∧
    (∃ (p : Fin 2) (s : State),
      (s.clPort p).st = .up) ∧
    (∃ (v : LinkVia) (f : LinkFrame) (s : State),
      f = ctrlFrame v 0x0F (([] : List Byte)) ∧ s.linkTakes v f (segCount (List.length (([] : List Byte)))) = true) ∧
    (∃ (src : Fin 16) (tag : Fin 16) (q : Partial) (s : State),
      s.choir.partials.find? (Partial.of src tag) = some q) :=
  ⟨⟨1, clUp 1 .training, by decide +kernel⟩,
   ⟨1, (clUp 1 .training).onClPort 1 (fun x => { x with retraining := true }), by decide +kernel⟩,
   ⟨1, clUp 1 .down, by decide +kernel⟩,
   ⟨{ via 3 none with port := 0 }, clUp 1 .up, by decide +kernel⟩,
   ⟨1, [1, 2], clUp 1 .up, by decide +kernel⟩,
   ⟨1, LinkFrame.bytes { kind := 0x10, cls := 0, src := 0, dst := 0, flags := 0 }, clUp 1 .up, by decide +kernel⟩,
   ⟨1, 5, clUp 1 .up, by decide +kernel⟩,
   ⟨1, 5, sent6, [], (clUp 1 .up).onClPort 1 (fun x => { x with replayOf := 6, replays := 14, sent := [sent6] }), by decide +kernel⟩,
   ⟨1, 5, sent6, [], (clUp 1 .up).onClPort 1 (fun x => { x with replayOf := 6, replays := 15, sent := [sent6] }), by decide +kernel⟩,
   ⟨5, 1, sent6, [], (clUp 1 .up).onClPort 1 (fun x => { x with sent := [sent6] }), by decide +kernel⟩,
   ⟨1, clUp 1 .training, by decide +kernel⟩,
   ⟨1, (clUp 1 .training).onClPort 1 (fun x => { x with retraining := true }), by decide +kernel⟩,
   ⟨1, clUp 1 .up, by decide +kernel⟩,
   ⟨via 0 none, ctrlFrame (via 0 none) 0x0F [], clUp 1 .up, by decide +kernel⟩,
   ⟨15, 15, ⟨15, false, 15, 1, 0, false⟩, up.onChoir (fun c => { c with partials := [⟨15, false, 15, 1, 0, false⟩] }), by decide +kernel⟩⟩

theorem witness_ChoirMembershipChanges :
    (∃ (v : LinkVia) (f : LinkFrame) (h : HelloMsg) (s : State),
      f = ctrlFrame v 1 (helloBytes h) ∧ s.linkTakes v f (segCount (List.length (helloBytes h))) = true) ∧
    (∃ (p : Nat) (h : HelloMsg) (s : State),
      (s.onClPort p (fun x => { x with neighbour := some h })).dissolving h = false ∧ (helloOk h = false ∨ h.role = 3 ∨ h.precSerial = s.precSerial)) ∧
    (∃ (p : Nat) (h : HelloMsg) (s : State),
      (s.onClPort p (fun x => { x with neighbour := some h })).dissolving h = false ∧ helloOk h = true ∧ h.role ≠ 3 ∧ h.precSerial ≠ s.precSerial ∧ s.choir.role = .standalone ∧ (h.members < s.memberCount ∨ h.members = s.memberCount ∧ s.precSerial < h.precSerial)) ∧
    (∃ (p : Nat) (h : HelloMsg) (s : State),
      (s.onClPort p (fun x => { x with neighbour := some h })).dissolving h = false ∧ helloOk h = true ∧ h.role ≠ 3 ∧ h.precSerial ≠ s.precSerial ∧ s.choir.role = .standalone ∧ (¬ (h.members < s.memberCount ∨ h.members = s.memberCount ∧ s.precSerial < h.precSerial))) ∧
    (∃ (h : HelloMsg) (s : State),
      s.dissolving h = true) ∧
    (∃ (v : LinkVia) (f : LinkFrame) (m : MemberMsg) (s : State),
      f = ctrlFrame v 2 (memberBytes m) ∧ s.linkTakes v f (segCount (List.length (memberBytes m))) = true) ∧
    (∃ (m : MemberMsg) (c : MemberChange) (s : State),
      s.choir.role = .follower ∧ c.generation = m.generation ∧ c.era = ((m.era : Int) - s.choir.offset / 256).toNat ∧ c.serials = (List.range 16).map (fun i => m.serials.getD i 0) ∧ c.offsets = (List.range 16).map (fun i => m.offsets.getD i 0) ∧ s.otherMembers.filter (fun i => decide (m.serials.getD i 0 = 0)) = []) ∧
    (∃ (m : MemberMsg) (c : MemberChange) (s : State),
      s.choir.role = .follower ∧ c.generation = m.generation ∧ c.era = ((m.era : Int) - s.choir.offset / 256).toNat ∧ c.serials = (List.range 16).map (fun i => m.serials.getD i 0) ∧ c.offsets = (List.range 16).map (fun i => m.offsets.getD i 0)) ∧
    (∃ (v : LinkVia) (f : LinkFrame) (n : Nat) (k : Nat) (s : State),
      f = ctrlFrame v 3 (heartbeatBytes n k) ∧ s.linkTakes v f (segCount (List.length (heartbeatBytes n k))) = true) ∧
    (∃ (src : Nat) (n : Nat) (s : State),
      s.choir.role = .precentor ∧ s.reachable src = true ∧ n = s.choir.generation) ∧
    (∃ (src : Nat) (n : Nat) (k : Nat) (s : State),
      s.choir.role = .precentor ∧ s.reachable src = true ∧ n ≠ s.choir.generation ∧ k % 256 = 0) ∧
    (∃ (v : LinkVia) (f : LinkFrame) (serial : BitVec 32) (n : Nat) (e : Int) (s : State),
      f = ctrlFrame v 7 (joinBytes serial.toNat n e) ∧ s.linkTakes v f (segCount (List.length (joinBytes serial.toNat n e))) = true) ∧
    (∃ (s : State),
      s.choir.role = .precentor) ∧
    (∃ (serial : Nat) (i : Nat) (s : State),
      s.choir.role = .precentor ∧ s.nextSerials.contains serial = false ∧ (List.range 16).find? (fun i => s.idFree i) = some i) ∧
    (∃ (v : LinkVia) (f : LinkFrame) (time : BitVec 64) (s : State),
      f = ctrlFrame v 5 (leBytes 8 time.toNat) ∧ s.linkTakes v f (segCount (List.length (leBytes 8 time.toNat))) = true) ∧
    (∃ (s : State),
      s.choir.role = .precentor) ∧
    (∃ (v : LinkVia) (f : LinkFrame) (time : BitVec 64) (turn : BitVec 32) (a : Nat) (u : State) (s : State),
      u = s.upTo (a / 1000) ∧ f = ctrlFrame v 6 (pongBytes time.toNat turn.toNat) ∧ u.linkTakes v f (segCount (List.length (pongBytes time.toNat turn.toNat))) = true) ∧
    (∃ (s : State),
      (s.choir.role = .follower ∨ s.choir.role = .joining)) ∧
    (∃ (id : Fin 16) (s : State),
      s.reachable id = true) ∧
    (∃ (id : Fin 16) (s : State),
      s.reachable id = true) ∧
    (∃ (s : State),
      s.choir.role = .precentor) ∧
    (∃ (id : Nat) (s : State),
      s.choir.role = .follower ∧ id ≠ s.choir.precentor) ∧
    (∃ (id : Fin 16) (s : State),
      s.choir.role = .precentor ∧ s.reachable id = true) ∧
    (∃ (id : Fin 16) (s : State),
      (s.choir.role ≠ .precentor ∨ s.reachable id = false)) :=
  ⟨⟨via 3 (some 0), ctrlFrame (via 3 (some 0)) 1 (helloBytes (helloOf 3 0 7)), helloOf 3 0 7, clUp 1 .up, by decide +kernel⟩,
   ⟨5, helloOf 3 0 7, clUp 1 .up, by decide +kernel⟩,
   ⟨5, helloOf 1 1 (Config.serial + 1), clUp 1 .up, by decide +kernel, rfl, by decide +kernel, Nat.succ_ne_self _, rfl, Or.inr ⟨rfl, Nat.lt_succ_self _⟩⟩,
   ⟨5, helloOf 1 1 0, clUp 1 .up, by decide +kernel, rfl, by decide +kernel, (Nat.succ_ne_zero _).symm, rfl, fun h => h.elim (Nat.lt_irrefl 1) (fun h => Nat.not_lt_zero _ h.2)⟩,
   ⟨{ helloOf 3 0 7 with serial := 100 }, choirUp .follower 3, by decide +kernel⟩,
   ⟨{ via 0 none with seg := 1 }, ctrlFrame ({ via 0 none with seg := 1 }) 2 (memberBytes ⟨1, 1, [], []⟩), ⟨1, 1, [], []⟩, (linked .follower 3).onChoir (fun c => { c with partials := [⟨0, true, 15, 1, 0, false⟩] }), by decide +kernel⟩,
   ⟨⟨1, 1, [100], []⟩, ⟨1, 1, (List.range 16).map (fun i => [100].getD i 0), (List.range 16).map (fun i => ([] : List Int).getD i 0)⟩, choirUp .follower 3, by decide +kernel⟩,
   ⟨⟨1, 1, [], []⟩, ⟨1, 1, (List.range 16).map (fun i => ([] : List Nat).getD i 0), (List.range 16).map (fun i => ([] : List Int).getD i 0)⟩, choirUp .follower 3, by decide +kernel⟩,
   ⟨via 3 (some 0), ctrlFrame (via 3 (some 0)) 3 (heartbeatBytes 5 5), 5, 5, linked .precentor 0, by decide +kernel⟩,
   ⟨3, 0, choirUp .precentor 0, by decide +kernel⟩,
   ⟨3, 5, 256, choirUp .precentor 0, by decide +kernel⟩,
   ⟨via 3 (some 0), ctrlFrame (via 3 (some 0)) 7 (joinBytes 5 1 5), 5, 1, 5, linked .precentor 0, by decide +kernel⟩,
   ⟨choirUp .precentor 0, by decide +kernel⟩,
   ⟨1, 1, choirUp .precentor 0, by decide +kernel⟩,
   ⟨via 3 (some 0), ctrlFrame (via 3 (some 0)) 5 (leBytes 8 5), 5, linked .precentor 0, by decide +kernel⟩,
   ⟨choirUp .precentor 0, by decide +kernel⟩,
   ⟨{ via 0 none with unassigned := true }, ctrlFrame ({ via 0 none with unassigned := true }) 6 (pongBytes 5 5), 5, 5, 5, linked .joining 0, linked .joining 0, by decide +kernel⟩,
   ⟨choirUp .joining 0, by decide +kernel⟩,
   ⟨3, choirUp .precentor 0, by decide +kernel⟩,
   ⟨3, choirUp .precentor 0, by decide +kernel⟩,
   ⟨choirUp .precentor 0, by decide +kernel⟩,
   ⟨5, choirUp .follower 3, by decide +kernel⟩,
   ⟨3, choirUp .precentor 0, by decide +kernel⟩,
   ⟨0, choirUp .precentor 0, by decide +kernel⟩⟩

theorem witness_ChoirBeatsAndBarriers :
    (∃ (v : LinkVia) (f : LinkFrame) (b : BeatMsg) (u : State) (s : State),
      u = s.upTo (b.arrivalNs / 1000) ∧ f = ctrlFrame v 4 (beatBytes b) ∧ u.linkTakes v f (segCount (List.length (beatBytes b))) = true) ∧
    (∃ (b : BeatMsg) (e : Int) (s : State) (t : State),
      t = s.takeBeat b ∧ s.choir.role = .follower ∧ s.choir.beat = .following ∧ b.halted = s.choir.fabricHalted ∧ b.ledgerFail = false ∧ e = nearest (s.frameTime b - s.startOf' b.period ((b.beat : Int) - s.choir.offset)) (256 * b.period)) ∧
    (∃ (b : BeatMsg) (e : Int) (s : State) (t : State),
      t = s.takeBeat b ∧ s.choir.role = .follower ∧ s.choir.beat = .following ∧ b.halted = s.choir.fabricHalted ∧ b.ledgerFail = false ∧ e = nearest (s.frameTime b - s.startOf' b.period ((b.beat : Int) - s.choir.offset)) (256 * b.period)) ∧
    (∃ (b : BeatMsg) (e : Int) (s : State) (t : State),
      t = s.takeBeat b ∧ s.choir.role = .follower ∧ s.choir.beat = .following ∧ b.halted = s.choir.fabricHalted ∧ b.ledgerFail = false ∧ e = nearest (s.frameTime b - s.startOf' b.period ((b.beat : Int) - s.choir.offset)) (256 * b.period)) ∧
    (∃ (b : BeatMsg) (e : Int) (s : State) (t : State),
      t = s.takeBeat b ∧ s.choir.role = .follower ∧ s.choir.beat = .following ∧ b.halted = s.choir.fabricHalted ∧ b.ledgerFail = false ∧ e = nearest (s.frameTime b - s.startOf' b.period ((b.beat : Int) - s.choir.offset)) (256 * b.period)) ∧
    (∃ (b : BeatMsg) (e : Int) (s : State) (t : State),
      t = s.takeBeat b ∧ s.choir.role = .follower ∧ s.choir.beat = .following ∧ b.halted = s.choir.fabricHalted ∧ b.ledgerFail = false ∧ e = nearest (s.frameTime b - s.startOf' b.period ((b.beat : Int) - s.choir.offset)) (256 * b.period)) ∧
    (∃ (b : BeatMsg) (e : Int) (s : State) (t : State),
      t = s.takeBeat b ∧ s.choir.role = .follower ∧ s.choir.beat = .following ∧ b.halted = s.choir.fabricHalted ∧ b.ledgerFail = false ∧ e = nearest (s.frameTime b - s.startOf' b.period ((b.beat : Int) - s.choir.offset)) (256 * b.period)) ∧
    (∃ (b : BeatMsg) (e : Int) (s : State) (t : State),
      t = s.takeBeat b ∧ s.choir.role = .follower ∧ s.choir.beat = .following ∧ b.halted = s.choir.fabricHalted ∧ b.ledgerFail = false ∧ e = nearest (s.frameTime b - s.startOf' b.period ((b.beat : Int) - s.choir.offset)) (256 * b.period) ∧ inTol b.period e = true) ∧
    (∃ (b : BeatMsg) (e : Int) (s : State) (t : State),
      t = s.takeBeat b ∧ s.choir.role = .follower ∧ s.choir.beat = .following ∧ b.halted = s.choir.fabricHalted ∧ b.ledgerFail = false ∧ e = nearest (s.frameTime b - s.startOf' b.period ((b.beat : Int) - s.choir.offset)) (256 * b.period) ∧ inTol b.period e = false) ∧
    (∃ (s : State),
      s.choir.role = .follower ∧ s.choir.beat = .following ∧ s.choir.beatSeenAt < s.beat.number) ∧
    (∃ (v : LinkVia) (f : LinkFrame) (n : Nat) (k : Nat) (l : List (Nat × Nat × Nat)) (s : State),
      f = ctrlFrame v 0x0B (barrierBytes n k l) ∧ s.linkTakes v f (segCount (List.length (barrierBytes n k l))) = true) ∧
    (∃ (v : LinkVia) (f : LinkFrame) (n : Nat) (terms : LinkTerms) (l : List (Nat × Nat × Nat)) (s : State),
      f = ctrlFrame v 0x0C (stageEndBytes n terms l) ∧ s.linkTakes v f (segCount (List.length (stageEndBytes n terms l))) = true) ∧
    (∃ (v : LinkVia) (s : State),
      v.dst = none ∧ s.choir.role = .follower) ∧
    (∃ (v : LinkVia) (s : State),
      v.dst ≠ none ∧ s.choir.role = .precentor ∧ s.reachable v.src = true ∧ s.choir.ownReport = none) ∧
    (∃ (v : LinkVia) (r : Report) (o : Report) (n : Nat) (k : List Report) (s : State),
      v.dst ≠ none ∧ s.choir.role = .precentor ∧ s.reachable v.src = true ∧ r.rank = some n ∧ s.choir.ownReport = some o ∧ o.beat = r.beat ∧ o.rank = some n ∧ k = (s.choir.reports.filter (fun x => !(decide (x.src = r.src) && x.same r)) ++ [r]).filter (fun x => x.same o) ∧ s.liveMembers.all (fun i => k.any (fun x => decide (x.src = i))) = true ∧ balanced (k.filter (fun x => s.liveMembers.contains x.src)) = true) ∧
    (∃ (r : Report) (n : Nat) (s : State),
      s.choir.ownReport = some r ∧ n = s.ownBeatNo r.beat ∧ (match r.rank with | some k => s.rankQuiet n k | none => s.stageQuiet n) = true) ∧
    (∃ (r : Report) (n : Nat) (s : State),
      s.choir.ownReport = some r ∧ s.choir.role ≠ .precentor ∧ n = s.ownBeatNo r.beat ∧ (match r.rank with | some k => s.rankQuiet n k | none => s.stageQuiet n) = false) ∧
    (∃ (s : State),
      s.choir.role ≠ .precentor) ∧
    (∃ (v : LinkVia) (f : LinkFrame) (n : Nat) (s : State),
      f = ctrlFrame v 0x0E (switchBytes 0 n 0) ∧ s.linkTakes v f (segCount (List.length (switchBytes 0 n 0))) = true) ∧
    (∃ (s : State),
      s.choir.role = .follower) ∧
    (∃ (v : LinkVia) (f : LinkFrame) (n : Nat) (s : State),
      f = ctrlFrame v 0x0E (switchBytes 1 n 0) ∧ s.linkTakes v f (segCount (List.length (switchBytes 1 n 0))) = true) ∧
    (∃ (src : Nat) (j : SwitchJob) (s : State),
      s.choir.switch = some j ∧ s.choir.role = .precentor ∧ src ∉ j.accepted ∧ (∃ i, i ∈ s.otherMembers ∧ i ∉ j.accepted ++ [src])) ∧
    (∃ (src : Nat) (j : SwitchJob) (s : State),
      s.choir.switch = some j ∧ s.choir.role = .precentor ∧ src ∉ j.accepted ∧ (∀ i, i ∈ s.otherMembers → i ∈ j.accepted ++ [src]) ∧ s.activateCode = 0) ∧
    (∃ (v : LinkVia) (f : LinkFrame) (n : Nat) (status : BitVec 32) (s : State),
      f = ctrlFrame v 0x0E (switchBytes 2 n status.toNat) ∧ s.linkTakes v f (segCount (List.length (switchBytes 2 n status.toNat))) = true) ∧
    (∃ (s : State),
      s.choir.role = .precentor) ∧
    (∃ (n : Nat) (s : State),
      s.choir.role = .precentor ∧ s.choir.switch = none ∧ s.choir.switchLast = some n) ∧
    (∃ (j : SwitchJob) (s : State),
      s.choir.switch = some j) ∧
    (∃ (v : LinkVia) (f : LinkFrame) (n : Nat) (s : State),
      f = ctrlFrame v 0x0E (switchBytes 3 n 0) ∧ s.linkTakes v f (segCount (List.length (switchBytes 3 n 0))) = true) ∧
    (∃ (s : State),
      s.choir.role = .follower ∧ s.validSlot.isSome = true ∧ s.nvm.pendingSwitch = none) ∧
    (∃ (v : LinkVia) (f : LinkFrame) (n : Nat) (s : State),
      f = ctrlFrame v 0x0E (switchBytes 4 n 0) ∧ s.linkTakes v f (segCount (List.length (switchBytes 4 n 0))) = true) ∧
    (∃ (n : Nat) (s : State),
      s.choir.role = .follower ∧ s.choir.switchEra = some (s.ownEra n)) :=
  ⟨⟨via 0 none, ctrlFrame (via 0 none) 4 (beatBytes (beatMsg 1020000)), beatMsg 1020000, State.upTo 1020 (linked .follower 3), linked .follower 3, by decide +kernel⟩,
   ⟨beatMsg 1020000, 20, choirUp .follower 3, State.takeBeat (beatMsg 1020000) (choirUp .follower 3), rfl, by decide +kernel⟩,
   ⟨beatMsg 1020000, 20, choirUp .follower 3, State.takeBeat (beatMsg 1020000) (choirUp .follower 3), rfl, by decide +kernel⟩,
   ⟨beatMsg 1020000, 20, choirUp .follower 3, State.takeBeat (beatMsg 1020000) (choirUp .follower 3), rfl, by decide +kernel⟩,
   ⟨beatMsg 1020000, 20, choirUp .follower 3, State.takeBeat (beatMsg 1020000) (choirUp .follower 3), rfl, by decide +kernel⟩,
   ⟨beatMsg 1020000, 20, choirUp .follower 3, State.takeBeat (beatMsg 1020000) (choirUp .follower 3), rfl, by decide +kernel⟩,
   ⟨beatMsg 1020000, 20, choirUp .follower 3, State.takeBeat (beatMsg 1020000) (choirUp .follower 3), rfl, by decide +kernel⟩,
   ⟨beatMsg 1020000, 20, choirUp .follower 3, State.takeBeat (beatMsg 1020000) (choirUp .follower 3), rfl, by decide +kernel⟩,
   ⟨beatMsg 1021000, 21, choirUp .follower 3, State.takeBeat (beatMsg 1021000) (choirUp .follower 3), rfl, by decide +kernel⟩,
   ⟨(choirUp .follower 3).onBeat (fun b => { b with number := 1 }), by decide +kernel⟩,
   ⟨via 3 (some 0), ctrlFrame (via 3 (some 0)) 0x0B (barrierBytes 5 0 [(0, 2, 1)]), 5, 0, [(0, 2, 1)], linked .precentor 0, by decide +kernel⟩,
   ⟨via 3 (some 0), ctrlFrame (via 3 (some 0)) 0x0C (stageEndBytes 5 {} [(0, 2, 1)]), 5, {}, [(0, 2, 1)], linked .precentor 0, by decide +kernel⟩,
   ⟨via 0 none, linked .follower 3, by decide +kernel⟩,
   ⟨via 3 (some 0), choirUp .precentor 0, by decide +kernel⟩,
   ⟨via 3 (some 0), ⟨3, 5, some 0, [(0, 2, 1)], {}⟩, aReport, 0, [aReport, ⟨3, 5, some 0, [(0, 2, 1)], {}⟩], (choirUp .precentor 0).onChoir (fun c => { c with reports := [aReport], ownReport := some aReport }), by decide +kernel⟩,
   ⟨aReport, 5, (choirUp .follower 3).onChoir (fun c => { c with ownReport := some aReport }), by decide +kernel⟩,
   ⟨aReport, 5, ((choirUp .follower 3).onChoir (fun c => { c with ownReport := some aReport })).onCore 255 (fun _ => { outbox := [{ flit with pkt := pkt 1, stage := 5 }] }), by decide +kernel⟩,
   ⟨(choirUp .follower 3).onChoir (fun c => { c with ownReport := some aReport }), by decide +kernel⟩,
   ⟨via 0 none, ctrlFrame (via 0 none) 0x0E (switchBytes 0 5 0), 5, linked .follower 3, by decide +kernel⟩,
   ⟨choirUp .follower 3, by decide +kernel⟩,
   ⟨via 3 (some 0), ctrlFrame (via 3 (some 0)) 0x0E (switchBytes 1 5 0), 5, ((linked .precentor 0).onChoir (fun c => { c with switch := some ⟨1, [], .local⟩ })).onNvm (fun n => { n with slot1 := .valid }), by decide +kernel⟩,
   ⟨5, ⟨1, [], .local⟩, (choirUp .precentor 0).onChoir (fun c => { c with switch := some ⟨1, [], .local⟩ }), by decide +kernel⟩,
   ⟨3, ⟨1, [], .local⟩, ((choirUp .precentor 0).onChoir (fun c => { c with switch := some ⟨1, [], .local⟩ })).onNvm (fun n => { n with slot1 := .valid }), by decide +kernel⟩,
   ⟨via 3 (some 0), ctrlFrame (via 3 (some 0)) 0x0E (switchBytes 2 5 5), 5, 5, ((linked .precentor 0).onChoir (fun c => { c with switch := some ⟨1, [], .local⟩ })).onNvm (fun n => { n with slot1 := .valid }), by decide +kernel⟩,
   ⟨choirUp .precentor 0, by decide +kernel⟩,
   ⟨5, (choirUp .precentor 0).onChoir (fun c => { c with switchLast := some 5 }), by decide +kernel⟩,
   ⟨⟨1, [], .local⟩, (choirUp .precentor 0).onChoir (fun c => { c with switch := some ⟨1, [], .local⟩ }), by decide +kernel⟩,
   ⟨via 0 none, ctrlFrame (via 0 none) 0x0E (switchBytes 3 5 0), 5, linked .follower 3, by decide +kernel⟩,
   ⟨(choirUp .follower 3).onNvm (fun n => { n with slot1 := .valid }), by decide +kernel⟩,
   ⟨via 0 none, ctrlFrame (via 0 none) 0x0E (switchBytes 4 5 0), 5, linked .follower 3, by decide +kernel⟩,
   ⟨5, (choirUp .follower 3).onChoir (fun c => { c with switchEra := some 5 }), by decide +kernel⟩⟩

theorem witness_ChoirTraffic :
    (∃ (v : LinkVia) (f : LinkFrame) (vn1 : Bool) (slots : List (Bool × Packet)) (s : State),
      f = viaFrame v 8 (if vn1 then 2 else 1) (eventsField slots) (eventsBytes slots) ∧ s.linkTakes v f 1 = true) ∧
    (∃ (p : Packet),
      p.type = 4) ∧
    (∃ (vn1 : Bool) (p : Packet) (s : State),
      (p.type.toNat < 4 ∨ 8 ≤ p.type.toNat) ∧ s.flitShed (s.importFlit vn1 p) = false) ∧
    (∃ (p : Packet),
      (p.type = 5 ∨ p.type = 6 ∨ p.type = 7)) ∧
    (∃ (v : LinkVia) (s : State),
      s.reachable v.src = true) ∧
    (∃ (e : Import) (rest : List Import) (s : State),
      s.choir.imports = e :: rest ∧ s.credit (credKey 0 7 0) ≠ 0 ∧ s.coreUp 0 = true ∧ s.beat.hardHalt = false) ∧
    (∃ (v : LinkVia) (f : LinkFrame) (tag : Nat) (len : Nat) (wr : Bool) (addr : Addr) (data : List Byte) (s : State),
      f = viaFrame v 9 3 (0) (memBytes tag (b2n wr) len addr.toNat data) ∧ s.linkTakes v f 1 = true) ∧
    (∃ (len : Nat) (addr : Nat) (a : Nat) (s : State),
      s.choirMember = true ∧ s.isLocal addr = true ∧ a = offsetOf addr ∧ s.ncReadFail .remote a len = none) ∧
    (∃ (addr : Nat) (a : Nat) (s : State),
      s.choirMember = true ∧ s.isLocal addr = true ∧ a = offsetOf addr) ∧
    (∃ (addr : Nat) (a : Nat) (data : List Byte) (s : State),
      s.choirMember = true ∧ s.isLocal addr = true ∧ a = offsetOf addr ∧ s.rangeKind .remote true a data.length = none) ∧
    (∃ (addr : Nat) (a : Nat) (s : State),
      s.choirMember = true ∧ s.isLocal addr = true ∧ a = offsetOf addr) ∧
    (∃ (v : LinkVia) (f : LinkFrame) (tag : Nat) (status : Nat) (wr : Bool) (addr : Addr) (data : List Byte) (s : State),
      f = viaFrame v 0x0A 4 (0) (rspBytes tag wr addr.toNat status data) ∧ s.linkTakes v f 1 = true) ∧
    (∃ (tag : Nat) (c : Nat) (r : RemoteReq) (s : State) (u : State),
      s.takeRequest tag = some (r, u) ∧ r.who = .cantorLoad c) ∧
    (∃ (tag : Nat) (c : Nat) (r : RemoteReq) (s : State) (u : State),
      s.takeRequest tag = some (r, u) ∧ r.who = .cantorLoad c ∧ s.memu.waitq = []) ∧
    (∃ (tag : Nat) (r : RemoteReq) (u : State) (s : State),
      s.takeRequest tag = some (r, u)) ∧
    (∃ (v : LinkVia) (f : LinkFrame) (m : ForwardMsg) (s : State),
      f = ctrlFrame v 0x0D (forwardBytes m) ∧ s.linkTakes v f (segCount (List.length (forwardBytes m))) = true) ∧
    (∃ (src : Nat) (s : State),
      s.boot.st = .running ∧ s.choirMember = true ∧ src = s.choir.precentor) ∧
    (∃ (data : List Byte) (r : Nat × List Byte × State) (s : State),
      data.length = 4 ∧ r = s.serveRead (numAt data 0 2) (numAt data 2 1)) ∧
    (∃ (src : Nat) (host : Nat) (f : Nat) (token : BitVec 64) (seq : BitVec 32) (s : State),
      s.boot.st = .running ∧ s.oap.forwarded = [(host, f, token, seq, src)]) ∧
    (∃ (s : State),
      s.boot.st = .running ∧ s.power.st ≠ .off ∧ s.power.st ≠ .standby) :=
  ⟨⟨via 3 (some 0), viaFrame (via 3 (some 0)) 8 2 (eventsField [(true, pkt 0), (false, pkt 1)]) (eventsBytes [(true, pkt 0), (false, pkt 1)]), true, [(true, pkt 0), (false, pkt 1)], linked .precentor 0, by decide +kernel⟩,
   ⟨pkt 4, by decide +kernel⟩,
   ⟨false, pkt 3, choirUp .precentor 0, by decide +kernel⟩,
   ⟨pkt 7, by decide +kernel⟩,
   ⟨via 3 (some 0), choirUp .precentor 0, by decide +kernel⟩,
   ⟨⟨flit, some 1, 1, 0⟩, [], (choirUp .precentor 0).onChoir (fun c => { c with imports := [⟨flit, some 1, 1, 0⟩] }), by decide +kernel⟩,
   ⟨via 3 (some 0), viaFrame (via 3 (some 0)) 9 3 0 (memBytes 5 1 2 0x407FFFFE [1, 2]), 5, 2, true, 0x407FFFFE, [1, 2], linked .precentor 0, by decide +kernel⟩,
   ⟨1, 0x407FFFFF, 0x407FFFFF, choirUp .precentor 0, by decide +kernel⟩,
   ⟨0x407FFFFF, 0x407FFFFF, choirUp .precentor 0, by decide +kernel⟩,
   ⟨0x407FFFFF, 0x407FFFFF, [1], choirUp .precentor 0, by decide +kernel⟩,
   ⟨0x407FFFFF, 0x407FFFFF, choirUp .precentor 0, by decide +kernel⟩,
   ⟨via 3 (some 0), viaFrame (via 3 (some 0)) 0x0A 4 0 (rspBytes 65535 true 5 7 [1]), 65535, 7, true, 5, [1], linked .precentor 0, by decide +kernel⟩,
   ⟨65535, 7, ⟨65535, .cantorLoad 7, 0x300040000000, 8, 3, 0⟩, up.onMem (fun m => { m with remote := [⟨65535, .cantorLoad 7, 0x300040000000, 8, 3, 0⟩] }), up.onMem (fun m => { m with remote := [] }), by decide +kernel⟩,
   ⟨65535, 7, ⟨65535, .cantorLoad 7, 0x300040000000, 8, 3, 0⟩, up.onMem (fun m => { m with remote := [⟨65535, .cantorLoad 7, 0x300040000000, 8, 3, 0⟩] }), up.onMem (fun m => { m with remote := [] }), by decide +kernel⟩,
   ⟨65535, ⟨65535, .cantorLoad 7, 0x300040000000, 8, 3, 0⟩, up.onMem (fun m => { m with remote := [] }), up.onMem (fun m => { m with remote := [⟨65535, .cantorLoad 7, 0x300040000000, 8, 3, 0⟩] }), by decide +kernel⟩,
   ⟨via 0 (some 3), ctrlFrame (via 0 (some 3)) 0x0D (forwardBytes (.request (hdr 3 []) 3 [])), .request (hdr 3 []) 3 [], linked .follower 3, by decide +kernel⟩,
   ⟨0, choirUp .follower 3, by decide +kernel⟩,
   ⟨[0, 0x10, 0, 0], State.serveRead 0x1000 0 (choirUp .follower 3), choirUp .follower 3, by decide +kernel, rfl⟩,
   ⟨3, 1, 0x10, 7, 9, up.onOap (fun o => { o with forwarded := [(1, 0x10, 7, 9, 3)] }), by decide +kernel⟩,
   ⟨up, by decide +kernel⟩⟩

theorem witness_GatesCountPassages :
    (∃ (g : Fin 8) (b : Bool) (high : Bool) (s : State),
      (srcKind (s.srcOf g b) ≠ 0 ∨ ((s.gate g).input b).raw = (high ^^ (s.srcOf g b).testBit 7))) ∧
    (∃ (g : Fin 8) (b : Bool) (high : Bool) (level : Bool) (stamp : Nat) (l : List Nat) (s : State),
      srcKind (s.srcOf g b) = 0 ∧ level = (high ^^ (s.srcOf g b).testBit 7) ∧ ((s.gate g).input b).raw ≠ level ∧ l = stamp :: (((s.gate g).input b).changes.filter (fun c => decide (stamp < c + 1000 * s.ent (gateIdx g) 6))) ∧ l.length ≤ s.ent (gateIdx g) 5) ∧
    (∃ (g : Fin 8) (b : Bool) (high : Bool) (level : Bool) (stamp : Nat) (l : List Nat) (s : State),
      srcKind (s.srcOf g b) = 0 ∧ level = (high ^^ (s.srcOf g b).testBit 7) ∧ ((s.gate g).input b).raw ≠ level ∧ l = stamp :: (((s.gate g).input b).changes.filter (fun c => decide (stamp < c + 1000 * s.ent (gateIdx g) 6))) ∧ s.ent (gateIdx g) 5 < l.length ∧ 0 < s.ent (gateIdx g) 6 ∧ s.gateOn g = true ∧ (s.gate g).seq ≠ .faulted) ∧
    (∃ (g : Fin 8) (st : Nat) (due : Nat) (x : Gate) (s : State),
      (s.gate g).oldest = some (st, due) ∧ x = (s.gate g).takeAt st (max s.now due)) ∧
    (∃ (g : Fin 8) (st : Nat) (due : Nat) (z : Fin 4) (x : Gate) (s : State),
      (s.gate g).oldest = some (st, due) ∧ s.gateOn g = true ∧ x = (s.gate g).takeAt st (max s.now due) ∧ seqStep x.seq x.a.accepted x.b.accepted = (.idle, .countIn) ∧ s.bound z g = 1 ∧ (∀ y, y < 4 → y ≠ z.val → s.bound y g = 0) ∧ 0 ≤ (s.zoneOf z).count + 1 ∧ (s.zoneOf z).count + 1 ≤ (s.ent (zoneIdx z) 4 : Int) ∧ (s.zoneOf z).count + 1 ≤ 32767 ∧ (s.zoneOf z).st ≠ .restoring) ∧
    (∃ (g : Fin 8) (b : Bool) (h : Nat) (s : State),
      s.gateOn g = true ∧ (s.gate g).seq ≠ .faulted ∧ ((s.gate g).input b).accepted = true ∧ h = (if s.accrues g b then ((s.gate g).input b).active + (s.now - ((s.gate g).input b).activeAt) else ((s.gate g).input b).active) ∧ (s.accrues g b = true ∨ 1000 * s.ent (gateIdx g) 7 + 1 ≤ h)) ∧
    (∃ (g : Fin 8) (b : Bool) (at' : Nat) (s : State),
      s.inputStall g b = some at' ∧ (b = true → s.inputStall g false = none) ∧ s.gateOn g = true ∧ (s.gate g).seq ≠ .faulted) ∧
    (∃ (g : Fin 8) (s : State),
      s.boot.st = .running ∧ s.comm.nmt ≠ .stopped ∧ s.writeCheck (gateIdx g) 11 1 = 0 ∧ s.gateClearOk g = true) ∧
    (∃ (g : Fin 8) (s : State),
      s.boot.st = .running ∧ s.comm.nmt ≠ .stopped ∧ s.writeCheck (gateIdx g) 11 1 = 0 ∧ s.gateClearOk g = false) ∧
    (∃ (g : Fin 8) (s : State),
      s.boot.st = .running ∧ s.comm.nmt ≠ .stopped ∧ s.writeCheck (gateIdx g) 1 1 = 0 ∧ s.inputsMatch g = true) ∧
    (∃ (g : Fin 8) (s : State),
      s.boot.st = .running ∧ s.comm.nmt ≠ .stopped ∧ s.writeCheck (gateIdx g) 1 1 = 0 ∧ s.inputsMatch g = false) ∧
    (∃ (g : Fin 8) (s : State),
      s.boot.st = .running ∧ s.comm.nmt ≠ .stopped ∧ s.writeCheck (gateIdx g) 1 0 = 0) ∧
    (∃ (g : Fin 8) (b : Bool) (v : BitVec 32) (s : State),
      s.boot.st = .running ∧ s.writeCheck (gateIdx g) (if b then 3 else 2) v.toNat = 0 ∧ s.srcOk v.toNat = true) ∧
    (∃ (g : Fin 8) (b : Bool) (v : BitVec 32) (s : State),
      s.boot.st = .running ∧ s.writeCheck (gateIdx g) (if b then 3 else 2) v.toNat = 0 ∧ s.srcOk v.toNat = false) :=
  ⟨⟨7, true, false, gateUp {}, by decide +kernel⟩,
   ⟨7, true, true, true, 5, [5], gateUp {}, by decide +kernel⟩,
   ⟨7, true, true, true, 5, 5 :: List.replicate 50 1, gateUp { b := { changes := List.replicate 50 1 } }, by decide +kernel⟩,
   ⟨7, 5, 7, ({ b := { raw := true, since := some 5, debounce := 2 } } : Gate).takeAt 5 7, gateUp { b := { raw := true, since := some 5, debounce := 2 } }, by decide +kernel⟩,
   ⟨7, 5, 5, 3, leaveIn.takeAt 5 5, gateUp leaveIn, by decide +kernel⟩,
   ⟨7, true, 9, (gateUp { seq := .idle, b := { raw := true, accepted := true, active := 9 } }).setEnt 0x6017 8 1, by decide +kernel⟩,
   ⟨7, true, 5, ((gateUp { seq := .idle }).setEnt 0x6017 3 0x501).onZones (fun z => { z with stalls := [(5, 6)] }), by decide +kernel⟩,
   ⟨7, gateUp { seq := .faulted, fault := 1 }, by decide +kernel⟩,
   ⟨7, gateUp { seq := .idle, fault := 0 }, by decide +kernel⟩,
   ⟨7, gateUp { seq := .idle }, by decide +kernel⟩,
   ⟨7, (gateUp { seq := .idle }).setEnt 0x6017 2 1, by decide +kernel⟩,
   ⟨7, gateUp { seq := .idle }, by decide +kernel⟩,
   ⟨7, true, 0x000F0501, preOp, by decide +kernel⟩,
   ⟨7, true, 0x000F0601, preOp, by decide +kernel⟩⟩

theorem witness_ZonesAreDisturbedAndRestored :
    (∃ (z : Fin 4) (v : BitVec 16) (s : State),
      s.boot.st = .running ∧ s.comm.nmt ≠ .stopped ∧ s.writeCheck (zoneIdx z) 3 v.toNat = 0 ∧ (∃ g, g < 8 ∧ bits v.toNat (2 * g) 2 = 3)) ∧
    (∃ (z : Fin 4) (v : BitVec 16) (s : State),
      s.boot.st = .running ∧ s.comm.nmt ≠ .stopped ∧ s.writeCheck (zoneIdx z) 3 v.toNat = 0 ∧ v = 0 ∧ s.unusedZone z = true) ∧
    (∃ (z : Fin 4) (v : BitVec 16) (s : State),
      s.boot.st = .running ∧ s.comm.nmt ≠ .stopped ∧ s.writeCheck (zoneIdx z) 3 v.toNat = 0 ∧ v = 0 ∧ s.unusedZone z = false) ∧
    (∃ (z : Fin 4) (v : BitVec 16) (s : State),
      s.boot.st = .running ∧ s.comm.nmt ≠ .stopped ∧ s.writeCheck (zoneIdx z) 3 v.toNat = 0 ∧ v ≠ 0 ∧ (∀ g, g < 8 → bits v.toNat (2 * g) 2 ≠ 3)) ∧
    (∃ (z : Fin 4) (v : BitVec 16) (s : State),
      s.boot.st = .running ∧ s.comm.nmt ≠ .stopped ∧ s.writeCheck (zoneIdx z) 7 (1 + v.toNat * 65536) = 0 ∧ 0 ≤ sext 16 v.toNat ∧ sext 16 v.toNat ≤ (s.ent (zoneIdx z) 4 : Int) ∧ s.unusedZone z = false ∧ (s.zoneOf z).st = .disturbed ∨ (s.zoneOf z).st = .restoring ∧ (∀ g, g < 8 → s.bound z g ≠ 0 → (s.gate g).seq ≠ .faulted) ∧ s.ent (zoneIdx z) 6 = 0) ∧
    (∃ (z : Fin 4) (v : BitVec 16) (s : State),
      s.boot.st = .running ∧ s.comm.nmt ≠ .stopped ∧ s.writeCheck (zoneIdx z) 7 (1 + v.toNat * 65536) = 0 ∧ 0 ≤ sext 16 v.toNat ∧ sext 16 v.toNat ≤ (s.ent (zoneIdx z) 4 : Int) ∧ s.unusedZone z = false ∧ (s.zoneOf z).st = .disturbed ∨ (s.zoneOf z).st = .restoring ∧ (∀ g, g < 8 → s.bound z g ≠ 0 → (s.gate g).seq ≠ .faulted) ∧ s.ent (zoneIdx z) 6 ≠ 0 ∧ v = 0) ∧
    (∃ (z : Fin 4) (s : State),
      s.boot.st = .running ∧ s.comm.nmt ≠ .stopped ∧ s.writeCheck (zoneIdx z) 7 2 = 0 ∧ s.unusedZone z = false) ∧
    (∃ (z : Fin 4) (s : State),
      (s.zoneOf z).st = .restoring) ∧
    (∃ (z : Fin 4) (v : BitVec 64) (s : State),
      s.boot.st = .running ∧ s.comm.nmt ≠ .stopped ∧ s.writeCheck (zoneIdx z) 10 v.toNat = 0 ∧ weightBad v.toNat = true) ∧
    (∃ (z : Fin 4) (v : BitVec 64) (s : State),
      s.boot.st = .running ∧ s.comm.nmt ≠ .stopped ∧ s.writeCheck (zoneIdx z) 10 v.toNat = 0 ∧ weightBad v.toNat = false ∧ (s.zoneOf z).st ≠ .restoring) ∧
    (∃ (z : Fin 4) (v : BitVec 64) (s : State),
      s.boot.st = .running ∧ s.comm.nmt ≠ .stopped ∧ s.writeCheck (zoneIdx z) 10 v.toNat = 0 ∧ weightBad v.toNat = false ∧ (s.zoneOf z).st = .restoring ∧ (s.zoneOf z).method = 2 ∧ v.toNat.testBit 32 = true ∧ v.toNat.testBit 33 = false ∧ sext 32 v.toNat ≤ s.entI (zoneIdx z) 9 32 ∧ s.zoneBusy z = false) :=
  ⟨⟨3, 0xC000, preOp, by decide +kernel⟩,
   ⟨3, 0, preOp, by decide +kernel⟩,
   ⟨3, 0, zoneUp {}, by decide +kernel⟩,
   ⟨3, 0x8000, preOp, by decide +kernel⟩,
   ⟨3, 1, (zoneUp { st := .disturbed, cause := 1 }).setEnt 0x6103 6 0, by decide +kernel⟩,
   ⟨3, 0, (zoneUp { st := .restoring, cause := 1 }).setEnt 0x6103 6 1, by decide +kernel⟩,
   ⟨3, zoneUp {}, by decide +kernel⟩,
   ⟨3, zoneUp { st := .restoring }, by decide +kernel⟩,
   ⟨3, 0x80000000, up, by decide +kernel⟩,
   ⟨3, 0x100000000, up, by decide +kernel⟩,
   ⟨3, 0x100000000, zoneUp { st := .restoring, method := 2 }, by decide +kernel⟩⟩

theorem witness_BeltSensorsAndLoop :
    (∃ (code : Fin 8) (s : State),
      code.val ≠ s.belt.hall ∧ hallNext s.belt.hall = code.val) ∧
    (∃ (code : Fin 8) (s : State),
      code.val ≠ s.belt.hall ∧ hallNext s.belt.hall ≠ code.val ∧ hallNext code.val = s.belt.hall) ∧
    (∃ (code : Fin 8) (s : State),
      code.val ≠ s.belt.hall ∧ hallNext s.belt.hall ≠ code.val ∧ hallNext code.val ≠ s.belt.hall) ∧
    (∃ (h : Int) (v : Int) (s : State),
      h = s.belt.hallTrack.speed s.hallPerM (s.now * 1000) ∧ v = (if s.encPerM = 0 then h else s.belt.qepTrack.speed s.encPerM (s.now * 1000))) ∧
    (∃ (r : Int) (e : Int) (s : State),
      s.stoOn = true ∧ s.belt.st.driven = true ∧ r = (if s.belt.st = .braking then 0 else stepReference s.belt.reference s.beltGoal (s.ent 0x6200 4) (s.ent 0x6200 5)) ∧ e = r.tdiv 1000 - mmPerS s.belt.speed) ∧
    (∃ (ref : Int) (goal : Int),
      0 ≤ ref ∧ ref < goal) ∧
    (∃ (ref : Int) (goal : Int),
      0 ≤ goal ∧ goal < ref) ∧
    (∃ (ref : Int) (goal : Int),
      0 < ref ∧ goal < 0) ∧
    (∃ (uv : Nat) (s : State),
      s.stoOn = true ∧ s.belt.st.active = true ∧ s.ent 0x6200 10 ≤ s.shuntMa uv) ∧
    (∃ (uv : Nat) (s : State),
      s.stoOn = true ∧ s.belt.st.active = true ∧ s.shuntMa uv < s.ent 0x6200 10) :=
  ⟨⟨3, up, by decide +kernel⟩,
   ⟨5, up, by decide +kernel⟩,
   ⟨7, up, by decide +kernel⟩,
   ⟨0, 0, beltUp .running, by decide +kernel⟩,
   ⟨0, 0, beltUp .braking, by decide +kernel⟩,
   ⟨0, 1, by decide +kernel⟩,
   ⟨1, 0, by decide +kernel⟩,
   ⟨1, -1, by decide +kernel⟩,
   ⟨1000000, beltUp .stopping, by decide +kernel⟩,
   ⟨0, beltUp .stopping, by decide +kernel⟩⟩

theorem witness_BeltStatesChange :
    (∃ (s : State),
      s.boot.st = .running ∧ s.comm.nmt ≠ .stopped ∧ s.writeCheck 0x6200 2 1 = 0 ∧ (s.belt.st = .sto ↔ s.stoOn = false) ∧ s.runRefused = 0 ∧ s.belt.st = .off) ∧
    (∃ (s : State),
      s.boot.st = .running ∧ s.comm.nmt ≠ .stopped ∧ s.writeCheck 0x6200 2 1 = 0 ∧ (s.belt.st = .sto ↔ s.stoOn = false) ∧ s.runRefused = 0 ∧ s.belt.st = .stopping) ∧
    (∃ (s : State),
      s.boot.st = .running ∧ s.comm.nmt ≠ .stopped ∧ s.writeCheck 0x6200 2 1 = 0 ∧ (s.belt.st = .sto ↔ s.stoOn = false) ∧ s.runRefused ≠ 0) ∧
    (∃ (s : State),
      s.boot.st = .running ∧ s.comm.nmt ≠ .stopped ∧ s.writeCheck 0x6200 2 2 = 0 ∧ s.stoOn = true ∧ s.belt.st = .running) ∧
    (∃ (s : State),
      s.boot.st = .running ∧ s.comm.nmt ≠ .stopped ∧ s.writeCheck 0x6200 2 2 = 0 ∧ s.stoOn = true ∧ s.belt.st = .observing) ∧
    (∃ (s : State),
      s.boot.st = .running ∧ s.comm.nmt ≠ .stopped ∧ s.writeCheck 0x6200 2 3 = 0 ∧ s.stoOn = true ∧ s.belt.st = .fault ∧ s.atRest = true ∧ (s.belt.fault = 4 → hallBad s.belt.hall = false) ∧ (s.belt.fault = 5 → s.mismatch = false)) ∧
    (∃ (v : Int) (target : Int) (s : State),
      s.stoOn = true ∧ s.belt.st = .observing ∧ v = s.belt.speed ∧ target = s.entI 0x6200 3 16) ∧
    (∃ (s : State),
      s.stoOn = true ∧ s.belt.st = .braking ∧ s.atRest = false) ∧
    (∃ (s : State),
      s.stoOn = true ∧ s.belt.st = .stopping ∧ (s.atRest = false ∨ s.belt.reference ≠ 0)) ∧
    (∃ (s : State),
      s.stoOn = true ∧ s.belt.st = .stopping ∧ s.atRest = true ∧ s.belt.reference = 0) ∧
    (∃ (uv : Nat) (node : Bool) (s : State),
      s.stoOn = true ∧ s.belt.st.active = true ∧ (node = true ∨ 3 * s.ent 0x6200 10 ≤ 2 * s.shuntMa uv)) ∧
    (∃ (a : Nat) (s : State),
      s.stoOn = true ∧ s.belt.st.active = true ∧ s.belt.limitedSince = some a ∧ s.belt.nextCycle s.belt.limitedAt (max s.now (a + 1000000)) = true) ∧
    (∃ (a : Nat) (s : State),
      s.stoOn = true ∧ s.belt.st.active = true ∧ s.belt.hallBadAt = some a ∧ hallBad s.belt.hall = true) ∧
    (∃ (a : Nat) (s : State),
      s.stoOn = true ∧ s.belt.st.active = true ∧ s.belt.differAt = some a ∧ s.mismatch = true) ∧
    (∃ (s : State),
      s.belt.st ≠ .sto ∧ s.stoOn = false) ∧
    (∃ (s : State),
      s.belt.st ≠ .sto ∧ s.stoOn = false) ∧
    (∃ (s : State),
      s.belt.st = .sto ∧ s.stoOn = true) :=
  ⟨⟨beltUp .off, by decide +kernel⟩,
   ⟨beltUp .stopping, by decide +kernel⟩,
   ⟨beltUp .fault, by decide +kernel⟩,
   ⟨beltUp .running, by decide +kernel⟩,
   ⟨beltUp .observing, by decide +kernel⟩,
   ⟨(beltUp .fault).onBelt (fun b => { b with fault := 4 }), by decide +kernel⟩,
   ⟨0, (beltUp .observing).entI 0x6200 3 16, beltUp .observing, by decide +kernel⟩,
   ⟨(beltUp .braking).onBelt (fun b => { b with speed := 1000000 }), by decide +kernel⟩,
   ⟨(beltUp .stopping).onBelt (fun b => { b with reference := 1 }), by decide +kernel⟩,
   ⟨beltUp .stopping, by decide +kernel⟩,
   ⟨5000, true, beltUp .running, by decide +kernel⟩,
   ⟨0, (beltUp .running).onBelt (fun b => { b with limitedSince := some 0, limitedAt := 1000000 }), by decide +kernel⟩,
   ⟨5, (beltUp .running).onBelt (fun b => { b with hall := 7, hallBadAt := some 5 }), by decide +kernel⟩,
   ⟨5, ((beltUp .running).setEnt 0x6200 8 1000).onBelt (fun b => { b with speed := 1000000, differAt := some 5 }), by decide +kernel⟩,
   ⟨up, by decide +kernel⟩,
   ⟨up, by decide +kernel⟩,
   ⟨(beltUp .sto).onIsland (fun i => { i with stoA := true, stoB := true }), by decide +kernel⟩⟩

theorem witness_AudioChannelsPlay :
    (∃ (s : State),
      s.hasUnit 6 = true ∧ s.audioRingOk = true) ∧
    (∃ (s : State),
      s.hasUnit 6 = true ∧ s.audioRingOk = false) ∧
    (∃ (v : BitVec 32) (s : State),
      s.hasUnit 6 = true ∧ (v - s.audio.rd).toNat ≤ s.ringFrames ∧ (s.audio.wr - s.audio.rd).toNat ≤ (v - s.audio.rd).toNat) ∧
    (∃ (v : BitVec 32) (s : State),
      s.hasUnit 6 = true ∧ (s.ringFrames < (v - s.audio.rd).toNat ∨ (v - s.audio.rd).toNat < (s.audio.wr - s.audio.rd).toNat)) ∧
    (∃ (a : BitVec 16) (b : BitVec 16) (s : State),
      s.audio.enable = true ∧ s.audio.wr ≠ s.audio.rd ∧ a = BitVec.ofNat 16 (s.memNum (s.audio.base % 2 ^ 44 + 4 * (s.audio.rd.toNat % s.ringFrames)) 2) ∧ b = BitVec.ofNat 16 (s.memNum (s.audio.base % 2 ^ 44 + 4 * (s.audio.rd.toNat % s.ringFrames) + 2) 2)) ∧
    (∃ (s : State),
      s.audio.enable = true ∧ s.audio.wr = s.audio.rd) ∧
    (∃ (f : AudioField) (v : Nat) (s : State),
      s.boot.st = .running ∧ s.comm.nmt ≠ .stopped ∧ s.writeCheck 0x6400 (audioSub f) v = 0) ∧
    (∃ (ch : Fin 2) (s : State),
      (s.chan ch).st = .softStart) ∧
    (∃ (ch : Fin 2) (s : State),
      (s.chan ch).st.switching = true ∧ (s.limitedRow ch).1 < 3) ∧
    (∃ (ch : Fin 2) (s : State),
      (s.chan ch).st.switching = true ∧ 3 ≤ (s.limitedRow ch).1) ∧
    (∃ (ch : Fin 2) (s : State),
      (s.chan ch).st = .tripped) ∧
    (∃ (ch : Fin 2) (mv : BitVec 16) (s : State),
      (s.chan ch).st.switching = true ∧ 1000 < mv.toInt.natAbs) ∧
    (∃ (s : State),
      s.boot.st = .running ∧ s.comm.nmt ≠ .stopped ∧ s.writeCheck 0x6400 7 1 = 0 ∧ (s.chan 0).st = .latched ∨ (s.chan 0).st = .dcFault) ∧
    (∃ (s : State),
      s.boot.st = .running ∧ s.comm.nmt ≠ .stopped ∧ s.writeCheck 0x6400 7 1 = 0 ∧ (s.chan 0).st ≠ .latched ∧ (s.chan 0).st ≠ .dcFault) ∧
    (∃ (s : State),
      s.boot.st = .running ∧ s.comm.nmt ≠ .stopped ∧ s.writeCheck 0x6400 7 2 = 0 ∧ (s.chan 1).st = .latched ∨ (s.chan 1).st = .dcFault) ∧
    (∃ (s : State),
      s.boot.st = .running ∧ s.comm.nmt ≠ .stopped ∧ s.writeCheck 0x6400 7 2 = 0 ∧ (s.chan 1).st ≠ .latched ∧ (s.chan 1).st ≠ .dcFault) :=
  ⟨⟨up.onAudio (fun a => { a with base := 0x40000000, size := 6 }), by decide +kernel⟩,
   ⟨up.onAudio (fun a => { a with base := 0x40000000, size := 7 }), by decide +kernel⟩,
   ⟨1024, up, by decide +kernel⟩,
   ⟨1025, up, by decide +kernel⟩,
   ⟨0x1234, 0x5678, (up.onAudio (fun a => { a with enable := true, base := 0x40000000, wr := 1024 })).putBytes 0x40000000 [0x34, 0x12, 0x78, 0x56], by decide +kernel⟩,
   ⟨up.onAudio (fun a => { a with enable := true, base := 0x40000000 }), by decide +kernel⟩,
   ⟨.attenuation1, 160, up, by decide +kernel⟩,
   ⟨1, chanUp .softStart, by decide +kernel⟩,
   ⟨1, (chanUp .playing).onAudio (fun a => { a with ch1 := { a.ch1 with limited := 2 } }), by decide +kernel⟩,
   ⟨1, (chanUp .playing).onAudio (fun a => { a with ch1 := { a.ch1 with limited := 3 } }), by decide +kernel⟩,
   ⟨1, chanUp .tripped, by decide +kernel⟩,
   ⟨1, -1001, chanUp .playing, by decide +kernel⟩,
   ⟨up.onAudio (fun a => { a with ch0 := { st := .latched } }), by decide +kernel⟩,
   ⟨up, by decide +kernel⟩,
   ⟨chanUp .dcFault, by decide +kernel⟩,
   ⟨up, by decide +kernel⟩⟩

theorem witness_SafetyDemandsLockTheIsland :
    (∃ (s : State),
      s.island.held = false) ∧
    (∃ (n : Fin 4) (s : State),
      s.island.held = false ∧ s.island.st = .energised ∧ s.scfg.fn n = 1 ∧ (s.sin n).a = false ∨ (s.sin n).b = false) ∧
    (∃ (s : State),
      s.island.held = false ∧ s.island.st = .energised ∧ (∀ n, n < 4 → s.demandsOf n = false) ∧ s.faultsNow = []) ∧
    (∃ (s : State),
      s.island.held = false) ∧
    (∃ (o : PulseSeen) (s : State),
      s.island.held = false ∧ s.scfg.pulsed o.n = true ∧ s.scfg.fn o.n ≠ 0) ∧
    (∃ (n : Fin 4) (at' : Nat) (s : State),
      s.island.held = false ∧ (s.scfg.fn n = 1 ∨ s.scfg.fn n = 2 ∨ s.scfg.fn n = 3) ∧ (s.sin n).splitAt = some at') ∧
    (∃ (at' : Nat) (s : State),
      s.island.held = false ∧ s.island.speedSplit = some at' ∧ s.island.speedFault = false) ∧
    (∃ (n : Fin 4) (s : State),
      s.island.held = false ∧ s.scfg.fn n = 4 ∧ (s.sin n).a = false ∧ (s.sin n).pressAt.isSome = true ∧ s.resetOk = true) ∧
    (∃ (n : Fin 4) (s : State),
      s.island.held = false ∧ s.scfg.fn n = 4 ∧ (s.sin n).a = false ∧ (s.sin n).pressAt.isSome = true ∧ s.resetOk = false) ∧
    (∃ (at' : Nat) (s : State),
      s.island.held = false ∧ s.island.st = .degraded ∧ s.island.degradedAt = some at') ∧
    (∃ (s : State),
      s.island.held = false ∧ s.island.st = .sls ∧ s.island.slsBound = false) ∧
    (∃ (at' : Nat) (s : State),
      s.island.held = false ∧ s.island.fbSplit = some at' ∧ (s.island.st = .energised ∨ s.island.st = .stopped)) ∧
    (∃ (at' : Nat) (s : State),
      s.island.held = false ∧ s.island.energisedAt = some at' ∧ s.island.testDue = false) :=
  ⟨⟨islandUp .energised, by decide +kernel⟩,
   ⟨1, (islandUp .energised).onSin 1 (fun i => { i with b := false }), by decide +kernel⟩,
   ⟨islandUp .energised, by decide +kernel⟩,
   ⟨islandUp .sls, by decide +kernel⟩,
   ⟨⟨1, true, true⟩, islandUp .energised, by decide +kernel⟩,
   ⟨1, 0, (islandUp .energised).onSin 1 (fun i => { i with splitAt := some 0 }), by decide +kernel⟩,
   ⟨0, (islandUp .energised).onIsland (fun i => { i with speedSplit := some 0 }), by decide +kernel⟩,
   ⟨0, (islandUp .locked).onSin 0 (fun i => { i with pressAt := some 0 }), by decide +kernel⟩,
   ⟨0, (islandUp .energised).onSin 0 (fun i => { i with pressAt := some 0 }), by decide +kernel⟩,
   ⟨0, (islandUp .degraded).onIsland (fun i => { i with degradedAt := some 0 }), by decide +kernel⟩,
   ⟨islandUp .sls, by decide +kernel⟩,
   ⟨5, (islandUp .stopped).onIsland (fun i => { i with fbSplit := some 5 }), by decide +kernel⟩,
   ⟨0, (islandUp .energised).onIsland (fun i => { i with energisedAt := some 0 }), by decide +kernel⟩⟩

theorem witness_TheIslandRestartsAndIsConfigured :
    (∃ (s : State),
      s.boot.st = .running ∧ (s.power.st = .idle ∨ s.power.st = .active) ∧ s.island.st.on = true ∧ s.island.held = false ∧ s.island.fbA = false ∧ s.island.fbB = false ∧ s.island.stoA = false) ∧
    (∃ (s : State),
      s.island.held = false) ∧
    (∃ (s : State),
      s.island.held = false) ∧
    (∃ (s : State),
      s.island.held = false) ∧
    (∃ (s : State),
      s.island.held = true) ∧
    (∃ (s : State),
      s.island.held = false ∧ s.island.st ≠ .selftest ∧ s.island.st ≠ .locked) ∧
    (∃ (s : State),
      s.island.held = false ∧ s.island.st = .selftest ∧ s.island.cfg = none) ∧
    (∃ (s : State),
      s.island.held = false ∧ s.island.st = .selftest) ∧
    (∃ (s : State),
      s.island.held = false ∧ s.island.st = .selftest ∧ s.island.cfg ≠ none ∧ s.island.restartCause = none ∧ s.scfg.powerupReset ≠ 1) ∧
    (∃ (s : State),
      s.island.held = false ∧ s.island.st = .selftest ∧ s.island.cfg ≠ none ∧ s.island.restartCause = none ∧ s.scfg.powerupReset = 1 ∧ s.faultsNow = [] ∧ (∀ n, n < 4 → s.demandsOf n = false)) ∧
    (∃ (s : State),
      s.island.held = false ∧ s.island.st = .selftest) ∧
    (∃ (data : List Byte) (s : State),
      s.boot.st = .running ∧ s.comm.nmt = .preOperational ∧ data.length = 64 ∧ numAt data 8 4 = s.scfg.accessCode ∧ (s.island.st = .locked ∨ s.island.st = .fault) ∧ s.island.transfer ≠ 2 ∧ blockOk data = true) ∧
    (∃ (data : List Byte) (s : State),
      s.boot.st = .running ∧ s.comm.nmt = .preOperational ∧ data.length = 64 ∧ numAt data 8 4 = s.scfg.accessCode ∧ (s.island.st = .locked ∨ s.island.st = .fault) ∧ s.island.transfer ≠ 2 ∧ blockOk data = false) ∧
    (∃ (data : List Byte) (s : State),
      s.boot.st = .running ∧ s.comm.nmt = .preOperational ∧ data.length = 8 ∧ s.island.transfer = 1 ∧ s.inow ≤ s.island.transferAt + 60000000 ∧ numAt data 0 2 = s.island.confirm ∧ numAt data 2 2 = 0 ∧ numAt data 4 4 = numAt s.island.echo 60 4) ∧
    (∃ (data : List Byte) (s : State),
      s.boot.st = .running ∧ s.comm.nmt = .preOperational ∧ data.length = 8 ∧ s.island.transfer = 1 ∧ s.inow ≤ s.island.transferAt + 60000000 ∧ numAt data 0 2 ≠ s.island.confirm) ∧
    (∃ (s : State),
      s.island.held = false ∧ s.island.transfer = 2 ∧ s.island.echo.length = 64) ∧
    (∃ (s : State),
      s.island.held = false ∧ s.island.transfer = 1) ∧
    (∃ (s : State),
      s.island.held = false ∧ s.island.stoA = true) ∧
    (∃ (s : State),
      s.island.held = false ∧ s.island.stoB = true) :=
  ⟨⟨(islandUp .energised).onIsland (fun i => { i with stoB := true }), by decide +kernel⟩,
   ⟨up, by decide +kernel⟩,
   ⟨up, by decide +kernel⟩,
   ⟨up, by decide +kernel⟩,
   ⟨(islandUp .energised).onIsland (fun i => { i with held := true }), by decide +kernel⟩,
   ⟨islandUp .energised, by decide +kernel⟩,
   ⟨up, by decide +kernel⟩,
   ⟨up, by decide +kernel⟩,
   ⟨islandUp .selftest, by decide +kernel⟩,
   ⟨(islandUp .selftest).onIsland (fun i => { i with cfg := some { aCfg with powerupReset := 1 } }), by decide +kernel⟩,
   ⟨up, by decide +kernel⟩,
   ⟨aBlock, (islandUp .locked).onIsland (fun i => { i with cfg := some {} }), rfl, rfl, by decide +kernel, by decide +kernel, by decide +kernel, by decide +kernel, aBlock_ok⟩,
   ⟨List.replicate 64 0, (islandUp .locked).onIsland (fun i => { i with cfg := some {} }), by decide +kernel⟩,
   ⟨leBytes 2 5 ++ leBytes 2 0 ++ leBytes 4 7, preOp.onIsland (fun i => { i with transfer := 1, confirm := 5, echo := List.replicate 60 0 ++ leBytes 4 7 }), by decide +kernel⟩,
   ⟨leBytes 8 6, (preOp.onIsland (fun i => { i with transfer := 1, confirm := 5 })).setNow 60000000, by decide +kernel⟩,
   ⟨up.onIsland (fun i => { i with transfer := 2, echo := List.replicate 64 0 }), by decide +kernel⟩,
   ⟨up.onIsland (fun i => { i with transfer := 1 }), by decide +kernel⟩,
   ⟨up.onIsland (fun i => { i with stoA := true }), by decide +kernel⟩,
   ⟨up.onIsland (fun i => { i with stoB := true }), by decide +kernel⟩⟩

theorem witness_PowerStatesAndOperatingPoints :
    (∃ (mv : Nat) (s : State),
      (s.power.st = .idle ∨ s.power.st = .active) ∧ mv < 14000) ∧
    (∃ (s : State),
      (s.power.st = .idle ∨ s.power.st = .active)) ∧
    (∃ (s : State),
      (s.power.st = .idle ∨ s.power.st = .active)) ∧
    (∃ (hub : Int) (s : State),
      (s.power.st = .idle ∨ s.power.st = .active) ∧ 1250 ≤ hub) ∧
    (∃ (hub : Int) (l : List Int) (s : State),
      (s.power.st = .idle ∨ s.power.st = .active) ∧ hub < 1250 ∧ s.power.tileTemp < 1250 ∧ (∀ x, x ∈ l → x < 1250)) ∧
    (∃ (s : State),
      s.power.st = .off ∧ (s.power.offCause = 4 → s.power.hubTemp < 900)) ∧
    (∃ (mv : Nat) (s : State),
      (s.power.st = .idle ∨ s.power.st = .active) ∧ mv < 16000 ∧ s.power.park = false) ∧
    (∃ (mv : Nat) (s : State),
      (s.power.st = .idle ∨ s.power.st = .active) ∧ 17000 ≤ mv ∧ s.power.park = true) ∧
    (∃ (s : State),
      s.boot.st = .running ∧ s.comm.nmt = .operational ∧ s.writeCheck 0x2200 2 1 = 0) ∧
    (∃ (s : State),
      s.boot.st = .running ∧ s.comm.nmt ≠ .operational ∧ s.comm.nmt ≠ .stopped ∧ s.writeCheck 0x2200 2 1 = 0 ∧ s.storing = true) ∧
    (∃ (s : State),
      s.boot.st = .running ∧ s.comm.nmt ≠ .operational ∧ s.comm.nmt ≠ .stopped ∧ s.writeCheck 0x2200 2 1 = 0 ∧ s.storing = false ∧ s.power.st = .idle) ∧
    (∃ (s : State),
      s.boot.st = .running ∧ s.comm.nmt ≠ .operational ∧ s.comm.nmt ≠ .stopped ∧ s.writeCheck 0x2200 2 1 = 0 ∧ s.storing = false ∧ s.power.st = .active) ∧
    (∃ (src : WakeSrc) (s : State),
      s.power.st = .standby ∧ s.boot.st = .booting ∧ (∀ p, src = .insertion p → p.val < s.portCount ∧ s.power.wakePorts.getLsbD p.val = true)) ∧
    (∃ (s : State),
      s.power.st ≠ .off ∧ s.power.pvidRefused = 0) ∧
    (∃ (p : Nat) (s : State),
      (s.power.st = .idle ∨ s.power.st = .active) ∧ s.power.settling = false ∧ s.power.target = some p ∧ p ≠ s.power.point) ∧
    (∃ (mv : Nat) (s : State),
      (s.power.st = .idle ∨ s.power.st = .active) ∧ s.power.commanded ≤ mv + 10 ∧ mv ≤ s.power.commanded + 10 ∧ s.power.settling = true) ∧
    (∃ (c : Fin 4) (s : State),
      s.boot.st = .running ∧ s.nvm.loadPending = false ∧ s.tileUp c = true ∧ s.tileNeeded c = false ∧ s.sliceBusy c = false) :=
  ⟨⟨5, up, by decide +kernel⟩,
   ⟨up, by decide +kernel⟩,
   ⟨up, by decide +kernel⟩,
   ⟨1250, up, by decide +kernel⟩,
   ⟨1249, [1249], up, by decide +kernel⟩,
   ⟨up.onPower (fun p => { p with st := .off, offCause := 4, hubTemp := 899 }), by decide +kernel⟩,
   ⟨15999, up, by decide +kernel⟩,
   ⟨17000, up.onPower (fun p => { p with park := true }), by decide +kernel⟩,
   ⟨up, by decide +kernel⟩,
   ⟨storeUp.onComm (fun c => { c with nmt := .preOperational }), by decide +kernel⟩,
   ⟨preOp, by decide +kernel⟩,
   ⟨preOp.onPower (fun p => { p with st := .active }), by decide +kernel⟩,
   ⟨.insertion 5, (up.onBoot (fun b => { b with st := .booting })).onPower (fun p => { p with st := .standby, wakePorts := 0x20 }), by decide +kernel⟩,
   ⟨up, by decide +kernel⟩,
   ⟨7, up.onPower (fun p => { p with target := some 7 }), by decide +kernel⟩,
   ⟨660, up.onPower (fun p => { p with settling := true, commanded := 650 }), by decide +kernel⟩,
   ⟨3, up, by decide +kernel⟩⟩

theorem witness_StreamsAreEncoded :
    (∃ (v : Fin 2) (s : State),
      s.boot.st = .running ∧ s.comm.nmt ≠ .stopped ∧ s.writeCheck (streamIdx v) 2 1 = 0 ∧ (s.stream v).st = .disabled) ∧
    (∃ (v : Fin 2) (s : State),
      s.boot.st = .running ∧ s.comm.nmt ≠ .stopped ∧ s.writeCheck (streamIdx v) 2 0 = 0) ∧
    (∃ (v : Fin 2) (f : Frame) (s : State),
      (s.stream v).st = .running ∧ (s.stream v).frame = none ∧ (s.stream v).due = some f) ∧
    (∃ (v : Fin 2) (s : State),
      (s.stream v).frame.isSome = true ∧ (s.stream v).slice < (s.stream v).sliceCount ∧ s.linesReady v = true ∧ (s.stream v).buffered = 0) ∧
    (∃ (v : Fin 2) (s : State),
      (s.stream v).frame.isSome = true ∧ (s.stream v).slice < (s.stream v).sliceCount ∧ s.linesReady v = true ∧ (s.stream v).buffered = 0) ∧
    (∃ (v : Fin 2) (s : State),
      (s.stream v).frame.isSome = true ∧ (s.stream v).slice = (s.stream v).sliceCount) ∧
    (∃ (v : Fin 2) (p : List (BitVec 128)) (rest : List (List (BitVec 128))) (s : State),
      (s.stream v).packets = p :: rest ∧ (s.q (s.vEnt v 5)).st = .disabled) ∧
    (∃ (v : Fin 2) (p : List (BitVec 128)) (rest : List (List (BitVec 128))) (s : State),
      (s.stream v).packets = p :: rest ∧ (s.q (s.vEnt v 5)).st = .enabled ∧ p.length ≤ ((s.q (s.vEnt v 5)).level (s.qEnt (s.vEnt v 5) 7)).credits) ∧
    (∃ (v : Fin 2) (p : List (BitVec 128)) (rest : List (List (BitVec 128))) (s : State),
      (s.stream v).packets = p :: rest ∧ (s.q (s.vEnt v 5)).st = .enabled ∧ ((s.q (s.vEnt v 5)).level (s.qEnt (s.vEnt v 5) 7)).credits < p.length) ∧
    (∃ (v : Fin 2) (s : State),
      s.boot.st = .running ∧ s.comm.nmt ≠ .stopped ∧ s.writeCheck (streamIdx v) 0x1A 1 = 0) ∧
    (∃ (v : Fin 2) (s : State),
      s.boot.st = .running ∧ s.comm.nmt ≠ .stopped ∧ s.writeCheck (streamIdx v) 0x1A 2 = 0) ∧
    (∃ (v : Fin 2) (s : State),
      s.boot.st = .running ∧ s.comm.nmt ≠ .stopped ∧ s.writeCheck (streamIdx v) 0x1A 3 = 0) :=
  ⟨⟨1, preOp, by decide +kernel⟩,
   ⟨1, (streamUp { st := .running }).onComm (fun c => { c with nmt := .preOperational }), by decide +kernel⟩,
   ⟨1, aFrame, streamUp { st := .running, due := some aFrame }, by decide +kernel⟩,
   ⟨1, streamUp { st := .running, frame := some aFrame, sliceCount := 1 }, by decide +kernel⟩,
   ⟨1, streamUp { st := .running, frame := some aFrame, sliceCount := 1 }, by decide +kernel⟩,
   ⟨1, streamUp { st := .running, frame := some aFrame }, by decide +kernel⟩,
   ⟨1, [5], [], streamUp { st := .running, packets := [[5]] }, by decide +kernel⟩,
   ⟨1, [5], [], ((streamUp { st := .running, packets := [[5]] }).setEnt (streamIdx 1) 5 31).onQ 31 (fun _ => aQueue), by decide +kernel⟩,
   ⟨1, [5], [], ((streamUp { st := .running, packets := [[5]] }).setEnt (streamIdx 1) 5 31).onQ 31 (fun _ => { aQueue with levels := [] }), by decide +kernel⟩,
   ⟨1, streamUp { st := .running }, by decide +kernel⟩,
   ⟨1, streamUp { st := .running }, by decide +kernel⟩,
   ⟨1, streamUp { st := .running }, by decide +kernel⟩⟩

theorem witness_ResetsAndBoot :
    (∃ (s : State),
      (s.power.st = .idle ∨ s.power.st = .active) ∧ s.boot.st ≠ .resetting) ∧
    (∃ (s : State),
      (s.power.st = .idle ∨ s.power.st = .active) ∧ s.boot.st ≠ .resetting) ∧
    (∃ (v : BitVec 32),
      v ≠ 0xA5C3) ∧
    (∃ (s : State),
      (s.power.st = .idle ∨ s.power.st = .active) ∧ s.boot.st ≠ .resetting ∧ s.boot.wdEnabled = true ∧ s.boot.wdPaused = false) ∧
    (∃ (s : State),
      (s.power.st = .idle ∨ s.power.st = .active) ∧ s.boot.st ≠ .resetting) ∧
    (∃ (v : BitVec 32) (s : State),
      (s.power.st = .idle ∨ s.power.st = .active) ∧ s.boot.st ≠ .resetting ∧ v ≠ 0x5AC3) ∧
    (∃ (s : State),
      (s.power.st = .idle ∨ s.power.st = .active) ∧ s.boot.st = .resetting) ∧
    (∃ (s : State),
      (s.power.st = .idle ∨ s.power.st = .active) ∧ s.boot.st = .booting ∧ s.boot.attempts < 3) ∧
    (∃ (v : BitVec 32) (s : State),
      (s.power.st = .idle ∨ s.power.st = .active) ∧ s.boot.st ≠ .resetting ∧ v.getLsbD 0 = true) ∧
    (∃ (image : List Byte) (s : State),
      s.boot.st = .recovery ∧ (1044480 < image.length ∨ numAt image 12 4 ≠ image.length)) ∧
    (∃ (image : List Byte) (s : State),
      s.boot.st = .recovery ∧ image.length ≤ 1044480 ∧ numAt image 12 4 = image.length ∧ (s.power.st = .idle ∨ s.power.st = .active) ∧ s.memu.late = []) ∧
    (∃ (s : State),
      (s.power.st = .idle ∨ s.power.st = .active) ∧ s.boot.st ≠ .resetting ∧ s.boot.update = none ∧ s.storing = false ∧ s.nvm.installing = none) ∧
    (∃ (s : State),
      (s.power.st = .idle ∨ s.power.st = .active) ∧ s.boot.st ≠ .resetting ∧ s.boot.update = none ∧ (s.storing = true ∨ s.nvm.installing.isSome = true)) ∧
    (∃ (j : BootUpdate) (s : State),
      s.boot.update = some j ∧ j.ok = false) ∧
    (∃ (j : BootUpdate) (s : State),
      s.boot.update = some j ∧ j.ok = true) :=
  ⟨⟨up, by decide +kernel⟩,
   ⟨up, by decide +kernel⟩,
   ⟨0x5AC2, by decide +kernel⟩,
   ⟨up.onBoot (fun b => { b with wdEnabled := true }), by decide +kernel⟩,
   ⟨up, by decide +kernel⟩,
   ⟨0x5AC2, up, by decide +kernel⟩,
   ⟨up.onBoot (fun b => { b with st := .resetting }), by decide +kernel⟩,
   ⟨up.onBoot (fun b => { b with st := .booting, attempts := 2 }), by decide +kernel⟩,
   ⟨1, up, by decide +kernel⟩,
   ⟨List.replicate 16 0, up.onBoot (fun b => { b with st := .recovery }), by decide +kernel⟩,
   ⟨slice [] 0 12 ++ leBytes 4 16, up.onBoot (fun b => { b with st := .recovery }), by decide +kernel⟩,
   ⟨up, by decide +kernel⟩,
   ⟨up.onNvm (fun n => { n with installing := some 1 }), by decide +kernel⟩,
   ⟨⟨true, 1, false, 1⟩, up.onBoot (fun b => { b with update := some ⟨true, 1, false, 1⟩ }), by decide +kernel⟩,
   ⟨⟨true, 1, true, 1⟩, up.onBoot (fun b => { b with update := some ⟨true, 1, true, 1⟩ }), by decide +kernel⟩⟩

theorem witness_FusesDebugAndJtag :
    (∃ (i : Nat) (s : State),
      (s.power.st = .idle ∨ s.power.st = .active) ∧ s.boot.st ≠ .resetting ∧ i < 8) ∧
    (∃ (i : Nat) (s : State),
      (s.power.st = .idle ∨ s.power.st = .active) ∧ s.boot.st ≠ .resetting ∧ i ≤ 3 ∧ s.otherHash i = true) ∧
    (∃ (i : Nat) (s : State),
      (s.power.st = .idle ∨ s.power.st = .active) ∧ s.boot.st ≠ .resetting ∧ i ≤ 3 ∧ s.otherHash i = false) ∧
    (∃ (f : Nat) (s : State),
      (s.power.st = .idle ∨ s.power.st = .active) ∧ s.boot.st ≠ .resetting ∧ (f = 0 ∨ f = 2 ∨ f = 4 ∨ (5 ≤ f ∧ f < 16)) ∧ s.boot.debug = false) ∧
    (∃ (v : BitVec 32) (s : State),
      (s.power.st = .idle ∨ s.power.st = .active) ∧ s.boot.st ≠ .resetting ∧ bits v.toNat 0 7 ≤ s.boot.security) ∧
    (∃ (v : BitVec 32) (s : State),
      (s.power.st = .idle ∨ s.power.st = .active) ∧ s.boot.st ≠ .resetting ∧ s.boot.security < bits v.toNat 0 7) ∧
    (∃ (sig : List Byte) (s : State),
      s.boot.st = .running ∧ s.comm.nmt = .preOperational ∧ sig.length = 64 ∧ s.boot.fuses.debugDisable = false ∧ s.boot.debugFails < 3) ∧
    (∃ (s : State),
      s.boot.st = .running) ∧
    (∃ (s : State),
      s.boot.debug = false) ∧
    (∃ (s : State),
      s.boot.debug = true) ∧
    (∃ (s : State),
      s.boot.debug = true) ∧
    (∃ (s : State),
      s.boot.debug = true) ∧
    (∃ (addr : Addr) (n : Nat) (s : State),
      s.boot.debug = true ∧ s.isLocal addr.toNat = true ∧ areaOf (offsetOf addr.toNat) ≠ .pages ∧ s.rangeKind .cantor false (offsetOf addr.toNat) n = none ∧ s.badLine (offsetOf addr.toNat) n = none) ∧
    (∃ (addr : Addr) (data : List Byte) (s : State),
      s.boot.debug = true ∧ s.isLocal addr.toNat = true ∧ areaOf (offsetOf addr.toNat) ≠ .pages ∧ s.rangeKind .cantor true (offsetOf addr.toNat) data.length = none ∧ s.badLine (offsetOf addr.toNat) data.length = none) ∧
    (∃ (addr : Addr) (n : Nat) (s : State),
      s.boot.debug = true ∧ (s.isLocal addr.toNat = false ∨ (s.rangeKind .cantor false (offsetOf addr.toNat) n).isSome = true)) :=
  ⟨⟨7, up, by decide +kernel⟩,
   ⟨3, up.onBoot (fun b => { b with fuses := { b.fuses with bootHash1 := [1], revoked := 1 } }), by decide +kernel⟩,
   ⟨3, up.onBoot (fun b => { b with fuses := { b.fuses with revoked := 7 } }), by decide +kernel⟩,
   ⟨15, up, by decide +kernel⟩,
   ⟨5, up.onBoot (fun b => { b with security := 5 }), by decide +kernel⟩,
   ⟨6, up.onBoot (fun b => { b with security := 5 }), by decide +kernel⟩,
   ⟨List.replicate 64 0, preOp.onBoot (fun b => { b with debugFails := 2 }), by decide +kernel⟩,
   ⟨up, by decide +kernel⟩,
   ⟨up, by decide +kernel⟩,
   ⟨debugUp, by decide +kernel⟩,
   ⟨debugUp, by decide +kernel⟩,
   ⟨debugUp, by decide +kernel⟩,
   ⟨0x407FFFFF, 1, debugUp, by decide +kernel⟩,
   ⟨0x407FFFFF, [1], debugUp, by decide +kernel⟩,
   ⟨0x300040000000, 5, debugUp, by decide +kernel⟩⟩

theorem witness_UnitsPresentReadsByVariant :
    ∃ (s : State),
      s.sdoServed = true ∧ s.comm.sdo = .idle :=
  ⟨{ up with variant := .erv1610 }, by decide +kernel⟩

theorem witness_AudioCommandClearsAChannel :
    (∃ (c : Instr) (ch : Fin 2) (s : State),
      (c = .audioClearCh0 ∧ ch = 0 ∨ c = .audioClearCh1 ∧ ch = 1) ∧ s.boot.st = .running ∧ s.comm.nmt ≠ .stopped ∧ s.hasUnit 6 = true ∧ (s.chan ch).st = .latched ∨ (s.chan ch).st = .dcFault) ∧
    (∃ (c : Instr) (ch : Fin 2) (s : State),
      (c = .audioClearCh0 ∧ ch = 0 ∨ c = .audioClearCh1 ∧ ch = 1) ∧ s.boot.st = .running ∧ s.comm.nmt ≠ .stopped ∧ s.hasUnit 6 = true ∧ (s.chan ch).st ≠ .latched ∧ (s.chan ch).st ≠ .dcFault) ∧
    (∃ (v : Byte) (s : State),
      v ≠ 1 ∧ v ≠ 2 ∧ s.hasUnit 6 = true ∧ s.sdoServed = true ∧ s.comm.sdo = .idle) :=
  ⟨⟨.audioClearCh1, 1, chanUp .dcFault, by decide +kernel⟩,
   ⟨.audioClearCh0, 0, chanUp .dcFault, by decide +kernel⟩,
   ⟨0, up, by decide +kernel⟩⟩

theorem witness_StepKeepsCanonicalForm :
    (∃ (s : State) (t : State),
      step s = .next t ∧ Safety.Canonical s) ∧
    (∃ (s : State) (t : State),
      step s = .next t) ∧
    (∃ (s : State) (t : State),
      step s = .next t) :=
  ⟨⟨up, up.tick, rfl, by unfold Safety.Canonical; decide +kernel⟩,
   ⟨up, up.tick, rfl⟩,
   ⟨up, up.tick, rfl⟩⟩

theorem witness_DeviceTimeNeverRunsBackward :
    ∃ (s : State) (t : State),
      step s = .next t :=
  ⟨up, up.tick, rfl⟩


end Sys2Proof.Tests
end

section
/-! PROOFS. Chapter 00, scope: what an SDO upload of Units present answers on each variant (R11). The lemmas about reads and
about uploads hold for every entry; those about 0x2001 are at the end. -/

namespace Sys2Proof.Machine

/-! ### Reads of entries -/

/-- A read of any entry but BOOK_RECORD changes nothing (04 R152). -/
theorem State.readEntry_of_not_bookRecord (s : State) {idx sub : Nat} (h : ¬(idx = 0x2400 ∧ sub = 4)) :
    s.readEntry idx sub = (s.peek idx sub, s) := by
  have hread : ¬(idx = 0x2400 ∧ sub = 4 ∧ (s.peek idx sub).1 = 0) := fun ⟨hidx, hsub, _⟩ => h ⟨hidx, hsub⟩
  simp only [State.readEntry, if_neg hread]

/-- A readable entry outside the phase errors of R73 and BOOK_RECORD reads as its value. -/
theorem State.peek_of_card {s : State} {idx sub : Nat} {c : Card} (hfind : s.find idx sub = .card c)
    (hacc : c.acc ≠ .wo) (hbeat : idx ≠ 0x2100) (hbook : idx ≠ 0x2400) :
    s.peek idx sub = (0, c.ty, s.valueOf idx sub c.ty) := by
  simp only [State.peek, hfind, hacc, ↓reduceIte, hbeat, false_and, hbook]

/-- An entry that is no text and has a computed number reads as the bytes of that number. -/
theorem State.valueOf_of_numOf {s : State} {idx sub v : Nat} (ty : Ty) (htext : s.textOf idx sub = none)
    (hnum : s.numOf idx sub = some v) : s.valueOf idx sub ty = leBytes (ty.size.getD 0) v := by
  simp only [State.valueOf, htext, State.number, hnum, Option.getD_some]

/-- The units a variant may lack have their entries from 0x3000 on (01 R41). -/
theorem State.unitAbsent_of_lt (s : State) {idx : Nat} (h : idx < 0x3000) : s.unitAbsent idx = false := by
  simp only [State.unitAbsent, Bool.or_eq_false_iff, Bool.and_eq_false_iff, decide_eq_false_iff_not]
  omega

/-! ### SDO uploads (03 R96) -/

/-- With no transfer in progress there is nothing to abort. -/
theorem State.sdoStop_of_idle {s : State} (code : Nat) (h : s.comm.sdo = .idle) : s.sdoStop code = s := by
  simp only [State.sdoStop, h]

/-- Where SDO is served and no transfer runs, an entry that reads as at most 4 bytes is answered expedited. -/
theorem exec_sdoInitiateUpload_expedited {s u : State} {idx sub : Nat} {ty : Ty} {l : List Byte}
    (hserved : s.sdoServed = true) (hidle : s.comm.sdo = .idle) (hread : s.readEntry idx sub = ((0, ty, l), u))
    (hlen : l.length ≤ 4) :
    exec (.sdoInitiateUpload idx sub) s = .next { u with out := .sdo idx sub l :: u.out } := by
  have harm : exec (.sdoInitiateUpload idx sub) s = execSdoInitiateUpload idx sub s := rfl
  simp only [harm, execSdoInitiateUpload, hserved, Bool.true_eq_false, ↓reduceIte, State.sdoStop_of_idle _ hidle, hread,
    hlen, State.emit]

/-! ### Units present (00 R11) -/

/-- The card of 0x2001: a read-only U32. -/
theorem State.find_unitsPresent (s : State) : s.find 0x2001 0 = .card ⟨.u32, .ro, 0, [], .none, .t, false⟩ := by
  have hpresent : s.unitAbsent 0x2001 = false := s.unitAbsent_of_lt (by decide)
  have hcard : indexRows 0x2001 = some rows2001 := rfl
  simp only [State.find, hpresent, Bool.false_eq_true, ↓reduceIte, hcard, rows2001, rowCard, Nat.le_refl, and_self]

/-- A read of 0x2001 answers the 4 bytes of UNITS_PRESENT and changes nothing. -/
theorem State.readEntry_unitsPresent (s : State) :
    s.readEntry 0x2001 0 = ((0, .u32, leBytes 4 s.unitsPresent), s) := by
  have hvalue : s.valueOf 0x2001 0 .u32 = leBytes 4 s.unitsPresent := State.valueOf_of_numOf .u32 rfl rfl
  rw [s.readEntry_of_not_bookRecord (by decide),
    State.peek_of_card s.find_unitsPresent (by decide) (by decide) (by decide), hvalue]

/-- Settles O56: the upload is expedited, since UNITS_PRESENT reads as 4 bytes, and R11 gives the value of each variant. -/
theorem unitsPresentReadsByVariant : Obligations.UnitsPresentReadsByVariant := by
  intro s hserved hidle
  have hlen : (leBytes 4 s.unitsPresent).length ≤ 4 := Nat.le_of_eq (length_leBytes 4 s.unitsPresent)
  rw [exec_sdoInitiateUpload_expedited hserved hidle s.readEntry_unitsPresent hlen]
  cases hv : s.variant <;> simp only [State.unitsPresent, hv]

end Sys2Proof.Machine
end

section
/-! PROOFS. Chapter 02, device time: no command sets it back but a power-on, which starts it again at 0 (02 R43). One lemma
per command, in the order of the model's files. The frame laws of Laws/Frame1 to Frame3 say which operations leave device
time alone; the operations that wait for an instant move it by `upTo`, never back. -/

namespace Sys2Proof.Machine

/-! ### Device time as a part of the state -/

/-- The device time a part holds; 0 for a part that is not device time. -/
def PartVal.time : PartVal → Nat
  | .now v => v
  | _ => 0

@[simp] theorem PartVal.time_now (v : Nat) : (PartVal.now v).time = v := rfl

@[simp] theorem PartVal.time_ite (c : Prop) [Decidable c] (v w : PartVal) :
    (if c then v else w).time = if c then v.time else w.time := by split <;> rfl

/-- A bound on a choice of times is one on each. -/
@[simp] theorem le_time_ite (c : Prop) [Decidable c] (n a b : Nat) : (n ≤ if c then a else b) ↔ if c then n ≤ a else n ≤ b := by
  split <;> rfl

/-- Device time moves by what is missing of an instant, and by nothing when the instant is past. -/
@[simp] theorem State.upTo_get_now (n : Nat) (s : State) :
    (s.upTo n).get .now = .now ((s.get .now).time + (n - (s.get .now).time)) := by
  have hmax : max s.now n = s.now + (n - s.now) := by omega
  exact congrArg PartVal.now hmax

@[simp] theorem State.upToIsland_get_now (n : Nat) (s : State) :
    (s.upToIsland n).get .now = .now ((s.get .now).time + (n - s.island.epoch - (s.get .now).time)) :=
  s.upTo_get_now (n - s.island.epoch)

@[simp] theorem State.setNow_get_now (n : Nat) (s : State) : (s.setNow n).get .now = .now n := rfl

/-! ### Answers that do not go back -/

/-- The answer is a next state whose device time is not before that of `s`. -/
def State.NotBefore (s : State) (o : Host.Outcome State Fault Refusal) : Prop := ∃ t, o = .next t ∧ s.now ≤ t.now

/-- A next state is not before `s` when the part that holds its device time is not: the form the frame laws speak of. -/
@[simp] theorem State.notBefore_next (s t : State) : s.NotBefore (.next t) ↔ (s.get .now).time ≤ (t.get .now).time := by
  simp only [State.NotBefore, Host.Outcome.next.injEq, exists_eq_left']
  exact Iff.rfl

theorem State.NotBefore.now_le {s t : State} {o : Host.Outcome State Fault Refusal} (h : s.NotBefore o) (ht : o = .next t) :
    s.now ≤ t.now := by
  obtain ⟨u, hu, hle⟩ := h
  obtain rfl : u = t := Host.Outcome.next.inj (hu.symm.trans ht)
  exact hle

/-- A state that differs from `s` in other parts only is not before it. -/
theorem State.notBefore_of_get {s t : State} (h : t.get .now = s.get .now) : s.NotBefore (.next t) := by
  simp [h]

/-- The island acts only while VDD_SAFE is in range, so its act alone bounds its device time (14 R463). -/
theorem State.notBefore_islandUp {f : State → State} {s : State} (h : s.NotBefore (.next (f s))) :
    s.NotBefore (.next (s.islandUp f)) := by
  unfold State.islandUp
  split
  · simp
  · exact h

/-- A Blend command that cannot be fetched leaves device time alone. -/
theorem State.now_of_blendFetch {s u : State} {op : Nat} (h : s.blendFetch op = .inl u) : u.get .now = s.get .now := by
  unfold State.blendFetch at h
  dsimp only at h
  (repeat' split at h) <;> simp at h <;> simp [← h]

/-- A request taken from its place leaves device time alone. -/
theorem State.now_of_takeRequest {s u : State} {tag : Nat} {r : RemoteReq} (h : s.takeRequest tag = some (r, u)) :
    u.get .now = s.get .now := by
  simp only [State.takeRequest, Option.map_eq_some_iff, Prod.mk.injEq] at h
  obtain ⟨-, -, -, rfl⟩ := h
  simp

/-! ### Audio output (13) -/

theorem execAudioEnable_notBefore (s : State) : s.NotBefore (execAudioEnable s) := by simp [execAudioEnable]
theorem execAudioWrite_notBefore (val : BitVec 32) (s : State) : s.NotBefore (execAudioWrite val s) := by simp [execAudioWrite]
theorem execAudioFrameTick_notBefore (s : State) : s.NotBefore (execAudioFrameTick s) := by simp [execAudioFrameTick]
theorem execAudioMuteWrite_notBefore (f : AudioField) (val : Nat) (s : State) :
    s.NotBefore (execAudioMuteWrite f val s) := by simp [execAudioMuteWrite]
theorem execSoftStartEnd_notBefore (ch : Fin 2) (s : State) : s.NotBefore (execSoftStartEnd ch s) := by simp [execSoftStartEnd]
theorem execAudioLimitedCycle_notBefore (ch : Fin 2) (sides : BitVec 4) (s : State) :
    s.NotBefore (execAudioLimitedCycle ch sides s) := by simp [execAudioLimitedCycle]
theorem execAudioRetry_notBefore (ch : Fin 2) (s : State) : s.NotBefore (execAudioRetry ch s) := by simp [execAudioRetry]
theorem execAudioDcFault_notBefore (ch : Fin 2) (mv : BitVec 16) (s : State) :
    s.NotBefore (execAudioDcFault ch mv s) := by simp [execAudioDcFault]
theorem execStageTemperatureChange_notBefore (tenths : Int) (s : State) :
    s.NotBefore (execStageTemperatureChange tenths s) := by simp [execStageTemperatureChange]
theorem execAudioClearCh0_notBefore (s : State) : s.NotBefore (execAudioClearCh0 s) := by simp [execAudioClearCh0]
theorem execAudioClearCh1_notBefore (s : State) : s.NotBefore (execAudioClearCh1 s) := by simp [execAudioClearCh1]

/-! ### The Trellis (01) -/

theorem execTrellisFlitCrcError_notBefore (t l : Fin 4) (flit : Nat) (s : State) :
    s.NotBefore (execTrellisFlitCrcError t l flit s) := by simp [execTrellisFlitCrcError]
theorem execTrellisLinkRetrain_notBefore (t l : Fin 4) (ok : Bool) (s : State) :
    s.NotBefore (execTrellisLinkRetrain t l ok s) := by simp [execTrellisLinkRetrain]
theorem execTrellisLinkDisable_notBefore (t l : Fin 4) (s : State) :
    s.NotBefore (execTrellisLinkDisable t l s) := by simp [execTrellisLinkDisable]

/-! ### Gates and zones (12) -/

theorem execGateRawChange_notBefore (g : Fin 8) (b high : Bool) (stamp : Nat) (s : State) :
    s.NotBefore (execGateRawChange g b high stamp s) := by simp [execGateRawChange]

theorem execGateChangeAccepted_notBefore (g : Fin 8) (s : State) : s.NotBefore (execGateChangeAccepted g s) := by
  unfold execGateChangeAccepted
  split <;> simp

theorem execGateStuck_notBefore (g : Fin 8) (b : Bool) (s : State) : s.NotBefore (execGateStuck g b s) := by simp [execGateStuck]

theorem execGateSourceLost_notBefore (g : Fin 8) (s : State) : s.NotBefore (execGateSourceLost g s) := by
  unfold execGateSourceLost
  split <;> simp

theorem execGateFaultClear_notBefore (g : Fin 8) (s : State) :
    s.NotBefore (execGateFaultClear g s) := by simp [execGateFaultClear]
theorem execGateEnable_notBefore (g : Fin 8) (s : State) : s.NotBefore (execGateEnable g s) := by simp [execGateEnable]
theorem execGateDisable_notBefore (g : Fin 8) (s : State) : s.NotBefore (execGateDisable g s) := by simp [execGateDisable]
theorem execSourceWrite_notBefore (g : Fin 8) (b : Bool) (val : BitVec 32) (s : State) :
    s.NotBefore (execSourceWrite g b val s) := by simp [execSourceWrite]
theorem execBoundaryWrite_notBefore (z : Fin 4) (val : BitVec 16) (s : State) :
    s.NotBefore (execBoundaryWrite z val s) := by simp [execBoundaryWrite]
theorem execZoneRestore_notBefore (z : Fin 4) (target : BitVec 16) (s : State) :
    s.NotBefore (execZoneRestore z target s) := by simp [execZoneRestore]
theorem execZoneDisturb_notBefore (z : Fin 4) (s : State) : s.NotBefore (execZoneDisturb z s) := by simp [execZoneDisturb]
theorem execRestoreTimeout_notBefore (z : Fin 4) (s : State) :
    s.NotBefore (execRestoreTimeout z s) := by simp [execRestoreTimeout]
theorem execBaggingWeightWrite_notBefore (z : Fin 4) (val : BitVec 64) (s : State) :
    s.NotBefore (execBaggingWeightWrite z val s) := by simp [execBaggingWeightWrite]

/-! ### The belt (13) -/

theorem execHallEdge_notBefore (code : Fin 8) (stampNs : Nat) (s : State) :
    s.NotBefore (execHallEdge code stampNs s) := by simp [execHallEdge]

theorem execHallInvalid_notBefore (s : State) : s.NotBefore (execHallInvalid s) := by
  unfold execHallInvalid
  split <;> simp

theorem execQepEdge_notBefore (fwd : Bool) (stampNs : Nat) (s : State) :
    s.NotBefore (execQepEdge fwd stampNs s) := by simp [execQepEdge]
theorem execIndexLatch_notBefore (s : State) : s.NotBefore (execIndexLatch s) := by simp [execIndexLatch]

theorem execSpeedEstimate_notBefore (s : State) : s.NotBefore (execSpeedEstimate s) := by
  obtain ⟨f, g, h⟩ : ∃ f g, execSpeedEstimate s = .next (((s.accrue.onBelt f).onBelt g).beltRest) := ⟨_, _, rfl⟩
  simp [h]

theorem execSensorMismatch_notBefore (s : State) : s.NotBefore (execSensorMismatch s) := by
  unfold execSensorMismatch
  split <;> simp

theorem execSpeedLoopStep_notBefore (s : State) : s.NotBefore (execSpeedLoopStep s) := by simp [execSpeedLoopStep]
theorem execCurrentLimitCycle_notBefore (shuntUv : Nat) (s : State) :
    s.NotBefore (execCurrentLimitCycle shuntUv s) := by simp [execCurrentLimitCycle]

theorem execSustainedLimit_notBefore (s : State) : s.NotBefore (execSustainedLimit s) := by
  unfold execSustainedLimit
  split <;> simp

theorem execFastTrip_notBefore (shuntUv : Nat) (node : Bool) (s : State) :
    s.NotBefore (execFastTrip shuntUv node s) := by simp [execFastTrip]
theorem execBeltRun_notBefore (s : State) : s.NotBefore (execBeltRun s) := by simp [execBeltRun]
theorem execBeltStop_notBefore (s : State) : s.NotBefore (execBeltStop s) := by simp [execBeltStop]
theorem execBeltFaultClear_notBefore (s : State) : s.NotBefore (execBeltFaultClear s) := by simp [execBeltFaultClear]

theorem execObservationEnd_notBefore (s : State) : s.NotBefore (execObservationEnd s) := by
  unfold execObservationEnd
  dsimp only
  (repeat' split) <;> simp

theorem execBrakingTimeout_notBefore (s : State) : s.NotBefore (execBrakingTimeout s) := by simp [execBrakingTimeout]
theorem execStoppingTimeout_notBefore (s : State) : s.NotBefore (execStoppingTimeout s) := by simp [execStoppingTimeout]
theorem execStoDeEnergised_notBefore (s : State) : s.NotBefore (execStoDeEnergised s) := by simp [execStoDeEnergised]
theorem execStoEnergised_notBefore (s : State) : s.NotBefore (execStoEnergised s) := by simp [execStoEnergised]

/-! ### The safety island (14): instants of the island's own clock -/

theorem execSafetyCycle_notBefore (fbA fbB : Bool) (s : State) :
    s.NotBefore (execSafetyCycle fbA fbB s) := by simp [execSafetyCycle]
theorem execSafetyInputAccepted_notBefore (n : Fin 4) (b : Bool) (on : Bool) (since : Nat) (s : State) :
    s.NotBefore (execSafetyInputAccepted n b on since s) := State.notBefore_islandUp (by simp)
theorem execTestPulse_notBefore (tp1 : Bool) (obs : List PulseSeen) (s : State) :
    s.NotBefore (execTestPulse tp1 obs s) := State.notBefore_islandUp (by simp)

theorem execDiscrepancyTimeout_notBefore (n : Fin 4) (s : State) : s.NotBefore (execDiscrepancyTimeout n s) := by
  apply State.notBefore_islandUp
  split <;> simp

theorem execSpeedDiscrepancy_notBefore (s : State) : s.NotBefore (execSpeedDiscrepancy s) := by
  apply State.notBefore_islandUp
  split <;> simp

theorem execResetRequest_notBefore (n : Fin 4) (s : State) : s.NotBefore (execResetRequest n s) := by simp [execResetRequest]

theorem execDegradedExpiry_notBefore (s : State) : s.NotBefore (execDegradedExpiry s) := by
  apply State.notBefore_islandUp
  split <;> simp

theorem execSlsRampExpiry_notBefore (s : State) : s.NotBefore (execSlsRampExpiry s) := State.notBefore_islandUp (by simp)

theorem execStoFeedbackTimeout_notBefore (s : State) : s.NotBefore (execStoFeedbackTimeout s) := by
  apply State.notBefore_islandUp
  split <;> simp

theorem execTestDueTimer_notBefore (s : State) : s.NotBefore (execTestDueTimer s) := by
  apply State.notBefore_islandUp
  split <;> simp

theorem execOrdinaryStopLine_notBefore (asserted : Bool) (s : State) :
    s.NotBefore (execOrdinaryStopLine asserted s) := by simp [execOrdinaryStopLine]
theorem execStoCurrentLimitOff_notBefore (b : Bool) (s : State) :
    s.NotBefore (execStoCurrentLimitOff b s) := by simp [execStoCurrentLimitOff]
theorem execLockstepMismatch_notBefore (s : State) : s.NotBefore (execLockstepMismatch s) := by simp [execLockstepMismatch]
theorem execIslandWatchdog_notBefore (s : State) : s.NotBefore (execIslandWatchdog s) := by simp [execIslandWatchdog]
theorem execClockCheckFail_notBefore (ppm : Int) (s : State) :
    s.NotBefore (execClockCheckFail ppm s) := by simp [execClockCheckFail]
theorem execVddSafeFault_notBefore (s : State) : s.NotBefore (execVddSafeFault s) := by simp [execVddSafeFault]
theorem execIslandPowerUp_notBefore (s : State) : s.NotBefore (execIslandPowerUp s) := by simp [execIslandPowerUp]

theorem execSelftestComplete_notBefore (passed : Bool) (s : State) : s.NotBefore (execSelftestComplete passed s) := by
  apply State.notBefore_islandUp
  dsimp only
  split
  · simp
  · split
    · simp
    · split
      · simp
      · split <;> simp

theorem execSafetyParamBlock_notBefore (data : List Byte) (s : State) :
    s.NotBefore (execSafetyParamBlock data s) := by simp [execSafetyParamBlock]
theorem execSafetyConfirm_notBefore (data : List Byte) (s : State) :
    s.NotBefore (execSafetyConfirm data s) := by simp [execSafetyConfirm]
theorem execTransferWriteComplete_notBefore (s : State) :
    s.NotBefore (execTransferWriteComplete s) := by simp [execTransferWriteComplete]
theorem execTransferTimeout_notBefore (s : State) : s.NotBefore (execTransferTimeout s) := State.notBefore_islandUp (by simp)

/-! ### Vintages and the Cellar Book (04) -/

theorem execStore_notBefore (sub : Fin 4) (sig : BitVec 32) (s : State) : s.NotBefore (execStore sub sig s) := by simp [execStore]
theorem execRestoreDefaults_notBefore (sub : Fin 4) (sig : BitVec 32) (s : State) :
    s.NotBefore (execRestoreDefaults sub sig s) := by simp [execRestoreDefaults]

theorem execStoreComplete_notBefore (r : StoreEnd) (s : State) : s.NotBefore (execStoreComplete r s) := by
  unfold execStoreComplete
  split <;> simp

theorem execBookRecordWrite_notBefore (s : State) : s.NotBefore (execBookRecordWrite s) := by simp [execBookRecordWrite]

theorem execBookRecordRead_notBefore (s : State) : s.NotBefore (execBookRecordRead s) := by
  refine State.notBefore_of_get (State.served_get _ s .now fun u => ?_)
  have hread := u.bookRead_get .now (by decide)
  split <;> simp_all

theorem execBookAppendGo_notBefore (c : Fin 8) (s : State) : s.NotBefore (execBookAppendGo c s) := by simp [execBookAppendGo]

/-! ### Queues (09) -/

theorem execPushFirst_notBefore (c : Fin 8) (q : Fin 32) (s : State) :
    s.NotBefore (execPushFirst c q s) := by simp [execPushFirst]
theorem execPushAppend_notBefore (c : Fin 8) (q : Fin 32) (s : State) :
    s.NotBefore (execPushAppend c q s) := by simp [execPushAppend]
theorem execPop_notBefore (c : Fin 8) (q : Fin 32) (s : State) : s.NotBefore (execPop c q s) := by simp [execPop]

theorem execSpillPopComplete_notBefore (c : Fin 8) (q : Fin 32) (s : State) : s.NotBefore (execSpillPopComplete c q s) := by
  unfold execSpillPopComplete
  dsimp only
  (repeat' split) <;> simp

theorem execSpillMove_notBefore (q : Fin 32) (l : Fin 2) (bad : BitVec 4) (s : State) :
    s.NotBefore (execSpillMove q l bad s) := by simp [execSpillMove]
theorem execQueueCreditReturn_notBefore (q : Fin 32) (l : Fin 8) (s : State) :
    s.NotBefore (execQueueCreditReturn q l s) := by simp [execQueueCreditReturn]

theorem execPacketAbandon_notBefore (q : Fin 32) (s : State) : s.NotBefore (execPacketAbandon q s) := by
  unfold execPacketAbandon
  split <;> simp

theorem execQueueEnable_notBefore (q : Fin 32) (s : State) : s.NotBefore (execQueueEnable q s) := by simp [execQueueEnable]
theorem execQueueDisable_notBefore (q : Fin 32) (s : State) : s.NotBefore (execQueueDisable q s) := by simp [execQueueDisable]
theorem execQueueFlush_notBefore (q : Fin 32) (s : State) : s.NotBefore (execQueueFlush q s) := by simp [execQueueFlush]
theorem execQueueClearUnderrun_notBefore (q : Fin 32) (s : State) :
    s.NotBefore (execQueueClearUnderrun q s) := by simp [execQueueClearUnderrun]

theorem execQueuePendingTimeout_notBefore (q : Fin 32) (s : State) : s.NotBefore (execQueuePendingTimeout q s) := by
  unfold execQueuePendingTimeout
  split <;> simp

/-! ### The encoder (16) -/

theorem execFrameEncodeStart_notBefore (st : Fin 2) (s : State) : s.NotBefore (execFrameEncodeStart st s) := by
  unfold execFrameEncodeStart
  split <;> simp

theorem execSliceEncode_notBefore (st : Fin 2) (lineError : Bool) (s : State) : s.NotBefore (execSliceEncode st lineError s) := by
  unfold execSliceEncode
  dsimp only
  (repeat' split) <;> simp

theorem execFrameEncodeDone_notBefore (st : Fin 2) (s : State) :
    s.NotBefore (execFrameEncodeDone st s) := by simp [execFrameEncodeDone]

theorem execVideoPacketWrite_notBefore (st : Fin 2) (s : State) : s.NotBefore (execVideoPacketWrite st s) := by
  unfold execVideoPacketWrite
  dsimp only
  split
  · simp
  · split
    · simp
    next hpush => simp [State.hwPush_get _ _ _ .now (by decide) _ hpush]

theorem execStreamEnable_notBefore (st : Fin 2) (s : State) : s.NotBefore (execStreamEnable st s) := by simp [execStreamEnable]
theorem execStreamDisable_notBefore (st : Fin 2) (s : State) : s.NotBefore (execStreamDisable st s) := by simp [execStreamDisable]
theorem execStreamIdr_notBefore (st : Fin 2) (s : State) : s.NotBefore (execStreamIdr st s) := by simp [execStreamIdr]
theorem execStreamRecoverNew_notBefore (st : Fin 2) (s : State) :
    s.NotBefore (execStreamRecoverNew st s) := by simp [execStreamRecoverNew]
theorem execStreamRecoverOld_notBefore (st : Fin 2) (s : State) :
    s.NotBefore (execStreamRecoverOld st s) := by simp [execStreamRecoverOld]

/-! ### Sensor ports (05) -/

theorem execHeadTimeSilent_notBefore (p : Fin 6) (s : State) :
    s.NotBefore (execHeadTimeSilent p s) := by simp [execHeadTimeSilent]

theorem execPortInsertion_notBefore (p : Fin 6) (s : State) : s.NotBefore (execPortInsertion p s) := by
  unfold execPortInsertion
  dsimp only
  (repeat' split) <;> simp

theorem execPortRemoval_notBefore (p : Fin 6) (s : State) : s.NotBefore (execPortRemoval p s) := by simp [execPortRemoval]
theorem execPortLinkLoss_notBefore (p : Fin 6) (s : State) : s.NotBefore (execPortLinkLoss p s) := by simp [execPortLinkLoss]
theorem execPortEnableWrite_notBefore (p : Fin 6) (on : Bool) (s : State) :
    s.NotBefore (execPortEnableWrite p on s) := by simp [execPortEnableWrite]
theorem execPortRescan_notBefore (p : Fin 6) (s : State) : s.NotBefore (execPortRescan p s) := by simp [execPortRescan]
theorem execPortClearHotTable_notBefore (p : Fin 6) (s : State) :
    s.NotBefore (execPortClearHotTable p s) := by simp [execPortClearHotTable]
theorem execEfuseOn_notBefore (p : Fin 6) (s : State) : s.NotBefore (execEfuseOn p s) := by simp [execEfuseOn]
theorem execIdentifyStart_notBefore (p : Fin 6) (s : State) : s.NotBefore (execIdentifyStart p s) := by simp [execIdentifyStart]
theorem execIdentityReadRetry_notBefore (p : Fin 6) (s : State) :
    s.NotBefore (execIdentityReadRetry p s) := by simp [execIdentityReadRetry]
theorem execIdentityReadComplete_notBefore (p : Fin 6) (ack : Bool) (rec : List Byte) (s : State) :
    s.NotBefore (execIdentityReadComplete p ack rec s) := by simp [execIdentityReadComplete]
theorem execPortReadyTimeout_notBefore (p : Fin 6) (s : State) :
    s.NotBefore (execPortReadyTimeout p s) := by simp [execPortReadyTimeout]
theorem execPortStallTimeout_notBefore (p : Fin 6) (s : State) :
    s.NotBefore (execPortStallTimeout p s) := by simp [execPortStallTimeout]
theorem execEfuseTrip_notBefore (p : Fin 6) (reason : Fin 6) (s : State) :
    s.NotBefore (execEfuseTrip p reason s) := by simp [execEfuseTrip]
theorem execCsi2Packet_notBefore (p : Fin 6) (k : CsiPacket) (s : State) :
    s.NotBefore (execCsi2Packet p k s) := by simp [execCsi2Packet]

theorem execFrameStart_notBefore (p : Fin 6) (arrival : Nat) (s : State) : s.NotBefore (execFrameStart p arrival s) := by
  unfold execFrameStart
  split
  · dsimp only
    split
    all_goals
      next t hslot =>
        have hget : t.get .now = (State.frameSlot p.val _).2.get .now := congrArg (·.2.get .now) hslot.symm
        simp [hget]
  · simp

theorem execFrameEnd_notBefore (p : Fin 6) (s : State) : s.NotBefore (execFrameEnd p s) := by
  unfold execFrameEnd
  split <;> simp

/-! ### Voice cores (06) -/

theorem execCoreLoad_notBefore (c : Fin 256) (s : State) : s.NotBefore (execCoreLoad c s) := by simp [execCoreLoad]
theorem execCoreClearDone_notBefore (c : Fin 256) (s : State) : s.NotBefore (execCoreClearDone c s) := by simp [execCoreClearDone]
theorem execCoreCommit_notBefore (c : Fin 256) (s : State) : s.NotBefore (execCoreCommit c s) := by simp [execCoreCommit]
theorem execCoreCommitDone_notBefore (c : Fin 256) (s : State) :
    s.NotBefore (execCoreCommitDone c s) := by simp [execCoreCommitDone]
theorem execCoreDisable_notBefore (c : Fin 256) (s : State) : s.NotBefore (execCoreDisable c s) := by simp [execCoreDisable]
theorem execVoiceRankCountWrite_notBefore (t : Fin 4) (val : BitVec 32) (s : State) :
    s.NotBefore (execVoiceRankCountWrite t val s) := by simp [execVoiceRankCountWrite]

theorem execCoreEventAccept_notBefore (c : Fin 256) (s : State) : s.NotBefore (execCoreEventAccept c s) := by
  unfold execCoreEventAccept
  split
  · simp
  · split <;> simp

/-! ### Routers and routing tables (07) -/

theorem execRouterFlitArrive_notBefore (r : Fin 256) (i : Inp) (vn : Bool) (s : State) :
    s.NotBefore (execRouterFlitArrive r i vn s) := by
  unfold execRouterFlitArrive
  split
  · simp
  · split <;> simp

theorem execCoreFanoutSend_notBefore (c : Fin 256) (s : State) : s.NotBefore (execCoreFanoutSend c s) := by
  unfold execCoreFanoutSend
  split
  · simp
  · split <;> simp

theorem execIngestInject_notBefore (p : Fin 6) (s : State) : s.NotBefore (execIngestInject p s) := by
  unfold execIngestInject
  dsimp only
  (repeat' split) <;> simp

theorem execVn0Escape_notBefore (r : Fin 256) (o : Dir) (i : Inp) (s : State) :
    s.NotBefore (execVn0Escape r o i s) := by simp [execVn0Escape]
theorem execVn0AgeBoost_notBefore (r : Fin 256) (o : Dir) (i : Inp) (s : State) :
    s.NotBefore (execVn0AgeBoost r o i s) := by simp [execVn0AgeBoost]
theorem execCreditReturn_notBefore (r : Fin 256) (o : LinkDir) (vn : Bool) (s : State) :
    s.NotBefore (execCreditReturn r o vn s) := by simp [execCreditReturn]
theorem execCreditQuietCheck_notBefore (r : Fin 256) (o : LinkDir) (vn : Bool) (s : State) :
    s.NotBefore (execCreditQuietCheck r o vn s) := by simp [execCreditQuietCheck]
theorem execTableItemWrite_notBefore (t : Fin 4) (val : BitVec 32) (s : State) :
    s.NotBefore (execTableItemWrite t val s) := by simp [execTableItemWrite]
theorem execTableItemRead_notBefore (t : Fin 4) (s : State) : s.NotBefore (execTableItemRead t s) := by simp [execTableItemRead]

/-! ### Caches, accesses and atomics (10) -/

theorem execGetS_notBefore (c : Fin 8) (line cycle : Nat) (s : State) :
    s.NotBefore (execGetS c line cycle s) := by simp [execGetS]
theorem execGetM_notBefore (c : Fin 8) (line cycle : Nat) (s : State) :
    s.NotBefore (execGetM c line cycle s) := by simp [execGetM]
theorem execPutS_notBefore (c : Fin 8) (line : Nat) (s : State) : s.NotBefore (execPutS c line s) := by simp [execPutS]
theorem execPutE_notBefore (c : Fin 8) (line : Nat) (s : State) : s.NotBefore (execPutE c line s) := by simp [execPutE]
theorem execPutM_notBefore (c : Fin 8) (line : Nat) (s : State) : s.NotBefore (execPutM c line s) := by simp [execPutM]
theorem execPutMData_notBefore (line : Nat) (s : State) : s.NotBefore (execPutMData line s) := by simp [execPutMData]

theorem execNcRead_notBefore (req : Nat) (addr : Addr) (len : Nat) (upset : Upset) (s : State) :
    s.NotBefore (execNcRead req addr len upset s) := by
  unfold execNcRead
  dsimp only
  (repeat' split) <;> simp

theorem execNcWrite_notBefore (req : Nat) (addr : Addr) (data : List Byte) (s : State) :
    s.NotBefore (execNcWrite req addr data s) := by
  unfold execNcWrite
  dsimp only
  (repeat' split) <;> simp

theorem execLr_notBefore (c : Fin 8) (addr : Addr) (dbl : Bool) (s : State) : s.NotBefore (execLr c addr dbl s) := by
  unfold execLr
  split
  · simp
  · split
    next hguard => simp [State.atomicGuard_get _ _ _ _ .now (by decide) _ hguard]
    · simp

theorem execSc_notBefore (c : Fin 8) (addr : Addr) (dbl : Bool) (val : BitVec 64) (s : State) :
    s.NotBefore (execSc c addr dbl val s) := by
  unfold execSc
  split
  · simp
  · split
    next hguard => simp [State.atomicGuard_get _ _ _ _ .now (by decide) _ hguard]
    · simp

theorem execAmo_notBefore (c : Fin 8) (addr : Addr) (dbl : Bool) (op : AmoOp) (val : BitVec 64) (s : State) :
    s.NotBefore (execAmo c addr dbl op val s) := by
  unfold execAmo
  split
  · simp
  · split
    next hguard => simp [State.atomicGuard_get _ _ _ _ .now (by decide) _ hguard]
    · simp

theorem execFenceSCore_notBefore (c : Fin 8) (word : BitVec 32) (s : State) :
    s.NotBefore (execFenceSCore c word s) := by simp [execFenceSCore]
theorem execFenceSChip_notBefore (c : Fin 8) (word : BitVec 32) (s : State) :
    s.NotBefore (execFenceSChip c word s) := by simp [execFenceSChip]
theorem execFenceSSystem_notBefore (c : Fin 8) (word : BitVec 32) (s : State) :
    s.NotBefore (execFenceSSystem c word s) := by simp [execFenceSSystem]
theorem execFence_notBefore (c : Fin 8) (pred _succ : BitVec 4) (s : State) :
    s.NotBefore (execFence c pred _succ s) := by simp [execFence]
theorem execFenceI_notBefore (c : Fin 8) (s : State) : s.NotBefore (execFenceI c s) := by simp [execFenceI]
theorem execFenceTso_notBefore (c : Fin 8) (s : State) : s.NotBefore (execFenceTso c s) := by simp [execFenceTso]
theorem execAccessErrorClear_notBefore (s : State) : s.NotBefore (execAccessErrorClear s) := by simp [execAccessErrorClear]

/-! ### Press tasks and commands (08) -/

theorem execTaskSubmit_notBefore (t : Fin 4) (s : State) : s.NotBefore (execTaskSubmit t s) := by simp [execTaskSubmit]
theorem execTaskCancel_notBefore (t : Fin 4) (slot : Fin 1024) (s : State) :
    s.NotBefore (execTaskCancel t slot s) := by simp [execTaskCancel]

theorem execTaskCompletionPost_notBefore (t : Fin 4) (slot : Fin 1024) (s : State) :
    s.NotBefore (execTaskCompletionPost t slot s) := by
  unfold execTaskCompletionPost
  dsimp only
  split
  · split
    · simp
    · split
      · split
        · simp
        next hpush => simp [State.hwPush_get _ _ _ .now (by decide) _ hpush]
      · simp
  · simp

theorem execTaskDispatch_notBefore (t : Fin 4) (u : Unit3) (s : State) : s.NotBefore (execTaskDispatch t u s) := by
  unfold execTaskDispatch
  dsimp only
  (repeat' split) <;> simp

theorem execTaskComplete_notBefore (t : Fin 4) (u : Unit3) (s : State) :
    s.NotBefore (execTaskComplete t u s) := by simp [execTaskComplete]
theorem execPressEnd_notBefore (e : Fin 8) (s : State) : s.NotBefore (execPressEnd e s) := by simp [execPressEnd]
theorem execMatmul_notBefore (e : Fin 8) (bad : Bool) (s : State) : s.NotBefore (execMatmul e bad s) := by simp [execMatmul]
theorem execConv_notBefore (e : Fin 8) (bad : Bool) (s : State) : s.NotBefore (execConv e bad s) := by simp [execConv]
theorem execPressAdd_notBefore (e : Fin 8) (bad : Bool) (s : State) : s.NotBefore (execPressAdd e bad s) := by simp [execPressAdd]
theorem execMaxpool_notBefore (e : Fin 8) (bad : Bool) (s : State) : s.NotBefore (execMaxpool e bad s) := by simp [execMaxpool]
theorem execLut_notBefore (e : Fin 8) (bad : Bool) (s : State) : s.NotBefore (execLut e bad s) := by simp [execLut]
theorem execCopy_notBefore (e : Fin 8) (bad : Bool) (s : State) : s.NotBefore (execCopy e bad s) := by simp [execCopy]
theorem execFrameLoad_notBefore (e : Fin 8) (bad : Bool) (s : State) :
    s.NotBefore (execFrameLoad e bad s) := by simp [execFrameLoad]

/-! ### Blend (08) -/

theorem execSlateCommit_notBefore (e : Fin 8) (bad : Bool) (s : State) :
    s.NotBefore (execSlateCommit e bad s) := by simp [execSlateCommit]
theorem execWeightSampleWrite_notBefore (val : BitVec 64) (s : State) :
    s.NotBefore (execWeightSampleWrite val s) := by simp [execWeightSampleWrite]

theorem execGather_notBefore (s : State) : s.NotBefore (execGather s) := by
  unfold execGather
  split
  next hfetch => simp [State.now_of_blendFetch hfetch]
  · simp

theorem execFinalise_notBefore (s : State) : s.NotBefore (execFinalise s) := by
  unfold execFinalise
  split
  next hfetch => simp [State.now_of_blendFetch hfetch]
  · split <;> simp

/-! ### Movers (10) -/

theorem execMoverTailWrite_notBefore (m : Fin 16) (tail : BitVec 16) (s : State) :
    s.NotBefore (execMoverTailWrite m tail s) := by simp [execMoverTailWrite]
theorem execMoverEnable_notBefore (m : Fin 16) (s : State) : s.NotBefore (execMoverEnable m s) := by simp [execMoverEnable]
theorem execMoverDisable_notBefore (m : Fin 16) (s : State) : s.NotBefore (execMoverDisable m s) := by simp [execMoverDisable]
theorem execMoverAbort_notBefore (m : Fin 16) (s : State) : s.NotBefore (execMoverAbort m s) := by simp [execMoverAbort]

theorem execDescriptorStart_notBefore (m : Fin 16) (s : State) : s.NotBefore (execDescriptorStart m s) := by
  unfold execDescriptorStart
  dsimp only
  (repeat' split) <;> simp

theorem execDescriptorComplete_notBefore (m : Fin 16) (s : State) : s.NotBefore (execDescriptorComplete m s) := by
  unfold execDescriptorComplete
  split <;> simp

theorem execMoverCompletionPost_notBefore (m : Fin 16) (s : State) :
    s.NotBefore (execMoverCompletionPost m s) := by simp [execMoverCompletionPost]
theorem execMoverAbortDone_notBefore (m : Fin 16) (s : State) :
    s.NotBefore (execMoverAbortDone m s) := by simp [execMoverAbortDone]

/-! ### Time reads, SYNC_OUT and SYNC_IN (02) -/

theorem execDeviceTimeLoRead_notBefore (req : Nat) (s : State) :
    s.NotBefore (execDeviceTimeLoRead req s) := by simp [execDeviceTimeLoRead]
theorem execBeatNumberLoRead_notBefore (req : Nat) (s : State) :
    s.NotBefore (execBeatNumberLoRead req s) := by simp [execBeatNumberLoRead]
theorem execSyncOutPulseEnd_notBefore (s : State) : s.NotBefore (execSyncOutPulseEnd s) := by simp [execSyncOutPulseEnd]
theorem execSyncInEdge_notBefore (stamp : Nat) (s : State) : s.NotBefore (execSyncInEdge stamp s) := by simp [execSyncInEdge]
theorem execSyncInGlitch_notBefore (s : State) : s.NotBefore (execSyncInGlitch s) := by simp [execSyncInGlitch]

theorem execSyncInTimeout_notBefore (s : State) : s.NotBefore (execSyncInTimeout s) := by
  unfold execSyncInTimeout
  split <;> simp

/-! ### Images, installs and switches (04) -/

theorem execInstallBegin_notBefore (s : State) : s.NotBefore (execInstallBegin s) := by simp [execInstallBegin]
theorem execInstallData_notBefore (data : List Byte) (s : State) :
    s.NotBefore (execInstallData data s) := by simp [execInstallData]
theorem execInstallCommit_notBefore (s : State) : s.NotBefore (execInstallCommit s) := by simp [execInstallCommit]
theorem execInstallCommitComplete_notBefore (ok : Bool) (s : State) :
    s.NotBefore (execInstallCommitComplete ok s) := by simp [execInstallCommitComplete]
theorem execInstallAbort_notBefore (s : State) : s.NotBefore (execInstallAbort s) := by simp [execInstallAbort]

theorem execInstallActivate_notBefore (s : State) : s.NotBefore (execInstallActivate s) := by
  refine State.notBefore_of_get (State.written_get _ s .now (fun u => ?_) (by decide))
  have hact := u.installActivate_get .local .now (by decide)
  split <;> simp_all

theorem execImageSwitch_notBefore (ok : Bool) (s : State) : s.NotBefore (execImageSwitch ok s) := by
  unfold execImageSwitch
  split <;> simp

theorem execImageLoad_notBefore (s : State) : s.NotBefore (execImageLoad s) := by simp [execImageLoad]

/-! ### Choir Link ports and messages (11) -/

theorem execChoirPortTrained_notBefore (p : Fin 2) (s : State) :
    s.NotBefore (execChoirPortTrained p s) := by simp [execChoirPortTrained]
theorem execChoirPortRetry_notBefore (p : Fin 2) (s : State) :
    s.NotBefore (execChoirPortRetry p s) := by simp [execChoirPortRetry]
theorem execChoirTrainingTimeout_notBefore (p : Fin 2) (s : State) :
    s.NotBefore (execChoirTrainingTimeout p s) := by simp [execChoirTrainingTimeout]
theorem execChoirLinkLoss_notBefore (p : Fin 2) (s : State) : s.NotBefore (execChoirLinkLoss p s) := by simp [execChoirLinkLoss]
theorem execLinkFrameCrcError_notBefore (p : Fin 2) (bytes : List Byte) (s : State) :
    s.NotBefore (execLinkFrameCrcError p bytes s) := by simp [execLinkFrameCrcError]

theorem execLinkNak_notBefore (p : Fin 2) (ackSeq : BitVec 16) (s : State) : s.NotBefore (execLinkNak p ackSeq s) := by
  unfold execLinkNak
  dsimp only
  (repeat' split) <;> simp

theorem execControlMessageTimeout_notBefore (src tag : Fin 16) (s : State) :
    s.NotBefore (execControlMessageTimeout src tag s) := by
  unfold execControlMessageTimeout
  split <;> simp

theorem execOutputGrant_notBefore (r : Fin 256) (o : Dir) (s : State) :
    s.NotBefore (execOutputGrant r o s) := by simp [execOutputGrant]
theorem execCredit_notBefore (v : LinkVia) (s : State) : s.NotBefore (execCredit v s) := by simp [execCredit]
theorem execHello_notBefore (v : LinkVia) (h : HelloMsg) (s : State) : s.NotBefore (execHello v h s) := by simp [execHello]
theorem execHelloTimer_notBefore (s : State) : s.NotBefore (execHelloTimer s) := by simp [execHelloTimer]

/-! ### The Choir beat and membership (11) -/

theorem execBeatFrame_notBefore (v : LinkVia) (b : BeatMsg) (s : State) :
    s.NotBefore (execBeatFrame v b s) := by simp [execBeatFrame]
theorem execChoirBeatTimeout_notBefore (s : State) : s.NotBefore (execChoirBeatTimeout s) := by simp [execChoirBeatTimeout]

theorem execHoldoverLimitExpiry_notBefore (s : State) : s.NotBefore (execHoldoverLimitExpiry s) := by
  unfold execHoldoverLimitExpiry
  split <;> simp

theorem execPing_notBefore (v : LinkVia) (time : BitVec 64) (s : State) : s.NotBefore (execPing v time s) := by simp [execPing]
theorem execPong_notBefore (v : LinkVia) (time : BitVec 64) (turnNs : BitVec 32) (arrivalNs : Nat) (s : State) :
    s.NotBefore (execPong v time turnNs arrivalNs s) := by simp [execPong]
theorem execJoin_notBefore (v : LinkVia) (serial : BitVec 32) (state : Nat) (err : Int) (s : State) :
    s.NotBefore (execJoin v serial state err s) := by simp [execJoin]
theorem execMembership_notBefore (v : LinkVia) (m : MemberMsg) (s : State) :
    s.NotBefore (execMembership v m s) := by simp [execMembership]
theorem execMemberHeartbeat_notBefore (v : LinkVia) (generation beat : Nat) (s : State) :
    s.NotBefore (execMemberHeartbeat v generation beat s) := by simp [execMemberHeartbeat]
theorem execSwitchPrepare_notBefore (v : LinkVia) (era : Nat) (s : State) :
    s.NotBefore (execSwitchPrepare v era s) := by simp [execSwitchPrepare]
theorem execSwitchAccept_notBefore (v : LinkVia) (era : Nat) (s : State) :
    s.NotBefore (execSwitchAccept v era s) := by simp [execSwitchAccept]
theorem execSwitchRefuse_notBefore (v : LinkVia) (era : Nat) (status : BitVec 32) (s : State) :
    s.NotBefore (execSwitchRefuse v era status s) := by simp [execSwitchRefuse]
theorem execSwitchCommit_notBefore (v : LinkVia) (era : Nat) (s : State) :
    s.NotBefore (execSwitchCommit v era s) := by simp [execSwitchCommit]
theorem execSwitchCancel_notBefore (v : LinkVia) (era : Nat) (s : State) :
    s.NotBefore (execSwitchCancel v era s) := by simp [execSwitchCancel]
theorem execSwitchAcceptTimeout_notBefore (s : State) :
    s.NotBefore (execSwitchAcceptTimeout s) := by simp [execSwitchAcceptTimeout]
theorem execChoirResetRequest_notBefore (id : Fin 16) (s : State) :
    s.NotBefore (execChoirResetRequest id s) := by simp [execChoirResetRequest]

/-! ### The gateway (11) -/

theorem execBarrier_notBefore (v : LinkVia) (beat rank : Nat) (counts : List (Nat × Nat × Nat)) (s : State) :
    s.NotBefore (execBarrier v beat rank counts s) := by simp [execBarrier]
theorem execStageEnd_notBefore (v : LinkVia) (beat : Nat) (terms : LinkTerms) (counts : List (Nat × Nat × Nat)) (s : State) :
    s.NotBefore (execStageEnd v beat terms counts s) := by simp [execStageEnd]

theorem execReportRepeat_notBefore (s : State) : s.NotBefore (execReportRepeat s) := by
  unfold execReportRepeat
  split <;> simp

theorem execMemberUnreachable_notBefore (id : Fin 16) (s : State) :
    s.NotBefore (execMemberUnreachable id s) := by simp [execMemberUnreachable]
theorem execHeartbeatMissedDeparture_notBefore (id : Fin 16) (s : State) :
    s.NotBefore (execHeartbeatMissedDeparture id s) := by simp [execHeartbeatMissedDeparture]
theorem execEvents_notBefore (v : LinkVia) (vn1 : Bool) (slots : List (Bool × Packet)) (s : State) :
    s.NotBefore (execEvents v vn1 slots s) := by simp [execEvents]

theorem execGatewayImport_notBefore (s : State) : s.NotBefore (execGatewayImport s) := by
  unfold execGatewayImport
  split <;> simp

theorem execMemReq_notBefore (v : LinkVia) (tag : Nat) (wr : Bool) (addr : Addr) (len : Nat) (data : List Byte) (s : State) :
    s.NotBefore (execMemReq v tag wr addr len data s) := by simp [execMemReq]
theorem execMemRsp_notBefore (v : LinkVia) (tag : Nat) (wr : Bool) (addr : Addr) (status : Nat) (data : List Byte) (s : State) :
    s.NotBefore (execMemRsp v tag wr addr status data s) := by simp [execMemRsp]

theorem execRemoteRequestTimeout_notBefore (tag : Nat) (s : State) : s.NotBefore (execRemoteRequestTimeout tag s) := by
  unfold execRemoteRequestTimeout
  split
  · simp
  next htake => simp [State.now_of_takeRequest htake]

/-! ### Ingest windows and the stages of a beat (02, 06, 07) -/

theorem execIngestWindowClose_notBefore (s : State) : s.NotBefore (execIngestWindowClose s) := by simp [execIngestWindowClose]

theorem execVoiceStageStart_notBefore (s : State) : s.NotBefore (execVoiceStageStart s) := by
  unfold execVoiceStageStart
  split <;> simp

theorem execRankBarrierOpen_notBefore (s : State) : s.NotBefore (execRankBarrierOpen s) := by
  unfold execRankBarrierOpen
  split <;> simp

theorem execVoiceStageEnd_notBefore (s : State) : s.NotBefore (execVoiceStageEnd s) := by
  unfold execVoiceStageEnd
  split <;> simp

theorem execVoiceStageDeadline_notBefore (s : State) : s.NotBefore (execVoiceStageDeadline s) := by
  unfold execVoiceStageDeadline
  split <;> simp

theorem execShedClassDiscard_notBefore (cls : Fin 4) (s : State) : s.NotBefore (execShedClassDiscard cls s) := by
  unfold execShedClassDiscard
  split <;> simp

theorem execPolicyReturnToHold_notBefore (st : StageName) (s : State) : s.NotBefore (execPolicyReturnToHold st s) := by
  unfold execPolicyReturnToHold
  split <;> simp

theorem execTemplateInstantiate_notBefore (s : State) : s.NotBefore (execTemplateInstantiate s) := by
  unfold execTemplateInstantiate
  split <;> simp

theorem execIngestStart_notBefore (s : State) : s.NotBefore (execIngestStart s) := by simp [execIngestStart]

/-! ### Reset, boot and trust (17) -/

theorem execResetN_notBefore (s : State) : s.NotBefore (execResetN s) := by simp [execResetN]
theorem execWatchdogTimeout_notBefore (s : State) : s.NotBefore (execWatchdogTimeout s) := by simp [execWatchdogTimeout]
theorem execWatchdogKick_notBefore (val : BitVec 32) (s : State) :
    s.NotBefore (execWatchdogKick val s) := by simp [execWatchdogKick]
theorem execSoftwareReset_notBefore (val : BitVec 32) (s : State) :
    s.NotBefore (execSoftwareReset val s) := by simp [execSoftwareReset]
theorem execResetEnd_notBefore (s : State) : s.NotBefore (execResetEnd s) := by simp [execResetEnd]

theorem execBootComplete_notBefore (s : State) : s.NotBefore (execBootComplete s) := by
  unfold execBootComplete
  split
  · have hpick := State.pickBoot_get s.selectKeys.abandonSlot.bootOrder s.selectKeys.abandonSlot .now (by decide)
    dsimp only
    split <;> simp_all
  · simp

theorem execBootConfirm_notBefore (val : BitVec 32) (s : State) : s.NotBefore (execBootConfirm val s) := by simp [execBootConfirm]
theorem execDfuDownload_notBefore (image : List Byte) (s : State) :
    s.NotBefore (execDfuDownload image s) := by simp [execDfuDownload]
theorem execBootSlotWrite_notBefore (s : State) : s.NotBefore (execBootSlotWrite s) := by simp [execBootSlotWrite]
theorem execKeyListWrite_notBefore (s : State) : s.NotBefore (execKeyListWrite s) := by simp [execKeyListWrite]

theorem execBootUpdateComplete_notBefore (s : State) : s.NotBefore (execBootUpdateComplete s) := by
  unfold execBootUpdateComplete
  split <;> simp

theorem execFuseProgram_notBefore (field index : Nat) (s : State) :
    s.NotBefore (execFuseProgram field index s) := by simp [execFuseProgram]
theorem execRollbackAdvance_notBefore (val : BitVec 32) (s : State) :
    s.NotBefore (execRollbackAdvance val s) := by simp [execRollbackAdvance]
theorem execDebugResponse_notBefore (sig : List Byte) (s : State) :
    s.NotBefore (execDebugResponse sig s) := by simp [execDebugResponse]
theorem execIdcode_notBefore (s : State) : s.NotBefore (execIdcode s) := by simp [execIdcode]
theorem execBypass_notBefore (s : State) : s.NotBefore (execBypass s) := by simp [execBypass]
theorem execEthLinkChange_notBefore (p : Fin 2) (state : Fin 3) (s : State) :
    s.NotBefore (execEthLinkChange p state s) := by simp [execEthLinkChange]

/-! ### The power manager (15) -/

theorem execOperatingPointChange_notBefore (s : State) : s.NotBefore (execOperatingPointChange s) := by
  unfold execOperatingPointChange
  split <;> simp

theorem execVcoreSettled_notBefore (mv : Nat) (s : State) : s.NotBefore (execVcoreSettled mv s) := by simp [execVcoreSettled]
theorem execPvidResend_notBefore (s : State) : s.NotBefore (execPvidResend s) := by simp [execPvidResend]
theorem execVinLowShutdown_notBefore (vinMv : Nat) (s : State) :
    s.NotBefore (execVinLowShutdown vinMv s) := by simp [execVinLowShutdown]
theorem execRailFault_notBefore (s : State) : s.NotBefore (execRailFault s) := by simp [execRailFault]
theorem execRegulatorFault_notBefore (status : BitVec 12) (s : State) :
    s.NotBefore (execRegulatorFault status s) := by simp [execRegulatorFault]
theorem execTemperatureSample_notBefore (hub : Int) (tiles : List Int) (s : State) :
    s.NotBefore (execTemperatureSample hub tiles s) := by simp [execTemperatureSample]
theorem execBrownoutWarning_notBefore (vinMv : Nat) (s : State) :
    s.NotBefore (execBrownoutWarning vinMv s) := by simp [execBrownoutWarning]
theorem execBrownoutEnd_notBefore (vinMv : Nat) (s : State) : s.NotBefore (execBrownoutEnd vinMv s) := by simp [execBrownoutEnd]
theorem execStandbyRequest_notBefore (s : State) : s.NotBefore (execStandbyRequest s) := by simp [execStandbyRequest]

theorem execWake_notBefore (src : WakeSrc) (s : State) : s.NotBefore (execWake src s) := by
  unfold execWake
  split <;> simp

theorem execTileGate_notBefore (t : Fin 4) (s : State) : s.NotBefore (execTileGate t s) := by simp [execTileGate]

/-! ### OAP over Ethernet (03) -/

theorem execOapFragment_notBefore (h : OapHdr) (type index count : Nat) (data : List Byte) (s : State) :
    s.NotBefore (execOapFragment h type index count data s) := by simp [execOapFragment]

theorem execOapFragmentTimeout_notBefore (s : State) : s.NotBefore (execOapFragmentTimeout s) := by
  unfold execOapFragmentTimeout
  split <;> simp

theorem execOapOpen_notBefore (h : OapHdr) (rights : Nat) (code : BitVec 32) (s : State) :
    s.NotBefore (execOapOpen h rights code s) := by simp [execOapOpen]
theorem execOapClose_notBefore (h : OapHdr) (s : State) : s.NotBefore (execOapClose h s) := by simp [execOapClose]
theorem execOapKeepalive_notBefore (h : OapHdr) (s : State) : s.NotBefore (execOapKeepalive h s) := by simp [execOapKeepalive]
theorem execOapRead_notBefore (h : OapHdr) (idx sub : Nat) (s : State) :
    s.NotBefore (execOapRead h idx sub s) := by simp [execOapRead]
theorem execOapWrite_notBefore (h : OapHdr) (idx sub type : Nat) (data : List Byte) (s : State) :
    s.NotBefore (execOapWrite h idx sub type data s) := by simp [execOapWrite]
theorem execOapMultiRead_notBefore (h : OapHdr) (refs : List (Nat × Nat)) (s : State) :
    s.NotBefore (execOapMultiRead h refs s) := by simp [execOapMultiRead]
theorem execOapSubscribe_notBefore (h : OapHdr) (period : Nat) (refs : List (Nat × Nat)) (s : State) :
    s.NotBefore (execOapSubscribe h period refs s) := by simp [execOapSubscribe]
theorem execOapUnsubscribe_notBefore (h : OapHdr) (subId : Fin 8) (s : State) :
    s.NotBefore (execOapUnsubscribe h subId s) := by simp [execOapUnsubscribe]
theorem execOapVerdictStream_notBefore (h : OapHdr) (enable : Bool) (decimate : Nat) (s : State) :
    s.NotBefore (execOapVerdictStream h enable decimate s) := by simp [execOapVerdictStream]
theorem execOapUnknownType_notBefore (h : OapHdr) (type : Nat) (data : List Byte) (s : State) :
    s.NotBefore (execOapUnknownType h type data s) := by simp [execOapUnknownType]

theorem execOapSessionTimeout_notBefore (i : Fin 4) (s : State) : s.NotBefore (execOapSessionTimeout i s) := by
  unfold execOapSessionTimeout
  split <;> simp

theorem execOapAccessWrite_notBefore (code : Bool) (val : BitVec 32) (s : State) :
    s.NotBefore (execOapAccessWrite code val s) := by simp [execOapAccessWrite]
theorem execDiscover_notBefore (h : OapHdr) (s : State) : s.NotBefore (execDiscover h s) := by simp [execDiscover]

theorem execDiscoverReply_notBefore (host : Nat) (s : State) : s.NotBefore (execDiscoverReply host s) := by
  unfold execDiscoverReply
  split <;> simp

theorem execEthAddressAcquired_notBefore (p : Fin 2) (v6 : Bool) (addr : BitVec 32) (s : State) :
    s.NotBefore (execEthAddressAcquired p v6 addr s) := by simp [execEthAddressAcquired]
theorem execAnnounceTimer_notBefore (p : Fin 2) (s : State) : s.NotBefore (execAnnounceTimer p s) := by simp [execAnnounceTimer]
theorem execForward_notBefore (v : LinkVia) (m : ForwardMsg) (s : State) :
    s.NotBefore (execForward v m s) := by simp [execForward]

/-! ### The beat boundary, the press deadline and VERDICT_QUEUE (02, 08) -/

theorem execBeatBoundary_notBefore (s : State) : s.NotBefore (execBeatBoundary s) := by
  unfold execBeatBoundary
  dsimp only
  (repeat' split) <;> simp

theorem execPressStageDeadline_notBefore (s : State) : s.NotBefore (execPressStageDeadline s) := by
  unfold execPressStageDeadline
  split <;> simp

theorem execVerdictQueueWrite_notBefore (s : State) : s.NotBefore (execVerdictQueueWrite s) := by
  unfold execVerdictQueueWrite
  split
  · simp
  · split
    · simp
    · split
      · simp
      next hpush => simp [State.hwPush_get _ _ _ .now (by decide) _ hpush]

/-! ### CAN0 and NMT (03) -/

theorem execSdoInitiateDownload_notBefore (idx sub : Nat) (expedited : Bool) (data : List Byte) (s : State) :
    s.NotBefore (execSdoInitiateDownload idx sub expedited data s) := by simp [execSdoInitiateDownload]

theorem execSdoDownloadSegment_notBefore (toggle last : Bool) (data : List Byte) (s : State) :
    s.NotBefore (execSdoDownloadSegment toggle last data s) := by
  unfold execSdoDownloadSegment
  split
  · simp
  · split <;> simp

theorem execSdoInitiateUpload_notBefore (idx sub : Nat) (s : State) : s.NotBefore (execSdoInitiateUpload idx sub s) := by
  unfold execSdoInitiateUpload
  split
  · simp
  · have hread := State.readEntry_get idx sub (s.sdoStop 0x05040001) .now (by decide)
    split <;> simp_all

theorem execSdoUploadSegment_notBefore (toggle : Bool) (s : State) : s.NotBefore (execSdoUploadSegment toggle s) := by
  unfold execSdoUploadSegment
  split
  · simp
  · split <;> simp

theorem execSdoBlockRequest_notBefore (s : State) : s.NotBefore (execSdoBlockRequest s) := by simp [execSdoBlockRequest]
theorem execSdoAbortReceived_notBefore (s : State) : s.NotBefore (execSdoAbortReceived s) := by simp [execSdoAbortReceived]

theorem execSdoSegmentTimeout_notBefore (s : State) : s.NotBefore (execSdoSegmentTimeout s) := by
  unfold execSdoSegmentTimeout
  split <;> simp

theorem execRpdoReceive_notBefore (n : Fin 16) (data : List Byte) (s : State) :
    s.NotBefore (execRpdoReceive n data s) := by simp [execRpdoReceive]
theorem execRpdoDeadlineExpiry_notBefore (n : Fin 16) (s : State) :
    s.NotBefore (execRpdoDeadlineExpiry n s) := by simp [execRpdoDeadlineExpiry]
theorem execSync_notBefore (s : State) : s.NotBefore (execSync s) := by simp [execSync]
theorem execTpdoEventTimerExpiry_notBefore (n : Fin 16) (s : State) :
    s.NotBefore (execTpdoEventTimerExpiry n s) := by simp [execTpdoEventTimerExpiry]

theorem execTpdoInhibitExpiry_notBefore (n : Fin 16) (s : State) : s.NotBefore (execTpdoInhibitExpiry n s) := by
  unfold execTpdoInhibitExpiry
  split
  · simp
  · split <;> simp

theorem execNmtStart_notBefore (s : State) : s.NotBefore (execNmtStart s) := by simp [execNmtStart]
theorem execNmtStop_notBefore (s : State) : s.NotBefore (execNmtStop s) := by simp [execNmtStop]
theorem execNmtEnterPreOperational_notBefore (s : State) :
    s.NotBefore (execNmtEnterPreOperational s) := by simp [execNmtEnterPreOperational]
theorem execNmtResetNode_notBefore (s : State) : s.NotBefore (execNmtResetNode s) := by simp [execNmtResetNode]
theorem execNmtResetCommunication_notBefore (s : State) :
    s.NotBefore (execNmtResetCommunication s) := by simp [execNmtResetCommunication]
theorem execHeartbeatProduce_notBefore (s : State) : s.NotBefore (execHeartbeatProduce s) := by simp [execHeartbeatProduce]
theorem execHeartbeatConsume_notBefore (node : Nat) (s : State) :
    s.NotBefore (execHeartbeatConsume node s) := by simp [execHeartbeatConsume]

theorem execHeartbeatConsumerTimeout_notBefore (i : Fin 4) (s : State) : s.NotBefore (execHeartbeatConsumerTimeout i s) := by
  unfold execHeartbeatConsumerTimeout
  split
  · simp
  · split <;> simp

theorem execLssSwitchStateGlobal_notBefore (config : Bool) (s : State) :
    s.NotBefore (execLssSwitchStateGlobal config s) := by simp [execLssSwitchStateGlobal]
theorem execLssSwitchStateSelective_notBefore (id : LssId) (s : State) :
    s.NotBefore (execLssSwitchStateSelective id s) := by simp [execLssSwitchStateSelective]
theorem execLssConfigureNodeId_notBefore (node : Nat) (s : State) :
    s.NotBefore (execLssConfigureNodeId node s) := by simp [execLssConfigureNodeId]

theorem execLssConfigureBitTiming_notBefore (table index : Nat) (s : State) :
    s.NotBefore (execLssConfigureBitTiming table index s) := by
  unfold execLssConfigureBitTiming
  split <;> simp

theorem execLssActivateBitTiming_notBefore (s : State) :
    s.NotBefore (execLssActivateBitTiming s) := by simp [execLssActivateBitTiming]
theorem execLssStoreConfiguration_notBefore (s : State) :
    s.NotBefore (execLssStoreConfiguration s) := by simp [execLssStoreConfiguration]
theorem execLssInquireIdentity_notBefore (field : Fin 4) (s : State) :
    s.NotBefore (execLssInquireIdentity field s) := by simp [execLssInquireIdentity]
theorem execLssInquireNodeId_notBefore (s : State) : s.NotBefore (execLssInquireNodeId s) := by simp [execLssInquireNodeId]
theorem execLssIdentifyRemoteSlave_notBefore (vendor product revLo revHi serLo serHi : BitVec 32) (s : State) :
    s.NotBefore (execLssIdentifyRemoteSlave vendor product revLo revHi serLo serHi s) := by simp [execLssIdentifyRemoteSlave]
theorem execLssIdentifyNonConfigured_notBefore (s : State) :
    s.NotBefore (execLssIdentifyNonConfigured s) := by simp [execLssIdentifyNonConfigured]
theorem execLssFastscan_notBefore (idNumber : BitVec 32) (bitCheck : Nat) (lssSub lssNext : Fin 4) (s : State) :
    s.NotBefore (execLssFastscan idNumber bitCheck lssSub lssNext s) := by simp [execLssFastscan]
theorem execCanReceiveOverrun_notBefore (s : State) : s.NotBefore (execCanReceiveOverrun s) := by simp [execCanReceiveOverrun]
theorem execCanErrorPassive_notBefore (entering : Bool) (s : State) :
    s.NotBefore (execCanErrorPassive entering s) := by simp [execCanErrorPassive]
theorem execCanBusOffRecovery_notBefore (s : State) : s.NotBefore (execCanBusOffRecovery s) := by simp [execCanBusOffRecovery]

theorem execEmcyInhibitExpiry_notBefore (s : State) : s.NotBefore (execEmcyInhibitExpiry s) := by
  unfold execEmcyInhibitExpiry
  split
  · simp
  · split <;> simp

/-! ### Loads, stores and register writes (01, 10) -/

theorem execCantorLoad_notBefore (c : Fin 8) (addr : Addr) (size : Fin 4) (upset : Upset) (s : State) :
    s.NotBefore (execCantorLoad c addr size upset s) := by simp [execCantorLoad]
theorem execCantorStore_notBefore (c : Fin 8) (addr : Addr) (size : Fin 4) (val : BitVec 64) (s : State) :
    s.NotBefore (execCantorStore c addr size val s) := by simp [execCantorStore]
theorem execRegisterWrite_notBefore (c : Fin 8) (page off : Nat) (val : BitVec 32) (s : State) :
    s.NotBefore (execRegisterWrite c page off val s) := by simp [execRegisterWrite]

theorem execDebugModuleAccess_notBefore (a : DebugOp) (s : State) : s.NotBefore (execDebugModuleAccess a s) := by
  unfold execDebugModuleAccess
  split
  · simp
  · split <;> simp

/-- No command but a power-on answers a state before the one it finds (02 R43). -/
theorem exec_notBefore (s : State) : ∀ c : Instr, (∀ b, c ≠ .powerOn b) → s.NotBefore (exec c s)
  | .beatBoundary, _ => execBeatBoundary_notBefore s
  | .syncOutPulseEnd, _ => execSyncOutPulseEnd_notBefore s
  | .deviceTimeLoRead req, _ => execDeviceTimeLoRead_notBefore req s
  | .beatNumberLoRead req, _ => execBeatNumberLoRead_notBefore req s
  | .ingestWindowClose, _ => execIngestWindowClose_notBefore s
  | .voiceStageStart, _ => execVoiceStageStart_notBefore s
  | .rankBarrierOpen, _ => execRankBarrierOpen_notBefore s
  | .voiceStageEnd, _ => execVoiceStageEnd_notBefore s
  | .voiceStageDeadline, _ => execVoiceStageDeadline_notBefore s
  | .pressStageDeadline, _ => execPressStageDeadline_notBefore s
  | .policyReturnToHold st, _ => execPolicyReturnToHold_notBefore st s
  | .shedClassDiscard cls, _ => execShedClassDiscard_notBefore cls s
  | .syncInEdge stamp, _ => execSyncInEdge_notBefore stamp s
  | .syncInGlitch, _ => execSyncInGlitch_notBefore s
  | .syncInTimeout, _ => execSyncInTimeout_notBefore s
  | .holdoverLimitExpiry, _ => execHoldoverLimitExpiry_notBefore s
  | .ingestStart, _ => execIngestStart_notBefore s
  | .verdictQueueWrite, _ => execVerdictQueueWrite_notBefore s
  | .trellisFlitCrcError t l flit, _ => execTrellisFlitCrcError_notBefore t l flit s
  | .trellisLinkRetrain t l ok, _ => execTrellisLinkRetrain_notBefore t l ok s
  | .trellisLinkDisable t l, _ => execTrellisLinkDisable_notBefore t l s
  | .cantorLoad c addr size upset, _ => execCantorLoad_notBefore c addr size upset s
  | .cantorStore c addr size val, _ => execCantorStore_notBefore c addr size val s
  | .accessErrorClear, _ => execAccessErrorClear_notBefore s
  | .lr c addr dbl, _ => execLr_notBefore c addr dbl s
  | .sc c addr dbl val, _ => execSc_notBefore c addr dbl val s
  | .amo c addr dbl opr val, _ => execAmo_notBefore c addr dbl opr val s
  | .fenceSCore c word, _ => execFenceSCore_notBefore c word s
  | .fenceSChip c word, _ => execFenceSChip_notBefore c word s
  | .fenceSSystem c word, _ => execFenceSSystem_notBefore c word s
  | .fence c pred succ, _ => execFence_notBefore c pred succ s
  | .fenceI c, _ => execFenceI_notBefore c s
  | .fenceTso c, _ => execFenceTso_notBefore c s
  | .getS c line cycle, _ => execGetS_notBefore c line cycle s
  | .getM c line cycle, _ => execGetM_notBefore c line cycle s
  | .putS c line, _ => execPutS_notBefore c line s
  | .putE c line, _ => execPutE_notBefore c line s
  | .putM c line, _ => execPutM_notBefore c line s
  | .putMData line, _ => execPutMData_notBefore line s
  | .ncRead req addr len upset, _ => execNcRead_notBefore req addr len upset s
  | .ncWrite req addr data, _ => execNcWrite_notBefore req addr data s
  | .registerWrite c page off val, _ => execRegisterWrite_notBefore c page off val s
  | .sdoInitiateDownload idx sub expedited data, _ => execSdoInitiateDownload_notBefore idx sub expedited data s
  | .sdoDownloadSegment toggle last data, _ => execSdoDownloadSegment_notBefore toggle last data s
  | .sdoInitiateUpload idx sub, _ => execSdoInitiateUpload_notBefore idx sub s
  | .sdoUploadSegment toggle, _ => execSdoUploadSegment_notBefore toggle s
  | .sdoBlockRequest, _ => execSdoBlockRequest_notBefore s
  | .sdoAbortReceived, _ => execSdoAbortReceived_notBefore s
  | .sdoSegmentTimeout, _ => execSdoSegmentTimeout_notBefore s
  | .rpdoReceive n data, _ => execRpdoReceive_notBefore n data s
  | .rpdoDeadlineExpiry n, _ => execRpdoDeadlineExpiry_notBefore n s
  | .sync, _ => execSync_notBefore s
  | .tpdoEventTimerExpiry n, _ => execTpdoEventTimerExpiry_notBefore n s
  | .tpdoInhibitExpiry n, _ => execTpdoInhibitExpiry_notBefore n s
  | .nmtStart, _ => execNmtStart_notBefore s
  | .nmtStop, _ => execNmtStop_notBefore s
  | .nmtEnterPreOperational, _ => execNmtEnterPreOperational_notBefore s
  | .nmtResetNode, _ => execNmtResetNode_notBefore s
  | .nmtResetCommunication, _ => execNmtResetCommunication_notBefore s
  | .heartbeatProduce, _ => execHeartbeatProduce_notBefore s
  | .heartbeatConsume node, _ => execHeartbeatConsume_notBefore node s
  | .heartbeatConsumerTimeout j, _ => execHeartbeatConsumerTimeout_notBefore j s
  | .lssSwitchStateGlobal config, _ => execLssSwitchStateGlobal_notBefore config s
  | .lssSwitchStateSelective id, _ => execLssSwitchStateSelective_notBefore id s
  | .lssConfigureNodeId node, _ => execLssConfigureNodeId_notBefore node s
  | .lssConfigureBitTiming table index, _ => execLssConfigureBitTiming_notBefore table index s
  | .lssActivateBitTiming, _ => execLssActivateBitTiming_notBefore s
  | .lssStoreConfiguration, _ => execLssStoreConfiguration_notBefore s
  | .lssInquireIdentity field, _ => execLssInquireIdentity_notBefore field s
  | .lssInquireNodeId, _ => execLssInquireNodeId_notBefore s
  | .lssIdentifyRemoteSlave vendor product revLo revHi serLo serHi, _ => execLssIdentifyRemoteSlave_notBefore vendor product revLo revHi serLo serHi s
  | .lssIdentifyNonConfigured, _ => execLssIdentifyNonConfigured_notBefore s
  | .lssFastscan idNumber bitCheck lssSub lssNext, _ => execLssFastscan_notBefore idNumber bitCheck lssSub lssNext s
  | .canReceiveOverrun, _ => execCanReceiveOverrun_notBefore s
  | .canErrorPassive entering, _ => execCanErrorPassive_notBefore entering s
  | .canBusOffRecovery, _ => execCanBusOffRecovery_notBefore s
  | .emcyInhibitExpiry, _ => execEmcyInhibitExpiry_notBefore s
  | .store sub sig, _ => execStore_notBefore sub sig s
  | .storeComplete r, _ => execStoreComplete_notBefore r s
  | .restoreDefaults sub sig, _ => execRestoreDefaults_notBefore sub sig s
  | .oapAccessWrite code val, _ => execOapAccessWrite_notBefore code val s
  | .oapFragment h type index count data, _ => execOapFragment_notBefore h type index count data s
  | .oapFragmentTimeout, _ => execOapFragmentTimeout_notBefore s
  | .oapOpen h rights code, _ => execOapOpen_notBefore h rights code s
  | .oapClose h, _ => execOapClose_notBefore h s
  | .oapKeepalive h, _ => execOapKeepalive_notBefore h s
  | .oapRead h idx sub, _ => execOapRead_notBefore h idx sub s
  | .oapWrite h idx sub type data, _ => execOapWrite_notBefore h idx sub type data s
  | .oapMultiRead h refs, _ => execOapMultiRead_notBefore h refs s
  | .oapSubscribe h period refs, _ => execOapSubscribe_notBefore h period refs s
  | .oapUnsubscribe h subId, _ => execOapUnsubscribe_notBefore h subId s
  | .oapVerdictStream h enable decimate, _ => execOapVerdictStream_notBefore h enable decimate s
  | .discover h, _ => execDiscover_notBefore h s
  | .discoverReply host, _ => execDiscoverReply_notBefore host s
  | .oapUnknownType h type data, _ => execOapUnknownType_notBefore h type data s
  | .oapSessionTimeout j, _ => execOapSessionTimeout_notBefore j s
  | .ethAddressAcquired p v6 addr, _ => execEthAddressAcquired_notBefore p v6 addr s
  | .announceTimer p, _ => execAnnounceTimer_notBefore p s
  | .installBegin, _ => execInstallBegin_notBefore s
  | .installData data, _ => execInstallData_notBefore data s
  | .installCommit, _ => execInstallCommit_notBefore s
  | .installCommitComplete ok, _ => execInstallCommitComplete_notBefore ok s
  | .installAbort, _ => execInstallAbort_notBefore s
  | .installActivate, _ => execInstallActivate_notBefore s
  | .imageSwitch ok, _ => execImageSwitch_notBefore ok s
  | .imageLoad, _ => execImageLoad_notBefore s
  | .bookRecordWrite, _ => execBookRecordWrite_notBefore s
  | .bookRecordRead, _ => execBookRecordRead_notBefore s
  | .bookAppendGo c, _ => execBookAppendGo_notBefore c s
  | .portInsertion p, _ => execPortInsertion_notBefore p s
  | .portRemoval p, _ => execPortRemoval_notBefore p s
  | .portLinkLoss p, _ => execPortLinkLoss_notBefore p s
  | .portEnableWrite p on, _ => execPortEnableWrite_notBefore p on s
  | .portRescan p, _ => execPortRescan_notBefore p s
  | .portClearHotTable p, _ => execPortClearHotTable_notBefore p s
  | .efuseOn p, _ => execEfuseOn_notBefore p s
  | .identifyStart p, _ => execIdentifyStart_notBefore p s
  | .identityReadRetry p, _ => execIdentityReadRetry_notBefore p s
  | .identityReadComplete p ack rc, _ => execIdentityReadComplete_notBefore p ack rc s
  | .portReadyTimeout p, _ => execPortReadyTimeout_notBefore p s
  | .portStallTimeout p, _ => execPortStallTimeout_notBefore p s
  | .efuseTrip p reason, _ => execEfuseTrip_notBefore p reason s
  | .csi2Packet p k, _ => execCsi2Packet_notBefore p k s
  | .headTimeSilent p, _ => execHeadTimeSilent_notBefore p s
  | .frameStart p arrival, _ => execFrameStart_notBefore p arrival s
  | .frameEnd p, _ => execFrameEnd_notBefore p s
  | .ingestInject p, _ => execIngestInject_notBefore p s
  | .coreLoad c, _ => execCoreLoad_notBefore c s
  | .coreClearDone c, _ => execCoreClearDone_notBefore c s
  | .coreCommit c, _ => execCoreCommit_notBefore c s
  | .coreCommitDone c, _ => execCoreCommitDone_notBefore c s
  | .coreDisable c, _ => execCoreDisable_notBefore c s
  | .voiceRankCountWrite t val, _ => execVoiceRankCountWrite_notBefore t val s
  | .coreEventAccept c, _ => execCoreEventAccept_notBefore c s
  | .coreFanoutSend c, _ => execCoreFanoutSend_notBefore c s
  | .routerFlitArrive r j vn, _ => execRouterFlitArrive_notBefore r j vn s
  | .outputGrant r o, _ => execOutputGrant_notBefore r o s
  | .vn0Escape r o j, _ => execVn0Escape_notBefore r o j s
  | .vn0AgeBoost r o j, _ => execVn0AgeBoost_notBefore r o j s
  | .creditReturn r o vn, _ => execCreditReturn_notBefore r o vn s
  | .creditQuietCheck r o vn, _ => execCreditQuietCheck_notBefore r o vn s
  | .tableItemWrite t val, _ => execTableItemWrite_notBefore t val s
  | .tableItemRead t, _ => execTableItemRead_notBefore t s
  | .taskSubmit t, _ => execTaskSubmit_notBefore t s
  | .taskCancel t slot, _ => execTaskCancel_notBefore t slot s
  | .taskDispatch t u, _ => execTaskDispatch_notBefore t u s
  | .taskComplete t u, _ => execTaskComplete_notBefore t u s
  | .taskCompletionPost t slot, _ => execTaskCompletionPost_notBefore t slot s
  | .templateInstantiate, _ => execTemplateInstantiate_notBefore s
  | .pressEnd en, _ => execPressEnd_notBefore en s
  | .matmul en bad, _ => execMatmul_notBefore en bad s
  | .conv en bad, _ => execConv_notBefore en bad s
  | .pressAdd en bad, _ => execPressAdd_notBefore en bad s
  | .maxpool en bad, _ => execMaxpool_notBefore en bad s
  | .lut en bad, _ => execLut_notBefore en bad s
  | .copy en bad, _ => execCopy_notBefore en bad s
  | .frameLoad en bad, _ => execFrameLoad_notBefore en bad s
  | .slateCommit en bad, _ => execSlateCommit_notBefore en bad s
  | .gather, _ => execGather_notBefore s
  | .finalise, _ => execFinalise_notBefore s
  | .weightSampleWrite val, _ => execWeightSampleWrite_notBefore val s
  | .pushFirst c q, _ => execPushFirst_notBefore c q s
  | .pushAppend c q, _ => execPushAppend_notBefore c q s
  | .pop c q, _ => execPop_notBefore c q s
  | .spillPopComplete c q, _ => execSpillPopComplete_notBefore c q s
  | .spillMove q l bad, _ => execSpillMove_notBefore q l bad s
  | .queueCreditReturn q l, _ => execQueueCreditReturn_notBefore q l s
  | .packetAbandon q, _ => execPacketAbandon_notBefore q s
  | .queueEnable q, _ => execQueueEnable_notBefore q s
  | .queueDisable q, _ => execQueueDisable_notBefore q s
  | .queueFlush q, _ => execQueueFlush_notBefore q s
  | .queueClearUnderrun q, _ => execQueueClearUnderrun_notBefore q s
  | .queuePendingTimeout q, _ => execQueuePendingTimeout_notBefore q s
  | .moverTailWrite m tail, _ => execMoverTailWrite_notBefore m tail s
  | .moverEnable m, _ => execMoverEnable_notBefore m s
  | .moverDisable m, _ => execMoverDisable_notBefore m s
  | .moverAbort m, _ => execMoverAbort_notBefore m s
  | .moverAbortDone m, _ => execMoverAbortDone_notBefore m s
  | .descriptorStart m, _ => execDescriptorStart_notBefore m s
  | .descriptorComplete m, _ => execDescriptorComplete_notBefore m s
  | .moverCompletionPost m, _ => execMoverCompletionPost_notBefore m s
  | .choirPortTrained p, _ => execChoirPortTrained_notBefore p s
  | .choirPortRetry p, _ => execChoirPortRetry_notBefore p s
  | .linkFrameCrcError p bytes, _ => execLinkFrameCrcError_notBefore p bytes s
  | .linkNak p ackSeq, _ => execLinkNak_notBefore p ackSeq s
  | .hello v h, _ => execHello_notBefore v h s
  | .helloTimer, _ => execHelloTimer_notBefore s
  | .membership v m, _ => execMembership_notBefore v m s
  | .memberHeartbeat v generation beat, _ => execMemberHeartbeat_notBefore v generation beat s
  | .beatFrame v b, _ => execBeatFrame_notBefore v b s
  | .choirBeatTimeout, _ => execChoirBeatTimeout_notBefore s
  | .ping v time, _ => execPing_notBefore v time s
  | .pong v time turnNs arrivalNs, _ => execPong_notBefore v time turnNs arrivalNs s
  | .join v serial state err, _ => execJoin_notBefore v serial state err s
  | .events v vn1 slots, _ => execEvents_notBefore v vn1 slots s
  | .gatewayImport, _ => execGatewayImport_notBefore s
  | .memReq v tag wr addr len data, _ => execMemReq_notBefore v tag wr addr len data s
  | .memRsp v tag wr addr status data, _ => execMemRsp_notBefore v tag wr addr status data s
  | .remoteRequestTimeout tag, _ => execRemoteRequestTimeout_notBefore tag s
  | .barrier v beat rank counts, _ => execBarrier_notBefore v beat rank counts s
  | .stageEnd v beat terms counts, _ => execStageEnd_notBefore v beat terms counts s
  | .reportRepeat, _ => execReportRepeat_notBefore s
  | .controlMessageTimeout src tag, _ => execControlMessageTimeout_notBefore src tag s
  | .forward v m, _ => execForward_notBefore v m s
  | .switchPrepare v era, _ => execSwitchPrepare_notBefore v era s
  | .switchAccept v era, _ => execSwitchAccept_notBefore v era s
  | .switchRefuse v era status, _ => execSwitchRefuse_notBefore v era status s
  | .switchCommit v era, _ => execSwitchCommit_notBefore v era s
  | .switchCancel v era, _ => execSwitchCancel_notBefore v era s
  | .switchAcceptTimeout, _ => execSwitchAcceptTimeout_notBefore s
  | .credit v, _ => execCredit_notBefore v s
  | .memberUnreachable id, _ => execMemberUnreachable_notBefore id s
  | .heartbeatMissedDeparture id, _ => execHeartbeatMissedDeparture_notBefore id s
  | .choirResetRequest id, _ => execChoirResetRequest_notBefore id s
  | .gateRawChange g b high stamp, _ => execGateRawChange_notBefore g b high stamp s
  | .gateChangeAccepted g, _ => execGateChangeAccepted_notBefore g s
  | .gateStuck g b, _ => execGateStuck_notBefore g b s
  | .gateSourceLost g, _ => execGateSourceLost_notBefore g s
  | .gateFaultClear g, _ => execGateFaultClear_notBefore g s
  | .gateEnable g, _ => execGateEnable_notBefore g s
  | .gateDisable g, _ => execGateDisable_notBefore g s
  | .sourceWrite g b val, _ => execSourceWrite_notBefore g b val s
  | .boundaryWrite z val, _ => execBoundaryWrite_notBefore z val s
  | .zoneRestore z target, _ => execZoneRestore_notBefore z target s
  | .zoneDisturb z, _ => execZoneDisturb_notBefore z s
  | .restoreTimeout z, _ => execRestoreTimeout_notBefore z s
  | .baggingWeightWrite z val, _ => execBaggingWeightWrite_notBefore z val s
  | .hallEdge code stampNs, _ => execHallEdge_notBefore code stampNs s
  | .hallInvalid, _ => execHallInvalid_notBefore s
  | .qepEdge fwd stampNs, _ => execQepEdge_notBefore fwd stampNs s
  | .indexLatch, _ => execIndexLatch_notBefore s
  | .speedEstimate, _ => execSpeedEstimate_notBefore s
  | .sensorMismatch, _ => execSensorMismatch_notBefore s
  | .speedLoopStep, _ => execSpeedLoopStep_notBefore s
  | .currentLimitCycle shuntUv, _ => execCurrentLimitCycle_notBefore shuntUv s
  | .sustainedLimit, _ => execSustainedLimit_notBefore s
  | .fastTrip shuntUv node, _ => execFastTrip_notBefore shuntUv node s
  | .beltRun, _ => execBeltRun_notBefore s
  | .beltStop, _ => execBeltStop_notBefore s
  | .beltFaultClear, _ => execBeltFaultClear_notBefore s
  | .observationEnd, _ => execObservationEnd_notBefore s
  | .brakingTimeout, _ => execBrakingTimeout_notBefore s
  | .stoppingTimeout, _ => execStoppingTimeout_notBefore s
  | .stoDeEnergised, _ => execStoDeEnergised_notBefore s
  | .stoEnergised, _ => execStoEnergised_notBefore s
  | .audioEnable, _ => execAudioEnable_notBefore s
  | .audioWrite val, _ => execAudioWrite_notBefore val s
  | .audioFrameTick, _ => execAudioFrameTick_notBefore s
  | .audioMuteWrite f val, _ => execAudioMuteWrite_notBefore f val s
  | .softStartEnd ch, _ => execSoftStartEnd_notBefore ch s
  | .audioLimitedCycle ch sides, _ => execAudioLimitedCycle_notBefore ch sides s
  | .audioRetry ch, _ => execAudioRetry_notBefore ch s
  | .audioDcFault ch mv, _ => execAudioDcFault_notBefore ch mv s
  | .stageTemperatureChange tenths, _ => execStageTemperatureChange_notBefore tenths s
  | .audioClearCh0, _ => execAudioClearCh0_notBefore s
  | .audioClearCh1, _ => execAudioClearCh1_notBefore s
  | .safetyCycle fbA fbB, _ => execSafetyCycle_notBefore fbA fbB s
  | .safetyInputAccepted n b on since, _ => execSafetyInputAccepted_notBefore n b on since s
  | .testPulse tp1 obs, _ => execTestPulse_notBefore tp1 obs s
  | .discrepancyTimeout n, _ => execDiscrepancyTimeout_notBefore n s
  | .speedDiscrepancy, _ => execSpeedDiscrepancy_notBefore s
  | .resetRequest n, _ => execResetRequest_notBefore n s
  | .degradedExpiry, _ => execDegradedExpiry_notBefore s
  | .slsRampExpiry, _ => execSlsRampExpiry_notBefore s
  | .stoFeedbackTimeout, _ => execStoFeedbackTimeout_notBefore s
  | .testDueTimer, _ => execTestDueTimer_notBefore s
  | .ordinaryStopLine asserted, _ => execOrdinaryStopLine_notBefore asserted s
  | .lockstepMismatch, _ => execLockstepMismatch_notBefore s
  | .clockCheckFail ppm, _ => execClockCheckFail_notBefore ppm s
  | .islandWatchdog, _ => execIslandWatchdog_notBefore s
  | .vddSafeFault, _ => execVddSafeFault_notBefore s
  | .islandPowerUp, _ => execIslandPowerUp_notBefore s
  | .selftestComplete passed, _ => execSelftestComplete_notBefore passed s
  | .safetyParamBlock data, _ => execSafetyParamBlock_notBefore data s
  | .safetyConfirm data, _ => execSafetyConfirm_notBefore data s
  | .transferWriteComplete, _ => execTransferWriteComplete_notBefore s
  | .transferTimeout, _ => execTransferTimeout_notBefore s
  | .powerOn b, h => absurd rfl (h b)
  | .brownoutWarning vinMv, _ => execBrownoutWarning_notBefore vinMv s
  | .brownoutEnd vinMv, _ => execBrownoutEnd_notBefore vinMv s
  | .vinLowShutdown vinMv, _ => execVinLowShutdown_notBefore vinMv s
  | .railFault, _ => execRailFault_notBefore s
  | .regulatorFault status, _ => execRegulatorFault_notBefore status s
  | .pvidResend, _ => execPvidResend_notBefore s
  | .vcoreSettled mv, _ => execVcoreSettled_notBefore mv s
  | .operatingPointChange, _ => execOperatingPointChange_notBefore s
  | .temperatureSample hub tiles, _ => execTemperatureSample_notBefore hub tiles s
  | .tileGate t, _ => execTileGate_notBefore t s
  | .standbyRequest, _ => execStandbyRequest_notBefore s
  | .wake src, _ => execWake_notBefore src s
  | .streamEnable st, _ => execStreamEnable_notBefore st s
  | .streamDisable st, _ => execStreamDisable_notBefore st s
  | .frameEncodeStart st, _ => execFrameEncodeStart_notBefore st s
  | .sliceEncode st lineError, _ => execSliceEncode_notBefore st lineError s
  | .frameEncodeDone st, _ => execFrameEncodeDone_notBefore st s
  | .videoPacketWrite st, _ => execVideoPacketWrite_notBefore st s
  | .streamIdr st, _ => execStreamIdr_notBefore st s
  | .streamRecoverNew st, _ => execStreamRecoverNew_notBefore st s
  | .streamRecoverOld st, _ => execStreamRecoverOld_notBefore st s
  | .resetN, _ => execResetN_notBefore s
  | .watchdogTimeout, _ => execWatchdogTimeout_notBefore s
  | .watchdogKick val, _ => execWatchdogKick_notBefore val s
  | .softwareReset val, _ => execSoftwareReset_notBefore val s
  | .resetEnd, _ => execResetEnd_notBefore s
  | .bootComplete, _ => execBootComplete_notBefore s
  | .bootConfirm val, _ => execBootConfirm_notBefore val s
  | .bootSlotWrite, _ => execBootSlotWrite_notBefore s
  | .keyListWrite, _ => execKeyListWrite_notBefore s
  | .bootUpdateComplete, _ => execBootUpdateComplete_notBefore s
  | .fuseProgram field index, _ => execFuseProgram_notBefore field index s
  | .rollbackAdvance val, _ => execRollbackAdvance_notBefore val s
  | .debugResponse sig, _ => execDebugResponse_notBefore sig s
  | .dfuDownload image, _ => execDfuDownload_notBefore image s
  | .idcode, _ => execIdcode_notBefore s
  | .bypass, _ => execBypass_notBefore s
  | .ethLinkChange p state, _ => execEthLinkChange_notBefore p state s
  | .choirLinkLoss p, _ => execChoirLinkLoss_notBefore p s
  | .choirTrainingTimeout p, _ => execChoirTrainingTimeout_notBefore p s
  | .stoCurrentLimitOff b, _ => execStoCurrentLimitOff_notBefore b s
  | .debugModuleAccess a, _ => execDebugModuleAccess_notBefore a s

/-! ### Power-on, the empty queue, and every step -/

/-- A power-on sets device time to 0 (15 R476). -/
theorem State.turnOn_now (b : Bool) (s : State) : (s.turnOn b).now = 0 := by
  have hget : (s.turnOn b).get .now = .now 0 := by simp [State.turnOn]
  exact PartVal.now.inj hget

/-- What a power-on answers goes on from `s`, or starts again at 0 from OFF. -/
theorem execPowerOn_now {b : Bool} {s t : State} (h : execPowerOn b s = .next t) :
    s.now ≤ t.now ∨ (t.now = 0 ∧ s.power.st = .off) := by
  obtain rfl := Host.Outcome.next.inj h
  split
  next hoff => exact .inr ⟨s.turnOn_now b, hoff.1⟩
  · exact .inl (Nat.le_refl _)

/-- One µs with nothing commanded goes on. -/
theorem State.now_le_tick (s : State) : s.now ≤ s.tick.now := by
  have hscan : s.tick.get .now = .now (s.now + 1) := State.tpdoScan_get _ .now (by decide)
  have htick : s.tick.now = s.now + 1 := PartVal.now.inj hscan
  omega

/-- Settles O60: by the command at the front of the queue, each of which but a power-on answers a state not before the one
it finds. -/
theorem deviceTimeNeverRunsBackward : Obligations.DeviceTimeNeverRunsBackward := by
  intro s t hstep
  cases hp : s.pending with
  | nil =>
    simp only [step, hp, Host.Outcome.next.injEq] at hstep
    exact .inl (hstep ▸ s.now_le_tick)
  | cons c rest =>
    simp only [step, hp] at hstep
    by_cases hc : ∃ b, c = .powerOn b
    · obtain ⟨b, rfl⟩ := hc
      have hon : execPowerOn b { s with pending := rest } = .next t := hstep
      obtain hle | ⟨hnow, hoff⟩ := execPowerOn_now hon
      · exact .inl hle
      · exact .inr ⟨hnow, hoff, b, rest, rfl⟩
    · have hle : { s with pending := rest }.now ≤ t.now := (exec_notBefore _ c fun b hb => hc ⟨b, hb⟩).now_le hstep
      exact .inl hle

end Sys2Proof.Machine
end

section
/-! PROOFS. Chapter 02, the beat boundary: of the operations that write the beat part, those a boundary uses leave the number
and the start of the beat alone, so a boundary turns them once (02 R44). The frame laws say which operations leave the beat
part alone altogether. -/

namespace Sys2Proof.Machine

/-! ### The beat's number and start -/

/-- The number and the start of the beat a part holds; zeros for a part that is not the beat's. -/
def PartVal.clock : PartVal → Nat × Nat
  | .beat b => (b.number, b.start)
  | _ => (0, 0)

@[simp] theorem PartVal.clock_ite (c : Prop) [Decidable c] (v w : PartVal) :
    (if c then v else w).clock = if c then v.clock else w.clock := by split <;> rfl

/-- A change of the beat part that keeps number and start. -/
@[simp] theorem State.onBeat_clock (s : State) (f : BeatUnit → BeatUnit)
    (h : ∀ b, ((f b).number, (f b).start) = (b.number, b.start)) : ((s.onBeat f).get .beat).clock = (s.get .beat).clock :=
  h s.beat

@[simp] theorem State.onBeat_reset_clock (s : State) : ((s.onBeat BeatUnit.reset).get .beat).clock = (s.get .beat).clock :=
  s.onBeat_clock _ fun _ => rfl

@[simp] theorem State.onBeat_fixLength_clock (s : State) :
    ((s.onBeat BeatUnit.fixLength).get .beat).clock = (s.get .beat).clock :=
  s.onBeat_clock _ fun _ => rfl

/-- A fold whose function keeps number and start keeps them. -/
@[simp] theorem State.clock_foldl {α : Type} (f : State → α → State) (l : List α) (s : State)
    (h : ∀ t x, ((f t x).get .beat).clock = (t.get .beat).clock) : ((l.foldl f s).get .beat).clock = (s.get .beat).clock := by
  induction l generalizing s with
  | nil => rfl
  | cons x l ih => rw [List.foldl_cons, ih, h]

/-- The entries of an index that come in force leave the beat part alone. -/
@[simp] theorem State.takeForces_get_beat (idx : Nat) (l : List Nat) (s : State) :
    (l.foldl (fun a k => a.takeForce idx k) s).get .beat = s.get .beat :=
  State.get_foldl _ l s .beat fun t k => t.takeForce_get idx k .beat (by decide)

/-! ### The operations of a boundary, those they call first -/

@[simp] theorem State.beatForces_clock (s : State) : (s.beatForces.get .beat).clock = (s.get .beat).clock := by
  simp [State.beatForces]

@[simp] theorem State.beatIrq_clock (s : State) : (s.beatIrq.get .beat).clock = (s.get .beat).clock := by simp [State.beatIrq]

@[simp] theorem State.ledgerFail_clock (m : Nat) (s : State) : ((s.ledgerFail m).get .beat).clock = (s.get .beat).clock := by
  simp [State.ledgerFail]

@[simp] theorem State.linkCheck_clock (key : Report) (l : List Report) (s : State) :
    ((s.linkCheck key l).get .beat).clock = (s.get .beat).clock := by
  simp [State.linkCheck]

@[simp] theorem State.checkReports_clock (s : State) : (s.checkReports.get .beat).clock = (s.get .beat).clock := by
  unfold State.checkReports
  split <;> simp

@[simp] theorem State.followerHoldover_clock (s : State) : (s.followerHoldover.get .beat).clock = (s.get .beat).clock := by
  simp [State.followerHoldover]

@[simp] theorem State.departs_clock (id : Nat) (cause : Nat) (s : State) :
    ((s.departs id cause).get .beat).clock = (s.get .beat).clock := by
  simp [State.departs]

@[simp] theorem State.expelStale_clock (s : State) : (s.expelStale.get .beat).clock = (s.get .beat).clock := by
  simp [State.expelStale]

@[simp] theorem State.joinStart_clock (s : State) : (s.joinStart.get .beat).clock = (s.get .beat).clock := by
  unfold State.joinStart
  split
  · simp
  · split <;> simp

@[simp] theorem State.wantIngest_clock (s : State) : (s.wantIngest.get .beat).clock = (s.get .beat).clock := by
  simp [State.wantIngest]

@[simp] theorem State.admitted_clock (s : State) :
    (s.admitted.get .beat).clock = (s.get .beat).clock := by simp [State.admitted]
@[simp] theorem State.takeEffect_clock (c : MemberChange) (i : Nat) (s : State) :
    ((s.takeEffect c i).get .beat).clock = (s.get .beat).clock := by
  simp [State.takeEffect]

@[simp] theorem State.membershipEffect_clock (s : State) : (s.membershipEffect.get .beat).clock = (s.get .beat).clock := by
  unfold State.membershipEffect
  (repeat' split) <;> simp

@[simp] theorem State.sourceTo_clock (src : BeatSource) (s : State) :
    ((s.sourceTo src).get .beat).clock = (s.get .beat).clock := by
  unfold State.sourceTo
  (repeat' split) <;> simp

@[simp] theorem State.choirEraWork_clock (s : State) : (s.choirEraWork.get .beat).clock = (s.get .beat).clock := by
  simp [State.choirEraWork]

@[simp] theorem State.endEpisode_clock (s : State) : (s.endEpisode.get .beat).clock = (s.get .beat).clock := by
  simp [State.endEpisode]

@[simp] theorem State.periodInForce_clock (s : State) : (s.periodInForce.get .beat).clock = (s.get .beat).clock := by
  unfold State.periodInForce
  split <;> simp

@[simp] theorem State.eraWork_clock (s : State) : (s.eraWork.get .beat).clock = (s.get .beat).clock := by simp [State.eraWork]

@[simp] theorem State.hardHaltDue_clock (s : State) : (s.hardHaltDue.get .beat).clock = (s.get .beat).clock := by
  unfold State.hardHaltDue
  split
  · simp
  · split <;> simp

@[simp] theorem State.ingestNext_clock (s : State) : (s.ingestNext.get .beat).clock = (s.get .beat).clock := by
  simp [State.ingestNext]

@[simp] theorem State.ingestTurn_clock (s : State) : (s.ingestTurn.get .beat).clock = (s.get .beat).clock := by
  unfold State.ingestTurn
  split <;> simp

@[simp] theorem State.policies_clock (s : State) :
    (s.policies.get .beat).clock = (s.get .beat).clock := by simp [State.policies]
@[simp] theorem State.onWork_clock (n : Nat) (f : BeatWork → BeatWork) (s : State) :
    ((s.onWork n f).get .beat).clock = (s.get .beat).clock := by
  simp [State.onWork]

@[simp] theorem State.shedBeat_clock (n : Nat) (s : State) : ((s.shedBeat n).get .beat).clock = (s.get .beat).clock := by
  unfold State.shedBeat
  split <;> simp

@[simp] theorem State.pressShed_clock (n : Nat) (s : State) : ((s.pressShed n).get .beat).clock = (s.get .beat).clock := by
  simp [State.pressShed]

@[simp] theorem State.pressLagWork_clock (s : State) : (s.pressLagWork.get .beat).clock = (s.get .beat).clock := by
  simp [State.pressLagWork]

@[simp] theorem State.startPress_clock (s : State) : (s.startPress.get .beat).clock = (s.get .beat).clock := by
  unfold State.startPress
  split <;> simp

@[simp] theorem State.shedVoice_clock (n : Nat) (s : State) : ((s.shedVoice n).get .beat).clock = (s.get .beat).clock := by
  simp [State.shedVoice]

@[simp] theorem State.purgeGateway_clock (n : Nat) (c : Nat) (s : State) :
    ((s.purgeGateway n c).get .beat).clock = (s.get .beat).clock := by
  simp [State.purgeGateway]

@[simp] theorem State.discard_clock (f : Flit) (s : State) : ((s.discard f).get .beat).clock = (s.get .beat).clock := by
  simp [State.discard]

@[simp] theorem State.purgeCore_clock (p : Flit → Bool) (c : Nat) (s : State) :
    ((s.purgeCore p c).get .beat).clock = (s.get .beat).clock := by
  simp [State.purgeCore]

@[simp] theorem State.purgeLink_clock (p : Flit → Bool) (k : Nat) (s : State) :
    ((s.purgeLink p k).get .beat).clock = (s.get .beat).clock := by
  simp [State.purgeLink]

@[simp] theorem State.purgePort_clock (n : Nat) (p : Nat) (s : State) :
    ((s.purgePort n p).get .beat).clock = (s.get .beat).clock := by
  simp [State.purgePort]

@[simp] theorem State.purgeRouter_clock (p : Flit → Bool) (r : Nat) (s : State) :
    ((s.purgeRouter p r).get .beat).clock = (s.get .beat).clock := by
  simp [State.purgeRouter]

@[simp] theorem State.purgeStage_clock (n : Nat) (c : Nat) (s : State) :
    ((s.purgeStage n c).get .beat).clock = (s.get .beat).clock := by
  simp [State.purgeStage]

@[simp] theorem State.captureAll_clock (n : Nat) (shedding : Bool) (s : State) :
    ((s.captureAll n shedding).get .beat).clock = (s.get .beat).clock := by
  simp [State.captureAll]

@[simp] theorem State.ledgerCheck_clock (n : Nat) (s : State) : ((s.ledgerCheck n).get .beat).clock = (s.get .beat).clock := by
  simp [State.ledgerCheck]

@[simp] theorem State.voiceEnd_clock (w : BeatWork) (st : StageSt) (s : State) :
    ((s.voiceEnd w st).get .beat).clock = (s.get .beat).clock := by
  simp [State.voiceEnd]

@[simp] theorem State.voiceShedAll_clock (w : BeatWork) (s : State) :
    ((s.voiceShedAll w).get .beat).clock = (s.get .beat).clock := by
  simp [State.voiceShedAll]

@[simp] theorem State.voiceLagWork_clock (s : State) : (s.voiceLagWork.get .beat).clock = (s.get .beat).clock := by
  simp [State.voiceLagWork]

@[simp] theorem State.lagWork_clock (s : State) : (s.lagWork.get .beat).clock = (s.get .beat).clock := by simp [State.lagWork]

@[simp] theorem State.publish_clock (w : BeatWork) (v : Verdict) (s : State) :
    ((s.publish w v).get .beat).clock = (s.get .beat).clock := by
  simp [State.publish]

@[simp] theorem State.publishList_clock (l : List BeatWork) (s : State) :
    ((s.publishList l).get .beat).clock = (s.get .beat).clock := by
  induction l generalizing s with
  | nil => rfl
  | cons w t ih =>
    unfold State.publishList
    (repeat' split) <;> simp [ih]

@[simp] theorem State.retire_clock (s : State) : (s.retire.get .beat).clock = (s.get .beat).clock := by simp [State.retire]

@[simp] theorem State.publishAll_clock (s : State) : (s.publishAll.get .beat).clock = (s.get .beat).clock := by
  simp [State.publishAll]

@[simp] theorem State.clearUnits_clock (s : State) : (s.clearUnits.get .beat).clock = (s.get .beat).clock := by
  simp [State.clearUnits]

@[simp] theorem State.enterStandby_clock (s : State) : (s.enterStandby.get .beat).clock = (s.get .beat).clock := by
  simp [State.enterStandby]

@[simp] theorem State.standbyDue_clock (s : State) : (s.standbyDue.get .beat).clock = (s.get .beat).clock := by
  simp [State.standbyDue]

@[simp] theorem State.syncOutTurn_clock (s : State) : (s.syncOutTurn.get .beat).clock = (s.get .beat).clock := by
  refine s.onBeat_clock _ fun b => ?_
  dsimp only
  split
  · rfl
  · split <;> rfl

@[simp] theorem State.boundaryUp_clock (s : State) : (s.boundaryUp.get .beat).clock = (s.get .beat).clock := by
  simp [State.boundaryUp]

@[simp] theorem State.stopIngest_clock (s : State) : (s.stopIngest.get .beat).clock = (s.get .beat).clock := by
  simp [State.stopIngest]

@[simp] theorem State.haltIngest_clock (s : State) : (s.haltIngest.get .beat).clock = (s.get .beat).clock := by
  simp [State.haltIngest]

@[simp] theorem State.limitReached_clock (s : State) : (s.limitReached.get .beat).clock = (s.get .beat).clock := by
  simp [State.limitReached]

/-! ### The boundary (02 R44) -/

/-- States with the same number and start of their beats. -/
theorem State.number_start_of_clock {s t : State} (h : (t.get .beat).clock = (s.get .beat).clock) :
    t.beat.number = s.beat.number ∧ t.beat.start = s.beat.start := Prod.mk.inj h

/-- The state at a boundary before its work: the buffers are drained up to the end of the beat, and the next beat begins. -/
def State.atBoundary (s : State) : State :=
  ((s.upTo (s.beat.start + s.beat.length)).portsDrain.drainAll).onBeat BeatUnit.turn

theorem State.atBoundary_beat (s : State) : s.atBoundary.beat = s.beat.turn := by
  have hbeat : ((s.upTo (s.beat.start + s.beat.length)).portsDrain.drainAll).beat = s.beat :=
    State.beat_of_get (by simp)
  simp only [State.atBoundary, State.onBeat_beat, hbeat]

theorem State.atBoundary_boot (s : State) : s.atBoundary.boot = s.boot := State.boot_of_get (by simp [State.atBoundary])

theorem State.atBoundary_get_now (s : State) :
    s.atBoundary.get .now = .now (max s.now (s.beat.start + s.beat.length)) := by
  have hget : s.atBoundary.get .now = (s.upTo (s.beat.start + s.beat.length)).get .now := by simp [State.atBoundary]
  exact hget

/-- Work that keeps the clock of the boundary and its device time leaves them as R44 says. -/
theorem State.clock_of_boundary {s t : State} (hclock : (t.get .beat).clock = (s.atBoundary.get .beat).clock)
    (hnow : t.get .now = s.atBoundary.get .now) :
    t.beat.number = s.beat.number + 1 ∧ t.beat.start = s.beat.start + s.beat.length ∧
      t.now = max s.now (s.beat.start + s.beat.length) := by
  obtain ⟨hnum, hstart⟩ := State.number_start_of_clock hclock
  rw [s.atBoundary_beat] at hnum hstart
  exact ⟨hnum, hstart, PartVal.now.inj (hnow.trans s.atBoundary_get_now)⟩

/-- A boundary while the device runs does the work of a boundary. -/
theorem execBeatBoundary_running {s : State} (hoff : s.power.st ≠ .off) (hrun : s.boot.st = .running) :
    execBeatBoundary s = .next s.atBoundary.boundaryUp := by
  have hboot : s.atBoundary.boot.st = .running := by rw [s.atBoundary_boot, hrun]
  simp only [execBeatBoundary, hoff, ↓reduceIte, State.atBoundary] at hboot ⊢
  simp only [hboot, ↓reduceIte]

/-- A boundary during a reset and boot, and in STANDBY, only fixes the new beat's length and turns SYNC_OUT (R45). -/
theorem execBeatBoundary_notRunning {s : State} (hoff : s.power.st ≠ .off) (hrun : s.boot.st ≠ .running) :
    execBeatBoundary s = .next (s.atBoundary.onBeat BeatUnit.fixLength).syncOutTurn := by
  have hboot : s.atBoundary.boot.st ≠ .running := by rwa [s.atBoundary_boot]
  simp only [execBeatBoundary, hoff, ↓reduceIte, State.atBoundary] at hboot ⊢
  simp only [hboot, ↓reduceIte]

/-- Settles O11: the drains before the boundary leave the beat alone, and its work leaves number, start and device time. -/
theorem beatBoundaryStartsTheNextBeat : Obligations.BeatBoundaryStartsTheNextBeat := by
  refine ⟨fun s hoff => ?_, fun s => execBeatBoundary_running, fun s => execBeatBoundary_notRunning⟩
  by_cases hrun : s.boot.st = .running
  · exact ⟨_, execBeatBoundary_running hoff hrun, State.clock_of_boundary (State.boundaryUp_clock _) (by simp)⟩
  · exact ⟨_, execBeatBoundary_notRunning hoff hrun, State.clock_of_boundary (by simp) (by simp)⟩

end Sys2Proof.Machine
end

section
/-! PROOFS. Chapter 02, reads of the time and SYNC_OUT: a read changes its requester's captures and the record of answers; the
end of the pulse changes device time and SYNC_OUT (02 R47, R72). -/

namespace Sys2Proof.Machine

/-- DEVICE_TIME_LO_READ answers the low word and captures the high one (02 R47). -/
theorem execDeviceTimeLoRead_eq (req : Nat) (s : State) :
    exec (.deviceTimeLoRead req) s = .next { s with
      beat := { s.beat with capTime := tabPut 0 s.beat.capTime req (s.now / 2 ^ 32) },
      out := .read req (s.now % 2 ^ 32) :: s.out } := rfl

/-- BEAT_NUMBER_LO_READ answers the low word and captures the number and its start (02 R47). -/
theorem execBeatNumberLoRead_eq (req : Nat) (s : State) :
    exec (.beatNumberLoRead req) s = .next { s with
      beat := { s.beat with capBeat := tabPut 0 s.beat.capBeat req s.beat.number,
                            capStart := tabPut 0 s.beat.capStart req s.beat.start },
      out := .read req (s.beat.number % 2 ^ 32) :: s.out } := rfl

/-- SYNC_OUT falls at the end of its width (02 R72). -/
theorem execSyncOutPulseEnd_high {s : State} (h : s.beat.syncOut = true) :
    exec .syncOutPulseEnd s = .next { s with
      now := max s.now s.beat.syncOutFall, beat := { s.beat with syncOut := false } } := by
  have harm : exec .syncOutPulseEnd s = execSyncOutPulseEnd s := rfl
  rw [harm, execSyncOutPulseEnd, if_pos h]
  rfl

/-- Settles O12: the two reads answer their low words at once; the pulse ends where SYNC_OUT is high. -/
theorem timeReadsAndSyncOut : Obligations.TimeReadsAndSyncOut :=
  ⟨fun req s => ⟨execDeviceTimeLoRead_eq req s, execBeatNumberLoRead_eq req s⟩, fun _ => execSyncOutPulseEnd_high⟩

end Sys2Proof.Machine
end

section
/-! PROOFS. The stages of a beat: ingest windows, the voice stage with its barriers and end, the start of ingest, and what
happens at a deadline (02 R53 to R58, R70; 06 R197 to R199, R220; 07 R241). Each command is one of the shared operations of
Machine/Stage where it is due; the frame laws give what it leaves alone. -/

namespace Sys2Proof.Machine

/-! ### Ingest windows (02 R53) -/

/-- A window that a later beat has left closes at its grace, after what the ports had buffered. -/
theorem exec_ingestWindowClose {s : State} (h : s.beat.closing < s.beat.number) :
    exec .ingestWindowClose s =
      .next (((s.upTo (s.startOf (s.beat.closing + 1) + s.grace)).portsDrain).closeWindow s.beat.closing) :=
  congrArg Host.Outcome.next (if_pos h)

/-! ### The voice stage (06 R197, R199) -/

/-- The voice stage of a beat whose window has closed and whose events are injected begins with rank 0. -/
theorem exec_voiceStageStart {s : State} {w : BeatWork} (hfront : s.voiceFront = some w) (hwait : w.voice = .waiting)
    (hclosed : w.closed = true) (hdrained : s.ingestDrained w.beat = true) (hhalt : s.beat.hardHalt = false) :
    exec .voiceStageStart s = .next (((s.onWork w.beat (fun x => { x with voice := .running, rank := 0 })).onFabric
      (fun f => { f with fires := 0 })).evalRank w.beat 0) := by
  have harm : exec .voiceStageStart s = execVoiceStageStart s := rfl
  simp only [harm, execVoiceStageStart, hfront, hwait, hclosed, hdrained, hhalt, and_self, ↓reduceIte]

/-- A barrier that is granted opens at once. -/
theorem State.whenGranted_of_granted {n : Nat} {rank : Option Nat} {s : State} (f : State → State)
    (h : s.isGranted n rank = true) : s.whenGranted n rank f = f s := if_pos h

/-- Before a barrier that its own report does not grant, the package reports and waits (11 R377). -/
theorem State.whenGranted_of_report {n : Nat} {rank : Option Nat} {s : State} (f : State → State)
    (hopen : s.isGranted n rank = false) (hown : s.choir.ownReport = none)
    (hstill : (s.sendReport n rank).isGranted n rank = false) : s.whenGranted n rank f = s.sendReport n rank := by
  simp only [State.whenGranted, hopen, hown, hstill, Option.isSome_none, Bool.false_eq_true, ↓reduceIte]

/-- A quiet rank that is not the last asks for its barrier. -/
theorem exec_rankBarrierOpen {s : State} {w : BeatWork} (hrun : s.voiceRunning = some w)
    (hrank : w.rank + 1 < s.fabric.rankCount) (hquiet : s.rankQuiet w.beat w.rank = true) (hhalt : s.beat.hardHalt = false) :
    exec .rankBarrierOpen s = .next (s.whenGranted w.beat (some w.rank) (State.openRank w.beat (w.rank + 1))) := by
  have harm : exec .rankBarrierOpen s = execRankBarrierOpen s := rfl
  simp only [harm, execRankBarrierOpen, hrun, hrank, hquiet, hhalt, and_self, ↓reduceIte]

/-- A quiet last rank asks for the end of the stage. -/
theorem exec_voiceStageEnd {s : State} {w : BeatWork} (hrun : s.voiceRunning = some w)
    (hrank : s.fabric.rankCount ≤ w.rank + 1) (hquiet : s.rankQuiet w.beat w.rank = true)
    (hstage : s.stageQuiet w.beat = true) (hhalt : s.beat.hardHalt = false) :
    exec .voiceStageEnd s = .next (s.whenGranted w.beat none (State.voiceEnd w .done)) := by
  have harm : exec .voiceStageEnd s = execVoiceStageEnd s := rfl
  simp only [harm, execVoiceStageEnd, hrun, hrank, hquiet, hstage, hhalt, and_self, ↓reduceIte]

/-- Of the beat part, opening a rank changes the rank of its beat alone. -/
theorem State.openRank_work (n r : Nat) (s : State) : (s.openRank n r).beat.work =
    modFirst (fun x => decide (x.beat = n)) (fun x => { x with rank := r }) s.beat.work := by
  have hbeat : (s.openRank n r).beat = (s.onWork n (fun w => { w with rank := r })).beat :=
    State.beat_of_get (by simp [State.openRank])
  rw [hbeat]
  rfl

/-! ### The end of the voice stage (06 R220) -/

/-- LAST_STAGE_BEAT, LAST_STAGE_FIRES and the fires of the stage in progress, of the part that holds them. -/
def PartVal.stageNote : PartVal → Nat × Nat × Nat
  | .fabric f => (f.lastStage, f.lastFires, f.fires)
  | _ => (0, 0, 0)

@[simp] theorem PartVal.stageNote_ite (c : Prop) [Decidable c] (v w : PartVal) :
    (if c then v else w).stageNote = if c then v.stageNote else w.stageNote := by split <;> rfl

/-- A change of the fabric that keeps what is noted of the stages. -/
@[simp] theorem State.onFabric_stageNote (s : State) (f : Fabric → Fabric)
    (h : ∀ x, ((f x).lastStage, (f x).lastFires, (f x).fires) = (x.lastStage, x.lastFires, x.fires)) :
    ((s.onFabric f).get .fabric).stageNote = (s.get .fabric).stageNote := h s.fabric

@[simp] theorem State.onCore_stageNote (s : State) (c : Nat) (f : VCore → VCore) :
    ((s.onCore c f).get .fabric).stageNote = (s.get .fabric).stageNote := rfl

/-- The counts of the stage that has ended (06 R220). -/
@[simp] theorem State.onFabric_stageCounts_stageNote (s : State) (n : Nat) :
    ((s.onFabric (Fabric.stageCounts n)).get .fabric).stageNote = (n, (s.get .fabric).stageNote.2.2, 0) := rfl

/-- A fold whose function keeps what is noted of the stages keeps it. -/
@[simp] theorem State.stageNote_foldl {α : Type} (f : State → α → State) (l : List α) (s : State)
    (h : ∀ t x, ((f t x).get .fabric).stageNote = (t.get .fabric).stageNote) :
    ((l.foldl f s).get .fabric).stageNote = (s.get .fabric).stageNote := by
  induction l generalizing s with
  | nil => rfl
  | cons x l ih => rw [List.foldl_cons, ih, h]

@[simp] theorem State.clearStaves_stageNote (n c : Nat) (s : State) :
    ((s.clearStaves n c).get .fabric).stageNote = (s.get .fabric).stageNote := by simp [State.clearStaves]

@[simp] theorem State.clearAllStaves_stageNote (n : Nat) (s : State) :
    ((s.clearAllStaves n).get .fabric).stageNote = (s.get .fabric).stageNote := by simp [State.clearAllStaves]

@[simp] theorem State.coresStop_stageNote (s : State) :
    (s.coresStop.get .fabric).stageNote = (s.get .fabric).stageNote := by simp [State.coresStop]

@[simp] theorem State.ledgerCheck_stageNote (n : Nat) (s : State) :
    ((s.ledgerCheck n).get .fabric).stageNote = (s.get .fabric).stageNote := by simp [State.ledgerCheck]

/-- The end of a voice stage notes its beat and its fires, and counts fires from 0 again. -/
theorem State.voiceEnd_stageNote (w : BeatWork) (st : StageSt) (s : State) :
    ((s.voiceEnd w st).get .fabric).stageNote = (w.beat, s.fabric.fires, 0) := by
  have hnote : ((s.voiceEnd w st).get .fabric).stageNote = (w.beat, (s.get .fabric).stageNote.2.2, 0) := by
    simp [State.voiceEnd]
  exact hnote

/-- The package's own report, of the part that holds it. -/
def PartVal.ownReport : PartVal → Option Report
  | .choir c => c.ownReport
  | _ => none

@[simp] theorem State.onChoir_stageCleared_ownReport (n : Nat) (s : State) :
    ((s.onChoir (Choir.stageCleared n)).get .choir).ownReport = none := rfl

/-- The end of a voice stage clears the package's own report (11 R377). -/
theorem State.voiceEnd_ownReport (w : BeatWork) (st : StageSt) (s : State) : (s.voiceEnd w st).choir.ownReport = none := by
  have hview : ((s.voiceEnd w st).get .choir).ownReport = none := by simp [State.voiceEnd]
  exact hview

/-! ### The start of ingest (02 R70, 06 R199) -/

/-- Ingest starts with the beat that has just begun. -/
theorem exec_ingestStart {s : State} (h : s.ingestDue = true) : exec .ingestStart s = .next (s.ingestStart s.beat.number) :=
  congrArg Host.Outcome.next (if_pos h)

/-- Of the beat part, the start of ingest changes the wishes for ingest and adds the work of its beat. -/
theorem State.ingestStart_beat (n : Nat) (s : State) : (s.ingestStart n).beat = { s.beat with
    ingesting := true, ingestWanted := none, ingestStop := none, resuming := false,
    work := s.beat.work ++ [{ beat := n, start := s.beat.start }] } := by
  have hbook : (((if s.beat.resuming then s.book 0xE031 0x20 1 (leBytes 6 n) else s).reinitAll n).slatesReinit).beat = s.beat :=
    State.beat_of_get (by simp)
  simp only [State.ingestStart, State.onPower_beat, State.onPress_beat, State.onBeat_beat, hbook]

/-- The first verdict after the start of ingest is marked (08 R283). -/
theorem State.ingestStart_firstPending (n : Nat) (s : State) : (s.ingestStart n).press.firstPending = true := rfl

/-- Settles O13: each command, where it is due, is one shared operation, whose laws say what it changes and leaves. -/
theorem ingestWindowAndStages : Obligations.IngestWindowAndStages := by
  refine ⟨fun s hlater => ?_, fun w s hfront hwait hclosed hdrained hhalt => ?_,
    fun w s hrun hrank hquiet hhalt hgrant => ?_, fun w s hrun hrank hquiet hhalt hopen hown hstill => ?_,
    fun w s hrun hrank hquiet hstage hhalt hgrant => ?_, fun w s hrun hrank hquiet hstage hhalt hopen hown hstill => ?_,
    fun s hdue => ?_⟩
  · refine ⟨_, exec_ingestWindowClose hlater, rfl, rfl, ?_, fun p hp => ?_⟩
    · exact State.now_of_get (s := s.upTo _) (by simp)
    · simp_all
  · refine ⟨_, exec_voiceStageStart hfront hwait hclosed hdrained hhalt, rfl, ?_, fun p hp => ?_⟩
    · exact congrArg BeatUnit.work (State.beat_of_get (State.evalRank_get _ _ _ .beat (by decide)))
    · simp_all
  · refine ⟨_, exec_rankBarrierOpen hrun hrank hquiet hhalt, State.whenGranted_of_granted _ hgrant, ?_, ?_⟩
    · rw [State.whenGranted_of_granted _ hgrant, State.openRank_work]
    · rw [State.whenGranted_of_granted _ hgrant]
      exact fun p => State.openRank_get _ _ s p
  · rw [exec_rankBarrierOpen hrun hrank hquiet hhalt, State.whenGranted_of_report _ hopen hown hstill]
  · obtain ⟨hlast, hfires⟩ := Prod.mk.inj (s.voiceEnd_stageNote w .done)
    obtain ⟨hlastFires, hzero⟩ := Prod.mk.inj hfires
    refine ⟨s.voiceEnd w .done, ?_, rfl, hlast, hlastFires, hzero, s.voiceEnd_ownReport w .done,
      fun p => State.voiceEnd_get w .done s p⟩
    rw [exec_voiceStageEnd hrun hrank hquiet hstage hhalt, State.whenGranted_of_granted _ hgrant]
  · rw [exec_voiceStageEnd hrun hrank hquiet hstage hhalt, State.whenGranted_of_report _ hopen hown hstill]
  · refine ⟨_, exec_ingestStart hdue, rfl, ?_, ?_, ?_, ?_, State.ingestStart_firstPending _ s,
      fun p => State.ingestStart_get _ s p⟩ <;> rw [State.ingestStart_beat]

end Sys2Proof.Machine
end

section
/-! PROOFS. Deadlines of the voice and press stages under HOLD and SHED, and the return of the policy in force (02 R57, R58; 07
R241). -/

namespace Sys2Proof.Machine

/-! ### What each deadline command does where it is due -/

/-- The voice stage at its deadline: under SHED it is shed, under HOLD it is late. -/
theorem exec_voiceStageDeadline {s : State} {w : BeatWork} (hfront : s.voiceFront = some w)
    (hdue : w.beat + 2 ≤ s.beat.number) (hhalt : s.beat.hardHalt = false) :
    exec .voiceStageDeadline s = .next (if s.beat.voiceShedding then s.voiceShedAll w
      else s.onWork w.beat (fun x => { x with voiceLate := true })) := by
  have harm : exec .voiceStageDeadline s = execVoiceStageDeadline s := rfl
  simp only [harm, execVoiceStageDeadline, hfront, hdue, hhalt, and_self, ↓reduceIte]

/-- The press stage at its deadline: under SHED it is shed and its verdict published, under HOLD it is late. -/
theorem exec_pressStageDeadline {s : State} {w : BeatWork} {l : List BeatWork} (hdue : s.pressOverdue = w :: l)
    (hhalt : s.beat.hardHalt = false) :
    exec .pressStageDeadline s = .next (if s.beat.pressShedding then (s.pressShed w.beat).startPress.publishAll
      else s.onWork w.beat (fun x => { x with pressLate := true })) := by
  have harm : exec .pressStageDeadline s = execPressStageDeadline s := rfl
  simp only [harm, execPressStageDeadline, hdue, hhalt, Bool.false_eq_true, ↓reduceIte]

/-- Under SHED a class of the unfinished stage is discarded at the instant of the class. -/
theorem exec_shedClassDiscard {s : State} {w : BeatWork} (cls : Fin 4) (hfront : s.voiceFront = some w)
    (hshed : s.beat.voiceShedding = true) (hdue : w.beat + 2 ≤ s.beat.number + 1) (hhalt : s.beat.hardHalt = false) :
    exec (.shedClassDiscard cls) s = .next (((s.upTo (s.startOf (w.beat + 2) - (3 - cls.val) * s.shedStep)).purgeStage
      w.beat cls).purgeGateway w.beat cls) := by
  have harm : exec (.shedClassDiscard cls) s = execShedClassDiscard cls s := rfl
  simp only [harm, execShedClassDiscard, hfront, hshed, hdue, hhalt, and_self, ↓reduceIte]

/-- After 16 beats that met the voice deadline the policy in force returns. -/
theorem exec_policyReturnToHold_voice {s : State} (hraised : s.beat.voiceRaised = true) (hmet : 16 ≤ s.beat.voiceMet) :
    exec (.policyReturnToHold .voice) s = .next { s with
      beat := { s.beat with voiceRaised := false, voiceShedding := decide (s.force 0x2100 0xF = 1) } } :=
  congrArg Host.Outcome.next (if_pos ⟨hraised, hmet⟩)

/-- After 16 beats that met the press deadline the policy in force returns. -/
theorem exec_policyReturnToHold_press {s : State} (hraised : s.beat.pressRaised = true) (hmet : 16 ≤ s.beat.pressMet) :
    exec (.policyReturnToHold .press) s = .next { s with
      beat := { s.beat with pressRaised := false, pressShedding := decide (s.force 0x2100 0x10 = 1) } } :=
  congrArg Host.Outcome.next (if_pos ⟨hraised, hmet⟩)

/-- Settles O14: HOLD notes the lateness in the beat's work, SHED runs the shared shedding, whose laws say what it leaves. -/
theorem deadlinesUnderHoldAndShed : Obligations.DeadlinesUnderHoldAndShed := by
  refine ⟨fun w s hfront hdue hhalt hhold => ?_, fun w s hfront hdue hhalt hshed => ?_,
    fun w l s hdue hhalt hhold => ?_, fun w l s hdue hhalt hshed => ?_, fun cls w s hfront hshed hdue hhalt => ?_,
    fun s => exec_policyReturnToHold_voice, fun s => exec_policyReturnToHold_press⟩
  · refine ⟨_, ?_, rfl, fun p => State.onWork_get _ _ s p⟩
    rw [exec_voiceStageDeadline hfront hdue hhalt, hhold, if_neg Bool.false_ne_true]
  · refine ⟨_, ?_, rfl, fun p => State.voiceShedAll_get w s p⟩
    rw [exec_voiceStageDeadline hfront hdue hhalt, hshed, if_pos rfl]
  · refine ⟨_, ?_, rfl, fun p => State.onWork_get _ _ s p⟩
    rw [exec_pressStageDeadline hdue hhalt, hhold, if_neg Bool.false_ne_true]
  · refine ⟨(s.pressShed w.beat).startPress.publishAll, ?_, rfl, ?_, fun p hp => ?_⟩
    · rw [exec_pressStageDeadline hdue hhalt, hshed, if_pos rfl]
    · exact (State.number_start_of_clock (by simp)).1
    · simp_all
  · refine ⟨_, exec_shedClassDiscard cls hfront hshed hdue hhalt, rfl, ?_, fun p hp => ?_⟩
    · exact State.now_of_get (s := s.upTo _) (by simp)
    · simp_all

end Sys2Proof.Machine
end

section
/-! PROOFS. The SYNC_IN tracker: glitches, edges, the timeout and the limits (02 R50, R61 to R68; 11 R373). -/

namespace Sys2Proof.Machine

/-! ### Edges (02 R60 to R66) -/

/-- With SYNC_IN the source an edge acts 2 µs after its stamp, after a limit that lies before the stamp (R68). -/
theorem exec_syncInEdge {s : State} (stamp : Nat) (hsource : s.beat.source = .syncIn) :
    exec (.syncInEdge stamp) s = .next (((s.upTo (stamp + 2)).limitBefore stamp).syncEdge stamp) :=
  congrArg Host.Outcome.next (if_pos hsource)

/-- With no holdover timer running no limit lies before an edge. -/
theorem State.limitBefore_of_holdStart_none {s : State} (stamp : Nat) (h : s.beat.holdStart = none) :
    s.limitBefore stamp = s := by
  simp only [State.limitBefore, State.limitAt, h, Option.map_none]

/-- With no holdover timer running only the edge itself acts, 2 µs after its stamp. -/
theorem exec_syncInEdge_of_holdStart_none {s : State} (stamp : Nat) (hsource : s.beat.source = .syncIn)
    (hhold : s.beat.holdStart = none) : exec (.syncInEdge stamp) s = .next ((s.upTo (stamp + 2)).syncEdge stamp) := by
  rw [exec_syncInEdge stamp hsource, State.limitBefore_of_holdStart_none stamp (s := s.upTo (stamp + 2)) hhold]

/-- The first edge becomes the reference (R62). -/
theorem State.syncEdge_first {s : State} (stamp : Nat) (href : s.beat.refEdge = none) :
    s.syncEdge stamp = s.onBeat (fun b => { b with refEdge := some stamp }) := by
  simp only [State.syncEdge, href]

/-- An edge closer to the reference than half the period is a glitch (R61). -/
theorem State.syncEdge_glitch {s : State} {stamp r : Nat} (href : s.beat.refEdge = some r)
    (hnear : 2 * (stamp - r) < s.beat.tracked) : s.syncEdge stamp = s.count 0x2100 0xC 1 := by
  simp only [State.syncEdge, href, hnear, ↓reduceIte]

/-- Any other edge acts by its interval. -/
theorem State.syncEdge_acts {s : State} {stamp r : Nat} (href : s.beat.refEdge = some r)
    (hfar : s.beat.tracked ≤ 2 * (stamp - r)) : s.syncEdge stamp = s.edgeActs stamp (stamp - r) := by
  simp only [State.syncEdge, href, Nat.not_lt.mpr hfar, ↓reduceIte]

/-- What an in-tolerance edge makes of the beat part while LOCKED: it is measured, and its interval enters the mean of the
last eight, which is the period from here on (R65, R66). -/
def BeatUnit.measured (stamp i : Nat) (residual : Int) (b : BeatUnit) : BeatUnit :=
  let run := (b.meanRun ++ [i]).drop (b.meanRun.length - 7)
  { b with
    refEdge := some stamp, phaseError := residual, residual := some residual, meanRun := run, tracked := meanUp run,
    adopt := b.adopt.map (fun _ => meanUp run), activePeriod := if b.adopt.isSome then b.activePeriod else meanUp run }

/-- While LOCKED an edge in tolerance changes the beat part alone. -/
theorem State.edgeActs_locked {s : State} (stamp : Nat) {i : Nat} (hlocked : s.beat.tracker = .locked)
    (hok : inTolerance s.beat.tracked i = true) : s.edgeActs stamp i = s.onBeat (BeatUnit.measured stamp i
      ((s.onBeat (fun b => { b with refEdge := some stamp })).residualOf stamp)) := by
  simp only [State.edgeActs, State.onBeat_beat, hlocked, hok, ↓reduceIte]
  rfl

/-- With SYNC_IN the source, an edge in tolerance while LOCKED is measured, 2 µs after its stamp. -/
theorem exec_syncInEdge_locked {s : State} {stamp r : Nat} (hsource : s.beat.source = .syncIn)
    (hhold : s.beat.holdStart = none) (href : s.beat.refEdge = some r) (hlocked : s.beat.tracker = .locked)
    (hfar : s.beat.tracked ≤ 2 * (stamp - r)) (hok : inTolerance s.beat.tracked (stamp - r) = true) :
    ∃ residual, exec (.syncInEdge stamp) s =
      .next ((s.upTo (stamp + 2)).onBeat (BeatUnit.measured stamp (stamp - r) residual)) := by
  rw [exec_syncInEdge_of_holdStart_none stamp hsource hhold, State.syncEdge_acts (s := s.upTo _) href hfar,
    State.edgeActs_locked (s := s.upTo _) stamp hlocked hok]
  exact ⟨_, rfl⟩

/-! ### The timeout and the limit of holdover (02 R63, R67 to R69) -/

theorem exec_syncInTimeout {s : State} {r : Nat} (href : s.beat.refEdge = some r) (hlocked : s.beat.tracker = .locked) :
    exec .syncInTimeout s = .next ((s.upTo (r + (3 * s.beat.tracked + 1) / 2)).toHoldover []) := by
  have harm : exec .syncInTimeout s = execSyncInTimeout s := rfl
  simp only [harm, execSyncInTimeout, href, hlocked, ↓reduceIte]

/-- HOLDOVER keeps the reference edge and the period, and starts the holdover timer. -/
theorem State.toHoldover_beat (run : List Nat) (s : State) : (s.toHoldover run).beat = { s.beat with
    tracker := .holdover, inRun := 0, offRun := run, slewing := false, residual := none, holdStart := some s.now,
    rejected := false } := State.beat_of_get (State.raiseCond_get _ _ _ _ _ .beat (by decide))

theorem exec_holdoverLimitExpiry {s : State} {l : Nat} (hlimit : s.limitAt = some l) :
    exec .holdoverLimitExpiry s = .next ((s.upTo (l + 2)).limitReached) := by
  have harm : exec .holdoverLimitExpiry s = execHoldoverLimitExpiry s := rfl
  simp only [harm, execHoldoverLimitExpiry, hlimit]

theorem exec_holdoverLimitExpiry_follower {s : State} {l : Nat} (hown : s.limitAt = none) (hlimit : s.choirLimitAt = some l)
    (hrole : s.choir.role = .follower) (hbeat : s.choir.beat = .holdover) :
    exec .holdoverLimitExpiry s = .next (s.upTo l).choirLimit := by
  have harm : exec .holdoverLimitExpiry s = execHoldoverLimitExpiry s := rfl
  simp only [harm, execHoldoverLimitExpiry, hown, hlimit, hrole, hbeat, and_self, ↓reduceIte]

/-- A halt of ingest touches neither the tracker nor its timer. -/
theorem State.haltIngest_tracker (s : State) : s.haltIngest.beat.tracker = s.beat.tracker := rfl

theorem State.haltIngest_holdStart (s : State) : s.haltIngest.beat.holdStart = s.beat.holdStart := rfl

/-- At the limit the tracker goes to FREE_RUN, or to HALTED with policy STOP, and its timer ends (R68). -/
theorem State.limitReached_tracker (s : State) : s.limitReached.beat.holdStart = none ∧
    s.limitReached.beat.tracker = (if s.force 0x2100 0xB = 1 then .halted else .freeRun) := by
  have hraise : ∀ u : State, (u.raiseCond 0xFF11 1 0 []).beat = u.beat := fun u => State.beat_of_get (by simp)
  by_cases hstop : s.force 0x2100 0xB = 1
  · simp [State.limitReached, hstop, State.haltIngest_tracker, State.haltIngest_holdStart, hraise]
  · simp [State.limitReached, hstop, hraise]

/-- A follower at the limit goes to FREE_RUN, or to HALTED by the policy of its Choir (11 R373). -/
theorem State.choirLimit_choir (s : State) : s.choirLimit.choir = { s.choir with
    beat := if s.choir.policyStop then .halted else .freeRun, holdStart := none } := by
  have hget : s.choirLimit.get .choir = (s.onChoir (fun c => { c with
      beat := if c.policyStop then .halted else .freeRun, holdStart := none })).get .choir := by
    simp [State.choirLimit]
  exact State.choir_of_get hget

/-- Settles O15: each command where it is due, by the laws of the tracker's operations. -/
theorem syncInTracker : Obligations.SyncInTracker := by
  refine ⟨fun s hsource => congrArg Host.Outcome.next (if_pos hsource),
    fun stamp s hsource => congrArg Host.Outcome.next (if_neg hsource), fun stamp s hsource hhold href => ?_,
    fun stamp r s hsource hhold href hnear => ?_, fun stamp s hsource => ?_,
    fun stamp r s hsource hhold href hlocked hfar hok _ => ?_, fun r s href hlocked => ?_, fun l s hlimit => ?_,
    fun l s hown hlimit hrole hbeat => ?_⟩
  · rw [exec_syncInEdge_of_holdStart_none stamp hsource hhold, State.syncEdge_first stamp (s := s.upTo _) href]
    rfl
  · rw [exec_syncInEdge_of_holdStart_none stamp hsource hhold, State.syncEdge_glitch (s := s.upTo _) href hnear]
  · refine ⟨_, exec_syncInEdge stamp hsource, rfl, fun p hp => ?_⟩
    simp_all
  · obtain ⟨residual, hmeasured⟩ := exec_syncInEdge_locked hsource hhold href hlocked hfar hok
    refine ⟨_, hmeasured, rfl, hlocked, rfl, rfl, rfl, rfl, fun p hp => ?_⟩
    simp_all
  · have hbeat := State.toHoldover_beat [] (s.upTo (r + (3 * s.beat.tracked + 1) / 2))
    have hnow : ((s.upTo (r + (3 * s.beat.tracked + 1) / 2)).toHoldover []).now = max s.now (r + (3 * s.beat.tracked + 1) / 2) :=
      State.now_of_get (s := s.upTo _) (by simp)
    refine ⟨_, exec_syncInTimeout href hlocked, rfl, hnow, ?_, ?_, ?_, ?_, ?_, fun p hp => ?_⟩
    · rw [hbeat]
    · rw [hbeat]
    · rw [hbeat, hnow]; rfl
    · rw [hbeat]; exact href
    · rw [hbeat]; rfl
    · simp_all
  · obtain ⟨hhold, htracker⟩ := State.limitReached_tracker (s.upTo (l + 2))
    refine ⟨_, exec_holdoverLimitExpiry hlimit, rfl, State.now_of_get (s := s.upTo _) (by simp), htracker, hhold,
      (State.number_start_of_clock (s := s.upTo (l + 2)) (by simp)).1, fun p hp => ?_⟩
    simp_all
  · have hchoir := State.choirLimit_choir (s.upTo l)
    refine ⟨_, exec_holdoverLimitExpiry_follower hown hlimit hrole hbeat, rfl,
      State.now_of_get (s := s.upTo _) (by simp), ?_, ?_, fun p hp => ?_⟩
    · rw [hchoir]; rfl
    · rw [hchoir]
    · simp_all

end Sys2Proof.Machine
end

section
/-! PROOFS. The state at power-on (02 R43, 17 R528; the values the spec does not give: log 8). Every field but the Cellar Book's
first record holds its default, so its tables are empty, and an empty table gives its default at every key. -/

namespace Sys2Proof.Machine

/-- An empty table gives its default at every key. -/
theorem tabGet_nil {α : Type} (d : α) (k : Nat) : tabGet d [] k = d := rfl

/-- Both audio channels are off at power-on. -/
theorem State.reset_chan (ch : Nat) : (State.reset.chan ch).st = .off := by
  unfold State.chan
  split <;> rfl

/-- Memory reads 0 at power-on (log 4). -/
theorem State.reset_byteAt (a : Nat) : State.reset.byteAt a = 0 := tabGet_nil 0 a

/-- Empty memory and an empty write log are in canonical form. -/
theorem State.reset_canonical : Safety.Canonical State.reset := ⟨rfl, rfl⟩

/-- Settles O58: field by field, and for the tables by the default of an empty table. -/
theorem resetStateIsCanonical : Obligations.ResetStateIsCanonical := by
  refine ⟨rfl, rfl, rfl, rfl, rfl, rfl, rfl, rfl, rfl, rfl, rfl, State.reset_chan, fun q => ?_, fun m => ?_, fun c => ?_,
    State.reset_byteAt, State.reset_canonical⟩
  · exact congrArg Queue.st (tabGet_nil {} q)
  · exact congrArg Mover.st (tabGet_nil {} m)
  · exact congrArg VCore.st (tabGet_nil {} c)

end Sys2Proof.Machine
end

section
/-! PROOFS. The NVM controller: what a write of MRAM and an entry read back as, and what of the controller's part the operations
that stage records leave alone (04 R118, R138, R150). -/

namespace Sys2Proof.Machine

/-! ### Bytes and entries read back -/

/-- Equal memories read alike. -/
theorem State.byteAt_of_mem {s t : State} (h : t.mem = s.mem) (a : Nat) : t.byteAt a = s.byteAt a :=
  congrArg (fun m => tabGet 0 m a) h

theorem State.bytesAt_of_mem {s t : State} (h : t.mem = s.mem) (a n : Nat) : t.bytesAt a n = s.bytesAt a n := by
  induction n generalizing a with
  | zero => rfl
  | succ n ih => rw [State.bytesAt, State.bytesAt, State.byteAt_of_mem h, ih]

/-- Bytes that stand one by one from an offset on are what is read there. -/
theorem State.bytesAt_of_byteAt {s : State} {a : Nat} {l : List Byte} (h : ∀ i (hi : i < l.length), s.byteAt (a + i) = l[i]) :
    s.bytesAt a l.length = l := by
  induction l generalizing a with
  | nil => rfl
  | cons b l ih =>
    have hhead : s.byteAt a = b := h 0 (Nat.succ_pos _)
    have htail : s.bytesAt (a + 1) l.length = l := ih fun i hi => by
      rw [show a + 1 + i = a + (i + 1) by omega, h (i + 1) (Nat.succ_lt_succ hi), List.getElem_cons_succ]
    rw [List.length_cons, State.bytesAt, hhead, htail]

/-- A write of MRAM reads back. -/
theorem State.nvmPut_bytesAt (a : Nat) (l : List Byte) (s : State) : (s.nvmPut a l).bytesAt a l.length = l :=
  State.bytesAt_of_byteAt fun i hi => memPut_inside s.mem a i l hi

/-- A write of MRAM changes no byte outside the bytes written. -/
theorem State.nvmPut_byteAt_outside {a x : Nat} {l : List Byte} (s : State) (h : x < a ∨ a + l.length ≤ x) :
    (s.nvmPut a l).byteAt x = s.byteAt x := memPut_outside s.mem a x l h

/-- An entry reads as the value stored in it. -/
@[simp] theorem State.setEnt_ent_self (idx sub v : Nat) (s : State) : (s.setEnt idx sub v).ent idx sub = v := by
  simp [State.ent, State.setEnt]

@[simp] theorem State.book_ent (code src sev : Nat) (l : List Byte) (idx sub : Nat) (s : State) :
    (s.book code src sev l).ent idx sub = s.ent idx sub := rfl

@[simp] theorem State.answer_ent (code idx sub : Nat) (s : State) : (s.answer code).ent idx sub = s.ent idx sub := rfl

@[simp] theorem State.answer_byteAt (code a : Nat) (s : State) : (s.answer code).byteAt a = s.byteAt a := rfl

@[simp] theorem State.answer_bytesAt (code a n : Nat) (s : State) : (s.answer code).bytesAt a n = s.bytesAt a n :=
  State.bytesAt_of_mem (State.emit_mem _ s) a n

@[simp] theorem State.answer_out (code : Nat) (s : State) : (s.answer code).out = .status code :: s.out := rfl

/-! ### The controller's part under the shared operations -/

@[simp] theorem State.nvmPut_nvm (a : Nat) (l : List Byte) (s : State) : (s.nvmPut a l).nvm = s.nvm :=
  State.nvm_of_get (by simp)
@[simp] theorem State.setEnt_nvm (idx sub v : Nat) (s : State) : (s.setEnt idx sub v).nvm = s.nvm := rfl
@[simp] theorem State.answer_nvm (code : Nat) (s : State) : (s.answer code).nvm = s.nvm := rfl
@[simp] theorem State.badWord_nvm (a : Nat) (s : State) : (s.badWord a).nvm = s.nvm :=
  State.nvm_of_get (by simp)
@[simp] theorem State.idled_nvm (s : State) : s.idled.nvm = s.nvm := rfl
@[simp] theorem State.writeTrailer_nvm (k : Nat) (s : State) : (s.writeTrailer k).nvm = s.nvm :=
  State.nvm_of_get (by simp)

/-- Of the controller's part, a slot state set changes that slot's state alone. -/
theorem State.setSlot_nvm (k : Nat) (v : SlotSt) (s : State) : (s.setSlot k v).nvm =
    if k = 0 then { s.nvm with slot0 := v } else { s.nvm with slot1 := v } := rfl

@[simp] theorem State.setSlot_nvm_activeSlot (k : Nat) (v : SlotSt) (s : State) :
    (s.setSlot k v).nvm.activeSlot = s.nvm.activeSlot := by
  rw [State.setSlot_nvm]
  split <;> rfl

@[simp] theorem State.setSlot_nvm_pendingSwitch (k : Nat) (v : SlotSt) (s : State) :
    (s.setSlot k v).nvm.pendingSwitch = s.nvm.pendingSwitch := by
  rw [State.setSlot_nvm]
  split <;> rfl

@[simp] theorem State.answerTo_nvm (who : StoreFor) (idx sub code : Nat) (s : State) : (s.answerTo who idx sub code).nvm = s.nvm :=
  State.nvm_of_get (by simp)

@[simp] theorem State.linkToPrec_nvm (kind : Nat) (msg : List Byte) (s : State) : (s.linkToPrec kind msg).nvm = s.nvm :=
  State.nvm_of_get (by simp)

/-! ### Slot states (04 R138) -/

/-- SLOTn_STATE as the statements write it. -/
theorem State.slotSt_fin (k : Fin 2) (s : State) : (if k = 0 then s.nvm.slot0 else s.nvm.slot1) = s.slotSt k := by
  simp only [State.slotSt, Fin.ext_iff, Fin.val_zero]

/-- A slot is in the state it is put in. -/
@[simp] theorem State.setSlot_slotSt (k : Nat) (v : SlotSt) (s : State) : (s.setSlot k v).slotSt k = v := by
  simp only [State.slotSt, State.setSlot_nvm]
  split <;> rfl

/-- A change of the controller's part that keeps the slot states. -/
@[simp] theorem State.onNvm_slotSt (f : Nvm → Nvm) (k : Nat) (s : State) (h : ∀ n, ((f n).slot0, (f n).slot1) = (n.slot0, n.slot1)) :
    (s.onNvm f).slotSt k = s.slotSt k := by
  obtain ⟨h0, h1⟩ := Prod.mk.inj (h s.nvm)
  simp only [State.slotSt, State.onNvm_nvm, h0, h1]

@[simp] theorem State.book_slotSt (code src sev : Nat) (l : List Byte) (k : Nat) (s : State) :
    (s.book code src sev l).slotSt k = s.slotSt k := by simp only [State.slotSt, State.book_nvm_slot0, State.book_nvm_slot1]

@[simp] theorem State.onChoir_slotSt (f : Choir → Choir) (k : Nat) (s : State) : (s.onChoir f).slotSt k = s.slotSt k := rfl

@[simp] theorem State.answer_slotSt (code k : Nat) (s : State) : (s.answer code).slotSt k = s.slotSt k := rfl

@[simp] theorem State.answerTo_slotSt (who : StoreFor) (idx sub code k : Nat) (s : State) :
    (s.answerTo who idx sub code).slotSt k = s.slotSt k := by simp only [State.slotSt, State.answerTo_nvm]

/-! ### What operations that stage records leave of the controller's part (04 R150)

A load moves port reservations and loads voice cores, and either may fault and stage records. No operation it calls changes
the controller's part in another way. -/

/-- The controller's part without its staged records and their drops. -/
def Nvm.unstaged (n : Nvm) : Nvm := { n with staged := [], dropped := 0 }

/-- The same of the part that holds it. -/
def PartVal.unstaged : PartVal → Nvm
  | .nvm n => n.unstaged
  | _ => {}

theorem State.activeSlot_of_unstaged {s t : State} (h : (t.get .nvm).unstaged = (s.get .nvm).unstaged) :
    t.nvm.activeSlot = s.nvm.activeSlot := by
  have hview : t.nvm.unstaged = s.nvm.unstaged := h
  have hfield := congrArg Nvm.activeSlot hview
  exact hfield

theorem State.loadPending_of_unstaged {s t : State} (h : (t.get .nvm).unstaged = (s.get .nvm).unstaged) :
    t.nvm.loadPending = s.nvm.loadPending := by
  have hview : t.nvm.unstaged = s.nvm.unstaged := h
  have hfield := congrArg Nvm.loadPending hview
  exact hfield

@[simp] theorem PartVal.unstaged_ite (c : Prop) [Decidable c] (v w : PartVal) :
    (if c then v else w).unstaged = if c then v.unstaged else w.unstaged := by split <;> rfl

/-- A fold whose function only stages records only stages records. -/
@[simp] theorem State.foldl_unstaged {α : Type} (f : State → α → State) (l : List α) (s : State)
    (h : ∀ t x, ((f t x).get .nvm).unstaged = (t.get .nvm).unstaged) :
    ((l.foldl f s).get .nvm).unstaged = (s.get .nvm).unstaged := by
  induction l generalizing s with
  | nil => rfl
  | cons x l ih => rw [List.foldl_cons, ih, h]

@[simp] theorem State.book_unstaged (code src sev : Nat) (l : List Byte) (s : State) :
    ((s.book code src sev l).get .nvm).unstaged = (s.get .nvm).unstaged := by
  simp only [State.get, PartVal.unstaged, State.book, State.onNvm]
  split <;> rfl

@[simp] theorem State.sendEmcy_unstaged (m : Emcy) (sev : Nat) (x : List Byte) (s : State) :
    ((s.sendEmcy m sev x).get .nvm).unstaged = (s.get .nvm).unstaged := by simp [State.sendEmcy]

@[simp] theorem State.raiseCond_unstaged (code src idx : Nat) (x : List Byte) (s : State) :
    ((s.raiseCond code src idx x).get .nvm).unstaged = (s.get .nvm).unstaged := by simp [State.raiseCond]

@[simp] theorem State.raiseEach_unstaged (code src idx : Nat) (x : List Byte) (s : State) :
    ((s.raiseEach code src idx x).get .nvm).unstaged = (s.get .nvm).unstaged := by simp [State.raiseEach]

@[simp] theorem State.endCond_unstaged (code src idx : Nat) (s : State) :
    ((s.endCond code src idx).get .nvm).unstaged = (s.get .nvm).unstaged := by simp [State.endCond]

/-! #### Zones and gates (12) -/

@[simp] theorem State.disturb_unstaged (z bit : Nat) (s : State) :
    ((s.disturb z bit).get .nvm).unstaged = (s.get .nvm).unstaged := by
  unfold State.disturb
  split
  · rfl
  · split <;> simp [State.restoreFailed]

@[simp] theorem State.disturbBounded_unstaged (g bit : Nat) (s : State) :
    ((s.disturbBounded g bit).get .nvm).unstaged = (s.get .nvm).unstaged := by simp [State.disturbBounded]

@[simp] theorem State.zoneSettle_unstaged (z : Nat) (s : State) :
    ((s.zoneSettle z).get .nvm).unstaged = (s.get .nvm).unstaged := by
  unfold State.zoneSettle
  split <;> simp

@[simp] theorem State.zonesSettle_unstaged (s : State) : (s.zonesSettle.get .nvm).unstaged = (s.get .nvm).unstaged := by
  simp [State.zonesSettle]

@[simp] theorem State.gateFault_unstaged (g cause : Nat) (b : Bool) (s : State) :
    ((s.gateFault g cause b).get .nvm).unstaged = (s.get .nvm).unstaged := by simp [State.gateFault]

@[simp] theorem State.rawChange_unstaged (g : Nat) (b level : Bool) (stamp : Nat) (s : State) :
    ((s.rawChange g b level stamp).get .nvm).unstaged = (s.get .nvm).unstaged := by simp [State.rawChange]

@[simp] theorem State.beamEvent_unstaged (port beam : Nat) (pol : Bool) (stamp : Nat) (s : State) :
    ((s.beamEvent port beam pol stamp).get .nvm).unstaged = (s.get .nvm).unstaged := by simp [State.beamEvent]

@[simp] theorem State.sourceLost_unstaged (p : Nat) (s : State) :
    ((s.sourceLost p).get .nvm).unstaged = (s.get .nvm).unstaged := by simp [State.sourceLost]

@[simp] theorem State.zonePort_unstaged (p : Nat) (old new : PortSt) (s : State) :
    ((s.zonePort p old new).get .nvm).unstaged = (s.get .nvm).unstaged := by simp [State.zonePort]

/-! #### Streams and sensor ports (16, 05) -/

@[simp] theorem State.streamWait_unstaged (v : Nat) (s : State) :
    ((s.streamWait v).get .nvm).unstaged = (s.get .nvm).unstaged := by simp [State.streamWait, State.streamRecord]

@[simp] theorem State.videoPortGone_unstaged (p : Nat) (s : State) :
    ((s.videoPortGone p).get .nvm).unstaged = (s.get .nvm).unstaged := by simp [State.videoPortGone]

@[simp] theorem State.portTo_unstaged (p : Nat) (new : PortSt) (s : State) :
    ((s.portTo p new).get .nvm).unstaged = (s.get .nvm).unstaged := by simp [State.portTo]

@[simp] theorem State.portStall_unstaged (p cause : Nat) (s : State) :
    ((s.portStall p cause).get .nvm).unstaged = (s.get .nvm).unstaged := by simp [State.portStall]

@[simp] theorem State.timeAcquired_unstaged (p t arrival : Nat) (s : State) :
    ((s.timeAcquired p t arrival).get .nvm).unstaged = (s.get .nvm).unstaged := by simp [State.timeAcquired]

@[simp] theorem State.acquire_unstaged (p t arrival : Nat) (s : State) :
    ((s.acquire p t arrival).get .nvm).unstaged = (s.get .nvm).unstaged := by simp [State.acquire]

@[simp] theorem State.timeHigh_unstaged (p t arrival : Nat) (s : State) :
    ((s.timeHigh p t arrival).get .nvm).unstaged = (s.get .nvm).unstaged := by simp [State.timeHigh]

@[simp] theorem State.beamPath_unstaged (p x : Nat) (pol graded : Bool) (s : State) :
    ((s.beamPath p x pol graded).get .nvm).unstaged = (s.get .nvm).unstaged := by simp [State.beamPath]

@[simp] theorem State.decoded_unstaged (p x : Nat) (pol graded : Bool) (value : BitVec 8) (s : State) :
    ((s.decoded p x pol graded value).get .nvm).unstaged = (s.get .nvm).unstaged := by simp [State.decoded]

@[simp] theorem State.vectorEvents_unstaged (p v mask : Nat) (s : State) :
    ((s.vectorEvents p v mask).get .nvm).unstaged = (s.get .nvm).unstaged := by simp [State.vectorEvents]

@[simp] theorem State.hefWord_unstaged (p arrival : Nat) (word : BitVec 32) (s : State) :
    ((s.hefWord p arrival word).get .nvm).unstaged = (s.get .nvm).unstaged := by
  unfold State.hefWord
  split
  · simp
  · dsimp only
    split <;> simp

@[simp] theorem State.portDrain_unstaged (p : Nat) (s : State) :
    ((s.portDrain p).get .nvm).unstaged = (s.get .nvm).unstaged := by simp [State.portDrain]

@[simp] theorem State.portFault_unstaged (p cause : Nat) (s : State) :
    ((s.portFault p cause).get .nvm).unstaged = (s.get .nvm).unstaged := by simp [State.portFault]

@[simp] theorem State.moveRegions_unstaged (claims : List Nat) (s : State) :
    ((s.moveRegions claims).get .nvm).unstaged = (s.get .nvm).unstaged := by
  refine State.foldl_unstaged _ _ s fun t p => ?_
  split
  · rfl
  · dsimp only
    split
    · rfl
    · split <;> simp

/-! #### Voice cores (06) -/

@[simp] theorem State.coreFault_unstaged (c : Nat) (s : State) :
    ((s.coreFault c).get .nvm).unstaged = (s.get .nvm).unstaged := by simp [State.coreFault]

@[simp] theorem State.coreCommitEnd_unstaged (c : Nat) (s : State) :
    ((s.coreCommitEnd c).get .nvm).unstaged = (s.get .nvm).unstaged := by simp [State.coreCommitEnd]

@[simp] theorem State.loadCore_unstaged (c : Nat) (l : List Byte) (s : State) :
    ((s.loadCore c l).get .nvm).unstaged = (s.get .nvm).unstaged := by simp [State.loadCore]

@[simp] theorem State.loadUnits_unstaged (b : List Byte) (s : State) :
    ((s.loadUnits b).get .nvm).unstaged = (s.get .nvm).unstaged := by simp [State.loadUnits]

@[simp] theorem State.loadImage_unstaged (b : List Byte) (s : State) :
    ((s.loadImage b).get .nvm).unstaged = (s.get .nvm).unstaged := by simp [State.loadImage]

end Sys2Proof.Machine
end

section
/-! PROOFS. Images: install, activation, the switch and the load (04 R138 to R142). -/

namespace Sys2Proof.Machine

/-! ### Writes of entries that are served -/

/-- A write that passes the checks of its entry takes effect and is answered. -/
theorem State.guarded_of_accepted {idx sub v : Nat} (f : State → Nat × State) {s : State} (hrun : s.boot.st = .running)
    (hnmt : s.comm.nmt ≠ .stopped) (hcheck : s.writeCheck idx sub v = 0) : s.guarded idx sub v f = (f s).2.answer (f s).1 := by
  simp only [State.guarded, hrun, hnmt, hcheck, ne_eq, not_true_eq_false, ↓reduceIte]

/-- A write is served while the device runs and is not STOPPED. -/
theorem State.written_of_served (f : State → State) {s : State} (hrun : s.boot.st = .running)
    (hnmt : s.comm.nmt ≠ .stopped) : s.written f = f s := by
  simp only [State.written, hrun, hnmt, ne_eq, not_true_eq_false, ↓reduceIte]

/-! ### Begin (04 R138) -/

/-- The slot that is not active. -/
def State.otherSlot (s : State) : Nat :=
  match s.nvm.activeSlot with
  | some a => 1 - a
  | none => 0

/-- An install into a slot has begun. -/
def State.begun (k : Nat) (s : State) : State :=
  ((((s.nvmPut (trailer k + 0xFF0) (leBytes 16 0)).setSlot k .installing).onNvm (fun n =>
    { n with installing := some k, committing := false, received := 0, installStatus := 0 })).setEnt 0x2300 9 0).book 0xE020 3 0
      (leBytes 1 k)

/-- With no store, install or switch in the way, begin opens the slot that is not active. -/
theorem State.installBegin_accepted {s : State} (hjob : s.nvm.job = none) (hidle : s.nvm.installing = none)
    (hswitch : s.nvm.pendingSwitch = none) : s.installBegin = (0, s.begun s.otherSlot) := by
  simp only [State.installBegin, hjob, hidle, hswitch, Option.isSome_none, Bool.false_eq_true, reduceCtorEq, ↓reduceIte]
  rfl

theorem State.begun_installing (k : Nat) (s : State) : (s.begun k).nvm.installing = some k := by simp [State.begun]

theorem State.begun_received (k : Nat) (s : State) : (s.begun k).nvm.received = 0 := by simp [State.begun]

theorem State.begun_activeSlot (k : Nat) (s : State) : (s.begun k).nvm.activeSlot = s.nvm.activeSlot := by
  simp [State.begun]

/-- INSTALL_OFFSET starts at 0. -/
theorem State.begun_offset (k : Nat) (s : State) : (s.begun k).ent 0x2300 9 = 0 := by simp [State.begun]

/-- Of memory, begin writes ACTIVATION and COMMIT of the slot's trailer. -/
theorem State.begun_byteAt {k a : Nat} (s : State) (h : a < trailer k + 0xFF0 ∨ trailer k + 0x1000 ≤ a) :
    (s.begun k).byteAt a = s.byteAt a := by
  have hmem : (s.begun k).mem = (s.nvmPut (trailer k + 0xFF0) (leBytes 16 0)).mem := State.mem_of_get (by simp [State.begun])
  rw [State.byteAt_of_mem hmem, s.nvmPut_byteAt_outside (by rw [length_leBytes]; omega)]

/-! ### Data (04 R139) -/

/-- Data stored behind what an install into a slot has received. -/
def State.stored (k : Nat) (data : List Byte) (s : State) : State :=
  ((s.nvmPut (slotBase k + s.nvm.received) data).onNvm (fun n => { n with received := s.nvm.received + data.length })).setEnt
    0x2300 9 (s.nvm.received + data.length)

/-- Data in turn, after the header has been checked, is stored at its offset. -/
theorem State.installData_inTurn {s : State} {data : List Byte} {k : Nat} (hjob : s.nvm.job = none)
    (hslot : s.nvm.installing = some k) (hturn : s.nvm.received = s.ent 0x2300 9) (hmin : 1 ≤ data.length)
    (hmax : data.length ≤ 4096) (hheader : 128 ≤ s.nvm.received)
    (hfits : s.nvm.received + data.length ≤ s.memNum (slotBase k + 16) 4) :
    s.installData data = (0, s.stored k data) := by
  have hlen : ¬(data.length = 0 ∨ 4096 < data.length) := by omega
  have hend : ¬(128 ≤ s.nvm.received ∧ s.memNum (slotBase k + 16) 4 < s.nvm.received + data.length) := by omega
  have hchecked : ¬(s.nvm.received < 128 ∨ s.nvm.received < 128) := by omega
  simp only [State.installData, ← hturn, hlen, hjob, hslot, hend, hchecked, Nat.lt_irrefl, Option.isSome_none, Bool.false_eq_true,
    false_and, and_false, ↓reduceIte, State.stored]

theorem State.stored_nvm (k : Nat) (data : List Byte) (s : State) :
    (s.stored k data).nvm = { s.nvm with received := s.nvm.received + data.length } := by simp [State.stored]

/-- Of memory, the data are written. -/
theorem State.stored_mem (k : Nat) (data : List Byte) (s : State) :
    (s.stored k data).mem = (s.nvmPut (slotBase k + s.nvm.received) data).mem := State.mem_of_get (by simp [State.stored])

theorem State.stored_out (k : Nat) (data : List Byte) (s : State) : (s.stored k data).out = s.out :=
  State.out_of_get (by simp [State.stored])

/-! ### Commit (04 R140) -/

/-- Commit of a complete image begins its verification. -/
theorem State.installCommit_complete {s : State} {k : Nat} (who : StoreFor) (hslot : s.nvm.installing = some k)
    (hfirst : s.nvm.committing = false) (hheader : 128 ≤ s.nvm.received)
    (hall : s.nvm.received = s.memNum (slotBase k + 16) 4) :
    s.installCommit who = (0, s.onNvm (fun n => { n with committing := true, commitFor := who })) := by
  have hready : ¬(s.nvm.received < 128 ∨ s.nvm.received ≠ s.memNum (slotBase k + 16) 4) := by omega
  simp only [State.installCommit, hslot, hfirst, hready, Bool.false_eq_true, false_or, ↓reduceIte]

/-- An install that fails is over; its slot is empty and its status kept. -/
theorem State.installFail_of_installing {s : State} {k : Nat} (code : Nat) (h : s.nvm.installing = some k) :
    s.installFail code = ((s.setSlot k .empty).onNvm (fun n =>
      { n with installing := none, committing := false, installStatus := code })).book 0xE022 3 1 (leBytes 1 k ++ leBytes 4 code) := by
  simp only [State.installFail, h]

theorem State.commitFail_installing {s : State} {k : Nat} (code : Nat) (h : s.nvm.installing = some k) :
    (s.commitFail code).nvm.installing = none := by simp [State.commitFail, State.installFail_of_installing code h]

theorem State.commitFail_installStatus {s : State} {k : Nat} (code : Nat) (h : s.nvm.installing = some k) :
    (s.commitFail code).nvm.installStatus = code := by simp [State.commitFail, State.installFail_of_installing code h]

theorem State.commitFail_activeSlot (code : Nat) (s : State) : (s.commitFail code).nvm.activeSlot = s.nvm.activeSlot := by
  simp only [State.commitFail, State.answerTo_nvm, State.installFail]
  split <;> simp

theorem State.commitFail_slotSt {s : State} {k : Nat} (code : Nat) (h : s.nvm.installing = some k) :
    (s.commitFail code).slotSt k = .empty := by
  simp [State.commitFail, State.installFail_of_installing code h]

/-- The slot of an image that passed is valid and its install over. -/
def State.commitPass (k : Nat) (s : State) : State :=
  (((((s.writeTrailer k).setSlot k .valid).onNvm (fun n => { n with installing := none, committing := false })).book 0xE021 3 0
    (leBytes 1 k ++ leBytes 4 (numAt (s.slotImage k) 8 4) ++ leBytes 4 (numAt (s.slotImage k) 12 4))).answerTo s.nvm.commitFor
      0x2300 8 0)

/-- The verification ends with the image refused, its COMMIT not read back, or the slot valid. -/
theorem State.commitEnd_of_committing {s : State} {k : Nat} (ok : Bool) (hslot : s.nvm.installing = some k)
    (hcommit : s.nvm.committing = true) : s.commitEnd ok =
      if s.slotCode k ≠ 0 then s.commitFail (s.slotCode k)
      else if ok = false then ((s.writeTrailer k).badWord (trailer k + 0xFF8)).commitFail 0x08000020
      else s.commitPass k := by
  simp only [State.commitEnd, hslot, hcommit, Bool.true_eq_false, ↓reduceIte, State.commitPass]

theorem State.commitPass_installing (k : Nat) (s : State) : (s.commitPass k).nvm.installing = none := by
  simp [State.commitPass]

theorem State.commitPass_committing (k : Nat) (s : State) : (s.commitPass k).nvm.committing = false := by
  simp [State.commitPass]

theorem State.commitPass_activeSlot (k : Nat) (s : State) : (s.commitPass k).nvm.activeSlot = s.nvm.activeSlot := by
  simp [State.commitPass]

theorem State.commitPass_slotSt (k : Nat) (s : State) : (s.commitPass k).slotSt k = .valid := by
  simp [State.commitPass]

/-- However the verification ends, the install is over and the active slot the same. -/
theorem State.commitEnd_over {s : State} {k : Nat} (ok : Bool) (hslot : s.nvm.installing = some k)
    (hcommit : s.nvm.committing = true) :
    (s.commitEnd ok).nvm.installing = none ∧ (s.commitEnd ok).nvm.activeSlot = s.nvm.activeSlot := by
  have hput : ((s.writeTrailer k).badWord (trailer k + 0xFF8)).nvm = s.nvm := by simp
  rw [State.commitEnd_of_committing ok hslot hcommit]
  split
  · exact ⟨State.commitFail_installing _ hslot, State.commitFail_activeSlot _ s⟩
  · split
    · exact ⟨State.commitFail_installing _ (k := k) (by rw [hput, hslot]), by rw [State.commitFail_activeSlot, hput]⟩
    · exact ⟨s.commitPass_installing k, s.commitPass_activeSlot k⟩

/-! ### Abort (04 R138) -/

/-- Abort of an install empties its slot, cancels a pending switch and answers a commit it breaks into as failed. -/
theorem State.installAbort_of_installing {s : State} {k : Nat} (hslot : s.nvm.installing = some k) : s.installAbort =
    (0, (((((if s.nvm.committing then s.answerTo s.nvm.commitFor 0x2300 8 0x08000020 else s).setSlot k .empty).onNvm (fun n =>
      { n with installing := none, committing := false, pendingSwitch := none, switchHeld := false })).onChoir (fun c =>
        { c with switchEra := none })).book 0xE022 3 1 (leBytes 1 k ++ leBytes 4 0))) := by
  simp only [State.installAbort, hslot]

theorem State.installAbort_nvm {s : State} {k : Nat} (hslot : s.nvm.installing = some k) :
    s.installAbort.2.nvm.installing = none ∧ s.installAbort.2.nvm.pendingSwitch = none := by
  simp [State.installAbort_of_installing hslot]

theorem State.installAbort_slotSt {s : State} {k : Nat} (hslot : s.nvm.installing = some k) :
    s.installAbort.2.slotSt k = .empty := by
  simp [State.installAbort_of_installing hslot]

/-! ### Activate (04 R138) -/

/-- An accepted activate of a device that is no precentor makes the switch pending at once. -/
theorem State.installActivate_alone {s : State} (who : StoreFor) (hcode : s.activateCode = 0) (hrole : s.choir.role ≠ .precentor) :
    s.installActivate who = (some 0, s.switchPend none) := by
  simp only [State.installActivate, hcode, hrole, ne_eq, not_true_eq_false, false_and, ↓reduceIte]

/-! ### The switch (04 R141) -/

/-- Of the controller's part, a switch whose ACTIVATION reads back ends the pending switch and wants the load of its slot. -/
theorem State.switchTo_ok_nvm (k : Nat) (s : State) : (s.switchTo k true).nvm.activeSlot = some k ∧
    (s.switchTo k true).nvm.pendingSwitch = none ∧ (s.switchTo k true).nvm.loadPending = true := by
  cases hactive : s.nvm.activeSlot <;> simp [State.switchTo, hactive]

theorem State.switchTo_ok_ingesting (k : Nat) (s : State) : (s.switchTo k true).beat.ingesting = false := by
  simp [State.switchTo]

/-- A switch whose ACTIVATION reads back sends nothing. -/
theorem State.switchTo_ok_get (k : Nat) (s : State) (part : Part)
    (hpart : part ∉ ([.beat, .nvm, .memu, .choir, .power, .mem] : List Part)) : (s.switchTo k true).get part = s.get part := by
  simp only [List.mem_cons, List.not_mem_nil, or_false, not_or] at hpart
  cases hactive : s.nvm.activeSlot <;> simp [State.switchTo, hactive, hpart]

/-- A switch whose ACTIVATION does not read back ends the pending switch and leaves the active slot. -/
theorem State.switchTo_failed_nvm (k : Nat) (s : State) : (s.switchTo k false).nvm.activeSlot = s.nvm.activeSlot ∧
    (s.switchTo k false).nvm.pendingSwitch = none ∧ (s.switchTo k false).nvm.installStatus = 0x08000020 := by
  simp only [State.switchTo, Bool.false_eq_true, ↓reduceIte]
  split
  · simp
  · split <;> simp

/-- A switch whose ACTIVATION does not read back writes no memory. -/
theorem State.switchTo_failed_get (k : Nat) (s : State) (part : Part)
    (hpart : part ∉ ([.comm, .oap, .nvm, .choir, .out] : List Part)) : (s.switchTo k false).get part = s.get part := by
  simp only [List.mem_cons, List.not_mem_nil, or_false, not_or] at hpart
  simp only [State.switchTo, Bool.false_eq_true, ↓reduceIte]
  split
  · simp [hpart]
  · split <;> simp [hpart]

/-! ### The load (04 R141) -/

/-- The claims and needs of the image in a slot are taken, and its load is no longer wanted. -/
def State.claimsTaken (k : Nat) (s : State) : State :=
  (s.moveRegions ((List.range 5).map (imgClaim (s.slotImage k)))).onNvm (fun n =>
    { n with claims := (List.range 5).map (imgClaim (s.slotImage k)), unitsNeeded := numAt (s.slotImage k) 24 4,
             loadPending := false })

theorem State.claimsTaken_loadPending (k : Nat) (s : State) : (s.claimsTaken k).nvm.loadPending = false := by
  rw [State.claimsTaken, State.onNvm_nvm]

theorem State.claimsTaken_activeSlot (k : Nat) (s : State) : (s.claimsTaken k).nvm.activeSlot = s.nvm.activeSlot := by
  rw [State.claimsTaken, State.onNvm_nvm, State.activeSlot_of_unstaged (s.moveRegions_unstaged _)]

/-- A load takes the claims of the active image, then loads it; ingest is wanted again. -/
theorem State.imageLoad_of_active {s : State} {k : Nat} (hactive : s.nvm.activeSlot = some k) :
    s.imageLoad = ((s.claimsTaken k).loadImage (s.slotImage k)).wantIngest := by
  simp only [State.imageLoad, hactive, State.claimsTaken]

/-- Of the controller's part, a load ends the wait for it and keeps the active slot. -/
theorem State.imageLoad_nvm {s : State} {k : Nat} (hactive : s.nvm.activeSlot = some k) :
    s.imageLoad.nvm.loadPending = false ∧ s.imageLoad.nvm.activeSlot = some k := by
  have hload : (s.imageLoad.get .nvm).unstaged = ((s.claimsTaken k).get .nvm).unstaged := by
    simp [State.imageLoad_of_active hactive]
  rw [State.loadPending_of_unstaged hload, State.activeSlot_of_unstaged hload]
  exact ⟨s.claimsTaken_loadPending k, (s.claimsTaken_activeSlot k).trans hactive⟩

/-- A load keeps the beat's number. -/
theorem State.imageLoad_number {s : State} {k : Nat} (hactive : s.nvm.activeSlot = some k) :
    s.imageLoad.beat.number = s.beat.number := by
  have hclock : (s.imageLoad.get .beat).clock = (s.get .beat).clock := by
    simp [State.imageLoad_of_active hactive, State.claimsTaken]
  exact congrArg Prod.fst hclock

/-! ### What each command does where it is due -/

theorem exec_installBegin_accepted {s t : State} (hrun : s.boot.st = .running) (hnmt : s.comm.nmt ≠ .stopped)
    (hcheck : s.writeCheck 0x2300 8 1 = 0) (hbegun : s.installBegin = (0, t)) : exec .installBegin s = .next (t.answer 0) := by
  have harm : exec .installBegin s = execInstallBegin s := rfl
  rw [harm, execInstallBegin, State.guarded_of_accepted _ hrun hnmt hcheck, hbegun]

theorem exec_installData {s : State} (data : List Byte) (hrun : s.boot.st = .running) (hnmt : s.comm.nmt ≠ .stopped) :
    exec (.installData data) s = .next ((s.installData data).2.answer (s.installData data).1) :=
  congrArg Host.Outcome.next (State.written_of_served _ hrun hnmt)

/-- A commit that begins its verification is answered at its end. -/
theorem exec_installCommit_begins {s t : State} (hrun : s.boot.st = .running) (hnmt : s.comm.nmt ≠ .stopped)
    (hbegins : s.installCommit .local = (0, t)) : exec .installCommit s = .next t := by
  have harm : exec .installCommit s = execInstallCommit s := rfl
  rw [harm, execInstallCommit, State.written_of_served _ hrun hnmt]
  simp only [hbegins, ↓reduceIte]

theorem exec_installCommitComplete (ok : Bool) (s : State) :
    exec (.installCommitComplete ok) s = .next (s.commitEnd ok) := rfl

theorem exec_installAbort_accepted {s : State} (hrun : s.boot.st = .running) (hnmt : s.comm.nmt ≠ .stopped)
    (hcheck : s.writeCheck 0x2300 8 3 = 0) (hcode : s.installAbort.1 = 0) :
    exec .installAbort s = .next (s.installAbort.2.answer 0) := by
  have harm : exec .installAbort s = execInstallAbort s := rfl
  rw [harm, execInstallAbort, State.guarded_of_accepted _ hrun hnmt hcheck, hcode]

/-- An activate that need not wait for the members of a Choir is answered at once. -/
theorem exec_installActivate_answers {s t : State} {code : Nat} (hrun : s.boot.st = .running) (hnmt : s.comm.nmt ≠ .stopped)
    (hanswer : s.installActivate .local = (some code, t)) : exec .installActivate s = .next (t.answer code) := by
  have harm : exec .installActivate s = execInstallActivate s := rfl
  rw [harm, execInstallActivate, State.written_of_served _ hrun hnmt]
  simp only [hanswer]

theorem exec_imageSwitch_due {s : State} {k : Nat} (ok : Bool) (hdue : s.switchDue = some k) :
    exec (.imageSwitch ok) s = .next (s.switchTo k ok) := by
  have harm : exec (.imageSwitch ok) s = execImageSwitch ok s := rfl
  simp only [harm, execImageSwitch, hdue]

/-- A wanted load happens once the press stages have ended. -/
theorem exec_imageLoad_due {s : State} (hwanted : s.nvm.loadPending = true) (hidle : s.pressIdle = true) :
    exec .imageLoad s = .next s.imageLoad :=
  congrArg Host.Outcome.next (if_pos ⟨hwanted, hidle⟩)

/-! ### The statement -/

/-- Settles O26: each command, where it is due, leaves the state that its part of the chapter above names, whose lemmas say what
the slots, the memory and the rest of the device then hold. -/
theorem installsAndSwitches : Obligations.InstallsAndSwitches := by
  refine ⟨fun s hrun hnmt hcheck hjob hidle hswitch => ?_, fun data s hrun hnmt => ?_,
    fun data k s hrun hnmt hjob hslot hturn hmin hmax hheader hfits => ?_,
    fun k s hrun hnmt hslot hfirst hheader hall => ?_, fun k ok s hslot hcommit => ?_,
    fun k s hrun hnmt hcheck hslot => ?_, fun s hrun hnmt hcode hrole => ?_, fun k s hdue => ?_, fun k s hdue => ?_,
    fun k s hactive hwanted hidle => ?_⟩
  · have hbegun := State.installBegin_accepted hjob hidle hswitch
    have hframe := s.installBegin_get
    rw [hbegun] at hframe
    refine ⟨_, s.otherSlot, exec_installBegin_accepted hrun hnmt hcheck hbegun, rfl, by rw [hbegun], ?_, ?_, ?_, ?_,
      fun a ha => ?_, fun p hp => ?_⟩
    · rw [State.answer_nvm, State.begun_installing]
    · rw [State.answer_nvm, State.begun_received]
    · rw [State.answer_nvm, State.begun_activeSlot]
    · rw [State.answer_ent, State.begun_offset]
    · rw [State.answer_byteAt, State.begun_byteAt s ha]
    · simp_all
  · exact ⟨_, exec_installData data hrun hnmt, rfl, fun p hp => by simp_all⟩
  · have hstored := State.installData_inTurn hjob hslot hturn hmin hmax hheader hfits
    have hdata := exec_installData data hrun hnmt
    rw [hstored] at hdata
    refine ⟨_, hdata, s.stored_nvm k data, ?_, ?_, fun a ha => ?_, fun p hp => ?_⟩
    · rw [State.answer_bytesAt, State.bytesAt_of_mem (s.stored_mem k data), State.nvmPut_bytesAt]
    · rw [State.answer_out, State.stored_out]
    · rw [State.answer_byteAt, State.byteAt_of_mem (s.stored_mem k data), s.nvmPut_byteAt_outside ha]
    · simp_all [State.stored]
  · exact exec_installCommit_begins hrun hnmt (State.installCommit_complete .local hslot hfirst hheader hall)
  · have hend := State.commitEnd_of_committing ok hslot hcommit
    obtain ⟨hover, hkept⟩ := State.commitEnd_over ok hslot hcommit
    refine ⟨_, exec_installCommitComplete ok s, hover, hkept, fun hpass hok => ?_, fun hpass hbad => ?_, fun hfail => ?_,
      fun p => State.commitEnd_get ok s p⟩
    · rw [if_neg (by simp [hpass]), if_neg (by simp [hok])] at hend
      rw [State.slotSt_fin, hend]
      exact ⟨rfl, s.commitPass_slotSt k, s.commitPass_committing k⟩
    · rw [if_neg (by simp [hpass]), if_pos hbad] at hend
      have hput : ((s.writeTrailer k).badWord (trailer k + 0xFF8)).nvm.installing = some k.val := by
        rw [State.badWord_nvm, State.writeTrailer_nvm, hslot]
      rw [State.slotSt_fin, hend]
      exact ⟨rfl, State.commitFail_slotSt _ hput, State.commitFail_installStatus _ hput⟩
    · rw [if_pos hfail] at hend
      rw [State.slotSt_fin, hend]
      exact ⟨rfl, State.commitFail_slotSt _ hslot, State.commitFail_installStatus _ hslot⟩
  · obtain ⟨hover, hswitch⟩ := State.installAbort_nvm hslot
    have hcode : s.installAbort.1 = 0 := by rw [State.installAbort_of_installing hslot]
    refine ⟨_, exec_installAbort_accepted hrun hnmt hcheck hcode, rfl, ?_, ?_, ?_, fun p hp => by simp_all⟩
    · rw [State.answer_nvm, hover]
    · rw [State.answer_nvm, hswitch]
    · rw [State.slotSt_fin, State.answer_slotSt, State.installAbort_slotSt hslot]
  · refine ⟨_, exec_installActivate_answers hrun hnmt (State.installActivate_alone .local hcode hrole), rfl, rfl, rfl, rfl,
      fun p hp => by simp_all⟩
  · obtain ⟨hactive, hswitch, hwanted⟩ := s.switchTo_ok_nvm k
    exact ⟨_, exec_imageSwitch_due true hdue, rfl, hactive, hswitch, hwanted, s.switchTo_ok_ingesting k,
      fun p => s.switchTo_ok_get k p⟩
  · obtain ⟨hactive, hswitch, hstatus⟩ := s.switchTo_failed_nvm k
    exact ⟨_, exec_imageSwitch_due false hdue, rfl, hactive, hswitch, hstatus, fun p => s.switchTo_failed_get k p⟩
  · obtain ⟨hdone, hkept⟩ := State.imageLoad_nvm hactive
    exact ⟨_, exec_imageLoad_due hwanted hidle, rfl, hdone, hkept, State.now_of_get (s.imageLoad_get .now (by decide)),
      State.imageLoad_number hactive, State.island_of_get (s.imageLoad_get .island (by decide))⟩

end Sys2Proof.Machine
end

section
/-! PROOFS. Chapter 04, the Cellar Book: what a write of the oldest staged record leaves of the count of drops (R149, R150). -/

namespace Sys2Proof.Machine

/-- With the drops counted, a write stages their record behind the records that still wait. The record finds room where at
most 64 were staged, as R150 has it, and is a drop itself where more were. -/
theorem State.writeRecord_dropped {s : State} {r : Rec} {rest : List Rec} (hstaged : s.nvm.staged = r :: rest)
    (hdropped : s.nvm.dropped ≠ 0) : s.writeRecord.nvm.dropped = if rest.length < 64 then 0 else 1 := by
  simp only [State.writeRecord, hstaged, State.onNvm_nvm, State.nvmPut_nvm, hdropped, ↓reduceIte, State.book]
  split <;> rfl

/-- A state of 65 staged records and a drop: one record more than R150 stages. -/
def overfullBook : State :=
  State.reset.onNvm (fun n => { n with staged := List.replicate 65 ⟨0xE001, 4, 0, 0, 0, []⟩, dropped := 1 })

/-- Refutes O27: its first clause does not bound the staged records. Where 65 are staged and one was dropped, 64 still wait
after the write, so the record of the drops is dropped in its turn and the count is 1, not 0. -/
theorem not_cellarBookRecords : ¬ Obligations.CellarBookRecords := by
  intro h
  obtain ⟨hwrite, -⟩ := h
  have hstaged : overfullBook.nvm.staged = ⟨0xE001, 4, 0, 0, 0, []⟩ :: List.replicate 64 ⟨0xE001, 4, 0, 0, 0, []⟩ := rfl
  obtain ⟨t, -, rfl, -, -, -, -, -, hzero, -⟩ := hwrite _ _ overfullBook hstaged
  have hone : overfullBook.writeRecord.nvm.dropped = 1 := State.writeRecord_dropped hstaged Nat.one_ne_zero
  omega

end Sys2Proof.Machine
end

section
/-! PROOFS. Sensor ports: what the operations on one port leave of the other ports, and what the shared ones (a change of
state, a fault) leave of their own (05 R164 to R185). -/

namespace Sys2Proof.Machine

/-! ### Reads of one port -/

/-- Equal port tables read alike. -/
theorem State.port_of_get {s t : State} (h : t.get .ports = s.get .ports) (q : Nat) : t.port q = s.port q := by
  rw [State.port, State.port, State.ports_of_get h]

@[simp] theorem State.onPort_port_self (p : Nat) (f : Port → Port) (s : State) : (s.onPort p f).port p = f (s.port p) := by
  simp [State.port]

@[simp] theorem State.upTo_port (n q : Nat) (s : State) : (s.upTo n).port q = s.port q := rfl

@[simp] theorem State.book_port (code src sev : Nat) (l : List Byte) (q : Nat) (s : State) :
    (s.book code src sev l).port q = s.port q := rfl

@[simp] theorem State.setEnt_port (idx sub v q : Nat) (s : State) : (s.setEnt idx sub v).port q = s.port q := rfl

@[simp] theorem State.count_port (idx sub n q : Nat) (s : State) : (s.count idx sub n).port q = s.port q := rfl

@[simp] theorem State.pCount_port (p sub q : Nat) (s : State) : (s.pCount p sub).port q = s.port q := rfl

@[simp] theorem State.onPort_ent (p : Nat) (f : Port → Port) (idx sub : Nat) (s : State) :
    (s.onPort p f).ent idx sub = s.ent idx sub := rfl

@[simp] theorem State.book_condOn (code src sev : Nat) (l : List Byte) (c k i : Nat) (s : State) :
    (s.book code src sev l).condOn c k i = s.condOn c k i := rfl

/-- An entry reads alike where the stored values and the node-ID, from which some defaults are computed, are the same. -/
theorem State.ent_of_get {s t : State} (hod : t.get .od = s.get .od) (hcomm : t.get .comm = s.get .comm) (idx sub : Nat) :
    t.ent idx sub = s.ent idx sub := by
  simp only [State.ent, State.dfltOf, State.od_of_get hod, State.comm_of_get hcomm]

/-! ### The other ports

Every operation on port `p` changes the table of ports at `p` alone, so that nothing but a read of the other ports can be told
of it. -/

/-- The ports of a part but one. -/
def PartVal.portsBut (p : Nat) : PartVal → Nat → Port
  | .ports t, q => if q = p then {} else tabGet {} t q
  | _, _ => {}

/-- Another port reads alike where the ports but one do. -/
theorem State.port_of_portsBut {s t : State} {p q : Nat} (h : (t.get .ports).portsBut p = (s.get .ports).portsBut p)
    (hq : q ≠ p) : t.port q = s.port q := by
  have hread := congrFun h q
  simp only [State.get, PartVal.portsBut, if_neg hq] at hread
  exact hread

@[simp] theorem PartVal.portsBut_ite (p : Nat) (c : Prop) [Decidable c] (v w : PartVal) :
    (if c then v else w).portsBut p = if c then v.portsBut p else w.portsBut p := by split <;> rfl

/-- A fold whose function keeps the other ports keeps them. -/
@[simp] theorem State.foldl_portsBut {α : Type} (p : Nat) (f : State → α → State) (l : List α) (s : State)
    (h : ∀ t x, ((f t x).get .ports).portsBut p = (t.get .ports).portsBut p) :
    ((l.foldl f s).get .ports).portsBut p = (s.get .ports).portsBut p := by
  induction l generalizing s with
  | nil => rfl
  | cons x l ih => rw [List.foldl_cons, ih, h]

@[simp] theorem State.onPort_portsBut (p : Nat) (f : Port → Port) (s : State) :
    ((s.onPort p f).get .ports).portsBut p = (s.get .ports).portsBut p := by
  funext q
  by_cases hq : q = p
  · simp only [State.get, PartVal.portsBut, if_pos hq]
  · simp only [State.get, PartVal.portsBut, if_neg hq, State.onPort_ports, tabGet_tabMod]

/-! #### Changes of state and head time (05 R164, R175) -/

@[simp] theorem State.portTo_portsBut (p : Nat) (new : PortSt) (s : State) :
    ((s.portTo p new).get .ports).portsBut p = (s.get .ports).portsBut p := by simp [State.portTo]

@[simp] theorem State.portStall_portsBut (p cause : Nat) (s : State) :
    ((s.portStall p cause).get .ports).portsBut p = (s.get .ports).portsBut p := by simp [State.portStall]

@[simp] theorem State.timeAcquired_portsBut (p t arrival : Nat) (s : State) :
    ((s.timeAcquired p t arrival).get .ports).portsBut p = (s.get .ports).portsBut p := by simp [State.timeAcquired]

@[simp] theorem State.acquire_portsBut (p t arrival : Nat) (s : State) :
    ((s.acquire p t arrival).get .ports).portsBut p = (s.get .ports).portsBut p := by simp [State.acquire]

@[simp] theorem State.timeHigh_portsBut (p t arrival : Nat) (s : State) :
    ((s.timeHigh p t arrival).get .ports).portsBut p = (s.get .ports).portsBut p := by simp [State.timeHigh]

/-! #### The event path (05 R178 to R184) -/

@[simp] theorem State.injectEvent_portsBut (p n x y : Nat) (pol graded : Bool) (value : BitVec 8) (s : State) :
    ((s.injectEvent p n x y pol graded value).get .ports).portsBut p = (s.get .ports).portsBut p := by simp [State.injectEvent]

@[simp] theorem State.budgetStage_portsBut (p n x y : Nat) (pol graded : Bool) (value : BitVec 8) (s : State) :
    ((s.budgetStage p n x y pol graded value).get .ports).portsBut p = (s.get .ports).portsBut p := by simp [State.budgetStage]

@[simp] theorem State.refractoryStage_portsBut (p m n x y : Nat) (pol graded : Bool) (value : BitVec 8) (s : State) :
    ((s.refractoryStage p m n x y pol graded value).get .ports).portsBut p = (s.get .ports).portsBut p := by
  simp [State.refractoryStage]

@[simp] theorem State.hotStage_portsBut (p : Nat) (e : EarlyEvent) (s : State) :
    ((s.hotStage p e).get .ports).portsBut p = (s.get .ports).portsBut p := by simp [State.hotStage]

@[simp] theorem State.eventPath_portsBut (p x y : Nat) (pol graded : Bool) (value : BitVec 8) (s : State) :
    ((s.eventPath p x y pol graded value).get .ports).portsBut p = (s.get .ports).portsBut p := by simp [State.eventPath]

@[simp] theorem State.beamPath_portsBut (p x : Nat) (pol graded : Bool) (s : State) :
    ((s.beamPath p x pol graded).get .ports).portsBut p = (s.get .ports).portsBut p := by simp [State.beamPath]

@[simp] theorem State.decoded_portsBut (p x : Nat) (pol graded : Bool) (value : BitVec 8) (s : State) :
    ((s.decoded p x pol graded value).get .ports).portsBut p = (s.get .ports).portsBut p := by simp [State.decoded]

/-! #### Words and packets (05 R158, R171 to R174) -/

@[simp] theorem State.vectorEvents_portsBut (p v mask : Nat) (s : State) :
    ((s.vectorEvents p v mask).get .ports).portsBut p = (s.get .ports).portsBut p := by simp [State.vectorEvents]

@[simp] theorem State.hefWord_portsBut (p arrival : Nat) (word : BitVec 32) (s : State) :
    ((s.hefWord p arrival word).get .ports).portsBut p = (s.get .ports).portsBut p := by
  unfold State.hefWord
  split
  · simp
  · dsimp only
    split <;> simp

@[simp] theorem State.portDrain_portsBut (p : Nat) (s : State) :
    ((s.portDrain p).get .ports).portsBut p = (s.get .ports).portsBut p := by simp [State.portDrain]

@[simp] theorem State.bufferWords_portsBut (p arrival : Nat) (words : List (BitVec 32)) (s : State) :
    ((s.bufferWords p arrival words).get .ports).portsBut p = (s.get .ports).portsBut p := by simp [State.bufferWords]

@[simp] theorem State.portFault_portsBut (p cause : Nat) (s : State) :
    ((s.portFault p cause).get .ports).portsBut p = (s.get .ports).portsBut p := by simp [State.portFault]

@[simp] theorem State.csiDiscard_portsBut (p : Nat) (s : State) :
    ((s.csiDiscard p).get .ports).portsBut p = (s.get .ports).portsBut p := by simp [State.csiDiscard]

/-! #### Identification (05 R164 to R168) -/

@[simp] theorem State.portReady_portsBut (p : Nat) (r : List Byte) (region : Option (Nat × Nat)) (s : State) :
    ((s.portReady p r region).get .ports).portsBut p = (s.get .ports).portsBut p := by
  cases region <;> simp [State.portReady]

@[simp] theorem State.portChecks_portsBut (p : Nat) (r : List Byte) (s : State) :
    ((s.portChecks p r).get .ports).portsBut p = (s.get .ports).portsBut p := by simp [State.portChecks]

/-! ### A change of state (05 R164) -/

/-- Of the ports, a change of state changes its port's state and the time of entry alone. -/
theorem State.portTo_port_self (p : Nat) (new : PortSt) (s : State) :
    (s.portTo p new).port p = { s.port p with st := new, since := s.now } := by
  have hports : (s.portTo p new).get .ports = (s.onPort p (fun x => { x with st := new, since := s.now })).get .ports := by
    simp [State.portTo]
  rw [State.port_of_get hports, State.onPort_port_self]

@[simp] theorem State.portTo_now (p : Nat) (new : PortSt) (s : State) : (s.portTo p new).now = s.now :=
  State.now_of_get (by simp)

/-! ### A fault (05 R164, R187) -/

@[simp] theorem Port.forget_st (x : Port) : x.forget.st = x.st := rfl

@[simp] theorem Port.fuseOff_st (now : Nat) (x : Port) : (x.fuseOff now).st = x.st := by
  unfold Port.fuseOff
  split <;> rfl

@[simp] theorem Port.fuseOff_efuse (now : Nat) (x : Port) : (x.fuseOff now).efuse = false := by
  cases hfuse : x.efuse <;> simp [Port.fuseOff, hfuse]

/-- A fault latches its cause and turns the e-fuse off. -/
theorem State.portFault_port_self (p cause : Nat) (s : State) : ((s.portFault p cause).port p).st = .fault ∧
    ((s.portFault p cause).port p).efuse = false ∧ ((s.portFault p cause).port p).cause = cause := by
  have hports : (s.portFault p cause).get .ports = (((s.portDrain p).portTo p .fault).onPort p (fun x =>
      { x.forget.fuseOff ((s.portDrain p).portTo p .fault).now with cause := cause })).get .ports := by
    simp [State.portFault]
  rw [State.port_of_get hports, State.onPort_port_self, State.portTo_port_self]
  simp

/-- A fault raises the port's condition while the device runs. -/
theorem State.portFault_condOn (p cause : Nat) {s : State} (hrun : s.boot.st = .running) :
    (s.portFault p cause).condOn 0xFF30 (8 + p) 0 = true := by
  refine State.raiseCond_on _ _ _ _ _ ?_
  have hboot : ((s.portDrain p).portTo p .fault).boot = s.boot := State.boot_of_get (by simp)
  rw [State.onPort_boot, hboot, hrun]

@[simp] theorem State.portFault_now (p cause : Nat) (s : State) : (s.portFault p cause).now = s.now :=
  State.now_of_get (by simp)

end Sys2Proof.Machine
end

section
/-! PROOFS. Sensor ports, identification: the e-fuse, the attempts at the record, its checks and the faults (05 R164 to R168,
R187; 15 R491). -/

namespace Sys2Proof.Machine

/-! ### Power (05 R164, R165; log 67) -/

/-- The e-fuse of a POWERING port turns on 100 ms after it turned off. -/
theorem exec_efuseOn_again {s : State} {p : Fin 6} {e : Nat} (hst : (s.port p).st = .powering)
    (hoff : (s.port p).efuse = false) (hat : (s.port p).efuseAt = some e) : exec (.efuseOn p) s =
      .next ((s.upTo (e + 100000)).onPort p (fun x => { x with efuse := true, efuseAt := some (max s.now (e + 100000)) })) := by
  have harm : exec (.efuseOn p) s = execEfuseOn p s := rfl
  simp only [harm, execEfuseOn, hst, hoff, hat, and_self, ↓reduceIte, State.upTo_now]

/-- An e-fuse that has been off since power-on turns on at once. -/
theorem exec_efuseOn_first {s : State} {p : Fin 6} (hst : (s.port p).st = .powering) (hoff : (s.port p).efuse = false)
    (hat : (s.port p).efuseAt = none) : exec (.efuseOn p) s =
      .next ((s.upTo s.now).onPort p (fun x => { x with efuse := true, efuseAt := some (s.upTo s.now).now })) := by
  have harm : exec (.efuseOn p) s = execEfuseOn p s := rfl
  simp only [harm, execEfuseOn, hst, hoff, hat, and_self, ↓reduceIte]

/-! ### Attempts at the record (05 R164, R166; log 67) -/

/-- Identification starts 100 ms after the e-fuse turned on. -/
theorem exec_identifyStart_powered {s : State} {p : Fin 6} {e : Nat} (hst : (s.port p).st = .powering)
    (hon : (s.port p).efuse = true) (hat : (s.port p).efuseAt = some e) : exec (.identifyStart p) s =
      .next (((s.upTo (e + 100000)).onPort p (fun x => { x with
        attempts := 1, acked := false, reading := true, readAt := max s.now (e + 100000) })).portTo p .identifying) := by
  have harm : exec (.identifyStart p) s = execIdentifyStart p s := rfl
  simp only [harm, execIdentifyStart, hst, hon, hat, Option.getD_some, and_self, ↓reduceIte, State.upTo_now]

/-- The next attempt begins 20 ms after the last one. -/
theorem exec_identityReadRetry_due {s : State} {p : Fin 6} (hst : (s.port p).st = .identifying)
    (hidle : (s.port p).reading = false) : exec (.identityReadRetry p) s =
      .next ((s.upTo ((s.port p).readAt + 20000)).onPort p (fun x => { x with
        attempts := x.attempts + 1, reading := true, readAt := max s.now ((s.port p).readAt + 20000) })) := by
  have harm : exec (.identityReadRetry p) s = execIdentityReadRetry p s := rfl
  simp only [harm, execIdentityReadRetry, hst, hidle, and_self, ↓reduceIte, State.upTo_now]

/-- The end of an attempt: no read runs, and its acknowledge is kept. -/
def State.readDone (p : Nat) (ack : Bool) (s : State) : State :=
  s.onPort p (fun x => { x with acked := x.acked || ack, reading := false })

/-- An acknowledged record whose CRC is right is checked. -/
theorem exec_identityReadComplete_right {s : State} {p : Fin 6} {rec : List Byte} (hst : (s.port p).st = .identifying)
    (hread : (s.port p).reading = true) (hcrc : recCrcOk (slice rec 0 256) = true) :
    exec (.identityReadComplete p true rec) s = .next ((s.readDone p true).portChecks p (slice rec 0 256)) := by
  have harm : exec (.identityReadComplete p true rec) s = execIdentityReadComplete p true rec s := rfl
  simp only [harm, execIdentityReadComplete, hst, hread, hcrc, and_self, ↓reduceIte, State.readDone]

/-- An acknowledged record whose CRC is wrong waits for the next attempt while one is left. -/
theorem exec_identityReadComplete_wrong {s : State} {p : Fin 6} {rec : List Byte} (hst : (s.port p).st = .identifying)
    (hread : (s.port p).reading = true) (hcrc : recCrcOk (slice rec 0 256) = false) (hleft : (s.port p).attempts < 3) :
    exec (.identityReadComplete p true rec) s = .next (s.readDone p true) := by
  have harm : exec (.identityReadComplete p true rec) s = execIdentityReadComplete p true rec s := rfl
  simp only [harm, execIdentityReadComplete, hst, hread, hcrc, Bool.false_eq_true, and_self, and_false, ↓reduceIte,
    State.onPort_port_self, Nat.not_le.mpr hleft, State.readDone]

/-- The third attempt without any acknowledge is a fault of cause 3. -/
theorem exec_identityReadComplete_silent {s : State} {p : Fin 6} (rec : List Byte) (hst : (s.port p).st = .identifying)
    (hread : (s.port p).reading = true) (hlast : 3 ≤ (s.port p).attempts) (hsilent : (s.port p).acked = false) :
    exec (.identityReadComplete p false rec) s = .next ((s.readDone p false).portFault p 3) := by
  have harm : exec (.identityReadComplete p false rec) s = execIdentityReadComplete p false rec s := rfl
  simp only [harm, execIdentityReadComplete, hst, hread, Bool.false_eq_true, and_self, false_and, ↓reduceIte,
    State.onPort_port_self, hlast, hsilent, Bool.or_self, State.readDone]

/-! ### The checks (05 R162, R164, R166, R167, R183) -/

/-- A wrong field is a fault of cause 4. -/
theorem State.portChecks_fields {s : State} {p : Nat} {r : List Byte} (hfields : recFieldsOk r s.power.vport = false) :
    s.portChecks p r = s.portFault p 4 := by
  simp only [State.portChecks, hfields, ↓reduceIte]

/-- A record that meets every check, of a head that needs no Cellar, leaves the port READY. -/
theorem State.portChecks_ready {s : State} {p : Nat} {r : List Byte} (hfields : recFieldsOk r s.power.vport = true)
    (hvolt : numAt r 22 2 ≤ s.power.vport) (hstream : streamOk r = true)
    (hpower : s.committedMw - s.portPower p + numAt r 20 2 ≤ s.ent 0x2200 0xD) (hneed : regionNeed r = 0)
    (hrate : s.rateInUse p + pixelRate r ≤ 248832000 * 1000) : s.portChecks p r = s.portReady p r none := by
  simp only [State.portChecks, hfields, hstream, hpower, hneed, Bool.true_eq_false, Nat.not_lt.mpr hvolt,
    Nat.not_lt.mpr hrate, decide_true, ne_eq, not_true_eq_false, false_and, ↓reduceIte]

/-- A READY port holds the head's record and counts its power. -/
theorem State.portReady_port_self (p : Nat) (r : List Byte) (s : State) : ((s.portReady p r none).port p).st = .ready ∧
    ((s.portReady p r none).port p).record = r ∧ ((s.portReady p r none).port p).powerMw = numAt r 20 2 := by
  simp only [State.portReady, State.book_port, State.portTo_port_self, State.onPort_port_self, and_self]

/-! #### What the end of an attempt leaves of the checks' terms -/

/-- A change of one port that keeps its state and power keeps the power of every port. -/
theorem State.onPort_portPower {p : Nat} {f : Port → Port} (hf : ∀ x, ((f x).st, (f x).powerMw) = (x.st, x.powerMw))
    (s : State) : (s.onPort p f).portPower = s.portPower := by
  funext q
  by_cases hq : q = p
  · obtain ⟨hst, hmw⟩ := Prod.mk.inj (hf (s.port p))
    simp only [State.portPower, hq, State.onPort_port_self, hst, hmw]
  · rw [State.portPower, State.portPower, State.port_of_portsBut (State.onPort_portsBut p f s) hq]

/-- The pixel rates of the other ports do not depend on the port. -/
theorem State.onPort_rateInUse (p : Nat) (f : Port → Port) (s : State) : (s.onPort p f).rateInUse p = s.rateInUse p := by
  unfold State.rateInUse
  refine congrArg sumN (List.map_congr_left fun q _ => ?_)
  by_cases hq : q = p
  · simp only [hq, true_or, ↓reduceIte]
  · have hport := State.port_of_portsBut (State.onPort_portsBut p f s) hq
    simp only [hq, false_or, State.headType, hport]

/-- The checks of a record after its attempt has ended. -/
theorem State.readDone_checks_ready {s : State} {p : Nat} {r : List Byte} (ack : Bool)
    (hfields : recFieldsOk r s.power.vport = true) (hvolt : numAt r 22 2 ≤ s.power.vport) (hstream : streamOk r = true)
    (hpower : s.committedMw - s.portPower p + numAt r 20 2 ≤ s.ent 0x2200 0xD) (hneed : regionNeed r = 0)
    (hrate : s.rateInUse p + pixelRate r ≤ 248832000 * 1000) :
    (s.readDone p ack).portChecks p r = (s.readDone p ack).portReady p r none := by
  have hmw : (s.readDone p ack).portPower = s.portPower :=
    State.onPort_portPower (f := fun x => { x with acked := x.acked || ack, reading := false }) (fun _ => rfl) s
  refine State.portChecks_ready hfields hvolt hstream ?_ hneed ?_
  · rw [State.committedMw, hmw]
    exact hpower
  · rw [State.readDone, State.onPort_rateInUse]
    exact hrate

@[simp] theorem State.readDone_portsBut (p : Nat) (ack : Bool) (s : State) :
    ((s.readDone p ack).get .ports).portsBut p = (s.get .ports).portsBut p := by simp [State.readDone]

@[simp] theorem State.readDone_get (p : Nat) (ack : Bool) (s : State) (part : Part) (hpart : part ∉ ([.ports] : List Part)) :
    (s.readDone p ack).get part = s.get part := State.onPort_get p _ s part hpart

/-! ### Timeouts and trips (05 R164; 15 R491) -/

/-- 1000 ms in READY are a fault of cause 11. -/
theorem exec_portReadyTimeout_ready {s : State} {p : Fin 6} (hst : (s.port p).st = .ready) :
    exec (.portReadyTimeout p) s = .next ((s.upTo ((s.port p).since + 1000000)).portFault p 11) :=
  congrArg Host.Outcome.next (if_pos hst)

/-- 1000 ms in STALLED are a fault of cause 9. -/
theorem exec_portStallTimeout_stalled {s : State} {p : Fin 6} (hst : (s.port p).st = .stalled) :
    exec (.portStallTimeout p) s = .next ((s.upTo ((s.port p).since + 1000000)).portFault p 9) :=
  congrArg Host.Outcome.next (if_pos hst)

/-- The trip of an e-fuse that is on is a fault of cause 1 and a record. -/
theorem exec_efuseTrip_on {s : State} {p reason : Fin 6} (hon : (s.port p).efuse = true) (hreason : reason.val ≠ 0) :
    exec (.efuseTrip p reason) s =
      .next ((s.portFault p 1).book 0xE7D2 2 1 (leBytes 1 p.val ++ leBytes 1 reason.val)) :=
  congrArg Host.Outcome.next (if_pos ⟨hon, hreason⟩)

/-! ### The statement -/

/-- Settles O29: each command, where it is due, is one of the port operations above, which change this port alone; the faults
are all `portFault`. -/
theorem portsAreIdentified : Obligations.PortsAreIdentified := by
  refine ⟨fun p e s hst hoff hat => ?_, fun p s hst hoff hat => ?_, fun p e s hst hon hat => ?_, fun p s hst hidle => ?_,
    fun p rec s hst hread hcrc => ?_, fun p rec s hst hread hcrc hleft => ?_,
    fun p rec s hst hread hcrc hfields hvolt hstream hpower hneed hrate => ?_,
    fun p rec s hst hread hcrc hfields => ?_, fun p rec s hst hread hlast hsilent => ?_,
    fun p s hst => ?_, fun p s hst => ?_, fun p reason s hon hreason => ?_⟩
  · refine ⟨_, exec_efuseOn_again hst hoff hat, rfl, rfl, ?_, ?_, fun q => State.port_of_portsBut (by simp),
      fun part hpart => by simp_all⟩
    · rw [State.onPort_port_self]
    · rw [State.onPort_port_self, State.upTo_port, hst]
  · refine ⟨_, exec_efuseOn_first hst hoff hat, rfl, Nat.max_self s.now, ?_, fun q => State.port_of_portsBut (by simp),
      fun part hpart => by simp_all⟩
    rw [State.onPort_port_self]
  · refine ⟨_, exec_identifyStart_powered hst hon hat, rfl, State.portTo_now _ _ _, ?_, ?_, ?_,
      fun q => State.port_of_portsBut (by simp), fun part hpart => by simp_all⟩
    all_goals rw [State.portTo_port_self, State.onPort_port_self]
  · refine ⟨_, exec_identityReadRetry_due hst hidle, rfl, ?_, ?_, ?_, fun q => State.port_of_portsBut (by simp),
      fun part hpart => by simp_all⟩
    all_goals rw [State.onPort_port_self, State.upTo_port]
    exact hst
  · exact ⟨_, exec_identityReadComplete_right hst hread hcrc, rfl, fun q => State.port_of_portsBut (by simp),
      fun part hpart => by simp_all⟩
  · exact ⟨_, exec_identityReadComplete_wrong hst hread hcrc hleft, rfl, fun q => State.port_of_portsBut (by simp),
      State.readDone_get p true s⟩
  · have hexec := exec_identityReadComplete_right hst hread hcrc
    rw [State.readDone_checks_ready true hfields hvolt hstream hpower hneed hrate] at hexec
    obtain ⟨hready, hrecord, hmw⟩ := State.portReady_port_self p (slice rec 0 256) (s.readDone p true)
    exact ⟨_, hexec, hready, hrecord, hmw, fun q => State.port_of_portsBut (by simp), fun part hpart => by simp_all⟩
  · have hexec := exec_identityReadComplete_right hst hread hcrc
    rw [State.portChecks_fields (s := s.readDone p true) hfields] at hexec
    obtain ⟨hfault, hoff, hcause⟩ := State.portFault_port_self p 4 (s.readDone p true)
    exact ⟨_, hexec, hfault, hoff, State.portFault_condOn p 4 (s := s.readDone p true), hcause,
      fun q => State.port_of_portsBut (by simp)⟩
  · obtain ⟨hfault, hoff, hcause⟩ := State.portFault_port_self p 3 (s.readDone p false)
    exact ⟨_, exec_identityReadComplete_silent rec hst hread hlast hsilent, hfault, hoff,
      State.portFault_condOn p 3 (s := s.readDone p false), hcause, fun q => State.port_of_portsBut (by simp)⟩
  · obtain ⟨hfault, hoff, hcause⟩ := State.portFault_port_self p 11 (s.upTo ((s.port p).since + 1000000))
    exact ⟨_, exec_portReadyTimeout_ready hst, rfl, State.portFault_now _ _ _, hfault, hoff,
      State.portFault_condOn p 11 (s := s.upTo _), hcause, fun q => State.port_of_portsBut (by simp),
      fun part hpart => by simp_all⟩
  · obtain ⟨hfault, hoff, hcause⟩ := State.portFault_port_self p 9 (s.upTo ((s.port p).since + 1000000))
    exact ⟨_, exec_portStallTimeout_stalled hst, rfl, State.portFault_now _ _ _, hfault, hoff,
      State.portFault_condOn p 9 (s := s.upTo _), hcause, fun q => State.port_of_portsBut (by simp),
      fun part hpart => by simp_all⟩
  · obtain ⟨hfault, hoff, hcause⟩ := State.portFault_port_self p 1 s
    refine ⟨_, exec_efuseTrip_on hon hreason, rfl, ?_⟩
    simp only [State.book_port, State.book_condOn]
    exact ⟨hfault, hoff, State.portFault_condOn p 1, hcause, fun q => State.port_of_portsBut (by simp),
      fun part hpart => by simp_all⟩

end Sys2Proof.Machine
end

section
/-! PROOFS. Sensor ports, data: packets and words, head time, frames and the injector (05 R158, R171 to R175, R182; 07 R230). -/

namespace Sys2Proof.Machine

/-! ### Packets (05 R157, R158) -/

/-- Whether a packet is not of the head's stream: a wrong ECC or checksum, another channel or another type. -/
def State.packetBad (s : State) (p : Nat) (k : CsiPacket) : Prop :=
  k.eccBad = true ∨ k.crcBad = true ∨ k.vc ≠ s.headField p 7 1 ∨ k.dt ≠ s.headField p 10 1

theorem State.not_packetBad {s : State} {p : Nat} {k : CsiPacket} (hecc : k.eccBad = false) (hcrc : k.crcBad = false)
    (hvc : k.vc = s.headField p 7 1) (hdt : k.dt = s.headField p 10 1) : ¬s.packetBad p k := by
  simp only [State.packetBad, hecc, hcrc, hvc, hdt, Bool.false_eq_true, ne_eq, not_true_eq_false, or_self, not_false_eq_true]

/-- A bad packet at a port with a head is discarded. -/
theorem exec_csi2Packet_bad {s : State} {p : Fin 6} {k : CsiPacket} (hhead : s.headType p ≠ 0) (hbad : s.packetBad p k) :
    exec (.csi2Packet p k) s = .next ((s.upTo k.arrival).csiDiscard p) := by
  have harm : exec (.csi2Packet p k) s = execCsi2Packet p k s := rfl
  rw [harm, execCsi2Packet, if_neg hhead]
  exact congrArg Host.Outcome.next (if_pos hbad)

/-- The words of a packet of an event or gate-array head go into the buffer. -/
theorem exec_csi2Packet_words {s : State} {p : Fin 6} {k : CsiPacket} (htype : s.headType p = 1 ∨ s.headType p = 4)
    (hgood : ¬s.packetBad p k) :
    exec (.csi2Packet p k) s = .next ((s.upTo k.arrival).bufferWords p k.arrival k.words) := by
  have harm : exec (.csi2Packet p k) s = execCsi2Packet p k s := rfl
  have hhead : s.headType p ≠ 0 := by omega
  rw [harm, execCsi2Packet, if_neg hhead]
  exact congrArg Host.Outcome.next ((if_neg hgood).trans (if_pos htype))

/-- A packet of a frame or spectral head in a frame is one more line. -/
theorem exec_csi2Packet_line {s : State} {p : Fin 6} {k : CsiPacket} (htype : s.headType p = 2 ∨ s.headType p = 3)
    (hgood : ¬s.packetBad p k) (hframe : (s.port p).frameAt.isSome = true) :
    exec (.csi2Packet p k) s = .next ((s.upTo k.arrival).onPort p (fun q => { q with
      frameLines := k.words :: q.frameLines,
      frameBad := q.frameBad || decide (k.len ≠ lineLen k.dt (s.headField p 12 2)) })) := by
  have harm : exec (.csi2Packet p k) s = execCsi2Packet p k s := rfl
  have hhead : s.headType p ≠ 0 := by omega
  have hevents : ¬(s.headType p = 1 ∨ s.headType p = 4) := by omega
  rw [harm, execCsi2Packet, if_neg hhead]
  exact congrArg Host.Outcome.next ((if_neg hgood).trans ((if_neg hevents).trans (if_pos hframe)))

/-- A discarded packet that is at most the thousandth of a second is counted alone. -/
theorem State.csiDiscard_of_few {s : State} {p : Nat} (hfew : (s.port p).csiDiscards.length < 1000) : s.csiDiscard p =
    (s.onPort p (fun q => { q with
      csiDiscards := s.now :: q.csiDiscards.filter (fun t => decide (s.now < t + 1000000)) })).pCount p 0x17 := by
  have hkept := List.length_filter_le (fun t => decide (s.now < t + 1000000)) (s.port p).csiDiscards
  refine if_neg ?_
  rw [State.pCount_port, State.onPort_port_self, List.length_cons]
  omega

/-! ### Words (05 R171, R172, R174) -/

/-- The words of a packet that fits the buffer of a port that skips nothing go behind the words that wait. -/
theorem State.bufferWords_fits {s : State} {p : Nat} (arrival : Nat) {words : List (BitVec 32)} (hdrained : s.portDrain p = s)
    (hfits : (s.port p).fill + words.length ≤ 65536) (hskip : (s.port p).skipping = false) :
    s.bufferWords p arrival words = (s.onPort p (fun q => { q with buffer := q.buffer ++ [(arrival, words)] })).portDrain p := by
  simp only [State.bufferWords, hdrained, Nat.not_lt.mpr hfits, hskip, Bool.false_eq_true, ↓reduceIte]

/-- A ROW word whose reserved bits are 0 sets the row. -/
theorem State.hefWord_row {s : State} {p : Nat} (arrival : Nat) {w : BitVec 32} (hvector : (s.port p).vector = none)
    (hcode : bits w.toNat 28 4 = 1) (hzero : bits w.toNat 11 17 = 0) :
    s.hefWord p arrival w = s.onPort p (fun q => { q with row := some (bits w.toNat 0 11) }) := by
  simp only [State.hefWord, hvector, hcode, hzero, ↓reduceIte]

/-! ### Head time (05 R175) -/

/-- 5 ms without TIME_HIGH stall the port of a head with head time. -/
theorem exec_headTimeSilent_streaming {s : State} {p : Fin 6} (hst : (s.port p).st = .streaming)
    (htype : s.headType p = 1 ∨ s.headType p = 4) :
    exec (.headTimeSilent p) s = .next ((s.upTo ((s.port p).lastHighAt + 5000)).portStall p 1) :=
  congrArg Host.Outcome.next (if_pos ⟨hst, htype⟩)

/-- A stalled port is STALLED, with its cause in STALL_CAUSE. -/
theorem State.portStall_self (p cause : Nat) (s : State) :
    ((s.portStall p cause).port p).st = .stalled ∧ (s.portStall p cause).pEnt p 0x1D = cause := by
  constructor
  · simp only [State.portStall, State.book_port, State.onPort_port_self, State.setEnt_port, State.count_port,
      State.portTo_port_self]
  · simp only [State.portStall, State.pEnt, State.book_ent, State.onPort_ent, State.setEnt_ent_self]

@[simp] theorem State.portStall_now (p cause : Nat) (s : State) : (s.portStall p cause).now = s.now :=
  State.now_of_get (by simp)

/-! ### Frames (05 R182; 16 R502)

The encoder follows the frames of its port and changes none. -/

@[simp] theorem State.videoFrameStart_port (p : Nat) (f : Frame) (q : Nat) (s : State) :
    (s.videoFrameStart p f).port q = s.port q := State.port_of_get (by simp) q

@[simp] theorem State.videoFrameEnd_port (p : Nat) (f : Frame) (q : Nat) (s : State) :
    (s.videoFrameEnd p f).port q = s.port q := State.port_of_get (by simp) q

@[simp] theorem State.videoFrameDrop_port (p t q : Nat) (s : State) : (s.videoFrameDrop p t).port q = s.port q :=
  State.port_of_get (by simp) q

/-- The frame that opens at a port: its time, less the port's delay, its beat, its size and the belt's speed. -/
def State.openedFrame (s : State) (p arrival : Nat) : Frame :=
  { time := arrival - s.pEnt p 8, beat := s.beatOf (arrival - s.pEnt p 8), width := s.headField p 12 2,
    height := s.headField p 14 2, dataType := s.headField p 10 1, lines := [], speed := mmPerS s.belt.speed,
    complete := false }

/-- A frame opens. -/
def State.frameOpen (p arrival : Nat) (s : State) : State :=
  (s.onPort p (fun q => { q with frameAt := some (s.openedFrame p arrival), frameLines := [], frameBad := false })).videoFrameStart
    p (s.openedFrame p arrival)

/-- The first frame of a READY head takes it to STREAMING and opens. -/
theorem exec_frameStart_ready {s : State} {p : Fin 6} (arrival : Nat) (htype : s.headType p = 2 ∨ s.headType p = 3)
    (hnone : (s.port p).frameAt = none) (hroom : (s.port p).frames.length < 4) (hst : (s.port p).st = .ready) :
    exec (.frameStart p arrival) s = .next (((s.upTo arrival).portTo p .streaming).frameOpen p arrival) := by
  have harm : exec (.frameStart p arrival) s = execFrameStart p arrival s := rfl
  have hdrop : (s.upTo arrival).frameDrop p = s.upTo arrival := by
    simp only [State.frameDrop, State.upTo_port, hnone]
  have hslot : ((s.upTo arrival).portTo p .streaming).frameSlot p = (true, (s.upTo arrival).portTo p .streaming) := by
    simp only [State.frameSlot, State.portTo_port_self, State.upTo_port, hroom, ↓reduceIte]
  simp only [harm, execFrameStart, htype, hdrop, State.upTo_port, hst, hslot, ↓reduceIte]
  rfl

@[simp] theorem State.frameOpen_portsBut (p arrival : Nat) (s : State) :
    ((s.frameOpen p arrival).get .ports).portsBut p = (s.get .ports).portsBut p := by simp [State.frameOpen]

@[simp] theorem State.frameOpen_get (p arrival : Nat) (s : State) (part : Part)
    (hpart : part ∉ ([.ports, .video] : List Part)) : (s.frameOpen p arrival).get part = s.get part := by
  simp only [List.mem_cons, List.not_mem_nil, or_false, not_or] at hpart
  simp [State.frameOpen, hpart]

theorem State.frameOpen_port_self (p arrival : Nat) (s : State) : (s.frameOpen p arrival).port p =
    { s.port p with frameAt := some (s.openedFrame p arrival), frameLines := [], frameBad := false } := by
  simp only [State.frameOpen, State.videoFrameStart_port, State.onPort_port_self]

/-- Opening a frame keeps the port's delay. -/
theorem State.frameOpen_pEnt (p arrival sub : Nat) (s : State) : (s.frameOpen p arrival).pEnt p sub = s.pEnt p sub :=
  State.ent_of_get (by simp) (by simp) (portIdx p) sub

/-- A change of state keeps the head's record. -/
theorem State.portTo_headField (p : Nat) (new : PortSt) (off n : Nat) (s : State) :
    (s.portTo p new).headField p off n = s.headField p off n := by
  rw [State.headField, State.portTo_port_self, State.headField]

/-- A frame whose lines are all there with their length becomes the newest frame. -/
theorem exec_frameEnd_complete {s : State} {p : Fin 6} {f : Frame} (hframe : (s.port p).frameAt = some f)
    (hgood : (s.port p).frameBad = false) (hlines : (s.port p).frameLines.length = f.height) : exec (.frameEnd p) s =
      .next ((s.onPort p (fun q => { q with
        frameAt := none, frameLines := [], frameBad := false,
        frames := { f with lines := (s.port p).frameLines.reverse, complete := true } :: q.frames })).videoFrameEnd p
        { f with lines := (s.port p).frameLines.reverse, complete := true }) := by
  have harm : exec (.frameEnd p) s = execFrameEnd p s := rfl
  simp only [harm, execFrameEnd, hframe, hgood, hlines, and_self, ↓reduceIte]

/-- Any other frame is dropped and counted. -/
theorem exec_frameEnd_dropped {s : State} {p : Fin 6} {f : Frame} (hframe : (s.port p).frameAt = some f)
    (hbad : (s.port p).frameBad = true ∨ (s.port p).frameLines.length ≠ f.height) : exec (.frameEnd p) s =
      .next (((s.onPort p (fun q => { q with frameAt := none, frameLines := [], frameBad := false })).pCount p
        0x1A).videoFrameDrop p f.time) := by
  have harm : exec (.frameEnd p) s = execFrameEnd p s := rfl
  have hnot : ¬((s.port p).frameBad = false ∧ (s.port p).frameLines.length = f.height) := by
    rintro ⟨hgood, hlines⟩
    exact hbad.elim (by simp [hgood]) (absurd hlines)
  simp only [harm, execFrameEnd, hframe, hnot, State.frameDrop, ↓reduceIte]

/-! ### The injector (07 R230, R239) -/

/-- What is shed and the credits do not depend on the ports or the ledger. -/
theorem State.onPort_flitShed (p : Nat) (g : Port → Port) (f : Flit) (s : State) :
    (s.onPort p g).flitShed f = s.flitShed f := rfl

theorem State.ledger_flitShed (target term n : Nat) (f : Flit) (s : State) :
    (s.ledger target term n).flitShed f = s.flitShed f := rfl

theorem State.onPort_credit (p : Nat) (g : Port → Port) (k : Nat) (s : State) : (s.onPort p g).credit k = s.credit k := rfl

theorem State.ledger_credit (target term n k : Nat) (s : State) : (s.ledger target term n).credit k = s.credit k := rfl

theorem State.sendTo_port (r : Nat) (i : Inp) (f : Flit) (q : Nat) (s : State) : (s.sendTo r i f).port q = s.port q := rfl

theorem State.useCredit_port (k q : Nat) (s : State) : (s.useCredit k).port q = s.port q := rfl

theorem State.ledger_port (target term n q : Nat) (s : State) : (s.ledger target term n).port q = s.port q := rfl

/-- An event of a mapped port that is not shed leaves as one packet while the link of its entry core has a credit. -/
theorem exec_ingestInject_sends {s : State} {p : Fin 6} {e : InjEvent} {rest : List InjEvent} {m : IngestMap}
    (hhalt : s.beat.hardHalt = false) (hqueue : ((s.portDrain p).port p).injq = e :: rest)
    (hmap : tabGet none (s.portDrain p).fabric.ingestMaps p = some m)
    (hkept : (s.portDrain p).flitShed (ingestFlit (s.portDrain p).choir.ownId p m e) = false)
    (hcredit : (s.portDrain p).credit (credKey m.entryCore 6 0) ≠ 0) : exec (.ingestInject p) s =
      .next (((((s.portDrain p).onPort p (fun x => { x with injq := rest })).ledger
        (ingestFlit (s.portDrain p).choir.ownId p m e).target 0 1).useCredit (credKey m.entryCore 6 0)).sendTo
          m.entryCore .inj (ingestFlit (s.portDrain p).choir.ownId p m e)) := by
  have harm : exec (.ingestInject p) s = execIngestInject p s := rfl
  simp only [harm, execIngestInject, hhalt, hqueue, hmap, hkept, hcredit, Bool.false_eq_true, ↓reduceIte]

/-! ### The statement -/

/-- Settles O30: packets by the head's type, frames and events by the operations above, which change this port alone. -/
theorem portsTakeData : Obligations.PortsTakeData := by
  refine ⟨fun p k s hhead hbad => ?_, fun p k s htype hecc hcrc hvc hdt => ?_,
    fun p a ws s _ hdrained hfits hskip => State.bufferWords_fits a hdrained hfits hskip,
    fun p a w s hvector hcode hzero => State.hefWord_row a hvector hcode hzero,
    fun p k s htype hecc hcrc hvc hdt hframe => ?_, fun p s hst htype => ?_,
    fun p arrival s htype hnone hroom hst => ?_, fun p f s hframe hgood hlines => ?_, fun p f s hframe hbad => ?_,
    fun p e rest m s u hhalt hdrain hqueue hmap hkept hcredit => ?_⟩
  · refine ⟨_, exec_csi2Packet_bad hhead hbad, rfl, fun hfew => ?_, fun q => State.port_of_portsBut (by simp),
      fun part hpart => by simp_all⟩
    rw [State.csiDiscard_of_few (s := s.upTo k.arrival) hfew, State.pCount_port, State.onPort_port_self]
    exact ⟨State.setEnt_ent_self _ _ _ _, rfl, rfl, rfl⟩
  · exact ⟨_, exec_csi2Packet_words htype (State.not_packetBad hecc hcrc hvc hdt), rfl,
      fun q => State.port_of_portsBut (by simp), fun part hpart => by simp_all⟩
  · exact ⟨_, exec_csi2Packet_line htype (State.not_packetBad hecc hcrc hvc hdt) hframe, rfl,
      fun q => State.port_of_portsBut (by simp), fun part hpart => by simp_all⟩
  · obtain ⟨hstalled, hcause⟩ := State.portStall_self p 1 (s.upTo ((s.port p).lastHighAt + 5000))
    exact ⟨_, exec_headTimeSilent_streaming hst htype, rfl, State.portStall_now _ _ _, hstalled, hcause,
      fun q => State.port_of_portsBut (by simp), fun part hpart => by simp_all⟩
  · have hport := State.frameOpen_port_self p arrival ((s.upTo arrival).portTo p .streaming)
    refine ⟨_, ((s.upTo arrival).portTo p .streaming).openedFrame p arrival,
      exec_frameStart_ready arrival htype hnone hroom hst, State.now_of_get (s := s.upTo arrival) (by simp), ?_, ?_, ?_,
      State.portTo_headField p .streaming 12 2 (s.upTo arrival), State.portTo_headField p .streaming 14 2 (s.upTo arrival),
      rfl, fun q => State.port_of_portsBut (by simp), fun part hpart => by simp_all⟩
    · rw [hport, State.portTo_port_self]
    · rw [hport]
    · rw [State.frameOpen_pEnt, State.openedFrame]
  · refine ⟨_, exec_frameEnd_complete hframe hgood hlines, rfl, ?_, ?_, fun q => State.port_of_portsBut (by simp),
      fun part hpart => by simp_all⟩
    all_goals rw [State.videoFrameEnd_port, State.onPort_port_self]
  · refine ⟨_, exec_frameEnd_dropped hframe hbad, rfl, ?_, ?_, fun q => State.port_of_portsBut (by simp),
      fun part hpart => by simp_all⟩
    all_goals rw [State.videoFrameDrop_port, State.pCount_port, State.onPort_port_self]
  · subst hdrain
    rw [State.ledger_flitShed, State.onPort_flitShed] at hkept
    rw [State.ledger_credit, State.onPort_credit] at hcredit
    refine ⟨_, exec_ingestInject_sends hhalt hqueue hmap hkept hcredit, rfl, ?_,
      fun q => State.port_of_portsBut (by simp), fun part hpart => by simp_all⟩
    rw [State.sendTo_port, State.useCredit_port, State.ledger_port, State.onPort_port_self]

end Sys2Proof.Machine
end

section
/-! PROOFS. Voice cores: loading, the commit check, the rank count, and the packets at their input and output (06 R191, R205,
R206, R212, R213, R217; 07 R239, R241, R243; log 70). -/

namespace Sys2Proof.Machine

/-! ### Regions dropped from a table -/

/-- A table without the keys that meet a test, read at any key. -/
theorem tabGet_tabDrop {α : Type} (d : α) (t : Tab α) (p : Nat → Bool) (k : Nat) :
    tabGet d (tabDrop t p) k = if p k then d else tabGet d t k := by
  induction t with
  | nil => simp [tabDrop, tabGet]
  | cons e t ih =>
    obtain ⟨j, v⟩ := e
    rw [tabDrop] at ih ⊢
    by_cases hj : p j = true
    · rw [List.filter_cons_of_neg (by simp [hj]), ih]
      by_cases hk : k = j
      · simp only [hk, hj, ↓reduceIte]
      · simp only [tabGet, hk, ↓reduceIte]
    · rw [List.filter_cons_of_pos (by simp [hj]), tabGet, ih, tabGet]
      by_cases hk : k = j
      · simp only [hk, hj, Bool.false_eq_true, ↓reduceIte]
      · simp only [hk, ↓reduceIte]

/-- A cleared region is one whose bytes are dropped. -/
theorem memClear_eq_tabDrop (m : List Host.Cell) (a n : Nat) :
    memClear m a n = tabDrop m (fun x => decide (a ≤ x) && decide (x < a + n)) :=
  List.filter_congr fun e _ => by
    rw [Bool.not_and]
    simp only [← decide_not, Nat.not_le, Nat.not_lt]

/-- A byte of a cleared region reads 0. -/
theorem memClear_inside (m : List Host.Cell) {a n x : Nat} (hlow : a ≤ x) (hhigh : x < a + n) :
    tabGet (0 : Byte) (memClear m a n) x = 0 := by
  simp only [memClear_eq_tabDrop, tabGet_tabDrop, hlow, hhigh, decide_true, Bool.and_self, ↓reduceIte]

/-- A byte outside a cleared region reads as before. -/
theorem memClear_outside (m : List Host.Cell) {a n x : Nat} (hx : x < a ∨ a + n ≤ x) :
    tabGet (0 : Byte) (memClear m a n) x = tabGet 0 m x := by
  rw [memClear_eq_tabDrop, tabGet_tabDrop, if_neg]
  simp only [Bool.and_eq_true, decide_eq_true_eq]
  omega

/-! ### Reads of one core -/

/-- Equal fabrics hold equal cores. -/
theorem State.core_of_get {s t : State} (h : t.get .fabric = s.get .fabric) (d : Nat) : t.core d = s.core d := by
  rw [State.core, State.core, State.fabric_of_get h]

@[simp] theorem State.onCore_core_self (c : Nat) (f : VCore → VCore) (s : State) : (s.onCore c f).core c = f (s.core c) := by
  simp [State.core]

theorem State.onCore_core_other {c d : Nat} (f : VCore → VCore) (s : State) (hd : d ≠ c) :
    (s.onCore c f).core d = s.core d := by
  simp only [State.core, State.onCore_fabric, tabGet_tabMod, if_neg hd]

@[simp] theorem State.count_core (idx sub n d : Nat) (s : State) : (s.count idx sub n).core d = s.core d := rfl

@[simp] theorem State.ledger_core (target term n d : Nat) (s : State) : (s.ledger target term n).core d = s.core d := rfl

@[simp] theorem State.giveBack_core (k d : Nat) (s : State) : (s.giveBack k).core d = s.core d := rfl

@[simp] theorem State.useCredit_core (k d : Nat) (s : State) : (s.useCredit k).core d = s.core d := rfl

@[simp] theorem State.sendTo_core (r : Nat) (i : Inp) (f : Flit) (d : Nat) (s : State) : (s.sendTo r i f).core d = s.core d := rfl

/-! ### Counts, credits and links -/

/-- An entry other than the one stored reads as before. -/
theorem State.setEnt_ent_other {idx sub i j : Nat} (v : Nat) (s : State) (hkey : ekey i j ≠ ekey idx sub) :
    (s.setEnt idx sub v).ent i j = s.ent i j := by
  simp only [State.ent, State.setEnt, tabGet_tabPut, if_neg hkey]
  rfl

/-- An entry counted reads its count. -/
theorem State.count_ent_self (idx sub n : Nat) (s : State) :
    (s.count idx sub n).ent idx sub = satAdd max32 (s.ent idx sub) n := State.setEnt_ent_self _ _ _ s

/-- An entry other than the one counted reads as before. -/
theorem State.count_ent_other {idx sub i j : Nat} (n : Nat) (s : State) (hkey : ekey i j ≠ ekey idx sub) :
    (s.count idx sub n).ent i j = s.ent i j := State.setEnt_ent_other _ s hkey

theorem State.count_fabric (idx sub n : Nat) (s : State) : (s.count idx sub n).fabric = s.fabric := rfl

/-- An entry of a core is none of the fabric's. -/
theorem ekey_fabric_ne_core (c i j : Nat) (hi : i < 256) : ekey 0x4000 i ≠ ekey (coreIdx c) j := by
  unfold ekey coreIdx
  omega

theorem State.ledger_ent (target term n idx sub : Nat) (s : State) : (s.ledger target term n).ent idx sub = s.ent idx sub := rfl

theorem State.ledger_creditsBack (target term n : Nat) (s : State) :
    (s.ledger target term n).fabric.creditsBack = s.fabric.creditsBack := rfl

/-- A term of the ledger of a beat reads one more after it is booked (07 R243). -/
theorem State.ledger_ledger_self (target term : Nat) (s : State) :
    tabGet 0 (s.ledger target term 1).fabric.ledger (target % 16 * 4 + term) =
      tabGet 0 s.fabric.ledger (target % 16 * 4 + term) + 1 := by
  rw [State.ledger, State.onFabric_fabric, tabGet_tabMod_self]
  rfl

/-- A credit used is one less (07 R239). -/
theorem State.useCredit_credit_self {k : Nat} {s : State} (hcredit : s.credit k ≠ 0) :
    (s.useCredit k).credit k + 1 = s.credit k := by
  have hread : (s.useCredit k).credit k = s.credit k - 1 := by
    rw [State.credit, State.useCredit, State.onFabric_fabric, tabGet_tabMod_self, State.credit]
  omega

theorem State.sendTo_credit (r : Nat) (i : Inp) (f : Flit) (k : Nat) (s : State) : (s.sendTo r i f).credit k = s.credit k := rfl

/-- A packet sent is the last on its link. -/
theorem State.sendTo_onLink_self (r : Nat) (i : Inp) (f : Flit) (s : State) :
    tabGet [] (s.sendTo r i f).fabric.onLink (linkInKey r i f.vn1) = tabGet [] s.fabric.onLink (linkInKey r i f.vn1) ++ [f] := by
  rw [State.sendTo, State.onFabric_fabric, tabGet_tabMod_self]

/-! ### Loading (06 R191; log 4) -/

/-- Whether a line of memory is one of the window of a core. -/
def windowLine (c l : Nat) : Bool := decide (coreBase c / 64 ≤ l) && decide (l < (coreBase c + windowSize) / 64)

/-- The line of a byte of the window is one of the window, which starts and ends at a line. -/
theorem windowLine_of_mem {c a : Nat} (hlow : coreBase c ≤ a) (hhigh : a < coreBase c + windowSize) :
    windowLine c (a / 64) = true := by
  have hbase : coreBase c = 64 * (0x2000000 + c * 0x1000) := by unfold coreBase; omega
  have hsize : windowSize = 64 * 0xC00 := rfl
  rw [windowLine, Bool.and_eq_true, decide_eq_true_eq, decide_eq_true_eq]
  omega

/-- The window of a core is cleared: its bytes and the error marks of its lines. -/
def State.windowCleared (c : Nat) (s : State) : State :=
  ({ s with mem := memClear s.mem (coreBase c) windowSize } : State).onMem
    (fun m => { m with poison := tabDrop m.poison (windowLine c) })

/-- LOAD of a core that neither runs, nor has failed, nor loads already. -/
theorem State.coreLoadOp_idle {s : State} {c : Nat} (hup : s.coreUp c = true)
    (hst : (s.core c).st = .disabled ∨ (s.core c).st = .loaded) : s.coreLoadOp c =
      (s.windowCleared c).onCore c (fun x => { x with st := .loading, clearing := true, touched := [] }) := by
  obtain hst | hst := hst <;> simp only [State.coreLoadOp, hup, hst, Bool.true_eq_false, ↓reduceIte] <;> rfl

/-- LOAD of a running or faulted core sets its flag and does nothing else. -/
theorem State.coreLoadOp_refused {s : State} {c : Nat} (hup : s.coreUp c = true)
    (hst : (s.core c).st = .running ∨ (s.core c).st = .fault) :
    s.coreLoadOp c = s.onCore c (fun x => { x with loadRefused := true }) := by
  obtain hst | hst := hst <;> simp only [State.coreLoadOp, hup, hst, Bool.true_eq_false, ↓reduceIte]

theorem State.windowCleared_core (c d : Nat) (s : State) : (s.windowCleared c).core d = s.core d := rfl

theorem State.windowCleared_inside {c a : Nat} (s : State) (hlow : coreBase c ≤ a) (hhigh : a < coreBase c + windowSize) :
    (s.windowCleared c).byteAt a = 0 ∧ tabGet false (s.windowCleared c).memu.poison (a / 64) = false :=
  ⟨memClear_inside s.mem hlow hhigh, (tabGet_tabDrop _ _ _ _).trans (if_pos (windowLine_of_mem hlow hhigh))⟩

theorem State.windowCleared_outside {c a : Nat} (s : State) (ha : a < coreBase c ∨ coreBase c + windowSize ≤ a) :
    (s.windowCleared c).byteAt a = s.byteAt a := memClear_outside s.mem ha

@[simp] theorem State.windowCleared_get (c : Nat) (s : State) (part : Part) (hpart : part ∉ ([.memu, .mem] : List Part)) :
    (s.windowCleared c).get part = s.get part := by
  simp only [List.mem_cons, List.not_mem_nil, or_false, not_or] at hpart
  simp [State.windowCleared, hpart]

/-! ### The commit check (06 R205, R217) -/

/-- COMMIT starts the check of a LOADING core. -/
theorem State.coreCommitOp_loading {s : State} {c : Nat} (hup : s.coreUp c = true) (hst : (s.core c).st = .loading) :
    s.coreCommitOp c = s.onCore c (fun x => { x with committing := true }) := if_pos ⟨hup, hst⟩

/-- A check that meets no uncorrectable line and finds no failure leaves the core LOADED. -/
theorem State.coreCommitEnd_passed {s : State} {c : Nat} (hup : s.coreUp c = true) (hst : (s.core c).st = .loading)
    (hrun : (s.core c).committing = true) (hgood : s.commitBad c = false) (hcode : s.commitCode c = 0) :
    s.coreCommitEnd c = s.onCore c (fun x => { x with committing := false, st := .loaded, loadError := 0 }) := by
  simp only [State.coreCommitEnd, hup, hst, hrun, hgood, hcode, and_self, Bool.false_eq_true, ↓reduceIte]

/-- A check that finds a failure leaves the core LOADING with the lowest code. -/
theorem State.coreCommitEnd_failed {s : State} {c : Nat} (hup : s.coreUp c = true) (hst : (s.core c).st = .loading)
    (hrun : (s.core c).committing = true) (hgood : s.commitBad c = false) (hcode : s.commitCode c ≠ 0) :
    s.coreCommitEnd c = s.onCore c (fun x => { x with committing := false, loadError := s.commitCode c }) := by
  simp only [State.coreCommitEnd, hup, hst, hrun, hgood, hcode, and_self, Bool.false_eq_true, ↓reduceIte]

/-- A check that meets an uncorrectable line ends in FAULT. -/
theorem State.coreCommitEnd_bad {s : State} {c : Nat} (hup : s.coreUp c = true) (hst : (s.core c).st = .loading)
    (hrun : (s.core c).committing = true) (hbad : s.commitBad c = true) : s.coreCommitEnd c = s.coreFault c := by
  simp only [State.coreCommitEnd, hup, hst, hrun, hbad, and_self, ↓reduceIte]

/-- The condition that a fault raises touches no core. -/
theorem State.coreFault_core (c d : Nat) (s : State) :
    (s.coreFault c).core d = (s.onCore c (fun x => { x with st := .fault, committing := false })).core d :=
  State.core_of_get (State.raiseCond_get _ _ _ _ _ .fabric (by decide)) d

/-- DISABLE of a core that is LOADING or LOADED. -/
theorem State.coreDisableOp_idle {s : State} {c : Nat} (hup : s.coreUp c = true)
    (hst : (s.core c).st = .loading ∨ (s.core c).st = .loaded) :
    s.coreDisableOp c = s.onCore c (fun x => { x with st := .disabled, committing := false }) := if_pos ⟨hup, hst⟩

/-! ### Packets at the input (06 R206, R217; 07 R239, R243) -/

/-- The core takes the oldest packet at its input, whose credit starts back. -/
def State.inputTaken (c : Nat) (f : Flit) (rest : List Flit) (s : State) : State :=
  (s.onCore c (fun x => { x with inbox := rest })).giveBack (credKey c 0 (b2n f.vn1))

theorem exec_coreEventAccept {s : State} {c : Fin 256} {f : Flit} {rest : List Flit} (hhalt : s.beat.hardHalt = false)
    (hinbox : (s.core c).inbox = f :: rest) :
    exec (.coreEventAccept c) s = .next ((s.inputTaken c f rest).acceptEvent c f) := by
  have harm : exec (.coreEventAccept c) s = execCoreEventAccept c s := rfl
  simp only [harm, execCoreEventAccept, hhalt, hinbox, Bool.false_eq_true, ↓reduceIte]
  rfl

/-- Of its core, taking a packet changes the input alone. -/
theorem State.inputTaken_core_self (c : Nat) (f : Flit) (rest : List Flit) (s : State) :
    (s.inputTaken c f rest).core c = { s.core c with inbox := rest } := by
  rw [State.inputTaken, State.giveBack_core, State.onCore_core_self]

theorem State.inputTaken_core_other {c d : Nat} (f : Flit) (rest : List Flit) (s : State) (hd : d ≠ c) :
    (s.inputTaken c f rest).core d = s.core d := by
  rw [State.inputTaken, State.giveBack_core, State.onCore_core_other _ s hd]

theorem State.inputTaken_creditsBack (c : Nat) (f : Flit) (rest : List Flit) (s : State) :
    tabGet 0 (s.inputTaken c f rest).fabric.creditsBack (credKey c 0 (b2n f.vn1)) =
      tabGet 0 s.fabric.creditsBack (credKey c 0 (b2n f.vn1)) + 1 := by
  rw [State.inputTaken, State.giveBack, State.onFabric_fabric, tabGet_tabMod_self, State.onCore_fabric]

theorem State.inputTaken_ledger (c : Nat) (f : Flit) (rest : List Flit) (s : State) :
    (s.inputTaken c f rest).fabric.ledger = s.fabric.ledger := rfl

theorem State.inputTaken_ent (c : Nat) (f : Flit) (rest : List Flit) (idx sub : Nat) (s : State) :
    (s.inputTaken c f rest).ent idx sub = s.ent idx sub := rfl

@[simp] theorem State.inputTaken_get (c : Nat) (f : Flit) (rest : List Flit) (s : State) (part : Part)
    (hpart : part ∉ ([.fabric] : List Part)) : (s.inputTaken c f rest).get part = s.get part := by
  rw [State.inputTaken, State.giveBack_get _ _ _ hpart, State.onCore_get _ _ _ _ hpart]

/-- A faulted core sheds the packet. -/
theorem State.acceptEvent_fault {s : State} {c : Nat} (f : Flit) (hst : (s.core c).st = .fault) :
    s.acceptEvent c f = s.ledger f.target 2 1 := if_pos hst

/-- A packet without a matching tap is counted and unrouted. -/
theorem State.acceptEvent_untapped {s : State} {c : Nat} {f : Flit} (hst : (s.core c).st ≠ .fault)
    (htaps : s.eventTaps c f.pkt.key.toNat = none) : s.acceptEvent c f =
      (((s.count (coreIdx c) 2 1).count (coreIdx c) 6 1).count 0x4000 5 1).ledger f.target 3 1 := by
  simp only [State.acceptEvent, hst, htaps, ↓reduceIte]

/-- A core that does not run counts a matched packet as delivered and adds nothing (log 70). -/
theorem State.acceptEvent_idle {s : State} {c : Nat} {f : Flit} {taps : List (Nat × Nat × Nat)}
    (hst : (s.core c).st ≠ .fault) (hidle : (s.core c).st ≠ .running)
    (htaps : s.eventTaps c f.pkt.key.toNat = some taps) :
    s.acceptEvent c f = (s.count (coreIdx c) 2 1).ledger f.target 1 1 := by
  simp only [State.acceptEvent, hst, htaps, hidle, ne_eq, not_false_eq_true, ↓reduceIte]

/-- The state of the core and its taps are read before or after the packet is taken alike. -/
theorem State.inputTaken_st (c : Nat) (f : Flit) (rest : List Flit) (s : State) :
    ((s.inputTaken c f rest).core c).st = (s.core c).st := by rw [State.inputTaken_core_self]

theorem State.inputTaken_eventTaps (c : Nat) (f : Flit) (rest : List Flit) (key : Nat) (s : State) :
    (s.inputTaken c f rest).eventTaps c key = s.eventTaps c key := rfl

/-- The entry of the fabric for packets without a tap counts one more, whatever the core's own entries count. -/
theorem State.untapped_count (c : Nat) (s : State) :
    (((s.count (coreIdx c) 2 1).count (coreIdx c) 6 1).count 0x4000 5 1).ent 0x4000 5 = satAdd max32 (s.ent 0x4000 5) 1 := by
  rw [State.count_ent_self, State.count_ent_other _ _ (ekey_fabric_ne_core c 5 6 (by decide)),
    State.count_ent_other _ _ (ekey_fabric_ne_core c 5 2 (by decide))]

/-! ### Packets at the output (06 R212; 07 R239, R241) -/

/-- A packet leaves the output, injected in the ledger of its target beat. -/
def State.outputTaken (c : Nat) (f : Flit) (rest : List Flit) (s : State) : State :=
  (s.onCore c (fun x => { x with outbox := rest })).ledger f.target 0 1

/-- A packet that is not shed leaves with a credit. -/
theorem exec_coreFanoutSend_sends {s : State} {c : Fin 256} {f : Flit} {rest : List Flit} (hhalt : s.beat.hardHalt = false)
    (houtbox : (s.core c).outbox = f :: rest) (hkept : s.flitShed f = false) (hcredit : s.credit (credKey c 5 0) ≠ 0) :
    exec (.coreFanoutSend c) s =
      .next (((s.outputTaken c f rest).useCredit (credKey c 5 0)).sendTo c .core f) := by
  have harm : exec (.coreFanoutSend c) s = execCoreFanoutSend c s := rfl
  simp only [harm, execCoreFanoutSend, hhalt, houtbox, hkept, hcredit, Bool.false_eq_true, ↓reduceIte, State.outputTaken]

/-- A packet of a stage that is being shed is discarded. -/
theorem exec_coreFanoutSend_shed {s : State} {c : Fin 256} {f : Flit} {rest : List Flit} (hhalt : s.beat.hardHalt = false)
    (houtbox : (s.core c).outbox = f :: rest) (hshed : s.flitShed f = true) :
    exec (.coreFanoutSend c) s = .next ((s.outputTaken c f rest).discard f) := by
  have harm : exec (.coreFanoutSend c) s = execCoreFanoutSend c s := rfl
  simp only [harm, execCoreFanoutSend, hhalt, houtbox, hshed, Bool.false_eq_true, ↓reduceIte, State.outputTaken]

theorem State.outputTaken_core_self (c : Nat) (f : Flit) (rest : List Flit) (s : State) :
    (s.outputTaken c f rest).core c = { s.core c with outbox := rest } := by
  rw [State.outputTaken, State.ledger_core, State.onCore_core_self]

theorem State.outputTaken_core_other {c d : Nat} (f : Flit) (rest : List Flit) (s : State) (hd : d ≠ c) :
    (s.outputTaken c f rest).core d = s.core d := by
  rw [State.outputTaken, State.ledger_core, State.onCore_core_other _ s hd]

theorem State.outputTaken_credit (c : Nat) (f : Flit) (rest : List Flit) (k : Nat) (s : State) :
    (s.outputTaken c f rest).credit k = s.credit k := rfl

@[simp] theorem State.outputTaken_get (c : Nat) (f : Flit) (rest : List Flit) (s : State) (part : Part)
    (hpart : part ∉ ([.fabric] : List Part)) : (s.outputTaken c f rest).get part = s.get part := by
  rw [State.outputTaken, State.ledger_get _ _ _ _ _ hpart, State.onCore_get _ _ _ _ hpart]

/-! ### The statement -/

/-- Settles O31: each command, where it is due, is one of the core operations above, which change this core alone; a packet at
the input is taken first and then accepted by the state of the core and its taps. -/
theorem voiceCoresAreLoaded : Obligations.VoiceCoresAreLoaded := by
  refine ⟨fun c s hup hst => ?_, fun c s hup hst => ?_, fun c s => ?_, fun c s hup hst => ?_,
    fun c s hup hst hrun hgood hcode => ?_, fun c s hup hst hrun hgood hcode => ?_, fun c s hup hst hrun hbad => ?_,
    fun c s hup hst => ?_, fun t val s hup hidle hlow hhigh => ?_, fun c f rest s hhalt hinbox hst => ?_,
    fun c f rest s hhalt hinbox hst htaps => ?_, fun c f rest taps s hhalt hinbox hst hidle htaps => ?_,
    fun c f rest s hhalt hinbox hst => ?_, fun c f rest s hhalt houtbox hkept hcredit => ?_,
    fun c f rest s hhalt houtbox hshed => ?_⟩
  · refine ⟨_, congrArg Host.Outcome.next (State.coreLoadOp_idle hup hst), ?_, fun a hlow hhigh => ?_, fun a ha => ?_,
      fun d hd => ?_, fun part hpart => by simp_all⟩
    · rw [State.onCore_core_self, State.windowCleared_core]
    · exact State.windowCleared_inside s hlow hhigh
    · exact State.windowCleared_outside s ha
    · rw [State.onCore_core_other _ _ hd, State.windowCleared_core]
  · exact ⟨_, congrArg Host.Outcome.next (State.coreLoadOp_refused hup hst), rfl,
      fun d => State.onCore_core_other _ s, State.onCore_get _ _ s⟩
  · exact ⟨_, rfl, rfl, State.onCore_core_self _ _ s, fun d => State.onCore_core_other _ s, State.onCore_get _ _ s⟩
  · exact ⟨_, congrArg Host.Outcome.next (State.coreCommitOp_loading hup hst), rfl, State.onCore_core_self _ _ s,
      fun d => State.onCore_core_other _ s, State.onCore_get _ _ s⟩
  · exact ⟨_, congrArg Host.Outcome.next (State.coreCommitEnd_passed hup hst hrun hgood hcode), rfl,
      State.onCore_core_self _ _ s, fun d => State.onCore_core_other _ s, State.onCore_get _ _ s⟩
  · exact ⟨_, congrArg Host.Outcome.next (State.coreCommitEnd_failed hup hst hrun hgood hcode), rfl,
      State.onCore_core_self _ _ s, fun d => State.onCore_core_other _ s, State.onCore_get _ _ s⟩
  · refine ⟨_, congrArg Host.Outcome.next (State.coreCommitEnd_bad hup hst hrun hbad), rfl, ?_, fun d hd => ?_,
      State.coreFault_get _ s⟩
    · rw [State.coreFault_core, State.onCore_core_self]
    · rw [State.coreFault_core, State.onCore_core_other _ _ hd]
  · refine ⟨_, congrArg Host.Outcome.next (State.coreDisableOp_idle hup hst), rfl, ?_,
      fun d => State.onCore_core_other _ s, State.onCore_get _ _ s⟩
    rw [State.onCore_core_self]
  · exact congrArg Host.Outcome.next (if_pos ⟨hup, hidle, hlow, hhigh⟩)
  · rw [exec_coreEventAccept hhalt hinbox, State.acceptEvent_fault f ((State.inputTaken_st c f rest s).trans hst)]
    refine ⟨_, rfl, rfl, ?_, ?_, ?_, fun d hd => ?_, fun part hpart => by simp_all⟩
    · rw [State.ledger_core, State.inputTaken_core_self]
    · rw [State.ledger_creditsBack, State.inputTaken_creditsBack]
    · rw [State.ledger_ledger_self, State.inputTaken_ledger]
    · rw [State.ledger_core, State.inputTaken_core_other f rest s hd]
  · rw [← State.inputTaken_st c f rest s] at hst
    rw [exec_coreEventAccept hhalt hinbox, State.acceptEvent_untapped hst
      ((State.inputTaken_eventTaps c f rest _ s).trans htaps)]
    refine ⟨_, rfl, rfl, ?_, ?_, ?_, ?_, fun d hd => ?_, fun part hpart => by simp_all⟩
    · simp only [State.ledger_core, State.count_core, State.inputTaken_core_self]
    · simp only [State.ledger_creditsBack, State.count_fabric, State.inputTaken_creditsBack]
    · rw [State.ledger_ent, State.untapped_count, State.inputTaken_ent]
    · simp only [State.ledger_ledger_self, State.count_fabric, State.inputTaken_ledger]
    · simp only [State.ledger_core, State.count_core, State.inputTaken_core_other f rest s hd]
  · rw [← State.inputTaken_st c f rest s] at hst hidle
    rw [exec_coreEventAccept hhalt hinbox, State.acceptEvent_idle hst hidle
      ((State.inputTaken_eventTaps c f rest _ s).trans htaps)]
    refine ⟨_, rfl, rfl, ?_, ?_, ?_, fun d hd => ?_, fun part hpart => by simp_all⟩
    · rw [State.ledger_core, State.count_core, State.inputTaken_core_self]
    · rw [State.ledger_creditsBack, State.count_fabric, State.inputTaken_creditsBack]
    · rw [State.ledger_ledger_self, State.count_fabric, State.inputTaken_ledger]
    · rw [State.ledger_core, State.count_core, State.inputTaken_core_other f rest s hd]
  · exact ⟨_, exec_coreEventAccept hhalt hinbox, rfl, fun part hpart => by simp_all⟩
  · refine ⟨_, exec_coreFanoutSend_sends hhalt houtbox hkept hcredit, rfl, ?_, ?_, State.sendTo_onLink_self c .core f _,
      fun d => State.outputTaken_core_other f rest s, fun part hpart => by simp_all⟩
    · rw [State.sendTo_core, State.useCredit_core, State.outputTaken_core_self]
    · rw [← State.outputTaken_credit c f rest] at hcredit
      rw [State.sendTo_credit, State.useCredit_credit_self hcredit, State.outputTaken_credit]
  · exact ⟨_, exec_coreFanoutSend_shed hhalt houtbox hshed, rfl, fun part hpart => by simp_all⟩

end Sys2Proof.Machine
end

section
/-! PROOFS. Routing tables: the fields of a word, INDEX, and the write and read of the selected item (07 R229, R247, R248). -/

namespace Sys2Proof.Machine

/-! ### Fields of a word -/

/-- A field reads back what was put into it, to its width. -/
theorem bits_putBits_self (v lo n x : Nat) : bits (putBits v lo n x) lo n = x % 2 ^ n := by
  have hword : putBits v lo n x = v % 2 ^ lo + 2 ^ lo * (2 ^ n * (v / 2 ^ lo / 2 ^ n) + x % 2 ^ n) := by
    have hlow := Nat.mod_add_div v (2 ^ lo)
    have hfield := Nat.mod_add_div (v / 2 ^ lo) (2 ^ n)
    rw [← hfield, Nat.mul_add] at hlow
    rw [putBits, bits, Nat.mul_comm _ (2 ^ lo), Nat.mul_comm _ (2 ^ lo), Nat.mul_add]
    omega
  rw [hword, bits, Nat.add_mul_div_left _ _ (Nat.two_pow_pos lo), Nat.div_eq_of_lt (Nat.mod_lt _ (Nat.two_pow_pos lo)),
    Nat.zero_add, Nat.mul_add_mod, Nat.mod_mod]

/-- A field below bit k is a field of the low k bits. -/
theorem bits_mod_two_pow (v : Nat) {lo n k : Nat} (hk : lo + n ≤ k) : bits (v % 2 ^ k) lo n = bits v lo n := by
  obtain ⟨m, rfl⟩ := Nat.exists_eq_add_of_le hk
  rw [bits, bits, Nat.add_assoc, Nat.pow_add, Nat.mod_mul_right_div_self,
    Nat.mod_mod_of_dvd _ (Nat.pow_dvd_pow 2 (Nat.le_add_right n m))]

/-- A register reads the low 32 bits of what was written to it. -/
theorem State.setReg_reg_self (page off v : Nat) (s : State) : (s.setReg page off v).reg page off = v % 2 ^ 32 := by
  rw [State.reg, State.setReg_regs, tabGet_tabPut_self, BitVec.toNat_ofNat]

/-! ### INDEX and the entries (07 R229, R247) -/

/-- INDEX moves on by one, modulo its 11 bits. -/
theorem State.tabNext_index (t : Nat) (s : State) :
    bits ((s.tabNext t).reg (0x20 + t) 0x10) 0 11 = (bits (s.reg (0x20 + t) 0x10) 0 11 + 1) % 2048 := by
  let v := s.reg (0x20 + t) 0x10
  calc bits ((s.tabNext t).reg (0x20 + t) 0x10) 0 11
      = bits (putBits v 0 11 (bits v 0 11 + 1) % 2 ^ 32) 0 11 := congrArg (bits · 0 11) (State.setReg_reg_self _ _ _ s)
    _ = bits (putBits v 0 11 (bits v 0 11 + 1)) 0 11 := bits_mod_two_pow _ (by decide)
    _ = (bits v 0 11 + 1) % 2048 := bits_putBits_self v 0 11 _

@[simp] theorem State.tabNext_rEntry (t r i : Nat) (s : State) : (s.tabNext t).rEntry r i = s.rEntry r i := rfl

@[simp] theorem State.tabNext_out (t : Nat) (s : State) : (s.tabNext t).out = s.out := rfl

/-- An entry stored by its words reads back field by field (R229). -/
theorem State.putEntry_rEntry_self (r i w0 w1 w2 w3 : Nat) (s : State) :
    (s.onFabric (fun f => f.putEntry r i w0 w1 w2 w3)).rEntry r i =
      { value := BitVec.ofNat 32 w0, mask := BitVec.ofNat 32 w1, route := BitVec.ofNat 8 w2,
        priority := BitVec.ofNat 8 (w2 / 256), leafBase := bits w2 16 16, leafCount := bits w3 0 16 } := by
  rw [State.rEntry, State.onFabric_fabric, Fabric.putEntry, tabGet_tabPut_self]

/-! ### The write of an item's last word (07 R247, R248) -/

section Write

variable {t v : Nat} {s : State}

/-- Whatever the item, a write while a core of the tile runs is refused with WRITE_REFUSED. -/
theorem State.tabWrite_running (hup : s.tileUp t = true) (hrun : s.tileRunning t = true) :
    s.tabWrite t v = s.tabStatus t 1 := by
  simp only [State.tabWrite, hup, hrun, Bool.true_eq_false, ↓reduceIte]

variable {r i : Nat}

/-- An entry out of order is refused with BAD_VALUE. -/
theorem State.tabWrite_entry_bad (hup : s.tileUp t = true) (hsel : s.tabSelect t = (r, 0, i))
    (hidle : s.tileRunning t = false) (hbad : entryBad (s.reg (0x20 + t) 0x1C) v = true) :
    s.tabWrite t v = s.tabStatus t 2 := by
  simp only [State.tabWrite, hup, hsel, hidle, hbad, Bool.true_eq_false, Bool.false_eq_true, Bool.true_or, ↓reduceIte,
    Nat.reduceMul, Nat.reduceAdd]

/-- An entry in order is stored by its four words, and INDEX moves on. -/
theorem State.tabWrite_entry (hup : s.tileUp t = true) (hsel : s.tabSelect t = (r, 0, i))
    (hidle : s.tileRunning t = false) (hindex : i < 1024) (hgood : entryBad (s.reg (0x20 + t) 0x1C) v = false) :
    s.tabWrite t v = (s.onFabric (fun f => f.putEntry r i (s.reg (0x20 + t) 0x14) (s.reg (0x20 + t) 0x18)
      (s.reg (0x20 + t) 0x1C) v)).tabNext t := by
  have hlow : ¬ 1023 < i := by omega
  simp only [State.tabWrite, hup, hsel, hidle, hgood, hlow, Bool.true_eq_false, Bool.false_eq_true, decide_false, Bool.or_self,
    ↓reduceIte, Nat.reduceMul, Nat.reduceAdd]

end Write

/-! ### The statement -/

/-- Settles O33: the three writes by the laws of the write of an item's last word; the read puts out the last word, and then
INDEX moves on, which changes no output. -/
theorem routingTablesAreLoaded : Obligations.RoutingTablesAreLoaded := by
  refine ⟨fun t v s r i hup hsel hidle hindex hgood => ?_, fun t v s r i hup hsel hidle hbad => ?_,
    fun t v s hup hrun => ?_, fun t s hup => ?_, fun t s hdown => ?_⟩
  · refine ⟨_, congrArg Host.Outcome.next (State.tabWrite_entry hup hsel hidle hindex hgood), ?_, ?_, fun part hpart => ?_⟩
    · rw [State.tabNext_rEntry, State.putEntry_rEntry_self]
    · have hi : bits (s.reg (0x20 + t) 0x10) 0 11 = i := congrArg (fun x => x.2.2) hsel
      exact (State.tabNext_index t _).trans (congrArg (fun x => (x + 1) % 2048) hi)
    · exact (State.tabNext_get t _ part (fun h => hpart (List.mem_cons_of_mem _ h))).trans
        (State.onFabric_get _ s part (fun h => hpart (List.mem_append_left [Part.regs] h)))
  · exact congrArg Host.Outcome.next (State.tabWrite_entry_bad hup hsel hidle hbad)
  · exact congrArg Host.Outcome.next (State.tabWrite_running hup hrun)
  · refine ⟨_, congrArg Host.Outcome.next (if_pos hup), State.tabNext_out _ _, fun part hpart => ?_⟩
    exact (State.tabNext_get t _ part (fun h => hpart (List.mem_append_left [Part.out] h))).trans
      (State.emit_get _ s part (fun h => hpart (List.mem_cons_of_mem _ h)))
  · exact congrArg Host.Outcome.next (if_neg (ne_true_of_eq_false hdown))

end Sys2Proof.Machine
end

section
/-! PROOFS. Tasks of the press: what a change of one task leaves of the others, how the end of a task spreads over the
dispatchers' cycles, and what the end leaves of the press's other fields (08 R263 to R266, R270, R271). -/

namespace Sys2Proof.Machine

/-! ### Frames put together -/

/-- The frames of two steps, one after the other. -/
theorem SameBut.trans {ps qs : List Part} {s t u : State} (hst : SameBut ps s t) (htu : SameBut qs t u) : SameBut (ps ++ qs) s u :=
  fun part hpart => (htu part (fun h => hpart (List.mem_append_right ps h))).trans
    (hst part (fun h => hpart (List.mem_append_left qs h)))

/-- A frame may list more parts than change. -/
theorem SameBut.mono {ps rs : List Part} {s t : State} (h : SameBut ps s t) (hps : ps ⊆ rs) : SameBut rs s t :=
  fun part hpart => h part (fun hm => hpart (hps hm))

/-! ### One task slot -/

theorem State.task_of_get {s t : State} (h : t.get .press = s.get .press) (k : Nat) : t.task k = s.task k := by
  rw [State.task, State.task, State.press_of_get h]

@[simp] theorem State.onTask_task_self (k : Nat) (f : Task → Task) (s : State) : (s.onTask k f).task k = f (s.task k) := by
  simp [State.task]

theorem State.onTask_task_other {j k : Nat} (f : Task → Task) (s : State) (hj : j ≠ k) : (s.onTask k f).task j = s.task j := by
  simp only [State.task, State.onTask_press, tabGet_tabMod, if_neg hj]

@[simp] theorem State.nextCmd_task_self (k : Nat) (s : State) : (s.nextCmd k).task k = { s.task k with pc := (s.task k).pc + 1 } :=
  State.onTask_task_self k _ s

theorem State.nextCmd_task_other {j k : Nat} (s : State) (hj : j ≠ k) : (s.nextCmd k).task j = s.task j :=
  State.onTask_task_other _ s hj

/-! ### The end of a task within one cycle (R263 to R266) -/

theorem State.taskStop_task_self (k : Nat) (st : TaskSt) (cause : Nat) (s : State) :
    ((s.taskStop k st cause).task k).st = st := by
  have hcount : (s.taskStop k st cause).task k = ((s.release k).onTask k _).task k := rfl
  rw [hcount, State.onTask_task_self]

theorem State.taskStop_task_other {j k : Nat} (st : TaskSt) (cause : Nat) (s : State) (hj : j ≠ k) :
    (s.taskStop k st cause).task j = s.task j :=
  State.onTask_task_other _ (s.release k) hj

theorem State.taskFree_task_other {j k : Nat} (s : State) (hj : j ≠ k) : (s.taskFree k).task j = s.task j := by
  unfold State.taskFree
  split
  · rfl
  · exact State.onTask_task_other _ s hj

/-- A slot that is not live is not live after it is freed where it may be. -/
theorem State.taskFree_notLive {k : Nat} {s : State} (h : (s.task k).st.live = false) :
    ((s.taskFree k).task k).st.live = false := by
  unfold State.taskFree
  split
  · exact h
  · rw [State.onTask_task_self]
    rfl

/-- The slot that ends is live no more. -/
theorem State.endTask_notLive_self {e : Nat × TaskSt × Nat} (he : e.2.1.live = false) (s : State) :
    ((s.endTask e).task e.1).st.live = false :=
  State.taskFree_notLive (by rw [State.taskStop_task_self]; exact he)

theorem State.endTask_task_other {j : Nat} {e : Nat × TaskSt × Nat} (s : State) (hj : j ≠ e.1) :
    (s.endTask e).task j = s.task j := by
  rw [State.endTask, State.taskFree_task_other _ hj, State.taskStop_task_other _ _ _ hj]

/-- The end of one slot makes no slot live. -/
theorem State.endTask_notLive {k : Nat} {e : Nat × TaskSt × Nat} {s : State} (he : e.2.1.live = false)
    (hk : (s.task k).st.live = false) : ((s.endTask e).task k).st.live = false := by
  by_cases hke : k = e.1
  · subst hke
    exact State.endTask_notLive_self he s
  · rwa [State.endTask_task_other s hke]

/-- A decrement finds only WAITING slots: it makes no slot live that was not. -/
theorem State.decrement_notLive {k : Nat} (j : Nat) {s : State} (hk : (s.task k).st.live = false) :
    ((s.decrement j).task k).st.live = false := by
  unfold State.decrement
  split
  · next hwait =>
    obtain ⟨-, hst, -⟩ := hwait
    have hkj : k ≠ j := fun h => by rw [h, hst] at hk; exact Bool.noConfusion hk
    rwa [State.onTask_task_other _ s hkj]
  · exact hk

/-- A message that ends nothing makes no slot live. -/
theorem State.taskMsg_notLive {k : Nat} (was : State) (m : TaskMsg) {s : State} (hk : (s.task k).st.live = false) :
    ((s.taskMsg was m).task k).st.live = false := by
  unfold State.taskMsg
  split
  · exact hk
  · split
    · split <;> exact hk
    · exact State.decrement_notLive m.1 hk

/-! ### The dispatchers' cycles (R264 to R266) -/

/-- Each entry ends its slot: it leaves it DONE or CANCELLED. -/
def AllEnd (l : List (Nat × TaskSt × Nat)) : Prop := ∀ e ∈ l, e.2.1.live = false

theorem allEnd_cancelled {α : Type} (slot : α → Nat) (l : List α) (cause : Nat) :
    AllEnd (l.map (fun x => (slot x, TaskSt.cancelled, cause))) := by
  intro e he
  obtain ⟨x, -, rfl⟩ := List.mem_map.mp he
  rfl

theorem AllEnd.append {l m : List (Nat × TaskSt × Nat)} (hl : AllEnd l) (hm : AllEnd m) : AllEnd (l ++ m) := fun e he =>
  (List.mem_append.mp he).elim (hl e) (hm e)

theorem AllEnd.of_subset {l m : List (Nat × TaskSt × Nat)} (hm : AllEnd m) (h : l ⊆ m) : AllEnd l := fun e he => hm e (h he)

/-- Every slot that a cycle ends is one given or one that a cancelled predecessor takes along. -/
theorem State.spread_allEnd (s : State) (n : Nat) {l : List (Nat × TaskSt × Nat)} (h : AllEnd l) : AllEnd (s.spread n l) := by
  induction n generalizing l with
  | zero => exact h
  | succ n ih =>
    unfold State.spread
    dsimp only
    split
    · exact h
    · exact ih (h.append (allEnd_cancelled (fun k => k) _ 3))

/-- The slots given are among those that end. -/
theorem State.subset_spread (s : State) (n : Nat) (l : List (Nat × TaskSt × Nat)) : l ⊆ s.spread n l := by
  induction n generalizing l with
  | zero => exact List.Subset.refl l
  | succ n ih =>
    unfold State.spread
    dsimp only
    split
    · exact List.Subset.refl l
    · exact List.Subset.trans (List.subset_append_left l _) (ih _)

theorem firstEnds_append_subset (l acc : List (Nat × TaskSt × Nat)) :
    l.foldl (fun acc e => if acc.any (fun x => decide (x.1 = e.1)) then acc else acc ++ [e]) acc ⊆ acc ++ l := by
  induction l generalizing acc with
  | nil => simp
  | cons e l ih =>
    rw [List.foldl_cons]
    split
    · exact List.Subset.trans (ih acc) (by simp)
    · exact List.Subset.trans (ih (acc ++ [e])) (by simp)

theorem firstEnds_subset (l : List (Nat × TaskSt × Nat)) : firstEnds l ⊆ l := firstEnds_append_subset l []

/-- The slots that end in a cycle: those given, those that messages cancel, and those that go with them. -/
def State.cycleEnds (s : State) (ends : List (Nat × TaskSt × Nat)) (msgs : List TaskMsg) : List (Nat × TaskSt × Nat) :=
  s.spread 4096 (firstEnds ((ends ++ (msgs.filter (fun m => s.cancels m && (s.task m.1).st.live)).map
    (fun m : TaskMsg => (m.1, TaskSt.cancelled, 3))).filter (fun e => (s.task e.1).st.live)))

theorem State.cycleEnds_allEnd (s : State) {ends : List (Nat × TaskSt × Nat)} (hends : AllEnd ends) (msgs : List TaskMsg) :
    AllEnd (s.cycleEnds ends msgs) := by
  refine s.spread_allEnd _ (.of_subset (.of_subset (hends.append ?_) List.filter_sublist.subset) (firstEnds_subset _))
  exact allEnd_cancelled (fun m : TaskMsg => m.1) _ 3

/-- A live slot given alone is among those that end. -/
theorem State.mem_cycleEnds {k cause : Nat} (st : TaskSt) {s : State} (hlive : (s.task k).st.live = true) :
    (k, st, cause) ∈ s.cycleEnds [(k, st, cause)] [] := by
  have hgiven : firstEnds (([(k, st, cause)] ++ []).filter (fun e => (s.task e.1).st.live)) = [(k, st, cause)] := by
    simp [firstEnds, hlive]
  refine s.subset_spread _ _ ?_
  rw [List.filter_nil, List.map_nil, hgiven]
  exact List.mem_singleton_self _

/-- A cycle: messages first, then the ends (R266). -/
theorem State.endCycle_state (ends : List (Nat × TaskSt × Nat)) (msgs : List TaskMsg) (s : State) :
    ∃ all : List TaskMsg, (s.endCycle ends msgs).2 =
      (s.cycleEnds ends msgs).foldl (fun u e => u.endTask e) (all.foldl (fun u m => u.taskMsg s m) s) :=
  ⟨_, rfl⟩

/-- What the messages and the ends of a cycle keep, the cycle keeps. -/
theorem State.endCycle_keeps {P : State → Prop} (hmsg : ∀ was m s, P s → P (s.taskMsg was m))
    (hend : ∀ e s, e.2.1.live = false → P s → P (s.endTask e)) {ends : List (Nat × TaskSt × Nat)} (hends : AllEnd ends)
    (msgs : List TaskMsg) {s : State} (h : P s) : P (s.endCycle ends msgs).2 := by
  obtain ⟨all, hstate⟩ := s.endCycle_state ends msgs
  rw [hstate]
  refine List.foldlRecOn _ _ ?_ (fun u hu e he => hend e u (s.cycleEnds_allEnd hends msgs e he) hu)
  exact List.foldlRecOn _ _ h (fun u hu m _ => hmsg s m u hu)

/-- What a cycle's number, messages and ends keep, the end of tasks keeps. -/
theorem State.endTasks_keeps {P : State → Prop} (hcycle : ∀ s, P s → P s.cycle) (hmsg : ∀ was m s, P s → P (s.taskMsg was m))
    (hend : ∀ e s, e.2.1.live = false → P s → P (s.endTask e)) (n : Nat) {ends : List (Nat × TaskSt × Nat)} (hends : AllEnd ends)
    (msgs : List TaskMsg) {s : State} (h : P s) : P (s.endTasks n ends msgs) := by
  induction n generalizing ends msgs s with
  | zero => exact h
  | succ n ih =>
    have hnext := State.endCycle_keeps hmsg hend hends msgs (hcycle s h)
    unfold State.endTasks
    dsimp only
    split
    · exact hnext
    · exact ih (fun e he => absurd he List.not_mem_nil) _ hnext

/-- No slot becomes live by the end of tasks. -/
theorem State.endTasks_notLive (k n : Nat) {ends : List (Nat × TaskSt × Nat)} (hends : AllEnd ends) (msgs : List TaskMsg) {s : State}
    (hk : (s.task k).st.live = false) : ((s.endTasks n ends msgs).task k).st.live = false :=
  State.endTasks_keeps (P := fun u => (u.task k).st.live = false) (fun _ hu => hu) (fun was m _ hu => State.taskMsg_notLive was m hu)
    (fun _ _ he hu => State.endTask_notLive he hu) n hends msgs hk

/-- A slot among those that end is not live when all have ended. -/
theorem State.foldl_endTask_notLive {l : List (Nat × TaskSt × Nat)} (hl : AllEnd l) {e : Nat × TaskSt × Nat} (he : e ∈ l) (s : State) :
    ((l.foldl (fun u e => u.endTask e) s).task e.1).st.live = false := by
  obtain ⟨before, after, rfl⟩ := List.append_of_mem he
  rw [List.foldl_append, List.foldl_cons]
  refine List.foldlRecOn after _ (motive := fun u : State => (u.task e.1).st.live = false) (State.endTask_notLive_self (hl e he) _) ?_
  exact fun u hu x hx => State.endTask_notLive (hl x (List.mem_append_right _ (List.mem_cons_of_mem _ hx))) hu

/-- A live slot that is given to a cycle alone ends in it. -/
theorem State.endCycle_notLive {k cause : Nat} {st : TaskSt} {s : State} (hst : st.live = false)
    (hlive : (s.task k).st.live = true) : (((s.endCycle [(k, st, cause)] []).2).task k).st.live = false := by
  have hone : AllEnd [(k, st, cause)] := fun e he => by rw [List.mem_singleton.mp he]; exact hst
  obtain ⟨all, hstate⟩ := s.endCycle_state [(k, st, cause)] []
  rw [hstate]
  exact State.foldl_endTask_notLive (s.cycleEnds_allEnd hone []) (State.mem_cycleEnds st hlive) _

/-- A live slot that ends is live no more, whatever its end brings to others. -/
theorem State.endTasks_notLive_given {k cause : Nat} {st : TaskSt} {s : State} (n : Nat) (hst : st.live = false)
    (hlive : (s.task k).st.live = true) : ((s.endTasks (n + 1) [(k, st, cause)] []).task k).st.live = false := by
  have hfirst := State.endCycle_notLive (cause := cause) (s := s.cycle) hst hlive
  unfold State.endTasks
  dsimp only
  split
  · exact hfirst
  · exact State.endTasks_notLive k n (fun e he => absurd he List.not_mem_nil) _ hfirst

theorem State.endAll_notLive {k cause : Nat} {st : TaskSt} {s : State} (hst : st.live = false)
    (hlive : (s.task k).st.live = true) : ((s.endAll [(k, st, cause)]).task k).st.live = false := by
  rw [State.endAll]
  exact State.endTasks_notLive_given 4096 hst hlive

/-- The end of tasks takes no engine offline and brings none back. -/
theorem State.endAll_offline {k cause : Nat} {st : TaskSt} (hst : st.live = false) (s : State) :
    (s.endAll [(k, st, cause)]).press.offline = s.press.offline := by
  rw [State.endAll]
  refine State.endTasks_keeps (P := fun u => u.press.offline = s.press.offline) (fun _ hu => hu) (fun was m u hu => ?_)
    (fun e u _ hu => ?_) 4097 (fun e he => by rw [List.mem_singleton.mp he]; exact hst) [] rfl
  · refine Eq.trans ?_ hu
    unfold State.taskMsg State.decrement
    (repeat' split) <;> rfl
  · refine Eq.trans ?_ hu
    unfold State.endTask State.taskFree
    split <;> rfl

/-! ### What follows for the press stage (R270, R271) -/

/-- The fields of the press that the end and the start of its stage write. -/
def Press.staged (x : Press) (at' beat us : Nat) : Press := { x with stageAt := at', lastBeat := beat, lastUs := us }

/-- A state whose press is that of another but for the fields of its stage. -/
def State.StageOf (s u : State) : Prop := ∃ at' beat us, u.press = s.press.staged at' beat us

theorem State.StageOf.refl (s : State) : s.StageOf s := ⟨_, _, _, rfl⟩

theorem State.StageOf.trans {s u v : State} (hsu : s.StageOf u) (huv : u.StageOf v) : s.StageOf v := by
  obtain ⟨_, _, _, hu⟩ := hsu
  obtain ⟨at', beat, us, hv⟩ := huv
  exact ⟨at', beat, us, by rw [hv, hu]; rfl⟩

theorem State.StageOf.task_eq {s u : State} (h : s.StageOf u) (k : Nat) : u.task k = s.task k := by
  obtain ⟨_, _, _, hpress⟩ := h
  rw [State.task, hpress]
  rfl

theorem State.StageOf.offline_eq {s u : State} (h : s.StageOf u) : u.press.offline = s.press.offline := by
  obtain ⟨_, _, _, hpress⟩ := h
  rw [hpress]
  rfl

theorem State.startPress_stageOf (s : State) : s.StageOf s.startPress := by
  unfold State.startPress
  split
  · exact .refl s
  · split
    · exact ⟨_, _, _, rfl⟩
    · exact .refl s

theorem State.pressCheck_stageOf (n : Nat) (s : State) : s.StageOf (s.pressCheck n) := by
  unfold State.pressCheck
  split
  · exact .refl s
  · split
    · exact .trans ⟨_, _, _, rfl⟩ (State.startPress_stageOf _)
    · exact .refl s

theorem State.afterEnd_stageOf (beat : Option Nat) (failed : Bool) (s : State) : s.StageOf (s.afterEnd beat failed) := by
  unfold State.afterEnd
  split
  · exact .refl s
  · dsimp only
    split <;> exact State.pressCheck_stageOf _ _

/-- The end of a task with all that follows leaves the press as the dispatchers' cycles do, but for the fields of its stage. -/
theorem State.finish_stageOf (k : Nat) (st : TaskSt) (cause : Nat) (s : State) :
    (s.endAll [(k, st, cause)]).StageOf (s.finish k st cause) :=
  (State.afterEnd_stageOf _ _ _).trans (State.afterEnd_stageOf _ _ _)

/-- A live task that ends is live no more. -/
theorem State.finish_notLive {k cause : Nat} {st : TaskSt} {s : State} (hst : st.live = false) (hlive : (s.task k).st.live = true) :
    ((s.finish k st cause).task k).st.live = false := by
  rw [(State.finish_stageOf k st cause s).task_eq]
  exact State.endAll_notLive hst hlive

/-- The end of a task leaves every engine online that was, and offline that was. -/
theorem State.finish_offline {k cause : Nat} {st : TaskSt} (hst : st.live = false) (s : State) :
    (s.finish k st cause).press.offline = s.press.offline :=
  (State.finish_stageOf k st cause s).offline_eq.trans (State.endAll_offline hst s)

end Sys2Proof.Machine
end

section
/-! PROOFS. Tasks of the press: submission, cancellation, dispatch, completion and its item, templates, and the verdicts that
wait for VERDICT_QUEUE (08 R262 to R269, R285; 09 R302; log 12, log 72). -/

namespace Sys2Proof.Machine

/-! ### Submission (R262, R263, R268) -/

/-- A descriptor of the own package or of package 0 whose read meets no failure is not refused with cause 4. -/
theorem State.descriptor_readable {s : State} {addr : Nat} (hlocal : s.isLocal addr = true ∨ packageOf addr = 0)
    (hread : s.ncReadFail .press (offsetOf addr) 32 = none) :
    ¬((s.isLocal addr = false ∧ packageOf addr ≠ 0) ∨ (s.ncReadFail .press (offsetOf addr) 32).isSome = true) := by
  rw [hread]
  rcases hlocal with h | h <;> simp [h]

section Submit

variable {t : Nat} {s : State} {addr : Nat} {b : List Byte} {d : TaskDesc}

/-- A descriptor that can be read into a slot that is not FREE is refused with cause 1, before causes 2 and 3 are looked at
(log 12). -/
theorem State.submit_taken (hup : s.tileUp t = true) (haddr : addr = s.reg (0x10 + t) 0x10 + 2 ^ 32 * s.reg (0x10 + t) 0x14)
    (hlocal : s.isLocal addr = true ∨ packageOf addr = 0) (hread : s.ncReadFail .press (offsetOf addr) 32 = none)
    (hb : b = s.bytesAt (offsetOf addr) 32) (hd : d = parseDesc b) (hst : (s.task (t * 1024 + d.taskId)).st ≠ .free) :
    s.submit t = s.submitRefuse t 1 := by
  have hreadable := State.descriptor_readable hlocal hread
  subst hd hb haddr
  simp only [State.submit, hup, Bool.true_eq_false, ↓reduceIte, if_neg hreadable, if_pos hst]

/-- A descriptor in order takes its FREE slot, in a cycle of its own. -/
theorem State.submit_placed (hup : s.tileUp t = true) (haddr : addr = s.reg (0x10 + t) 0x10 + 2 ^ 32 * s.reg (0x10 + t) 0x14)
    (hlocal : s.isLocal addr = true ∨ packageOf addr = 0) (hread : s.ncReadFail .press (offsetOf addr) 32 = none)
    (hb : b = s.bytesAt (offsetOf addr) 32) (hd : d = parseDesc b) (hst : (s.task (t * 1024 + d.taskId)).st = .free)
    (hslot : tabGet 0 s.press.templateCount t ≤ d.taskId) (hok : descOk t b = true) :
    s.submit t = (s.cycle.place t d none).onPress (fun p =>
      { p with refused := tabPut false p.refused t false, refuseCause := tabPut 0 p.refuseCause t 0 }) := by
  have hreadable := State.descriptor_readable hlocal hread
  subst hd hb haddr
  simp only [State.submit, hup, hst, hok, Bool.true_eq_false, ne_eq, not_true_eq_false, ↓reduceIte, if_neg hreadable,
    if_neg (Nat.not_lt.mpr hslot)]

end Submit

theorem State.place_task_self (t : Nat) (d : TaskDesc) (beat : Option Nat) (s : State) :
    (s.place t d beat).task (t * 1024 + d.taskId) =
      { st := if d.depCount = 0 then .ready else .waiting, desc := d, dep := d.depCount, readyNo := s.press.readyNo, beat := beat } :=
  State.onTask_task_self _ _ s

theorem State.place_task_other {t j : Nat} {d : TaskDesc} (beat : Option Nat) (s : State) (hj : j ≠ t * 1024 + d.taskId) :
    (s.place t d beat).task j = s.task j := State.onTask_task_other _ s hj

/-! ### Cancellation and dispatch (R263, R266, R267) -/

theorem State.cancel_live {t slot : Nat} {s : State} (hup : s.tileUp t = true) (hlive : (s.task (t * 1024 + slot)).st.live = true) :
    s.cancel t slot = s.finish (t * 1024 + slot) .cancelled 1 := by
  simp only [State.cancel, hup, hlive, Bool.true_eq_false, ↓reduceIte]

theorem State.cancel_notLive {t slot : Nat} {s : State} (hup : s.tileUp t = true)
    (hlive : (s.task (t * 1024 + slot)).st.live = false) :
    s.cancel t slot = s.onPress (fun p => { p with cancelMissed := tabPut false p.cancelMissed t true }) := by
  simp only [State.cancel, hup, hlive, Bool.true_eq_false, Bool.false_eq_true, ↓reduceIte]

theorem exec_taskDispatch_next {t : Fin 4} {v : Unit3} {k : Nat} {s : State} (hunit : unitOf t v ≠ 8 ∨ t = 0)
    (hfree : s.unitFree (unitOf t v) = true) (hnext : s.nextTask (unitOf t v) = some k) :
    exec (.taskDispatch t v) s = .next ((s.setRuns (unitOf t v) (some k)).onTask k (fun x =>
      { x with st := .running, startedAt := s.now, pc := 0 })) := by
  refine congrArg Host.Outcome.next ((if_pos ⟨hunit, hfree⟩).trans ?_)
  rw [hnext]

theorem State.setRuns_runs_self (u : Nat) (k : Option Nat) (s : State) : (s.setRuns u k).runs u = k := by
  simp [State.runs, State.setRuns]

/-! ### The end of the commands (R259, R261, R263) -/

section Complete

variable {u k : Nat} {s : State} (hhalt : s.beat.hardHalt = false) (hruns : s.runs u = some k)

include hhalt hruns

/-- A task with no command left ends DONE. -/
theorem State.completeTask_ranOut (hcount : (s.task k).desc.count ≤ (s.task k).pc) :
    s.completeTask u false = s.finish k .done 0 := by
  simp only [State.completeTask, hhalt, hruns, hcount, Bool.false_eq_true, ↓reduceIte]

variable {c : PCmd} (hunit : u ≠ 8) (hcount : (s.task k).pc < (s.task k).desc.count) (hdue : s.dueCmd k = .inr c) (hop : c.op = 0)

include hunit hcount hdue hop

/-- END in order ends its task DONE. -/
theorem State.completeTask_end (needEnd : Bool) (hbare : c.bareOk = true) : s.completeTask u needEnd = s.finish k .done 0 := by
  simp only [State.completeTask, hhalt, hruns, hdue, hunit, hop, hbare, Nat.not_le.mpr hcount, Bool.false_eq_true, ne_eq, not_true_eq_false,
    false_and, ↓reduceIte]

/-- END out of order ends its task with cause 5. -/
theorem State.completeTask_badEnd (needEnd : Bool) (hbare : c.bareOk = false) : s.completeTask u needEnd = s.engineStop u k 5 none := by
  simp only [State.completeTask, hhalt, hruns, hdue, hunit, hop, hbare, Nat.not_le.mpr hcount, Bool.false_eq_true, ne_eq, not_true_eq_false,
    false_and, ↓reduceIte, State.unitStop]

end Complete

/-! ### Completion items (R268; 09 R302) -/

section Post

variable {t : Fin 4} {slot : Fin 1024} {k : Nat} {s : State} (hk : k = t.val * 1024 + slot.val)

include hk

theorem exec_taskCompletionPost_noItem (hended : (s.task k).st = .done ∨ (s.task k).st = .cancelled) (hpost : s.mustPost k = false) :
    exec (.taskCompletionPost t slot) s = .next (s.onTask k (fun _ => {})) := by
  subst hk
  refine congrArg Host.Outcome.next ((if_pos hended).trans ?_)
  simp only [hpost, Bool.false_and, Bool.false_eq_true, ↓reduceIte]

theorem exec_taskCompletionPost_item {v : State} (hended : (s.task k).st = .done ∨ (s.task k).st = .cancelled)
    (hpost : s.mustPost k = true) (hfirst : s.postFirst k = true) (hpush : s.hwPush (s.ent 0x5000 8) [s.taskItem k] = some v) :
    exec (.taskCompletionPost t slot) s = .next (v.onTask k (fun _ => {})) := by
  subst hk
  refine congrArg Host.Outcome.next ((if_pos hended).trans ?_)
  simp only [hpost, hfirst, hpush, Bool.not_true, Bool.and_false, Bool.false_eq_true, ↓reduceIte]

/-- An item behind another of its dispatcher waits (log 72). -/
theorem exec_taskCompletionPost_waits (hpost : s.mustPost k = true) (hfirst : s.postFirst k = false) :
    exec (.taskCompletionPost t slot) s = .next s := by
  subst hk
  refine congrArg Host.Outcome.next (ite_eq_right_iff.mpr fun _ => ?_)
  simp only [hpost, hfirst, Bool.not_false, Bool.and_true, ↓reduceIte]

end Post

/-! ### Templates and verdicts (R269, R285) -/

theorem exec_templateInstantiate_due {w : BeatWork} {s : State} (hhalt : s.beat.hardHalt = false) (hrun : s.pressRunning = some w)
    (honce : w.instantiated = false) (hcaptured : w.captured = true) (hfree : s.templateFree = true) :
    exec .templateInstantiate s = .next (s.instantiate w.beat) := by
  refine congrArg Host.Outcome.next ?_
  rw [hrun]
  exact if_pos ⟨honce, hcaptured, hfree, hhalt⟩

/-- Of the works of the beats, instantiation marks that of its beat. -/
theorem State.instantiate_work (n : Nat) (s : State) : (s.instantiate n).beat.work =
    modFirst (fun x => decide (x.beat = n)) (fun x => { x with instantiated := true }) s.beat.work := by
  have hplaced : ((List.range 4).foldl (fun u t => if u.tileUp t then (u.template t).foldl (fun a d => a.place t d (some n)) u else u)
      s.cycle).get .beat = s.get .beat := by
    refine State.get_foldl _ _ _ _ fun u t => ?_
    rw [State.get_ite, State.get_foldl _ _ u .beat (fun a d => State.place_get _ d _ a .beat (by decide)), ite_self]
  rw [← State.beat_of_get hplaced]
  rfl

theorem exec_verdictQueueWrite_taken {s u : State} {l : List Byte} {rest : List (List Byte)} (hwaits : s.press.verdictQ = l :: rest)
    (hqueue : s.ent 0x5200 3 ≠ 0xFF) (hpush : s.hwPush (s.ent 0x5200 3) (itemsOf 4 l) = some u) :
    exec .verdictQueueWrite s = .next (u.onPress (fun p => { p with verdictQ := rest })) := by
  refine congrArg Host.Outcome.next ?_
  rw [hwaits]
  refine (if_neg hqueue).trans ?_
  rw [hpush]

/-- A hardware producer's packet leaves the producer's press as it was. -/
theorem State.hwPush_press {q : Nat} {items : List (BitVec 128)} {s t : State} (h : s.hwPush q items = some t) : t.press = s.press :=
  State.press_of_get (State.hwPush_get q items s .press (by decide) t h)

theorem State.hwPush_sameBut {q : Nat} {items : List (BitVec 128)} {s t : State} (h : s.hwPush q items = some t) :
    SameBut [.nvm, .queue, .od, .mem, .fresh, .out] s t := fun part hpart => State.hwPush_get q items s part hpart t h

/-! ### The statement -/

/-- Settles O34: every clause is the state its command's lemma above gives; a task that ends is live no more by the law of the
dispatchers' cycles. -/
theorem pressTasks : Obligations.PressTasks := by
  refine ⟨fun t d addr b s hup haddr hlocal hread hb hd hst hslot hok => ?_,
    fun t d addr b s hup haddr hlocal hread hb hd hst => ?_,
    fun t slot k s hk hup hlive => ?_, fun t slot k s hk hup hlive => ?_, fun t v k s hunit hfree hnext => ?_,
    fun t v k s hhalt hunit hruns hcount hlive => ?_, fun e k c s hhalt hruns hcount hdue hop hbare hlive => ?_,
    fun e k c s hhalt hruns hcount hdue hop hbare => ?_, fun t slot k s hk hended hpost => ?_,
    fun t slot k s v hk hended hpost hfirst hpush => ?_, fun t slot k s hk hpost hfirst => ?_,
    fun s w hhalt hrun honce hcaptured hfree => ?_, fun s u l rest hwaits hqueue hpush => ?_⟩
  · refine ⟨_, congrArg Host.Outcome.next (State.submit_placed hup haddr hlocal hread hb hd hst hslot hok), ?_⟩
    have htask := State.place_task_self t d none s.cycle
    refine ⟨congrArg Task.st htask, congrArg Task.desc htask, congrArg Task.dep htask, tabGet_tabPut_self false s.press.refused t false,
      fun j hj => State.place_task_other none s.cycle hj, fun part hpart => ?_⟩
    exact (State.onPress_get _ _ part hpart).trans ((State.place_get _ _ _ _ part hpart).trans (State.cycle_get s part hpart))
  · exact ⟨_, congrArg Host.Outcome.next (State.submit_taken hup haddr hlocal hread hb hd hst), rfl,
      tabGet_tabPut_self false s.press.refused t true, tabGet_tabPut_self 0 s.press.refuseCause t 1, rfl, State.submitRefuse_get _ _ s⟩
  · subst hk
    exact ⟨_, congrArg Host.Outcome.next (State.cancel_live hup hlive), rfl, State.finish_notLive rfl hlive, State.finish_get _ _ _ s⟩
  · subst hk
    exact ⟨_, congrArg Host.Outcome.next (State.cancel_notLive hup hlive),
      tabGet_tabPut_self false s.press.cancelMissed t true, rfl, State.onPress_get _ s⟩
  · refine ⟨_, exec_taskDispatch_next hunit hfree hnext, State.onTask_task_self _ _ _, State.setRuns_runs_self (unitOf t v) (some k) s,
      fun j hj => State.onTask_task_other _ _ hj, fun part hpart => ?_⟩
    exact (State.onTask_get _ _ _ part hpart).trans (State.setRuns_get _ _ s part hpart)
  · exact ⟨_, congrArg Host.Outcome.next ((if_pos hunit).trans (State.completeTask_ranOut hhalt hruns hcount)), rfl,
      State.finish_notLive rfl hlive, State.finish_get _ _ _ s⟩
  · have hdone := State.completeTask_end hhalt hruns (Nat.ne_of_lt e.isLt) hcount hdue hop true hbare
    exact ⟨_, congrArg Host.Outcome.next hdone, rfl, State.finish_notLive rfl hlive, State.finish_get _ _ _ s⟩
  · exact congrArg Host.Outcome.next (State.completeTask_badEnd hhalt hruns (Nat.ne_of_lt e.isLt) hcount hdue hop true hbare)
  · exact ⟨_, exec_taskCompletionPost_noItem hk hended hpost, congrArg Task.st (State.onTask_task_self k _ s),
      fun j hj => State.onTask_task_other _ s hj, State.onTask_get k _ s⟩
  · exact ⟨_, exec_taskCompletionPost_item hk hended hpost hfirst hpush, rfl, congrArg Task.st (State.onTask_task_self k _ v), rfl,
      ((State.hwPush_sameBut hpush).trans (State.onTask_get k _ v)).mono (by simp)⟩
  · exact exec_taskCompletionPost_waits hk hpost hfirst
  · exact ⟨_, exec_templateInstantiate_due hhalt hrun honce hcaptured hfree, rfl, State.instantiate_work w.beat s,
      State.instantiate_get w.beat s⟩
  · refine ⟨_, exec_verdictQueueWrite_taken hwaits hqueue hpush, ?_, rfl,
      ((State.hwPush_sameBut hpush).trans (State.onPress_get _ u)).mono (by simp)⟩
    rw [State.onPress_press, State.hwPush_press hpush]

end Sys2Proof.Machine
end

section
/-! PROOFS. The commands of the press engines: the fetch, the accesses, the bytes written, and what ends a task instead (08 R256,
R258, R259, R261, R290; 01 R24; log 27). -/

namespace Sys2Proof.Machine

/-! ### The fetch of a command (R258, R261, R290) -/

section Fetch

variable {e : Nat} {s : State}

/-- A hard-halted package fetches no command. -/
theorem State.fetchCmd_halted (op : Nat) (bad : Bool) (hhalt : s.beat.hardHalt = true) : s.fetchCmd e op bad = .inl s := if_pos hhalt

variable {k : Nat} (hhalt : s.beat.hardHalt = false) (hruns : s.runs e = some k) (hcount : (s.task k).pc < (s.task k).desc.count)

include hhalt hruns hcount

/-- A fault of the engine's datapath comes before the command. -/
theorem State.fetchCmd_fault (op : Nat) : s.fetchCmd e op true = .inl (s.engineFault e k) := by
  simp only [State.fetchCmd, hhalt, hruns, Nat.not_le.mpr hcount, Bool.false_eq_true, ↓reduceIte]

/-- A command whose opcode is reserved ends the task with cause 5. -/
theorem State.fetchCmd_reserved {c : PCmd} (op : Nat) (hdue : s.dueCmd k = .inr c) (hop : 8 < c.op) :
    s.fetchCmd e op false = .inl (s.engineStop e k 5 none) := by
  have hnotEnd : c.op ≠ 0 := by omega
  simp only [State.fetchCmd, hhalt, hruns, hdue, hop, hnotEnd, Nat.not_le.mpr hcount, Bool.false_eq_true, ↓reduceIte]

end Fetch

/-! ### The three outcomes of a command -/

section Run

variable {e op : Nat} {bad : Bool} {s : State}

/-- Where no command is fetched, the fetch gives the state after it. -/
theorem State.runCmd_notFetched (acc : PCmd → List (Nat × Nat × Bool)) (out : State → PCmd → List Byte) {u : State}
    (hfetch : s.fetchCmd e op bad = .inl u) : s.runCmd e op bad acc out = u := by
  simp only [State.runCmd, hfetch]

theorem State.frameLoad_notFetched {u : State} (hfetch : s.fetchCmd e 7 bad = .inl u) : s.frameLoad e bad = u := by
  simp only [State.frameLoad, hfetch]

theorem State.slateCommit_notFetched {u : State} (hfetch : s.fetchCmd e 8 bad = .inl u) : s.slateCommit e bad = u := by
  simp only [State.slateCommit, hfetch]

/-- None of the eight commands fetched: each leaves the state the fetch gives. -/
theorem exec_press_notFetched {e : Fin 8} {bad : Bool} {s u : State} (hfetch : ∀ op, s.fetchCmd e op bad = .inl u) :
    exec (.matmul e bad) s = .next u ∧ exec (.conv e bad) s = .next u ∧ exec (.pressAdd e bad) s = .next u ∧
    exec (.maxpool e bad) s = .next u ∧ exec (.lut e bad) s = .next u ∧ exec (.copy e bad) s = .next u ∧
    exec (.frameLoad e bad) s = .next u ∧ exec (.slateCommit e bad) s = .next u :=
  ⟨congrArg Host.Outcome.next (State.runCmd_notFetched _ _ (hfetch 1)), congrArg Host.Outcome.next (State.runCmd_notFetched _ _ (hfetch 2)),
    congrArg Host.Outcome.next (State.runCmd_notFetched _ _ (hfetch 3)), congrArg Host.Outcome.next (State.runCmd_notFetched _ _ (hfetch 4)),
    congrArg Host.Outcome.next (State.runCmd_notFetched _ _ (hfetch 5)), congrArg Host.Outcome.next (State.runCmd_notFetched _ _ (hfetch 6)),
    congrArg Host.Outcome.next (State.frameLoad_notFetched (hfetch 7)), congrArg Host.Outcome.next (State.slateCommit_notFetched (hfetch 8))⟩

variable {k : Nat} {c : PCmd} {acc : PCmd → List (Nat × Nat × Bool)}

/-- The first access that fails ends the task with its cause. -/
theorem State.runCmd_accessFails (out : State → PCmd → List Byte) {cause : Nat} {f : NcFail}
    (hfetch : s.fetchCmd e op bad = .inr (k, c)) (hfails : s.engineFails (acc c) = some (cause, f)) :
    s.runCmd e op bad acc out = s.engineStop e k cause (some f) := by
  simp only [State.runCmd, hfetch, hfails]

/-- With every access allowed, the command's bytes are written and the task goes on. -/
theorem State.runCmd_completes (out : State → PCmd → List Byte) (hfetch : s.fetchCmd e op bad = .inr (k, c))
    (hfails : s.engineFails (acc c) = none) : s.runCmd e op bad acc out = (s.ncWrite c.dst (out s c)).nextCmd k := by
  simp only [State.runCmd, hfetch, hfails]

end Run

/-! ### The state after a command's write -/

theorem State.ncWrite_task (a : Nat) (b : List Byte) (s : State) (k : Nat) : (s.ncWrite a b).task k = s.task k :=
  State.task_of_get (State.ncWrite_get a b s .press (by decide)) k

theorem State.ncWrite_sameBut (a : Nat) (b : List Byte) (s : State) : SameBut [.memu, .choir, .mem, .fresh, .out] s (s.ncWrite a b) :=
  State.ncWrite_get a b s

theorem State.nextCmd_sameBut (k : Nat) (s : State) : SameBut [.press] s (s.nextCmd k) := State.nextCmd_get k s

/-- What a command that completes leaves: the bytes written, its own task one command further, and the rest. -/
theorem State.written_nextCmd (a : Nat) (b : List Byte) (k : Nat) (s : State) :
    ((s.ncWrite a b).nextCmd k).mem = (s.ncWrite a b).mem ∧
    ((s.ncWrite a b).nextCmd k).task k = { s.task k with pc := (s.task k).pc + 1 } ∧
    (∀ j, j ≠ k → ((s.ncWrite a b).nextCmd k).task j = s.task j) ∧
    SameBut [.press, .memu, .choir, .mem, .fresh, .out] s ((s.ncWrite a b).nextCmd k) := by
  refine ⟨rfl, ?_, fun j hj => ?_, ((State.ncWrite_sameBut a b s).trans (State.nextCmd_sameBut k _)).mono (by simp)⟩
  · rw [State.nextCmd_task_self, State.ncWrite_task]
  · rw [State.nextCmd_task_other _ hj, State.ncWrite_task]

/-! ### A fault of the datapath (R290) -/

/-- The engine is offline, whatever the end of its task brings. -/
theorem State.engineFault_offline (e k : Nat) (s : State) : tabGet false (s.engineFault e k).press.offline e = true := by
  have hraised : ∀ u : State, (u.raiseCond 0x5000 (0x10 + e / 2) e []).press = u.press := fun u =>
    State.press_of_get (State.raiseCond_get _ _ _ _ u .press (by decide))
  have hbooked : ∀ (u : State) (payload : List Byte), ((u.count 0x5000 3 1).book 0xE300 (0x10 + k / 1024) 1 payload).press = u.press :=
    fun u payload => (State.press_of_get (State.book_get _ _ _ _ _ .press (by decide))).trans
      (State.press_of_get (State.count_get _ _ _ u .press (by decide)))
  unfold State.engineFault State.taskError
  rw [State.finish_offline rfl, hbooked, hraised]
  exact tabGet_tabPut_self false s.press.offline e true

/-! ### The statement -/

/-- Settles O35: the six commands are one operation with their accesses and their bytes, FRAME_LOAD and SLATE_COMMIT begin with
the same fetch. -/
theorem pressCommands : Obligations.PressCommands := by
  refine ⟨fun e k c s hfetch hok => ?_, fun e k cause c f s hfetch hfails => ?_, fun e k c s hfetch hok => ?_,
    fun e k cause c f s hfetch hfails => ?_, fun e k c s hfetch hok => ?_, fun e k cause c f s hfetch hfails => ?_,
    fun e k c s hfetch hok => ?_, fun e k cause c f s hfetch hfails => ?_, fun e k c s hfetch hok => ?_,
    fun e k cause c f s hfetch hfails => ?_, fun e k c s hfetch hok => ?_, fun e k cause c f s hfetch hfails => ?_,
    fun e k c s hhalt hruns hcount hdue hop => ?_, fun e k s hhalt hruns hcount => ?_, fun e k s => State.engineFault_offline e k s,
    fun e b s hhalt => ?_⟩
  · exact ⟨_, congrArg Host.Outcome.next (State.runCmd_completes _ hfetch hok), rfl, State.written_nextCmd _ _ k s⟩
  · exact congrArg Host.Outcome.next (State.runCmd_accessFails _ hfetch hfails)
  · exact ⟨_, congrArg Host.Outcome.next (State.runCmd_completes _ hfetch hok), rfl, State.written_nextCmd _ _ k s⟩
  · exact congrArg Host.Outcome.next (State.runCmd_accessFails _ hfetch hfails)
  · exact ⟨_, congrArg Host.Outcome.next (State.runCmd_completes _ hfetch hok), rfl, State.written_nextCmd _ _ k s⟩
  · exact congrArg Host.Outcome.next (State.runCmd_accessFails _ hfetch hfails)
  · exact ⟨_, congrArg Host.Outcome.next (State.runCmd_completes _ hfetch hok), rfl, State.written_nextCmd _ _ k s⟩
  · exact congrArg Host.Outcome.next (State.runCmd_accessFails _ hfetch hfails)
  · exact ⟨_, congrArg Host.Outcome.next (State.runCmd_completes _ hfetch hok), rfl, State.written_nextCmd _ _ k s⟩
  · exact congrArg Host.Outcome.next (State.runCmd_accessFails _ hfetch hfails)
  · exact ⟨_, congrArg Host.Outcome.next (State.runCmd_completes _ hfetch hok), rfl, State.written_nextCmd _ _ k s⟩
  · exact congrArg Host.Outcome.next (State.runCmd_accessFails _ hfetch hfails)
  · exact exec_press_notFetched fun op => State.fetchCmd_reserved hhalt hruns hcount op hdue hop
  · exact exec_press_notFetched fun op => State.fetchCmd_fault hhalt hruns hcount op
  · exact exec_press_notFetched fun op => State.fetchCmd_halted op b hhalt

end Sys2Proof.Machine
end

section
/-! PROOFS. Frames, slates, GATHER, FINALISE and weight samples (08 R259, R260, R272, R273, R275, R277 to R281; log 28). -/

namespace Sys2Proof.Machine

/-! ### FRAME_LOAD (R260) -/

section FrameLoad

variable {e k : Nat} {c : PCmd} {s : State} (hfetch : s.fetchCmd e 7 false = .inr (k, c)) (hshape : s.loadShapeOk c = true)

include hfetch hshape

/-- With no frame to load, the task's input is invalid and the task goes on. -/
theorem State.frameLoad_noFrame (hframe : s.loadFrame c.param (s.task k).beat = none) :
    s.frameLoad e false = (s.onTask k (fun x => { x with inputInvalid := true })).nextCmd k := by
  simp only [State.frameLoad, hfetch, hshape, hframe, Bool.true_eq_false, ↓reduceIte]

/-- The frame selected is written, its time is the task's, and the task goes on. -/
theorem State.frameLoad_frame {f : Frame} (hframe : s.loadFrame c.param (s.task k).beat = some f)
    (hok : s.engineFails [(c.dst, c.m * c.h * c.n, true)] = none) :
    s.frameLoad e false = ((s.ncWrite c.dst (if s.headType c.param = 3 then spectralPlane f else framePlanes f c.m c.h c.n)).onTask k
      (fun x => { x with inputTime := some f.time })).nextCmd k := by
  simp only [State.frameLoad, hfetch, hshape, hframe, hok, Bool.true_eq_false, ↓reduceIte]

end FrameLoad

/-- A task that is changed and goes on. -/
theorem State.onTask_nextCmd_task_self (k : Nat) (f : Task → Task) (s : State) :
    ((s.onTask k f).nextCmd k).task k = { f (s.task k) with pc := (f (s.task k)).pc + 1 } := by
  rw [State.nextCmd_task_self, State.onTask_task_self]

theorem State.onTask_nextCmd_task_other {j k : Nat} (f : Task → Task) (s : State) (hj : j ≠ k) :
    ((s.onTask k f).nextCmd k).task j = s.task j := by
  rw [State.nextCmd_task_other _ hj, State.onTask_task_other _ _ hj]

theorem State.onTask_nextCmd_sameBut (k : Nat) (f : Task → Task) (s : State) : SameBut [.press] s ((s.onTask k f).nextCmd k) :=
  (SameBut.trans (State.onTask_get k f s) (State.nextCmd_sameBut k _)).mono (by simp)

/-! ### Slates (R272, R273) -/

@[simp] theorem Source.setBuf_buf_self (x : Source) (b : Bool) (v : SlateBuf) (l : Option Bool) :
    Source.buf { x.setBuf b v with latest := l } b = v := by cases b <;> rfl

theorem State.source_of_get {s t : State} (h : t.get .press = s.get .press) (i : Nat) : t.source i = s.source i := by
  rw [State.source, State.source, State.press_of_get h]

@[simp] theorem State.onSource_source_self (i : Nat) (f : Source → Source) (s : State) : (s.onSource i f).source i = f (s.source i) := by
  simp [State.source]

theorem State.onSource_source_other {i j : Nat} (f : Source → Source) (s : State) (hj : j ≠ i) :
    (s.onSource i f).source j = s.source j := by
  simp only [State.source, State.onSource_press, tabGet_tabMod, if_neg hj]

/-- The buffer of a source that takes its next slate: the one that does not hold the latest. -/
def Source.nextBuf (x : Source) : Bool := !(x.latest.getD true)

theorem Source.nextBuf_eq (x : Source) : x.nextBuf = !(x.latest.getD true) := rfl

/-- A source after a commit. -/
def Source.committed (x : Source) (tov : Nat) (valid : Bool) (weight : BitVec 64) : Source :=
  { x.setBuf x.nextBuf { tov := tov, valid := valid, committed := true, weight := weight } with latest := some x.nextBuf }

theorem Source.committed_buf (x : Source) (tov : Nat) (valid : Bool) (weight : BitVec 64) :
    (x.committed tov valid weight).buf x.nextBuf = { tov := tov, valid := valid, committed := true, weight := weight } :=
  Source.setBuf_buf_self x _ _ _

/-- A source is marked as committed, and the commit counts. -/
def State.noteCommit (i tov : Nat) (valid : Bool) (weight : BitVec 64) (s : State) : State :=
  (s.onSource i (fun y => y.committed tov valid weight)).count (sourceIdx i) 8 1

theorem State.noteCommit_source_self (i tov : Nat) (valid : Bool) (weight : BitVec 64) (s : State) :
    (s.noteCommit i tov valid weight).source i = (s.source i).committed tov valid weight :=
  State.onSource_source_self i _ s

theorem State.nextCmd_source (k i : Nat) (s : State) : (s.nextCmd k).source i = s.source i := rfl

theorem State.answer_source (code i : Nat) (s : State) : (s.answer code).source i = s.source i := rfl

theorem State.noteCommit_source_other {i j : Nat} (tov : Nat) (valid : Bool) (weight : BitVec 64) (s : State) (hj : j ≠ i) :
    (s.noteCommit i tov valid weight).source j = s.source j := State.onSource_source_other _ s hj

theorem State.noteCommit_task (i tov : Nat) (valid : Bool) (weight : BitVec 64) (s : State) (k : Nat) :
    (s.noteCommit i tov valid weight).task k = s.task k := rfl

theorem State.noteCommit_sameBut (i tov : Nat) (valid : Bool) (weight : BitVec 64) (s : State) :
    SameBut [.press, .od] s (s.noteCommit i tov valid weight) :=
  SameBut.trans (State.onSource_get i _ s) (State.count_get _ _ _ _)

/-- Two changes of a source that agree on what it holds are one. -/
theorem State.onSource_congr {i : Nat} {f g : Source → Source} {s : State} (h : f (s.source i) = g (s.source i)) :
    s.onSource i f = s.onSource i g :=
  congrArg (fun x => s.onPress (fun p => { p with sources := tabPut {} p.sources i x })) h

section Commit

variable {i : Nat} {s : State} (hstreams : s.portStreams (s.source i) = true)

include hstreams

/-- A slate of bytes is written to its buffer before it is marked. -/
theorem State.commitSlate_bytes (tov : Nat) (valid : Bool) (data : List Byte) (weight : BitVec 64) (hkind : (s.source i).kind ≠ 3) :
    s.commitSlate i tov valid data weight = (s.ncWrite ((s.source i).bufAddr (s.source i).nextBuf) data).noteCommit i tov valid weight := by
  have hsource : (s.ncWrite ((s.source i).bufAddr (s.source i).nextBuf) data).source i = s.source i :=
    State.source_of_get (State.ncWrite_get _ _ s .press (by decide)) i
  simp only [State.commitSlate, hstreams, hkind, Bool.true_eq_false, ↓reduceIte]
  exact congrArg (State.count _ 8 1) (State.onSource_congr (by simp only [Source.nextBuf] at hsource; rw [hsource]; rfl))

/-- A weight has no bytes. -/
theorem State.commitSlate_weight (tov : Nat) (valid : Bool) (data : List Byte) (weight : BitVec 64) (hkind : (s.source i).kind = 3) :
    s.commitSlate i tov valid data weight = s.noteCommit i tov valid weight := by
  simp only [State.commitSlate, hstreams, hkind, Bool.true_eq_false, ↓reduceIte]
  exact congrArg (State.count _ 8 1) (State.onSource_congr rfl)

end Commit

theorem State.slateCommit_commits {e k : Nat} {c : PCmd} {s : State} (hfetch : s.fetchCmd e 8 false = .inr (k, c))
    (hok : s.engineFails [(c.a, (s.source c.n).slateSize, false)] = none) : s.slateCommit e false =
      (s.commitSlate c.n ((s.task k).inputTime.getD s.now) (!(s.task k).inputInvalid) (s.bytesAt c.a (s.source c.n).slateSize) 0).nextCmd k := by
  simp only [State.slateCommit, hfetch, hok]

/-! ### GATHER and FINALISE (R277 to R281) -/

theorem exec_gather_fetched {k : Nat} {s : State} (hfetch : s.blendFetch 0x10 = .inr k) :
    exec .gather s = .next ((s.gatherBeat (s.blendBeat k)).nextCmd k) := by
  refine congrArg Host.Outcome.next ?_
  rw [hfetch]

theorem exec_finalise_beat {k n : Nat} {s : State} (hfetch : s.blendFetch 0x11 = .inr k) (hbeat : (s.task k).beat = some n) :
    exec .finalise s = .next ((s.nextCmd k).onWork n (fun w => { w with verdict := some (s.assemble n) })) := by
  refine congrArg Host.Outcome.next ?_
  simp only [hfetch, hbeat]

/-- A FINALISE outside a press stage assembles no verdict (log 28). -/
theorem exec_finalise_noBeat {k : Nat} {s : State} (hfetch : s.blendFetch 0x11 = .inr k) (hbeat : (s.task k).beat = none) :
    exec .finalise s = .next (s.nextCmd k) := by
  refine congrArg Host.Outcome.next ?_
  simp only [hfetch, hbeat]

theorem State.nextCmd_gathered (k : Nat) (s : State) : (s.nextCmd k).press.gathered = s.press.gathered := rfl

theorem State.gatherBeat_gathered_beat (n : Nat) (s : State) : (s.gatherBeat n).press.gathered.beat = n := rfl

theorem State.gatherBeat_gathered_zones (n : Nat) (s : State) : (s.gatherBeat n).press.gathered.zones = s.zonesAt n := rfl

/-! ### Weight samples (R275) -/

/-- What a sample in order does at source i: a WEIGHT source commits it. -/
def State.weightTo (v i : Nat) (s : State) : State :=
  if (s.source i).kind = 3 then s.commitSlate i s.now (!v.testBit 33) [] (BitVec.ofNat 64 v) else s

/-- A sample stored in WEIGHT_SAMPLE and counted. -/
def State.weightNoted (v : Nat) (s : State) : State := (s.writeEnt 0x5300 1 v).count 0x5300 2 1

/-- A sample with a reserved bit or the excluded weight is refused. -/
theorem State.weightWrite_refused {v : Nat} (hbad : 2 ^ 34 ≤ v ∨ v % 2 ^ 32 = 0x80000000) (s : State) :
    s.weightWrite v = (0x06090030, s) := if_pos hbad

/-- A sample in order is noted and offered to every source. -/
theorem State.weightWrite_accepted {v : Nat} (hbits : v < 2 ^ 34) (hweight : v % 2 ^ 32 ≠ 0x80000000) (s : State) :
    s.weightWrite v = (0, (List.range 8).foldl (fun a i => a.weightTo v i) (s.weightNoted v)) :=
  if_neg (not_or.mpr ⟨Nat.not_le.mpr hbits, hweight⟩)

theorem State.weightTo_other {v i : Nat} {s : State} (hkind : (s.source i).kind ≠ 3) : s.weightTo v i = s := if_neg hkind

/-- Sources that are no WEIGHT sources take nothing of a sample. -/
theorem State.foldl_weightTo_others (v : Nat) {l : List Nat} {s : State} (hkind : ∀ i ∈ l, (s.source i).kind ≠ 3) :
    l.foldl (fun a i => a.weightTo v i) s = s := by
  induction l with
  | nil => rfl
  | cons i l ih =>
    rw [List.foldl_cons, State.weightTo_other (hkind i List.mem_cons_self)]
    exact ih fun j hj => hkind j (List.mem_cons_of_mem i hj)

theorem State.weightNoted_source (v i : Nat) (s : State) : (s.weightNoted v).source i = s.source i := rfl

theorem State.weightNoted_now (v : Nat) (s : State) : (s.weightNoted v).now = s.now := rfl

theorem State.weightNoted_out (v : Nat) (s : State) : (s.weightNoted v).out = s.out := rfl

theorem State.weightNoted_sameBut (v : Nat) (s : State) : SameBut [.od, .wtime] s (s.weightNoted v) :=
  (SameBut.trans (State.writeEnt_get _ _ v s) (State.count_get _ _ _ _)).mono (by simp)

theorem State.writeEnt_ent (idx sub v i j : Nat) (s : State) : (s.writeEnt idx sub v).ent i j = (s.setEnt idx sub v).ent i j := rfl

/-- WEIGHT_SAMPLE reads the sample. -/
theorem State.weightNoted_sample (v : Nat) (s : State) : (s.weightNoted v).ent 0x5300 1 = v := by
  rw [State.weightNoted, State.count_ent_other _ _ (by decide), State.writeEnt_ent, State.setEnt_ent_self]

/-- The sample is counted. -/
theorem State.weightNoted_count (v : Nat) (s : State) : (s.weightNoted v).ent 0x5300 2 = satAdd max32 (s.ent 0x5300 2) 1 := by
  rw [State.weightNoted, State.count_ent_self, State.writeEnt_ent, State.setEnt_ent_other _ _ (by decide)]

/-- With source 0 the one WEIGHT source, bound to no port, a sample is its next slate. -/
theorem State.foldl_weightTo_zero (v : Nat) {s : State} (hkind : ∀ i, i < 8 → ((s.source i).kind = 3 ↔ i = 0))
    (hport : (s.source 0).port = 0xFF) : (List.range 8).foldl (fun a i => a.weightTo v i) s =
      s.noteCommit 0 s.now (!v.testBit 33) (BitVec.ofNat 64 v) := by
  have hzero : (s.source 0).kind = 3 := (hkind 0 (by decide)).mpr rfl
  have hstreams : s.portStreams (s.source 0) = true := by simp [State.portStreams, hport]
  have hfirst : s.weightTo v 0 = s.noteCommit 0 s.now (!v.testBit 33) (BitVec.ofNat 64 v) :=
    (if_pos hzero).trans (State.commitSlate_weight hstreams _ _ _ _ hzero)
  have hrange : List.range 8 = 0 :: List.range' 1 7 := rfl
  rw [hrange, List.foldl_cons, hfirst]
  refine State.foldl_weightTo_others v fun i hi => ?_
  obtain ⟨hlow, hhigh⟩ := List.mem_range'_1.mp hi
  have hne : i ≠ 0 := by omega
  rw [State.noteCommit_source_other _ _ _ _ hne]
  exact fun h => hne ((hkind i (by omega)).mp h)

section Served

variable {val : BitVec 64} {s : State} (hrun : s.boot.st = .running) (hnmt : s.comm.nmt ≠ .stopped)
  (hcheck : s.writeCheck 0x5300 1 val.toNat = 0)

include hrun hnmt hcheck

/-- A sample that passes the checks of its entry is written and answered. -/
theorem exec_weightSampleWrite_served :
    exec (.weightSampleWrite val) s = .next ((s.weightWrite val.toNat).2.answer (s.weightWrite val.toNat).1) :=
  congrArg Host.Outcome.next (State.guarded_of_accepted _ hrun hnmt hcheck)

/-- A sample in order that no WEIGHT source takes. -/
theorem exec_weightSampleWrite_noSource (hbits : val.toNat < 2 ^ 34) (hweight : val.toNat % 2 ^ 32 ≠ 0x80000000)
    (hkind : ∀ i, i < 8 → (s.source i).kind ≠ 3) :
    exec (.weightSampleWrite val) s = .next ((s.weightNoted val.toNat).answer 0) := by
  have hnone : (List.range 8).foldl (fun a i => a.weightTo val.toNat i) (s.weightNoted val.toNat) = s.weightNoted val.toNat :=
    State.foldl_weightTo_others val.toNat fun i hi => by
      rw [State.weightNoted_source]
      exact hkind i (List.mem_range.mp hi)
  rw [exec_weightSampleWrite_served hrun hnmt hcheck, State.weightWrite_accepted hbits hweight, hnone]

/-- A sample in order that source 0 alone takes. -/
theorem exec_weightSampleWrite_zero (hbits : val.toNat < 2 ^ 34) (hweight : val.toNat % 2 ^ 32 ≠ 0x80000000)
    (hkind : ∀ i, i < 8 → ((s.source i).kind = 3 ↔ i = 0)) (hport : (s.source 0).port = 0xFF) :
    exec (.weightSampleWrite val) s = .next (((s.weightNoted val.toNat).noteCommit 0 s.now (!val.toNat.testBit 33)
      (BitVec.ofNat 64 val.toNat)).answer 0) := by
  rw [exec_weightSampleWrite_served hrun hnmt hcheck, State.weightWrite_accepted hbits hweight,
    State.foldl_weightTo_zero val.toNat (fun i hi => by rw [State.weightNoted_source]; exact hkind i hi)
      (by rw [State.weightNoted_source]; exact hport), State.weightNoted_now]

end Served

/-! ### The statement -/

/-- Settles O36: each command by its lemma above; a commit marks the buffer that does not hold the latest slate, after its bytes
have been written. -/
theorem framesSlatesAndVerdicts : Obligations.FramesSlatesAndVerdicts := by
  refine ⟨fun e k c f s hfetch hshape hframe hok => ?_, fun e k c s hfetch hshape hframe => ?_,
    fun e k c s hfetch hok hstreams hkind => ?_, fun k s hfetch => ?_, fun k n s hfetch hbeat => ?_, fun k s hfetch hbeat => ?_,
    fun val s hrun hnmt hcheck hbad => ?_, fun val s hrun hnmt hcheck hbits hweight hkind => ?_,
    fun val s hrun hnmt hcheck hbits hweight hkind hport => ?_⟩
  · refine ⟨_, congrArg Host.Outcome.next (State.frameLoad_frame hfetch hshape hframe hok), rfl, ?_, ?_, fun j hj => ?_,
      ((State.ncWrite_sameBut _ _ s).trans (State.onTask_nextCmd_sameBut k _ _)).mono (by simp)⟩
    · rw [State.onTask_nextCmd_task_self]
    · rw [State.onTask_nextCmd_task_self, State.ncWrite_task]
    · rw [State.onTask_nextCmd_task_other _ _ hj, State.ncWrite_task]
  · refine ⟨_, congrArg Host.Outcome.next (State.frameLoad_noFrame hfetch hshape hframe), rfl, ?_, ?_,
      fun j hj => State.onTask_nextCmd_task_other _ s hj, State.onTask_nextCmd_sameBut k _ s⟩
    · rw [State.onTask_nextCmd_task_self]
    · rw [State.onTask_nextCmd_task_self]
  · have hbytes : (s.source c.n).kind ≠ 3 := by rw [hkind]; decide
    have hcommit := State.commitSlate_bytes hstreams ((s.task k).inputTime.getD s.now) (!(s.task k).inputInvalid)
      (s.bytesAt c.a (s.source c.n).slateSize) 0 hbytes
    have hsource := State.noteCommit_source_self c.n ((s.task k).inputTime.getD s.now) (!(s.task k).inputInvalid) 0
      (s.ncWrite ((s.source c.n).bufAddr (s.source c.n).nextBuf) (s.bytesAt c.a (s.source c.n).slateSize))
    rw [State.source_of_get (State.ncWrite_get _ _ s .press (by decide))] at hsource
    refine ⟨_, congrArg Host.Outcome.next (State.slateCommit_commits hfetch hok), rfl, ?_⟩
    rw [hcommit, State.nextCmd_source, hsource, ← Source.nextBuf_eq]
    refine ⟨?_, rfl, Source.committed_buf _ _ _ _,
      State.mem_of_get (((State.noteCommit_sameBut _ _ _ _ _).trans (State.nextCmd_sameBut k _)) .mem (by decide)), ?_⟩
    · rw [State.nextCmd_task_self, State.noteCommit_task, State.ncWrite_task]
    · exact (((State.ncWrite_sameBut _ _ s).trans (State.noteCommit_sameBut _ _ _ _ _)).trans (State.nextCmd_sameBut k _)).mono (by simp)
  · refine ⟨_, exec_gather_fetched hfetch, rfl, ?_, ?_,
      (SameBut.trans (State.gatherBeat_get _ s) (State.nextCmd_sameBut k _)).mono (by simp)⟩
    · rw [State.nextCmd_gathered, State.gatherBeat_gathered_beat]
    · rw [State.nextCmd_gathered, State.gatherBeat_gathered_zones]
  · exact ⟨_, exec_finalise_beat hfetch hbeat, rfl, rfl, congrArg Task.pc (State.nextCmd_task_self k s),
      ((State.nextCmd_sameBut k s).trans (State.onWork_get n _ _)).mono (by simp)⟩
  · exact exec_finalise_noBeat hfetch hbeat
  · rw [exec_weightSampleWrite_served hrun hnmt hcheck, State.weightWrite_refused hbad]
    rfl
  · refine ⟨_, exec_weightSampleWrite_noSource hrun hnmt hcheck hbits hweight hkind, ?_, ?_, ?_,
      ((State.weightNoted_sameBut _ s).trans (State.emit_get _ _)).mono (by simp)⟩
    · rw [State.answer_ent, State.weightNoted_sample]
    · rw [State.answer_ent, State.weightNoted_count]
    · rw [State.answer, State.emit_out, State.weightNoted_out]
  · refine ⟨_, exec_weightSampleWrite_zero hrun hnmt hcheck hbits hweight hkind hport, ?_, ?_,
      (((State.weightNoted_sameBut _ s).trans (State.noteCommit_sameBut _ _ _ _ _)).trans (State.emit_get _ _)).mono (by simp)⟩
    · rw [State.answer_source, State.noteCommit_source_self, State.weightNoted_source]
      exact Source.committed_buf (s.source 0) _ _ _
    · rw [State.answer_source, State.noteCommit_source_self, State.weightNoted_source]
      rfl

end Sys2Proof.Machine
end

section
/-! PROOFS. Queues: what the operations on one queue leave of the other queues, of the latches and of the entries, and what the
shared ones (interrupts, watermarks, a flush) change of their own queue (09 R305, R311 to R315). -/

namespace Sys2Proof.Machine

/-! ### Reads of one queue -/

/-- Equal Queue units hold equal queues. -/
theorem State.q_of_get {s t : State} (h : t.get .queue = s.get .queue) (r : Nat) : t.q r = s.q r := by
  rw [State.q, State.q, State.queue_of_get h]

@[simp] theorem State.onQ_q_self (q : Nat) (f : Queue → Queue) (s : State) : (s.onQ q f).q q = f (s.q q) := by
  simp [State.q]

theorem State.onQ_q_other {q r : Nat} (f : Queue → Queue) (s : State) (hr : r ≠ q) : (s.onQ q f).q r = s.q r := by
  simp only [State.q, State.onQ_queue, tabGet_tabMod, if_neg hr]

/-- Two changes of a queue that agree on what it holds are one. -/
theorem State.onQ_congr {q : Nat} {f g : Queue → Queue} {s : State} (h : f (s.q q) = g (s.q q)) : s.onQ q f = s.onQ q g :=
  congrArg (fun x => s.onQueues (fun u => { u with queues := tabPut {} u.queues q x })) h

@[simp] theorem State.setEnt_q (idx sub v r : Nat) (s : State) : (s.setEnt idx sub v).q r = s.q r := rfl
@[simp] theorem State.count_q (idx sub n r : Nat) (s : State) : (s.count idx sub n).q r = s.q r := rfl
@[simp] theorem State.book_q (code src sev : Nat) (l : List Byte) (r : Nat) (s : State) : (s.book code src sev l).q r = s.q r := rfl
@[simp] theorem State.answer_q (code r : Nat) (s : State) : (s.answer code).q r = s.q r := rfl
@[simp] theorem State.upTo_q (n r : Nat) (s : State) : (s.upTo n).q r = s.q r := rfl
@[simp] theorem State.draw_q (r : Nat) (s : State) : s.draw.q r = s.q r := rfl
@[simp] theorem State.refreshFc_q (r : Nat) (s : State) : s.refreshFc.q r = s.q r := rfl
@[simp] theorem State.latch_q (c q : Nat) (it : BitVec 128) (w : Word) (r : Nat) (s : State) : (s.latch c q it w).q r = s.q r := rfl
@[simp] theorem State.pushOutcome_q (c q n r : Nat) (s : State) : (s.pushOutcome c q n).q r = s.q r := rfl

/-! ### Entries under the operations of the Queue unit -/

/-- Two entries of one index have one storage key only where they are one. -/
theorem ekey_ne_of_sub {idx i j : Nat} (h : i ≠ j) : ekey idx i ≠ ekey idx j := fun heq => h (Nat.add_left_cancel heq)

@[simp] theorem State.onQ_ent (q : Nat) (f : Queue → Queue) (idx sub : Nat) (s : State) : (s.onQ q f).ent idx sub = s.ent idx sub := rfl
@[simp] theorem State.latch_ent (c q : Nat) (it : BitVec 128) (w : Word) (idx sub : Nat) (s : State) :
    (s.latch c q it w).ent idx sub = s.ent idx sub := rfl
@[simp] theorem State.pushOutcome_ent (c q n idx sub : Nat) (s : State) : (s.pushOutcome c q n).ent idx sub = s.ent idx sub := rfl
@[simp] theorem State.upTo_ent (n idx sub : Nat) (s : State) : (s.upTo n).ent idx sub = s.ent idx sub := rfl
@[simp] theorem State.qIrq_ent (q b idx sub : Nat) (s : State) : (s.qIrq q b).ent idx sub = s.ent idx sub :=
  State.ent_of_get (State.qIrq_get q b s .od (by decide)) (State.qIrq_get q b s .comm (by decide)) idx sub
@[simp] theorem State.watermarks_ent (q old idx sub : Nat) (s : State) : (s.watermarks q old).ent idx sub = s.ent idx sub :=
  State.ent_of_get (State.watermarks_get q old s .od (by decide)) (State.watermarks_get q old s .comm (by decide)) idx sub

/-! ### Levels -/

/-- A level of a queue after a change of one. -/
theorem Queue.onLevel_level (x : Queue) (l : Nat) (f : QLevel → QLevel) (m : Nat) :
    (x.onLevel l f).level m = if m = l then f (x.level l) else x.level m := tabGet_tabMod ({} : QLevel) x.levels l m f

@[simp] theorem Queue.onLevel_level_self (x : Queue) (l : Nat) (f : QLevel → QLevel) : (x.onLevel l f).level l = f (x.level l) :=
  tabGet_tabMod_self ({} : QLevel) x.levels l f

theorem Queue.onLevel_level_other {l m : Nat} (f : QLevel → QLevel) (x : Queue) (hm : m ≠ l) : (x.onLevel l f).level m = x.level m :=
  (x.onLevel_level l f m).trans (if_neg hm)

/-- A change that leaves what a level holds leaves every level. -/
theorem Queue.onLevel_level_of_fixed {x : Queue} {l : Nat} {f : QLevel → QLevel} (h : f (x.level l) = x.level l) (m : Nat) :
    (x.onLevel l f).level m = x.level m := by
  by_cases hm : m = l
  · rw [hm, Queue.onLevel_level_self, h]
  · exact Queue.onLevel_level_other f x hm

/-- Two changes of a level that agree on what it holds are one. -/
theorem Queue.onLevel_congr {x : Queue} {l : Nat} {f g : QLevel → QLevel} (h : f (x.level l) = g (x.level l)) :
    x.onLevel l f = x.onLevel l g := congrArg (fun v => { x with levels := tabPut {} x.levels l v }) h

/-- Equal tables hold equal levels. -/
theorem Queue.level_of_levels {x y : Queue} (h : y.levels = x.levels) (m : Nat) : y.level m = x.level m := by
  rw [Queue.level, Queue.level, h]

/-- A change of every level below n, read at any level. -/
theorem Queue.foldl_onLevel_level (f : QLevel → QLevel) (n : Nat) (x : Queue) (m : Nat) :
    ((List.range n).foldl (fun y l => y.onLevel l f) x).level m = if m < n then f (x.level m) else x.level m := by
  induction n with
  | zero => rfl
  | succ n ih =>
    rw [List.range_succ, List.foldl_append, List.foldl_cons, List.foldl_nil]
    by_cases hm : m = n
    · subst hm
      rw [Queue.onLevel_level_self, ih, if_neg (Nat.lt_irrefl m), if_pos (Nat.lt_succ_self m)]
    · rw [Queue.onLevel_level_other f _ hm, ih]
      have hbound : m < n ↔ m < n + 1 := by omega
      simp only [hbound]

/-- A change of levels leaves the state of its queue. -/
theorem Queue.foldl_onLevel_st (f : QLevel → QLevel) (ls : List Nat) (x : Queue) :
    (ls.foldl (fun y l => y.onLevel l f) x).st = x.st := by
  induction ls generalizing x with
  | nil => rfl
  | cons l ls ih => exact ih (x.onLevel l f)

/-! ### Interrupts and watermarks (R311, R313) -/

/-- The state with NOT_EMPTY pending where FILL has left 0. -/
def State.notEmptyNoted (q old : Nat) (s : State) : State := if old = 0 ∧ 0 < (s.q q).fill then s.qIrq q 0 else s

section Watermarks

variable {q : Nat} (old : Nat) {s : State}

/-- ABOVE and HIGH at the high watermark. -/
theorem State.watermarks_rises (habove : (s.q q).above = false) (hhigh : (s.notEmptyNoted q old).qEnt q 8 ≤ (s.q q).fill) :
    s.watermarks q old = (((s.notEmptyNoted q old).onQ q (fun y => { y with above := true })).qIrq q 1).refreshFc :=
  congrArg State.refreshFc (if_pos ⟨habove, hhigh⟩)

end Watermarks

/-- The watermarks note what is not empty, and may then set or end ABOVE with its interrupt. -/
theorem State.watermarks_cases (q old : Nat) (s : State) : s.watermarks q old = (s.notEmptyNoted q old).refreshFc ∨
    ∃ a b, s.watermarks q old = (((s.notEmptyNoted q old).onQ q (fun y => { y with above := a })).qIrq q b).refreshFc := by
  by_cases hrise : (s.q q).above = false ∧ (s.notEmptyNoted q old).qEnt q 8 ≤ (s.q q).fill
  · exact .inr ⟨true, 1, State.watermarks_rises old hrise.1 hrise.2⟩
  by_cases hfall : (s.q q).above = true ∧ (s.q q).fill ≤ (s.notEmptyNoted q old).qEnt q 9
  · exact .inr ⟨false, 2, congrArg State.refreshFc ((if_neg hrise).trans (if_pos hfall))⟩
  · exact .inl (congrArg State.refreshFc ((if_neg hrise).trans (if_neg hfall)))

/-- Of its own queue an interrupt changes PENDING alone. -/
theorem State.qIrq_q_self (q b : Nat) (s : State) : ∃ i, (s.qIrq q b).q q = { s.q q with irqPending := i } := by
  unfold State.qIrq
  dsimp only
  split
  all_goals exact ⟨_, State.onQ_q_self q _ s⟩

theorem State.qIrq_q_other {q r : Nat} (b : Nat) (s : State) (hr : r ≠ q) : (s.qIrq q b).q r = s.q r := by
  unfold State.qIrq
  dsimp only
  split
  all_goals exact State.onQ_q_other _ s hr

theorem State.notEmptyNoted_q_self (q old : Nat) (s : State) : ∃ i, (s.notEmptyNoted q old).q q = { s.q q with irqPending := i } := by
  unfold State.notEmptyNoted
  split
  · exact State.qIrq_q_self q 0 s
  · exact ⟨_, rfl⟩

theorem State.notEmptyNoted_q_other {q r : Nat} (old : Nat) (s : State) (hr : r ≠ q) : (s.notEmptyNoted q old).q r = s.q r := by
  unfold State.notEmptyNoted
  split
  · exact State.qIrq_q_other 0 s hr
  · rfl

theorem State.notEmptyNoted_ent (q old idx sub : Nat) (s : State) : (s.notEmptyNoted q old).ent idx sub = s.ent idx sub := by
  unfold State.notEmptyNoted
  split
  · exact State.qIrq_ent q 0 idx sub s
  · rfl

/-- Of its own queue a change of ABOVE with its interrupt changes these alone. -/
theorem State.aboveNoted_q_self (q old b : Nat) (a : Bool) (s : State) :
    ∃ i, (((s.notEmptyNoted q old).onQ q (fun y => { y with above := a })).qIrq q b).refreshFc.q q =
      { s.q q with above := a, irqPending := i } := by
  obtain ⟨i, hi⟩ := State.qIrq_q_self q b ((s.notEmptyNoted q old).onQ q (fun y => { y with above := a }))
  obtain ⟨j, hj⟩ := State.notEmptyNoted_q_self q old s
  exact ⟨i, by rw [State.refreshFc_q, hi, State.onQ_q_self, hj]⟩

/-- Of its own queue the watermarks change ABOVE and PENDING alone. -/
theorem State.watermarks_q_self (q old : Nat) (s : State) :
    ∃ a i, (s.watermarks q old).q q = { s.q q with above := a, irqPending := i } := by
  rcases State.watermarks_cases q old s with h | ⟨a, b, h⟩ <;> rw [h]
  · exact ⟨_, State.notEmptyNoted_q_self q old s⟩
  · exact ⟨a, State.aboveNoted_q_self q old b a s⟩

theorem State.watermarks_q_other {q r : Nat} (old : Nat) (s : State) (hr : r ≠ q) : (s.watermarks q old).q r = s.q r := by
  have hnoted := State.notEmptyNoted_q_other old s hr
  rcases State.watermarks_cases q old s with h | ⟨a, b, h⟩ <;> rw [h, State.refreshFc_q]
  · exact hnoted
  · rw [State.qIrq_q_other b _ hr, State.onQ_q_other _ _ hr, hnoted]

/-- The watermarks raise ABOVE at the high watermark. -/
theorem State.watermarks_above {q : Nat} (old : Nat) {s : State} (habove : (s.q q).above = false)
    (hhigh : s.qEnt q 8 ≤ (s.q q).fill) : ((s.watermarks q old).q q).above = true := by
  have hent : (s.notEmptyNoted q old).qEnt q 8 = s.qEnt q 8 := State.notEmptyNoted_ent q old _ 8 s
  obtain ⟨i, hi⟩ := State.aboveNoted_q_self q old 1 true s
  rw [State.watermarks_rises old habove (Nat.le_trans (Nat.le_of_eq hent) hhigh), hi]

/-! ### Latches (R305) -/

/-- An interrupt changes no latch. -/
theorem State.qIrq_latches (q b : Nat) (s : State) :
    (s.qIrq q b).queue.popData = s.queue.popData ∧ (s.qIrq q b).queue.popStatus = s.queue.popStatus := by
  unfold State.qIrq
  dsimp only
  split
  all_goals exact ⟨rfl, rfl⟩

theorem State.notEmptyNoted_latches (q old : Nat) (s : State) :
    (s.notEmptyNoted q old).queue.popData = s.queue.popData ∧ (s.notEmptyNoted q old).queue.popStatus = s.queue.popStatus := by
  unfold State.notEmptyNoted
  split
  · exact State.qIrq_latches q 0 s
  · exact ⟨rfl, rfl⟩

/-- The watermarks change no latch. -/
theorem State.watermarks_latches (q old : Nat) (s : State) :
    (s.watermarks q old).queue.popData = s.queue.popData ∧ (s.watermarks q old).queue.popStatus = s.queue.popStatus := by
  have hnoted := State.notEmptyNoted_latches q old s
  rcases State.watermarks_cases q old s with h | ⟨a, b, h⟩ <;> rw [h]
  · exact hnoted
  · have hirq := State.qIrq_latches q b ((s.notEmptyNoted q old).onQ q (fun y => { y with above := a }))
    exact ⟨hirq.1.trans hnoted.1, hirq.2.trans hnoted.2⟩

/-- The latch reads the item put into it. -/
theorem State.latch_popData (c q : Nat) (it : BitVec 128) (w : Word) (s : State) :
    tabGet 0 (s.latch c q it w).queue.popData (latchKey c q) = it := by
  rw [State.latch, State.emit_queue, State.onQueues_queue, tabGet_tabPut_self]

/-- The latch reads the status put into it. -/
theorem State.latch_popStatus (c q : Nat) (it : BitVec 128) (w : Word) (s : State) :
    tabGet 0 (s.latch c q it w).queue.popStatus (latchKey c q) = w := by
  rw [State.latch, State.emit_queue, State.onQueues_queue, tabGet_tabPut_self]

/-! ### Flush (R314, R315) -/

/-- A flush leaves the state of its queue. -/
theorem Queue.flushed_st (x : Queue) : x.flushed.st = x.st := by
  simp only [Queue.flushed, Queue.foldl_onLevel_st]

/-- A flush ends the read stream's packet. -/
theorem Queue.flushed_stream (x : Queue) : x.flushed.stream = none := by
  simp only [Queue.flushed]

/-- A flush empties every level of its queue. -/
theorem Queue.flushed_level (x : Queue) {l : Nat} (hl : l < 8) : x.flushed.level l = (x.level l).flushed := by
  have hlevels : x.flushed.levels = ((List.range 8).foldl (fun y l => y.onLevel l QLevel.flushed) x).levels := by
    simp only [Queue.flushed]
  rw [Queue.level_of_levels hlevels, Queue.foldl_onLevel_level, if_pos hl]

/-- The effect of a flush on its own queue. -/
theorem State.qFlushEffect_q_self (q : Nat) (s : State) :
    ∃ a i, (s.qFlushEffect q).q q = { (s.q q).flushed with above := a, irqPending := i } := by
  obtain ⟨a, i, h⟩ := State.watermarks_q_self q (s.q q).fill ((s.onQ q Queue.flushed).count (queueIdx q) 0x13 (s.q q).fill)
  exact ⟨a, i, by rw [State.qFlushEffect, h, State.count_q, State.onQ_q_self]⟩

theorem State.qFlushEffect_q_other {q r : Nat} (s : State) (hr : r ≠ q) : (s.qFlushEffect q).q r = s.q r := by
  rw [State.qFlushEffect, State.watermarks_q_other _ _ hr, State.count_q, State.onQ_q_other _ s hr]

/-- A flush counts what it empties. -/
theorem State.qFlushEffect_count (q : Nat) (s : State) :
    (s.qFlushEffect q).ent (queueIdx q) 0x13 = satAdd max32 (s.ent (queueIdx q) 0x13) (s.q q).fill := by
  rw [State.qFlushEffect, State.watermarks_ent, State.count_ent_self, State.onQ_ent]

end Sys2Proof.Machine
end

section
/-! PROOFS. SPILL storage: a move changes one level of one queue, which keeps its credits, and counts the items lost (09 R297,
R310). -/

namespace Sys2Proof.Machine

/-! ### Changes of one level -/

/-- Queue y is queue x but for what level l holds, its credits excepted, for ABOVE and for PENDING. -/
structure Queue.StirredAt (l : Nat) (x y : Queue) : Prop where
  rest : y = { x with levels := y.levels, above := y.above, irqPending := y.irqPending }
  level : ∀ m, m ≠ l → y.level m = x.level m
  credits : (y.level l).credits = (x.level l).credits

theorem Queue.StirredAt.refl (l : Nat) (x : Queue) : x.StirredAt l x := ⟨rfl, fun _ _ => rfl, rfl⟩

theorem Queue.StirredAt.trans {l : Nat} {x y z : Queue} (hxy : x.StirredAt l y) (hyz : y.StirredAt l z) : x.StirredAt l z where
  rest := by rw [hyz.rest, hxy.rest]
  level m hm := (hyz.level m hm).trans (hxy.level m hm)
  credits := hyz.credits.trans hxy.credits

/-- A change of a level that keeps its credits. -/
theorem Queue.StirredAt.onLevel {l : Nat} {x : Queue} {f : QLevel → QLevel} (h : (f (x.level l)).credits = (x.level l).credits) :
    x.StirredAt l (x.onLevel l f) where
  rest := rfl
  level _ hm := Queue.onLevel_level_other f x hm
  credits := by rw [Queue.onLevel_level_self, h]

/-- Of the queues and of queue q's entries, t differs from s in level l of queue q, its credits excepted, in ABOVE, in PENDING
and in the count of lost items. -/
structure State.StirsLevel (q l : Nat) (s t : State) : Prop where
  self : (s.q q).StirredAt l (t.q q)
  other : ∀ r, r ≠ q → t.q r = s.q r
  ent : ∀ sub, sub ≠ 0x17 → t.ent (queueIdx q) sub = s.ent (queueIdx q) sub

theorem State.StirsLevel.refl (q l : Nat) (s : State) : s.StirsLevel q l s := ⟨.refl l _, fun _ _ => rfl, fun _ _ => rfl⟩

theorem State.StirsLevel.trans {q l : Nat} {s t u : State} (hst : s.StirsLevel q l t) (htu : t.StirsLevel q l u) : s.StirsLevel q l u where
  self := hst.self.trans htu.self
  other r hr := (htu.other r hr).trans (hst.other r hr)
  ent sub hsub := (htu.ent sub hsub).trans (hst.ent sub hsub)

/-- What changes no queue and of queue q's entries only the count of lost items. -/
theorem State.StirsLevel.of_q {q : Nat} (l : Nat) {s t : State} (hq : ∀ r, t.q r = s.q r)
    (hent : ∀ sub, sub ≠ 0x17 → t.ent (queueIdx q) sub = s.ent (queueIdx q) sub) : s.StirsLevel q l t :=
  ⟨by rw [hq]; exact .refl l _, fun r _ => hq r, hent⟩

theorem State.StirsLevel.onQ {q l : Nat} {s : State} {f : Queue → Queue} (h : (s.q q).StirredAt l (f (s.q q))) :
    s.StirsLevel q l (s.onQ q f) where
  self := by rw [State.onQ_q_self]; exact h
  other _ hr := State.onQ_q_other f s hr
  ent _ _ := rfl

/-! ### Items and bursts -/

section Moves

variable (q l : Nat)

/-- An item put back in its place. -/
def State.putBack (n : Nat) (it : BitVec 128) (s : State) : State :=
  s.onQ q (fun y => y.onLevel l (fun w => { w with pkts := putItem w.pkts n it }))

theorem State.putBack_stirs (n : Nat) (it : BitVec 128) (s : State) : s.StirsLevel q l (s.putBack q l n it) :=
  .onQ (.onLevel rfl)

theorem State.putBack_headN (n : Nat) (it : BitVec 128) (s : State) :
    (((s.putBack q l n it).q q).level l).headN = ((s.q q).level l).headN := by
  rw [State.putBack, State.onQ_q_self, Queue.onLevel_level_self]

/-- An item lost is marked, counted and recorded. -/
def State.itemLost (n : Nat) (s : State) : State :=
  ((s.draw.onQ q (fun y => y.onLevel l (fun w => { w with badN := w.badN ++ [n] }))).count (queueIdx q) 0x17 1).book
    0xE403 0x18 1 (leBytes 1 q ++ leBytes 1 l)

theorem State.itemLost_stirs (n : Nat) (s : State) : s.StirsLevel q l (s.itemLost q l n) := by
  have hdrawn : s.StirsLevel q l s.draw := .of_q l (fun _ => rfl) (fun _ _ => rfl)
  refine (hdrawn.trans (.onQ (.onLevel rfl))).trans (.of_q l (fun _ => rfl) fun sub hsub => ?_)
  exact State.count_ent_other 1 _ (ekey_ne_of_sub hsub)

theorem State.itemLost_headN (n : Nat) (s : State) : (((s.itemLost q l n).q q).level l).headN = ((s.q q).level l).headN := by
  rw [State.itemLost, State.book_q, State.count_q, State.onQ_q_self, Queue.onLevel_level_self, State.draw_q]

theorem State.itemLost_count (n : Nat) (s : State) :
    (s.itemLost q l n).ent (queueIdx q) 0x17 = satAdd max32 (s.ent (queueIdx q) 0x17) 1 := by
  rw [State.itemLost, State.book_ent, State.count_ent_self, State.onQ_ent]
  rfl

/-- An item of a burst comes back as package DRAM holds it, or is lost. -/
theorem State.spillItem_cases (bad : BitVec 4) (i : Nat) (s : State) : ∃ n it,
    s.spillItem q l bad i = (s.putBack q l n it).itemLost q l n ∨
    bad.getLsbD i = false ∧ s.spillItem q l bad i = s.putBack q l n it := by
  unfold State.spillItem
  dsimp only
  split
  case isTrue => exact ⟨_, _, .inl rfl⟩
  case isFalse h => exact ⟨_, _, .inr ⟨(Bool.or_eq_false_iff.mp (Bool.eq_false_iff.mpr h)).1, rfl⟩⟩

theorem State.spillItem_stirs (bad : BitVec 4) (i : Nat) (s : State) : s.StirsLevel q l (s.spillItem q l bad i) := by
  obtain ⟨n, it, h | ⟨-, h⟩⟩ := State.spillItem_cases q l bad i s <;> rw [h]
  · exact (State.putBack_stirs q l n it s).trans (State.itemLost_stirs q l n _)
  · exact State.putBack_stirs q l n it s

theorem State.spillItem_headN (bad : BitVec 4) (i : Nat) (s : State) :
    (((s.spillItem q l bad i).q q).level l).headN = ((s.q q).level l).headN := by
  obtain ⟨n, it, h | ⟨-, h⟩⟩ := State.spillItem_cases q l bad i s <;> rw [h]
  · rw [State.itemLost_headN, State.putBack_headN]
  · rw [State.putBack_headN]

/-- An item marked by its error is counted as lost. -/
theorem State.spillItem_lost {bad : BitVec 4} {i : Nat} (hbad : bad.getLsbD i = true) (s : State) :
    (s.spillItem q l bad i).ent (queueIdx q) 0x17 = satAdd max32 (s.ent (queueIdx q) 0x17) 1 := by
  obtain ⟨n, it, h | ⟨hgood, -⟩⟩ := State.spillItem_cases q l bad i s
  · rw [h, State.itemLost_count]
    rfl
  · exact absurd (hbad.symm.trans hgood) Bool.true_eq_false.mp

/-- The items of a burst. -/
def State.spillItems (bad : BitVec 4) (s : State) : State := (List.range 4).foldl (fun u i => u.spillItem q l bad i) s

theorem State.spillItems_stirs (bad : BitVec 4) (s : State) : s.StirsLevel q l (s.spillItems q l bad) :=
  List.foldlRecOn _ _ (.refl q l s) fun u hu i _ => hu.trans (u.spillItem_stirs q l bad i)

theorem State.spillItems_headN (bad : BitVec 4) (s : State) :
    (((s.spillItems q l bad).q q).level l).headN = ((s.q q).level l).headN :=
  List.foldlRecOn (motive := fun u : State => ((u.q q).level l).headN = ((s.q q).level l).headN) _ _ rfl
    fun u hu i _ => (u.spillItem_headN q l bad i).trans hu

/-- Two counts that saturate are one. -/
theorem satAdd_satAdd (top a b c : Nat) : satAdd top (satAdd top a b) c = satAdd top a (b + c) := by
  unfold satAdd
  omega

/-- A burst whose items all bear an error loses four. -/
theorem State.spillItems_lost {bad : BitVec 4} (hbad : ∀ i, i < 4 → bad.getLsbD i = true) (s : State) :
    (s.spillItems q l bad).ent (queueIdx q) 0x17 = satAdd max32 (s.ent (queueIdx q) 0x17) 4 := by
  have hlost : ∀ i u, i < 4 → (State.spillItem q l bad i u).ent (queueIdx q) 0x17 = satAdd max32 (u.ent (queueIdx q) 0x17) 1 :=
    fun i u hi => u.spillItem_lost q l (hbad i hi)
  have hrange : List.range 4 = [0, 1, 2, 3] := rfl
  rw [State.spillItems, hrange]
  simp [hlost, satAdd_satAdd]

theorem State.spillIn_eq (bad : BitVec 4) (s : State) : s.spillIn q l bad = (s.spillItems q l bad).onQ q (fun x =>
    x.onLevel l (fun w => { w with headN := w.headN + 4, midN := w.midN - 4 })) := rfl

theorem State.spillIn_stirs (bad : BitVec 4) (s : State) : s.StirsLevel q l (s.spillIn q l bad) :=
  (s.spillItems_stirs q l bad).trans (.onQ (.onLevel rfl))

/-- A burst of the middle brings four items to the head. -/
theorem State.spillIn_headN (bad : BitVec 4) (s : State) :
    (((s.spillIn q l bad).q q).level l).headN = ((s.q q).level l).headN + 4 := by
  rw [State.spillIn_eq, State.onQ_q_self, Queue.onLevel_level_self, State.spillItems_headN]

theorem State.spillIn_lost {bad : BitVec 4} (hbad : ∀ i, i < 4 → bad.getLsbD i = true) (s : State) :
    (s.spillIn q l bad).ent (queueIdx q) 0x17 = satAdd max32 (s.ent (queueIdx q) 0x17) 4 := by
  rw [State.spillIn_eq, State.onQ_ent, State.spillItems_lost q l hbad]

/-- A burst of the tail is written to package DRAM; its place is then the middle's. -/
theorem State.spillOut_eq (s : State) : ∃ u : State, (∀ p, p ≠ .mem → u.get p = s.get p) ∧ s.spillOut q l = u.onQ q (fun x =>
    x.onLevel l (fun w => { w with midN := w.midN + 4, midW := (w.midW + 4) % x.midCap })) :=
  ⟨_, fun p hp => State.get_foldl _ _ s p fun u _ => by simp [hp], rfl⟩

theorem State.spillOut_stirs (s : State) : s.StirsLevel q l (s.spillOut q l) := by
  obtain ⟨u, hu, h⟩ := State.spillOut_eq q l s
  rw [h]
  refine .trans (.of_q l (fun r => ?_) (fun sub _ => ?_)) (.onQ (.onLevel rfl))
  · exact State.q_of_get (hu .queue (by decide)) r
  · exact State.ent_of_get (hu .od (by decide)) (hu .comm (by decide)) _ sub

theorem State.spillOut_headN (s : State) : (((s.spillOut q l).q q).level l).headN = ((s.q q).level l).headN := by
  obtain ⟨u, hu, h⟩ := State.spillOut_eq q l s
  rw [h, State.onQ_q_self, Queue.onLevel_level_self, State.q_of_get (hu .queue (by decide))]

theorem State.spillOut_ent (idx sub : Nat) (s : State) : (s.spillOut q l).ent idx sub = s.ent idx sub :=
  State.ent_of_get (State.spillOut_get q l s .od (by decide)) (State.spillOut_get q l s .comm (by decide)) idx sub

/-! ### One move (R297) -/

section Cases

variable {q l} {bad : BitVec 4} {s : State}

/-- With an empty middle the tail moves to the head directly. -/
theorem State.spillMove_settles (hmid : ((s.q q).level l).midN = 0) (hroom : ((s.q q).level l).headN < 16) :
    s.spillMove q l bad = s.onQ q (fun x => x.onLevel l QLevel.settle) := if_pos ⟨hmid, hroom⟩

/-- Where a burst of the middle is due it goes first; then one of the tail, where due. -/
theorem State.spillMove_in (hmid : ((s.q q).level l).midN ≠ 0) (hin : ((s.q q).level l).inDue = true) :
    s.spillMove q l bad = if ((s.spillIn q l bad).q q).outDue l then (s.spillIn q l bad).spillOut q l else s.spillIn q l bad := by
  refine (if_neg fun h => hmid h.1).trans ?_
  simp only [hin, ↓reduceIte]

/-- Where none of the middle is due, a burst of the tail goes, where due. -/
theorem State.spillMove_out (hdirect : ¬(((s.q q).level l).midN = 0 ∧ ((s.q q).level l).headN < 16))
    (hin : ((s.q q).level l).inDue = false) :
    s.spillMove q l bad = if (s.q q).outDue l then s.spillOut q l else s := by
  refine (if_neg hdirect).trans ?_
  simp only [hin, Bool.false_eq_true, ↓reduceIte]

end Cases

/-- While items lie in the middle the tail is not moved to the head. -/
theorem QLevel.settle_of_middle {v : QLevel} (hmid : v.midN ≠ 0) : v.settle = v := if_neg hmid

theorem QLevel.settle_credits (v : QLevel) : v.settle.credits = v.credits := by
  unfold QLevel.settle
  split <;> rfl

theorem State.spillMove_stirs (bad : BitVec 4) (s : State) : s.StirsLevel q l (s.spillMove q l bad) := by
  by_cases hdirect : ((s.q q).level l).midN = 0 ∧ ((s.q q).level l).headN < 16
  · rw [State.spillMove_settles hdirect.1 hdirect.2]
    exact .onQ (.onLevel (QLevel.settle_credits _))
  cases hin : ((s.q q).level l).inDue with
  | false =>
    rw [State.spillMove_out hdirect hin]
    split
    · exact s.spillOut_stirs q l
    · exact .refl q l s
  | true =>
    have hmid : ((s.q q).level l).midN ≠ 0 := by
      simp only [QLevel.inDue, Bool.and_eq_true, decide_eq_true_eq] at hin
      omega
    rw [State.spillMove_in hmid hin]
    have hburst := s.spillIn_stirs q l bad
    split
    · exact hburst.trans (State.spillOut_stirs q l _)
    · exact hburst

theorem State.spillRoom_stirs (n : Nat) (s : State) : s.StirsLevel q l (s.spillRoom q l n) := by
  induction n generalizing s with
  | zero => exact .refl q l s
  | succ n ih =>
    rw [State.spillRoom]
    split
    · exact .refl q l s
    · exact (s.spillMove_stirs q l 0).trans (ih _)

end Moves

end Sys2Proof.Machine
end

section
/-! PROOFS. Pops: the level a pop reads, the item it takes, the empty behaviour, the wait for a SPILL refill, and the SPILL move
(09 R297, R303, R305 to R310). -/

namespace Sys2Proof.Machine

/-! ### The level a pop reads (R306, R307, R309) -/

/-- Equal tables have the same highest level that holds a packet. -/
theorem Queue.highest_of_levels {x y : Queue} (h : y.levels = x.levels) (n : Nat) : y.highest n = x.highest n := by
  induction n with
  | zero => rfl
  | succ n ih => rw [Queue.highest, Queue.highest, ih, Queue.holds, Queue.holds, Queue.level_of_levels h]

/-- Without ANTI_STARVE the highest level is served. -/
theorem Queue.select_highest {x : Queue} (hstarve : x.antiStarve = false) : x.select = (x.highest 8, { x with run := 0 }) :=
  if_pos hstarve

/-- An empty queue serves none. -/
theorem Queue.select_none {x : Queue} (hempty : x.highest 8 = none) : x.select = (none, { x with run := 0 }) := by
  simp only [Queue.select, hempty, ite_self]

/-- A queue with the modes that a packet boundary takes in (R317). -/
def Queue.withModes (mode : Nat) (starve : Bool) (x : Queue) : Queue := { x with emptyMode := mode, antiStarve := starve }

/-- A queue of the state with the modes that its entries give. -/
def State.qModes (s : State) (q : Nat) : Queue := (s.q q).withModes (s.qEnt q 10) (decide (s.qEnt q 12 = 1))

/-- The state with a queue at a packet boundary at which no run is counted (R307). -/
def State.qAtBoundary (q : Nat) (s : State) : State := s.onQ q (fun _ => { s.qModes q with run := 0 })

/-- Selecting a level for a pop changes the queue's own selection only. -/
structure State.Selects (q : Nat) (s t : State) : Prop where
  self : ∃ mode starve run, t.q q = { s.q q with emptyMode := mode, antiStarve := starve, run := run }
  other : ∀ r, r ≠ q → t.q r = s.q r
  frame : SameBut [.queue] s t

theorem State.Selects.refl (q : Nat) (s : State) : s.Selects q s := ⟨⟨_, _, _, rfl⟩, fun _ _ => rfl, fun _ _ => rfl⟩

theorem State.qAtBoundary_q_self (q : Nat) (s : State) : (s.qAtBoundary q).q q = { s.qModes q with run := 0 } := State.onQ_q_self q _ s

theorem State.qAtBoundary_st (q : Nat) (s : State) : ((s.qAtBoundary q).q q).st = (s.q q).st := by
  rw [State.qAtBoundary_q_self]
  rfl

theorem State.qAtBoundary_emptyMode (q : Nat) (s : State) : ((s.qAtBoundary q).q q).emptyMode = s.qEnt q 10 := by
  rw [State.qAtBoundary_q_self]
  rfl

theorem State.qAtBoundary_selects (q : Nat) (s : State) : s.Selects q (s.qAtBoundary q) where
  self := ⟨_, _, _, State.onQ_q_self q _ s⟩
  other _ hr := State.onQ_q_other _ s hr
  frame := State.onQ_get _ _ s

theorem State.Selects.levels {q : Nat} {s t : State} (h : s.Selects q t) : (t.q q).levels = (s.q q).levels := by
  obtain ⟨mode, starve, run, hself⟩ := h.self
  rw [hself]

theorem State.Selects.level {q : Nat} {s t : State} (h : s.Selects q t) (m : Nat) : (t.q q).level m = (s.q q).level m :=
  Queue.level_of_levels h.levels m

theorem State.Selects.spill {q : Nat} {s t : State} (h : s.Selects q t) : (t.q q).spill = (s.q q).spill := by
  obtain ⟨mode, starve, run, hself⟩ := h.self
  rw [hself]

theorem State.Selects.underrun {q : Nat} {s t : State} (h : s.Selects q t) : (t.q q).underrun = (s.q q).underrun := by
  obtain ⟨mode, starve, run, hself⟩ := h.self
  rw [hself]

theorem State.Selects.lastItem {q : Nat} {s t : State} (h : s.Selects q t) : (t.q q).lastItem = (s.q q).lastItem := by
  obtain ⟨mode, starve, run, hself⟩ := h.self
  rw [hself]

/-- Selecting a level changes no entry. -/
theorem State.Selects.ent {q : Nat} {s t : State} (h : s.Selects q t) (idx sub : Nat) : t.ent idx sub = s.ent idx sub :=
  State.ent_of_get (h.frame .od (by decide)) (h.frame .comm (by decide)) idx sub

section Level

variable {q : Nat} {s : State}

theorem State.popLevel_stream {l : Nat} (hstream : (s.q q).stream = some l) : s.popLevel q = (some l, s) := by
  simp only [State.popLevel, hstream]

theorem State.popLevel_chosen {l : Nat} (hstream : (s.q q).stream = none) (hchosen : (s.q q).chosen = some l) :
    s.popLevel q = (some l, s) := by
  simp only [State.popLevel, hstream, hchosen]

variable (hstream : (s.q q).stream = none) (hchosen : (s.q q).chosen = none)

include hstream hchosen

/-- At a boundary a pop reads the level that is selected. -/
theorem State.popLevel_boundary : s.popLevel q = ((s.qModes q).select.1, s.onQ q (fun _ => (s.qModes q).select.2)) := by
  unfold State.popLevel
  split
  case h_1 hsome => exact nomatch hstream.symm.trans hsome
  case h_2 hsome => exact nomatch hchosen.symm.trans hsome
  case h_3 => rfl

/-- At a boundary of a queue without ANTI_STARVE that is the highest level that holds a packet. -/
theorem State.popLevel_highest {l : Nat} (hhigh : (s.q q).highest 8 = some l) (hstarve : s.qEnt q 12 ≠ 1) :
    s.popLevel q = (some l, s.qAtBoundary q) := by
  have hlevel : (s.qModes q).highest 8 = some l := (Queue.highest_of_levels rfl 8).trans hhigh
  rw [State.popLevel_boundary hstream hchosen, Queue.select_highest (decide_eq_false hstarve), hlevel]
  rfl

/-- At a boundary of an empty queue a pop reads no level. -/
theorem State.popLevel_none (hempty : (s.q q).highest 8 = none) : s.popLevel q = (none, s.qAtBoundary q) := by
  have hnone : (s.qModes q).highest 8 = none := (Queue.highest_of_levels rfl 8).trans hempty
  rw [State.popLevel_boundary hstream hchosen, Queue.select_none hnone]
  rfl

end Level

/-- A pop of a level in progress, or of the highest at a boundary without ANTI_STARVE, reads that level. -/
theorem State.popLevel_some {q l : Nat} {s : State} (hread : (s.q q).stream = some l ∨
    (s.q q).stream = none ∧ (s.q q).chosen = none ∧ (s.q q).highest 8 = some l ∧ s.qEnt q 12 ≠ 1) :
    ∃ u, s.popLevel q = (some l, u) ∧ s.Selects q u := by
  rcases hread with hstream | ⟨hstream, hchosen, hhigh, hstarve⟩
  · exact ⟨s, State.popLevel_stream hstream, .refl q s⟩
  · exact ⟨_, State.popLevel_highest hstream hchosen hhigh hstarve, s.qAtBoundary_selects q⟩

/-! ### One item (R303, R305, R306) -/

/-- A level without the item that stands next: `left` are its packets then. -/
def QLevel.taken (spill : Bool) (cap : Nat) (left : List QPkt) (v : QLevel) : QLevel :=
  { v with
    pkts := left, returning := v.returning + 1, headN := v.headN - 1,
    badN := (v.badN.filter (fun i => decide (i ≠ 0))).map (fun i => i - 1),
    rd := if spill then v.rd else (v.rd + 1) % (2 * cap) }

/-- A queue whose level l has given an item: the packet in progress is that of `next`. -/
def Queue.taken (l now : Nat) (it : BitVec 128) (left : List QPkt) (next : Option Nat) (x : Queue) : Queue :=
  { x.onLevel l (QLevel.taken x.spill x.levelCap left) with
    stream := next, chosen := none, streamAt := now, lastItem := it,
    run := if (x.highest l).isSome && x.antiStarve then x.run + 1 else x.run }

/-- The state once cantor c has taken item `it`, with the status word `w`. -/
def State.popTaken (c q l : Nat) (it : BitVec 128) (w : Word) (left : List QPkt) (next : Option Nat) (s : State) : State :=
  (((s.onQ q (Queue.taken l s.now it left next)).count (queueIdx q) 0x12 1).latch c q it w).watermarks q (s.q q).fill

/-- The status word of an item of packet p of level l (R305, R310). -/
def State.itemStatus (q l : Nat) (p : QPkt) (s : State) : Word :=
  popStatusWord true false false ((s.q q).spill && ((s.q q).level l).badN.contains 0) p.length p.index l

section Taken

variable (c q l : Nat) (it : BitVec 128) (w : Word) (left : List QPkt) (next : Option Nat) (s : State)

/-- Of its own queue a taken item changes no more than `Queue.taken` says, ABOVE and PENDING. -/
theorem State.popTaken_q_self : ∃ a i, (s.popTaken c q l it w left next).q q =
    { (s.q q).taken l s.now it left next with above := a, irqPending := i } := by
  obtain ⟨a, i, h⟩ := State.watermarks_q_self q (s.q q).fill
    (((s.onQ q (Queue.taken l s.now it left next)).count (queueIdx q) 0x12 1).latch c q it w)
  exact ⟨a, i, by rw [State.popTaken, h, State.latch_q, State.count_q, State.onQ_q_self]⟩

variable {c q l it w left next s}

theorem State.popTaken_q_other {r : Nat} (hr : r ≠ q) : (s.popTaken c q l it w left next).q r = s.q r := by
  rw [State.popTaken, State.watermarks_q_other _ _ hr, State.latch_q, State.count_q, State.onQ_q_other _ s hr]

theorem State.popTaken_level_self :
    ((s.popTaken c q l it w left next).q q).level l = ((s.q q).level l).taken (s.q q).spill (s.q q).levelCap left := by
  obtain ⟨a, i, h⟩ := State.popTaken_q_self c q l it w left next s
  rw [h]
  exact Queue.onLevel_level_self (s.q q) l _

theorem State.popTaken_level_other {m : Nat} (hm : m ≠ l) :
    ((s.popTaken c q l it w left next).q q).level m = (s.q q).level m := by
  obtain ⟨a, i, h⟩ := State.popTaken_q_self c q l it w left next s
  rw [h]
  exact Queue.onLevel_level_other _ (s.q q) hm

theorem State.popTaken_stream : ((s.popTaken c q l it w left next).q q).stream = next := by
  obtain ⟨a, i, h⟩ := State.popTaken_q_self c q l it w left next s
  rw [h]
  rfl

theorem State.popTaken_lastItem : ((s.popTaken c q l it w left next).q q).lastItem = it := by
  obtain ⟨a, i, h⟩ := State.popTaken_q_self c q l it w left next s
  rw [h]
  rfl

theorem State.popTaken_waiting : ((s.popTaken c q l it w left next).q q).waiting = (s.q q).waiting := by
  obtain ⟨a, i, h⟩ := State.popTaken_q_self c q l it w left next s
  rw [h]
  rfl

theorem State.popTaken_st : ((s.popTaken c q l it w left next).q q).st = (s.q q).st := by
  obtain ⟨a, i, h⟩ := State.popTaken_q_self c q l it w left next s
  rw [h]
  rfl

theorem State.popTaken_popData : tabGet 0 (s.popTaken c q l it w left next).queue.popData (latchKey c q) = it := by
  rw [State.popTaken, (State.watermarks_latches q _ _).1, State.latch_popData]

theorem State.popTaken_popStatus : tabGet 0 (s.popTaken c q l it w left next).queue.popStatus (latchKey c q) = w := by
  rw [State.popTaken, (State.watermarks_latches q _ _).2, State.latch_popStatus]

/-- A taken item is counted. -/
theorem State.popTaken_count :
    (s.popTaken c q l it w left next).ent (queueIdx q) 0x12 = satAdd max32 (s.ent (queueIdx q) 0x12) 1 := by
  rw [State.popTaken, State.watermarks_ent, State.latch_ent, State.count_ent_self, State.onQ_ent]

theorem State.popTaken_sameBut : SameBut [.queue, .od, .out] s (s.popTaken c q l it w left next) :=
  (((SameBut.trans (State.onQ_get q _ s) (State.count_get _ _ _ _)).trans (State.latch_get c q it w _)).trans
    (State.watermarks_get q _ _)).mono (by simp)

end Taken

theorem State.itemStatus_ring {q : Nat} (l : Nat) (p : QPkt) {s : State} (hspill : (s.q q).spill = false) :
    s.itemStatus q l p = popStatusWord true false false false p.length p.index l := by
  rw [State.itemStatus, hspill, Bool.false_and]

section Item

variable {c q l : Nat} {p : QPkt} {rest : List QPkt} {it : BitVec 128} {s : State} (hpkts : ((s.q q).level l).pkts = p :: rest)

include hpkts

/-- An item that is not its packet's last leaves the rest of the packet in progress. -/
theorem State.popItem_next {more : List (BitVec 128)} (hitems : p.items = it :: more) (hmore : more ≠ []) :
    s.popItem c q l = s.popTaken c q l it (s.itemStatus q l p) ({ p with index := p.index + 1, items := more } :: rest) (some l) := by
  have hlast : more.isEmpty = false := List.isEmpty_eq_false_iff.mpr hmore
  simp only [State.popItem, hpkts, hitems, hlast, Bool.false_eq_true, ↓reduceIte]
  rfl

/-- The last item of a packet of an ENABLED queue ends the packet. -/
theorem State.popItem_last (hitems : p.items = [it]) (hst : (s.q q).st = .enabled) :
    s.popItem c q l = s.popTaken c q l it (s.itemStatus q l p) rest none := by
  have hboundary : (s.popTaken c q l it (s.itemStatus q l p) rest none).qBoundary q =
      s.popTaken c q l it (s.itemStatus q l p) rest none := by
    rw [State.qBoundary, State.popTaken_st, hst]
  refine Eq.trans ?_ hboundary
  simp only [State.popItem, hpkts, hitems, List.isEmpty_nil, ↓reduceIte]
  rfl

end Item

/-! ### An empty queue (R308) -/

/-- The state once an empty pop has answered the last item, with its underrun set, counted and signalled. -/
def State.popUnderrun (c q : Nat) (s : State) : State :=
  (((s.onQ q (fun x => { x with underrun := true })).count (queueIdx q) 0x14 1).qIrq q 3).latch c q (s.q q).lastItem
    (popStatusWord false false true false 0 0 0)

section Empty

variable {c q : Nat} {s : State} (hst : (s.q q).st ≠ .disabled)

include hst

/-- With EMPTY_MODE 0 an empty pop answers the idle item. -/
theorem State.popEmpty_idle (hmode : (s.q q).emptyMode = 0) :
    s.popEmpty c q = s.latch c q (BitVec.ofNat 128 (s.qEnt q 11)) (popStatusWord false true false false 0 0 0) := by
  simp only [State.popEmpty, hst, hmode, ↓reduceIte]

/-- Else it answers the last item, with an underrun. -/
theorem State.popEmpty_underrun (hmode : (s.q q).emptyMode ≠ 0) : s.popEmpty c q = s.popUnderrun c q := by
  simp only [State.popEmpty, hst, hmode, ↓reduceIte]
  rfl

end Empty

section Underrun

variable (c q : Nat) (s : State)

theorem State.popUnderrun_q_self : ∃ i, (s.popUnderrun c q).q q = { s.q q with underrun := true, irqPending := i } := by
  obtain ⟨i, h⟩ := State.qIrq_q_self q 3 ((s.onQ q (fun x => { x with underrun := true })).count (queueIdx q) 0x14 1)
  exact ⟨i, by rw [State.popUnderrun, State.latch_q, h, State.count_q, State.onQ_q_self]⟩

theorem State.popUnderrun_q_other {r : Nat} (hr : r ≠ q) : (s.popUnderrun c q).q r = s.q r := by
  rw [State.popUnderrun, State.latch_q, State.qIrq_q_other _ _ hr, State.count_q, State.onQ_q_other _ _ hr]

/-- An underrun is counted. -/
theorem State.popUnderrun_count : (s.popUnderrun c q).ent (queueIdx q) 0x14 = satAdd max32 (s.ent (queueIdx q) 0x14) 1 := by
  rw [State.popUnderrun, State.latch_ent, State.qIrq_ent, State.count_ent_self, State.onQ_ent]

theorem State.popUnderrun_sameBut : SameBut [.queue, .od, .out] s (s.popUnderrun c q) :=
  ((SameBut.trans (State.onQ_get q _ s) (State.count_get _ _ _ _)).trans
    (SameBut.trans (State.qIrq_get q 3 _) (State.latch_get c q _ _ _))).mono (by simp)

end Underrun


/-! ### Pops (R305, R308, R309) -/

/-- A pop behind no waiting one is served at once. -/
theorem exec_pop_first {c : Fin 8} {q : Fin 32} {s : State} (hwait : (s.q q).waiting = []) :
    exec (.pop c q) s = .next (s.popNow c q) := congrArg Host.Outcome.next (if_pos hwait)

section Now

variable {c q : Nat} {s u : State} (hst : (s.q q).st ≠ .disabled)

include hst

/-- A pop of a level of a RING queue takes its item. -/
theorem State.popNow_ring {l : Nat} (hlevel : s.popLevel q = (some l, u)) (hspill : (u.q q).spill = false) :
    s.popNow c q = u.popItem c q l := by
  simp only [State.popNow, hst, hlevel, hspill, Bool.false_eq_true, false_and, ↓reduceIte]

/-- A pop of no level meets the empty behaviour. -/
theorem State.popNow_empty (hlevel : s.popLevel q = (none, u)) : s.popNow c q = u.popEmpty c q := by
  simp only [State.popNow, hst, hlevel, ↓reduceIte]

/-- A pop of a SPILL level waits, with the level chosen, while the head is empty and the items lie in the middle. -/
theorem State.popNow_waits {l : Nat} (hlevel : s.popLevel q = (some l, u)) (hspill : (u.q q).spill = true)
    (hhead : ((u.q q).level l).headN = 0) (hmid : ((u.q q).level l).midN ≠ 0) : s.popNow c q =
      (u.onQ q (fun x => x.onLevel l QLevel.settle)).onQ q (fun x => { x with waiting := x.waiting ++ [c], chosen := some l }) := by
  have hstays : (((u.onQ q (fun x => x.onLevel l QLevel.settle)).q q).level l).headN = 0 := by
    rw [State.onQ_q_self, Queue.onLevel_level_self, QLevel.settle_of_middle hmid, hhead]
  have hkeeps : ((u.onQ q (fun x => x.onLevel l QLevel.settle)).q q).spill = true := by
    rw [State.onQ_q_self]
    exact hspill
  simp only [State.popNow, hst, hlevel, hspill, hkeeps, hstays, and_self, ↓reduceIte]

end Now

section Exec

variable {c : Fin 8} {q : Fin 32} {l : Nat} {p : QPkt} {rest : List QPkt} {it : BitVec 128} {s : State}
  (hwait : (s.q q).waiting = []) (hst : (s.q q).st ≠ .disabled)

include hwait hst

/-- A pop of a RING queue takes an item that is not its packet's last. -/
theorem exec_pop_next {more : List (BitVec 128)} (hspill : (s.q q).spill = false) (hread : (s.q q).stream = some l ∨
      (s.q q).stream = none ∧ (s.q q).chosen = none ∧ (s.q q).highest 8 = some l ∧ s.qEnt q 12 ≠ 1)
    (hpkts : ((s.q q).level l).pkts = p :: rest) (hitems : p.items = it :: more) (hmore : more ≠ []) :
    ∃ u, s.Selects q u ∧ exec (.pop c q) s = .next (u.popTaken c q l it
      (popStatusWord true false false false p.length p.index l) ({ p with index := p.index + 1, items := more } :: rest) (some l)) := by
  obtain ⟨u, hlevel, hsel⟩ := State.popLevel_some hread
  have hring := hsel.spill.trans hspill
  have hnext := State.popItem_next (c := c) ((congrArg QLevel.pkts (hsel.level l)).trans hpkts) hitems hmore
  refine ⟨u, hsel, (exec_pop_first hwait).trans (congrArg _ ((State.popNow_ring hst hlevel hring).trans ?_))⟩
  rw [hnext, State.itemStatus_ring _ _ hring]

/-- A pop of an ENABLED RING queue takes the last item of its packet. -/
theorem exec_pop_last (hon : (s.q q).st = .enabled) (hspill : (s.q q).spill = false) (hstream : (s.q q).stream = some l)
    (hpkts : ((s.q q).level l).pkts = p :: rest) (hitems : p.items = [it]) : exec (.pop c q) s =
      .next (s.popTaken c q l it (popStatusWord true false false false p.length p.index l) rest none) := by
  refine (exec_pop_first hwait).trans (congrArg _ ((State.popNow_ring hst (State.popLevel_stream hstream) hspill).trans ?_))
  rw [State.popItem_last hpkts hitems hon, State.itemStatus_ring _ _ hspill]

/-- A pop of a SPILL level whose items lie in the middle waits. -/
theorem exec_pop_waits (hspill : (s.q q).spill = true) (hstream : (s.q q).stream = some l) (hhead : ((s.q q).level l).headN = 0)
    (hmid : ((s.q q).level l).midN ≠ 0) : exec (.pop c q) s = .next ((s.onQ q (fun x => x.onLevel l QLevel.settle)).onQ q
      (fun x => { x with waiting := x.waiting ++ [c.val], chosen := some l })) :=
  (exec_pop_first hwait).trans (congrArg _ (State.popNow_waits hst (State.popLevel_stream hstream) hspill hhead hmid))

variable (hstream : (s.q q).stream = none) (hchosen : (s.q q).chosen = none) (hempty : (s.q q).highest 8 = none)

include hstream hchosen hempty

/-- A pop of an empty queue with EMPTY_MODE 0 answers the idle item. -/
theorem exec_pop_idle (hmode : s.qEnt q 10 = 0) : exec (.pop c q) s = .next ((s.qAtBoundary q).latch c q
    (BitVec.ofNat 128 ((s.qAtBoundary q).qEnt q 11)) (popStatusWord false true false false 0 0 0)) :=
  (exec_pop_first hwait).trans (congrArg _ ((State.popNow_empty hst (State.popLevel_none hstream hchosen hempty)).trans
    (State.popEmpty_idle (by rwa [State.qAtBoundary_st]) (by rwa [State.qAtBoundary_emptyMode]))))

/-- Else it answers the last item, with an underrun. -/
theorem exec_pop_underrun (hmode : s.qEnt q 10 ≠ 0) : exec (.pop c q) s = .next ((s.qAtBoundary q).popUnderrun c q) :=
  (exec_pop_first hwait).trans (congrArg _ ((State.popNow_empty hst (State.popLevel_none hstream hchosen hempty)).trans
    (State.popEmpty_underrun (by rwa [State.qAtBoundary_st]) (by rwa [State.qAtBoundary_emptyMode]))))

end Exec

/-! ### The pop that waits (R309) -/

/-- A level whose oldest packet has items left holds items. -/
theorem QLevel.stored_pos {v : QLevel} {p : QPkt} {rest : List QPkt} (hpkts : v.pkts = p :: rest) (hitems : p.items ≠ []) : v.stored ≠ 0 := by
  have hlen : p.items.length ≠ 0 := fun h => hitems (List.length_eq_zero_iff.mp h)
  simp only [QLevel.stored, hpkts, List.map_cons, sumN]
  omega

/-- Moving the tail up leaves no head empty that held an item, and takes no packet. -/
theorem QLevel.settle_headN {v : QLevel} {p : QPkt} {rest : List QPkt} (hhead : v.headN ≠ 0) (hpkts : v.pkts = p :: rest)
    (hitems : p.items ≠ []) : v.settle.headN ≠ 0 := by
  have hstored := QLevel.stored_pos hpkts hitems
  unfold QLevel.settle
  split
  · simp only [ne_eq]
    omega
  · exact hhead

theorem QLevel.settle_pkts (v : QLevel) : v.settle.pkts = v.pkts := by
  unfold QLevel.settle
  split <;> rfl

theorem QLevel.settle_badN (v : QLevel) : v.settle.badN = v.badN := by
  unfold QLevel.settle
  split <;> rfl

/-- The state in which the pop that waits longest is taken up again: the others still wait. -/
def State.popResumed (q l : Nat) (others : List Nat) (s : State) : State :=
  (s.onQ q (fun x => { x with waiting := others })).onQ q (fun x => x.onLevel l QLevel.settle)

section Resume

variable (q l : Nat) (others : List Nat) (s : State)

theorem State.popResumed_q_self : (s.popResumed q l others).q q = { (s.q q).onLevel l QLevel.settle with waiting := others } := by
  rw [State.popResumed, State.onQ_q_self, State.onQ_q_self]
  rfl

theorem State.popResumed_level (m : Nat) : ((s.popResumed q l others).q q).level m = ((s.q q).onLevel l QLevel.settle).level m := by
  rw [State.popResumed_q_self]
  rfl

theorem State.popResumed_level_self : ((s.popResumed q l others).q q).level l = ((s.q q).level l).settle := by
  rw [State.popResumed_level, Queue.onLevel_level_self]

/-- Moving the tail up changes no status. -/
theorem State.popResumed_itemStatus (p : QPkt) : (s.popResumed q l others).itemStatus q l p = s.itemStatus q l p := by
  have hspill : ((s.popResumed q l others).q q).spill = (s.q q).spill := by
    rw [State.popResumed_q_self]
    rfl
  rw [State.itemStatus, State.popResumed_level_self, QLevel.settle_badN, hspill, State.itemStatus]

theorem State.popResumed_q_other {r : Nat} (hr : r ≠ q) : (s.popResumed q l others).q r = s.q r := by
  rw [State.popResumed, State.onQ_q_other _ _ hr, State.onQ_q_other _ _ hr]

theorem State.popResumed_sameBut : SameBut [.queue] s (s.popResumed q l others) :=
  (SameBut.trans (State.onQ_get q _ s) (State.onQ_get q _ _)).mono (by simp)

end Resume

section Complete

variable {c : Fin 8} {q : Fin 32} {others : List Nat} {l : Nat} {s : State} (hwait : (s.q q).waiting = c.val :: others)
  (hlevel : (s.q q).stream = some l ∨ (s.q q).stream = none ∧ (s.q q).chosen = some l)

include hwait hlevel

/-- The pop that waits longest completes once the head of its level holds an item. -/
theorem exec_spillPopComplete_first : exec (.spillPopComplete c q) s =
    .next (if (((s.popResumed q l others).q q).level l).headN = 0 then s else (s.popResumed q l others).popItem c q l) := by
  have hself : (s.onQ q (fun x => { x with waiting := others })).q q = { s.q q with waiting := others } := State.onQ_q_self _ _ s
  have hread : (s.onQ q (fun x => { x with waiting := others })).popLevel q = (some l, s.onQ q (fun x => { x with waiting := others })) := by
    rcases hlevel with hstream | ⟨hstream, hchosen⟩
    · exact State.popLevel_stream (by rw [hself, hstream])
    · exact State.popLevel_chosen (by rw [hself, hstream]) (by rw [hself, hchosen])
  refine congrArg Host.Outcome.next ?_
  simp only [hwait, hread, ↓reduceIte]
  rfl

/-- With an item in the head that is not its packet's last, the pop takes it. -/
theorem exec_spillPopComplete_next {p : QPkt} {rest : List QPkt} {it : BitVec 128} {more : List (BitVec 128)}
    (hhead : ((s.q q).level l).headN ≠ 0) (hpkts : ((s.q q).level l).pkts = p :: rest) (hitems : p.items = it :: more) (hmore : more ≠ []) :
    exec (.spillPopComplete c q) s = .next ((s.popResumed q l others).popTaken c q l it (s.itemStatus q l p)
      ({ p with index := p.index + 1, items := more } :: rest) (some l)) := by
  have hready : (((s.popResumed q l others).q q).level l).headN ≠ 0 := by
    rw [State.popResumed_level_self]
    exact QLevel.settle_headN hhead hpkts (by simp [hitems])
  have hsame : (((s.popResumed q l others).q q).level l).pkts = p :: rest := by rw [State.popResumed_level_self, QLevel.settle_pkts, hpkts]
  refine (exec_spillPopComplete_first hwait hlevel).trans (congrArg _ ((if_neg hready).trans ?_))
  rw [State.popItem_next hsame hitems hmore, State.popResumed_itemStatus]

/-- While the items lie in the middle it waits on. -/
theorem exec_spillPopComplete_waits (hhead : ((s.q q).level l).headN = 0) (hmid : ((s.q q).level l).midN ≠ 0) :
    exec (.spillPopComplete c q) s = .next s := by
  refine (exec_spillPopComplete_first hwait hlevel).trans (congrArg _ (if_pos ?_))
  rw [State.popResumed_level_self, QLevel.settle_of_middle hmid, hhead]

end Complete

/-! ### The SPILL move of a level whose middle is due (R297, R310) -/

section Due

variable {q l : Nat} {s : State} (hmid : 4 ≤ ((s.q q).level l).midN) (hroom : ((s.q q).level l).headN + 4 ≤ 16)

include hmid hroom

theorem State.spillMove_due (bad : BitVec 4) : s.spillMove q l bad =
    if ((s.spillIn q l bad).q q).outDue l then (s.spillIn q l bad).spillOut q l else s.spillIn q l bad :=
  State.spillMove_in (by omega) (by simp [QLevel.inDue, hmid, hroom])

theorem State.spillMove_due_headN (bad : BitVec 4) :
    (((s.spillMove q l bad).q q).level l).headN = ((s.q q).level l).headN + 4 := by
  rw [State.spillMove_due hmid hroom]
  split
  · rw [State.spillOut_headN, State.spillIn_headN]
  · rw [State.spillIn_headN]

/-- A move whose items all bear an error counts four lost. -/
theorem State.spillMove_due_lost {bad : BitVec 4} (hbad : ∀ i, i < 4 → bad.getLsbD i = true) :
    (s.spillMove q l bad).ent (queueIdx q) 0x17 = satAdd max32 (s.ent (queueIdx q) 0x17) 4 := by
  rw [State.spillMove_due hmid hroom]
  split
  · rw [State.spillOut_ent, State.spillIn_lost q l hbad]
  · rw [State.spillIn_lost q l hbad]

end Due

/-! ### The statement -/

/-- Settles O38: a pop selects its level, then takes the item, waits, or meets the empty behaviour; a SPILL move stirs its level
alone. -/
theorem popsReadPackets : Obligations.PopsReadPackets := by
  refine ⟨fun c q l p rest it more s hwait hst hspill hread hpkts hitems hmore => ?_,
    fun c q l p rest it s hwait hst hspill hstream hpkts hitems => ?_,
    fun c q s hwait hst hstream hchosen hempty => ⟨fun hmode => ?_, fun hmode => ?_⟩,
    fun c q l s hwait hst hspill hstream hhead hmid => ?_,
    fun c q w l p rest it more s hwait hlevel hhead hpkts hitems hmore => ?_,
    fun c q w l s hwait hstream hhead hmid => exec_spillPopComplete_waits hwait (.inl hstream) hhead hmid,
    fun q l bad s hst hspill => ⟨congrArg Host.Outcome.next (if_pos ⟨hst, hspill⟩),
      fun hmid hroom => (State.spillMove_settles hmid hroom).trans (State.onQ_congr (Queue.onLevel_congr (if_pos hmid))),
      fun hin hout hmid => (State.spillMove_out (fun h => hmid h.1) hin).trans (if_pos hout)⟩,
    fun q l bad s hst hspill hmid hroom => ?_⟩
  · obtain ⟨u, hsel, hpop⟩ := exec_pop_next (c := c) hwait hst hspill hread hpkts hitems hmore
    refine ⟨_, hpop, State.popTaken_popData, State.popTaken_popStatus, State.popTaken_stream, State.popTaken_lastItem,
      ?_, ?_, ?_, fun m hm => ?_, ?_, fun r hr => ?_, (hsel.frame.trans State.popTaken_sameBut).mono (by simp)⟩
    · rw [State.popTaken_level_self, QLevel.taken]
    · rw [State.popTaken_level_self, QLevel.taken, hsel.level]
    · rw [State.popTaken_level_self, QLevel.taken, hsel.level]
    · rw [State.popTaken_level_other hm, hsel.level]
    · rw [State.popTaken_count, hsel.ent]
    · rw [State.popTaken_q_other hr, hsel.other r hr]
  · have hon : (s.q q).st ≠ .disabled := by simp [hst]
    exact ⟨_, exec_pop_last hwait hon hst hspill hstream hpkts hitems, State.popTaken_popData, State.popTaken_popStatus,
      State.popTaken_stream, congrArg QLevel.pkts State.popTaken_level_self, fun m hm => State.popTaken_level_other hm,
      fun r hr => State.popTaken_q_other hr, State.popTaken_sameBut⟩
  · have hsel := s.qAtBoundary_selects q
    refine ⟨_, exec_pop_idle hwait hst hstream hchosen hempty hmode, State.latch_popData .., State.latch_popStatus .., ?_, ?_,
      fun r hr => ?_, (hsel.frame.trans (State.latch_get _ _ _ _ _)).mono (by simp)⟩
    · rw [State.latch_q, hsel.levels]
    · rw [State.latch_q, hsel.underrun]
    · rw [State.latch_q, hsel.other r hr]
  · have hsel := s.qAtBoundary_selects q
    obtain ⟨i, hunderrun⟩ := State.popUnderrun_q_self c q (s.qAtBoundary q)
    refine ⟨_, exec_pop_underrun hwait hst hstream hchosen hempty hmode, ?_, State.latch_popStatus .., ?_, ?_, ?_,
      fun r hr => ?_, (hsel.frame.trans (State.popUnderrun_sameBut _ _ _)).mono (by simp)⟩
    · rw [State.popUnderrun, State.latch_popData, hsel.lastItem]
    · rw [hunderrun]
    · rw [State.popUnderrun_count, hsel.ent]
    · rw [hunderrun, hsel.levels]
    · rw [State.popUnderrun_q_other _ _ _ hr, hsel.other r hr]
  · refine ⟨_, exec_pop_waits hwait hst hspill hstream hhead hmid, ?_, ?_, fun m => ?_, fun r hr => ?_,
      (SameBut.trans (State.onQ_get _ _ s) (State.onQ_get _ _ _)).mono (by simp)⟩
    · rw [State.onQ_q_self, State.onQ_q_self]
      exact congrArg (· ++ [c.val]) hwait
    · rw [State.onQ_q_self]
    · rw [State.onQ_q_self, State.onQ_q_self]
      exact Queue.onLevel_level_of_fixed (QLevel.settle_of_middle hmid) m
    · rw [State.onQ_q_other _ _ hr, State.onQ_q_other _ _ hr]
  · refine ⟨_, exec_spillPopComplete_next hwait hlevel hhead hpkts hitems hmore, ?_, State.popTaken_popData, State.popTaken_popStatus,
      ?_, fun hmid => ?_, fun m hm => ?_, fun r hr => ?_, ((State.popResumed_sameBut _ _ _ _).trans State.popTaken_sameBut).mono (by simp)⟩
    · rw [State.popTaken_waiting, State.popResumed_q_self]
    · rw [State.popTaken_level_self, QLevel.taken]
    · rw [State.popTaken_level_self, QLevel.taken, State.popResumed_level_self, QLevel.settle_of_middle hmid]
    · rw [State.popTaken_level_other hm, State.popResumed_level, Queue.onLevel_level_other _ _ hm]
    · rw [State.popTaken_q_other hr, State.popResumed_q_other _ _ _ _ hr]
  · have hstir := s.spillMove_stirs q l bad
    exact ⟨_, congrArg Host.Outcome.next (if_pos ⟨hst, hspill⟩), State.spillMove_due_headN hmid hroom bad, hstir.self.credits,
      fun hbad => State.spillMove_due_lost hmid hroom (by subst hbad; decide), hstir.self.level, hstir.other, State.spillMove_get _ _ _ s⟩

end Sys2Proof.Machine
end

section
/-! PROOFS. Pushes: the commit of a packet, the causes of a refusal, the packet that GO opens and fills, the return of credits and a
packet abandoned (09 R299 to R303, R311; log 12). -/

namespace Sys2Proof.Machine

/-! ### FILL (R311) -/

theorem sumN_eq_sum (l : List Nat) : sumN l = l.sum := by
  induction l with
  | nil => rfl
  | cons a l ih => rw [sumN, ih, List.sum_cons]

/-- Where one of n numbers grows by k, their sum does. -/
theorem sumN_map_range_add {f g : Nat → Nat} {l k n : Nat} (hl : l < n) (hself : g l = f l + k) (hother : ∀ m, m ≠ l → g m = f m) :
    sumN ((List.range n).map g) = sumN ((List.range n).map f) + k := by
  simp only [sumN_eq_sum]
  induction n with
  | zero => exact absurd hl (Nat.not_lt_zero l)
  | succ n ih =>
    simp only [List.range_succ, List.map_append, List.map_cons, List.map_nil, List.sum_append, List.sum_cons, List.sum_nil]
    by_cases hn : l = n
    · have hbelow : (List.range n).map g = (List.range n).map f :=
        List.map_congr_left fun m hm => hother m (by have := List.mem_range.mp hm; omega)
      subst hn
      rw [hbelow, hself]
      omega
    · rw [ih (by omega), hother n (Ne.symm hn)]
      omega

/-- FILL grows by what one level gains. -/
theorem Queue.fill_add {x y : Queue} {l n : Nat} (hl : l < 8) (hself : (y.level l).stored = (x.level l).stored + n)
    (hother : ∀ m, m ≠ l → y.level m = x.level m) : y.fill = x.fill + n :=
  sumN_map_range_add hl hself fun m hm => by rw [hother m hm]

/-- A packet put behind the others adds its items. -/
theorem QLevel.stored_append {v w : QLevel} {p : QPkt} (h : w.pkts = v.pkts ++ [p]) : w.stored = v.stored + p.items.length := by
  simp only [QLevel.stored, sumN_eq_sum, h, List.map_append, List.sum_append, List.map_cons, List.map_nil, List.sum_cons, List.sum_nil,
    Nat.add_zero]

/-! ### The commit of a packet (R299) -/

theorem Queue.StirredAt.opened {l : Nat} {x y : Queue} (h : x.StirredAt l y) : y.opened = x.opened := by rw [h.rest]

theorem Queue.StirredAt.assembly {l : Nat} {x y : Queue} (h : x.StirredAt l y) : y.assembly = x.assembly := by rw [h.rest]

/-- A queue with a packet of all its items put behind those of level l; in RING storage the write pointer goes on (R296). -/
def Queue.appended (l : Nat) (items : List (BitVec 128)) (x : Queue) : Queue :=
  let y := x.onLevel l (fun v => { v with pkts := v.pkts ++ [⟨items.length, 0, items⟩] })
  if x.spill then y else y.onLevel l (fun v => { v with wr := (v.wr + items.length) % (2 * x.levelCap) })

section Appended

variable (l : Nat) (items : List (BitVec 128)) (x : Queue)

theorem Queue.appended_stirs : x.StirredAt l (x.appended l items) := by
  unfold Queue.appended
  dsimp only
  split
  · exact .onLevel rfl
  · exact .trans (.onLevel rfl) (.onLevel rfl)

theorem Queue.appended_pkts : ((x.appended l items).level l).pkts = (x.level l).pkts ++ [⟨items.length, 0, items⟩] := by
  unfold Queue.appended
  dsimp only
  split
  · rw [Queue.onLevel_level_self]
  · rw [Queue.onLevel_level_self, Queue.onLevel_level_self]

theorem Queue.appended_above : (x.appended l items).above = x.above := by
  unfold Queue.appended
  dsimp only
  split <;> rfl

end Appended

/-- The state with a packet stored at level l: in SPILL storage the moves that make room follow (R297). -/
def State.qStored (q l : Nat) (items : List (BitVec 128)) (s : State) : State :=
  let u := s.onQ q (Queue.appended l items)
  if (u.q q).spill then u.spillRoom q l 64 else u

section Commit

variable (q l : Nat) (items : List (BitVec 128)) (s : State)

theorem State.qCommit_eq : s.qCommit q l items =
    ((s.qStored q l items).count (queueIdx q) 0x11 items.length).watermarks q (s.q q).fill := rfl

theorem State.qStored_stirs : s.StirsLevel q l (s.qStored q l items) := by
  have happended : s.StirsLevel q l (s.onQ q (Queue.appended l items)) := .onQ (Queue.appended_stirs l items _)
  unfold State.qStored
  dsimp only
  split
  · exact happended.trans (State.spillRoom_stirs q l 64 _)
  · exact happended

/-- In RING storage no move follows. -/
theorem State.qStored_ring (hspill : (s.q q).spill = false) : s.qStored q l items = s.onQ q (Queue.appended l items) := by
  refine if_neg ?_
  rw [State.onQ_q_self, (Queue.appended_stirs l items _).rest]
  simp [hspill]

/-- A commit changes no more of its queue than one level, its credits excepted, ABOVE and PENDING. -/
theorem State.qCommit_stirred : (s.q q).StirredAt l ((s.qCommit q l items).q q) := by
  obtain ⟨a, i, h⟩ := State.watermarks_q_self q (s.q q).fill ((s.qStored q l items).count (queueIdx q) 0x11 items.length)
  rw [State.qCommit_eq, h, State.count_q]
  exact (s.qStored_stirs q l items).self.trans ⟨rfl, fun _ _ => rfl, rfl⟩

theorem State.qCommit_q_other {r : Nat} (hr : r ≠ q) : (s.qCommit q l items).q r = s.q r := by
  rw [State.qCommit_eq, State.watermarks_q_other _ _ hr, State.count_q, (s.qStored_stirs q l items).other r hr]

/-- A commit counts its items. -/
theorem State.qCommit_count :
    (s.qCommit q l items).ent (queueIdx q) 0x11 = satAdd max32 (s.ent (queueIdx q) 0x11) items.length := by
  rw [State.qCommit_eq, State.watermarks_ent, State.count_ent_self, (s.qStored_stirs q l items).ent 0x11 (by decide)]

/-- A commit to RING storage puts the packet behind the others. -/
theorem State.qCommit_ring_pkts (hspill : (s.q q).spill = false) :
    (((s.qCommit q l items).q q).level l).pkts = ((s.q q).level l).pkts ++ [⟨items.length, 0, items⟩] := by
  obtain ⟨a, i, h⟩ := State.watermarks_q_self q (s.q q).fill ((s.qStored q l items).count (queueIdx q) 0x11 items.length)
  rw [State.qCommit_eq, h, State.count_q, State.qStored_ring q l items s hspill, State.onQ_q_self]
  exact Queue.appended_pkts l items (s.q q)

/-- A commit to RING storage that brings FILL to the high watermark raises ABOVE. -/
theorem State.qCommit_ring_above (hl : l < 8) (hspill : (s.q q).spill = false) (habove : (s.q q).above = false)
    (hhigh : s.qEnt q 8 ≤ (s.q q).fill + items.length) : ((s.qCommit q l items).q q).above = true := by
  have hq : ((s.qStored q l items).count (queueIdx q) 0x11 items.length).q q = (s.q q).appended l items := by
    rw [State.count_q, State.qStored_ring q l items s hspill, State.onQ_q_self]
  have hfill : ((s.q q).appended l items).fill = (s.q q).fill + items.length :=
    Queue.fill_add hl (QLevel.stored_append (Queue.appended_pkts l items _)) (Queue.appended_stirs l items _).level
  have hent : ((s.qStored q l items).count (queueIdx q) 0x11 items.length).qEnt q 8 = s.qEnt q 8 := by
    rw [State.qEnt, State.count_ent_other _ _ (ekey_ne_of_sub (by decide)), (s.qStored_stirs q l items).ent 8 (by decide), State.qEnt]
  rw [State.qCommit_eq]
  refine State.watermarks_above _ ?_ ?_
  · rw [hq, Queue.appended_above, habove]
  · rw [hq, hfill, hent]
    exact hhigh

end Commit

/-! ### A firmware packet that is complete (R299, R300) -/

/-- The state with no packet open at a queue. -/
def State.packetClosed (q : Nat) (s : State) : State := s.onQ q (fun x => { x with opened := none, assembly := [] })

/-- The state with the open packet of a queue committed at level l with its items. -/
def State.packetDone (q l : Nat) (items : List (BitVec 128)) (s : State) : State := (s.packetClosed q).qCommit q l items

section Done

variable (q l : Nat) (items : List (BitVec 128)) (s : State)

theorem State.packetClosed_q_self : (s.packetClosed q).q q = { s.q q with opened := none, assembly := [] } := State.onQ_q_self q _ s

theorem State.packetDone_opened : ((s.packetDone q l items).q q).opened = none := by
  rw [State.packetDone, (State.qCommit_stirred q l items _).opened, State.packetClosed_q_self]

theorem State.packetDone_assembly : ((s.packetDone q l items).q q).assembly = [] := by
  rw [State.packetDone, (State.qCommit_stirred q l items _).assembly, State.packetClosed_q_self]

theorem State.packetDone_level_other {m : Nat} (hm : m ≠ l) : ((s.packetDone q l items).q q).level m = (s.q q).level m := by
  rw [State.packetDone, (State.qCommit_stirred q l items _).level m hm, State.packetClosed_q_self]
  rfl

theorem State.packetDone_credits : (((s.packetDone q l items).q q).level l).credits = ((s.q q).level l).credits := by
  rw [State.packetDone, (State.qCommit_stirred q l items _).credits, State.packetClosed_q_self]
  rfl

theorem State.packetDone_pkts (hspill : (s.q q).spill = false) :
    (((s.packetDone q l items).q q).level l).pkts = ((s.q q).level l).pkts ++ [⟨items.length, 0, items⟩] := by
  rw [State.packetDone, State.qCommit_ring_pkts _ _ _ _ (by rw [State.packetClosed_q_self, hspill]), State.packetClosed_q_self]
  rfl

theorem State.packetDone_above (hl : l < 8) (hspill : (s.q q).spill = false) (habove : (s.q q).above = false)
    (hhigh : s.qEnt q 8 ≤ (s.q q).fill + items.length) : ((s.packetDone q l items).q q).above = true := by
  have hself := State.packetClosed_q_self q s
  exact State.qCommit_ring_above q l items _ hl (by rw [hself, hspill]) (by rw [hself, habove]) (by rw [hself]; exact hhigh)

theorem State.packetDone_count :
    (s.packetDone q l items).ent (queueIdx q) 0x11 = satAdd max32 (s.ent (queueIdx q) 0x11) items.length := by
  rw [State.packetDone, State.qCommit_count, State.packetClosed, State.onQ_ent]

theorem State.packetDone_q_other {r : Nat} (hr : r ≠ q) : (s.packetDone q l items).q r = s.q r := by
  rw [State.packetDone, State.qCommit_q_other _ _ _ _ hr, State.packetClosed, State.onQ_q_other _ _ hr]

end Done

/-! ### The causes of a refusal (R300; log 12) -/

section Cause

variable {c q len lev : Nat} {s : State}

/-- A queue that is neither ENABLED nor FLUSH_PENDING takes no packet. -/
theorem State.firstCause_closed (hst : (s.q q).st = .disabled ∨ (s.q q).st = .disablePending) : s.firstCause c q len lev = 3 :=
  if_pos (by rcases hst with h | h <;> simp [h])

variable (hst : (s.q q).st = .enabled ∨ (s.q q).st = .flushPending)

include hst

/-- A queue that takes packets is not refused with cause 3. -/
theorem State.takes_of_open : ¬((s.q q).st ≠ .enabled ∧ (s.q q).st ≠ .flushPending) := by
  rcases hst with h | h <;> simp [h]

theorem State.firstCause_range (hbad : len = 0 ∨ 64 < len ∨ (s.q q).levelCount ≤ lev) : s.firstCause c q len lev = 4 :=
  (if_neg (State.takes_of_open hst)).trans (if_pos hbad)

variable (hlow : 1 ≤ len) (hhigh : len ≤ 64) (hlev : lev < (s.q q).levelCount)

include hlow hhigh hlev

/-- With a length and a level in range, the cause is that of the packet open or of the credits. -/
theorem State.firstCause_taken {d l n at' : Nat} (hopened : (s.q q).opened = some (d, l, n, at')) (hd : d ≠ c) :
    s.firstCause c q len lev = 2 := by
  refine (if_neg (State.takes_of_open hst)).trans ((if_neg (by omega)).trans ?_)
  simp only [hopened, hd, ↓reduceIte]

theorem State.firstCause_noCredit (hopened : (s.q q).opened = none) (hcredits : ((s.q q).level lev).credits < len) :
    s.firstCause c q len lev = 1 := by
  refine (if_neg (State.takes_of_open hst)).trans ((if_neg (by omega)).trans ?_)
  simp only [hopened, hcredits, ↓reduceIte]

theorem State.firstCause_none (hopened : (s.q q).opened = none) (hcredits : len ≤ ((s.q q).level lev).credits) :
    s.firstCause c q len lev = 0 := by
  refine (if_neg (State.takes_of_open hst)).trans ((if_neg (by omega)).trans ?_)
  simp only [hopened, Nat.not_lt.mpr hcredits, ↓reduceIte]

end Cause

/-! ### GO (R300) -/

/-- The outcome of a GO reads back. -/
theorem State.pushOutcome_refused (c q n : Nat) (s : State) :
    tabGet 0 (s.pushOutcome c q n).queue.pushRefused (latchKey c q) = n := by
  rw [State.pushOutcome, State.onQueues_queue, tabGet_tabPut_self]

/-- A level with n of its credits reserved. -/
def QLevel.charged (n : Nat) (v : QLevel) : QLevel := { v with credits := v.credits - n }

/-- A level with n credits given back. -/
def QLevel.refunded (n : Nat) (v : QLevel) : QLevel := { v with credits := v.credits + n }

/-- The state with the packet that GO asks for open, its credits reserved, and no item yet. -/
def State.pushOpened (c q : Nat) (s : State) : State := s.onQ q (fun x =>
  { x.onLevel (s.pushLev c q) (QLevel.charged (s.pushLen c q)) with
    opened := some (c, s.pushLev c q, s.pushLen c q, s.now), assembly := [] })

section Go

variable {c q : Nat} {s : State}

/-- An item that is not its packet's last joins the assembly. -/
theorem State.pushItem_joins {d lev len since : Nat} (hopened : (s.q q).opened = some (d, lev, len, since))
    (hlen : (s.q q).assembly.length + 1 ≠ len) : s.pushItem c q =
      s.onQ q (fun x => { x with assembly := (s.q q).assembly ++ [tabGet 0 s.queue.pushData (latchKey c q)] }) := by
  simp only [State.pushItem, hopened, List.length_append, List.length_cons, List.length_nil, Nat.zero_add, hlen, ↓reduceIte]

/-- A packet's last item commits it. -/
theorem State.pushItem_commits {d lev len since : Nat} (hopened : (s.q q).opened = some (d, lev, len, since))
    (hlen : (s.q q).assembly.length + 1 = len) : s.pushItem c q =
      s.packetDone q lev ((s.q q).assembly ++ [tabGet 0 s.queue.pushData (latchKey c q)]) := by
  simp only [State.pushItem, hopened, List.length_append, List.length_cons, List.length_nil, Nat.zero_add, hlen, ↓reduceIte]
  rfl

theorem State.pushFirst_refused (hcause : s.firstCause c q (s.pushLen c q) (s.pushLev c q) ≠ 0) :
    s.pushFirst c q = s.pushOutcome c q (s.firstCause c q (s.pushLen c q) (s.pushLev c q)) := if_pos hcause

theorem State.pushFirst_accepted (hcause : s.firstCause c q (s.pushLen c q) (s.pushLev c q) = 0) :
    s.pushFirst c q = ((s.pushOpened c q).pushItem c q).pushOutcome c q 0 := if_neg (not_not_intro hcause)

theorem State.pushOpened_q_self : (s.pushOpened c q).q q =
    { (s.q q).onLevel (s.pushLev c q) (QLevel.charged (s.pushLen c q)) with
      opened := some (c, s.pushLev c q, s.pushLen c q, s.now), assembly := [] } := State.onQ_q_self q _ s

theorem State.pushOpened_q_other {r : Nat} (hr : r ≠ q) : (s.pushOpened c q).q r = s.q r := State.onQ_q_other _ s hr

theorem State.pushOpened_opened : ((s.pushOpened c q).q q).opened = some (c, s.pushLev c q, s.pushLen c q, s.now) := by
  rw [State.pushOpened_q_self]

theorem State.pushOpened_assembly : ((s.pushOpened c q).q q).assembly = [] := by
  rw [State.pushOpened_q_self]

theorem State.pushOpened_spill : ((s.pushOpened c q).q q).spill = (s.q q).spill := by
  rw [State.pushOpened_q_self]
  rfl

/-- The packet opened has its credits reserved. -/
theorem State.pushOpened_level_self : ((s.pushOpened c q).q q).level (s.pushLev c q) =
    { (s.q q).level (s.pushLev c q) with credits := ((s.q q).level (s.pushLev c q)).credits - s.pushLen c q } := by
  rw [State.pushOpened_q_self]
  exact Queue.onLevel_level_self (s.q q) _ (QLevel.charged _)

theorem State.pushOpened_level_other {m : Nat} (hm : m ≠ s.pushLev c q) : ((s.pushOpened c q).q q).level m = (s.q q).level m := by
  rw [State.pushOpened_q_self]
  exact Queue.onLevel_level_other (QLevel.charged _) (s.q q) hm

/-- A packet of more than one item is open with its first. -/
theorem State.pushFirst_opens (hcause : s.firstCause c q (s.pushLen c q) (s.pushLev c q) = 0) (hlen : 1 < s.pushLen c q) :
    s.pushFirst c q = ((s.pushOpened c q).onQ q (fun x => { x with assembly := [tabGet 0 s.queue.pushData (latchKey c q)] })).pushOutcome
      c q 0 := by
  have hmore : ((s.pushOpened c q).q q).assembly.length + 1 ≠ s.pushLen c q := by
    rw [State.pushOpened_assembly, List.length_nil]
    omega
  rw [State.pushFirst_accepted hcause, State.pushItem_joins State.pushOpened_opened hmore, State.pushOpened_assembly]
  rfl

/-- A packet of one item is committed at once. -/
theorem State.pushFirst_commits (hcause : s.firstCause c q (s.pushLen c q) (s.pushLev c q) = 0) (hlen : s.pushLen c q = 1) :
    s.pushFirst c q =
      ((s.pushOpened c q).packetDone q (s.pushLev c q) [tabGet 0 s.queue.pushData (latchKey c q)]).pushOutcome c q 0 := by
  have hlast : ((s.pushOpened c q).q q).assembly.length + 1 = s.pushLen c q := by
    rw [State.pushOpened_assembly, List.length_nil, hlen]
  rw [State.pushFirst_accepted hcause, State.pushItem_commits State.pushOpened_opened hlast, State.pushOpened_assembly]
  rfl

variable {d lev len since : Nat} (hst : (s.q q).st = .enabled ∨ (s.q q).st = .flushPending)

include hst

theorem State.pushNext_own (hopened : (s.q q).opened = some (c, lev, len, since)) :
    s.pushNext c q = (s.pushItem c q).pushOutcome c q 0 := by
  refine (if_neg (State.takes_of_open hst)).trans ?_
  simp only [hopened, ↓reduceIte]

theorem State.pushNext_other (hopened : (s.q q).opened = some (d, lev, len, since)) (hd : d ≠ c) :
    s.pushNext c q = s.pushOutcome c q 2 := by
  refine (if_neg (State.takes_of_open hst)).trans ?_
  simp only [hopened, hd, ↓reduceIte]

end Go

/-! ### A packet abandoned (R301) -/

/-- The state with the open packet of a queue, of level l and n credits, given up. -/
def State.packetGivenUp (q l n : Nat) (s : State) : State := s.onQ q (fun x =>
  { x.onLevel l (QLevel.refunded n) with opened := none, assembly := [] })

theorem State.packetGivenUp_q_self (q l n : Nat) (s : State) : (s.packetGivenUp q l n).q q =
    { (s.q q).onLevel l (QLevel.refunded n) with opened := none, assembly := [] } := State.onQ_q_self q _ s

theorem exec_packetAbandon_open {q : Fin 32} {c lev len since : Nat} {s : State} (hopened : (s.q q).opened = some (c, lev, len, since)) :
    exec (.packetAbandon q) s = .next ((((s.upTo (since + 1000)).packetGivenUp q lev len).count (queueIdx q) 0x15
      (s.q q).assembly.length).book 0xE402 0x18 1 (leBytes 1 q ++ leBytes 1 c ++ leBytes 1 (s.q q).assembly.length)) := by
  refine congrArg Host.Outcome.next ?_
  simp only [hopened]
  rfl

/-! ### The statement -/

/-- Settles O37: GO is refused with the first cause that applies; a packet accepted is opened, filled and committed by the lemmas
above. -/
theorem pushesFormPackets : Obligations.PushesFormPackets := by
  refine ⟨fun c q s hst hlow hhigh hlev hopened hcredits => ?_, fun c q s hst hlen hlev hopened hcredits => ?_,
    fun c q n s hcause hn => ?_, fun c q len lev s => ⟨State.firstCause_closed, fun hst => ⟨State.firstCause_range hst,
      fun hlow hhigh hlev => ⟨fun d l n at' => State.firstCause_taken hst hlow hhigh hlev,
        State.firstCause_noCredit hst hlow hhigh hlev, State.firstCause_none hst hlow hhigh hlev⟩⟩⟩,
    fun c q lev len since s hst hopened hlen => ?_, fun c q lev len since s hst hopened hlen => ?_, fun c q s => ⟨rfl, rfl⟩,
    fun c q d lev len since s hst hopened hd => ?_, fun q l s hreturning => ?_, fun q c lev len since s hopened => ?_⟩
  · have hcause := State.firstCause_none (c := c) hst (Nat.le_of_lt hlow) hhigh hlev hopened hcredits
    refine ⟨_, congrArg Host.Outcome.next (State.pushFirst_opens hcause hlow), ?_, ?_, ?_, fun m hm => ?_, State.pushOutcome_refused ..,
      fun r hr => ?_, ?_⟩
    · rw [State.pushOutcome_q, State.onQ_q_self, State.pushOpened_opened]
    · rw [State.pushOutcome_q, State.onQ_q_self]
    · rw [State.pushOutcome_q, State.onQ_q_self]
      exact State.pushOpened_level_self
    · rw [State.pushOutcome_q, State.onQ_q_self]
      exact State.pushOpened_level_other hm
    · rw [State.pushOutcome_q, State.onQ_q_other _ _ hr, State.pushOpened_q_other hr]
    · exact ((SameBut.trans (State.onQ_get _ _ s) (State.onQ_get _ _ _)).trans (State.pushOutcome_get _ _ _ _)).mono (by simp)
  · have hcause := State.firstCause_none (c := c) hst (Nat.le_of_eq hlen.symm) (by rw [hlen]; decide) hlev hopened
      (Nat.le_trans (Nat.le_of_eq hlen) hcredits)
    refine ⟨_, congrArg Host.Outcome.next (State.pushFirst_commits hcause hlen), ?_, fun hspill => ?_, ?_, fun m hm => ?_, ?_,
      fun r hr => ?_, ?_⟩
    · rw [State.pushOutcome_q, State.packetDone_opened]
    · rw [State.pushOutcome_q, State.packetDone_pkts _ _ _ _ (State.pushOpened_spill.trans hspill), State.pushOpened_level_self]
      rfl
    · rw [State.pushOutcome_q, State.packetDone_credits, State.pushOpened_level_self, hlen]
    · rw [State.pushOutcome_q, State.packetDone_level_other _ _ _ _ hm, State.pushOpened_level_other hm]
    · rw [State.pushOutcome_ent, State.packetDone_count, State.pushOpened, State.onQ_ent]
      rfl
    · rw [State.pushOutcome_q, State.packetDone_q_other _ _ _ _ hr, State.pushOpened_q_other hr]
    · rw [← State.pushFirst_commits hcause hlen]
      exact State.pushFirst_get _ _ s
  · subst hcause
    exact ⟨_, congrArg Host.Outcome.next (State.pushFirst_refused hn), State.pushOutcome_refused .., fun _ => rfl, State.pushOutcome_get _ _ _ s⟩
  · have hjoins := State.pushItem_joins (c := c) hopened (Nat.ne_of_lt hlen)
    refine ⟨_, congrArg Host.Outcome.next ((State.pushNext_own hst hopened).trans (congrArg _ hjoins)), ?_, State.pushOutcome_refused ..,
      fun r hr => ?_, ?_⟩
    · rw [State.pushOutcome_q, State.onQ_q_self]
    · rw [State.pushOutcome_q, State.onQ_q_other _ _ hr]
    · exact (SameBut.trans (State.onQ_get _ _ s) (State.pushOutcome_get _ _ _ _)).mono (by simp)
  · have hcommits := State.pushItem_commits (c := c) hopened hlen
    have hnext := (State.pushNext_own hst hopened).trans (congrArg (State.pushOutcome c q 0) hcommits)
    have hcount : ((s.q q).assembly ++ [tabGet 0 s.queue.pushData (latchKey c q)]).length = len := by
      rw [List.length_append, List.length_singleton, hlen]
    refine ⟨_, congrArg Host.Outcome.next hnext, ?_, ?_, fun hspill => ?_, fun m hm => ?_, ?_, fun hlev hspill habove hhigh => ?_,
      fun r hr => ?_, ?_⟩
    · rw [State.pushOutcome_q, State.packetDone_opened]
    · rw [State.pushOutcome_q, State.packetDone_assembly]
    · rw [State.pushOutcome_q, State.packetDone_pkts _ _ _ _ hspill, hcount]
    · rw [State.pushOutcome_q, State.packetDone_level_other _ _ _ _ hm]
    · rw [State.pushOutcome_ent, State.packetDone_count, hcount]
    · rw [State.pushOutcome_q, State.packetDone_above _ _ _ _ hlev hspill habove (by rw [hcount]; exact hhigh)]
    · rw [State.pushOutcome_q, State.packetDone_q_other _ _ _ _ hr]
    · rw [← hnext]
      exact State.pushNext_get _ _ s
  · exact ⟨_, congrArg Host.Outcome.next (State.pushNext_other hst hopened hd), State.pushOutcome_refused .., fun _ => rfl,
      State.pushOutcome_get _ _ _ s⟩
  · refine ⟨_, congrArg Host.Outcome.next (if_pos hreturning), ?_, fun m hm => ?_, fun r hr => State.onQ_q_other _ s hr,
      State.onQ_get _ _ s⟩
    · rw [State.onQ_q_self, Queue.onLevel_level_self]
    · rw [State.onQ_q_self, Queue.onLevel_level_other _ _ hm]
  · refine ⟨_, exec_packetAbandon_open hopened, rfl, ?_, ?_, ?_, fun m hm => ?_, ?_, fun r hr => ?_, ?_⟩
    · rw [State.book_q, State.count_q, State.packetGivenUp_q_self]
    · rw [State.book_q, State.count_q, State.packetGivenUp_q_self]
    · rw [State.book_q, State.count_q, State.packetGivenUp_q_self]
      exact Queue.onLevel_level_self (s.q q) lev (QLevel.refunded len)
    · rw [State.book_q, State.count_q, State.packetGivenUp_q_self]
      exact Queue.onLevel_level_other (QLevel.refunded len) (s.q q) hm
    · rw [State.book_ent, State.count_ent_self, State.packetGivenUp, State.onQ_ent, State.upTo_ent]
    · rw [State.book_q, State.count_q, State.packetGivenUp, State.onQ_q_other _ _ hr, State.upTo_q]
    · exact (((SameBut.trans (State.upTo_get _ s) (State.onQ_get _ _ _)).trans (State.count_get _ _ _ _)).trans
        (State.book_get _ _ _ _ _)).mono (by simp)

end Sys2Proof.Machine
end

section
/-! PROOFS. The states of a queue: enable, disable, flush, the clear of UNDERRUN, and the end of a pending state (09 R295, R298,
R308, R314 to R317). -/

namespace Sys2Proof.Machine

/-! ### Enable (R314, R317) -/

/-- A table with one value put at every key below n, read at any key. -/
theorem tabGet_foldl_tabPut {α : Type} [DecidableEq α] (d v : α) (n : Nat) (t : Tab α) (m : Nat) :
    tabGet d ((List.range n).foldl (fun u l => tabPut d u l v) t) m = if m < n then v else tabGet d t m := by
  induction n with
  | zero => rfl
  | succ n ih =>
    rw [List.range_succ, List.foldl_append, List.foldl_cons, List.foldl_nil, tabGet_tabPut, ih]
    by_cases hm : m = n
    · rw [if_pos hm, if_pos (by omega)]
    · rw [if_neg hm]
      have hbound : m < n ↔ m < n + 1 := by omega
      simp only [hbound]

section Enable

variable {q : Nat} {s : State} (hst : (s.q q).st = .disabled)

include hst

theorem State.writeEnable1_invalid (hok : s.qConfigOk q = false) : s.writeEnable1 q = (0x06090030, s) := by
  simp only [State.writeEnable1, hst, hok, ne_eq, not_true_eq_false, ↓reduceIte]

theorem State.writeEnable1_blocked (hok : s.qConfigOk q = true) (hblocked : s.qBlocked q = true) :
    s.writeEnable1 q = (0x08000020, s) := by
  simp only [State.writeEnable1, hst, hok, hblocked, ne_eq, not_true_eq_false, Bool.true_eq_false, ↓reduceIte]

theorem State.writeEnable1_enables (hok : s.qConfigOk q = true) (hfree : s.qBlocked q = false) :
    s.writeEnable1 q = (0, (s.qEnable q).setEnt (queueIdx q) 2 1) := by
  simp only [State.writeEnable1, hst, hok, hfree, ne_eq, not_true_eq_false, Bool.true_eq_false, Bool.false_eq_true, ↓reduceIte]

end Enable

/-- An enabled queue is at a packet boundary with no packet open. -/
theorem State.qEnable_fresh (q : Nat) (s : State) :
    ((s.qEnable q).q q).st = .enabled ∧ ((s.qEnable q).q q).opened = none ∧ ((s.qEnable q).q q).stream = none := by
  rw [State.qEnable, State.onQ_q_self]
  exact ⟨rfl, rfl, rfl⟩

/-- An enabled queue has every level empty and at full credit. -/
theorem State.qEnable_level {q l : Nat} {s : State} (hl : l < s.qEnt q 4) : ((s.qEnable q).q q).level l =
    { credits := levelCapOf (decide (s.qEnt q 3 = 1)) (s.qEnt q 5) (s.qEnt q 4) } := by
  rw [State.qEnable, State.onQ_q_self, Queue.level, tabGet_foldl_tabPut, if_pos hl]

theorem State.qEnable_q_other {q r : Nat} (s : State) (hr : r ≠ q) : (s.qEnable q).q r = s.q r := State.onQ_q_other _ s hr

/-! ### Disable (R314) -/

theorem State.discardWaiting_q (q r : Nat) (s : State) : (s.discardWaiting q).q r = s.q r :=
  State.q_of_get (State.discardWaiting_get q s .queue (by decide)) r

/-- A DISABLED queue holds nothing. -/
theorem State.qDisableEffect_q_self (q : Nat) (s : State) : ∃ x : Queue, (s.qDisableEffect q).q q =
    { x with st := .disabled, opened := none, assembly := [], above := false, levels := [] } :=
  ⟨_, (State.refreshFc_q q _).trans (State.onQ_q_self q _ _)⟩

theorem State.qDisableEffect_q_other {q r : Nat} (s : State) (hr : r ≠ q) : (s.qDisableEffect q).q r = s.q r := by
  rw [State.qDisableEffect, State.refreshFc_q, State.onQ_q_other _ _ hr, State.discardWaiting_q, State.count_q,
    State.qFlushEffect_q_other s hr]

section Disable

variable {q : Nat} {s : State} (hst : (s.q q).st = .enabled ∨ (s.q q).st = .flushPending)

include hst

theorem State.writeEnable0_boundary (hstream : (s.q q).stream = none) :
    s.writeEnable0 q = (s.setEnt (queueIdx q) 2 0).qDisableEffect q := by
  rcases hst with h | h <;> simp only [State.writeEnable0, State.setEnt_q, h, hstream, ↓reduceIte]

theorem State.writeEnable0_pends {l : Nat} (hstream : (s.q q).stream = some l) :
    s.writeEnable0 q = (s.setEnt (queueIdx q) 2 0).onQ q (fun x => { x with st := .disablePending }) := by
  rcases hst with h | h <;> simp only [State.writeEnable0, State.setEnt_q, h, hstream, reduceCtorEq, ↓reduceIte]

end Disable

/-! ### Flush (R314, R315) -/

section Flush

variable {q : Nat} {s : State}

theorem State.qFlush_boundary (hst : (s.q q).st = .enabled) (hstream : (s.q q).stream = none) : s.qFlush q = s.qFlushEffect q := by
  simp only [State.qFlush, hst, hstream, ↓reduceIte]

theorem State.qFlush_pends {l : Nat} (hst : (s.q q).st = .enabled) (hstream : (s.q q).stream = some l) :
    s.qFlush q = s.onQ q (fun x => { x with st := .flushPending }) := by
  simp only [State.qFlush, hst, hstream, reduceCtorEq, ↓reduceIte]

theorem State.qFlushEffect_st (q : Nat) (s : State) : ((s.qFlushEffect q).q q).st = (s.q q).st := by
  obtain ⟨a, i, h⟩ := State.qFlushEffect_q_self q s
  rw [h, Queue.flushed_st]

theorem State.qFlushEffect_stream (q : Nat) (s : State) : ((s.qFlushEffect q).q q).stream = none := by
  obtain ⟨a, i, h⟩ := State.qFlushEffect_q_self q s
  rw [h, Queue.flushed_stream]

theorem State.qFlushEffect_level (q : Nat) (s : State) {l : Nat} (hl : l < 8) :
    ((s.qFlushEffect q).q q).level l = ((s.q q).level l).flushed := by
  obtain ⟨a, i, h⟩ := State.qFlushEffect_q_self q s
  have hlevels : ((s.qFlushEffect q).q q).levels = (s.q q).flushed.levels := by rw [h]
  rw [Queue.level_of_levels hlevels, Queue.flushed_level _ hl]

/-- A pending flush takes place at a boundary, and its queue is ENABLED again. -/
theorem State.qBoundary_flushes (hst : (s.q q).st = .flushPending) :
    s.qBoundary q = (s.qFlushEffect q).onQ q (fun x => { x with st := .enabled }) := by
  simp only [State.qBoundary, hst]

/-- A pending disable takes place at a boundary. -/
theorem State.qBoundary_disables (hst : (s.q q).st = .disablePending) : s.qBoundary q = s.qDisableEffect q := by
  simp only [State.qBoundary, hst]

end Flush

/-! ### The end of a pending state (R314) -/

theorem State.watermarks_st (q old : Nat) (s : State) : ((s.watermarks q old).q q).st = (s.q q).st := by
  obtain ⟨a, i, h⟩ := State.watermarks_q_self q old s
  rw [h]

/-- The rest of a packet discarded leaves the state of its queue. -/
theorem State.dropRest_st (q : Nat) (s : State) : ((s.dropRest q).q q).st = (s.q q).st := by
  unfold State.dropRest
  split
  · rfl
  · split
    · rw [State.onQ_q_self]
    · dsimp only
      rw [State.watermarks_st, State.count_q, State.onQ_q_self]
      rfl

theorem State.dropRest_q_other {q r : Nat} (s : State) (hr : r ≠ q) : (s.dropRest q).q r = s.q r := by
  unfold State.dropRest
  split
  · rfl
  · split
    · exact State.onQ_q_other _ s hr
    · dsimp only
      rw [State.watermarks_q_other _ _ hr, State.count_q, State.onQ_q_other _ s hr]

/-- The state in which the rest of the packet in progress is discarded, 1000 µs after the read stream's last advance. -/
def State.restDropped (q : Nat) (s : State) : State := (s.upTo ((s.q q).streamAt + 1000)).dropRest q

theorem State.restDropped_st (q : Nat) (s : State) : ((s.restDropped q).q q).st = (s.q q).st :=
  (State.dropRest_st q _).trans (congrArg Queue.st (State.upTo_q _ q s))

theorem State.restDropped_q_other {q r : Nat} (s : State) (hr : r ≠ q) : (s.restDropped q).q r = s.q r :=
  (State.dropRest_q_other _ hr).trans (State.upTo_q _ r s)

theorem State.restDropped_now (q : Nat) (s : State) : (s.restDropped q).now = max s.now ((s.q q).streamAt + 1000) :=
  State.now_of_get (State.dropRest_get q _ .now (by decide))

theorem State.restDropped_sameBut (q : Nat) (s : State) : SameBut [.now, .queue, .od, .out] s (s.restDropped q) :=
  (SameBut.trans (State.upTo_get _ s) (State.dropRest_get q _)).mono (by simp)

theorem exec_queuePendingTimeout_flushes {q : Fin 32} {s : State} (hst : (s.q q).st = .flushPending) :
    exec (.queuePendingTimeout q) s = .next (((s.restDropped q).qFlushEffect q).onQ q (fun x => { x with st := .enabled })) := by
  refine congrArg Host.Outcome.next ?_
  rw [← State.qBoundary_flushes ((State.restDropped_st q s).trans hst)]
  simp only [hst]
  rfl

theorem exec_queuePendingTimeout_disables {q : Fin 32} {s : State} (hst : (s.q q).st = .disablePending) :
    exec (.queuePendingTimeout q) s = .next ((s.restDropped q).qDisableEffect q) := by
  refine congrArg Host.Outcome.next ?_
  rw [← State.qBoundary_disables ((State.restDropped_st q s).trans hst)]
  simp only [hst]
  rfl

/-! ### Writes that are served -/

section Served

variable {q : Fin 32} {s : State} (hrun : s.boot.st = .running) (hnmt : s.comm.nmt ≠ .stopped)

include hrun hnmt

theorem exec_queueEnable_served {code : Nat} {t : State} (hcheck : s.writeCheck (queueIdx q) 2 1 = 0)
    (h : s.writeEnable1 q = (code, t)) : exec (.queueEnable q) s = .next (t.answer code) :=
  congrArg Host.Outcome.next ((State.guarded_of_accepted _ hrun hnmt hcheck).trans (by rw [h]))

theorem exec_queueDisable_served {t : State} (hcheck : s.writeCheck (queueIdx q) 2 0 = 0) (h : s.writeEnable0 q = t) :
    exec (.queueDisable q) s = .next (t.answer 0) :=
  congrArg Host.Outcome.next ((State.guarded_of_accepted _ hrun hnmt hcheck).trans (by rw [h]))

theorem exec_queueFlush_served {t : State} (hcheck : s.writeCheck (queueIdx q) 0x10 1 = 0) (h : s.qFlush q = t) :
    exec (.queueFlush q) s = .next (t.answer 0) :=
  congrArg Host.Outcome.next ((State.guarded_of_accepted _ hrun hnmt hcheck).trans (congrArg (State.answer 0) h))

theorem exec_queueClearUnderrun_served (hcheck : s.writeCheck (queueIdx q) 0x10 2 = 0) :
    exec (.queueClearUnderrun q) s = .next ((s.onQ q (fun x => { x with underrun := false })).answer 0) :=
  congrArg Host.Outcome.next (State.guarded_of_accepted _ hrun hnmt hcheck)

end Served

/-! ### The statement -/

/-- Settles O39: each write that is served by the lemma of its case; a pending state ends as a boundary would end it. -/
theorem queuesAreEnabledAndFlushed : Obligations.QueuesAreEnabledAndFlushed := by
  refine ⟨fun q s hrun hnmt hcheck hst hok hfree => ?_, fun q s hrun hnmt hcheck hst => ⟨fun hok => ?_, fun hok hblocked => ?_⟩,
    fun q s hrun hnmt hcheck hst hstream => ?_, fun q l s hrun hnmt hcheck hst hstream => ?_,
    fun q s hrun hnmt hcheck hst hstream => ?_, fun q l s hrun hnmt hcheck hst hstream => ?_, fun q s hrun hnmt hcheck => ?_,
    fun q s hst => ?_, fun q s hst => ?_⟩
  · obtain ⟨henabled, hopened, hstream⟩ := State.qEnable_fresh q s
    exact ⟨_, exec_queueEnable_served hrun hnmt hcheck (State.writeEnable1_enables hst hok hfree), henabled, hopened, hstream,
      fun l hl => State.qEnable_level hl, State.setEnt_ent_self _ _ _ _, rfl, fun r hr => State.qEnable_q_other s hr,
      ((SameBut.trans (State.qEnable_get q s) (State.setEnt_get _ _ _ _)).trans (State.answer_get _ _)).mono (by simp)⟩
  · exact exec_queueEnable_served hrun hnmt hcheck (State.writeEnable1_invalid hst hok)
  · exact exec_queueEnable_served hrun hnmt hcheck (State.writeEnable1_blocked hst hok hblocked)
  · obtain ⟨x, hself⟩ := State.qDisableEffect_q_self q (s.setEnt (queueIdx q) 2 0)
    refine ⟨_, exec_queueDisable_served hrun hnmt hcheck (State.writeEnable0_boundary hst hstream), ?_, ?_, ?_, ?_, ?_, fun r hr => ?_,
      ((SameBut.trans (State.setEnt_get _ _ _ s) (State.qDisableEffect_get _ _)).trans (State.answer_get _ _)).mono (by simp)⟩
    · rw [State.answer_q, hself]
    · rw [State.answer_q, hself]
    · rw [State.answer_q, hself]
    · rw [State.answer_q, hself]
    · rw [State.answer_q, hself]
    · rw [State.answer_q, State.qDisableEffect_q_other _ hr, State.setEnt_q]
  · refine ⟨_, exec_queueDisable_served hrun hnmt hcheck (State.writeEnable0_pends hst hstream), ?_, fun r hr => ?_,
      ((SameBut.trans (State.setEnt_get _ _ _ s) (State.onQ_get _ _ _)).trans (State.answer_get _ _)).mono (by simp)⟩
    · rw [State.answer_q, State.onQ_q_self, State.setEnt_q]
    · rw [State.answer_q, State.onQ_q_other _ _ hr, State.setEnt_q]
  · refine ⟨_, exec_queueFlush_served hrun hnmt hcheck (State.qFlush_boundary hst hstream), ?_, fun l hl => ?_, ?_, fun r hr => ?_,
      (SameBut.trans (State.qFlushEffect_get _ s) (State.answer_get _ _)).mono (by simp)⟩
    · rw [State.answer_q, State.qFlushEffect_st, hst]
    · rw [State.answer_q, State.qFlushEffect_level _ _ hl]
      exact ⟨rfl, rfl⟩
    · rw [State.answer_ent, State.qFlushEffect_count]
    · rw [State.answer_q, State.qFlushEffect_q_other s hr]
  · refine ⟨_, exec_queueFlush_served hrun hnmt hcheck (State.qFlush_pends hst hstream), ?_, fun r hr => ?_,
      (SameBut.trans (State.onQ_get _ _ s) (State.answer_get _ _)).mono (by simp)⟩
    · rw [State.answer_q, State.onQ_q_self]
    · rw [State.answer_q, State.onQ_q_other _ s hr]
  · refine ⟨_, exec_queueClearUnderrun_served hrun hnmt hcheck, ?_, fun r hr => ?_,
      (SameBut.trans (State.onQ_get _ _ s) (State.answer_get _ _)).mono (by simp)⟩
    · rw [State.answer_q, State.onQ_q_self]
    · rw [State.answer_q, State.onQ_q_other _ s hr]
  · refine ⟨_, exec_queuePendingTimeout_flushes hst, ?_, ?_, ?_, fun l hl => ?_, fun r hr => ?_,
      (((State.restDropped_sameBut q s).trans (State.qFlushEffect_get _ _)).trans (State.onQ_get _ _ _)).mono (by simp)⟩
    · rw [State.onQ_now, State.now_of_get (State.qFlushEffect_get _ _ .now (by decide)), State.restDropped_now]
    · rw [State.onQ_q_self]
    · rw [State.onQ_q_self]
      exact State.qFlushEffect_stream _ _
    · rw [State.onQ_q_self]
      exact congrArg QLevel.pkts (State.qFlushEffect_level q (s.restDropped q) hl)
    · rw [State.onQ_q_other _ _ hr, State.qFlushEffect_q_other _ hr, State.restDropped_q_other s hr]
  · obtain ⟨x, hself⟩ := State.qDisableEffect_q_self q (s.restDropped q)
    refine ⟨_, exec_queuePendingTimeout_disables hst, ?_, ?_, ?_, fun r hr => ?_,
      ((State.restDropped_sameBut q s).trans (State.qDisableEffect_get _ _)).mono (by simp)⟩
    · rw [State.now_of_get (State.qDisableEffect_get _ _ .now (by decide)), State.restDropped_now]
    · rw [hself]
    · rw [hself]
    · rw [State.qDisableEffect_q_other _ hr, State.restDropped_q_other s hr]

end Sys2Proof.Machine
end

section
/-! PROOFS. The Cantor cluster and backing memory: what LR, SC and AMO do once nothing is in their way, what each fence does, and
the accesses of requesters that are not cantors (10 R328, R333, R334, R348 to R350). -/

namespace Sys2Proof.Machine

/-! ### Atomics (R328) -/

/-- An atomic to an address that does not support it finds a trap in its way. -/
theorem State.atomicGuard_unsupported {s : State} {addr n : Nat} (c : Nat) (h : s.atomicOk addr n = false) :
    s.atomicGuard c addr n = some (s.emit (.trap c 7 addr)) := if_pos h

theorem State.reserve_reservation (c : Nat) (l : Option Nat) (s : State) :
    (s.reserve c l).memu.reservation = tabPut none s.memu.reservation c l := rfl

section Atomics

variable {c : Fin 8} {addr : Addr} {dbl : Bool} {s : State} (hup : s.cantorUp c = true)

include hup

section Stopped

variable {t : State} (hguard : s.atomicGuard c addr.toNat (atomSize dbl) = some t)

include hguard

theorem exec_lr_stopped : exec (.lr c addr dbl) s = .next t := by
  have harm : exec (.lr c addr dbl) s = execLr c addr dbl s := rfl
  simp only [harm, execLr, hup, hguard, Bool.true_eq_false, ↓reduceIte]

theorem exec_sc_stopped (val : BitVec 64) : exec (.sc c addr dbl val) s = .next t := by
  have harm : exec (.sc c addr dbl val) s = execSc c addr dbl val s := rfl
  simp only [harm, execSc, hup, hguard, Bool.true_eq_false, ↓reduceIte]

theorem exec_amo_stopped (op : AmoOp) (val : BitVec 64) : exec (.amo c addr dbl op val) s = .next t := by
  have harm : exec (.amo c addr dbl op val) s = execAmo c addr dbl op val s := rfl
  simp only [harm, execAmo, hup, hguard, Bool.true_eq_false, ↓reduceIte]

end Stopped

section Free

variable (hguard : s.atomicGuard c addr.toNat (atomSize dbl) = none)

include hguard

/-- LR takes the line to write, reserves it and answers the value. -/
theorem exec_lr_reserves : exec (.lr c addr dbl) s =
    .next (((s.own c true (offsetOf addr.toNat / 64)).reserve c (some (offsetOf addr.toNat / 64))).emit
      (.read c (leNum ((s.own c true (offsetOf addr.toNat / 64)).clusterBytes (offsetOf addr.toNat) (atomSize dbl))))) := by
  have harm : exec (.lr c addr dbl) s = execLr c addr dbl s := rfl
  simp only [harm, execLr, hup, hguard, Bool.true_eq_false, ↓reduceIte]

/-- SC with its reservation on the line stores and succeeds. -/
theorem exec_sc_succeeds (val : BitVec 64)
    (hres : tabGet none (s.own c true (offsetOf addr.toNat / 64)).memu.reservation c = some (offsetOf addr.toNat / 64)) :
    exec (.sc c addr dbl val) s = .next ((((s.own c true (offsetOf addr.toNat / 64)).storePiece c (offsetOf addr.toNat)
      (leBytes (atomSize dbl) val.toNat)).reserve c none).emit (.sc c false)) := by
  have harm : exec (.sc c addr dbl val) s = execSc c addr dbl val s := rfl
  simp only [harm, execSc, hup, hguard, hres, Bool.true_eq_false, ↓reduceIte]

/-- SC without it stores nothing and fails. -/
theorem exec_sc_fails (val : BitVec 64)
    (hres : tabGet none (s.own c true (offsetOf addr.toNat / 64)).memu.reservation c ≠ some (offsetOf addr.toNat / 64)) :
    exec (.sc c addr dbl val) s = .next (((s.own c true (offsetOf addr.toNat / 64)).reserve c none).emit (.sc c true)) := by
  have harm : exec (.sc c addr dbl val) s = execSc c addr dbl val s := rfl
  simp only [harm, execSc, hup, hguard, hres, Bool.true_eq_false, ↓reduceIte]

/-- An AMO stores what its operation makes of the old value, and answers that value. -/
theorem exec_amo_stores (op : AmoOp) (val : BitVec 64) {old : Nat}
    (hold : old = leNum ((s.own c true (offsetOf addr.toNat / 64)).clusterBytes (offsetOf addr.toNat) (atomSize dbl))) :
    exec (.amo c addr dbl op val) s = .next (((s.own c true (offsetOf addr.toNat / 64)).storePiece c (offsetOf addr.toNat)
      (leBytes (atomSize dbl) (amoValue op (8 * atomSize dbl) old val.toNat))).emit (.amo c old)) := by
  have harm : exec (.amo c addr dbl op val) s = execAmo c addr dbl op val s := rfl
  simp only [harm, execAmo, hup, hguard, ← hold, Bool.true_eq_false, ↓reduceIte]

end Free

end Atomics

/-- Settles O6: a free atomic by the lemma of its outcome; an unsupported one meets its trap before it acts. -/
theorem atomicsActOnTheLine : Obligations.AtomicsActOnTheLine := by
  have hown (c : Nat) (l : Nat) (s : State) : SameBut [.memu, .choir, .mem, .fresh, .out] s (s.own c true l) := State.own_get c true l s
  refine ⟨fun c addr dbl s hup hguard => ?_, fun c addr dbl val s hup hguard hres => ?_, fun c addr dbl val s hup hguard hres => ?_,
    fun c addr dbl op val s hup hguard => ?_, fun c addr dbl op val s hup hbad => ?_⟩
  · exact ⟨_, exec_lr_reserves hup hguard, rfl, by rw [State.emit_memu, State.reserve_reservation],
      (((hown _ _ s).trans (State.reserve_get _ _ _)).trans (State.emit_get _ _)).mono (by simp)⟩
  · exact ⟨_, exec_sc_succeeds hup hguard val hres, rfl, ((((hown _ _ s).trans (State.storePiece_get _ _ _ _)).trans
      (State.reserve_get _ _ _)).trans (State.emit_get _ _)).mono (by simp)⟩
  · exact ⟨_, exec_sc_fails hup hguard val hres, rfl,
      (((hown _ _ s).trans (State.reserve_get _ _ _)).trans (State.emit_get _ _)).mono (by simp)⟩
  · exact ⟨_, exec_amo_stores hup hguard op val rfl, rfl,
      (((hown _ _ s).trans (State.storePiece_get _ _ _ _)).trans (State.emit_get _ _)).mono (by simp)⟩
  · have hguard := State.atomicGuard_unsupported c hbad
    exact ⟨exec_lr_stopped hup hguard, exec_sc_stopped hup hguard val, exec_amo_stopped hup hguard op val⟩

/-! ### Fences (R348 to R350) -/

section Fences

variable {c w : Nat} {s : State} (hup : s.cantorUp c = true)

include hup

theorem State.fenceS_core (hscope : fenceScope w = some 0) :
    s.fenceS c w = (s.drainStores c).fenceWait { cantor := c, system := false, rd := some (bits w 7 5) } := by
  simp only [State.fenceS, hup, hscope, Bool.true_eq_false, ↓reduceIte]

theorem State.fenceS_chip (hscope : fenceScope w = some 1) :
    s.fenceS c w = ((s.drainStores c).cleanCantor c).fenceWait { cantor := c, system := false, rd := some (bits w 7 5) } := by
  simp only [State.fenceS, hup, hscope, Bool.true_eq_false, ↓reduceIte]
  rfl

theorem State.fenceS_system (hscope : fenceScope w = some 2) :
    s.fenceS c w = ((s.drainStores c).cleanCantor c).fenceWait { cantor := c, system := true, rd := some (bits w 7 5) } := by
  simp only [State.fenceS, hup, hscope, Bool.true_eq_false, ↓reduceIte]
  rfl

theorem State.fenceS_illegal (hscope : fenceScope w = none) : s.fenceS c w = s.emit (.trap c 2 w) := by
  simp only [State.fenceS, hup, hscope, Bool.true_eq_false, ↓reduceIte]

end Fences

/-- The fences of the base architecture order what their predecessor sets name. -/
theorem exec_fence_orders {c : Fin 8} {s : State} (hup : s.cantorUp c = true) (p q : BitVec 4) :
    exec (.fence c p q) s = .next (s.fenceStd c (p.getLsbD 1) (p.getLsbD 0)) ∧
    exec (.fenceI c) s = .next (s.fenceStd c false true) ∧ exec (.fenceTso c) s = .next (s.fenceStd c true true) := by
  have hrun : ¬ s.cantorUp c = false := by simp only [hup, Bool.true_eq_false, not_false_eq_true]
  exact ⟨congrArg Host.Outcome.next (if_neg hrun), congrArg Host.Outcome.next (if_neg hrun), congrArg Host.Outcome.next (if_neg hrun)⟩

/-- Settles O7: each FENCE.S by the lemma of its scope; a fence waits unless it has what it waits for. -/
theorem fencesMakeStoresVisible : Obligations.FencesMakeStoresVisible := by
  have hclean (c : Nat) (f : FenceWait) (s : State) :
      SameBut [.memu, .choir, .mem, .fresh, .out] s (((s.drainStores c).cleanCantor c).fenceWait f) :=
    ((SameBut.trans (State.drainStores_get c s) (State.cleanCantor_get c _)).trans (State.fenceWait_get f _)).mono (by simp)
  refine ⟨fun c p q s hup => exec_fence_orders hup p q, fun c w s hup hscope => ?_, fun c w s hup hscope => ?_,
    fun c w s hup hscope => ?_, fun c w s hup hscope => ?_, fun f s => ⟨fun hmet => if_pos hmet, fun hmet => ?_⟩⟩
  · exact ⟨_, congrArg Host.Outcome.next (State.fenceS_core hup hscope), rfl,
      (SameBut.trans (State.drainStores_get c s) (State.fenceWait_get _ _)).mono (by simp)⟩
  · exact ⟨_, congrArg Host.Outcome.next (State.fenceS_chip hup hscope), rfl, hclean c _ s⟩
  · exact ⟨_, congrArg Host.Outcome.next (State.fenceS_system hup hscope), rfl, hclean c _ s⟩
  · have hillegal := State.fenceS_illegal hup hscope
    exact ⟨congrArg Host.Outcome.next hillegal, congrArg Host.Outcome.next hillegal, congrArg Host.Outcome.next hillegal⟩
  · exact if_neg (by rw [hmet]; exact Bool.false_ne_true)

/-! ### Accesses of requesters that are not cantors (R333, R334) -/

/-- A range within one line is one piece. -/
theorem pieces_of_line {a n : Nat} (hpos : 1 ≤ n) (hline : a % 64 + n ≤ 64) : pieces a n = [(a, n)] := by
  have hmin : min n (64 - a % 64) = n := Nat.min_eq_left (by omega)
  simp only [pieces, linePieces, hmin, Nat.sub_self, ↓reduceIte, if_neg (Nat.ne_of_gt hpos)]

/-- The whole of a list is the part from its start. -/
theorem slice_whole (l : List Byte) : slice l 0 l.length = l := by
  rw [slice_of_le l 0 l.length (by omega), List.drop_zero, List.take_length]

/-- A write within one line is one piece. -/
theorem State.ncWrite_of_line {a : Nat} {b : List Byte} (s : State) (hpos : 1 ≤ b.length) (hline : a % 64 + b.length ≤ 64) :
    s.ncWrite a b = s.ncPiece a b := by
  simp only [State.ncWrite, pieces_of_line hpos hline, List.foldl_cons, List.foldl_nil, Nat.sub_self, slice_whole]

/-- With no writeback pending on its line and nothing of it in the cluster, a piece writes its bytes alone. -/
theorem State.ncPiece_mem {a : Nat} {s : State} (b : List Byte) (hcluster : tabGet none s.memu.cluster (a / 64) = none)
    (hdir : (s.dirLine (a / 64)).st ≠ .wbPending) : (s.ncPiece a b).mem = memPut s.mem a b := by
  have hserve : s.serveLine (a / 64) = s := if_neg hdir
  have hclean : s.cleanLine (a / 64) = s := by simp only [State.cleanLine, hcluster]
  simp only [State.ncPiece, hserve, hclean, State.breakReservations, State.onMem_mem, State.putBytes_mem]

section NonCantor

variable {req : Nat} {addr : Addr} {s : State}

/-- An access to another package, but by a press engine to its own, is captured as kind 6. -/
theorem exec_nc_notLocal (len : Nat) (upset : Upset) (data : List Byte)
    (hpkg : s.isLocal addr.toNat = false ∧ ¬ (req < 0x28 ∧ 0x20 ≤ req ∧ packageOf addr.toNat = 0)) :
    exec (.ncRead req addr len upset) s = .next (s.accessError req 6 addr.toNat) ∧
    exec (.ncWrite req addr data) s = .next (s.accessError req 6 addr.toNat) :=
  ⟨congrArg Host.Outcome.next (if_pos hpkg), congrArg Host.Outcome.next (if_pos hpkg)⟩

variable (hpkg : ¬ (s.isLocal addr.toNat = false ∧ ¬ (req < 0x28 ∧ 0x20 ≤ req ∧ packageOf addr.toNat = 0)))

include hpkg

section Read

variable {len : Nat} (upset : Upset)

theorem exec_ncRead_forbidden {k b : Nat} (hkind : s.rangeKind (reqOf req) false (offsetOf addr.toNat) len = some (k, b)) :
    exec (.ncRead req addr len upset) s = .next (s.accessError req k (packageOf addr.toNat * 2 ^ 44 + b)) := by
  have harm : exec (.ncRead req addr len upset) s = execNcRead req addr len upset s := rfl
  simp only [harm, execNcRead, if_neg hpkg, hkind]

theorem exec_ncRead_uncorrectable {b : Nat} (hkind : s.rangeKind (reqOf req) false (offsetOf addr.toNat) len = none)
    (hbad : (s.upset upset (offsetOf addr.toNat)).badLine (offsetOf addr.toNat) len = some b) :
    exec (.ncRead req addr len upset) s = .next ((s.upset upset (offsetOf addr.toNat)).eccRead req b) := by
  have harm : exec (.ncRead req addr len upset) s = execNcRead req addr len upset s := rfl
  simp only [harm, execNcRead, if_neg hpkg, hkind, hbad]

theorem exec_ncRead_answers (hkind : s.rangeKind (reqOf req) false (offsetOf addr.toNat) len = none)
    (hbad : (s.upset upset (offsetOf addr.toNat)).badLine (offsetOf addr.toNat) len = none) :
    exec (.ncRead req addr len upset) s = .next (((s.upset upset (offsetOf addr.toNat)).windowEcc (offsetOf addr.toNat) len).emit
      (.data req ((s.upset upset (offsetOf addr.toNat)).ncBytes req (offsetOf addr.toNat) len))) := by
  have harm : exec (.ncRead req addr len upset) s = execNcRead req addr len upset s := rfl
  simp only [harm, execNcRead, if_neg hpkg, hkind, hbad]

end Read

section Write

variable {data : List Byte}

theorem exec_ncWrite_forbidden {k b : Nat} (hkind : s.rangeKind (reqOf req) true (offsetOf addr.toNat) data.length = some (k, b)) :
    exec (.ncWrite req addr data) s = .next (s.accessError req k (packageOf addr.toNat * 2 ^ 44 + b)) := by
  have harm : exec (.ncWrite req addr data) s = execNcWrite req addr data s := rfl
  simp only [harm, execNcWrite, if_neg hpkg, hkind]

theorem exec_ncWrite_served (hkind : s.rangeKind (reqOf req) true (offsetOf addr.toNat) data.length = none) :
    exec (.ncWrite req addr data) s = .next (s.ncWrite (offsetOf addr.toNat) data) := by
  have harm : exec (.ncWrite req addr data) s = execNcWrite req addr data s := rfl
  simp only [harm, execNcWrite, if_neg hpkg, hkind]

end Write

end NonCantor

/-- Settles O9: each access by the lemma of its case; a write within one line puts its bytes and no others. -/
theorem nonCantorAccesses : Obligations.NonCantorAccesses := by
  refine ⟨fun req addr len upset s hpkg hkind hbad => ?_, fun req addr len b upset s hpkg hkind hbad =>
      exec_ncRead_uncorrectable hpkg upset hkind hbad,
    fun req addr data s hpkg hkind => exec_ncWrite_served hpkg hkind, fun a data s hpos hline hcluster hdir => ?_,
    fun req addr data s k b hpkg hkind => exec_ncWrite_forbidden hpkg hkind,
    fun req addr len upset s k b hpkg hkind => exec_ncRead_forbidden hpkg upset hkind,
    fun req addr data len upset s haway hpress => exec_nc_notLocal len upset data ⟨haway, hpress⟩⟩
  · refine ⟨_, exec_ncRead_answers hpkg upset hkind hbad, ?_, rfl,
      ((SameBut.trans (State.upset_get _ _ s) (State.windowEcc_get _ _ _)).trans (State.emit_get _ _)).mono (by simp)⟩
    rw [State.emit_out, State.out_of_get (State.windowEcc_get _ _ _ .out (by decide)),
      State.out_of_get (State.upset_get _ _ s .out (by decide))]
  · have hmem : (s.ncWrite a data).mem = memPut s.mem a data := by
      rw [State.ncWrite_of_line s hpos hline, State.ncPiece_mem data hcluster hdir]
    exact ⟨State.bytesAt_of_byteAt fun i hi => (congrArg (fun m => tabGet 0 m (a + i)) hmem).trans (memPut_inside s.mem a i data hi),
      fun x hx => (congrArg (fun m => tabGet 0 m x) hmem).trans (memPut_outside s.mem a x data hx)⟩

end Sys2Proof.Machine
end

section
/-! PROOFS. Cellar movers: what the operations of the memory unit leave of the movers, the writes of a mover's registers, the start
of a descriptor, its completion, its item, and the end of an abort (10 R337 to R343). -/

namespace Sys2Proof.Machine

/-! ### One mover -/

@[simp] theorem State.onMover_mover_self (m : Nat) (f : Mover → Mover) (s : State) : (s.onMover m f).mover m = f (s.mover m) := by
  simp [State.mover]

theorem State.onMover_mover_other {m n : Nat} (f : Mover → Mover) (s : State) (hn : n ≠ m) : (s.onMover m f).mover n = s.mover n := by
  simp only [State.mover, State.onMover_memu, tabGet_tabMod, if_neg hn]

theorem State.mover_of_movers {s t : State} (h : t.memu.movers = s.memu.movers) (n : Nat) : t.mover n = s.mover n := by
  rw [State.mover, State.mover, h]

theorem State.mover_of_get {s t : State} (h : t.get .memu = s.get .memu) (n : Nat) : t.mover n = s.mover n :=
  State.mover_of_movers (congrArg MemUnit.movers (State.memu_of_get h)) n

/-! ### The movers under the operations of the memory unit -/

/-- A fold whose function leaves the movers alone leaves them alone. -/
@[simp] theorem State.foldl_movers {α : Type} (f : State → α → State) (l : List α) (s : State)
    (h : ∀ t x, (f t x).memu.movers = t.memu.movers) : (l.foldl f s).memu.movers = s.memu.movers := by
  induction l generalizing s with
  | nil => rfl
  | cons x l ih => rw [List.foldl_cons, ih, h]

section MemoryUnit

variable (c m l a n : Nat) (wr : Bool) (b : List Byte) (s : State)

@[simp] theorem State.linkData_memu (kind cls d field : Nat) : (s.linkData kind cls d field b).memu = s.memu :=
  State.memu_of_get (State.linkData_get _ _ _ _ _ s .memu (by decide))

@[simp] theorem State.sendMemReq_movers (who : RemoteFor) : (s.sendMemReq who wr a n b).memu.movers = s.memu.movers := by
  unfold State.sendMemReq
  split
  · simp [State.issueMemReq]
  · rfl

@[simp] theorem State.onDir_movers (f : DirLine → DirLine) : (s.onDir l f).memu.movers = s.memu.movers := rfl

@[simp] theorem State.breakReservations_movers (but : Option Nat) : (s.breakReservations l but).memu.movers = s.memu.movers := rfl

@[simp] theorem State.cleanLine_movers : (s.cleanLine l).memu.movers = s.memu.movers := by
  unfold State.cleanLine
  split <;> rfl

@[simp] theorem State.evictLine_movers : (s.evictLine l).memu.movers = s.memu.movers := s.cleanLine_movers l

@[simp] theorem State.fit_movers : (s.fit c l).memu.movers = s.memu.movers := by
  unfold State.fit
  dsimp only
  split
  · rfl
  · split <;> rfl

@[simp] theorem State.install_movers : (s.install l).memu.movers = s.memu.movers := by
  unfold State.install
  split
  · rfl
  · dsimp only [State.onMem_memu]
    split
    · rfl
    · split
      · exact State.evictLine_movers _ _
      · rfl

@[simp] theorem State.storePiece_movers : (s.storePiece c a b).memu.movers = s.memu.movers := rfl

@[simp] theorem State.drainLine_movers : (s.drainLine c l).memu.movers = s.memu.movers :=
  State.foldl_movers _ _ _ fun u p => State.storePiece_movers c p.addr p.bytes u

@[simp] theorem State.grantLine_movers : (s.grantLine c wr l).memu.movers = s.memu.movers := by
  cases wr <;> simp [State.grantLine]

@[simp] theorem State.askLine_movers (r : DirReq) : (s.askLine r l).memu.movers = s.memu.movers := by
  unfold State.askLine
  split
  · simp
  · split <;> rfl

@[simp] theorem State.retryTx_movers (w : WaitTx) : (s.retryTx w).memu.movers = s.memu.movers := by
  cases w <;> simp [State.retryTx]

@[simp] theorem State.placeWaiting_movers : s.placeWaiting.memu.movers = s.memu.movers := by simp [State.placeWaiting]

@[simp] theorem State.serveLine_movers : (s.serveLine l).memu.movers = s.memu.movers := by
  unfold State.serveLine
  split
  · simp
  · rfl

@[simp] theorem State.ncPiece_movers : (s.ncPiece a b).memu.movers = s.memu.movers := by simp [State.ncPiece]

@[simp] theorem State.ncWrite_movers : (s.ncWrite a b).memu.movers = s.memu.movers := by simp [State.ncWrite]

@[simp] theorem State.lateOut_movers : (s.lateOut m).memu.movers = s.memu.movers := by simp [State.lateOut]

@[simp] theorem State.moverPut_movers (scope : Nat) : (s.moverPut m scope a b).memu.movers = s.memu.movers := by
  unfold State.moverPut
  split
  · rfl
  · simp

end MemoryUnit

/-! ### The address map under a mover's operations -/

/-- Which accesses are served depends on the ports, the tiles, the power and the voice cores. -/
theorem State.accessKind_of_parts {s t : State} (hvariant : t.variant = s.variant) (hports : t.ports = s.ports)
    (hpower : t.power = s.power) (hfabric : t.fabric = s.fabric) (who : Req) (wr : Bool) (a : Nat) :
    t.accessKind who wr a = s.accessKind who wr a := by
  have hholds : t.portHolds a = s.portHolds a := by simp only [State.portHolds, State.port, hports]
  have htiles : t.tiles = s.tiles := by rw [State.tiles, State.tiles, hvariant]
  have htile (k : Nat) : t.tileKind k = s.tileKind k := by simp only [State.tileKind, htiles, hpower]
  have hcore (k : Nat) : t.core k = s.core k := by rw [State.core, State.core, hfabric]
  unfold State.accessKind
  simp only [hholds, htile, hcore]

theorem State.lateOut_rangeKind (m : Nat) (who : Req) (wr : Bool) (a n : Nat) (s : State) :
    (s.lateOut m).rangeKind who wr a n = s.rangeKind who wr a n := by
  have hget : SameBut [.memu, .choir, .mem, .fresh, .out] s (s.lateOut m) := State.lateOut_get m s
  simp only [State.rangeKind, State.accessKind_of_parts (State.variant_of_get (hget .variant (by decide)))
    (State.ports_of_get (hget .ports (by decide))) (State.power_of_get (hget .power (by decide)))
    (State.fabric_of_get (hget .fabric (by decide)))]

/-! ### A command that changes one mover -/

/-- A command whose effect is a change of one mover leaves the others and every other part alone. -/
theorem exec_onMover {i : Instr} {m : Nat} {f : Mover → Mover} {s : State} {x : Mover}
    (hexec : exec i s = .next (s.onMover m f)) (hx : f (s.mover m) = x) :
    ∃ t, exec i s = .next t ∧ t.mover m = x ∧ (∀ n, n ≠ m → t.mover n = s.mover n) ∧ SameBut [.memu] s t :=
  ⟨_, hexec, (State.onMover_mover_self m f s).trans hx, fun _ hn => State.onMover_mover_other f s hn, State.onMover_get m f s⟩

/-! ### TAIL, ENABLE and ABORT (R339, R341) -/

section Registers

variable {m : Nat} {s : State}

/-- A TAIL that takes descriptors back or overfills the ring is refused. -/
theorem State.tailWrite_refused {tail : Nat} (hst : (s.mover m).st ≠ .disabled)
    (hbad : (s.mover m).ringSize < (tail + 65536 - (s.mover m).head) % 65536 ∨
      (tail + 65536 - (s.mover m).head) % 65536 < (s.mover m).pending) :
    s.tailWrite m tail = s.onMover m (fun x => { x with tailError := true }) := by
  simp only [State.tailWrite, if_neg hst, if_pos hbad]

theorem State.tailWrite_taken {tail : Nat} (hst : (s.mover m).st ≠ .disabled)
    (hroom : (tail + 65536 - (s.mover m).head) % 65536 ≤ (s.mover m).ringSize)
    (hmore : (s.mover m).pending ≤ (tail + 65536 - (s.mover m).head) % 65536) :
    s.tailWrite m tail = s.onMover m (fun x => { x with
      tail := tail, st := if x.st = .idle ∧ 0 < (tail + 65536 - (s.mover m).head) % 65536 then .active else x.st }) := by
  simp only [State.tailWrite, if_neg hst, if_neg (not_or.mpr ⟨Nat.not_lt.mpr hroom, Nat.not_lt.mpr hmore⟩)]

theorem State.moverEnable_idle (hst : (s.mover m).st = .disabled) (hring : s.ringOk (s.mover m) = true) :
    s.moverEnable m = s.onMover m (fun x => { x with st := .idle, enable := true, head := 0, tail := 0, lastBad := false }) := by
  simp only [State.moverEnable, hst, hring, reduceCtorEq, ne_eq, not_true_eq_false, ↓reduceIte]

theorem State.moverEnable_invalid (hst : (s.mover m).st = .disabled) (hring : s.ringOk (s.mover m) = false) :
    s.moverEnable m = s.onMover m (fun x => { x with configError := true }) := by
  simp only [State.moverEnable, hst, hring, reduceCtorEq, ne_eq, not_true_eq_false, Bool.false_eq_true, ↓reduceIte]

theorem State.moverEnable_aborting (hst : (s.mover m).st = .aborting) :
    s.moverEnable m = s.onMover m (fun x => { x with enable := true }) := if_pos hst

end Registers

/-- What ENABLE written 0 makes of a mover. -/
def Mover.disabling (x : Mover) : Mover :=
  match x.st with
  | .disabled => x
  | .idle => { x with st := .disabled, enable := false }
  | .active => { x with st := .aborting, enable := false }
  | .aborting => { x with enable := false }

theorem State.moverDisable_eq (m : Nat) (s : State) : s.moverDisable m = s.onMover m Mover.disabling := rfl

theorem Mover.disabling_disabled {x : Mover} (hst : x.st = .disabled) : x.disabling = x := by
  simp only [Mover.disabling, hst]

theorem Mover.disabling_enabled {x : Mover} (hst : x.st ≠ .disabled) :
    x.disabling.enable = false ∧ x.disabling.st = if x.st = .idle then .disabled else .aborting := by
  cases h : x.st <;> simp_all [Mover.disabling]

/-! ### The start of a descriptor (R337 to R340) -/

section Start

variable {m : Fin 16} {i a : Nat} {b : List Byte} {s : State}
  (hi : i = ((s.mover m).head + (s.mover m).flight.length) % 65536) (ha : a = (s.mover m).descAddr i)
  (hread : s.ncReadFail .mover a 32 = none) (hb : b = s.moverBytes m a 32)

include hi ha hread hb

theorem exec_descriptorStart_starts (hst : (s.mover m).st = .active) (hmore : (s.mover m).flight.length < (s.mover m).pending)
    (hflight : (s.mover m).flight.length < 128) (hall : s.inFlightDescs < 2048)
    (hfree : (numAt b 20 1).testBit 2 = false ∨ (s.mover m).flight = []) :
    exec (.descriptorStart m) s = .next (s.startDesc m i a b) := by
  have harm : exec (.descriptorStart m) s = execDescriptorStart m s := rfl
  have hgo : ¬((numAt b 20 1).testBit 2 = true ∧ (s.mover m).flight ≠ []) := fun ⟨hwait, hne⟩ =>
    hfree.elim (fun h => Bool.noConfusion (h.symm.trans hwait)) hne
  simp only [harm, execDescriptorStart, ← hi, ← ha, ← hb, hread, hst, hmore, hflight, hall, and_self, ↓reduceIte, if_neg hgo]

/-- A descriptor with WAIT_PREV does not start while another is in flight. -/
theorem exec_descriptorStart_waits (hwait : (numAt b 20 1).testBit 2 = true) (hflight : (s.mover m).flight ≠ []) :
    exec (.descriptorStart m) s = .next s := by
  have harm : exec (.descriptorStart m) s = execDescriptorStart m s := rfl
  simp only [harm, execDescriptorStart, ← hi, ← ha, ← hb, hread, if_pos (And.intro hwait hflight), ite_self]

end Start

theorem State.startDesc_malformed {b : List Byte} (m i a : Nat) {s : State} (hbad : s.descMalformed b = true) :
    s.startDesc m i a b = s.onMover m (fun x => { x with flight := x.flight ++ [{ descOf i a b with goal := 0, result := 3 }] }) :=
  if_pos hbad

/-- Takes a descriptor in flight. -/
def State.descTaken (m : Nat) (d : DescRun) (s : State) : State := s.onMover m (fun x => { x with flight := x.flight ++ [d] })

theorem State.descTaken_flight {m : Nat} {d : DescRun} {s : State} (hflight : (s.mover m).flight = []) :
    ((s.descTaken m d).mover m).flight = [d] := by
  rw [State.descTaken, State.onMover_mover_self, hflight, List.nil_append]

theorem State.startDesc_runs {b : List Byte} (m i a : Nat) {s : State} (hgood : s.descMalformed b = false)
    (hwait : (numAt b 20 1).testBit 2 = false) : s.startDesc m i a b = (s.descTaken m (descOf i a b)).runDesc maxPieces m i := by
  simp only [State.startDesc, hgood, hwait, Bool.false_eq_true, false_and, ↓reduceIte, State.descTaken]

/-- A descriptor that is not malformed has something to move. -/
theorem State.len_pos_of_wellFormed {b : List Byte} {s : State} (hgood : s.descMalformed b = false) : 0 < numAt b 16 4 := by
  simp only [State.descMalformed, Bool.or_eq_false_iff, decide_eq_false_iff_not, not_or] at hgood
  omega

/-! ### A FILL within one line (R337) -/

theorem State.desc_of_flight {m : Nat} {d : DescRun} {s : State} (hflight : (s.mover m).flight = [d]) : s.desc m d.index = some d := by
  simp only [State.desc, hflight, List.find?_cons, decide_true]

section Run

variable {m i : Nat} {d : DescRun} {s : State} (hdesc : s.desc m i = some d)

include hdesc

theorem State.runDesc_moved (n : Nat) (hdone : d.moveDone = true) : s.runDesc (n + 1) m i = s := by
  simp only [State.runDesc, hdesc, hdone, Bool.or_true, ↓reduceIte]

theorem State.runDesc_piece (n : Nat) (hwaiting : d.waiting = false) (hmore : d.moveDone = false) :
    s.runDesc (n + 1) m i = (s.descPiece m d).runDesc n m i := by
  simp only [State.runDesc, hdesc, hwaiting, hmore, Bool.or_self, Bool.false_eq_true, ↓reduceIte]

end Run

/-- A FILL within one line, none of which is written yet. -/
structure DescRun.FillsLine (d : DescRun) : Prop where
  fill : d.fill = true
  moved : d.moved = 0
  goal : d.goal = d.len
  waiting : d.waiting = false
  pos : 0 < d.len
  line : d.dst % 64 + d.len ≤ 64

theorem descOf_fillsLine {b : List Byte} {s : State} (i a : Nat) (hgood : s.descMalformed b = false) (hfill : (descOf i a b).fill = true)
    (hline : (descOf i a b).dst % 64 + (descOf i a b).len ≤ 64) : (descOf i a b).FillsLine :=
  ⟨hfill, rfl, rfl, rfl, State.len_pos_of_wellFormed hgood, hline⟩

/-- The state in which a FILL within one line has written its pattern. -/
def State.filled (m : Nat) (d : DescRun) (s : State) : State :=
  (s.moverPut m d.scope (offsetOf d.dst) (d.bytes 0 d.len)).onDesc m d.index (fun x => { x with moved := x.moved + d.len })

theorem State.filled_mover_other {m n : Nat} (d : DescRun) (s : State) (hn : n ≠ m) : (s.filled m d).mover n = s.mover n :=
  (State.onMover_mover_other _ _ hn).trans (State.mover_of_movers (State.moverPut_movers ..) n)

theorem State.filled_sameBut (m : Nat) (d : DescRun) (s : State) : SameBut [.memu, .choir, .mem, .fresh, .out] s (s.filled m d) :=
  (SameBut.trans (State.moverPut_get _ _ _ _ s) (State.onDesc_get _ _ _ _)).mono (by simp)

section Fill

variable {m : Nat} {d : DescRun} {s : State} (hd : d.FillsLine)

include hd

theorem State.filled_flight (hflight : (s.mover m).flight = [d]) : ((s.filled m d).mover m).flight = [{ d with moved := d.len }] := by
  have hput : ((s.moverPut m d.scope (offsetOf d.dst) (d.bytes 0 d.len)).mover m).flight = [d] :=
    (congrArg Mover.flight (State.mover_of_movers (State.moverPut_movers ..) m)).trans hflight
  simp only [State.filled, State.onDesc, State.onMover_mover_self, hput, modFirst, decide_true, ↓reduceIte, hd.moved, Nat.zero_add]

variable (hlocal : s.isLocal d.dst = true) (hserved : s.rangeKind .mover true (offsetOf d.dst) d.len = none)

include hlocal hserved

theorem State.descPiece_filled : s.descPiece m d = s.filled m d := by
  have hmin : min d.len (64 - d.dst % 64) = d.len := Nat.min_eq_left (by have := hd.line; omega)
  simp only [State.descPiece, State.filled, hd.fill, Bool.true_eq_false, false_and, ↓reduceIte, hd.moved, hd.goal, Nat.add_zero,
    Nat.sub_zero, hmin, hlocal, hserved]

/-- A FILL within one line is one piece, after which nothing is left to move. -/
theorem State.runDesc_filled (hflight : (s.mover m).flight = [d]) : s.runDesc maxPieces m d.index = s.filled m d := by
  have hmore : d.moveDone = false := decide_eq_false (by rw [hd.goal, hd.moved]; exact Nat.not_le.mpr hd.pos)
  have hdesc : (s.filled m d).desc m d.index = some { d with moved := d.len } := State.desc_of_flight (State.filled_flight hd hflight)
  have hdone : ({ d with moved := d.len } : DescRun).moveDone = true := decide_eq_true (Nat.le_of_eq hd.goal)
  obtain ⟨n, hn⟩ := Nat.exists_eq_add_of_le' (show 2 ≤ maxPieces by decide)
  rw [hn, State.runDesc_piece (State.desc_of_flight hflight) (n + 1) hd.waiting hmore, State.descPiece_filled hd hlocal hserved,
    State.runDesc_moved hdesc n hdone]

end Fill

/-- The first descriptor of a ring, a FILL within one line without WAIT_PREV, starts and is moved at once. -/
theorem exec_descriptorStart_fills {m : Fin 16} {a : Nat} {b : List Byte} {d : DescRun} {s : State}
    (hstart : exec (.descriptorStart m) s = .next (s.startDesc m d.index a b)) (hgood : s.descMalformed b = false)
    (hwait : (numAt b 20 1).testBit 2 = false) (hdesc : descOf d.index a b = d) (hd : d.FillsLine)
    (hflight : (s.mover m).flight = []) (hlocal : s.isLocal d.dst = true)
    (hserved : s.rangeKind .mover true (offsetOf d.dst) d.len = none) :
    exec (.descriptorStart m) s = .next ((s.descTaken m d).filled m d) := by
  have htaken : ((s.descTaken m d).mover m).flight = [d] := State.descTaken_flight hflight
  rw [hstart, State.startDesc_runs m d.index a hgood hwait, hdesc,
    State.runDesc_filled (s := s.descTaken m d) hd hlocal hserved htaken]

/-! ### The completion item (R342) -/

theorem State.hwPush_mover {q : Nat} {items : List (BitVec 128)} {s u : State} (h : s.hwPush q items = some u) (n : Nat) :
    u.mover n = s.mover n := State.mover_of_get (State.hwPush_get q items s .memu (by decide) u h) n

theorem State.moverIrq_mover_self (m : Nat) (s : State) : (s.moverIrq m).mover m = { s.mover m with irqPending := true } :=
  State.onMover_mover_self m _ s

theorem State.moverIrq_mover_other {m n : Nat} (s : State) (hn : n ≠ m) : (s.moverIrq m).mover n = s.mover n :=
  State.onMover_mover_other _ s hn

/-- The state in which a queue has taken a mover's item. -/
def State.itemTaken (m : Nat) (irq : Bool) (u : State) : State :=
  if irq then (u.onMover m (fun x => { x with item := none, itemIrq := false })).moverIrq m
  else u.onMover m (fun x => { x with item := none, itemIrq := false })

section Post

variable {m : Nat} {s : State}

theorem State.moverPost_taken {q : Nat} {it : BitVec 128} {u : State} (hitem : (s.mover m).item = some (q, it))
    (hpush : s.hwPush q [it] = some u) : s.moverPost m = u.itemTaken m (s.mover m).itemIrq := by
  simp only [State.moverPost, hitem, hpush, State.itemTaken]

theorem State.moverPost_cases : s.moverPost m = s ∨ ∃ q it u, (s.mover m).item = some (q, it) ∧ s.hwPush q [it] = some u := by
  cases hitem : (s.mover m).item with
  | none => exact .inl (by simp only [State.moverPost, hitem])
  | some e =>
    obtain ⟨q, it⟩ := e
    cases hpush : s.hwPush q [it] with
    | none => exact .inl (by simp only [State.moverPost, hitem, hpush])
    | some u => exact .inr ⟨q, it, u, rfl, hpush⟩

end Post

theorem State.itemTaken_mover_self (m : Nat) (irq : Bool) (u : State) : (u.itemTaken m irq).mover m =
    { u.mover m with item := none, itemIrq := false, irqPending := (u.mover m).irqPending || irq } := by
  cases irq with
  | false => simp only [State.itemTaken, Bool.false_eq_true, ↓reduceIte, State.onMover_mover_self, Bool.or_false]
  | true => simp only [State.itemTaken, ↓reduceIte, State.moverIrq_mover_self, State.onMover_mover_self, Bool.or_true]

theorem State.itemTaken_mover_other {m n : Nat} (irq : Bool) (u : State) (hn : n ≠ m) : (u.itemTaken m irq).mover n = u.mover n := by
  cases irq with
  | false => exact State.onMover_mover_other _ u hn
  | true => exact (State.moverIrq_mover_other _ hn).trans (State.onMover_mover_other _ u hn)

theorem State.itemTaken_queue (m : Nat) (irq : Bool) (u : State) : (u.itemTaken m irq).queue = u.queue := by cases irq <;> rfl

/-- Of its own mover a post changes the item and IRQ_PENDING alone. -/
theorem State.moverPost_mover_self (m : Nat) (s : State) : ∃ it irq p,
    (s.moverPost m).mover m = { s.mover m with item := it, itemIrq := irq, irqPending := p } := by
  rcases State.moverPost_cases (m := m) (s := s) with h | ⟨q, it, u, hitem, hpush⟩
  · exact ⟨_, _, _, congrArg (fun t => t.mover m) h⟩
  · rw [State.moverPost_taken hitem hpush, State.itemTaken_mover_self, State.hwPush_mover hpush]
    exact ⟨_, _, _, rfl⟩

theorem State.moverPost_mover_other {m n : Nat} (s : State) (hn : n ≠ m) : (s.moverPost m).mover n = s.mover n := by
  rcases State.moverPost_cases (m := m) (s := s) with h | ⟨q, it, u, hitem, hpush⟩
  · rw [h]
  · rw [State.moverPost_taken hitem hpush, State.itemTaken_mover_other _ u hn, State.hwPush_mover hpush]

/-! ### Completion (R342) -/

/-- What the completion of a descriptor makes of its mover: step 3 of R342. -/
def Mover.completes (d : DescRun) (result : Nat) (x : Mover) : Mover :=
  { x with flight := x.flight.filter (fun e => decide (e.index ≠ d.index)), head := (x.head + 1) % 65536, completed := x.completed + 1,
           lastBad := x.lastBad || decide (result ≠ 1) }

/-- A descriptor's data is visible, but at SCOPE CORE: step 1 of R342. -/
def State.descVisible (m : Nat) (d : DescRun) (s : State) : State := if d.scope = 0 then s else s.lateOut m

/-- Status and byte count are written into the descriptor: step 2 of R342. -/
def State.descStatus (d : DescRun) (result kind : Nat) (s : State) : State :=
  if (s.rangeKind .mover true d.addr 32).isNone then s.ncWrite (d.addr + 24) (leBytes 4 (result + kind * 4096) ++ leBytes 4 d.moved) else s

/-- The descriptor leaves the ring, a failure with a record: step 3 of R342. -/
def State.descRetired (m : Nat) (d : DescRun) (result kind : Nat) (s : State) : State :=
  if result = 1 ∨ result = 4 ∨ result = 7 then s.onMover m (Mover.completes d result)
  else (s.onMover m (Mover.completes d result)).book 0xE501 0x14 1
    (leBytes 1 m ++ leBytes 2 d.index ++ leBytes 4 (result + kind * 4096))

/-- Its item is posted, or its interrupt raised: steps 4 and 5 of R342. -/
def State.descNotified (m : Nat) (d : DescRun) (it : BitVec 128) (s : State) : State :=
  if d.post = true ∧ d.queue ≠ 0xFF then (s.onMover m (fun x => { x with item := some (d.queue, it), itemIrq := d.irq })).moverPost m
  else if d.irq then s.moverIrq m else s

theorem State.completeDesc_eq (m : Nat) (d : DescRun) (result kind : Nat) (s : State) : s.completeDesc m d result kind =
    (((s.descVisible m d).descStatus d result kind).descRetired m d result kind).descNotified m d
      ((s.descVisible m d).moverItem m d result) := rfl

section Complete

variable (m : Nat) (d : DescRun) (result kind : Nat) (s : State)

theorem State.descVisible_movers : (s.descVisible m d).memu.movers = s.memu.movers := by
  unfold State.descVisible
  split
  · rfl
  · exact s.lateOut_movers m

theorem State.descVisible_rangeKind (who : Req) (wr : Bool) (a n : Nat) :
    (s.descVisible m d).rangeKind who wr a n = s.rangeKind who wr a n := by
  unfold State.descVisible
  split
  · rfl
  · exact s.lateOut_rangeKind m who wr a n

theorem State.descStatus_movers : (s.descStatus d result kind).memu.movers = s.memu.movers := by
  unfold State.descStatus
  split
  · exact s.ncWrite_movers ..
  · rfl

theorem State.descRetired_mover_self : (s.descRetired m d result kind).mover m = (s.mover m).completes d result := by
  unfold State.descRetired
  split
  · exact State.onMover_mover_self m _ s
  · exact State.onMover_mover_self m _ s

theorem State.descRetired_mover_other {n : Nat} (hn : n ≠ m) : (s.descRetired m d result kind).mover n = s.mover n := by
  unfold State.descRetired
  split
  · exact State.onMover_mover_other _ s hn
  · exact State.onMover_mover_other _ s hn

theorem State.descRetired_mem : (s.descRetired m d result kind).mem = s.mem := by
  unfold State.descRetired
  split <;> rfl

theorem State.descNotified_mover_self (it : BitVec 128) : ∃ e irq p,
    (s.descNotified m d it).mover m = { s.mover m with item := e, itemIrq := irq, irqPending := p } := by
  unfold State.descNotified
  split
  · obtain ⟨e, irq, p, h⟩ := State.moverPost_mover_self m (s.onMover m (fun x => { x with item := some (d.queue, it), itemIrq := d.irq }))
    exact ⟨e, irq, p, by rw [h, State.onMover_mover_self]⟩
  · split
    · exact ⟨_, _, _, s.moverIrq_mover_self m⟩
    · exact ⟨_, _, _, rfl⟩

theorem State.descNotified_mover_other (it : BitVec 128) {n : Nat} (hn : n ≠ m) : (s.descNotified m d it).mover n = s.mover n := by
  unfold State.descNotified
  split
  · rw [State.moverPost_mover_other _ hn, State.onMover_mover_other _ s hn]
  · split
    · exact s.moverIrq_mover_other hn
    · rfl

theorem State.descNotified_mem (it : BitVec 128) (hpost : d.post = false) : (s.descNotified m d it).mem = s.mem := by
  simp only [State.descNotified, hpost, Bool.false_eq_true, false_and, ↓reduceIte]
  split <;> rfl

/-- A completion takes its descriptor off its mover; the item and IRQ_PENDING depend on POST and IRQ. -/
theorem State.completeDesc_mover_self : ∃ e irq p, (s.completeDesc m d result kind).mover m =
    { (s.mover m).completes d result with item := e, itemIrq := irq, irqPending := p } := by
  obtain ⟨e, irq, p, h⟩ := State.descNotified_mover_self m d (((s.descVisible m d).descStatus d result kind).descRetired m d result kind)
    ((s.descVisible m d).moverItem m d result)
  refine ⟨e, irq, p, ?_⟩
  rw [State.completeDesc_eq, h, State.descRetired_mover_self,
    State.mover_of_movers ((State.descStatus_movers ..).trans (s.descVisible_movers m d))]

theorem State.completeDesc_mover_other {n : Nat} (hn : n ≠ m) : (s.completeDesc m d result kind).mover n = s.mover n := by
  rw [State.completeDesc_eq, State.descNotified_mover_other _ _ _ _ hn, State.descRetired_mover_other _ _ _ _ _ hn,
    State.mover_of_movers ((State.descStatus_movers ..).trans (s.descVisible_movers m d))]

/-- Without an item the status is all that a completion writes. -/
theorem State.completeDesc_mem (hserved : s.rangeKind .mover true d.addr 32 = none) (hpost : d.post = false) :
    (s.completeDesc m d result kind).mem = ((s.descVisible m d).ncWrite (d.addr + 24)
      (leBytes 4 (result + kind * 4096) ++ leBytes 4 d.moved)).mem := by
  have hnone : ((s.descVisible m d).rangeKind .mover true d.addr 32).isNone = true := by
    rw [State.descVisible_rangeKind, hserved]; rfl
  rw [State.completeDesc_eq, State.descNotified_mem _ _ _ _ hpost, State.descRetired_mem, State.descStatus, if_pos hnone]

end Complete

theorem State.moverIdle_mover_self (m : Nat) (s : State) : ∃ st, (s.moverIdle m).mover m = { s.mover m with st := st } := by
  rw [State.moverIdle, State.onMover_mover_self]
  split <;> exact ⟨_, rfl⟩

theorem exec_descriptorComplete_completes {m : Fin 16} {d : DescRun} {rest : List DescRun} {s : State}
    (hflight : (s.mover m).flight = d :: rest) (hitem : (s.mover m).item = none) (hwaiting : d.waiting = false)
    (hdone : d.moveDone = true) (hst : (s.mover m).st = .active) :
    exec (.descriptorComplete m) s = .next ((s.completeDesc m d d.final d.kind).moverIdle m) := by
  have harm : exec (.descriptorComplete m) s = execDescriptorComplete m s := rfl
  simp only [harm, execDescriptorComplete, hflight, hitem, hwaiting, hdone, hst, and_self, ↓reduceIte]

/-! ### The end of an abort (R341) -/

theorem State.abortAll_none {m : Nat} {s : State} (n : Nat) (hpending : (s.mover m).pending = 0) : s.abortAll n m = s := by
  cases n with
  | zero => rfl
  | succ n => exact if_pos (.inl hpending)

theorem exec_moverAbortDone_ends {m : Fin 16} {s u : State} (hst : (s.mover m).st = .aborting)
    (hidle : (s.mover m).flight.all (fun d => !d.waiting) = true) (hu : u = s.abortAll 65536 m) (hpending : (u.mover m).pending = 0)
    (hitem : (u.mover m).item = none) :
    exec (.moverAbortDone m) s = .next (u.onMover m (fun x => { x with st := if x.enable then .idle else .disabled })) := by
  have harm : exec (.moverAbortDone m) s = execMoverAbortDone m s := rfl
  simp only [harm, execMoverAbortDone, if_pos (And.intro hst hidle), ← hu, if_pos (And.intro hpending hitem)]

/-! ### The statement -/

/-- Settles O40: a write of a register changes its mover alone; a FILL runs one piece; a completion by its steps. -/
theorem moversRun : Obligations.MoversRun := by
  refine ⟨fun m tail s hst hroom hmore => ?_, fun m tail s hst hbad => ?_, fun m s hst => ⟨fun hring => ?_, fun hring => ?_⟩,
    fun m s => ?_, fun m s hst => ?_, fun m i a b s hst hmore hflight hall hi ha hread hb hfree hbad => ?_,
    fun m i a b d s hst hflight hmore hall hi ha hread hb hgood hd hfill hwait hline hlocal hserved => ?_,
    fun m i a b s hst hflight hi ha hread hb hwait => exec_descriptorStart_waits hi ha hread hb hwait hflight,
    fun m d rest s hflight hitem hwaiting hdone hst => ?_, fun m s hst hflight hpending hitem => ?_,
    fun m s u hst hidle hu hpending hitem => exec_moverAbortDone_ends hst hidle hu hpending hitem, fun m s hst => ?_,
    fun m q it s u hitem hpush => ?_⟩
  · exact exec_onMover (congrArg Host.Outcome.next (State.tailWrite_taken hst hroom hmore)) rfl
  · exact exec_onMover (congrArg Host.Outcome.next (State.tailWrite_refused hst hbad)) rfl
  · exact exec_onMover (congrArg Host.Outcome.next (State.moverEnable_idle hst hring)) rfl
  · exact exec_onMover (congrArg Host.Outcome.next (State.moverEnable_invalid hst hring)) rfl
  · have hself : (s.moverDisable m).mover m = (s.mover m).disabling := State.onMover_mover_self _ _ s
    exact ⟨_, rfl, fun n hn => State.onMover_mover_other _ s hn, State.moverDisable_get _ s,
      fun hst => hself.trans (Mover.disabling_disabled hst), fun hst => by rw [hself]; exact Mover.disabling_enabled hst⟩
  · exact exec_onMover rfl (if_pos hst)
  · exact exec_onMover ((exec_descriptorStart_starts hi ha hread hb hst hmore hflight hall hfree).trans
      (congrArg Host.Outcome.next (State.startDesc_malformed _ i a hbad))) rfl
  · subst hd
    have hd := descOf_fillsLine i a hgood hfill hline
    have hstart := exec_descriptorStart_starts (m := m) (by rw [hflight]; exact hi) ha hread hb hst (by rw [hflight]; exact hmore)
      (by rw [hflight]; exact Nat.zero_lt_succ _) hall (.inl hwait)
    refine ⟨_, exec_descriptorStart_fills hstart hgood hwait rfl hd hflight hlocal hserved,
      State.filled_flight hd (State.descTaken_flight hflight), rfl, fun n hn => ?_,
      (SameBut.trans (State.onMover_get _ _ s) (State.filled_sameBut _ _ _)).mono (by simp)⟩
    rw [State.filled_mover_other _ _ hn, State.descTaken, State.onMover_mover_other _ s hn]
  · obtain ⟨e, irq, p, hself⟩ := State.completeDesc_mover_self m d d.final d.kind s
    obtain ⟨st, hidle⟩ := State.moverIdle_mover_self m (s.completeDesc m d d.final d.kind)
    rw [hself] at hidle
    refine ⟨_, exec_descriptorComplete_completes hflight hitem hwaiting hdone hst, ?_, ?_, ?_, ?_,
      fun hkind hpost => State.completeDesc_mem m d _ _ s hkind hpost, fun n hn => ?_,
      (SameBut.trans (State.completeDesc_get _ _ _ _ s) (State.moverIdle_get _ _)).mono (by simp)⟩
    · rw [hidle]; rfl
    · rw [hidle]; rfl
    · rw [hidle, ← hflight]; rfl
    · rw [hidle]; rfl
    · exact (State.onMover_mover_other _ _ hn).trans (s.completeDesc_mover_other m d _ _ hn)
  · exact exec_onMover (exec_moverAbortDone_ends hst (by rw [hflight]; rfl) (State.abortAll_none _ hpending).symm hpending hitem) rfl
  · exact exec_onMover (congrArg Host.Outcome.next (State.moverEnable_aborting hst)) rfl
  · have hself : (s.moverPost m).mover m = { s.mover m with
        item := none, itemIrq := false, irqPending := (s.mover m).irqPending || (s.mover m).itemIrq } := by
      rw [State.moverPost_taken hitem hpush, State.itemTaken_mover_self, State.hwPush_mover hpush]
    exact ⟨s.moverPost m, rfl, by rw [hself], by rw [State.moverPost_taken hitem hpush, State.itemTaken_queue], by rw [hself],
      fun n hn => s.moverPost_mover_other hn, State.moverPost_get _ s⟩

end Sys2Proof.Machine
end
